-- ==== Sys2Proof/Word.lean ====
section
/-!
DEFINITION. The word types of the part (R12: a register word is 32 bits) and the small closed sets of names
that commands and state share: the core pairs, and the initiators of a register access (R425).
-/
namespace Sys2Proof

/-- A register word (R12). -/
abbrev Word := BitVec 32

/-- A byte of memory. -/
abbrev Byte := BitVec 8

/-- The two lockstep core pairs (R35). -/
inductive Pair where
  | a
  | b
  deriving DecidableEq, Repr

/-- The initiator of a register access, in the order of the codes of `SYS.ACCINFO.INIT` (R425). -/
inductive Ini where
  | pairA
  | pairB
  | debug
  | link
  deriving DecidableEq, Repr

/-- The initiator that a pair is. -/
def Pair.ini : Pair → Ini
  | .a => .pairA
  | .b => .pairB

/-- The code of an initiator in `SYS.ACCINFO.INIT` (Table 19.3). -/
def Ini.code : Ini → Nat
  | .pairA => 0
  | .pairB => 1
  | .debug => 2
  | .link  => 3

/-- 0 for Pair A, 1 for Pair B. -/
def Pair.idx : Pair → Nat
  | .a => 0
  | .b => 1

/-- The other pair. -/
def Pair.other : Pair → Pair
  | .a => .b
  | .b => .a

/-- What an access packet does on a follower (R128, R281, R206, R180). -/
inductive AccessOp where
  /-- A word write to a register, a staged copy or MRAM. -/
  | write (addr : Nat) (data : Word)
  /-- A word read. -/
  | read (addr : Nat)
  /-- A request for activity `code` (R281). -/
  | request (code : Nat)
  /-- The release of activity `code` (R281). `how`: 0 the activity is given up, 1 the point has completed and its results
  count, 2 between two passes; `flags`: LOWEXC in bit 0, GAP of this device in bit 1 + d (R185, R190, assumption 63). -/
  | release (code how flags : Nat)
  /-- The start boundary of activity `code`, by the low 16 bits of its frame number; for an impedance
  point `arg` is point + 8·pass + 32·source (R281, assumption 13). -/
  | start (code frame arg : Nat)
  /-- The SUSPECT mask (R206). -/
  | suspect (mask : Nat)
  /-- The current phasor of a point in A, with its side-bin amplitudes (R180) and the flags of the anchor's window (R190): SAT
  of ISH1 8, UNSYNC 4, GAP 1. -/
  | phasor (re im lo hi : Rat) (flags : Nat)
  /-- The lead has enumerated or readmitted the device: `ENUM` is set at the next boundary (R136, R142, assumption 109). -/
  | member
  deriving DecidableEq, Repr

/-- What an access reply brings to the lead (R128, R180). -/
inductive ReplyOp where
  /-- The answer to an access. -/
  | data (addr : Nat) (value : Word)
  /-- The anchor's current phasor in A, with its side-bin amplitudes (R180) and the flags of its window (R190). -/
  | phasor (re im lo hi : Rat) (flags : Nat)
  /-- Impedance results of the follower's cells: channel index, real and imaginary part in Ω, confidence, flags. -/
  | results (zs : List (Nat × Rat × Rat × Nat × Nat))
  deriving DecidableEq, Repr

end Sys2Proof
end

