-- ==== Sys2Proof/Syntax.lean ====
section
/-!
DEFINITION. The commands the block takes: one constructor per row of the table of operations and events. Operands are
what the command brings from outside the device: the initiator and word of an access, analogue results, the content of
a packet, or the index of the unit that the event names. An operand with a default value is one that a sender may leave to
the row's own words: a level past its threshold, or a packet for every device.
-/
namespace Sys2Proof

/-- A sample set as it crosses the barrier (R25, R29, R128). -/
structure SampleSet where
  /-- Instant of the set, in ticks after the frame boundary. -/
  instant : Nat
  seq : BitVec 8
  /-- The 16-bit CRC checks. -/
  crcOk : Bool
  /-- Filter results of the 48 channels in µV, mode in force. -/
  cells : List Int
  /-- Fine filter results of the 48 channels in µV, at a Fine instant. -/
  fine : List Int
  /-- Shunt results in units of 20 nV. -/
  ish1 : Int
  ish2 : Int
  /-- Divider results HVD1 to HVD4 in units of 200 nV. -/
  hvd : List Int
  /-- ISO_CH divider result in units of 200 nV. -/
  chassis : Int
  /-- Segment converter in mV, and reference difference in ppm. -/
  segv : Int
  refdiff : Int
  deriving DecidableEq, Repr

/-- A set packet of a follower (R128). -/
structure SetPacket where
  dev : Nat
  /-- Low 16 bits of the frame number, and set index within the frame. -/
  frame : Nat
  idx : Nat
  unsync : Bool
  /-- The packet passes its CRC. -/
  crcOk : Bool
  /-- 48 codes in µV and 48 flag nibbles: SAT 8, BAL 4, OWT 2, UNPOP 1. -/
  codes : List Int
  flags : List Nat
  /-- Anchor fields: ISH1, ISH2, HVD1 to HVD4, and IHALL. -/
  ish1 : Int
  ish2 : Int
  hvd : List Int
  ihall : Nat
  deriving DecidableEq, Repr

/-- A frame record of a follower (R128). -/
structure FrameRecord where
  dev : Nat
  frame : Nat
  crcOk : Bool
  anchor : Bool
  setid : Nat
  digest : Nat
  /-- The record follows a commit made on the follower alone (R143). -/
  localCommit : Bool
  /-- Readings of the 24 inputs in 0.1 °C with their class code, and the die stage. -/
  temps : List (Int × Nat)
  stage : Nat
  /-- Die sensors DIE0 to DIE7 in 0.1 °C. -/
  dies : List Int
  /-- `IPK.STAT` HALLRANGE and HALLDIS of an anchor (R111). -/
  hallRange : Bool
  hallDis : Bool
  /-- Frame means AVG1, AVG2, AVGH in mA, of VOLT1 to VOLT4 and CHASSIS in mV: those of the anchor are used (R101). -/
  avg1 : Int
  avg2 : Int
  avgH : Int
  volts : List Int
  chassis : Int
  /-- Quiet codes in µV when a quiet set was taken. -/
  quiet : List Int
  /-- Follower drives TRIP, its charge-forbidden state, its activity grants by code bit (bit 10: as anchor it has submitted
  an isolation request since its last record), a safety reaction is latched. -/
  trip : Bool
  chgforb : Bool
  grants : Nat
  reaction : Bool
  /-- ONT of the 48 channels in 10 µs, and RBAL in 0.1 Ω (R287). -/
  ont : List Nat
  rbal : Nat
  /-- The follower was in a VBAT pause in this frame (R395). -/
  paused : Bool
  /-- Readmission: the follower has answered the readmission token and is locked (R142). -/
  readmit : Bool
  deriving DecidableEq, Repr

/-- A CAN frame on a bus (R337, R341); `rtr`: a remote frame. -/
structure BusFrame where
  rtr : Bool
  xtd : Bool
  id : Nat
  fdf : Bool
  brs : Bool
  esi : Bool
  dlc : Nat
  data : List Nat
  deriving DecidableEq, Repr

/-- A command of the block: one constructor per row of the table. -/
inductive Instr where
  /-- REGISTER_WRITE (R20): A write to a register field that has no row of its own takes effect according to its access code. -/
  | registerWrite (ini : Ini) (addr : Nat) (val : Word)
  /-- NARROW_OR_UNALIGNED_ACCESS (R22): A narrower or unaligned register access has no effect, reads zero and raises ACCESS_FAULT. -/
  | narrowOrUnalignedAccess (ini : Ini) (write : Bool) (addr : Nat)
  /-- FRAME_BOUNDARY (R43): At each frame boundary tick the engine applies an armed commit, selects the schedule for the new frame and releases the slot-0 entries. -/
  | frameBoundary (die : List Int)
  /-- SLOT_RELEASE (R44): At the start of a slot the engine releases that slot's entries of the schedule in force. -/
  | slotRelease (slot : Nat)
  /-- PROFILE_REQUEST_WRITE (R38): A write of SYS.PROFREQ.REQ on the lead requests a profile for the next frame boundary; followers ignore it. -/
  | profileRequestWrite (ini : Ini) (req : Nat)
  /-- SAMPLE_INSTANT (R29): At each sample instant every converter of the cascade takes its sample and the balancing pattern written earlier is applied. -/
  | sampleInstant (offset : Nat) (hall : Nat) (driveUA : Nat) (driveMV : Nat)
  /-- SAMPLE_SET_ARRIVAL (R26): A sample set arrives across the barrier, is checked for sequence and CRC and is delivered to the window monitors and frame buffer. -/
  | sampleSetArrival (set : SampleSet)
  /-- SAMPLE_SET_MISSING (R26): A set counts as missing 2,000 ticks after its instant, and a second consecutive loss raises BARRIER_FAULT. -/
  | sampleSetMissing (instant : Nat)
  /-- TRANSFORMER_SUPPLY_FAILURE (R26): A failure of the transformer supply to the measurement die raises BARRIER_FAULT within 1,000 ticks. -/
  | transformerSupplyFailure
  /-- SW_TRIP (R224): A write of SAF.CTRL.SWTRIP by Pair A latches source 13. -/
  | swTrip (ini : Ini)
  /-- REACTION_CLEAR (R228): A write to SAF.RCLR by Pair A clears each latched source whose cause is absent in both copies, or is refused. -/
  | reactionClear (ini : Ini) (mask : Word)
  /-- SAF_SELFTEST_START (R237): At F + 5,000 one monitor copy is switched to test vectors while the other evaluates real samples. -/
  | safSelftestStart
  /-- SAF_SELFTEST_END (R237): At F + 8,000 the copy test ends and a failure raises SAF_SELFTEST. -/
  | safSelftestEnd (passed : Bool)
  /-- IMAGE_LOAD (R52): A write of TT.LOAD with GO = 1 starts copying and verifying an image into the inactive buffer. -/
  | imageLoad (ini : Ini) (buf : Bool) (go : Bool)
  /-- IMAGE_LOAD_DONE (R52): The image load ends with the buffer valid or refused with a reason code. -/
  | imageLoadDone
  /-- TASK_DONE (R54): A pair writes the entry index to TT.DONEA or TT.DONEB to complete a task. -/
  | taskDone (ini : Ini) (pair : Pair) (entry : Nat)
  /-- KILL_ACK (R54): A pair writes the entry index with KILLACK = 1 to acknowledge an overrun kill. -/
  | killAck (ini : Ini) (pair : Pair) (entry : Nat)
  /-- TASK_OVERRUN (R54): A task's budget elapses before completion, raising TT_OVERRUN and the pair's kill trap. -/
  | taskOverrun (entry : Nat)
  /-- KILL_ACK_TIMEOUT (R55): A kill not acknowledged within 1,000 ticks escalates to a pair restart. -/
  | killAckTimeout (entry : Nat)
  /-- ACCELERATOR_OVERRUN (R56): An accelerator window ends before completion; the run is stopped, its results discarded and stale data republished. -/
  | acceleratorOverrun (entry : Nat)
  /-- STAGED_WRITE (R59): A write to a staged copy moves the page to EDITED and cancels an armed commit that masks it. -/
  | stagedWrite (ini : Ini) (addr : Nat) (val : Word)
  /-- STG_ARM (R61): A write of STG.CMD with ARM = 1 arms a commit over the masked pages at a target point and starts the consistency check. -/
  | stgArm (ini : Ini) (point : Nat) (cascade : Bool)
  /-- STG_DISARM (R61): A write of STG.CMD with DISARM = 1 cancels a pending commit and raises STG_DISARMED. -/
  | stgDisarm (ini : Ini)
  /-- CONSISTENCY_CHECK_DONE (R62): The staging check finishes and passes or rejects the commit with the first failing check. -/
  | consistencyCheckDone
  /-- COMMIT_POINT_REACHED (R61): The slot of a named commit point begins and an armed, checked commit targeting it applies. -/
  | commitPointReached (point : Nat)
  /-- CASCADE_ARM_RECEIVED (R64): A follower receives a cascade arm, checks its staged state and reports pass or fail with its digest. -/
  | cascadeArmReceived (mask : Nat) (fast : Bool) (setid : Nat)
  /-- CHECK_REPORT_RECEIVED (R64): The lead receives a follower's check report for a pending cascade commit. -/
  | checkReportReceived (dev : Nat) (fail : Word) (digest : Nat)
  /-- CASCADE_REPORT_DEADLINE (R64): At B − 100,000 the lead sets the commit flag if all reports passed, or slips the commit. -/
  | cascadeReportDeadline
  /-- CASCADE_DISARM_RECEIVED (R64): A follower receives a disarm packet and returns its masked pages to EDITED. -/
  | cascadeDisarmReceived
  /-- CASCADE_ARM_TIMEOUT (R64): A follower neither committed nor disarmed within eight boundaries discards its armed state. -/
  | cascadeArmTimeout
  /-- PAIR_READY (R331): A pair writes CPx.READY to end a restart or confirm a new bank, releasing the pin and writing the boot record. -/
  | pairReady (ini : Ini) (pair : Pair)
  /-- TRAPEZE_READY_TIMEOUT (R66): READY is not written in time after a bank change; the old bank is restored and TRAPEZE_ABORT raised. -/
  | trapezeReadyTimeout (pair : Pair)
  /-- OPEN_WIRE_REQUEST (R87): A write of CELL.CTRL.OWREQ submits an open-wire test request to the exclusion matrix. -/
  | openWireRequest (ini : Ini)
  /-- OPEN_WIRE_START (R87): At T_S the open-wire test takes its reference sample and starts the even injection pass. -/
  | openWireStart
  /-- OPEN_WIRE_PHASE (R87): At each 100,000-tick phase boundary of the test the injection switches between passes and recovery. -/
  | openWirePhase
  /-- OPEN_WIRE_END (R88): At T_S + 400,000 the test releases its grant and submits a new open-wire request. -/
  | openWireEnd
  /-- OPEN_WIRE_RESULT (R88): At T_S + 401,500 the open taps are written and CELL_OW_DONE, CELL_OPENWIRE or CELL_OW_INCOMPLETE raised. -/
  | openWireResult
  /-- QUIET_PAUSE_START (R93): At T − 10,000 before a quiet instant all balancing switches of the device open. -/
  | quietPauseStart
  /-- QUIET_INSTANT (R93): At a quiet instant the Quiet result is taken, switches restored and QDATA delivered, or the instant is skipped. -/
  | quietInstant (codes : List Int)
  /-- OC_COMPARATOR_CROSSING (R108): The shunt voltage reaches an overcurrent comparator threshold or falls below 90 % of it. -/
  | ocComparatorCrossing (discharge : Bool) (copyY : Bool) (microvolt : Int)
  /-- OC_GLITCH_FILTER_EXPIRY (R108): A trip or release that persisted 200 ticks is passed to the window monitors. -/
  | ocGlitchFilterExpiry (discharge : Bool) (copyY : Bool)
  /-- OC_SELFTEST_START (R109): At F + 2,000 the anchor applies a test voltage to one comparator copy per direction. -/
  | ocSelftestStart
  /-- OC_SELFTEST_END (R109): At F + 2,500 a tested copy that did not trip raises IPK_OC_SELFTEST. -/
  | ocSelftestEnd (trippedChg : Bool) (trippedDis : Bool)
  /-- ISOLATION_REQUEST (R114): A write of HVM.CTRL.ISOREQ on the anchor submits an isolation request. -/
  | isolationRequest (ini : Ini)
  /-- ISOLATION_RUN_START (R116): At boundary G the anchor takes a_0 and turns ISO_A on. -/
  | isolationRunStart
  /-- ISOLATION_STATE_TIMEOUT (R116): A state that has not settled by its 240th frame ends there with UNSETTLED set. -/
  | isolationStateTimeout
  /-- ISO_B_ENGAGE (R116): 10,000 ticks after ISO_A opens, ISO_B is turned on. -/
  | isoBEngage
  /-- ISOLATION_RESULT (R117): At E_B + 2,000,000 the anchor computes R_P and R_N, checks consistency and raises HVM_ISO_DONE and any warning. -/
  | isolationResult
  /-- LANE0_TRANSMIT (R129): A follower starts sending a queued set or frame record once an XFER window is open. -/
  | lane0Transmit
  /-- SET_PACKET_RECEIVED (R129): The lead receives a follower's sample set into its frame buffer. -/
  | setPacketReceived (p : SetPacket)
  /-- FRAME_RECORD_RECEIVED (R128): The lead receives a follower's frame record with header, readings and status summary. -/
  | frameRecordReceived (r : FrameRecord)
  /-- HEARTBEAT_RECEIVED (R376): A follower receives the lead's heartbeat, aligns its TICK and takes the combined charge-forbidden state. -/
  | heartbeatReceived (crcOk : Bool) (leadTick : Nat) (chgforb : Bool)
  /-- ACCESS_PACKET_RECEIVED (R424): A follower receives an access packet and performs the register, MRAM or staged access it carries. -/
  | accessPacketReceived (crcOk : Bool) (op : AccessOp) (dst : Nat := 8)
  /-- ACCESS_REPLY_RECEIVED (R128): The lead receives an access reply from a follower. -/
  | accessReplyReceived (dev : Nat) (crcOk : Bool) (op : ReplyOp)
  /-- XFER_COMPLETION_WINDOW_END (R131): At the end of the completion window the lead marks missing sets absent and buffers incomplete. -/
  | xferCompletionWindowEnd
  /-- FRAME_MARKER_SEND (R132): The lead sends the 32-bit frame marker in [B − 1,000, B − 680). -/
  | frameMarkerSend
  /-- FRAME_MARKER_RECEIVED (R132): A device receives and validates a frame marker for the coming boundary. -/
  | frameMarkerReceived (word : Word)
  /-- SYNC_EDGE (R133): A follower receives the rising edge after a valid marker and realigns its frame. -/
  | syncEdge (offset : Int)
  /-- MISSED_FRAME (R133): No valid marker or edge arrives in time, so the follower starts the frame on its own timebase and discards an armed cascade commit. -/
  | missedFrame
  /-- SYNC_WAKE_PATTERN (R135): A sleeping follower detects the SYNC wake pattern and leaves Sleep. -/
  | syncWakePattern
  /-- ENUMERATION_START (R136): Once every hop has been locked for 1 ms the lead sends the first enumeration token. -/
  | enumerationStart
  /-- ENUM_TOKEN_RECEIVED (R136): A follower takes its number from the token and forwards it, or the lead receives the returning token. -/
  | enumTokenReceived (reverse : Bool) (count : Nat) (crcOk : Bool)
  /-- ENUM_TOKEN_TIMEOUT (R138): A token that does not return within 100,000 ticks raises CSC_RING_OPEN. -/
  | enumTokenTimeout
  /-- ENUM_RETRY (R138): A new enumeration attempt starts every 100 ms over an open ring. -/
  | enumRetry
  /-- SINGLE_DEVICE_ENUM_TIMEOUT (R137): With NDEV = 1 and no port lock after 100,000 ticks, the lead enumerates as a cascade of one at the next boundary. -/
  | singleDeviceEnumTimeout
  /-- ENUM_REQUEST (R136): A write of CSC.CTRL.ENUMREQ on the lead re-enumerates unless a contactor role is closed. -/
  | enumRequest (ini : Ini)
  /-- NO_LEAD_TIMEOUT (R138): A follower sees no marker for LTMO frames after boot, raises CSC_NO_LEAD and pulls TRIP. -/
  | noLeadTimeout
  /-- FOREIGN_SYNC_DETECTED (R138): A lead sees a SYNC edge or token it did not send, raises CSC_MULTI_LEAD, stops SYNC and pulls TRIP. -/
  | foreignSyncDetected
  /-- HOP_LOCK_LOST (R139): A hop's receivers see no valid symbol for 2,000 ticks and the ring reroutes around the gap. -/
  | hopLockLost (hop : Nat)
  /-- HOP_LOCK_GAINED (R457): A hop's receiver locks after its first valid symbol. -/
  | hopLockGained (hop : Nat)
  /-- RING_GAP_CLOSED (R140): A gap's hops have been locked for 100 frames, so the ring direction returns at the next boundary. -/
  | ringGapClosed
  /-- FOLLOWER_LOST (R141): No complete frame record from a follower in FLOST frames marks it lost. -/
  | followerLost (dev : Nat)
  /-- FOLLOWER_LOSS_TRIP (R141): A follower still lost FTRIP frames after declaration makes the lead pull TRIP. -/
  | followerLossTrip (dev : Nat)
  /-- LEAD_LOST (R144): A follower receives neither marker nor heartbeat for LTMO expected frames and raises CSC_LEAD_LOST. -/
  | leadLost
  /-- LEAD_LOSS_TRIP (R144): 1,000 ticks after the predicted boundary of the LTMO-th missed frame the follower pulls TRIP. -/
  | leadLossTrip
  /-- TRIP_RECOGNISED (R145): TRIP is recognised low after its glitch filter, setting TRIPIN and the cause of source 10. -/
  | tripRecognised
  /-- TRIP_READBACK_CHECK (R146): A device whose TRIP line reads released 200 ticks after it began driving raises CSC_TRIP_FAULT. -/
  | tripReadbackCheck (released : Bool)
  /-- TRIP_RELEASED (R229): The TRIP line rises once no device drives it, so the cause of source 10 becomes absent. -/
  | tripReleased
  /-- ESTIMATOR_RUN_DONE (R149): An estimator run on frame n completes and its results and limits are published. -/
  | estimatorRunDone
  /-- TABLE_DATA_WRITE (R156): A write of EST.TBLDATA writes the inactive bank word and advances the index, cancelling a commit that masks page 12. -/
  | tableDataWrite (ini : Ini) (val : Word)
  /-- EST_CAPRST (R173): EST.CTRL.CAPRST sets every cell to QNOM and ρ = 1 with CAPSUS at the next run. -/
  | estCaprst (ini : Ini)
  /-- EST_REINIT (R173): EST.CTRL.REINIT performs a cold start at the next run keeping Q and ρ. -/
  | estReinit (ini : Ini)
  /-- EST_JWRITE (R171): EST.CTRL.JWRITE requests a journal write. -/
  | estJwrite (ini : Ini)
  /-- EST_RESYNC (R159): EST.CTRL.RESYNC makes s_rep take s_int without limit at the next run. -/
  | estResync (ini : Ini)
  /-- JOURNAL_PERIOD (R171): Every PERIOD seconds of Run the estimator journal is written. -/
  | journalPeriod
  /-- JOURNAL_WRITE_START (R172): A pending journal write starts once the hold-up monitor reports at least 1.2 mJ, writing the intent word then the record. -/
  | journalWriteStart
  /-- JOURNAL_WRITE_DONE (R172): The journal record and CRC are written and read back, the intent word cleared and the slot made active. -/
  | journalWriteDone
  /-- EST_CELL_SELECT (R175): A write of EST.CSEL latches the selected cell's registers from the last run. -/
  | estCellSelect (ini : Ini) (cell : Nat)
  /-- EIS_SWEEP_REQUEST (R178): A write of EIS.CTRL.SWREQ on the lead starts an impedance sweep. -/
  | eisSweepRequest (ini : Ini)
  /-- EIS_ABORT (R194): A write of EIS.CTRL.ABORT ends the point as incomplete and ends the sweep. -/
  | eisAbort (ini : Ini)
  /-- EIS_TCAL (R191): A write of EIS.CTRL.TCAL makes the next confident result set impedance references. -/
  | eisTcal (ini : Ini)
  /-- EIS_RESULT_SELECT (R196): A write of EIS.RSEL latches the selected result registers. -/
  | eisResultSelect (ini : Ini) (point : Nat) (cell : Nat)
  /-- EIS_WINDOW_END (R180): A point's window ends at E and the anchor sends its current phasor. -/
  | eisWindowEnd
  /-- EIS_PROCESSING_DONE (R180): An EIS entry forms Z = V / I for the device's own cells. -/
  | eisProcessingDone
  /-- EIS_RESULT_DEADLINE (R180): At E + 2,000,000 the lead holds all results and raises EIS_POINT_DONE, or ends the point incomplete. -/
  | eisResultDeadline
  /-- EXCITATION_STOP_TIMEOUT (R184): The charger has not cleared ACTIVE STOPTMO frames after STOP, raising EIS_EXC_FAULT. -/
  | excitationStopTimeout
  /-- THERMISTOR_SAMPLE (R199): At a boundary a thermistor result is taken, classed and compared against its temperature thresholds. -/
  | thermistorSample (input : Nat) (code : Nat)
  /-- THERMAL_MODEL_RUN_DONE (R208): The cell thermal model run completes, followed by cross-checks, the neighbour check and the coolant demand. -/
  | thermalModelRunDone
  /-- NEIGHBOUR_MAP_WRITE (R207): A write of THM.NMAPDATA writes the inactive neighbour-map bank and advances the index. -/
  | neighbourMapWrite (ini : Ini) (val : Word)
  /-- THM_CELL_SELECT (R213): A write of THM.CSEL latches the selected cell's model registers. -/
  | thmCellSelect (ini : Ini) (cell : Nat)
  /-- DIE_STAGE3_HARD_STOP (R211): 100 ms after stage 3, or at 175 °C, the device stops hard. -/
  | dieStage3HardStop
  /-- THERMAL_RESTART (R212): After a hard stop the comparator sees the die below 125 °C and the device starts as after power-on. -/
  | thermalRestart
  /-- DRIVE_CLOSE (R245): CTS.CTRL command drive close starts the drive-path sequence or is refused. -/
  | driveClose (ini : Ini)
  /-- DRIVE_OPEN (R245): CTS.CTRL command drive open ramps and opens the drive path. -/
  | driveOpen (ini : Ini)
  /-- CHARGE_CLOSE (R251): CTS.CTRL command charge close starts the charge-path sequence or is refused. -/
  | chargeClose (ini : Ini)
  /-- CHARGE_OPEN (R251): CTS.CTRL command charge open opens the charge path. -/
  | chargeOpen (ini : Ini)
  /-- AUX_ON (R242): CTS.CTRL command AUX on switches the AUX channel on or is refused. -/
  | auxOn (ini : Ini)
  /-- AUX_OFF (R242): CTS.CTRL command AUX off switches the AUX channel off. -/
  | auxOff (ini : Ini)
  /-- FAULT_CLEAR (R247): CTS.CTRL.FLTCLR clears the lockout and the failure count. -/
  | faultClear (ini : Ini)
  /-- CTS_GRANT_TIMEOUT (R245): A weld check not granted within 6 s returns the path to OPEN. -/
  | ctsGrantTimeout
  /-- PROBE_TIMER_END (R248): After TPROBE the MN and PC contact checks run and the path goes to NEGCLOSE or fails. -/
  | probeTimerEnd
  /-- CLOSE_TIMER_END (R245): After TCLOSE in NEGCLOSE, MAINCLOSE, CNCLOSE or CPCLOSE the state's checks decide the next state. -/
  | closeTimerEnd
  /-- GAP_TIMER_END (R249): After TGAP the negative-side roles open and the path enters OPEN. -/
  | gapTimerEnd
  /-- RAMP_TIMER_END (R245): TRAMP elapses in RAMP and the path goes to POSOPEN or CPOPEN. -/
  | rampTimerEnd
  /-- MATCH_TIMER_END (R251): TMATCH elapses in MATCH and the charge path goes to CPOPEN with CTS_MATCH_FAULT. -/
  | matchTimerEnd
  /-- COOLDOWN_END (R247): TCOOL elapses after a pre-charge failure and drive close is no longer refused for cool-down. -/
  | cooldownEnd
  /-- CTS_SAMPLE (R243): The sequencer acts on a 1 ms HVD and ISH1 sample: pre-charge tests, ramp current and match checks. -/
  | ctsSample (v1 v2 v3 v4 : Int) (ish1 : Int) (offset : Nat)
  /-- CTS_SAMPLE_MISSING (R243): A sample not arrived by 50,000 ticks is missing; two in a row end a closing sequence. -/
  | ctsSampleMissing
  /-- CMD_SET (R257): A write of OUT.CMDSET turns channels on or is refused. -/
  | cmdSet (ini : Ini) (mask : Word)
  /-- CMD_CLEAR (R257): A write of OUT.CMDCLR turns channels off. -/
  | cmdClear (ini : Ini) (mask : Word)
  /-- RAMP_COMPLETE (R258): A turning-on channel's output completes its ramp. -/
  | rampComplete (ch : Fin 16)
  /-- INRUSH_EXPIRY (R258): The inrush budget expires before ramp completion and the channel turns off. -/
  | inrushExpiry (ch : Fin 16)
  /-- CHANNEL_SHORT (R261): A channel's current reaches its limit and it stops conducting within 1,000 ticks. -/
  | channelShort (ch : Fin 16)
  /-- JUNCTION_OVERTEMP (R261): A channel's junction reaches 185 °C and it turns off. -/
  | junctionOvertemp (ch : Fin 16)
  /-- CLAMP_CONDUCTED (R263): The internal clamp conducts at a turn-off and OUT_CLAMP is raised. -/
  | clampConducted (ch : Fin 16)
  /-- CHANNEL_CURRENT_READING (R260): Every 100 µs the channel currents are read and open-load evaluated. -/
  | channelCurrentReading (mA : List Nat) (hot : Nat) (clusters : List Int)
  /-- CRANK_DIAG_RESUME (R264): 1 ms after VBAT returns to 4.5 V, open-load checks and test pulses resume. -/
  | crankDiagResume
  /-- CLUSTER_OVERTEMP (R265): A cluster reaches 175 °C and starts shedding. -/
  | clusterOvertemp (c : Fin 4)
  /-- CLUSTER_SHED_STEP (R265): Every 1 ms the next on channel of a hot cluster is shed. -/
  | clusterShedStep (c : Fin 4) (hot : Bool := true)
  /-- CLUSTER_COOLED (R265): A cluster falls below 160 °C and OUT_SHED_CLEAR is raised. -/
  | clusterCooled (c : Fin 4)
  /-- TEST_PULSE_START (R266): At TSLOT a dark or bright pulse starts on the next enabled channel. -/
  | testPulseStart
  /-- TEST_PULSE_END (R266): A test pulse ends and its result is judged. -/
  | testPulseEnd (mA : Nat) (reached : Bool)
  /-- LH_INPUT_CHANGE (R272): A filtered LHx level changes and assigned channels follow under Safety Net. -/
  | lhInputChange (inp : Fin 4) (high : Bool)
  /-- HOST_REQUEST_WRITE (R269): A write of LHM.HREQ.REQ sets or clears the Safety Net host request. -/
  | hostRequestWrite (ini : Ini) (req : Bool)
  /-- SAFETY_NET_RELEASE (R273): LHM.CTRL.RELEASE by Pair A returns control to the commands or is refused. -/
  | safetyNetRelease (ini : Ini)
  /-- LHM_LOCK (R270): A write of 1 to LHM.LOCK makes the assignment registers the assignment or is refused. -/
  | lhmLock (ini : Ini)
  /-- BALANCING_PATTERN_WRITE (R284): A write of BAL.PATL or PATH sets the requested pattern, applied at the next Fine instant. -/
  | balancingPatternWrite (ini : Ini) (upper : Bool) (val : Word)
  /-- BALANCING_STOP (R286): BAL.CTRL.STOP opens all switches and clears the pattern. -/
  | balancingStop (ini : Ini)
  /-- BAL_HALF_PERIOD (R434): At mid-Fine-period adjacent balancing switches hand over from odd to even channels. -/
  | balHalfPeriod
  /-- BAL_CMD_TIMEOUT (R283): The measurement die opens every switch after 1 ms without a valid command. -/
  | balCmdTimeout
  /-- PUMP_START (R298): PMP.CTRL start arms the drive. -/
  | pumpStart (ini : Ini)
  /-- PUMP_STOP (R298): PMP.CTRL stop disarms the drive and starts a commanded stop. -/
  | pumpStop (ini : Ini)
  /-- PUMP_SETPOINT_WRITE (R298): A write of PMP.SETP.DEMAND sets the target speed while AUTO is 0. -/
  | pumpSetpointWrite (ini : Ini) (demand : Nat)
  /-- PUMP_CURRENT_LOOP (R294): At each 20 kHz instant the current loop, observer, field weakening and loss detection run. -/
  | pumpCurrentLoop (vbatMV : Nat) (rpm : Int) (angleErrDeg : Nat) (emfUV : Nat) (locked : Bool) (idq : Int × Int)
  /-- PUMP_SHUNT_OVERCURRENT (R297): The PSH comparator cuts the high sides for the period; 20 periods in a row raise PMP_OVERCURRENT. -/
  | pumpShuntOvercurrent (shuntUV : Nat := 4294967295)
  /-- LISTEN_END (R301): After 20 ms of LISTEN the catch-spin decision is made. -/
  | listenEnd (rpm : Int)
  /-- PHASE_NODE_OVERVOLTAGE (R301): A phase node above VBAT + 0.3 V in LISTEN sends the drive to ZERO. -/
  | phaseNodeOvervoltage (phMV : Nat := 65535) (vbatMV : Nat := 0)
  /-- BRAKE_TIMEOUT (R301): BRAKE reaches 500 ms and goes to ALIGN or WAIT. -/
  | brakeTimeout (rpm : Int)
  /-- ALIGN_END (R300): After ALIGNT the drive goes to OPENLOOP. -/
  | alignEnd
  /-- ZERO_VECTOR_END (R302): After ZVTIME the drive re-enters LISTEN. -/
  | zeroVectorEnd
  /-- RETRY_DELAY_END (R304): After RETRYDLY in WAIT the drive starts another attempt or gives up. -/
  | retryDelayEnd
  /-- RUN_ATTEMPT_RESET (R304): After 60 s in RUN the attempt count returns to zero. -/
  | runAttemptReset
  /-- GATE_SUPPLY_FAULT (R303): The gate supply falls below its limit and the bridge is shorted or opened. -/
  | gateSupplyFault (vgdMV : Nat) (bootMV : Nat := 0)
  /-- GATE_SUPPLY_RECOVERY (R303): 100 ms after VGD returns the drive re-enters LISTEN. -/
  | gateSupplyRecovery
  /-- PAIR_MISMATCH (R311): A comparator reports a pair mismatch and the pair restart begins. -/
  | pairMismatch (pair : Pair) (addr : Nat)
  /-- COMPARE_UNIT_FAULT (R311): Comparator copies disagree or a delay-stage parity fails, treated as a mismatch. -/
  | compareUnitFault (pair : Pair) (parity : Bool) (addr : Nat := 0)
  /-- COMPARATOR_FRAME_TEST (R312): In [F + 14,000, F + 14,200) forced mismatches and parity errors test the comparator. -/
  | comparatorFrameTest (pair : Pair) (c1 : Bool) (c2 : Bool) (parity : Bool)
  /-- CHECKPOINT_COMPLETE (R313): The checkpoint copy of both pairs finishes. -/
  | checkpointComplete (archA : List Byte) (archB : List Byte)
  /-- PAIR_HALT_END (R313): At F + 15,000 the pairs resume and take pending events. -/
  | pairHaltEnd
  /-- PAIR_RESTART_REQUEST (R314): A pair's write of CPx.CTRL.RESTART restarts it with CAUSE 4. -/
  | pairRestartRequest (ini : Ini) (pair : Pair)
  /-- RESTORE_COMPLETE (R314): The checkpoint restore finishes and the pair takes its restart trap. -/
  | restoreComplete (pair : Pair)
  /-- RESTART_TIMEOUT (R314): A restart ends 200,000 ticks after its trigger without READY. -/
  | restartTimeout (pair : Pair)
  /-- DEBUG_HALT (R318): CPx.DBGCTL HALT halts both cores of a pair or is refused. -/
  | debugHalt (ini : Ini) (pair : Pair)
  /-- DEBUG_RESUME (R317): CPx.DBGCTL RESUME resumes a debug-halted pair. -/
  | debugResume (ini : Ini) (pair : Pair)
  /-- DEBUG_STEP (R317): CPx.DBGCTL STEP executes one instruction on both cores. -/
  | debugStep (ini : Ini) (pair : Pair)
  /-- MEMORY_ACCESS_FAULT (R319): A pair access outside the map or not permitted raises an access-fault exception on both cores. -/
  | memoryAccessFault (pair : Pair) (write : Bool) (addr : Nat)
  /-- ECC_ERROR (R323): A memory access finds a corrected or uncorrectable ECC error. -/
  | eccError (pair : Pair) (mram : Bool) (corrected : Bool) (addr : Nat)
  /-- PROGRAM_REGION_WRITE (R320): A write to a program region succeeds only if inactive and enabled, and marks it not verified. -/
  | programRegionWrite (ini : Ini) (addr : Nat) (val : Word)
  /-- DATA_MRAM_STORE (R321): A pair store to data MRAM waits for the write port, stalling behind a freeze or journal write. -/
  | dataMramStore (pair : Pair) (addr : Nat) (val : Word)
  /-- REGION_VERIFY (R329): A write of NVM.CTRL.VERIFY starts verifying the region in VSEL. -/
  | regionVerify (ini : Ini)
  /-- REGION_VERIFY_DONE (R327): Verification ends and REGSTAT and REGSVN record the result. -/
  | regionVerifyDone
  /-- SVNMIN_WRITE (R329): A write of NVM.SVN.MIN raises SVNMIN or is ignored or refused. -/
  | svnminWrite (ini : Ini) (min : Nat)
  /-- KEY_REVOKE (R329): A write of NVM.KEYREV revokes a key slot or is refused. -/
  | keyRevoke (ini : Ini) (mask : Nat)
  /-- DBGLOCK_SET (R326): A write of 1 to NVM.SECCFG.DBGLOCK sets it permanently. -/
  | dbglockSet (ini : Ini)
  /-- OTP_KEY_WRITE (R326): A write of NVM.OTPDATA programs a key word while its slot is blank. -/
  | otpKeyWrite (ini : Ini) (val : Word)
  /-- CAN_INIT_WRITE (R348): A write of CANx.CTRL.INIT takes the controller off or onto the bus and re-evaluates Ticket connections. -/
  | canInitWrite (ini : Ini) (ch : Fin 4) (init : Bool)
  /-- CAN_LOM_WRITE (R337): A write of CANx.CTRL.LOM enters or leaves listen-only mode. -/
  | canLomWrite (ini : Ini) (ch : Fin 4) (lom : Bool)
  /-- CAN_ABD_START (R340): CANx.CTRL.ABD starts automatic bit-rate detection. -/
  | canAbdStart (ini : Ini) (ch : Fin 4)
  /-- CAN_ABD_DONE (R340): Detection confirms rates and raises CANx_SERVICE with SVC 3. -/
  | canAbdDone (ch : Fin 4) (nrate : Nat) (drate : Nat)
  /-- CAN_ABD_TIMEOUT (R340): No nominal rate is confirmed within ABDTMO, ending with SVC 4. -/
  | canAbdTimeout (ch : Fin 4)
  /-- OBJECT_REQ (R344): OBJCMD.REQ requests transmission of a send object and seals its Ticket where bound. -/
  | objectReq (ini : Ini) (ch : Fin 4)
  /-- OBJECT_CANCEL (R344): OBJCMD.CANCEL withdraws a request not yet in arbitration. -/
  | objectCancel (ini : Ini) (ch : Fin 4)
  /-- OBJECT_ACK (R342): OBJCMD.ACK clears NEW of a receive object. -/
  | objectAck (ini : Ini) (ch : Fin 4)
  /-- OBJECT_WORD0_WRITE (R354): A write of object word 0 in INIT reconfigures the object and re-evaluates Ticket connections. -/
  | objectWord0Write (ini : Ini) (ch : Fin 4) (val : Word)
  /-- FIFO_PUSH (R347): CAN4 CTRL.FIFOPUSH pushes a frame into the FIFO or is refused when full. -/
  | fifoPush (ini : Ini)
  /-- FIFO_CLEAR (R347): CAN4 CTRL.FIFOCLR empties the FIFO except a frame in arbitration. -/
  | fifoClear (ini : Ini)
  /-- CAN_FRAME_RECEIVED (R342): A received frame becomes valid, is filtered and stored into its receive object. -/
  | canFrameReceived (ch : Fin 4) (f : BusFrame)
  /-- CAN_START_OF_FRAME (R344): Before a start of frame the controller picks the highest-ranked candidate and starts sending. -/
  | canStartOfFrame (ch : Fin 4)
  /-- CAN_TX_SUCCESS (R344): A transmission succeeds, setting DONE and STAMP. -/
  | canTxSuccess (ch : Fin 4) (tdcv : Nat)
  /-- CAN_TX_ATTEMPT_FAILED (R346): An attempt loses arbitration or ends in error, and the frame is abandoned when retries are spent. -/
  | canTxAttemptFailed (ch : Fin 4) (arbitration : Bool)
  /-- CANTX_WINDOW_END (R345): A CANTX window ends and a scheduled frame not in arbitration is withdrawn. -/
  | cantxWindowEnd (ch : Fin 4) (obj : Nat)
  /-- CAN_ERROR_STATE_CHANGE (R348): Error counters take the controller into or out of error passive or bus-off. -/
  | canErrorStateChange (ch : Fin 4) (tec : Nat) (rec : Nat)
  /-- BUS_OFF_RECOVERED (R348): After 128 × 11 recessive bits a bus-off controller returns to error active. -/
  | busOffRecovered (ch : Fin 4)
  /-- CAN_EDGE_WAKE (R350): CANxRX low for WFLT µs wakes the lead. -/
  | canEdgeWake (ch : Fin 4) (lowUS : Nat := 255)
  /-- CAN_WAKE_FRAME (R350): A matching classic wake frame on CAN1 wakes the lead. -/
  | canWakeFrame (xtd : Bool) (id : Nat) (fd : Bool) (crcOk : Bool)
  /-- TICKET_EXPIRY (R357): A connection's window ends without acceptance or transmission and it enters EXPIRED. -/
  | ticketExpiry (con : Fin 32)
  /-- HOST_READ_SEQ (R371): The first host read of word 0x000 after a flip lowers HIRQ. -/
  | hostReadSeq
  /-- HOST_WRITE (R369): A host parallel write stores a mailbox word or sets WRADDR. -/
  | hostWrite (addr : Nat) (data : BitVec 16)
  /-- SPI_WORD_COMPLETE (R372): An SPI command or data word completes at its last SCK edge and is taken. -/
  | spiWordComplete (mosi : BitVec 16)
  /-- SPI_DESELECT (R372): nHCS rising ends an SPI transaction and discards a partial word with SPIERR. -/
  | spiDeselect (bits : Nat)
  /-- HIRQ_TIMEOUT (R371): HIRQ falls 1 ms after a flip if word 0x000 was not read. -/
  | hirqTimeout
  /-- BACK_BUFFER_WRITE (R368): A write of HST.BBDATA writes two back-buffer words and advances the index. -/
  | backBufferWrite (ini : Ini) (val : Word)
  /-- BACK_BUFFER_DONE (R368): A write of HST.BBDONE marks the writing pair's words complete. -/
  | backBufferDone (ini : Ini)
  /-- TICK_READ (R375): A read of TMB.TICKLO latches TICKHI. -/
  | tickRead (ini : Ini)
  /-- TICK_WRAP_SAVE (R378): At each wrap of TICK [31:0] the timebase saves TICK in the retained records. -/
  | tickWrapSave
  /-- GAP_ATTEST (R380): A write of TMB.EXTGAP attests the present GEN's gap or is refused. -/
  | gapAttest (ini : Ini) (secs : Word)
  /-- BBX_SW_PUSH (R382): BBX.CTRL.SWPUSH writes an SW record. -/
  | bbxSwPush (ini : Ini)
  /-- BBX_FREEZE_COMMAND (R384): BBX.CTRL.FREEZE triggers a freeze with trigger code 5. -/
  | bbxFreezeCommand (ini : Ini)
  /-- BBX_RELEASE (R387): BBX.CTRL.RELEASE clears HELD and stores the released FREEZEID. -/
  | bbxRelease (ini : Ini)
  /-- SNAPSHOT (R383): At F + 20,000 of qualifying frames a periodic snapshot is written. -/
  | snapshot
  /-- FREEZE_COPY_START (R386): Once the block CRCs are ready and the write port is free, the freeze copy starts. -/
  | freezeCopyStart
  /-- FREEZE_BLOCK_DONE (R386): A freeze block is written and the next starts if energy permits; after the last the rings resume. -/
  | freezeBlockDone
  /-- VBAT_PAUSE (R395): VBAT falling below 4.5 V enters the pause, stops the transformer and freezes ramps. -/
  | vbatPause
  /-- VBAT_PAUSE_RETURN (R395): VBAT returns to 4.5 V or above and measurement resumes at the first boundary 2 ms later. -/
  | vbatPauseReturn
  /-- PAUSE_LIMIT (R396): A pause lasting PMAX raises BARRIER_FAULT. -/
  | pauseLimit
  /-- BROWNOUT_WARNING (R398): VBAT falling below 3.0 V connects VHOLD and serves the TICK save, journal and freeze. -/
  | brownoutWarning
  /-- BROWNOUT_WARNING_END (R398): VBAT returns above 3.0 V before a brown-out and VHOLD recharges. -/
  | brownoutWarningEnd
  /-- BROWNOUT_TIMEOUT (R399): The warning lasting 2 ms causes a brown-out with code 0x03. -/
  | brownoutTimeout
  /-- HOLDUP_EXHAUSTED (R399): HOLDE below 50 µJ during the warning causes a brown-out with code 0x04. -/
  | holdupExhausted
  /-- VBAT_OVERVOLTAGE (R394): VBAT at or above 52 V sets OVERV; below 50 V clears it. -/
  | vbatOvervoltage (vbatMV : Nat)
  /-- ALWAYS_ON_LOSS (R395): VBAT below 2.5 V loses the always-on domain and every channel turns off. -/
  | alwaysOnLoss
  /-- HOLDUP_MEASURE (R397): Every 1,000 ticks the hold-up monitor measures VHOLD and updates HOLDE. -/
  | holdupMeasure (vholdMV : Nat) (slow : Option (Nat × Nat))
  /-- HOLDUP_FAULT (R397): HOLDE below 1,200 µJ for 1 s in Normal raises PWR_HOLD_FAULT. -/
  | holdupFault
  /-- CORE_SUPPLY_FAILURE (R400): A rail leaving its window for 100 ticks resets the control die with code 0x05. -/
  | coreSupplyFailure
  /-- CLOCK_FAILURE (R403): The clock monitor finds a failure and the device resets with code 0x06. -/
  | clockFailure
  /-- PLL_RESTART (R405): 300,000 ticks before a watch-frame boundary the PLL restarts. -/
  | pllRestart
  /-- PLL_LOCKED (R405): The PLL locks and TICK changes source without losing a tick. -/
  | pllLocked
  /-- MEAS_DIE_WARMUP (R81): 200,000 ticks before a watch-frame boundary the rest of the measurement die is powered. -/
  | measDieWarmup
  /-- SLEEP_EXIT_RESUME (R41): After the crystal and PLL are up on leaving Sleep, the pairs resume from their checkpoints. -/
  | sleepExitResume
  /-- NRST_ASSERT (R407): nRST low for 10.1 µs or more resets the device with code 0x02. -/
  | nrstAssert
  /-- NRST_RELEASE (R407): nRST returns high and the reset is released. -/
  | nrstRelease
  /-- POWER_ON (R406): VBAT returns after the always-on domain lost supply and the device resets with code 0x01. -/
  | powerOn (lhcfg : Nat)
  /-- RESET_RELEASE (R412): A reset is released and the boot sequence begins with LEAD sampled. -/
  | resetRelease (lead : Bool)
  /-- BOOT_RECORDS (R412): Once HOLDE reaches 1,200 µJ, GEN is incremented and written, records read and the BBX status rebuilt. -/
  | bootRecords
  /-- BOOT_HOLDUP_TIMEOUT (R412): HOLDE not reaching 1,200 µJ 1 s after release writes GEN and the boot record anyway with HOLDFLT. -/
  | bootHoldupTimeout
  /-- BOOT_VERIFY_DONE (R328): The boot ROM finishes verifying the Pair A and Pair B regions, sets BANKSEL and releases the pairs. -/
  | bootVerifyDone
  /-- WATCHDOG_SERVICE (R410): A pair writes its watchdog key pair, returning its count to 0 or causing expiry. -/
  | watchdogService (ini : Ini) (pair : Pair) (key : Word)
  /-- WATCHDOG_EXPIRY (R411): A pair's watchdog count reaches WDMAX and the output hold starts with both pairs in reset. -/
  | watchdogExpiry (pair : Pair)
  /-- WATCHDOG_HOLD_END (R411): The output hold ends and the device resets with code 0x07. -/
  | watchdogHoldEnd
  /-- EVENT_PENDING_CLEAR (R420): A write of 1 to an EVPND bit clears it and its EVRAW bit. -/
  | eventPendingClear (ini : Ini) (page : Fin 32) (mask : Word)
  /-- EVENT_FORCE (R421): A write of EVFRC from the debug port raises events without hardware consequence or is refused. -/
  | eventForce (ini : Ini) (page : Fin 32) (mask : Word)
  /-- PAGE_LOCK (R422): A write of 1 to a page's LOCK sets it until the next device reset. -/
  | pageLock (ini : Ini) (page : Fin 32)
  /-- JTAG_IDCODE (R431): The IDCODE instruction returns the device identity. -/
  | jtagIdcode
  /-- JTAG_SAMPLE_PRELOAD (R431): SAMPLE/PRELOAD captures or loads the boundary-scan chain. -/
  | jtagSamplePreload (capture : List Bool) (preload : Option (List Bool))
  /-- JTAG_EXTEST (R431): EXTEST drives the boundary-scan chain onto the covered balls. -/
  | jtagExtest
  /-- JTAG_DBGACC (R432): A DBGACC update performs one word access as the debug port, or is refused under DBGLOCK. -/
  | jtagDbgacc (write : Bool) (addr : Nat) (data : Word)
  /-- JTAG_BYPASS (R431): BYPASS, or any unsupported code, selects the 1-bit bypass register. -/
  | jtagBypass (code : BitVec 5)
  /-- PWM_PERIOD_START (R294): At the start of each pump PWM period the new duties take effect and the high sides and low sides cut off for the rest of the previous period are restored. -/
  | pwmPeriodStart
  /-- VDS_LIMIT_REACHED (R297): With a low side on, a phase-node voltage reaching VDSLIM turns every low side off for the rest of the PWM period. -/
  | vdsLimitReached (phMV : Int := 2000)
  /-- GATE_SUPPLY_RETURN (R303): The gate supply VGD and the bootstraps return within their limits, which starts the 100 ms wait before LISTEN. -/
  | gateSupplyReturn (vgdMV : Nat := 12000) (bootMV : Nat := 12000)
  /-- CORE_SUPPLY_RETURN (R400): All control-die rails come back within their windows after a core-supply failure, which starts the 1 ms count to release. -/
  | coreSupplyReturn
  /-- CRYSTAL_RECOVERED (R403): After a clock failure the crystal again has edges and lies within ±3 % of the always-on oscillator, which starts the 1 ms count to release. -/
  | crystalRecovered
  /-- CAN_BUS_INTEGRATED (R348): After INIT is cleared, or after a wake, the controller has seen 11 consecutive recessive bits and joins the bus. -/
  | canBusIntegrated (ch : Fin 4)
  /-- CAN_RECEIVE_ERROR (R348): A controller detects a protocol error in a frame on the bus, signals it and updates its error counters under ISO 11898-1. -/
  | canReceiveError (ch : Fin 4) (tec : Nat) (rec : Nat)
  /-- TCK_ACTIVITY (R432): Activity on TCK sets DBG.STAT.CONN, and DBG_SERVICE is raised when CONN becomes set. -/
  | tckActivity
  /-- TCK_IDLE_TIMEOUT (R432): CONN clears when TCK has been inactive for 1 ms. -/
  | tckIdleTimeout
  deriving DecidableEq, Repr

end Sys2Proof
end

