-- ==== Sys2Proof/Decode.lean ====
section
/-!
DEFINITION. The command that a word spells. The table of operations gives its rows no bits: a command reaches the block
as an access, a packet, a pin event or the end of a time, never as one instruction word (assumption 9).
-/
namespace Sys2Proof

/-- The command that the low `nbits` bits of `w` spell by the table: none, since no row of the table gives bits. -/
def decodeTableWord (_nbits _w : Nat) : Option Instr := none

end Sys2Proof
end

