-- ==== Sys2Proof/Config.lean ====
section
/-!
DEFINITION. The free values of the model: what the manual leaves open, as constants with no body (nothing can
evaluate them and no proof can see what they are).
-/
namespace Sys2Proof.Config

/-- A free number (assumption 2): the model applies it to the counter `State.freeCtr`, which each use advances. -/
opaque freeNat : Nat → Nat

/-- A free truth value (assumption 2). -/
opaque freeBool : Nat → Bool

/-- A free real number (assumption 2): of a use, and of a place within the use. -/
opaque freeRat : Nat → Nat → Rat

/-- What a real function of a formula gives outside its domain, where the manual states no value (assumption 3): 0 the
logarithm of a number not above 0, 1 the square root of a negative number, 2 the angle of the zero vector. -/
opaque outside : Nat → Rat → Rat

/-- Whether a region's bytes carry a valid ECDSA P-256 signature under the key bytes given (R327, assumption 4). -/
opaque sigOk : List Byte → List Byte → Bool

/-- The vendor's manufacturer identity in IDCODE (Table 19.7), which the manual does not give. -/
opaque manufacturer : BitVec 11

/-- The content of the boot ROM (Table 14.4), which the manual does not give (assumption 2). -/
opaque bootRom : Nat → Word

/-- The word at an address of a data-MRAM record whose layout the spec does not give: boot record, retained records and
impedance references (Table 14.5, R324). Free value (assumption 116): the number says which use it is. -/
opaque recordWord : Nat → Nat → Word

end Sys2Proof.Config
end

