-- ==== Sys2Proof/Machine/Reals.lean ====
section
/-!
DEFINITION. The real functions that the manual's formulas name (R154, R167, R181, R187, R189, R191, R200, R246, R299),
as rationals that can be computed: each is within 2^-40 of the real value, relative to the larger of 1 and the value
(assumption 3). Outside the domain of a function the manual states no value: a free value.
-/
namespace Sys2Proof.Machine

/-- A rational cut to a multiple of 2^-96. -/
def cut (x : Rat) : Rat := ((x * 2 ^ 96).floor : Rat) / 2 ^ 96

/-- The sum c₀ + x·(c₁ + x·(c₂ + …)), cut at every step. -/
def horner (x : Rat) : List Rat → Rat
  | [] => 0
  | c :: l => cut (c + x * horner x l)

/-- n!. -/
def factorial : Nat → Nat
  | 0 => 1
  | n + 1 => (n + 1) * factorial n

/-- ln 2. -/
def ln2 : Rat := 693147180559945309417232121458176568075 / 1000000000000000000000000000000000000000

/-- π (R187). -/
@[irreducible] def piR : Rat := 3141592653589793238462643383279502884197 / 1000000000000000000000000000000000000000

/-- The exponential function (R154, R167, R246): its series on [0, ln 2), scaled by a power of 2. -/
@[irreducible] def expR (x : Rat) : Rat :=
  let k := (x / ln2).floor
  let m := horner (x - k * ln2) ((List.range 24).map fun n => 1 / (factorial n : Rat))
  if 0 ≤ k then m * 2 ^ k.toNat else m / 2 ^ (-k).toNat

/-- The natural logarithm (R191, R200): ln m = 2 artanh((m − 1)/(m + 1)) on (1/2, 2), and ln 2 for each power of 2. -/
@[irreducible] def lnR (x : Rat) : Rat :=
  if x ≤ 0 then Config.outside 0 x else
  let a := Nat.log2 x.num.natAbs
  let b := Nat.log2 x.den
  let m := x * 2 ^ b / 2 ^ a
  let t := cut ((m - 1) / (m + 1))
  2 * t * horner (t * t) ((List.range 28).map fun n => 1 / ((2 * n + 1 : Nat) : Rat)) + ((a : Rat) - b) * ln2

/-- Newton's iteration for the square root of `n`, from above, at most `fuel` times. -/
def newton (n : Nat) : Nat → Nat → Nat
  | 0, x => x
  | fuel + 1, x => let y := (x + n / x) / 2; if y < x then newton n fuel y else x

/-- The square root (R181, R189, R190, R299). -/
@[irreducible] def sqrtR (x : Rat) : Rat :=
  if x < 0 then Config.outside 1 x else
  let n := (x * 2 ^ 192).floor.toNat
  if n = 0 then 0 else (newton n 64 (2 ^ (Nat.log2 n / 2 + 1)) : Rat) / 2 ^ 96

/-- An angle in full turns, brought to [−1/2, 1/2) and expressed in radians. -/
def radians (t : Rat) : Rat := cut (2 * piR * (t - (t + 1 / 2).floor))

/-- Sine of an angle in full turns (R179). -/
@[irreducible] def sinR (t : Rat) : Rat :=
  let x := radians t
  x * horner (x * x) ((List.range 16).map fun n => (if n % 2 = 0 then 1 else -1) / (factorial (2 * n + 1) : Rat))

/-- Cosine of an angle in full turns (R179). -/
@[irreducible] def cosR (t : Rat) : Rat :=
  let x := radians t
  horner (x * x) ((List.range 16).map fun n => (if n % 2 = 0 then 1 else -1) / (factorial (2 * n) : Rat))

/-- The arc tangent of t in [0, 1], in radians: the series after two halvings of the angle. -/
def arcTan (t : Rat) : Rat :=
  let h := fun (x : Rat) => cut (x / (1 + sqrtR (1 + x * x)))
  let x := h (h t)
  4 * x * horner (x * x) ((List.range 20).map fun n => (if n % 2 = 0 then 1 else -1) / ((2 * n + 1 : Nat) : Rat))

/-- The four-quadrant arc tangent in degrees of an imaginary and a real part, −180 excluded (R189). -/
@[irreducible] def atan2Deg (im re : Rat) : Rat :=
  let a := if im < 0 then -im else im
  let b := if re < 0 then -re else re
  if a = 0 ∧ b = 0 then Config.outside 2 0 else
  let d := 180 / piR * (if a ≤ b then arcTan (a / b) else piR / 2 - arcTan (b / a))
  let q := if re < 0 then 180 - d else d
  if im < 0 then -q else q

end Sys2Proof.Machine
end

