-- ==== Sys2Proof/Machine/Regs.lean ====
section
/-!
DEFINITION. The register map: one row per register or register array of each page, from the register tables of
the chapters, with the masks of its access codes (Table 0.4) and its reset word; the fixed registers of every page
(R419, Table 19.2); and one name per register and per field. A field is a bit range of a word (R12).
Reset entries `Retained`, `OTP`, `Boot` and `Boot record` of the tables stand as 0 here (assumption 5).
-/
namespace Sys2Proof.Machine

/-- One register, or an array of `count` registers `stride` bytes apart, of a page.
`rw`, `w1c`, `rws`, `rwl` are the bits with that access code; reserved bits of RWS and RWL registers are
held as written (R21), so they belong to `rws` and `rwl`. Bits in no mask are RO, WO or reserved. -/
structure RegRow where
  off : Nat
  count : Nat
  stride : Nat
  rst : Nat
  rw : Nat
  w1c : Nat
  rws : Nat
  rwl : Nat
  deriving DecidableEq, Repr

/-- A register field: the address of its word, its lowest bit, its width, and the distance to the same field of
the next member of its array. -/
structure Fld where
  addr : Nat
  lo : Nat
  wid : Nat
  stride : Nat
  deriving DecidableEq, Repr

/-- The field of the `k`-th member of an array. -/
def Fld.at (f : Fld) (k : Nat) : Fld := { f with addr := f.addr + k * f.stride }

/-- The staged copy of a configuration field (R19). -/
def Fld.staged (f : Fld) : Fld := { f with addr := f.addr + 0x800 }

/-- The first address of the register pages (R418). -/
def pageBase (page : Nat) : Nat := 0x40000000 + page * 0x1000

/-- The block registers of page 0 (SYS). -/
def rowsSYS : List RegRow :=
  [⟨0x040, 1, 4, 0x0, 0x3, 0x0, 0x0, 0x0⟩,
   ⟨0x044, 1, 4, 0x0, 0x0, 0x0, 0x0, 0x0⟩,
   ⟨0x048, 1, 4, 0x0, 0x0, 0x0, 0x0, 0x0⟩,
   ⟨0x04C, 1, 4, 0x0, 0x0, 0x0, 0x0, 0x0⟩]

/-- The block registers of page 1 (CLK). -/
def rowsCLK : List RegRow :=
  [⟨0x00C, 1, 4, 0x0, 0x0, 0x0, 0x0, 0x0⟩,
   ⟨0x100, 1, 4, 0x0, 0x0, 0x0, 0x0, 0x0⟩]

/-- The block registers of page 2 (PWR). -/
def rowsPWR : List RegRow :=
  [⟨0x00C, 1, 4, 0x0, 0x0, 0x0, 0x0, 0x0⟩,
   ⟨0x040, 1, 4, 0x16, 0x0, 0x0, 0xFFFFFFFF, 0x0⟩,
   ⟨0x044, 1, 4, 0xC8, 0x0, 0x0, 0xFFFFFFFF, 0x0⟩,
   ⟨0x100, 1, 4, 0x0, 0x0, 0x0, 0x0, 0x0⟩,
   ⟨0x104, 1, 4, 0x0, 0x0, 0x0, 0x0, 0x0⟩,
   ⟨0x108, 1, 4, 0x0, 0x0, 0x0, 0x0, 0x0⟩,
   ⟨0x10C, 1, 4, 0x0, 0x0, 0x0, 0x0, 0x0⟩,
   ⟨0x110, 1, 4, 0x0, 0x0, 0x0, 0x0, 0x0⟩]

/-- The block registers of page 3 (RST). -/
def rowsRST : List RegRow :=
  [⟨0x040, 1, 4, 0x32003201, 0x0, 0x0, 0x0, 0xFFFFFFFF⟩,
   ⟨0x044, 1, 4, 0x0, 0x0, 0x0, 0x0, 0x0⟩,
   ⟨0x048, 1, 4, 0x0, 0x0, 0x0, 0x0, 0x0⟩,
   ⟨0x04C, 1, 4, 0x0, 0x0, 0x0, 0x0, 0x0⟩,
   ⟨0x050, 1, 4, 0x0, 0x0, 0x0, 0x0, 0x0⟩,
   ⟨0x054, 1, 4, 0x0, 0x0, 0x0, 0x0, 0x0⟩,
   ⟨0x058, 1, 4, 0x0, 0x0, 0x0, 0x0, 0x0⟩]

/-- The block registers of page 4 (TT). -/
def rowsTT : List RegRow :=
  [⟨0x040, 1, 4, 0x0, 0x0, 0x0, 0xFFFFFFFF, 0x0⟩,
   ⟨0x044, 1, 4, 0x0, 0x0, 0x0, 0xFFFFFFFF, 0x0⟩,
   ⟨0x048, 1, 4, 0x102, 0x0, 0x0, 0x0, 0x0⟩,
   ⟨0x04C, 1, 4, 0x0, 0xFFFFFFFF, 0x0, 0x0, 0x0⟩,
   ⟨0x050, 1, 4, 0x0, 0x0, 0x0, 0x0, 0x0⟩,
   ⟨0x054, 1, 4, 0x0, 0x0, 0x0, 0x0, 0x0⟩,
   ⟨0x058, 1, 4, 0x0, 0x0, 0x0, 0x0, 0x0⟩,
   ⟨0x05C, 1, 4, 0x3, 0x0, 0x0, 0xFFFFFFFF, 0x0⟩,
   ⟨0x060, 1, 4, 0x0, 0x0, 0x0, 0x0, 0x0⟩,
   ⟨0x064, 1, 4, 0x0, 0x0, 0x0, 0x0, 0x0⟩,
   ⟨0x068, 1, 4, 0x0, 0x0, 0x0, 0x0, 0x0⟩,
   ⟨0x06C, 1, 4, 0x0, 0x0, 0x0, 0x0, 0x0⟩,
   ⟨0x070, 1, 4, 0x0, 0x0, 0x0, 0x0, 0x0⟩]

/-- The block registers of page 5 (STG). -/
def rowsSTG : List RegRow :=
  [⟨0x040, 1, 4, 0x0, 0xFFFFFFFF, 0x0, 0x0, 0x0⟩,
   ⟨0x044, 1, 4, 0x0, 0x0, 0x0, 0x0, 0x0⟩,
   ⟨0x048, 1, 4, 0x0, 0x0, 0x0, 0x0, 0x0⟩,
   ⟨0x04C, 1, 4, 0x0, 0x0, 0x0, 0x0, 0x0⟩,
   ⟨0x050, 1, 4, 0x0, 0x0, 0x0, 0x0, 0x0⟩]

/-- The block registers of page 6 (CELL). -/
def rowsCELL : List RegRow :=
  [⟨0x008, 1, 4, 0x0, 0x0, 0x0, 0x0, 0x0⟩,
   ⟨0x00C, 1, 4, 0x0, 0x0, 0x0, 0x0, 0x0⟩,
   ⟨0x040, 1, 4, 0xFFFFFFFF, 0x0, 0x0, 0xFFFFFFFF, 0x0⟩,
   ⟨0x044, 1, 4, 0xFFFF, 0x0, 0x0, 0xFFFFFFFF, 0x0⟩,
   ⟨0x048, 1, 4, 0x1900000, 0x0, 0x0, 0xFFFFFFFF, 0x0⟩,
   ⟨0x04C, 1, 4, 0x1400, 0x0, 0x0, 0xFFFFFFFF, 0x0⟩,
   ⟨0x050, 1, 4, 0x64, 0x0, 0x0, 0xFFFFFFFF, 0x0⟩,
   ⟨0x054, 1, 4, 0x0, 0x0, 0x0, 0x0, 0x0⟩,
   ⟨0x058, 1, 4, 0x0, 0x0, 0x0, 0x0, 0x0⟩,
   ⟨0x05C, 1, 4, 0x0, 0x0, 0x0, 0x0, 0x0⟩,
   ⟨0x060, 1, 4, 0x0, 0x0, 0xFFFFFFFF, 0x0, 0x0⟩,
   ⟨0x064, 1, 4, 0x0, 0x0, 0xFFFF, 0x0, 0x0⟩,
   ⟨0x068, 1, 4, 0x0, 0x0, 0x0, 0x0, 0x0⟩,
   ⟨0x06C, 1, 4, 0x0, 0x0, 0x0, 0x0, 0x0⟩,
   ⟨0x070, 1, 4, 0x0, 0x0, 0x0, 0x0, 0x0⟩,
   ⟨0x074, 1, 4, 0x0, 0x0, 0x0, 0x0, 0x0⟩,
   ⟨0x078, 1, 4, 0x0, 0x0, 0x0, 0x0, 0x0⟩,
   ⟨0x100, 48, 4, 0x0, 0x0, 0x0, 0x0, 0x0⟩,
   ⟨0x200, 48, 4, 0x0, 0x0, 0x0, 0x0, 0x0⟩]

/-- The block registers of page 7 (IPK). -/
def rowsIPK : List RegRow :=
  [⟨0x00C, 1, 4, 0x0, 0x0, 0x0, 0x0, 0x0⟩,
   ⟨0x040, 1, 4, 0x0, 0x0, 0x0, 0xFFFFFFFF, 0x0⟩,
   ⟨0x044, 1, 4, 0x186A0, 0x0, 0x0, 0xFFFFFFFF, 0x0⟩,
   ⟨0x048, 1, 4, 0x186A0, 0x0, 0x0, 0xFFFFFFFF, 0x0⟩,
   ⟨0x04C, 1, 4, 0xC800C8, 0x0, 0x0, 0xFFFFFFFF, 0x0⟩,
   ⟨0x050, 1, 4, 0xC800C8, 0x0, 0x0, 0xFFFFFFFF, 0x0⟩,
   ⟨0x054, 1, 4, 0x800007D0, 0x0, 0x0, 0xFFFFFFFF, 0x0⟩,
   ⟨0x058, 1, 4, 0x312C014, 0x0, 0x0, 0xFFFFFFFF, 0x0⟩,
   ⟨0x05C, 1, 4, 0x3032002, 0x0, 0x0, 0xFFFFFFFF, 0x0⟩,
   ⟨0x100, 1, 4, 0x0, 0x0, 0x0, 0x0, 0x0⟩,
   ⟨0x104, 1, 4, 0x0, 0x0, 0x0, 0x0, 0x0⟩,
   ⟨0x108, 1, 4, 0x0, 0x0, 0x0, 0x0, 0x0⟩,
   ⟨0x10C, 1, 4, 0x0, 0x0, 0x0, 0x0, 0x0⟩,
   ⟨0x110, 1, 4, 0x0, 0x0, 0x0, 0x0, 0x0⟩,
   ⟨0x114, 1, 4, 0x0, 0x0, 0x0, 0x0, 0x0⟩,
   ⟨0x118, 1, 4, 0x0, 0x0, 0x0, 0x0, 0x0⟩,
   ⟨0x11C, 1, 4, 0x0, 0x0, 0x0, 0x0, 0x0⟩,
   ⟨0x120, 1, 4, 0x0, 0x0, 0x0, 0x0, 0x0⟩,
   ⟨0x124, 1, 4, 0x0, 0x0, 0x0, 0x0, 0x0⟩]

/-- The block registers of page 8 (HVM). -/
def rowsHVM : List RegRow :=
  [⟨0x008, 1, 4, 0x0, 0x0, 0x0, 0x0, 0x0⟩,
   ⟨0x00C, 1, 4, 0x0, 0x0, 0x0, 0x0, 0x0⟩,
   ⟨0x040, 1, 4, 0x0, 0x0, 0x0, 0xFFFFFFFF, 0x0⟩,
   ⟨0x044, 4, 4, 0x10000, 0x0, 0x0, 0xFFFFFFFF, 0x0⟩,
   ⟨0x054, 1, 4, 0x10000, 0x0, 0x0, 0xFFFFFFFF, 0x0⟩,
   ⟨0x058, 1, 4, 0x1D6, 0x0, 0x0, 0xFFFFFFFF, 0x0⟩,
   ⟨0x05C, 1, 4, 0x1D6, 0x0, 0x0, 0xFFFFFFFF, 0x0⟩,
   ⟨0x060, 1, 4, 0x271A, 0x0, 0x0, 0xFFFFFFFF, 0x0⟩,
   ⟨0x064, 1, 4, 0x1F40064, 0x0, 0x0, 0xFFFFFFFF, 0x0⟩,
   ⟨0x100, 4, 4, 0x0, 0x0, 0x0, 0x0, 0x0⟩,
   ⟨0x110, 4, 4, 0x0, 0x0, 0x0, 0x0, 0x0⟩,
   ⟨0x120, 1, 4, 0x0, 0x0, 0x0, 0x0, 0x0⟩,
   ⟨0x124, 1, 4, 0x0, 0x0, 0x0, 0x0, 0x0⟩,
   ⟨0x128, 1, 4, 0x0, 0x0, 0x0, 0x0, 0x0⟩,
   ⟨0x12C, 1, 4, 0x0, 0x0, 0x0, 0x0, 0x0⟩,
   ⟨0x130, 1, 4, 0x0, 0x0, 0x0, 0x0, 0x0⟩,
   ⟨0x134, 1, 4, 0x0, 0x0, 0x0, 0x0, 0x0⟩]

/-- The block registers of page 9 (THM). -/
def rowsTHM : List RegRow :=
  [⟨0x00C, 1, 4, 0x0, 0x0, 0x0, 0x0, 0x0⟩,
   ⟨0x040, 1, 4, 0x1000000, 0x0, 0x0, 0xFFFFFFFF, 0x0⟩,
   ⟨0x044, 1, 4, 0x0, 0x0, 0x0, 0xFFFFFFFF, 0x0⟩,
   ⟨0x048, 1, 4, 0xA32, 0x0, 0x0, 0xFFFFFFFF, 0x0⟩,
   ⟨0x04C, 1, 4, 0xFDE8012C, 0x0, 0x0, 0xFFFFFFFF, 0x0⟩,
   ⟨0x050, 1, 4, 0x51E5000, 0x0, 0x0, 0xFFFFFFFF, 0x0⟩,
   ⟨0x054, 1, 4, 0x0, 0x0, 0x0, 0xFFFFFFFF, 0x0⟩,
   ⟨0x058, 1, 4, 0x0, 0x1FF, 0x0, 0x0, 0x0⟩,
   ⟨0x05C, 1, 4, 0x0, 0xFFFFFFFF, 0x0, 0x0, 0x0⟩,
   ⟨0x060, 1, 4, 0x3E8012C, 0x0, 0x0, 0xFFFFFFFF, 0x0⟩,
   ⟨0x064, 1, 4, 0x5DC07D0, 0x0, 0x0, 0xFFFFFFFF, 0x0⟩,
   ⟨0x068, 1, 4, 0xA00FF, 0x0, 0x0, 0xFFFFFFFF, 0x0⟩,
   ⟨0x06C, 1, 4, 0x323200, 0x0, 0x0, 0xFFFFFFFF, 0x0⟩,
   ⟨0x070, 1, 4, 0x64, 0x0, 0x0, 0xFFFFFFFF, 0x0⟩,
   ⟨0x074, 4, 4, 0x0, 0x0, 0x0, 0xFFFFFFFF, 0x0⟩,
   ⟨0x100, 24, 4, 0x0, 0x0, 0x0, 0x0, 0x0⟩,
   ⟨0x160, 8, 4, 0x0, 0x0, 0x0, 0x0, 0x0⟩,
   ⟨0x180, 1, 4, 0x0, 0x0, 0x0, 0x0, 0x0⟩,
   ⟨0x184, 1, 4, 0x0, 0x1FF, 0x0, 0x0, 0x0⟩,
   ⟨0x188, 1, 4, 0x0, 0x0, 0x0, 0x0, 0x0⟩,
   ⟨0x18C, 1, 4, 0x0, 0x0, 0x0, 0x0, 0x0⟩,
   ⟨0x190, 1, 4, 0x0, 0x0, 0x0, 0x0, 0x0⟩,
   ⟨0x194, 1, 4, 0x0, 0x0, 0x0, 0x0, 0x0⟩,
   ⟨0x198, 1, 4, 0x0, 0x0, 0x0, 0x0, 0x0⟩,
   ⟨0x19C, 1, 4, 0x0, 0x0, 0x0, 0x0, 0x0⟩,
   ⟨0x200, 37, 4, 0x0, 0x0, 0x0, 0xFFFFFFFF, 0x0⟩,
   ⟨0x300, 37, 4, 0x0, 0x0, 0x0, 0xFFFFFFFF, 0x0⟩]

/-- The block registers of page 10 (BAL). -/
def rowsBAL : List RegRow :=
  [⟨0x008, 1, 4, 0x0, 0x0, 0x0, 0x0, 0x0⟩,
   ⟨0x00C, 1, 4, 0x0, 0x0, 0x0, 0x0, 0x0⟩,
   ⟨0x040, 1, 4, 0x14A0018, 0x0, 0x0, 0xFFFFFFFF, 0x0⟩,
   ⟨0x044, 1, 4, 0x10040BB8, 0x0, 0x0, 0xFFFFFFFF, 0x0⟩,
   ⟨0x048, 1, 4, 0x80000294, 0x0, 0x0, 0xFFFFFFFF, 0x0⟩,
   ⟨0x050, 1, 4, 0x0, 0xFFFFFFFF, 0x0, 0x0, 0x0⟩,
   ⟨0x054, 1, 4, 0x0, 0xFFFF, 0x0, 0x0, 0x0⟩,
   ⟨0x058, 1, 4, 0x0, 0x0, 0x0, 0x0, 0x0⟩,
   ⟨0x05C, 1, 4, 0x0, 0x0, 0x0, 0x0, 0x0⟩,
   ⟨0x060, 1, 4, 0x0, 0x0, 0x0, 0x0, 0x0⟩,
   ⟨0x064, 1, 4, 0x0, 0x0, 0x0, 0x0, 0x0⟩,
   ⟨0x068, 1, 4, 0x0, 0x0, 0x0, 0x0, 0x0⟩,
   ⟨0x100, 48, 4, 0x0, 0x0, 0x0, 0x0, 0x0⟩]

/-- The block registers of page 11 (CSC). -/
def rowsCSC : List RegRow :=
  [⟨0x008, 1, 4, 0x0, 0x0, 0x0, 0x0, 0x0⟩,
   ⟨0x00C, 1, 4, 0x0, 0x0, 0x0, 0x0, 0x0⟩,
   ⟨0x040, 1, 4, 0x1, 0x0, 0x0, 0xFFFFFFFF, 0x0⟩,
   ⟨0x044, 1, 4, 0x320A02, 0x0, 0x0, 0xFFFFFFFF, 0x0⟩,
   ⟨0x048, 1, 4, 0x0, 0x0, 0x0, 0xFFFFFFFF, 0x0⟩,
   ⟨0x04C, 1, 4, 0x0, 0x0, 0x0, 0x0, 0x0⟩,
   ⟨0x050, 1, 4, 0x0, 0x0, 0x0, 0x0, 0x0⟩,
   ⟨0x054, 1, 4, 0x0, 0x0, 0x0, 0x0, 0x0⟩,
   ⟨0x058, 1, 4, 0x0, 0x0, 0x0, 0x0, 0x0⟩,
   ⟨0x05C, 1, 4, 0x0, 0x0, 0x0, 0x0, 0x0⟩,
   ⟨0x060, 1, 4, 0x0, 0x0, 0xFF00, 0x0, 0x0⟩,
   ⟨0x064, 1, 4, 0x0, 0x0, 0x0, 0x0, 0x0⟩,
   ⟨0x068, 1, 4, 0x0, 0x0, 0x0, 0x0, 0x0⟩,
   ⟨0x06C, 1, 4, 0x0, 0x0, 0x0, 0x0, 0x0⟩,
   ⟨0x070, 1, 4, 0x0, 0x0, 0x0, 0x0, 0x0⟩]

/-- The block registers of page 12 (EST). -/
def rowsEST : List RegRow :=
  [⟨0x008, 1, 4, 0x0, 0x0, 0x0, 0x0, 0x0⟩,
   ⟨0x00C, 1, 4, 0x0, 0x0, 0x0, 0x0, 0x0⟩,
   ⟨0x040, 1, 4, 0x3E82710, 0x0, 0x0, 0xFFFFFFFF, 0x0⟩,
   ⟨0x044, 1, 4, 0x0, 0x0, 0x0, 0xFFFFFFFF, 0x0⟩,
   ⟨0x048, 1, 4, 0x64, 0x0, 0x0, 0xFFFFFFFF, 0x0⟩,
   ⟨0x04C, 1, 4, 0xC80014, 0x0, 0x0, 0xFFFFFFFF, 0x0⟩,
   ⟨0x050, 1, 4, 0xA0000, 0x0, 0x0, 0xFFFFFFFF, 0x0⟩,
   ⟨0x054, 1, 4, 0x140003C, 0x0, 0x0, 0xFFFFFFFF, 0x0⟩,
   ⟨0x058, 1, 4, 0x3C0032, 0x0, 0x0, 0xFFFFFFFF, 0x0⟩,
   ⟨0x05C, 1, 4, 0x64004E20, 0x0, 0x0, 0xFFFFFFFF, 0x0⟩,
   ⟨0x060, 1, 4, 0x0, 0x0, 0x0, 0xFFFFFFFF, 0x0⟩,
   ⟨0x064, 1, 4, 0x0, 0x0, 0x0, 0xFFFFFFFF, 0x0⟩,
   ⟨0x068, 1, 4, 0x12C0000, 0x0, 0x0, 0xFFFFFFFF, 0x0⟩,
   ⟨0x06C, 1, 4, 0x0, 0x0, 0x0, 0xFFFFFFFF, 0x0⟩,
   ⟨0x070, 1, 4, 0x0, 0x0, 0x0, 0xFFFFFFFF, 0x0⟩,
   ⟨0x074, 1, 4, 0x3C0000, 0x0, 0x0, 0xFFFFFFFF, 0x0⟩,
   ⟨0x078, 1, 4, 0x7081432, 0x0, 0x0, 0xFFFFFFFF, 0x0⟩,
   ⟨0x07C, 1, 4, 0x2814191E, 0x0, 0x0, 0xFFFFFFFF, 0x0⟩,
   ⟨0x080, 1, 4, 0x10680BB8, 0x0, 0x0, 0xFFFFFFFF, 0x0⟩,
   ⟨0x084, 1, 4, 0x0, 0x0, 0x0, 0xFFFFFFFF, 0x0⟩,
   ⟨0x088, 1, 4, 0x0, 0x0, 0x0, 0xFFFFFFFF, 0x0⟩,
   ⟨0x08C, 1, 4, 0x3C, 0x0, 0x0, 0xFFFFFFFF, 0x0⟩,
   ⟨0x090, 1, 4, 0x0, 0x3FF, 0x0, 0x0, 0x0⟩,
   ⟨0x094, 1, 4, 0x0, 0xFFFFFFFF, 0x0, 0x0, 0x0⟩,
   ⟨0x098, 1, 4, 0x0, 0x1FF, 0x0, 0x0, 0x0⟩,
   ⟨0x100, 1, 4, 0x0, 0x0, 0x0, 0x0, 0x0⟩,
   ⟨0x104, 1, 4, 0x0, 0x0, 0x0, 0x0, 0x0⟩,
   ⟨0x108, 1, 4, 0x0, 0x0, 0x0, 0x0, 0x0⟩,
   ⟨0x10C, 1, 4, 0x0, 0x0, 0x0, 0x0, 0x0⟩,
   ⟨0x110, 1, 4, 0x0, 0x0, 0x0, 0x0, 0x0⟩,
   ⟨0x114, 6, 4, 0x0, 0x0, 0x0, 0x0, 0x0⟩,
   ⟨0x12C, 6, 4, 0x0, 0x0, 0x0, 0x0, 0x0⟩,
   ⟨0x144, 1, 4, 0x0, 0x0, 0x0, 0x0, 0x0⟩,
   ⟨0x148, 1, 4, 0x0, 0x0, 0x0, 0x0, 0x0⟩,
   ⟨0x14C, 1, 4, 0x0, 0x0, 0x0, 0x0, 0x0⟩,
   ⟨0x150, 1, 4, 0x0, 0x0, 0x0, 0x0, 0x0⟩,
   ⟨0x154, 1, 4, 0x0, 0x0, 0x0, 0x0, 0x0⟩,
   ⟨0x158, 1, 4, 0x0, 0x0, 0x0, 0x0, 0x0⟩,
   ⟨0x160, 1, 4, 0x0, 0x0, 0x0, 0x0, 0x0⟩,
   ⟨0x164, 1, 4, 0x0, 0x0, 0x0, 0x0, 0x0⟩,
   ⟨0x168, 1, 4, 0x0, 0x0, 0x0, 0x0, 0x0⟩,
   ⟨0x16C, 1, 4, 0x0, 0x0, 0x0, 0x0, 0x0⟩,
   ⟨0x170, 1, 4, 0x0, 0x0, 0x0, 0x0, 0x0⟩,
   ⟨0x174, 1, 4, 0x0, 0x0, 0x0, 0x0, 0x0⟩]

/-- The block registers of page 13 (EIS). -/
def rowsEIS : List RegRow :=
  [⟨0x008, 1, 4, 0x0, 0x0, 0x0, 0x0, 0x0⟩,
   ⟨0x00C, 1, 4, 0x0, 0x0, 0x0, 0x0, 0x0⟩,
   ⟨0x040, 1, 4, 0x0, 0x0, 0x0, 0xFFFFFFFF, 0x0⟩,
   ⟨0x044, 8, 4, 0x0, 0x0, 0x0, 0xFFFFFFFF, 0x0⟩,
   ⟨0x064, 1, 4, 0xA05, 0x0, 0x0, 0xFFFFFFFF, 0x0⟩,
   ⟨0x068, 1, 4, 0x32, 0x0, 0x0, 0xFFFFFFFF, 0x0⟩,
   ⟨0x06C, 1, 4, 0x50, 0x0, 0x0, 0xFFFFFFFF, 0x0⟩,
   ⟨0x070, 1, 4, 0xBB8, 0x0, 0x0, 0xFFFFFFFF, 0x0⟩,
   ⟨0x074, 1, 4, 0x0, 0x701FF, 0x0, 0x0, 0x0⟩,
   ⟨0x100, 1, 4, 0x0, 0x0, 0x0, 0x0, 0x0⟩,
   ⟨0x104, 1, 4, 0x0, 0x0, 0x0, 0x0, 0x0⟩,
   ⟨0x108, 1, 4, 0x0, 0x0, 0x0, 0x0, 0x0⟩,
   ⟨0x10C, 1, 4, 0x0, 0x0, 0x0, 0x0, 0x0⟩,
   ⟨0x110, 1, 4, 0x0, 0x0, 0x0, 0x0, 0x0⟩,
   ⟨0x114, 1, 4, 0x0, 0x0, 0x0, 0x0, 0x0⟩,
   ⟨0x118, 1, 4, 0x0, 0x0, 0x0, 0x0, 0x0⟩]

/-- The block registers of page 14 (SAF). -/
def rowsSAF : List RegRow :=
  [⟨0x008, 1, 4, 0x0, 0x0, 0x0, 0x0, 0x0⟩,
   ⟨0x00C, 1, 4, 0x0, 0x0, 0x0, 0x0, 0x0⟩,
   ⟨0x040, 1, 4, 0x2419CE0, 0x0, 0x0, 0xFFFFFFFF, 0x0⟩,
   ⟨0x044, 1, 4, 0x401640, 0x0, 0x0, 0xFFFFFFFF, 0x0⟩,
   ⟨0x048, 1, 4, 0x21E8480, 0x0, 0x0, 0xFFFFFFFF, 0x0⟩,
   ⟨0x04C, 1, 4, 0x200B20, 0x0, 0x0, 0xFFFFFFFF, 0x0⟩,
   ⟨0x050, 1, 4, 0xFFFFFFFF, 0x0, 0x0, 0xFFFFFFFF, 0x0⟩,
   ⟨0x054, 1, 4, 0xFFFF, 0x0, 0x0, 0xFFFFFFFF, 0x0⟩,
   ⟨0x058, 1, 4, 0xFFFFFFFF, 0x0, 0x0, 0xFFFFFFFF, 0x0⟩,
   ⟨0x05C, 1, 4, 0x30002, 0x0, 0x0, 0xFFFFFFFF, 0x0⟩,
   ⟨0x060, 1, 4, 0xFFFFFFFF, 0x0, 0x0, 0xFFFFFFFF, 0x0⟩,
   ⟨0x064, 1, 4, 0xFFFFFFFF, 0x0, 0x0, 0xFFFFFFFF, 0x0⟩,
   ⟨0x068, 1, 4, 0x32, 0x0, 0x0, 0xFFFFFFFF, 0x0⟩,
   ⟨0x06C, 1, 4, 0x2260000, 0x0, 0x0, 0xFFFFFFFF, 0x0⟩,
   ⟨0x070, 1, 4, 0x2120014, 0x0, 0x0, 0xFFFFFFFF, 0x0⟩,
   ⟨0x074, 1, 4, 0xA0032, 0x0, 0x0, 0xFFFFFFFF, 0x0⟩,
   ⟨0x078, 1, 4, 0x276028A, 0x0, 0x0, 0xFFFFFFFF, 0x0⟩,
   ⟨0x07C, 1, 4, 0xFE84FE70, 0x0, 0x0, 0xFFFFFFFF, 0x0⟩,
   ⟨0x080, 1, 4, 0x3D403E8, 0x0, 0x0, 0xFFFFFFFF, 0x0⟩,
   ⟨0x084, 1, 4, 0x200FFFF, 0x0, 0x0, 0xFFFFFFFF, 0x0⟩,
   ⟨0x088, 15, 4, 0x10000, 0x0, 0x0, 0xFFFFFFFF, 0x0⟩,
   ⟨0x200, 1, 4, 0x0, 0x0, 0x0, 0x0, 0x0⟩,
   ⟨0x204, 1, 4, 0x0, 0x0, 0x0, 0x0, 0x0⟩,
   ⟨0x208, 1, 4, 0x0, 0x0, 0x0, 0x0, 0x0⟩,
   ⟨0x20C, 1, 4, 0x0, 0x0, 0x0, 0x0, 0x0⟩,
   ⟨0x210, 1, 4, 0x0, 0x0, 0x0, 0x0, 0x0⟩,
   ⟨0x214, 1, 4, 0x0, 0x0, 0x0, 0x0, 0x0⟩,
   ⟨0x218, 1, 4, 0x0, 0x0, 0x0, 0x0, 0x0⟩,
   ⟨0x21C, 1, 4, 0x0, 0x0, 0x0, 0x0, 0x0⟩,
   ⟨0x220, 1, 4, 0x0, 0x0, 0x0, 0x0, 0x0⟩,
   ⟨0x224, 1, 4, 0x0, 0x0, 0x0, 0x0, 0x0⟩,
   ⟨0x228, 1, 4, 0x0, 0x0, 0x0, 0x0, 0x0⟩,
   ⟨0x22C, 1, 4, 0x0, 0x0, 0x0, 0x0, 0x0⟩,
   ⟨0x230, 1, 4, 0x0, 0x0, 0x0, 0x0, 0x0⟩,
   ⟨0x234, 1, 4, 0x0, 0x0, 0x0, 0x0, 0x0⟩]

/-- The block registers of page 15 (CTS). -/
def rowsCTS : List RegRow :=
  [⟨0x008, 1, 4, 0x0, 0x0, 0x0, 0x0, 0x0⟩,
   ⟨0x00C, 1, 4, 0x1800, 0x0, 0x0, 0x0, 0x0⟩,
   ⟨0x040, 1, 4, 0x0, 0x0, 0x0, 0xFFFFFFFF, 0x0⟩,
   ⟨0x044, 1, 4, 0x0, 0x0, 0x0, 0xFFFFFFFF, 0x0⟩,
   ⟨0x048, 1, 4, 0xC8320014, 0x0, 0x0, 0xFFFFFFFF, 0x0⟩,
   ⟨0x04C, 1, 4, 0x3E803E8, 0x0, 0x0, 0xFFFFFFFF, 0x0⟩,
   ⟨0x050, 1, 4, 0x14000A, 0x0, 0x0, 0xFFFFFFFF, 0x0⟩,
   ⟨0x054, 1, 4, 0x1E141400, 0x0, 0x0, 0xFFFFFFFF, 0x0⟩,
   ⟨0x058, 1, 4, 0xC80032, 0x0, 0x0, 0xFFFFFFFF, 0x0⟩,
   ⟨0x05C, 1, 4, 0x64, 0x0, 0x0, 0xFFFFFFFF, 0x0⟩,
   ⟨0x060, 1, 4, 0x13880064, 0x0, 0x0, 0xFFFFFFFF, 0x0⟩,
   ⟨0x064, 1, 4, 0xA0003, 0x0, 0x0, 0xFFFFFFFF, 0x0⟩,
   ⟨0x100, 1, 4, 0x300, 0x0, 0x0, 0x0, 0x0⟩,
   ⟨0x104, 1, 4, 0x0, 0x0, 0x0, 0x0, 0x0⟩,
   ⟨0x108, 1, 4, 0x0, 0x0, 0x0, 0x0, 0x0⟩,
   ⟨0x10C, 1, 4, 0x0, 0x0, 0x0, 0x0, 0x0⟩,
   ⟨0x110, 1, 4, 0x0, 0x0, 0x0, 0x0, 0x0⟩,
   ⟨0x114, 1, 4, 0x0, 0x0, 0x0, 0x0, 0x0⟩,
   ⟨0x120, 6, 4, 0x0, 0x0, 0x0, 0x0, 0x0⟩]

/-- The block registers of page 16 (OUT). -/
def rowsOUT : List RegRow :=
  [⟨0x040, 16, 4, 0xA140000, 0x0, 0x0, 0xFFFFFFFF, 0x0⟩,
   ⟨0x080, 1, 4, 0x7D19140A, 0x0, 0x0, 0xFFFFFFFF, 0x0⟩,
   ⟨0x084, 1, 4, 0x64, 0x0, 0x0, 0xFFFFFFFF, 0x0⟩,
   ⟨0x100, 1, 4, 0x0, 0x0, 0x0, 0x0, 0x0⟩,
   ⟨0x104, 1, 4, 0x0, 0x0, 0x0, 0x0, 0x0⟩,
   ⟨0x108, 1, 4, 0x0, 0x0, 0x0, 0x0, 0x0⟩,
   ⟨0x10C, 1, 4, 0x0, 0x0, 0x0, 0x0, 0x0⟩,
   ⟨0x110, 16, 4, 0x0, 0x0, 0x0, 0x0, 0x0⟩,
   ⟨0x150, 1, 4, 0x0, 0x0, 0x0, 0x0, 0x0⟩,
   ⟨0x154, 1, 4, 0x0, 0x0, 0xFFFFFFFF, 0x0, 0x0⟩,
   ⟨0x158, 1, 4, 0x0, 0x0, 0x0, 0x0, 0x0⟩,
   ⟨0x15C, 1, 4, 0x0, 0x0, 0x0, 0x0, 0x0⟩,
   ⟨0x160, 1, 4, 0x0, 0x0, 0x0, 0x0, 0x0⟩,
   ⟨0x164, 1, 4, 0x0, 0x0, 0x0, 0x0, 0x0⟩]

/-- The block registers of page 17 (LHM). -/
def rowsLHM : List RegRow :=
  [⟨0x008, 1, 4, 0x0, 0x0, 0x0, 0x0, 0x0⟩,
   ⟨0x00C, 1, 4, 0x0, 0x0, 0x0, 0x0, 0x0⟩,
   ⟨0x020, 1, 4, 0x0, 0x1, 0x0, 0x0, 0x0⟩,
   ⟨0x040, 1, 4, 0x0, 0x1, 0x0, 0x0, 0x0⟩,
   ⟨0x044, 4, 4, 0x0, 0x0, 0x0, 0x0, 0xFFFFFFFF⟩,
   ⟨0x054, 1, 4, 0x0, 0x0, 0x0, 0x0, 0x0⟩,
   ⟨0x058, 1, 4, 0x0, 0x0, 0x0, 0x0, 0x0⟩]

/-- The block registers of page 18 (PMP). -/
def rowsPMP : List RegRow :=
  [⟨0x008, 1, 4, 0x0, 0x0, 0x0, 0x0, 0x0⟩,
   ⟨0x00C, 1, 4, 0x0, 0x0, 0x0, 0x0, 0x0⟩,
   ⟨0x040, 1, 4, 0x9C40064, 0x0, 0x0, 0xFFFFFFFF, 0x0⟩,
   ⟨0x044, 1, 4, 0x1388, 0x0, 0x0, 0xFFFFFFFF, 0x0⟩,
   ⟨0x048, 1, 4, 0x320064, 0x0, 0x0, 0xFFFFFFFF, 0x0⟩,
   ⟨0x04C, 1, 4, 0x9C40004, 0x0, 0x0, 0xFFFFFFFF, 0x0⟩,
   ⟨0x050, 1, 4, 0x3E8012C, 0x0, 0x0, 0xFFFFFFFF, 0x0⟩,
   ⟨0x054, 1, 4, 0x177007D0, 0x0, 0x0, 0xFFFFFFFF, 0x0⟩,
   ⟨0x058, 1, 4, 0x141E0258, 0x0, 0x0, 0xFFFFFFFF, 0x0⟩,
   ⟨0x05C, 1, 4, 0x301405DC, 0x0, 0x0, 0xFFFFFFFF, 0x0⟩,
   ⟨0x060, 1, 4, 0x640014, 0x0, 0x0, 0xFFFFFFFF, 0x0⟩,
   ⟨0x064, 1, 4, 0x6403B6, 0x0, 0x0, 0xFFFFFFFF, 0x0⟩,
   ⟨0x068, 1, 4, 0x1E14, 0x0, 0x0, 0xFFFFFFFF, 0x0⟩,
   ⟨0x06C, 1, 4, 0x0, 0x3FF, 0x0, 0x0, 0x0⟩,
   ⟨0x100, 1, 4, 0x0, 0x0, 0x0, 0x0, 0x0⟩,
   ⟨0x104, 1, 4, 0x0, 0x0, 0x0, 0x0, 0x0⟩,
   ⟨0x108, 1, 4, 0x0, 0x0, 0x0, 0x0, 0x0⟩,
   ⟨0x10C, 1, 4, 0x0, 0x0, 0x0, 0x0, 0x0⟩]

/-- The block registers of page 19 (CPA). -/
def rowsCPA : List RegRow :=
  [⟨0x008, 1, 4, 0x0, 0x0, 0x0, 0x0, 0x0⟩,
   ⟨0x00C, 1, 4, 0x0, 0x0, 0x0, 0x0, 0x0⟩,
   ⟨0x040, 1, 4, 0x0, 0x0, 0x0, 0xFFFFFFFF, 0x0⟩,
   ⟨0x044, 1, 4, 0x0, 0x0, 0x0, 0x0, 0x0⟩,
   ⟨0x048, 1, 4, 0x3, 0x0, 0x0, 0xFFFFFFFF, 0x0⟩,
   ⟨0x04C, 1, 4, 0x10, 0x0, 0x0, 0xFFFFFFFF, 0x0⟩,
   ⟨0x050, 1, 4, 0x0, 0x0, 0x1, 0x0, 0x0⟩,
   ⟨0x054, 1, 4, 0x0, 0x0, 0x0, 0x0, 0x0⟩,
   ⟨0x058, 1, 4, 0x0, 0x0, 0x0, 0x0, 0x0⟩,
   ⟨0x05C, 1, 4, 0x0, 0x0, 0x0, 0x0, 0x0⟩,
   ⟨0x060, 1, 4, 0x0, 0x0, 0x0, 0x0, 0x0⟩,
   ⟨0x064, 1, 4, 0x0, 0x0, 0x0, 0x0, 0x0⟩]

/-- The block registers of page 20 (CPB). -/
def rowsCPB : List RegRow :=
  [⟨0x008, 1, 4, 0x0, 0x0, 0x0, 0x0, 0x0⟩,
   ⟨0x00C, 1, 4, 0x0, 0x0, 0x0, 0x0, 0x0⟩,
   ⟨0x040, 1, 4, 0x0, 0x0, 0x0, 0xFFFFFFFF, 0x0⟩,
   ⟨0x044, 1, 4, 0x0, 0x0, 0x0, 0x0, 0x0⟩,
   ⟨0x048, 1, 4, 0x3, 0x0, 0x0, 0xFFFFFFFF, 0x0⟩,
   ⟨0x04C, 1, 4, 0x10, 0x0, 0x0, 0xFFFFFFFF, 0x0⟩,
   ⟨0x050, 1, 4, 0x0, 0x0, 0x1, 0x0, 0x0⟩,
   ⟨0x054, 1, 4, 0x0, 0x0, 0x0, 0x0, 0x0⟩,
   ⟨0x058, 1, 4, 0x0, 0x0, 0x0, 0x0, 0x0⟩,
   ⟨0x05C, 1, 4, 0x0, 0x0, 0x0, 0x0, 0x0⟩,
   ⟨0x060, 1, 4, 0x0, 0x0, 0x0, 0x0, 0x0⟩,
   ⟨0x064, 1, 4, 0x0, 0x0, 0x0, 0x0, 0x0⟩]

/-- The block registers of page 21 (NVM). -/
def rowsNVM : List RegRow :=
  [⟨0x008, 1, 4, 0x0, 0x0, 0x0, 0x0, 0x0⟩,
   ⟨0x00C, 1, 4, 0x0, 0x0, 0x0, 0x0, 0x0⟩,
   ⟨0x040, 1, 4, 0x0, 0xF, 0x0, 0x0, 0x0⟩,
   ⟨0x044, 1, 4, 0x0, 0x3, 0x0, 0x0, 0x0⟩,
   ⟨0x048, 1, 4, 0x0, 0x0, 0x0, 0x0, 0x0⟩,
   ⟨0x04C, 1, 4, 0x0, 0x0, 0x0, 0x0, 0x0⟩,
   ⟨0x050, 1, 4, 0x0, 0x0, 0x0, 0x0, 0x0⟩,
   ⟨0x054, 1, 4, 0x0, 0x3F, 0x0, 0x0, 0x0⟩,
   ⟨0x058, 1, 4, 0x0, 0x3, 0x0, 0x0, 0x0⟩,
   ⟨0x05C, 1, 4, 0x0, 0x1, 0x0, 0x0, 0x0⟩,
   ⟨0x060, 1, 4, 0x0, 0x0, 0x0, 0x0, 0x0⟩,
   ⟨0x064, 1, 4, 0x0, 0x0, 0x0, 0x0, 0x0⟩,
   ⟨0x068, 1, 4, 0x0, 0x0, 0x0, 0x0, 0x0⟩,
   ⟨0x06C, 1, 4, 0x0, 0x1F, 0x0, 0x0, 0x0⟩,
   ⟨0x070, 1, 4, 0x0, 0xFFFFFFFF, 0x0, 0x0, 0x0⟩]

/-- The block registers of page 22 (CAN1). -/
def rowsCAN1 : List RegRow :=
  [⟨0x008, 1, 4, 0x1, 0x3, 0x0, 0x0, 0x0⟩,
   ⟨0x00C, 1, 4, 0x40, 0x0, 0x0, 0x0, 0x0⟩,
   ⟨0x040, 1, 4, 0x4BE2F2F, 0x0, 0x0, 0x0, 0xFFFFFFFF⟩,
   ⟨0x044, 1, 4, 0x42B0E0E, 0x0, 0x0, 0x0, 0xFFFFFFFF⟩,
   ⟨0x048, 1, 4, 0x0, 0x0, 0x0, 0x0, 0xFFFFFF00⟩,
   ⟨0x04C, 1, 4, 0x1000, 0x0, 0x0, 0x0, 0xFFFFFFFF⟩,
   ⟨0x050, 1, 4, 0x40000005, 0x0, 0x0, 0x0, 0xFFFFFFFF⟩,
   ⟨0x054, 1, 4, 0x0, 0x0, 0x0, 0x0, 0xFFFFFFFF⟩,
   ⟨0x058, 1, 4, 0x0, 0x0, 0x0, 0x0, 0xFFFFFFFF⟩,
   ⟨0x05C, 1, 4, 0xA, 0x0, 0x0, 0x0, 0xFFFFFFFF⟩,
   ⟨0x060, 1, 4, 0x3E8, 0x0, 0x0, 0x0, 0xFFFFFFFF⟩,
   ⟨0x064, 1, 4, 0x0, 0x0, 0x0, 0x0, 0x0⟩,
   ⟨0x068, 1, 4, 0x0, 0x0, 0x0, 0x0, 0x0⟩,
   ⟨0x06C, 1, 4, 0x0, 0x7F, 0x0, 0x0, 0x0⟩,
   ⟨0x070, 1, 4, 0x0, 0x0, 0x0, 0x0, 0x0⟩,
   ⟨0x080, 4, 4, 0x0, 0x0, 0x0, 0x0, 0x0⟩,
   ⟨0x090, 4, 4, 0x0, 0x0, 0x0, 0x0, 0x0⟩,
   ⟨0x0A0, 1, 4, 0x0, 0x0, 0x0, 0x0, 0x0⟩,
   ⟨0x100, 19, 4, 0x0, 0xFFFFFFFF, 0x0, 0x0, 0x0⟩,
   ⟨0x180, 19, 4, 0x0, 0x0, 0x0, 0x0, 0x0⟩,
   ⟨0x400, 192, 4, 0x0, 0x0, 0x0, 0x0, 0xFFFFFFFF⟩]

/-- The block registers of page 23 (CAN2). -/
def rowsCAN2 : List RegRow :=
  [⟨0x008, 1, 4, 0x1, 0x3, 0x0, 0x0, 0x0⟩,
   ⟨0x00C, 1, 4, 0x40, 0x0, 0x0, 0x0, 0x0⟩,
   ⟨0x040, 1, 4, 0x4BE2F2F, 0x0, 0x0, 0x0, 0xFFFFFFFF⟩,
   ⟨0x044, 1, 4, 0x42B0E0E, 0x0, 0x0, 0x0, 0xFFFFFFFF⟩,
   ⟨0x048, 1, 4, 0x0, 0x0, 0x0, 0x0, 0xFFFFFF00⟩,
   ⟨0x04C, 1, 4, 0x1000, 0x0, 0x0, 0x0, 0xFFFFFFFF⟩,
   ⟨0x050, 1, 4, 0x40000005, 0x0, 0x0, 0x0, 0xFFFFFFFF⟩,
   ⟨0x054, 1, 4, 0x0, 0x0, 0x0, 0x0, 0xFFFFFFFF⟩,
   ⟨0x058, 1, 4, 0x0, 0x0, 0x0, 0x0, 0xFFFFFFFF⟩,
   ⟨0x05C, 1, 4, 0xA, 0x0, 0x0, 0x0, 0xFFFFFFFF⟩,
   ⟨0x060, 1, 4, 0x3E8, 0x0, 0x0, 0x0, 0xFFFFFFFF⟩,
   ⟨0x064, 1, 4, 0x0, 0x0, 0x0, 0x0, 0x0⟩,
   ⟨0x068, 1, 4, 0x0, 0x0, 0x0, 0x0, 0x0⟩,
   ⟨0x06C, 1, 4, 0x0, 0x7F, 0x0, 0x0, 0x0⟩,
   ⟨0x070, 1, 4, 0x0, 0x0, 0x0, 0x0, 0x0⟩,
   ⟨0x080, 4, 4, 0x0, 0x0, 0x0, 0x0, 0x0⟩,
   ⟨0x090, 4, 4, 0x0, 0x0, 0x0, 0x0, 0x0⟩,
   ⟨0x0A0, 1, 4, 0x0, 0x0, 0x0, 0x0, 0x0⟩,
   ⟨0x100, 19, 4, 0x0, 0xFFFFFFFF, 0x0, 0x0, 0x0⟩,
   ⟨0x180, 19, 4, 0x0, 0x0, 0x0, 0x0, 0x0⟩,
   ⟨0x400, 192, 4, 0x0, 0x0, 0x0, 0x0, 0xFFFFFFFF⟩]

/-- The block registers of page 24 (CAN3). -/
def rowsCAN3 : List RegRow :=
  [⟨0x008, 1, 4, 0x1, 0x3, 0x0, 0x0, 0x0⟩,
   ⟨0x00C, 1, 4, 0x40, 0x0, 0x0, 0x0, 0x0⟩,
   ⟨0x040, 1, 4, 0x4BE2F2F, 0x0, 0x0, 0x0, 0xFFFFFFFF⟩,
   ⟨0x044, 1, 4, 0x42B0E0E, 0x0, 0x0, 0x0, 0xFFFFFFFF⟩,
   ⟨0x048, 1, 4, 0x0, 0x0, 0x0, 0x0, 0xFFFFFF00⟩,
   ⟨0x04C, 1, 4, 0x1000, 0x0, 0x0, 0x0, 0xFFFFFFFF⟩,
   ⟨0x050, 1, 4, 0x40000005, 0x0, 0x0, 0x0, 0xFFFFFFFF⟩,
   ⟨0x054, 1, 4, 0x0, 0x0, 0x0, 0x0, 0xFFFFFFFF⟩,
   ⟨0x058, 1, 4, 0x0, 0x0, 0x0, 0x0, 0xFFFFFFFF⟩,
   ⟨0x05C, 1, 4, 0xA, 0x0, 0x0, 0x0, 0xFFFFFFFF⟩,
   ⟨0x060, 1, 4, 0x3E8, 0x0, 0x0, 0x0, 0xFFFFFFFF⟩,
   ⟨0x064, 1, 4, 0x0, 0x0, 0x0, 0x0, 0x0⟩,
   ⟨0x068, 1, 4, 0x0, 0x0, 0x0, 0x0, 0x0⟩,
   ⟨0x06C, 1, 4, 0x0, 0x7F, 0x0, 0x0, 0x0⟩,
   ⟨0x070, 1, 4, 0x0, 0x0, 0x0, 0x0, 0x0⟩,
   ⟨0x080, 4, 4, 0x0, 0x0, 0x0, 0x0, 0x0⟩,
   ⟨0x090, 4, 4, 0x0, 0x0, 0x0, 0x0, 0x0⟩,
   ⟨0x0A0, 1, 4, 0x0, 0x0, 0x0, 0x0, 0x0⟩,
   ⟨0x100, 19, 4, 0x0, 0xFFFFFFFF, 0x0, 0x0, 0x0⟩,
   ⟨0x180, 19, 4, 0x0, 0x0, 0x0, 0x0, 0x0⟩,
   ⟨0x400, 192, 4, 0x0, 0x0, 0x0, 0x0, 0xFFFFFFFF⟩]

/-- The block registers of page 25 (CAN4). -/
def rowsCAN4 : List RegRow :=
  [⟨0x008, 1, 4, 0x1, 0x3, 0x0, 0x0, 0x0⟩,
   ⟨0x00C, 1, 4, 0x40, 0x0, 0x0, 0x0, 0x0⟩,
   ⟨0x040, 1, 4, 0x4BE2F2F, 0x0, 0x0, 0x0, 0xFFFFFFFF⟩,
   ⟨0x044, 1, 4, 0x42B0E0E, 0x0, 0x0, 0x0, 0xFFFFFFFF⟩,
   ⟨0x048, 1, 4, 0x0, 0x0, 0x0, 0x0, 0xFFFFFF00⟩,
   ⟨0x04C, 1, 4, 0x1000, 0x0, 0x0, 0x0, 0xFFFFFFFF⟩,
   ⟨0x050, 1, 4, 0x40000005, 0x0, 0x0, 0x0, 0xFFFFFFFF⟩,
   ⟨0x054, 1, 4, 0x0, 0x0, 0x0, 0x0, 0xFFFFFFFF⟩,
   ⟨0x058, 1, 4, 0x0, 0x0, 0x0, 0x0, 0xFFFFFFFF⟩,
   ⟨0x05C, 1, 4, 0xA, 0x0, 0x0, 0x0, 0xFFFFFFFF⟩,
   ⟨0x060, 1, 4, 0x3E8, 0x0, 0x0, 0x0, 0xFFFFFFFF⟩,
   ⟨0x064, 1, 4, 0x0, 0x0, 0x0, 0x0, 0x0⟩,
   ⟨0x068, 1, 4, 0x0, 0x0, 0x0, 0x0, 0x0⟩,
   ⟨0x06C, 1, 4, 0x0, 0x7F, 0x0, 0x0, 0x0⟩,
   ⟨0x070, 1, 4, 0x0, 0x0, 0x0, 0x0, 0x0⟩,
   ⟨0x080, 4, 4, 0x0, 0x0, 0x0, 0x0, 0x0⟩,
   ⟨0x090, 4, 4, 0x0, 0x0, 0x0, 0x0, 0x0⟩,
   ⟨0x0A0, 1, 4, 0x0, 0x0, 0x0, 0x0, 0x0⟩,
   ⟨0x100, 19, 4, 0x0, 0xFFFFFFFF, 0x0, 0x0, 0x0⟩,
   ⟨0x180, 19, 4, 0x0, 0x0, 0x0, 0x0, 0x0⟩,
   ⟨0x400, 192, 4, 0x0, 0x0, 0x0, 0x0, 0xFFFFFFFF⟩]

/-- The block registers of page 26 (TKT). -/
def rowsTKT : List RegRow :=
  [⟨0x100, 32, 16, 0x0, 0x0, 0x0, 0xFFFFFFFF, 0x0⟩,
   ⟨0x104, 32, 16, 0x0, 0x0, 0x0, 0xFFFFFFFF, 0x0⟩,
   ⟨0x108, 32, 16, 0x19000300, 0x0, 0x0, 0xFFFFFFFF, 0x0⟩,
   ⟨0x10C, 32, 16, 0x0, 0x0, 0x0, 0x0, 0x0⟩,
   ⟨0x300, 1, 4, 0x0, 0x0, 0x0, 0x0, 0x0⟩,
   ⟨0x304, 1, 4, 0x0, 0x0, 0x0, 0x0, 0x0⟩,
   ⟨0x308, 1, 4, 0x0, 0x0, 0x0, 0x0, 0x0⟩,
   ⟨0x30C, 1, 4, 0x0, 0x0, 0x0, 0x0, 0x0⟩]

/-- The block registers of page 27 (HST). -/
def rowsHST : List RegRow :=
  [⟨0x00C, 1, 4, 0x0, 0x0, 0x0, 0x0, 0x0⟩,
   ⟨0x040, 1, 4, 0x0, 0x0, 0x0, 0xFFFFFFFF, 0x0⟩,
   ⟨0x044, 1, 4, 0x0, 0xFFF, 0x0, 0x0, 0x0⟩,
   ⟨0x048, 1, 4, 0x0, 0x0, 0x0, 0x0, 0x0⟩,
   ⟨0x04C, 1, 4, 0x0, 0x0, 0x0, 0x0, 0x0⟩,
   ⟨0x050, 1, 4, 0x0, 0x0, 0x0, 0x0, 0x0⟩,
   ⟨0x054, 1, 4, 0x0, 0x0, 0xF, 0x0, 0x0⟩,
   ⟨0x100, 32, 4, 0x0, 0x0, 0x0, 0x0, 0x0⟩]

/-- The block registers of page 28 (TMB). -/
def rowsTMB : List RegRow :=
  [⟨0x040, 1, 4, 0x0, 0x0, 0x0, 0x0, 0x0⟩,
   ⟨0x044, 1, 4, 0x0, 0x0, 0x0, 0x0, 0x0⟩,
   ⟨0x048, 1, 4, 0x0, 0x0, 0x0, 0x0, 0x0⟩,
   ⟨0x04C, 1, 4, 0x0, 0x0, 0x0, 0x0, 0x0⟩,
   ⟨0x050, 1, 4, 0x0, 0x0, 0x0, 0x0, 0x0⟩,
   ⟨0x054, 1, 4, 0x0, 0x0, 0x0, 0x0, 0x0⟩,
   ⟨0x058, 1, 4, 0x0, 0x0, 0x0, 0x0, 0x0⟩,
   ⟨0x05C, 1, 4, 0x0, 0x0, 0x0, 0x0, 0x0⟩,
   ⟨0x060, 1, 4, 0x0, 0x0, 0x0, 0x0, 0x0⟩,
   ⟨0x064, 1, 4, 0x0, 0x0, 0x0, 0x0, 0x0⟩,
   ⟨0x068, 1, 4, 0x0, 0x0, 0x7, 0x0, 0x0⟩]

/-- The block registers of page 29 (BBX). -/
def rowsBBX : List RegRow :=
  [⟨0x008, 1, 4, 0x0, 0x0, 0x0, 0x0, 0x0⟩,
   ⟨0x00C, 1, 4, 0x0, 0x0, 0x0, 0x0, 0x0⟩,
   ⟨0x040, 1, 4, 0x80000001, 0x800000FF, 0x0, 0x0, 0x0⟩,
   ⟨0x044, 1, 4, 0x0, 0x3FF, 0x0, 0x0, 0x0⟩,
   ⟨0x048, 8, 4, 0xFFFFFFFF, 0xFFFFFFFF, 0x0, 0x0, 0x0⟩,
   ⟨0x068, 1, 4, 0x0, 0x0, 0x0, 0x0, 0x0⟩,
   ⟨0x06C, 1, 4, 0x0, 0x0, 0x0, 0x0, 0x0⟩,
   ⟨0x070, 1, 4, 0x0, 0x0, 0x0, 0x0, 0x0⟩,
   ⟨0x074, 1, 4, 0x0, 0x0, 0x0, 0x0, 0x0⟩,
   ⟨0x078, 1, 4, 0x0, 0x0, 0x0, 0x0, 0x0⟩,
   ⟨0x07C, 1, 4, 0x0, 0x0, 0x0, 0x0, 0x0⟩,
   ⟨0x080, 3, 4, 0x0, 0xFFFFFFFF, 0x0, 0x0, 0x0⟩,
   ⟨0x08C, 1, 4, 0x0, 0x0, 0xF, 0x0, 0x0⟩]

/-- The block registers of page 30 (EVC). -/
def rowsEVC : List RegRow :=
  [⟨0x040, 1, 4, 0x3BDFEA7F, 0x0, 0x0, 0xFFFFFFFF, 0x0⟩,
   ⟨0x044, 1, 4, 0x55555, 0x0, 0x0, 0xFFFFFFFF, 0x0⟩,
   ⟨0x048, 1, 4, 0x0, 0x0, 0x0, 0xFFFFFFFF, 0x0⟩,
   ⟨0x04C, 1, 4, 0x55555555, 0x0, 0x0, 0xFFFFFFFF, 0x0⟩,
   ⟨0x050, 1, 4, 0xAAAAAAA, 0x0, 0x0, 0xFFFFFFFF, 0x0⟩,
   ⟨0x054, 1, 4, 0x2AAA, 0x0, 0x0, 0xFFFFFFFF, 0x0⟩,
   ⟨0x058, 1, 4, 0x55555555, 0x0, 0x0, 0xFFFFFFFF, 0x0⟩,
   ⟨0x05C, 1, 4, 0xAAAAAAAA, 0x0, 0x0, 0xFFFFFFFF, 0x0⟩,
   ⟨0x060, 1, 4, 0x55555555, 0x0, 0x0, 0xFFFFFFFF, 0x0⟩,
   ⟨0x064, 1, 4, 0x155, 0x0, 0x0, 0xFFFFFFFF, 0x0⟩,
   ⟨0x068, 1, 4, 0x55555555, 0x0, 0x0, 0xFFFFFFFF, 0x0⟩,
   ⟨0x06C, 1, 4, 0x1555555, 0x0, 0x0, 0xFFFFFFFF, 0x0⟩,
   ⟨0x070, 1, 4, 0x15550000, 0x0, 0x0, 0xFFFFFFFF, 0x0⟩,
   ⟨0x074, 1, 4, 0xFA95AAAA, 0x0, 0x0, 0xFFFFFFFF, 0x0⟩,
   ⟨0x078, 1, 4, 0xAAAAAAAA, 0x0, 0x0, 0xFFFFFFFF, 0x0⟩,
   ⟨0x07C, 1, 4, 0xEAFFAAAA, 0x0, 0x0, 0xFFFFFFFF, 0x0⟩,
   ⟨0x100, 1, 4, 0x0, 0x0, 0x0, 0x0, 0x0⟩,
   ⟨0x104, 1, 4, 0x0, 0x0, 0x0, 0x0, 0x0⟩,
   ⟨0x110, 8, 4, 0x0, 0x0, 0x0, 0x0, 0x0⟩,
   ⟨0x130, 8, 4, 0x0, 0x0, 0x0, 0x0, 0x0⟩]

/-- The block registers of page 31 (DBG). -/
def rowsDBG : List RegRow :=
  [⟨0x00C, 1, 4, 0x0, 0x0, 0x0, 0x0, 0x0⟩,
   ⟨0x040, 1, 4, 0x0, 0x0, 0x0, 0x0, 0x0⟩]

/-- The block registers of each page, in page order (Table 19.1). -/
def pageRows : Nat → List RegRow
  | 0 => rowsSYS
  | 1 => rowsCLK
  | 2 => rowsPWR
  | 3 => rowsRST
  | 4 => rowsTT
  | 5 => rowsSTG
  | 6 => rowsCELL
  | 7 => rowsIPK
  | 8 => rowsHVM
  | 9 => rowsTHM
  | 10 => rowsBAL
  | 11 => rowsCSC
  | 12 => rowsEST
  | 13 => rowsEIS
  | 14 => rowsSAF
  | 15 => rowsCTS
  | 16 => rowsOUT
  | 17 => rowsLHM
  | 18 => rowsPMP
  | 19 => rowsCPA
  | 20 => rowsCPB
  | 21 => rowsNVM
  | 22 => rowsCAN1
  | 23 => rowsCAN2
  | 24 => rowsCAN3
  | 25 => rowsCAN4
  | 26 => rowsTKT
  | 27 => rowsHST
  | 28 => rowsTMB
  | 29 => rowsBBX
  | 30 => rowsEVC
  | 31 => rowsDBG
  | _ => []

/-- The offset of a register is one of the row's. -/
def RegRow.hits (r : RegRow) (off : Nat) : Bool :=
  decide (r.off ≤ off) && decide (off < r.off + r.count * r.stride) && decide ((off - r.off) % r.stride = 0)

/-- The row of a page that holds an offset. -/
def rowAt (page off : Nat) : Option RegRow := (pageRows page).find? (·.hits off)

/-- The pages with staged copies (Table 19.1). -/
def hasStaged (page : Nat) : Bool := (pageRows page).any (·.rws ≠ 0)

/-- The pages whose staged copies may only be committed at POINT 0 (Table 19.1). -/
def pointZeroOnly (page : Nat) : Bool := [4, 6, 11, 19, 20].contains page

/-- The redundant copies of the SAF thresholds lie 0x100 above the primaries (R215). -/
def safCopyOff (off : Nat) : Option Nat :=
  if 0x140 ≤ off ∧ off ≤ 0x1C0 then some (off - 0x100) else none

/-- The row of a register, the redundant copies of the SAF page included. -/
def rowOf (page off : Nat) : Option RegRow :=
  match rowAt page off with
  | some r => some r
  | none => if page = 14 then (safCopyOff off).bind (rowAt page) else none

/-- Reset word of `ID` (Table 19.2), on the full build. -/
def idWord (page : Nat) : Nat :=
  if page = 0 then 0x48482101 else (0xAE00 + page) * 0x10000 + 0x2100 + page

/-- Reset word of the register at an offset of a page. The registers named here are the fixed ones of R419;
a staged copy starts as its active register (R59). -/
def resetAt (page off : Nat) : Nat :=
  if off = 0 then idWord page
  else if off = 4 then 0x0100
  else match rowOf page off with
    | some r => r.rst
    | none =>
      if 0x840 ≤ off then
        match rowOf page (off - 0x800) with
        | some r => r.rst &&& r.rws
        | none => 0
      else 0

/-- Reset word of a register address. -/
def resetWord (addr : Nat) : Word :=
  BitVec.ofNat 32 (resetAt ((addr - 0x40000000) / 0x1000) ((addr - 0x40000000) % 0x1000))

namespace Reg

def TT_IMGSEL : Nat := 0x40004040
def TT_IMGSEL_BUF : Fld := ⟨TT_IMGSEL, 0, 1, 4⟩
def TT_SCHED : Nat := 0x40004044
def TT_SCHED_RUNMODE : Fld := ⟨TT_SCHED, 0, 1, 4⟩
def TT_CVER : Nat := 0x40004048
def TT_CVER_MAJORMINORMAX : Fld := ⟨TT_CVER, 0, 16, 4⟩
def TT_LOADADDR : Nat := 0x4000404C
def TT_LOADADDR_ADDR : Fld := ⟨TT_LOADADDR, 0, 32, 4⟩
def TT_LOAD : Nat := 0x40004050
def TT_LOAD_BUF : Fld := ⟨TT_LOAD, 4, 1, 4⟩
def TT_LOAD_GO : Fld := ⟨TT_LOAD, 0, 1, 4⟩
def TT_LOADSTAT : Nat := 0x40004054
def TT_LOADSTAT_REASON1 : Fld := ⟨TT_LOADSTAT, 12, 4, 4⟩
def TT_LOADSTAT_STATE1 : Fld := ⟨TT_LOADSTAT, 8, 2, 4⟩
def TT_LOADSTAT_REASON0 : Fld := ⟨TT_LOADSTAT, 4, 4, 4⟩
def TT_LOADSTAT_STATE0 : Fld := ⟨TT_LOADSTAT, 0, 2, 4⟩
def TT_NOW : Nat := 0x40004058
def TT_NOW_SLOT : Fld := ⟨TT_NOW, 0, 10, 4⟩
def TT_OVRLIM : Nat := 0x4000405C
def TT_OVRLIM_LIMIT : Fld := ⟨TT_OVRLIM, 0, 4, 4⟩
def TT_OVRSTAT : Nat := 0x40004060
def TT_OVRSTAT_COUNT : Fld := ⟨TT_OVRSTAT, 24, 4, 4⟩
def TT_OVRSTAT_TYPE : Fld := ⟨TT_OVRSTAT, 16, 6, 4⟩
def TT_OVRSTAT_ENTRY : Fld := ⟨TT_OVRSTAT, 0, 12, 4⟩
def TT_DONEA : Nat := 0x40004064
def TT_DONEA_KILLACK : Fld := ⟨TT_DONEA, 12, 1, 4⟩
def TT_DONEA_ENTRY : Fld := ⟨TT_DONEA, 0, 12, 4⟩
def TT_DONEB : Nat := 0x40004068
def TT_DONEB_KILLACK : Fld := ⟨TT_DONEB, 12, 1, 4⟩
def TT_DONEB_ENTRY : Fld := ⟨TT_DONEB, 0, 12, 4⟩
def TT_SETID : Nat := 0x4000406C
def TT_SETID_SETID : Fld := ⟨TT_SETID, 0, 32, 4⟩
def TT_SKIPCNT : Nat := 0x40004070
def TT_SKIPCNT_COUNT : Fld := ⟨TT_SKIPCNT, 0, 16, 4⟩
def STG_MASK : Nat := 0x40005040
def STG_MASK_PAGES : Fld := ⟨STG_MASK, 0, 32, 4⟩
def STG_CMD : Nat := 0x40005044
def STG_CMD_CASCADE : Fld := ⟨STG_CMD, 8, 1, 4⟩
def STG_CMD_POINT : Fld := ⟨STG_CMD, 4, 4, 4⟩
def STG_CMD_DISARM : Fld := ⟨STG_CMD, 1, 1, 4⟩
def STG_CMD_ARM : Fld := ⟨STG_CMD, 0, 1, 4⟩
def STG_STAT : Nat := 0x40005048
def STG_STAT_CASCADE : Fld := ⟨STG_STAT, 8, 1, 4⟩
def STG_STAT_SLIPS : Fld := ⟨STG_STAT, 4, 4, 4⟩
def STG_STAT_STATE : Fld := ⟨STG_STAT, 0, 3, 4⟩
def STG_FAIL : Nat := 0x4000504C
def STG_FAIL_DEV : Fld := ⟨STG_FAIL, 24, 3, 4⟩
def STG_FAIL_PAGE : Fld := ⟨STG_FAIL, 16, 5, 4⟩
def STG_FAIL_WORD : Fld := ⟨STG_FAIL, 6, 10, 4⟩
def STG_FAIL_CHECK : Fld := ⟨STG_FAIL, 0, 4, 4⟩
def STG_CTICK : Nat := 0x40005050
def STG_CTICK_TICK : Fld := ⟨STG_CTICK, 0, 32, 4⟩
def CELL_CTRL : Nat := 0x40006008
def CELL_CTRL_MODE : Fld := ⟨CELL_CTRL, 4, 1, 4⟩
def CELL_CTRL_OWREQ : Fld := ⟨CELL_CTRL, 0, 1, 4⟩
def CELL_STAT : Nat := 0x4000600C
def CELL_STAT_REFFAULT : Fld := ⟨CELL_STAT, 2, 1, 4⟩
def CELL_STAT_BARRIER : Fld := ⟨CELL_STAT, 1, 1, 4⟩
def CELL_STAT_SUMFAULT : Fld := ⟨CELL_STAT, 0, 1, 4⟩
def CELL_POPL : Nat := 0x40006040
def CELL_POPL_POP : Fld := ⟨CELL_POPL, 0, 32, 4⟩
def CELL_POPH : Nat := 0x40006044
def CELL_POPH_POP : Fld := ⟨CELL_POPH, 0, 16, 4⟩
def CELL_OWCFG : Nat := 0x40006048
def CELL_OWCFG_THRESH : Fld := ⟨CELL_OWCFG, 16, 11, 4⟩
def CELL_OWCFG_ISEL : Fld := ⟨CELL_OWCFG, 8, 1, 4⟩
def CELL_QCFG : Nat := 0x4000604C
def CELL_QCFG_QK : Fld := ⟨CELL_QCFG, 8, 6, 4⟩
def CELL_QCFG_QPER : Fld := ⟨CELL_QCFG, 0, 8, 4⟩
def CELL_SEGCFG : Nat := 0x40006050
def CELL_SEGCFG_SEGTOL : Fld := ⟨CELL_SEGCFG, 0, 10, 4⟩
def CELL_OWSTAT : Nat := 0x40006054
def CELL_OWSTAT_STATE : Fld := ⟨CELL_OWSTAT, 16, 2, 4⟩
def CELL_OWSTAT_NOPEN : Fld := ⟨CELL_OWSTAT, 0, 6, 4⟩
def CELL_OWRES0 : Nat := 0x40006058
def CELL_OWRES0_OPEN : Fld := ⟨CELL_OWRES0, 0, 32, 4⟩
def CELL_OWRES1 : Nat := 0x4000605C
def CELL_OWRES1_OPEN : Fld := ⟨CELL_OWRES1, 0, 17, 4⟩
def CELL_SAT0 : Nat := 0x40006060
def CELL_SAT0_SAT : Fld := ⟨CELL_SAT0, 0, 32, 4⟩
def CELL_SAT1 : Nat := 0x40006064
def CELL_SAT1_SAT : Fld := ⟨CELL_SAT1, 0, 16, 4⟩
def CELL_SEGV : Nat := 0x40006068
def CELL_SEGV_VOLT : Fld := ⟨CELL_SEGV, 0, 24, 4⟩
def CELL_SEGDIFF : Nat := 0x4000606C
def CELL_SEGDIFF_DIFF : Fld := ⟨CELL_SEGDIFF, 0, 24, 4⟩
def CELL_REFCHK : Nat := 0x40006070
def CELL_REFCHK_DIFF : Fld := ⟨CELL_REFCHK, 0, 16, 4⟩
def CELL_LTICK : Nat := 0x40006074
def CELL_LTICK_TICK : Fld := ⟨CELL_LTICK, 0, 32, 4⟩
def CELL_QTICK : Nat := 0x40006078
def CELL_QTICK_TICK : Fld := ⟨CELL_QTICK, 0, 32, 4⟩
def CELL_DATA : Nat := 0x40006100
def CELL_DATA_SAT : Fld := ⟨CELL_DATA, 31, 1, 4⟩
def CELL_DATA_BAL : Fld := ⟨CELL_DATA, 30, 1, 4⟩
def CELL_DATA_OWT : Fld := ⟨CELL_DATA, 29, 1, 4⟩
def CELL_DATA_UNPOP : Fld := ⟨CELL_DATA, 28, 1, 4⟩
def CELL_DATA_CODE : Fld := ⟨CELL_DATA, 0, 24, 4⟩
def CELL_QDATA : Nat := 0x40006200
def CELL_QDATA_SAT : Fld := ⟨CELL_QDATA, 31, 1, 4⟩
def CELL_QDATA_VALID : Fld := ⟨CELL_QDATA, 30, 1, 4⟩
def CELL_QDATA_CODE : Fld := ⟨CELL_QDATA, 0, 24, 4⟩
def IPK_STAT : Nat := 0x4000700C
def IPK_STAT_HALLRANGE : Fld := ⟨IPK_STAT, 4, 1, 4⟩
def IPK_STAT_HALLDIS : Fld := ⟨IPK_STAT, 3, 1, 4⟩
def IPK_STAT_ISHDIS : Fld := ⟨IPK_STAT, 2, 1, 4⟩
def IPK_STAT_OCDIS : Fld := ⟨IPK_STAT, 1, 1, 4⟩
def IPK_STAT_OCCHG : Fld := ⟨IPK_STAT, 0, 1, 4⟩
def IPK_CFG : Nat := 0x40007040
def IPK_CFG_HALLPOL : Fld := ⟨IPK_CFG, 9, 1, 4⟩
def IPK_CFG_HALLEN : Fld := ⟨IPK_CFG, 8, 1, 4⟩
def IPK_CFG_ISH2USE : Fld := ⟨IPK_CFG, 4, 2, 4⟩
def IPK_CFG_POL2 : Fld := ⟨IPK_CFG, 1, 1, 4⟩
def IPK_CFG_POL1 : Fld := ⟨IPK_CFG, 0, 1, 4⟩
def IPK_RSH1 : Nat := 0x40007044
def IPK_RSH1_RES : Fld := ⟨IPK_RSH1, 0, 24, 4⟩
def IPK_RSH2 : Nat := 0x40007048
def IPK_RSH2_RES : Fld := ⟨IPK_RSH2, 0, 24, 4⟩
def IPK_OCCFG : Nat := 0x4000704C
def IPK_OCCFG_DIS : Fld := ⟨IPK_OCCFG, 16, 8, 4⟩
def IPK_OCCFG_CHG : Fld := ⟨IPK_OCCFG, 0, 8, 4⟩
def IPK_OCCFGR : Nat := 0x40007050
def IPK_OCCFGR_DIS : Fld := ⟨IPK_OCCFGR, 16, 8, 4⟩
def IPK_OCCFGR_CHG : Fld := ⟨IPK_OCCFGR, 0, 8, 4⟩
def IPK_HALLCAL : Nat := 0x40007054
def IPK_HALLCAL_VZERO : Fld := ⟨IPK_HALLCAL, 16, 16, 4⟩
def IPK_HALLCAL_SENS : Fld := ⟨IPK_HALLCAL, 0, 16, 4⟩
def IPK_HALLTOL : Nat := 0x40007058
def IPK_HALLTOL_DWELL : Fld := ⟨IPK_HALLTOL, 24, 8, 4⟩
def IPK_HALLTOL_REL : Fld := ⟨IPK_HALLTOL, 12, 12, 4⟩
def IPK_HALLTOL_ABS : Fld := ⟨IPK_HALLTOL, 0, 12, 4⟩
def IPK_ISHTOL : Nat := 0x4000705C
def IPK_ISHTOL_DWELL : Fld := ⟨IPK_ISHTOL, 24, 8, 4⟩
def IPK_ISHTOL_REL : Fld := ⟨IPK_ISHTOL, 12, 12, 4⟩
def IPK_ISHTOL_ABS : Fld := ⟨IPK_ISHTOL, 0, 12, 4⟩
def IPK_ISH1 : Nat := 0x40007100
def IPK_ISH1_SAT : Fld := ⟨IPK_ISH1, 31, 1, 4⟩
def IPK_ISH1_CODE : Fld := ⟨IPK_ISH1, 0, 24, 4⟩
def IPK_ISH2 : Nat := 0x40007104
def IPK_ISH2_SAT : Fld := ⟨IPK_ISH2, 31, 1, 4⟩
def IPK_ISH2_CODE : Fld := ⟨IPK_ISH2, 0, 24, 4⟩
def IPK_CUR1 : Nat := 0x40007108
def IPK_CUR1_MA : Fld := ⟨IPK_CUR1, 0, 32, 4⟩
def IPK_CUR2 : Nat := 0x4000710C
def IPK_CUR2_MA : Fld := ⟨IPK_CUR2, 0, 32, 4⟩
def IPK_HALL : Nat := 0x40007110
def IPK_HALL_CODE : Fld := ⟨IPK_HALL, 0, 16, 4⟩
def IPK_HALLCUR : Nat := 0x40007114
def IPK_HALLCUR_MA : Fld := ⟨IPK_HALLCUR, 0, 32, 4⟩
def IPK_AVG1 : Nat := 0x40007118
def IPK_AVG1_MA : Fld := ⟨IPK_AVG1, 0, 32, 4⟩
def IPK_AVG2 : Nat := 0x4000711C
def IPK_AVG2_MA : Fld := ⟨IPK_AVG2, 0, 32, 4⟩
def IPK_AVGH : Nat := 0x40007120
def IPK_AVGH_MA : Fld := ⟨IPK_AVGH, 0, 32, 4⟩
def IPK_LTICK : Nat := 0x40007124
def IPK_LTICK_TICK : Fld := ⟨IPK_LTICK, 0, 32, 4⟩
def HVM_CTRL : Nat := 0x40008008
def HVM_CTRL_ISOREQ : Fld := ⟨HVM_CTRL, 0, 1, 4⟩
def HVM_STAT : Nat := 0x4000800C
def HVM_STAT_STRESS : Fld := ⟨HVM_STAT, 1, 1, 4⟩
def HVM_STAT_ISORUN : Fld := ⟨HVM_STAT, 0, 1, 4⟩
def HVM_ACFG : Nat := 0x40008040
def HVM_ACFG_ANCHOR : Fld := ⟨HVM_ACFG, 0, 1, 4⟩
def HVM_RATIO : Nat := 0x40008044
def HVM_RATIO_RATIO : Fld := ⟨HVM_RATIO, 0, 32, 4⟩
def HVM_ISOCH : Nat := 0x40008054
def HVM_ISOCH_RATIO : Fld := ⟨HVM_ISOCH, 0, 32, 4⟩
def HVM_ISORA : Nat := 0x40008058
def HVM_ISORA_KOHM : Fld := ⟨HVM_ISORA, 0, 16, 4⟩
def HVM_ISORB : Nat := 0x4000805C
def HVM_ISORB_KOHM : Fld := ⟨HVM_ISORB, 0, 16, 4⟩
def HVM_ISORM : Nat := 0x40008060
def HVM_ISORM_KOHM : Fld := ⟨HVM_ISORM, 0, 16, 4⟩
def HVM_ISOTHR : Nat := 0x40008064
def HVM_ISOTHR_WARN : Fld := ⟨HVM_ISOTHR, 16, 16, 4⟩
def HVM_ISOTHR_FAULT : Fld := ⟨HVM_ISOTHR, 0, 16, 4⟩
def HVM_HVD : Nat := 0x40008100
def HVM_HVD_SAT : Fld := ⟨HVM_HVD, 31, 1, 4⟩
def HVM_HVD_CODE : Fld := ⟨HVM_HVD, 0, 24, 4⟩
def HVM_VOLT : Nat := 0x40008110
def HVM_VOLT_MV : Fld := ⟨HVM_VOLT, 0, 24, 4⟩
def HVM_CHASSIS : Nat := 0x40008120
def HVM_CHASSIS_MV : Fld := ⟨HVM_CHASSIS, 0, 24, 4⟩
def HVM_ISOVMAX : Nat := 0x40008124
def HVM_ISOVMAX_MV : Fld := ⟨HVM_ISOVMAX, 0, 24, 4⟩
def HVM_ISORES : Nat := 0x40008128
def HVM_ISORES_RN : Fld := ⟨HVM_ISORES, 16, 16, 4⟩
def HVM_ISORES_RP : Fld := ⟨HVM_ISORES, 0, 16, 4⟩
def HVM_ISOSTAT : Nat := 0x4000812C
def HVM_ISOSTAT_STATE : Fld := ⟨HVM_ISOSTAT, 16, 2, 4⟩
def HVM_ISOSTAT_INCONS : Fld := ⟨HVM_ISOSTAT, 9, 1, 4⟩
def HVM_ISOSTAT_UNSETTLED : Fld := ⟨HVM_ISOSTAT, 8, 1, 4⟩
def HVM_ISOSTAT_PHASE : Fld := ⟨HVM_ISOSTAT, 0, 2, 4⟩
def HVM_LTICK : Nat := 0x40008130
def HVM_LTICK_TICK : Fld := ⟨HVM_LTICK, 0, 32, 4⟩
def HVM_ISOTICK : Nat := 0x40008134
def HVM_ISOTICK_TICK : Fld := ⟨HVM_ISOTICK, 0, 32, 4⟩
def CSC_CTRL : Nat := 0x4000B008
def CSC_CTRL_ENUMREQ : Fld := ⟨CSC_CTRL, 0, 1, 4⟩
def CSC_STAT : Nat := 0x4000B00C
def CSC_STAT_TRIPOUT : Fld := ⟨CSC_STAT, 5, 1, 4⟩
def CSC_STAT_TRIPIN : Fld := ⟨CSC_STAT, 4, 1, 4⟩
def CSC_STAT_NOLEAD : Fld := ⟨CSC_STAT, 3, 1, 4⟩
def CSC_STAT_REVERSED : Fld := ⟨CSC_STAT, 2, 1, 4⟩
def CSC_STAT_ENUM : Fld := ⟨CSC_STAT, 1, 1, 4⟩
def CSC_STAT_LOCK : Fld := ⟨CSC_STAT, 0, 1, 4⟩
def CSC_CFG : Nat := 0x4000B040
def CSC_CFG_NDEV : Fld := ⟨CSC_CFG, 0, 4, 4⟩
def CSC_LOSSCFG : Nat := 0x4000B044
def CSC_LOSSCFG_FTRIP : Fld := ⟨CSC_LOSSCFG, 16, 8, 4⟩
def CSC_LOSSCFG_LTMO : Fld := ⟨CSC_LOSSCFG, 8, 8, 4⟩
def CSC_LOSSCFG_FLOST : Fld := ⟨CSC_LOSSCFG, 0, 4, 4⟩
def CSC_SYNCCFG : Nat := 0x4000B048
def CSC_SYNCCFG_DLY : Fld := ⟨CSC_SYNCCFG, 0, 6, 4⟩
def CSC_ENUMSTAT : Nat := 0x4000B04C
def CSC_ENUMSTAT_NFOUND : Fld := ⟨CSC_ENUMSTAT, 0, 4, 4⟩
def CSC_RINGSTAT : Nat := 0x4000B050
def CSC_RINGSTAT_BRKCNT : Fld := ⟨CSC_RINGSTAT, 16, 8, 4⟩
def CSC_RINGSTAT_BRKLAST : Fld := ⟨CSC_RINGSTAT, 8, 3, 4⟩
def CSC_RINGSTAT_BRKFIRST : Fld := ⟨CSC_RINGSTAT, 4, 3, 4⟩
def CSC_RINGSTAT_BROKEN : Fld := ⟨CSC_RINGSTAT, 0, 1, 4⟩
def CSC_PRESENT : Nat := 0x4000B054
def CSC_PRESENT_DEV : Fld := ⟨CSC_PRESENT, 0, 8, 4⟩
def CSC_LOST : Nat := 0x4000B058
def CSC_LOST_DEV : Fld := ⟨CSC_LOST, 0, 8, 4⟩
def CSC_UNSYNC : Nat := 0x4000B05C
def CSC_UNSYNC_DEV : Fld := ⟨CSC_UNSYNC, 0, 8, 4⟩
def CSC_TRIPSRC : Nat := 0x4000B060
def CSC_TRIPSRC_LATCH : Fld := ⟨CSC_TRIPSRC, 8, 8, 4⟩
def CSC_TRIPSRC_NOW : Fld := ⟨CSC_TRIPSRC, 0, 8, 4⟩
def CSC_XFERERR : Nat := 0x4000B064
def CSC_XFERERR_COUNT : Fld := ⟨CSC_XFERERR, 0, 16, 4⟩
def CSC_CRCERR : Nat := 0x4000B068
def CSC_CRCERR_COUNT : Fld := ⟨CSC_CRCERR, 0, 16, 4⟩
def CSC_LFRAME : Nat := 0x4000B06C
def CSC_LFRAME_FRAME : Fld := ⟨CSC_LFRAME, 0, 32, 4⟩
def CSC_DIGEST : Nat := 0x4000B070
def CSC_DIGEST_DIGEST : Fld := ⟨CSC_DIGEST, 0, 32, 4⟩
def EST_CTRL : Nat := 0x4000C008
def EST_CTRL_CAPRST : Fld := ⟨EST_CTRL, 3, 1, 4⟩
def EST_CTRL_REINIT : Fld := ⟨EST_CTRL, 2, 1, 4⟩
def EST_CTRL_JWRITE : Fld := ⟨EST_CTRL, 1, 1, 4⟩
def EST_CTRL_RESYNC : Fld := ⟨EST_CTRL, 0, 1, 4⟩
def EST_STAT : Nat := 0x4000C00C
def EST_STAT_MODEL : Fld := ⟨EST_STAT, 8, 1, 4⟩
def EST_STAT_INIT : Fld := ⟨EST_STAT, 7, 1, 4⟩
def EST_STAT_GAP : Fld := ⟨EST_STAT, 6, 1, 4⟩
def EST_STAT_CURINV : Fld := ⟨EST_STAT, 5, 1, 4⟩
def EST_STAT_STALE : Fld := ⟨EST_STAT, 4, 1, 4⟩
def EST_STAT_CAPSUS : Fld := ⟨EST_STAT, 3, 1, 4⟩
def EST_STAT_SOCDIS : Fld := ⟨EST_STAT, 2, 1, 4⟩
def EST_STAT_EOD : Fld := ⟨EST_STAT, 1, 1, 4⟩
def EST_STAT_EOC : Fld := ⟨EST_STAT, 0, 1, 4⟩
def EST_CFG : Nat := 0x4000C040
def EST_CFG_QNOM : Fld := ⟨EST_CFG, 16, 16, 4⟩
def EST_CFG_ETA : Fld := ⟨EST_CFG, 0, 16, 4⟩
def EST_TBLSEL : Nat := 0x4000C044
def EST_TBLSEL_BANK : Fld := ⟨EST_TBLSEL, 0, 1, 4⟩
def EST_RATE : Nat := 0x4000C048
def EST_RATE_RATE : Fld := ⟨EST_RATE, 0, 10, 4⟩
def EST_NOISE1 : Nat := 0x4000C04C
def EST_NOISE1_SIGZ : Fld := ⟨EST_NOISE1, 16, 16, 4⟩
def EST_NOISE1_SIGV : Fld := ⟨EST_NOISE1, 0, 16, 4⟩
def EST_NOISE2 : Nat := 0x4000C050
def EST_NOISE2_SIGRHO : Fld := ⟨EST_NOISE2, 16, 16, 4⟩
def EST_MEAS : Nat := 0x4000C054
def EST_MEAS_MEASS : Fld := ⟨EST_MEAS, 16, 16, 4⟩
def EST_MEAS_MEASF : Fld := ⟨EST_MEAS, 0, 16, 4⟩
def EST_DISCFG : Nat := 0x4000C058
def EST_DISCFG_HOLD : Fld := ⟨EST_DISCFG, 16, 16, 4⟩
def EST_DISCFG_THR : Fld := ⟨EST_DISCFG, 0, 16, 4⟩
def EST_INNCFG : Nat := 0x4000C05C
def EST_INNCFG_DWELL : Fld := ⟨EST_INNCFG, 24, 8, 4⟩
def EST_INNCFG_THR : Fld := ⟨EST_INNCFG, 0, 16, 4⟩
def EST_EOCI : Nat := 0x4000C060
def EST_EOCI_IHIGH : Fld := ⟨EST_EOCI, 16, 16, 4⟩
def EST_EOCI_ILOW : Fld := ⟨EST_EOCI, 0, 16, 4⟩
def EST_EOCV : Nat := 0x4000C064
def EST_EOCV_VHI : Fld := ⟨EST_EOCV, 16, 16, 4⟩
def EST_EOCV_VLO : Fld := ⟨EST_EOCV, 0, 16, 4⟩
def EST_EOCT : Nat := 0x4000C068
def EST_EOCT_TTAPER : Fld := ⟨EST_EOCT, 16, 16, 4⟩
def EST_EOCT_VRE : Fld := ⟨EST_EOCT, 0, 16, 4⟩
def EST_EODI : Nat := 0x4000C06C
def EST_EODI_IHIGH : Fld := ⟨EST_EODI, 16, 16, 4⟩
def EST_EODI_ILOW : Fld := ⟨EST_EODI, 0, 16, 4⟩
def EST_EODV : Nat := 0x4000C070
def EST_EODV_VHI : Fld := ⟨EST_EODV, 16, 16, 4⟩
def EST_EODV_VLO : Fld := ⟨EST_EODV, 0, 16, 4⟩
def EST_EODT : Nat := 0x4000C074
def EST_EODT_TEOD : Fld := ⟨EST_EODT, 16, 16, 4⟩
def EST_EODT_VRE : Fld := ⟨EST_EODT, 0, 16, 4⟩
def EST_RESTCFG : Nat := 0x4000C078
def EST_RESTCFG_RESTT : Fld := ⟨EST_RESTCFG, 16, 16, 4⟩
def EST_RESTCFG_RESTI : Fld := ⟨EST_RESTCFG, 8, 8, 4⟩
def EST_RESTCFG_DVDT : Fld := ⟨EST_RESTCFG, 0, 8, 4⟩
def EST_LRNCFG : Nat := 0x4000C07C
def EST_LRNCFG_SPAN : Fld := ⟨EST_LRNCFG, 24, 8, 4⟩
def EST_LRNCFG_W : Fld := ⟨EST_LRNCFG, 16, 8, 4⟩
def EST_LRNCFG_WGAP : Fld := ⟨EST_LRNCFG, 8, 8, 4⟩
def EST_LRNCFG_MINSLOPE : Fld := ⟨EST_LRNCFG, 0, 8, 4⟩
def EST_LIMV : Nat := 0x4000C080
def EST_LIMV_VMAX : Fld := ⟨EST_LIMV, 16, 16, 4⟩
def EST_LIMV_VMIN : Fld := ⟨EST_LIMV, 0, 16, 4⟩
def EST_LIMI : Nat := 0x4000C084
def EST_LIMI_IMAXD : Fld := ⟨EST_LIMI, 16, 16, 4⟩
def EST_LIMI_IMAXC : Fld := ⟨EST_LIMI, 0, 16, 4⟩
def EST_LIMFB : Nat := 0x4000C088
def EST_LIMFB_IFB : Fld := ⟨EST_LIMFB, 0, 16, 4⟩
def EST_JCFG : Nat := 0x4000C08C
def EST_JCFG_PERIOD : Fld := ⟨EST_JCFG, 0, 12, 4⟩
def EST_TBLADDR : Nat := 0x4000C090
def EST_TBLADDR_INDEX : Fld := ⟨EST_TBLADDR, 0, 10, 4⟩
def EST_TBLDATA : Nat := 0x4000C094
def EST_TBLDATA_DATA : Fld := ⟨EST_TBLDATA, 0, 32, 4⟩
def EST_CSEL : Nat := 0x4000C098
def EST_CSEL_INDEX : Fld := ⟨EST_CSEL, 0, 9, 4⟩
def EST_SOCREP : Nat := 0x4000C100
def EST_SOCREP_STALE : Fld := ⟨EST_SOCREP, 31, 1, 4⟩
def EST_SOCREP_INIT : Fld := ⟨EST_SOCREP, 30, 1, 4⟩
def EST_SOCREP_SOC : Fld := ⟨EST_SOCREP, 0, 20, 4⟩
def EST_SOCINT : Nat := 0x4000C104
def EST_SOCINT_STALE : Fld := ⟨EST_SOCINT, 31, 1, 4⟩
def EST_SOCINT_SOC : Fld := ⟨EST_SOCINT, 0, 20, 4⟩
def EST_ZMIN : Nat := 0x4000C108
def EST_ZMIN_CELL : Fld := ⟨EST_ZMIN, 20, 9, 4⟩
def EST_ZMIN_SOC : Fld := ⟨EST_ZMIN, 0, 20, 4⟩
def EST_ZMAX : Nat := 0x4000C10C
def EST_ZMAX_CELL : Fld := ⟨EST_ZMAX, 20, 9, 4⟩
def EST_ZMAX_SOC : Fld := ⟨EST_ZMAX, 0, 20, 4⟩
def EST_SOH : Nat := 0x4000C110
def EST_SOH_SOHR : Fld := ⟨EST_SOH, 16, 16, 4⟩
def EST_SOH_SOHC : Fld := ⟨EST_SOH, 0, 16, 4⟩
def EST_ILIM : Nat := 0x4000C114
def EST_ILIM_MA : Fld := ⟨EST_ILIM, 0, 32, 4⟩
def EST_PLIM : Nat := 0x4000C12C
def EST_PLIM_W : Fld := ⟨EST_PLIM, 0, 32, 4⟩
def EST_SRCFRAME : Nat := 0x4000C144
def EST_SRCFRAME_FRAME : Fld := ⟨EST_SRCFRAME, 0, 32, 4⟩
def EST_TAPSTAT : Nat := 0x4000C148
def EST_TAPSTAT_EODSTATE : Fld := ⟨EST_TAPSTAT, 16, 3, 4⟩
def EST_TAPSTAT_EOCSTATE : Fld := ⟨EST_TAPSTAT, 0, 3, 4⟩
def EST_RESTSTAT : Nat := 0x4000C14C
def EST_RESTSTAT_ELAPSED : Fld := ⟨EST_RESTSTAT, 16, 16, 4⟩
def EST_RESTSTAT_RESTING : Fld := ⟨EST_RESTSTAT, 0, 1, 4⟩
def EST_LRNSTAT : Nat := 0x4000C150
def EST_LRNSTAT_ACCEPT : Fld := ⟨EST_LRNSTAT, 24, 8, 4⟩
def EST_LRNSTAT_REJECT : Fld := ⟨EST_LRNSTAT, 16, 8, 4⟩
def EST_LRNSTAT_REASON : Fld := ⟨EST_LRNSTAT, 12, 4, 4⟩
def EST_LRNSTAT_CELL : Fld := ⟨EST_LRNSTAT, 0, 9, 4⟩
def EST_JSTAT : Nat := 0x4000C154
def EST_JSTAT_ABORTED : Fld := ⟨EST_JSTAT, 31, 1, 4⟩
def EST_JSTAT_CAPPEND : Fld := ⟨EST_JSTAT, 30, 1, 4⟩
def EST_JSTAT_LOWENERGY : Fld := ⟨EST_JSTAT, 29, 1, 4⟩
def EST_JSTAT_SLOT : Fld := ⟨EST_JSTAT, 16, 1, 4⟩
def EST_JSEQ : Nat := 0x4000C158
def EST_JSEQ_SEQ : Fld := ⟨EST_JSEQ, 0, 32, 4⟩
def EST_CZ : Nat := 0x4000C160
def EST_CZ_Z : Fld := ⟨EST_CZ, 0, 30, 4⟩
def EST_CZC : Nat := 0x4000C164
def EST_CZC_ZC : Fld := ⟨EST_CZC, 0, 32, 4⟩
def EST_CQ : Nat := 0x4000C168
def EST_CQ_Q : Fld := ⟨EST_CQ, 0, 32, 4⟩
def EST_CRHO : Nat := 0x4000C16C
def EST_CRHO_RHO : Fld := ⟨EST_CRHO, 0, 32, 4⟩
def EST_CINNOV : Nat := 0x4000C170
def EST_CINNOV_E : Fld := ⟨EST_CINNOV, 0, 24, 4⟩
def EST_CFLAG : Nat := 0x4000C174
def EST_CFLAG_FLAGS : Fld := ⟨EST_CFLAG, 0, 7, 4⟩
def EIS_CTRL : Nat := 0x4000D008
def EIS_CTRL_TCAL : Fld := ⟨EIS_CTRL, 2, 1, 4⟩
def EIS_CTRL_ABORT : Fld := ⟨EIS_CTRL, 1, 1, 4⟩
def EIS_CTRL_SWREQ : Fld := ⟨EIS_CTRL, 0, 1, 4⟩
def EIS_STAT : Nat := 0x4000D00C
def EIS_STAT_POINT : Fld := ⟨EIS_STAT, 8, 3, 4⟩
def EIS_STAT_PASS : Fld := ⟨EIS_STAT, 4, 2, 4⟩
def EIS_STAT_SRC : Fld := ⟨EIS_STAT, 2, 2, 4⟩
def EIS_STAT_EXC : Fld := ⟨EIS_STAT, 1, 1, 4⟩
def EIS_STAT_SWEEP : Fld := ⟨EIS_STAT, 0, 1, 4⟩
def EIS_PLAN : Nat := 0x4000D040
def EIS_PLAN_TFREQ : Fld := ⟨EIS_PLAN, 8, 4, 4⟩
def EIS_PLAN_NFREQ : Fld := ⟨EIS_PLAN, 0, 4, 4⟩
def EIS_FREQ : Nat := 0x4000D044
def EIS_FREQ_FRM : Fld := ⟨EIS_FREQ, 20, 12, 4⟩
def EIS_FREQ_CYC : Fld := ⟨EIS_FREQ, 4, 16, 4⟩
def EIS_FREQ_SRC : Fld := ⟨EIS_FREQ, 0, 3, 4⟩
def EIS_EXCCFG : Nat := 0x4000D064
def EIS_EXCCFG_AMAX : Fld := ⟨EIS_EXCCFG, 16, 16, 4⟩
def EIS_EXCCFG_LEAD : Fld := ⟨EIS_EXCCFG, 8, 8, 4⟩
def EIS_EXCCFG_STOPTMO : Fld := ⟨EIS_EXCCFG, 0, 8, 4⟩
def EIS_OPPCFG : Nat := 0x4000D068
def EIS_OPPCFG_IMIN : Fld := ⟨EIS_OPPCFG, 0, 16, 4⟩
def EIS_CONFCFG : Nat := 0x4000D06C
def EIS_CONFCFG_CONFMIN : Fld := ⟨EIS_CONFCFG, 0, 8, 4⟩
def EIS_TCFG : Nat := 0x4000D070
def EIS_TCFG_B : Fld := ⟨EIS_TCFG, 0, 16, 4⟩
def EIS_RSEL : Nat := 0x4000D074
def EIS_RSEL_POINT : Fld := ⟨EIS_RSEL, 16, 3, 4⟩
def EIS_RSEL_CELL : Fld := ⟨EIS_RSEL, 0, 9, 4⟩
def EIS_RMAG : Nat := 0x4000D100
def EIS_RMAG_VALID : Fld := ⟨EIS_RMAG, 31, 1, 4⟩
def EIS_RMAG_MAG : Fld := ⟨EIS_RMAG, 0, 24, 4⟩
def EIS_RPH : Nat := 0x4000D104
def EIS_RPH_PH : Fld := ⟨EIS_RPH, 0, 16, 4⟩
def EIS_RCONF : Nat := 0x4000D108
def EIS_RCONF_SRC : Fld := ⟨EIS_RCONF, 24, 2, 4⟩
def EIS_RCONF_FLAGS : Fld := ⟨EIS_RCONF, 16, 4, 4⟩
def EIS_RCONF_CONF : Fld := ⟨EIS_RCONF, 0, 8, 4⟩
def EIS_RFRAME : Nat := 0x4000D10C
def EIS_RFRAME_FRAME : Fld := ⟨EIS_RFRAME, 0, 32, 4⟩
def EIS_RTZ : Nat := 0x4000D110
def EIS_RTZ_VALID : Fld := ⟨EIS_RTZ, 31, 1, 4⟩
def EIS_RTZ_TZ : Fld := ⟨EIS_RTZ, 0, 16, 4⟩
def EIS_RREF : Nat := 0x4000D114
def EIS_RREF_VALID : Fld := ⟨EIS_RREF, 31, 1, 4⟩
def EIS_RREF_RE : Fld := ⟨EIS_RREF, 0, 24, 4⟩
def EIS_SWSTAT : Nat := 0x4000D118
def EIS_SWSTAT_DONE : Fld := ⟨EIS_SWSTAT, 24, 8, 4⟩
def EIS_SWSTAT_SKIP : Fld := ⟨EIS_SWSTAT, 16, 8, 4⟩
def EIS_SWSTAT_REASON : Fld := ⟨EIS_SWSTAT, 8, 4, 4⟩
def EIS_SWSTAT_LAST : Fld := ⟨EIS_SWSTAT, 0, 3, 4⟩
def THM_STAT : Nat := 0x4000900C
def THM_STAT_STAGE : Fld := ⟨THM_STAT, 8, 2, 4⟩
def THM_STAT_STALE : Fld := ⟨THM_STAT, 2, 1, 4⟩
def THM_STAT_COVER : Fld := ⟨THM_STAT, 1, 1, 4⟩
def THM_STAT_SUSP : Fld := ⟨THM_STAT, 0, 1, 4⟩
def THM_INUSE : Nat := 0x40009040
def THM_INUSE_MINVALID : Fld := ⟨THM_INUSE, 24, 5, 4⟩
def THM_INUSE_TL : Fld := ⟨THM_INUSE, 16, 8, 4⟩
def THM_INUSE_TH : Fld := ⟨THM_INUSE, 0, 16, 4⟩
def THM_CURVESEL : Nat := 0x40009044
def THM_CURVESEL_SEL : Fld := ⟨THM_CURVESEL, 0, 24, 4⟩
def THM_NEAR : Nat := 0x40009048
def THM_NEAR_LEAVE : Fld := ⟨THM_NEAR, 8, 8, 4⟩
def THM_NEAR_BAND : Fld := ⟨THM_NEAR, 0, 8, 4⟩
def THM_FLTCFG : Nat := 0x4000904C
def THM_FLTCFG_OPENCODE : Fld := ⟨THM_FLTCFG, 16, 16, 4⟩
def THM_FLTCFG_SHORTCODE : Fld := ⟨THM_FLTCFG, 0, 16, 4⟩
def THM_SUSCFG : Nat := 0x40009050
def THM_SUSCFG_SUSDWELL : Fld := ⟨THM_SUSCFG, 24, 8, 4⟩
def THM_SUSCFG_MODTOL : Fld := ⟨THM_SUSCFG, 16, 8, 4⟩
def THM_SUSCFG_SUSTHR : Fld := ⟨THM_SUSCFG, 8, 8, 4⟩
def THM_NMAPSEL : Nat := 0x40009054
def THM_NMAPSEL_BANK : Fld := ⟨THM_NMAPSEL, 0, 1, 4⟩
def THM_NMAPADDR : Nat := 0x40009058
def THM_NMAPADDR_INDEX : Fld := ⟨THM_NMAPADDR, 0, 9, 4⟩
def THM_NMAPDATA : Nat := 0x4000905C
def THM_NMAPDATA_DATA : Fld := ⟨THM_NMAPDATA, 0, 32, 4⟩
def THM_MCFG1 : Nat := 0x40009060
def THM_MCFG1_CC : Fld := ⟨THM_MCFG1, 16, 16, 4⟩
def THM_MCFG1_CS : Fld := ⟨THM_MCFG1, 0, 16, 4⟩
def THM_MCFG2 : Nat := 0x40009064
def THM_MCFG2_RCS : Fld := ⟨THM_MCFG2, 16, 16, 4⟩
def THM_MCFG2_RSA : Fld := ⟨THM_MCFG2, 0, 16, 4⟩
def THM_MCFG3 : Nat := 0x40009068
def THM_MCFG3_KS : Fld := ⟨THM_MCFG3, 16, 8, 4⟩
def THM_MCFG3_BOUND : Fld := ⟨THM_MCFG3, 0, 8, 4⟩
def THM_XCHK : Nat := 0x4000906C
def THM_XCHK_MODTHR : Fld := ⟨THM_XCHK, 16, 8, 4⟩
def THM_XCHK_TZTHR : Fld := ⟨THM_XCHK, 8, 8, 4⟩
def THM_COOLCFG : Nat := 0x40009070
def THM_COOLCFG_AUTO : Fld := ⟨THM_COOLCFG, 31, 1, 4⟩
def THM_COOLCFG_RAMP : Fld := ⟨THM_COOLCFG, 0, 16, 4⟩
def THM_COOLPT : Nat := 0x40009074
def THM_COOLPT_TEMP : Fld := ⟨THM_COOLPT, 16, 16, 4⟩
def THM_COOLPT_DEMAND : Fld := ⟨THM_COOLPT, 0, 16, 4⟩
def THM_TEMP : Nat := 0x40009100
def THM_TEMP_VALID : Fld := ⟨THM_TEMP, 31, 1, 4⟩
def THM_TEMP_NEAR : Fld := ⟨THM_TEMP, 30, 1, 4⟩
def THM_TEMP_FLT : Fld := ⟨THM_TEMP, 24, 3, 4⟩
def THM_TEMP_TEMP : Fld := ⟨THM_TEMP, 0, 16, 4⟩
def THM_DIE : Nat := 0x40009160
def THM_DIE_EXCL : Fld := ⟨THM_DIE, 31, 1, 4⟩
def THM_DIE_TEMP : Fld := ⟨THM_DIE, 0, 16, 4⟩
def THM_DIESTAT : Nat := 0x40009180
def THM_DIESTAT_TDIE : Fld := ⟨THM_DIESTAT, 0, 16, 4⟩
def THM_CSEL : Nat := 0x40009184
def THM_CSEL_INDEX : Fld := ⟨THM_CSEL, 0, 9, 4⟩
def THM_CTC : Nat := 0x40009188
def THM_CTC_TEMP : Fld := ⟨THM_CTC, 0, 16, 4⟩
def THM_CTS : Nat := 0x4000918C
def THM_CTS_TEMP : Fld := ⟨THM_CTS, 0, 16, 4⟩
def THM_CPWR : Nat := 0x40009190
def THM_CPWR_MW : Fld := ⟨THM_CPWR, 0, 32, 4⟩
def THM_HOTTEST : Nat := 0x40009194
def THM_HOTTEST_CELL : Fld := ⟨THM_HOTTEST, 16, 9, 4⟩
def THM_HOTTEST_TEMP : Fld := ⟨THM_HOTTEST, 0, 16, 4⟩
def THM_COOLDMD : Nat := 0x40009198
def THM_COOLDMD_DEMAND : Fld := ⟨THM_COOLDMD, 0, 16, 4⟩
def THM_SRCFRAME : Nat := 0x4000919C
def THM_SRCFRAME_FRAME : Fld := ⟨THM_SRCFRAME, 0, 32, 4⟩
def THM_CURVE0 : Nat := 0x40009200
def THM_CURVE0_RES : Fld := ⟨THM_CURVE0, 0, 32, 4⟩
def THM_CURVE1 : Nat := 0x40009300
def THM_CURVE1_RES : Fld := ⟨THM_CURVE1, 0, 32, 4⟩
def SAF_CTRL : Nat := 0x4000E008
def SAF_CTRL_SWTRIP : Fld := ⟨SAF_CTRL, 0, 1, 4⟩
def SAF_STAT : Nat := 0x4000E00C
def SAF_STAT_CHGFORB : Fld := ⟨SAF_STAT, 3, 1, 4⟩
def SAF_STAT_COPYDIS : Fld := ⟨SAF_STAT, 2, 1, 4⟩
def SAF_STAT_TESTFAIL : Fld := ⟨SAF_STAT, 1, 1, 4⟩
def SAF_STAT_ACTIVE : Fld := ⟨SAF_STAT, 0, 1, 4⟩
def SAF_CWOV : Nat := 0x4000E040
def SAF_CWOV_DWELL : Fld := ⟨SAF_CWOV, 24, 2, 4⟩
def SAF_CWOV_SET : Fld := ⟨SAF_CWOV, 0, 23, 4⟩
def SAF_CWOVC : Nat := 0x4000E044
def SAF_CWOVC_CLR : Fld := ⟨SAF_CWOVC, 0, 23, 4⟩
def SAF_CWUV : Nat := 0x4000E048
def SAF_CWUV_DWELL : Fld := ⟨SAF_CWUV, 24, 2, 4⟩
def SAF_CWUV_SET : Fld := ⟨SAF_CWUV, 0, 23, 4⟩
def SAF_CWUVC : Nat := 0x4000E04C
def SAF_CWUVC_CLR : Fld := ⟨SAF_CWUVC, 0, 23, 4⟩
def SAF_CWENL : Nat := 0x4000E050
def SAF_CWENL_EN : Fld := ⟨SAF_CWENL, 0, 32, 4⟩
def SAF_CWENH : Nat := 0x4000E054
def SAF_CWENH_EN : Fld := ⟨SAF_CWENH, 0, 16, 4⟩
def SAF_SLCI : Nat := 0x4000E058
def SAF_SLCI_DIS : Fld := ⟨SAF_SLCI, 16, 16, 4⟩
def SAF_SLCI_CHG : Fld := ⟨SAF_SLCI, 0, 16, 4⟩
def SAF_SLCDW : Nat := 0x4000E05C
def SAF_SLCDW_I2TDWELL : Fld := ⟨SAF_SLCDW, 16, 4, 4⟩
def SAF_SLCDW_IDWELL : Fld := ⟨SAF_SLCDW, 0, 2, 4⟩
def SAF_I2TC : Nat := 0x4000E060
def SAF_I2TC_DIS : Fld := ⟨SAF_I2TC, 16, 16, 4⟩
def SAF_I2TC_CHG : Fld := ⟨SAF_I2TC, 0, 16, 4⟩
def SAF_I2TK : Nat := 0x4000E064
def SAF_I2TK_DIS : Fld := ⟨SAF_I2TK, 16, 16, 4⟩
def SAF_I2TK_CHG : Fld := ⟨SAF_I2TK, 0, 16, 4⟩
def SAF_I2TCLR : Nat := 0x4000E068
def SAF_I2TCLR_CLR : Fld := ⟨SAF_I2TCLR, 0, 7, 4⟩
def SAF_SLDT : Nat := 0x4000E06C
def SAF_SLDT_CHGMAX : Fld := ⟨SAF_SLDT, 16, 16, 4⟩
def SAF_SLDT_CHGMIN : Fld := ⟨SAF_SLDT, 0, 16, 4⟩
def SAF_SLDC : Nat := 0x4000E070
def SAF_SLDC_CHGMAXCLR : Fld := ⟨SAF_SLDC, 16, 16, 4⟩
def SAF_SLDC_CHGMINCLR : Fld := ⟨SAF_SLDC, 0, 16, 4⟩
def SAF_SLDI : Nat := 0x4000E074
def SAF_SLDI_DWELL : Fld := ⟨SAF_SLDI, 16, 5, 4⟩
def SAF_SLDI_DEADBAND : Fld := ⟨SAF_SLDI, 0, 16, 4⟩
def SAF_TCOT : Nat := 0x4000E078
def SAF_TCOT_CLR : Fld := ⟨SAF_TCOT, 16, 16, 4⟩
def SAF_TCOT_SET : Fld := ⟨SAF_TCOT, 0, 16, 4⟩
def SAF_TCUT : Nat := 0x4000E07C
def SAF_TCUT_CLR : Fld := ⟨SAF_TCUT, 16, 16, 4⟩
def SAF_TCUT_SET : Fld := ⟨SAF_TCUT, 0, 16, 4⟩
def SAF_TKOT : Nat := 0x4000E080
def SAF_TKOT_CLR : Fld := ⟨SAF_TKOT, 16, 16, 4⟩
def SAF_TKOT_SET : Fld := ⟨SAF_TKOT, 0, 16, 4⟩
def SAF_TCFG : Nat := 0x4000E084
def SAF_TCFG_TDWELL : Fld := ⟨SAF_TCFG, 24, 2, 4⟩
def SAF_TCFG_CELLMASK : Fld := ⟨SAF_TCFG, 0, 24, 4⟩
def SAF_RM : Nat := 0x4000E088
def SAF_RM_TRIP : Fld := ⟨SAF_RM, 16, 1, 4⟩
def SAF_RM_OUT : Fld := ⟨SAF_RM, 0, 16, 4⟩
def SAF_RSTAT : Nat := 0x4000E200
def SAF_RSTAT_LATCH : Fld := ⟨SAF_RSTAT, 0, 15, 4⟩
def SAF_RCAUSE : Nat := 0x4000E204
def SAF_RCAUSE_CAUSE : Fld := ⟨SAF_RCAUSE, 0, 15, 4⟩
def SAF_RCLR : Nat := 0x4000E208
def SAF_RCLR_CLR : Fld := ⟨SAF_RCLR, 0, 15, 4⟩
def SAF_RFIRST : Nat := 0x4000E20C
def SAF_RFIRST_SRC : Fld := ⟨SAF_RFIRST, 16, 4, 4⟩
def SAF_RFIRST_INDEX : Fld := ⟨SAF_RFIRST, 0, 9, 4⟩
def SAF_RTICK : Nat := 0x4000E210
def SAF_RTICK_TICK : Fld := ⟨SAF_RTICK, 0, 32, 4⟩
def SAF_OVSL : Nat := 0x4000E214
def SAF_OVSL_SET : Fld := ⟨SAF_OVSL, 0, 32, 4⟩
def SAF_OVSH : Nat := 0x4000E218
def SAF_OVSH_SET : Fld := ⟨SAF_OVSH, 0, 16, 4⟩
def SAF_UVSL : Nat := 0x4000E21C
def SAF_UVSL_SET : Fld := ⟨SAF_UVSL, 0, 32, 4⟩
def SAF_UVSH : Nat := 0x4000E220
def SAF_UVSH_SET : Fld := ⟨SAF_UVSH, 0, 16, 4⟩
def SAF_TOTS : Nat := 0x4000E224
def SAF_TOTS_SET : Fld := ⟨SAF_TOTS, 0, 24, 4⟩
def SAF_TUTS : Nat := 0x4000E228
def SAF_TUTS_SET : Fld := ⟨SAF_TUTS, 0, 24, 4⟩
def SAF_TSLDS : Nat := 0x4000E22C
def SAF_TSLDS_SET : Fld := ⟨SAF_TSLDS, 0, 24, 4⟩
def SAF_I2TE : Nat := 0x4000E230
def SAF_I2TE_DIS : Fld := ⟨SAF_I2TE, 16, 16, 4⟩
def SAF_I2TE_CHG : Fld := ⟨SAF_I2TE, 0, 16, 4⟩
def SAF_HOLD : Nat := 0x4000E234
def SAF_HOLD_OUT : Fld := ⟨SAF_HOLD, 0, 16, 4⟩
def CTS_CTRL : Nat := 0x4000F008
def CTS_CTRL_CMD : Fld := ⟨CTS_CTRL, 8, 3, 4⟩
def CTS_CTRL_FLTCLR : Fld := ⟨CTS_CTRL, 0, 1, 4⟩
def CTS_STAT : Nat := 0x4000F00C
def CTS_STAT_REFUSE : Fld := ⟨CTS_STAT, 16, 4, 4⟩
def CTS_STAT_MAPPEND : Fld := ⟨CTS_STAT, 13, 1, 4⟩
def CTS_STAT_INLETINV : Fld := ⟨CTS_STAT, 12, 1, 4⟩
def CTS_STAT_LINKINV : Fld := ⟨CTS_STAT, 11, 1, 4⟩
def CTS_STAT_HOLD : Fld := ⟨CTS_STAT, 10, 1, 4⟩
def CTS_STAT_LOCKOUT : Fld := ⟨CTS_STAT, 9, 1, 4⟩
def CTS_STAT_AUX : Fld := ⟨CTS_STAT, 8, 1, 4⟩
def CTS_STAT_CSTATE : Fld := ⟨CTS_STAT, 4, 4, 4⟩
def CTS_STAT_DSTATE : Fld := ⟨CTS_STAT, 0, 4, 4⟩
def CTS_ROLEMAP : Nat := 0x4000F040
def CTS_ROLEMAP_CH : Fld := ⟨CTS_ROLEMAP, 0, 30, 4⟩
def CTS_PCMOD : Nat := 0x4000F044
def CTS_PCMOD_RPC : Fld := ⟨CTS_PCMOD, 16, 16, 4⟩
def CTS_PCMOD_CLINK : Fld := ⟨CTS_PCMOD, 0, 16, 4⟩
def CTS_PCTOL : Nat := 0x4000F048
def CTS_PCTOL_THI : Fld := ⟨CTS_PCTOL, 24, 8, 4⟩
def CTS_PCTOL_TLO : Fld := ⟨CTS_PCTOL, 16, 8, 4⟩
def CTS_PCTOL_ATOL : Fld := ⟨CTS_PCTOL, 0, 8, 4⟩
def CTS_PCTIME : Nat := 0x4000F04C
def CTS_PCTIME_TMAX : Fld := ⟨CTS_PCTIME, 16, 16, 4⟩
def CTS_PCTIME_DVDT : Fld := ⟨CTS_PCTIME, 0, 16, 4⟩
def CTS_WELDCFG : Nat := 0x4000F050
def CTS_WELDCFG_WELDV : Fld := ⟨CTS_WELDCFG, 16, 16, 4⟩
def CTS_WELDCFG_WELDI : Fld := ⟨CTS_WELDCFG, 0, 16, 4⟩
def CTS_TIMING : Nat := 0x4000F054
def CTS_TIMING_TCLOSE : Fld := ⟨CTS_TIMING, 24, 8, 4⟩
def CTS_TIMING_TGAP : Fld := ⟨CTS_TIMING, 16, 8, 4⟩
def CTS_TIMING_TPROBE : Fld := ⟨CTS_TIMING, 8, 8, 4⟩
def CTS_OPENCFG : Nat := 0x4000F058
def CTS_OPENCFG_TRAMP : Fld := ⟨CTS_OPENCFG, 16, 16, 4⟩
def CTS_OPENCFG_IOPEN : Fld := ⟨CTS_OPENCFG, 0, 16, 4⟩
def CTS_LOADCFG : Nat := 0x4000F05C
def CTS_LOADCFG_ILOAD : Fld := ⟨CTS_LOADCFG, 0, 16, 4⟩
def CTS_CHGCFG : Nat := 0x4000F060
def CTS_CHGCFG_TMATCH : Fld := ⟨CTS_CHGCFG, 16, 16, 4⟩
def CTS_CHGCFG_CMATCH : Fld := ⟨CTS_CHGCFG, 0, 16, 4⟩
def CTS_RETRY : Nat := 0x4000F064
def CTS_RETRY_TCOOL : Fld := ⟨CTS_RETRY, 16, 16, 4⟩
def CTS_RETRY_PCMAX : Fld := ⟨CTS_RETRY, 0, 4, 4⟩
def CTS_WELDSTAT : Nat := 0x4000F100
def CTS_WELDSTAT_ROLE : Fld := ⟨CTS_WELDSTAT, 0, 10, 4⟩
def CTS_PCRES : Nat := 0x4000F104
def CTS_PCRES_RESULT : Fld := ⟨CTS_PCRES, 28, 4, 4⟩
def CTS_PCRES_FAILS : Fld := ⟨CTS_PCRES, 24, 4, 4⟩
def CTS_PCRES_TIME : Fld := ⟨CTS_PCRES, 0, 16, 4⟩
def CTS_ORREC : Nat := 0x4000F108
def CTS_ORREC_ROLES : Fld := ⟨CTS_ORREC, 16, 6, 4⟩
def CTS_ORREC_REASON : Fld := ⟨CTS_ORREC, 8, 4, 4⟩
def CTS_ORREC_LOAD : Fld := ⟨CTS_ORREC, 0, 1, 4⟩
def CTS_ORCUR : Nat := 0x4000F10C
def CTS_ORCUR_MA : Fld := ⟨CTS_ORCUR, 0, 32, 4⟩
def CTS_ORVOLT : Nat := 0x4000F110
def CTS_ORVOLT_MV : Fld := ⟨CTS_ORVOLT, 0, 24, 4⟩
def CTS_ORTICK : Nat := 0x4000F114
def CTS_ORTICK_TICK : Fld := ⟨CTS_ORTICK, 0, 32, 4⟩
def CTS_LOADOPN : Nat := 0x4000F120
def CTS_LOADOPN_COUNT : Fld := ⟨CTS_LOADOPN, 0, 32, 4⟩
def OUT_CFG : Nat := 0x40010040
def OUT_CFG_SLEW : Fld := ⟨OUT_CFG, 24, 8, 4⟩
def OUT_CFG_INRUSH : Fld := ⟨OUT_CFG, 16, 8, 4⟩
def OUT_CFG_OLTHR : Fld := ⟨OUT_CFG, 8, 8, 4⟩
def OUT_CFG_TEST : Fld := ⟨OUT_CFG, 6, 2, 4⟩
def OUT_CFG_SHEDPRI : Fld := ⟨OUT_CFG, 4, 2, 4⟩
def OUT_TESTCFG : Nat := 0x40010080
def OUT_TESTCFG_TSLOT : Fld := ⟨OUT_TESTCFG, 22, 10, 4⟩
def OUT_TESTCFG_TPER : Fld := ⟨OUT_TESTCFG, 14, 8, 4⟩
def OUT_TESTCFG_DARK : Fld := ⟨OUT_TESTCFG, 8, 6, 4⟩
def OUT_TESTCFG_BRIGHT : Fld := ⟨OUT_TESTCFG, 0, 5, 4⟩
def OUT_DIAGCFG : Nat := 0x40010084
def OUT_DIAGCFG_OLDWELL : Fld := ⟨OUT_DIAGCFG, 0, 8, 4⟩
def OUT_CMD : Nat := 0x40010100
def OUT_CMD_ON : Fld := ⟨OUT_CMD, 0, 16, 4⟩
def OUT_CMDSET : Nat := 0x40010104
def OUT_CMDSET_SET : Fld := ⟨OUT_CMDSET, 0, 16, 4⟩
def OUT_CMDCLR : Nat := 0x40010108
def OUT_CMDCLR_CLR : Fld := ⟨OUT_CMDCLR, 0, 16, 4⟩
def OUT_COND : Nat := 0x4001010C
def OUT_COND_ON : Fld := ⟨OUT_COND, 0, 16, 4⟩
def OUT_CHSTAT : Nat := 0x40010110
def OUT_CHSTAT_STATE : Fld := ⟨OUT_CHSTAT, 28, 4, 4⟩
def OUT_CHSTAT_FROZEN : Fld := ⟨OUT_CHSTAT, 27, 1, 4⟩
def OUT_CHSTAT_SN : Fld := ⟨OUT_CHSTAT, 26, 1, 4⟩
def OUT_CHSTAT_HELD : Fld := ⟨OUT_CHSTAT, 25, 1, 4⟩
def OUT_CHSTAT_HOT : Fld := ⟨OUT_CHSTAT, 24, 1, 4⟩
def OUT_CHSTAT_LASTFLT : Fld := ⟨OUT_CHSTAT, 20, 4, 4⟩
def OUT_CHSTAT_CUR : Fld := ⟨OUT_CHSTAT, 0, 12, 4⟩
def OUT_OLSTAT : Nat := 0x40010150
def OUT_OLSTAT_OL : Fld := ⟨OUT_OLSTAT, 0, 16, 4⟩
def OUT_TESTRES : Nat := 0x40010154
def OUT_TESTRES_INCOMPLETE : Fld := ⟨OUT_TESTRES, 16, 16, 4⟩
def OUT_TESTRES_FAIL : Fld := ⟨OUT_TESTRES, 0, 16, 4⟩
def OUT_CLTEMP01 : Nat := 0x40010158
def OUT_CLTEMP01_C1 : Fld := ⟨OUT_CLTEMP01, 16, 16, 4⟩
def OUT_CLTEMP01_C0 : Fld := ⟨OUT_CLTEMP01, 0, 16, 4⟩
def OUT_CLTEMP23 : Nat := 0x4001015C
def OUT_CLTEMP23_C3 : Fld := ⟨OUT_CLTEMP23, 16, 16, 4⟩
def OUT_CLTEMP23_C2 : Fld := ⟨OUT_CLTEMP23, 0, 16, 4⟩
def OUT_SHED : Nat := 0x40010160
def OUT_SHED_CLUSTER : Fld := ⟨OUT_SHED, 16, 4, 4⟩
def OUT_SHED_CH : Fld := ⟨OUT_SHED, 0, 16, 4⟩
def OUT_LTICK : Nat := 0x40010164
def OUT_LTICK_TICK : Fld := ⟨OUT_LTICK, 0, 32, 4⟩
def LHM_CTRL : Nat := 0x40011008
def LHM_CTRL_RELEASE : Fld := ⟨LHM_CTRL, 0, 1, 4⟩
def LHM_STAT : Nat := 0x4001100C
def LHM_STAT_ACTIVE : Fld := ⟨LHM_STAT, 31, 1, 4⟩
def LHM_STAT_CAUSE : Fld := ⟨LHM_STAT, 24, 4, 4⟩
def LHM_STAT_SRC : Fld := ⟨LHM_STAT, 20, 1, 4⟩
def LHM_STAT_LHIN : Fld := ⟨LHM_STAT, 16, 4, 4⟩
def LHM_STAT_HELD : Fld := ⟨LHM_STAT, 0, 16, 4⟩
def LHM_LOCK : Nat := 0x40011020
def LHM_LOCK_LOCK : Fld := ⟨LHM_LOCK, 0, 1, 4⟩
def LHM_HREQ : Nat := 0x40011040
def LHM_HREQ_REQ : Fld := ⟨LHM_HREQ, 0, 1, 4⟩
def LHM_ASSIGN : Nat := 0x40011044
def LHM_ASSIGN_SLEW : Fld := ⟨LHM_ASSIGN, 24, 8, 4⟩
def LHM_ASSIGN_MASK : Fld := ⟨LHM_ASSIGN, 0, 16, 4⟩
def LHM_STRAP : Nat := 0x40011054
def LHM_STRAP_FAULT : Fld := ⟨LHM_STRAP, 31, 1, 4⟩
def LHM_STRAP_CODE : Fld := ⟨LHM_STRAP, 0, 3, 4⟩
def LHM_LAST : Nat := 0x40011058
def LHM_LAST_DUR : Fld := ⟨LHM_LAST, 16, 16, 4⟩
def LHM_LAST_CAUSE : Fld := ⟨LHM_LAST, 8, 4, 4⟩
def BAL_CTRL : Nat := 0x4000A008
def BAL_CTRL_STOP : Fld := ⟨BAL_CTRL, 0, 1, 4⟩
def BAL_STAT : Nat := 0x4000A00C
def BAL_STAT_SUSP : Fld := ⟨BAL_STAT, 22, 1, 4⟩
def BAL_STAT_ROTATE : Fld := ⟨BAL_STAT, 21, 1, 4⟩
def BAL_STAT_RESTHOLD : Fld := ⟨BAL_STAT, 20, 1, 4⟩
def BAL_STAT_GRANT : Fld := ⟨BAL_STAT, 9, 6, 4⟩
def BAL_STAT_PEND : Fld := ⟨BAL_STAT, 1, 6, 4⟩
def BAL_CFG : Nat := 0x4000A040
def BAL_CFG_RBAL : Fld := ⟨BAL_CFG, 16, 16, 4⟩
def BAL_CFG_MAXON : Fld := ⟨BAL_CFG, 0, 5, 4⟩
def BAL_VLIM : Nat := 0x4000A044
def BAL_VLIM_VBMAX : Fld := ⟨BAL_VLIM, 16, 16, 4⟩
def BAL_VLIM_VBMIN : Fld := ⟨BAL_VLIM, 0, 16, 4⟩
def BAL_RWCFG : Nat := 0x4000A048
def BAL_RWCFG_EN : Fld := ⟨BAL_RWCFG, 31, 1, 4⟩
def BAL_RWCFG_LEAD : Fld := ⟨BAL_RWCFG, 0, 12, 4⟩
def BAL_PATL : Nat := 0x4000A050
def BAL_PATL_PAT : Fld := ⟨BAL_PATL, 0, 32, 4⟩
def BAL_PATH : Nat := 0x4000A054
def BAL_PATH_PAT : Fld := ⟨BAL_PATH, 0, 16, 4⟩
def BAL_ONL : Nat := 0x4000A058
def BAL_ONL_ON : Fld := ⟨BAL_ONL, 0, 32, 4⟩
def BAL_ONH : Nat := 0x4000A05C
def BAL_ONH_ON : Fld := ⟨BAL_ONH, 0, 16, 4⟩
def BAL_DEFCNT : Nat := 0x4000A060
def BAL_DEFCNT_COUNT : Fld := ⟨BAL_DEFCNT, 0, 16, 4⟩
def BAL_DEFLAST : Nat := 0x4000A064
def BAL_DEFLAST_HELDBY : Fld := ⟨BAL_DEFLAST, 16, 3, 4⟩
def BAL_DEFLAST_DEFERRED : Fld := ⟨BAL_DEFLAST, 8, 3, 4⟩
def BAL_DEFTICK : Nat := 0x4000A068
def BAL_DEFTICK_TICK : Fld := ⟨BAL_DEFTICK, 0, 32, 4⟩
def BAL_ONT : Nat := 0x4000A100
def BAL_ONT_TIME : Fld := ⟨BAL_ONT, 0, 10, 4⟩
def PMP_CTRL : Nat := 0x40012008
def PMP_CTRL_CMD : Fld := ⟨PMP_CTRL, 0, 2, 4⟩
def PMP_STAT : Nat := 0x4001200C
def PMP_STAT_SHORTVEC : Fld := ⟨PMP_STAT, 0, 16, 4⟩
def PMP_STAT_ARMED : Fld := ⟨PMP_STAT, 22, 1, 4⟩
def PMP_STAT_LOCK : Fld := ⟨PMP_STAT, 21, 1, 4⟩
def PMP_STAT_FW : Fld := ⟨PMP_STAT, 20, 1, 4⟩
def PMP_STAT_STATE : Fld := ⟨PMP_STAT, 16, 4, 4⟩
def PMP_PWM : Nat := 0x40012040
def PMP_PWM_PERIOD : Fld := ⟨PMP_PWM, 16, 16, 4⟩
def PMP_PWM_DT : Fld := ⟨PMP_PWM, 0, 8, 4⟩
def PMP_SHUNT : Nat := 0x40012044
def PMP_SHUNT_RSH : Fld := ⟨PMP_SHUNT, 0, 16, 4⟩
def PMP_MOTOR1 : Nat := 0x40012048
def PMP_MOTOR1_RS : Fld := ⟨PMP_MOTOR1, 16, 16, 4⟩
def PMP_MOTOR1_LS : Fld := ⟨PMP_MOTOR1, 0, 16, 4⟩
def PMP_MOTOR2 : Nat := 0x4001204C
def PMP_MOTOR2_FLUX : Fld := ⟨PMP_MOTOR2, 16, 16, 4⟩
def PMP_MOTOR2_PP : Fld := ⟨PMP_MOTOR2, 0, 4, 4⟩
def PMP_LIMITS : Nat := 0x40012050
def PMP_LIMITS_IMAX : Fld := ⟨PMP_LIMITS, 16, 16, 4⟩
def PMP_LIMITS_IDMAX : Fld := ⟨PMP_LIMITS, 0, 16, 4⟩
def PMP_SPEED : Nat := 0x40012054
def PMP_SPEED_NMAX : Fld := ⟨PMP_SPEED, 16, 16, 4⟩
def PMP_SPEED_ACCEL : Fld := ⟨PMP_SPEED, 0, 16, 4⟩
def PMP_START : Nat := 0x40012058
def PMP_START_ALIGNT : Fld := ⟨PMP_START, 24, 8, 4⟩
def PMP_START_ALIGNI : Fld := ⟨PMP_START, 16, 8, 4⟩
def PMP_START_OBSMIN : Fld := ⟨PMP_START, 0, 16, 4⟩
def PMP_CATCH : Nat := 0x4001205C
def PMP_CATCH_RETRIES : Fld := ⟨PMP_CATCH, 28, 4, 4⟩
def PMP_CATCH_RETRYDLY : Fld := ⟨PMP_CATCH, 16, 8, 4⟩
def PMP_CATCH_BRKMAX : Fld := ⟨PMP_CATCH, 0, 16, 4⟩
def PMP_BRAKE : Nat := 0x40012060
def PMP_BRAKE_VDSLIM : Fld := ⟨PMP_BRAKE, 16, 16, 4⟩
def PMP_BRAKE_ZVTIME : Fld := ⟨PMP_BRAKE, 0, 8, 4⟩
def PMP_FWCFG : Nat := 0x40012064
def PMP_FWCFG_KFW : Fld := ⟨PMP_FWCFG, 16, 16, 4⟩
def PMP_FWCFG_VMARG : Fld := ⟨PMP_FWCFG, 0, 10, 4⟩
def PMP_OBSCFG : Nat := 0x40012068
def PMP_OBSCFG_LOSSDEG : Fld := ⟨PMP_OBSCFG, 8, 8, 4⟩
def PMP_OBSCFG_LOSSN : Fld := ⟨PMP_OBSCFG, 0, 8, 4⟩
def PMP_SETP : Nat := 0x4001206C
def PMP_SETP_DEMAND : Fld := ⟨PMP_SETP, 0, 10, 4⟩
def PMP_SPD : Nat := 0x40012100
def PMP_SPD_RPM : Fld := ⟨PMP_SPD, 0, 32, 4⟩
def PMP_IDQ : Nat := 0x40012104
def PMP_IDQ_ID : Fld := ⟨PMP_IDQ, 16, 16, 4⟩
def PMP_IDQ_IQ : Fld := ⟨PMP_IDQ, 0, 16, 4⟩
def PMP_VBUS : Nat := 0x40012108
def PMP_VBUS_MV : Fld := ⟨PMP_VBUS, 0, 16, 4⟩
def PMP_ATTEMPT : Nat := 0x4001210C
def PMP_ATTEMPT_COUNT : Fld := ⟨PMP_ATTEMPT, 0, 4, 4⟩
def CP_CTRL : Nat := 0x40013008
def CP_CTRL_RESTART : Fld := ⟨CP_CTRL, 0, 1, 4096⟩
def CP_STAT : Nat := 0x4001300C
def CP_STAT_HALTED : Fld := ⟨CP_STAT, 31, 1, 4096⟩
def CP_STAT_DBGHALT : Fld := ⟨CP_STAT, 30, 1, 4096⟩
def CP_STAT_INRST : Fld := ⟨CP_STAT, 29, 1, 4096⟩
def CP_STAT_DBGREF : Fld := ⟨CP_STAT, 28, 1, 4096⟩
def CP_STAT_PIN : Fld := ⟨CP_STAT, 1, 1, 4096⟩
def CP_STAT_BANK : Fld := ⟨CP_STAT, 0, 1, 4096⟩
def CP_BANKSEL : Nat := 0x40013040
def CP_BANKSEL_BANK : Fld := ⟨CP_BANKSEL, 0, 1, 4096⟩
def CP_READY : Nat := 0x40013044
def CP_READY_READY : Fld := ⟨CP_READY, 0, 1, 4096⟩
def CP_RSTCFG : Nat := 0x40013048
def CP_RSTCFG_MAXRST : Fld := ⟨CP_RSTCFG, 0, 4, 4096⟩
def CP_CKPTCFG : Nat := 0x4001304C
def CP_CKPTCFG_CKLEN : Fld := ⟨CP_CKPTCFG, 0, 6, 4096⟩
def CP_RSTINFO : Nat := 0x40013050
def CP_RSTINFO_COUNT : Fld := ⟨CP_RSTINFO, 24, 8, 4096⟩
def CP_RSTINFO_CAUSE : Fld := ⟨CP_RSTINFO, 16, 4, 4096⟩
def CP_RSTINFO_RESTARTED : Fld := ⟨CP_RSTINFO, 0, 1, 4096⟩
def CP_RSTTICK : Nat := 0x40013054
def CP_RSTTICK_TICK : Fld := ⟨CP_RSTTICK, 0, 32, 4096⟩
def CP_MMADDR : Nat := 0x40013058
def CP_MMADDR_ADDR : Fld := ⟨CP_MMADDR, 0, 32, 4096⟩
def CP_CKSTAT : Nat := 0x4001305C
def CP_CKSTAT_FRAME : Fld := ⟨CP_CKSTAT, 16, 16, 4096⟩
def CP_CKSTAT_CRCERR : Fld := ⟨CP_CKSTAT, 8, 1, 4096⟩
def CP_CKSTAT_VALID : Fld := ⟨CP_CKSTAT, 0, 2, 4096⟩
def CP_CMPSTAT : Nat := 0x40013060
def CP_CMPSTAT_TESTAGE : Fld := ⟨CP_CMPSTAT, 8, 8, 4096⟩
def CP_CMPSTAT_PARITY : Fld := ⟨CP_CMPSTAT, 3, 1, 4096⟩
def CP_CMPSTAT_C2TEST : Fld := ⟨CP_CMPSTAT, 2, 1, 4096⟩
def CP_CMPSTAT_C1TEST : Fld := ⟨CP_CMPSTAT, 1, 1, 4096⟩
def CP_CMPSTAT_DISAGREE : Fld := ⟨CP_CMPSTAT, 0, 1, 4096⟩
def CP_DBGCTL : Nat := 0x40013064
def CP_DBGCTL_STEP : Fld := ⟨CP_DBGCTL, 2, 1, 4096⟩
def CP_DBGCTL_RESUME : Fld := ⟨CP_DBGCTL, 1, 1, 4096⟩
def CP_DBGCTL_HALT : Fld := ⟨CP_DBGCTL, 0, 1, 4096⟩
def NVM_CTRL : Nat := 0x40015008
def NVM_CTRL_VERIFY : Fld := ⟨NVM_CTRL, 0, 1, 4⟩
def NVM_STAT : Nat := 0x4001500C
def NVM_STAT_VBUSY : Fld := ⟨NVM_STAT, 0, 1, 4⟩
def NVM_PGMWE : Nat := 0x40015040
def NVM_PGMWE_WE : Fld := ⟨NVM_PGMWE, 0, 4, 4⟩
def NVM_VSEL : Nat := 0x40015044
def NVM_VSEL_REGION : Fld := ⟨NVM_VSEL, 0, 2, 4⟩
def NVM_REGSTAT : Nat := 0x40015048
def NVM_REGSTAT_STATE : Fld := ⟨NVM_REGSTAT, 0, 8, 4⟩
def NVM_REGSVN : Nat := 0x4001504C
def NVM_REGSVN_SVN : Fld := ⟨NVM_REGSVN, 0, 32, 4⟩
def NVM_BOOTSTAT : Nat := 0x40015050
def NVM_BOOTSTAT_BHELD : Fld := ⟨NVM_BOOTSTAT, 8, 1, 4⟩
def NVM_BOOTSTAT_BFALL : Fld := ⟨NVM_BOOTSTAT, 5, 1, 4⟩
def NVM_BOOTSTAT_AFALL : Fld := ⟨NVM_BOOTSTAT, 4, 1, 4⟩
def NVM_BOOTSTAT_BBANK : Fld := ⟨NVM_BOOTSTAT, 1, 1, 4⟩
def NVM_BOOTSTAT_ABANK : Fld := ⟨NVM_BOOTSTAT, 0, 1, 4⟩
def NVM_SVN : Nat := 0x40015054
def NVM_SVN_MIN : Fld := ⟨NVM_SVN, 0, 6, 4⟩
def NVM_KEYREV : Nat := 0x40015058
def NVM_KEYREV_REV : Fld := ⟨NVM_KEYREV, 0, 2, 4⟩
def NVM_SECCFG : Nat := 0x4001505C
def NVM_SECCFG_DBGLOCK : Fld := ⟨NVM_SECCFG, 0, 1, 4⟩
def NVM_ECCCNT : Nat := 0x40015060
def NVM_ECCCNT_SRAM : Fld := ⟨NVM_ECCCNT, 16, 16, 4⟩
def NVM_ECCCNT_MRAM : Fld := ⟨NVM_ECCCNT, 0, 16, 4⟩
def NVM_ECCADDR : Nat := 0x40015064
def NVM_ECCADDR_ADDR : Fld := ⟨NVM_ECCADDR, 0, 32, 4⟩
def NVM_STALL : Nat := 0x40015068
def NVM_STALL_COUNT : Fld := ⟨NVM_STALL, 0, 16, 4⟩
def NVM_OTPADDR : Nat := 0x4001506C
def NVM_OTPADDR_INDEX : Fld := ⟨NVM_OTPADDR, 0, 5, 4⟩
def NVM_OTPDATA : Nat := 0x40015070
def NVM_OTPDATA_DATA : Fld := ⟨NVM_OTPDATA, 0, 32, 4⟩
def CAN_CTRL : Nat := 0x40016008
def CAN_CTRL_FIFOPUSH : Fld := ⟨CAN_CTRL, 9, 1, 4096⟩
def CAN_CTRL_FIFOCLR : Fld := ⟨CAN_CTRL, 8, 1, 4096⟩
def CAN_CTRL_ABD : Fld := ⟨CAN_CTRL, 2, 1, 4096⟩
def CAN_CTRL_LOM : Fld := ⟨CAN_CTRL, 1, 1, 4096⟩
def CAN_CTRL_INIT : Fld := ⟨CAN_CTRL, 0, 1, 4096⟩
def CAN_STAT : Nat := 0x4001600C
def CAN_STAT_TEC : Fld := ⟨CAN_STAT, 24, 8, 4096⟩
def CAN_STAT_REC : Fld := ⟨CAN_STAT, 16, 8, 4096⟩
def CAN_STAT_SVC : Fld := ⟨CAN_STAT, 8, 3, 4096⟩
def CAN_STAT_INIT : Fld := ⟨CAN_STAT, 6, 1, 4096⟩
def CAN_STAT_LOM : Fld := ⟨CAN_STAT, 5, 1, 4096⟩
def CAN_STAT_SLEEP : Fld := ⟨CAN_STAT, 4, 1, 4096⟩
def CAN_STAT_RECOV : Fld := ⟨CAN_STAT, 2, 1, 4096⟩
def CAN_STAT_ESTATE : Fld := ⟨CAN_STAT, 0, 2, 4096⟩
def CAN_NBT : Nat := 0x40016040
def CAN_NBT_NBRP : Fld := ⟨CAN_NBT, 24, 8, 4096⟩
def CAN_NBT_NTSEG1 : Fld := ⟨CAN_NBT, 16, 8, 4096⟩
def CAN_NBT_NTSEG2 : Fld := ⟨CAN_NBT, 8, 7, 4096⟩
def CAN_NBT_NSJW : Fld := ⟨CAN_NBT, 0, 7, 4096⟩
def CAN_DBT : Nat := 0x40016044
def CAN_DBT_DBRP : Fld := ⟨CAN_DBT, 24, 5, 4096⟩
def CAN_DBT_DTSEG1 : Fld := ⟨CAN_DBT, 16, 6, 4096⟩
def CAN_DBT_DTSEG2 : Fld := ⟨CAN_DBT, 8, 5, 4096⟩
def CAN_DBT_DSJW : Fld := ⟨CAN_DBT, 0, 5, 4096⟩
def CAN_TDC : Nat := 0x40016048
def CAN_TDC_TDCEN : Fld := ⟨CAN_TDC, 31, 1, 4096⟩
def CAN_TDC_TDCO : Fld := ⟨CAN_TDC, 16, 8, 4096⟩
def CAN_TDC_TDCV : Fld := ⟨CAN_TDC, 0, 8, 4096⟩
def CAN_MODE : Nat := 0x4001604C
def CAN_MODE_RETRY : Fld := ⟨CAN_MODE, 8, 5, 4096⟩
def CAN_MODE_FDOE : Fld := ⟨CAN_MODE, 0, 1, 4096⟩
def CAN_WAKE : Nat := 0x40016050
def CAN_WAKE_WFEN : Fld := ⟨CAN_WAKE, 31, 1, 4096⟩
def CAN_WAKE_WEEN : Fld := ⟨CAN_WAKE, 30, 1, 4096⟩
def CAN_WAKE_WFLT : Fld := ⟨CAN_WAKE, 0, 8, 4096⟩
def CAN_WKID : Nat := 0x40016054
def CAN_WKID_XTD : Fld := ⟨CAN_WKID, 31, 1, 4096⟩
def CAN_WKID_ID : Fld := ⟨CAN_WKID, 0, 29, 4096⟩
def CAN_WKMSK : Nat := 0x40016058
def CAN_WKMSK_MASK : Fld := ⟨CAN_WKMSK, 0, 29, 4096⟩
def CAN_REFCFG : Nat := 0x4001605C
def CAN_REFCFG_TMEN : Fld := ⟨CAN_REFCFG, 31, 1, 4096⟩
def CAN_REFCFG_OBJ : Fld := ⟨CAN_REFCFG, 16, 7, 4096⟩
def CAN_REFCFG_PER : Fld := ⟨CAN_REFCFG, 0, 7, 4096⟩
def CAN_ABDCFG : Nat := 0x40016060
def CAN_ABDCFG_ABDTMO : Fld := ⟨CAN_ABDCFG, 0, 16, 4096⟩
def CAN_ABDRES : Nat := 0x40016064
def CAN_ABDRES_VALID : Fld := ⟨CAN_ABDRES, 31, 1, 4096⟩
def CAN_ABDRES_DRATE : Fld := ⟨CAN_ABDRES, 16, 3, 4096⟩
def CAN_ABDRES_NRATE : Fld := ⟨CAN_ABDRES, 0, 3, 4096⟩
def CAN_BOCNT : Nat := 0x40016068
def CAN_BOCNT_COUNT : Fld := ⟨CAN_BOCNT, 0, 16, 4096⟩
def CAN_OBJSEL : Nat := 0x4001606C
def CAN_OBJSEL_OBJ : Fld := ⟨CAN_OBJSEL, 0, 7, 4096⟩
def CAN_OBJCMD : Nat := 0x40016070
def CAN_OBJCMD_ACK : Fld := ⟨CAN_OBJCMD, 2, 1, 4096⟩
def CAN_OBJCMD_CANCEL : Fld := ⟨CAN_OBJCMD, 1, 1, 4096⟩
def CAN_OBJCMD_REQ : Fld := ⟨CAN_OBJCMD, 0, 1, 4096⟩
def CAN_RXNEW : Nat := 0x40016080
def CAN_RXNEW_NEW : Fld := ⟨CAN_RXNEW, 0, 32, 4096⟩
def CAN_TXPEND : Nat := 0x40016090
def CAN_TXPEND_PEND : Fld := ⟨CAN_TXPEND, 0, 32, 4096⟩
def CAN_FIFOSTAT : Nat := 0x400160A0
def CAN_FIFOSTAT_FULL : Fld := ⟨CAN_FIFOSTAT, 8, 1, 4096⟩
def CAN_FIFOSTAT_LEVEL : Fld := ⟨CAN_FIFOSTAT, 0, 6, 4096⟩
def CAN_OBJW : Nat := 0x40016100
def CAN_OBJW_VAL : Fld := ⟨CAN_OBJW, 0, 32, 4096⟩
def CAN_FIFOW : Nat := 0x40016180
def CAN_FIFOW_VAL : Fld := ⟨CAN_FIFOW, 0, 32, 4096⟩
def CAN_FLT : Nat := 0x40016400
def CAN_FLT_VAL : Fld := ⟨CAN_FLT, 0, 32, 4096⟩
def TKT_CFG : Nat := 0x4001A100
def TKT_CFG_EN : Fld := ⟨TKT_CFG, 31, 1, 16⟩
def TKT_CFG_DIR : Fld := ⟨TKT_CFG, 30, 1, 16⟩
def TKT_CFG_REACT : Fld := ⟨TKT_CFG, 29, 1, 16⟩
def TKT_CFG_RSEL : Fld := ⟨TKT_CFG, 28, 1, 16⟩
def TKT_CFG_CH : Fld := ⟨TKT_CFG, 26, 2, 16⟩
def TKT_CFG_SRCF : Fld := ⟨TKT_CFG, 24, 1, 16⟩
def TKT_CFG_OBJ : Fld := ⟨TKT_CFG, 16, 7, 16⟩
def TKT_CFG_LEN : Fld := ⟨TKT_CFG, 8, 6, 16⟩
def TKT_ID : Nat := 0x4001A104
def TKT_ID_ID : Fld := ⟨TKT_ID, 0, 32, 16⟩
def TKT_TIM : Nat := 0x4001A108
def TKT_TIM_EXP : Fld := ⟨TKT_TIM, 22, 10, 16⟩
def TKT_TIM_AGE : Fld := ⟨TKT_TIM, 12, 10, 16⟩
def TKT_TIM_RECOV : Fld := ⟨TKT_TIM, 8, 4, 16⟩
def TKT_TIM_MAXGAP : Fld := ⟨TKT_TIM, 0, 8, 16⟩
def TKT_STAT : Nat := 0x4001A10C
def TKT_STAT_STATE : Fld := ⟨TKT_STAT, 30, 2, 16⟩
def TKT_STAT_REASON : Fld := ⟨TKT_STAT, 24, 4, 16⟩
def TKT_STAT_SEQ : Fld := ⟨TKT_STAT, 0, 16, 16⟩
def TKT_EXPD : Nat := 0x4001A300
def TKT_EXPD_EXP : Fld := ⟨TKT_EXPD, 0, 32, 4⟩
def TKT_REJCNT : Nat := 0x4001A304
def TKT_REJCNT_COUNT : Fld := ⟨TKT_REJCNT, 0, 16, 4⟩
def TKT_REJLAST : Nat := 0x4001A308
def TKT_REJLAST_CON : Fld := ⟨TKT_REJLAST, 16, 5, 4⟩
def TKT_REJLAST_REASON : Fld := ⟨TKT_REJLAST, 0, 4, 4⟩
def TKT_NOWMS : Nat := 0x4001A30C
def TKT_NOWMS_MS : Fld := ⟨TKT_NOWMS, 0, 16, 4⟩
def HST_STAT : Nat := 0x4001B00C
def HST_STAT_MODE : Fld := ⟨HST_STAT, 16, 2, 4⟩
def HST_STAT_LHREQ : Fld := ⟨HST_STAT, 8, 1, 4⟩
def HST_STAT_STALEB : Fld := ⟨HST_STAT, 1, 1, 4⟩
def HST_STAT_STALEA : Fld := ⟨HST_STAT, 0, 1, 4⟩
def HST_CFG : Nat := 0x4001B040
def HST_CFG_HIRQEN : Fld := ⟨HST_CFG, 8, 1, 4⟩
def HST_CFG_MODE : Fld := ⟨HST_CFG, 0, 2, 4⟩
def HST_BBADDR : Nat := 0x4001B044
def HST_BBADDR_INDEX : Fld := ⟨HST_BBADDR, 0, 12, 4⟩
def HST_BBDATA : Nat := 0x4001B048
def HST_BBDATA_HI : Fld := ⟨HST_BBDATA, 16, 16, 4⟩
def HST_BBDATA_LO : Fld := ⟨HST_BBDATA, 0, 16, 4⟩
def HST_BBDONE : Nat := 0x4001B04C
def HST_BBDONE_DONE : Fld := ⟨HST_BBDONE, 0, 1, 4⟩
def HST_SEQ : Nat := 0x4001B050
def HST_SEQ_SEQ : Fld := ⟨HST_SEQ, 0, 16, 4⟩
def HST_CAUSE : Nat := 0x4001B054
def HST_CAUSE_SPIERR : Fld := ⟨HST_CAUSE, 3, 1, 4⟩
def HST_CAUSE_BADCMD : Fld := ⟨HST_CAUSE, 2, 1, 4⟩
def HST_CAUSE_WRADDR : Fld := ⟨HST_CAUSE, 1, 1, 4⟩
def HST_CAUSE_CMD : Fld := ⟨HST_CAUSE, 0, 1, 4⟩
def HST_MB : Nat := 0x4001B100
def HST_MB_DATA : Fld := ⟨HST_MB, 0, 16, 4⟩
def TMB_TICKLO : Nat := 0x4001C040
def TMB_TICKLO_TICK : Fld := ⟨TMB_TICKLO, 0, 32, 4⟩
def TMB_TICKHI : Nat := 0x4001C044
def TMB_TICKHI_TICK : Fld := ⟨TMB_TICKHI, 0, 32, 4⟩
def TMB_GEN : Nat := 0x4001C048
def TMB_GEN_GEN : Fld := ⟨TMB_GEN, 0, 32, 4⟩
def TMB_SRC : Nat := 0x4001C04C
def TMB_SRC_ALIGNED : Fld := ⟨TMB_SRC, 8, 1, 4⟩
def TMB_SRC_SOURCE : Fld := ⟨TMB_SRC, 0, 2, 4⟩
def TMB_GAPSTAT : Nat := 0x4001C050
def TMB_GAPSTAT_GENLOST : Fld := ⟨TMB_GAPSTAT, 11, 1, 4⟩
def TMB_GAPSTAT_NOWARN : Fld := ⟨TMB_GAPSTAT, 10, 1, 4⟩
def TMB_GAPSTAT_EXT : Fld := ⟨TMB_GAPSTAT, 9, 1, 4⟩
def TMB_GAPSTAT_ATTESTED : Fld := ⟨TMB_GAPSTAT, 8, 1, 4⟩
def TMB_GAPSTAT_KIND : Fld := ⟨TMB_GAPSTAT, 0, 2, 4⟩
def TMB_GAPMEAS : Nat := 0x4001C054
def TMB_GAPMEAS_MS : Fld := ⟨TMB_GAPMEAS, 0, 32, 4⟩
def TMB_EXTGAP : Nat := 0x4001C058
def TMB_EXTGAP_S : Fld := ⟨TMB_EXTGAP, 0, 32, 4⟩
def TMB_GAPATT : Nat := 0x4001C05C
def TMB_GAPATT_S : Fld := ⟨TMB_GAPATT, 0, 32, 4⟩
def TMB_LASTLO : Nat := 0x4001C060
def TMB_LASTLO_TICK : Fld := ⟨TMB_LASTLO, 0, 32, 4⟩
def TMB_LASTHI : Nat := 0x4001C064
def TMB_LASTHI_TICK : Fld := ⟨TMB_LASTHI, 0, 32, 4⟩
def TMB_CAUSE : Nat := 0x4001C068
def TMB_CAUSE_ALIGN : Fld := ⟨TMB_CAUSE, 2, 1, 4⟩
def TMB_CAUSE_REFUSED : Fld := ⟨TMB_CAUSE, 1, 1, 4⟩
def TMB_CAUSE_ATTESTED : Fld := ⟨TMB_CAUSE, 0, 1, 4⟩
def BBX_CTRL : Nat := 0x4001D008
def BBX_CTRL_RELEASE : Fld := ⟨BBX_CTRL, 2, 1, 4⟩
def BBX_CTRL_SWPUSH : Fld := ⟨BBX_CTRL, 1, 1, 4⟩
def BBX_CTRL_FREEZE : Fld := ⟨BBX_CTRL, 0, 1, 4⟩
def BBX_STAT : Nat := 0x4001D00C
def BBX_STAT_COPY : Fld := ⟨BBX_STAT, 31, 1, 4⟩
def BBX_STAT_HELD : Fld := ⟨BBX_STAT, 30, 1, 4⟩
def BBX_STAT_VALID : Fld := ⟨BBX_STAT, 29, 1, 4⟩
def BBX_STAT_BLOCKS : Fld := ⟨BBX_STAT, 16, 6, 4⟩
def BBX_CFG : Nat := 0x4001D040
def BBX_CFG_KEEP : Fld := ⟨BBX_CFG, 31, 1, 4⟩
def BBX_CFG_SNAPPER : Fld := ⟨BBX_CFG, 0, 8, 4⟩
def BBX_SWADDR : Nat := 0x4001D044
def BBX_SWADDR_INDEX : Fld := ⟨BBX_SWADDR, 0, 10, 4⟩
def BBX_RECEN : Nat := 0x4001D048
def BBX_RECEN_EN : Fld := ⟨BBX_RECEN, 0, 32, 4⟩
def BBX_RECPTR : Nat := 0x4001D068
def BBX_RECPTR_SNEXT : Fld := ⟨BBX_RECPTR, 16, 6, 4⟩
def BBX_RECPTR_NEXT : Fld := ⟨BBX_RECPTR, 0, 12, 4⟩
def BBX_RECNUM : Nat := 0x4001D06C
def BBX_RECNUM_NUM : Fld := ⟨BBX_RECNUM, 0, 32, 4⟩
def BBX_DROPS : Nat := 0x4001D070
def BBX_DROPS_COUNT : Fld := ⟨BBX_DROPS, 0, 16, 4⟩
def BBX_MISSED : Nat := 0x4001D074
def BBX_MISSED_COUNT : Fld := ⟨BBX_MISSED, 0, 16, 4⟩
def BBX_FREEZEID : Nat := 0x4001D078
def BBX_FREEZEID_ID : Fld := ⟨BBX_FREEZEID, 0, 32, 4⟩
def BBX_FTICK : Nat := 0x4001D07C
def BBX_FTICK_TICK : Fld := ⟨BBX_FTICK, 0, 32, 4⟩
def BBX_SWREC : Nat := 0x4001D080
def BBX_SWREC_DATA : Fld := ⟨BBX_SWREC, 0, 32, 4⟩
def BBX_CAUSE : Nat := 0x4001D08C
def BBX_CAUSE_DROPPED : Fld := ⟨BBX_CAUSE, 3, 1, 4⟩
def BBX_CAUSE_MISSED : Fld := ⟨BBX_CAUSE, 2, 1, 4⟩
def BBX_CAUSE_PARTIAL : Fld := ⟨BBX_CAUSE, 1, 1, 4⟩
def BBX_CAUSE_FROZEN : Fld := ⟨BBX_CAUSE, 0, 1, 4⟩
def PWR_STAT : Nat := 0x4000200C
def PWR_STAT_STATE : Fld := ⟨PWR_STAT, 16, 2, 4⟩
def PWR_STAT_HOLDFLT : Fld := ⟨PWR_STAT, 2, 1, 4⟩
def PWR_STAT_HOLDOK : Fld := ⟨PWR_STAT, 1, 1, 4⟩
def PWR_STAT_OVERV : Fld := ⟨PWR_STAT, 0, 1, 4⟩
def PWR_HOLDCFG : Nat := 0x40002040
def PWR_HOLDCFG_CAP : Fld := ⟨PWR_HOLDCFG, 0, 16, 4⟩
def PWR_PAUSECFG : Nat := 0x40002044
def PWR_PAUSECFG_PMAX : Fld := ⟨PWR_PAUSECFG, 0, 10, 4⟩
def PWR_VBAT : Nat := 0x40002100
def PWR_VBAT_MV : Fld := ⟨PWR_VBAT, 0, 16, 4⟩
def PWR_VHOLD : Nat := 0x40002104
def PWR_VHOLD_MV : Fld := ⟨PWR_VHOLD, 0, 16, 4⟩
def PWR_HOLDE : Nat := 0x40002108
def PWR_HOLDE_UJ : Fld := ⟨PWR_HOLDE, 0, 16, 4⟩
def PWR_COUNT : Nat := 0x4000210C
def PWR_COUNT_BOWS : Fld := ⟨PWR_COUNT, 16, 16, 4⟩
def PWR_COUNT_PAUSES : Fld := ⟨PWR_COUNT, 0, 16, 4⟩
def PWR_PAUSELAST : Nat := 0x40002110
def PWR_PAUSELAST_MS : Fld := ⟨PWR_PAUSELAST, 0, 16, 4⟩
def CLK_STAT : Nat := 0x4000100C
def CLK_STAT_SYSHALF : Fld := ⟨CLK_STAT, 8, 1, 4⟩
def CLK_STAT_PLLLOCK : Fld := ⟨CLK_STAT, 1, 1, 4⟩
def CLK_STAT_XTALOK : Fld := ⟨CLK_STAT, 0, 1, 4⟩
def CLK_AOFREQ : Nat := 0x40001100
def CLK_AOFREQ_HZ : Fld := ⟨CLK_AOFREQ, 0, 32, 4⟩
def RST_WDCFG : Nat := 0x40003040
def RST_WDCFG_WDMAX : Fld := ⟨RST_WDCFG, 24, 8, 4⟩
def RST_WDCFG_WDMIN : Fld := ⟨RST_WDCFG, 16, 8, 4⟩
def RST_WDCFG_HOLD : Fld := ⟨RST_WDCFG, 8, 6, 4⟩
def RST_WDCFG_EARLY : Fld := ⟨RST_WDCFG, 0, 1, 4⟩
def RST_WDSVCA : Nat := 0x40003044
def RST_WDSVCA_KEY : Fld := ⟨RST_WDSVCA, 0, 16, 4⟩
def RST_WDSVCB : Nat := 0x40003048
def RST_WDSVCB_KEY : Fld := ⟨RST_WDSVCB, 0, 16, 4⟩
def RST_WDSTAT : Nat := 0x4000304C
def RST_WDSTAT_CNTB : Fld := ⟨RST_WDSTAT, 24, 8, 4⟩
def RST_WDSTAT_CNTA : Fld := ⟨RST_WDSTAT, 16, 8, 4⟩
def RST_RSTINFO : Nat := 0x40003050
def RST_RSTINFO_LONG : Fld := ⟨RST_RSTINFO, 16, 1, 4⟩
def RST_RSTINFO_WDWHY : Fld := ⟨RST_RSTINFO, 11, 2, 4⟩
def RST_RSTINFO_WDPAIR : Fld := ⟨RST_RSTINFO, 9, 2, 4⟩
def RST_RSTINFO_CODE : Fld := ⟨RST_RSTINFO, 0, 8, 4⟩
def RST_RSTLEN : Nat := 0x40003054
def RST_RSTLEN_MS : Fld := ⟨RST_RSTLEN, 0, 32, 4⟩
def RST_NRSTLEN : Nat := 0x40003058
def RST_NRSTLEN_MS : Fld := ⟨RST_NRSTLEN, 0, 32, 4⟩
def SYS_ACCINFO : Nat := 0x40000048
def SYS_ACCINFO_INIT : Fld := ⟨SYS_ACCINFO, 30, 2, 4⟩
def SYS_ACCINFO_WRITE : Fld := ⟨SYS_ACCINFO, 29, 1, 4⟩
def SYS_ACCINFO_KIND : Fld := ⟨SYS_ACCINFO, 24, 2, 4⟩
def SYS_ACCINFO_PAGE : Fld := ⟨SYS_ACCINFO, 0, 5, 4⟩
def SYS_ACCADDR : Nat := 0x4000004C
def SYS_ACCADDR_ADDR : Fld := ⟨SYS_ACCADDR, 0, 32, 4⟩
def EVC_ROUTE : Nat := 0x4001E040
def EVC_ROUTE_ROUTE : Fld := ⟨EVC_ROUTE, 0, 32, 4⟩
def EVC_CLAIMA : Nat := 0x4001E100
def EVC_CLAIMA_VALID : Fld := ⟨EVC_CLAIMA, 31, 1, 4⟩
def EVC_CLAIMA_SRC : Fld := ⟨EVC_CLAIMA, 0, 8, 4⟩
def EVC_CLAIMB : Nat := 0x4001E104
def EVC_CLAIMB_VALID : Fld := ⟨EVC_CLAIMB, 31, 1, 4⟩
def EVC_CLAIMB_SRC : Fld := ⟨EVC_CLAIMB, 0, 8, 4⟩
def EVC_DELA : Nat := 0x4001E110
def EVC_DELA_DEL : Fld := ⟨EVC_DELA, 0, 32, 4⟩
def EVC_DELB : Nat := 0x4001E130
def EVC_DELB_DEL : Fld := ⟨EVC_DELB, 0, 32, 4⟩
def DBG_STAT : Nat := 0x4001F00C
def DBG_STAT_HALTED : Fld := ⟨DBG_STAT, 2, 1, 4⟩
def DBG_STAT_LOCKED : Fld := ⟨DBG_STAT, 1, 1, 4⟩
def DBG_STAT_CONN : Fld := ⟨DBG_STAT, 0, 1, 4⟩
def DBG_REFCNT : Nat := 0x4001F040
def DBG_REFCNT_COUNT : Fld := ⟨DBG_REFCNT, 0, 16, 4⟩
def SYS_PROFREQ : Nat := 0x40000040
def SYS_PROFREQ_REQ : Fld := ⟨SYS_PROFREQ, 0, 2, 4⟩
def SYS_PROFSTAT : Nat := 0x40000044
def SYS_PROFSTAT_DEVNUM : Fld := ⟨SYS_PROFSTAT, 12, 3, 4⟩
def SYS_PROFSTAT_ANCHOR : Fld := ⟨SYS_PROFSTAT, 10, 1, 4⟩
def SYS_PROFSTAT_ROLE : Fld := ⟨SYS_PROFSTAT, 8, 2, 4⟩
def SYS_PROFSTAT_MODE : Fld := ⟨SYS_PROFSTAT, 4, 1, 4⟩
def SYS_PROFSTAT_PROF : Fld := ⟨SYS_PROFSTAT, 0, 2, 4⟩

end Reg

end Sys2Proof.Machine
end

