-- ==== Sys2Proof/Machine/State.lean ====
section
/-!
DEFINITION. The state of the block: the register words of every page, the addressed memories, the time, the hidden
state of each subsystem that its rules imply, and the queue of waiting commands. Plain data throughout.
What a register shows is held in `regs` alone; the structures below hold only what no register shows.
Ticks are Nat counts of model time (`State.now`); `TICK` (R375) is `State.tick`.
-/
namespace Sys2Proof.Machine

/-- A canonical map from numbers: keys strictly rising, no entry equal to the map's default. -/
abbrev KMap (α : Type) := List (Nat × α)

/-- Why the block stops. The manual gives every operation of the table an effect, or says that it has none: no meaning of
this model ends in a fault. -/
inductive Fault where
  /-- Raised by nothing: it stands for the stops that the manual does not have (assumption 22). Safe: no run ends in it. -/
  | neverRaised
  deriving DecidableEq, Repr

/-- Why a command has no meaning. -/
inductive Refusal where
  /-- Raised by `exec` for a command whose meaning is not written. Safe: the model stops. -/
  | notModelled (mnemonic : String)
  deriving DecidableEq, Repr

/-- A set or clear state with its count of consecutive qualifying samples (R217). -/
structure Dwell where
  /-- The state. -/
  on : Bool := false
  /-- Consecutive samples toward its change. -/
  n : Nat := 0
  deriving DecidableEq, Repr

/-- One balancing switch (R283). -/
structure Switch where
  /-- Closed now. -/
  on : Bool := false
  /-- Tick at which it last closed. -/
  onAt : Nat := 0
  /-- Tick at which it last opened. -/
  offAt : Nat := 0
  /-- Ticks closed since the frame boundary (R287). -/
  acc : Nat := 0
  deriving DecidableEq, Repr

/-- A modulation of balancing switches by the impedance engine (R186): that of the last pass. -/
structure Modulation where
  /-- Channels modulated, bit i. -/
  mask : Nat := 0
  /-- Tick at which the pass begins, and the tick at which it ends. -/
  b : Nat := 0
  e : Nat := 0
  /-- Cycles and frames of the point. -/
  cyc : Nat := 1
  frm : Nat := 1
  deriving DecidableEq, Repr

/-- Over- and under-voltage state of one channel in one monitor copy (R217). -/
structure ChanMon where
  ov : Dwell := {}
  uv : Dwell := {}
  deriving DecidableEq, Repr

/-- Temperature threshold states of one input (R221, R223). -/
structure TempMon where
  /-- Over-temperature. -/
  ot : Dwell := {}
  /-- Under-temperature. -/
  ut : Dwell := {}
  /-- Low direction threshold. -/
  lo : Dwell := {}
  /-- High direction threshold. -/
  hi : Dwell := {}
  deriving DecidableEq, Repr

/-- One copy of the window monitors (R215). -/
structure Monitor where
  /-- Cell windows, channel 1 first (R217). -/
  ch : List ChanMon := List.replicate 48 {}
  /-- Instantaneous limit, charge direction (R218). -/
  slcC : Dwell := {}
  /-- Instantaneous limit, discharge direction (R218). -/
  slcD : Dwell := {}
  /-- I²t integrator of the charge direction, A²s (R219). -/
  ec : Rat := 0
  /-- I²t integrator of the discharge direction, A²s (R219). -/
  ed : Rat := 0
  /-- I²t cause and block count, charge (R219). -/
  i2tC : Dwell := {}
  /-- I²t cause and block count, discharge (R219). -/
  i2tD : Dwell := {}
  /-- Safely limited direction: cause and block count (R221). -/
  sld : Dwell := {}
  /-- Temperature thresholds, TH1 to TH16 then TL1 to TL8 (R223). -/
  temp : List TempMon := List.replicate 24 {}
  deriving DecidableEq, Repr

/-- Hidden state of the safety monitor. -/
structure Saf where
  /-- Copy X (R215). -/
  x : Monitor := {}
  /-- Copy Y (R215). -/
  y : Monitor := {}
  /-- Copy under test, false X, true Y (R237). -/
  testing : Option Bool := none
  /-- Copy tested in the next frame: copies alternate (R237). -/
  nextTest : Bool := false
  /-- The last test of copy X failed (R238). -/
  failX : Bool := false
  /-- The last test of copy Y failed (R238). -/
  failY : Bool := false
  /-- Consecutive samples on which the copies decided differently: of the sample sets, of the blocks, and of each
  temperature input (R238). -/
  differ : List Nat := List.replicate 26 0
  /-- A disagreement waits for a later passed test of copy X (R238). -/
  disX : Bool := false
  /-- A disagreement waits for a later passed test of copy Y (R238). -/
  disY : Bool := false
  /-- A primary word differs from its redundant copy (R215). -/
  mismatch : Bool := false
  /-- Samples of the 1 ms block in progress, and the tick at which that block began (R219). -/
  blkN : Nat := 0
  blkAt : Nat := 0
  /-- Sum over the block of max(0, I)² in A² (R219). -/
  blkC : Rat := 0
  /-- Sum over the block of max(0, −I)² in A² (R219). -/
  blkD : Rat := 0
  /-- Sum over the block of I in A (R221). -/
  blkI : Rat := 0
  /-- Overcurrent trip signals passed on: charge X, charge Y, discharge X, discharge Y (R108, R220). -/
  oc : List Bool := [false, false, false, false]
  /-- Charge-forbidden state received with the last heartbeat (R222). -/
  cascadeForb : Bool := false
  /-- Charge-forbidden states reported by the followers, bit d (R222). -/
  followerForb : Nat := 0
  /-- Tick at which the record `RFIRST` was begun, and that of the last SWTRIP, each plus 1 (R230). -/
  firstAt : Nat := 0
  swAt : Nat := 0
  /-- Sources that drive TRIP, bit s (R225, R229). -/
  tripBy : Nat := 0
  /-- TRIP recognised low: the cause of source 10 (R145, R224). -/
  tripIn : Bool := false
  /-- Ticket connections whose expiry reaction TKA is present, bit n (R224). -/
  tka : Nat := 0
  /-- Ticket connections whose expiry reaction TKB is present, bit n (R224). -/
  tkb : Nat := 0
  /-- The cause of source 14 is present (R224). -/
  loss : Bool := false
  /-- Device number recorded with source 14 (Table 9.5). -/
  lossDev : Nat := 0
  /-- THM_COVERAGE persists: the cause of source 9 (R202, R224). -/
  coverage : Bool := false
  /-- A safety reaction has occurred since the last frame boundary (R39, R40). -/
  latchedInFrame : Bool := false
  deriving DecidableEq, Repr

/-- The open-wire test (R87, R88). -/
structure OpenWire where
  /-- 0 idle, 1 granted and waiting for T_S, 2 even pass, 3 first recovery, 4 odd pass, 5 second recovery,
  6 ended, result awaited. -/
  phase : Nat := 0
  /-- T_S. -/
  ts : Nat := 0
  /-- Populated channels at T_S, bit i. -/
  pop : Nat := 0
  /-- `OWCFG.ISEL` in force at T_S. -/
  isel : Nat := 0
  /-- `OWCFG.THRESH` in force at T_S. -/
  thresh : Nat := 0
  /-- A sample set inside the test was discarded. -/
  lost : Bool := false
  /-- Fine results and SAT flags at T_S, + 100,000, + 200,000, + 300,000. -/
  s0 : List (Int × Bool) := []
  s1 : List (Int × Bool) := []
  s2 : List (Int × Bool) := []
  s3 : List (Int × Bool) := []
  deriving DecidableEq, Repr

/-- Hidden state of the cell measurement and of the barrier. -/
structure CellMeas where
  /-- Sequence number expected of the next sample set, 8 bits (R25, R26). -/
  nextSeq : Nat := 0
  /-- Consecutive sets discarded or missing (R26). -/
  badRun : Nat := 0
  /-- The transformer supply has failed (R26). -/
  supplyFail : Bool := false
  /-- BARRIER_FAULT is in force (R26, R461). -/
  barrier : Bool := false
  /-- BARRIER_FAULT was raised by the pause limit (R396). -/
  pauseFault : Bool := false
  /-- Tick at which BARRIER_FAULT ended (R461, Table 3.8). -/
  barrierEnd : Nat := 0
  /-- CELL_REF_FAULT is in force (R95). -/
  ref : Bool := false
  /-- Consecutive Fine instants with the reference beyond, and within, ±100 ppm (R95, R461). -/
  refBad : Nat := 0
  refGood : Nat := 0
  /-- Tick at which CELL_REF_FAULT ended (Table 3.8). -/
  refEnd : Nat := 0
  /-- The unpopulated-channel part of the cause of source 8 (R86). -/
  unpop : Bool := false
  /-- Consecutive Fine results at or beyond ±20,000 µV, by channel (R86). -/
  unpopBad : List Nat := List.replicate 48 0
  /-- Consecutive Fine instants with every unpopulated channel within ±20,000 µV (R86). -/
  unpopGood : Nat := 0
  /-- Consecutive Fine instants beyond SEGTOL (R96). -/
  sumBad : Nat := 0
  /-- Tick of the last Fine instant beyond SEGTOL (R96, Table 3.8). -/
  sumEnd : Nat := 0
  /-- Open-wire test. -/
  ow : OpenWire := {}
  /-- A quiet pause holds the switches open (R93). -/
  quietPause : Bool := false
  /-- Measurement is powered and running: false in Sleep, between watch frames and during a pause (R37, R395). -/
  running : Bool := true
  /-- The measurement die was powered up in advance of a watch frame (R81). -/
  warm : Bool := false
  /-- Own frame buffer of the frame in progress: the sets as R128 lays them out (R29). -/
  buffer : List SetPacket := []
  /-- Own frame buffer of the last frame of Run or watch frame (R29). -/
  lastBuffer : List SetPacket := []
  /-- The previous frame was measured. -/
  lastRan : Bool := false
  /-- A VBAT pause fell into the frame in progress, and into the last frame (R395). -/
  paused : Bool := false
  lastPaused : Bool := false
  /-- Quiet codes of the last measured frame, none where it took no quiet set (R93, R150). -/
  lastQuiet : List Int := []
  /-- The previous frame was one of Run or a watch frame, measured or in a pause. -/
  lastAct : Bool := false
  /-- The last such frame was a Fast frame, and its number. -/
  lastFast : Bool := false
  lastFrame : Nat := 0
  /-- Latest Fine results with SAT flags, channel 1 first (R284 eligibility). -/
  fine : List (Int × Bool) := List.replicate 48 (0, false)
  deriving DecidableEq, Repr

/-- Hidden state of the pack-current block. -/
structure Ipk where
  /-- Fine instants of the frame in progress (Table 4.4). -/
  n : Nat := 0
  /-- Sums of CUR1, CUR2 over the Fine instants of the frame, mA. -/
  sum1 : Int := 0
  sum2 : Int := 0
  /-- Hall instants of the frame and the sum of HALLCUR. -/
  nH : Nat := 0
  sumH : Int := 0
  /-- Sums of VOLT1 to VOLT4 over the Fine instants of the frame, mV (R128). -/
  sumV : List Int := [0, 0, 0, 0]
  /-- Hall code taken at the latest Fine instant, and that instant: it is shown with the sample set of the instant (R123). -/
  hall : Nat := 0
  hallAt : Nat := 0
  /-- A Hall code of the frame lay outside 0.25 V to 4.75 V (R111). -/
  hallBad : Bool := false
  /-- Consecutive frames of disagreement (R106, R111). -/
  ishRun : Nat := 0
  hallRun : Nat := 0
  /-- Comparator outputs ahead of the glitch filter: charge X, charge Y, discharge X, discharge Y (R107, R108). -/
  raw : List Bool := [false, false, false, false]
  /-- Tick at which each comparator output last changed (R108). -/
  rawAt : List Nat := [0, 0, 0, 0]
  /-- Copy under test, false X, true Y (R109). -/
  ocTest : Option Bool := none
  /-- Copy tested in the next frame (R109). -/
  ocNext : Bool := false
  /-- The current sample used in the frame was valid throughout (R151). -/
  valid : Bool := true
  deriving DecidableEq, Repr

/-- The isolation measurement (R114 to R122). -/
structure Iso where
  /-- Follower as anchor: a request waits to be reported in its next frame record (R281, assumption 13). -/
  asked : Bool := false
  /-- 0 idle, 1 R_A engaged, 2 pause between the switches, 3 R_B engaged, 4 result window. -/
  phase : Nat := 0
  /-- The grant is held and the start boundary G is set (R281). -/
  g : Option Nat := none
  /-- Tick at which the present phase began. -/
  since : Nat := 0
  /-- Frames of the present state completed (R116). -/
  frames : Nat := 0
  /-- Fractions a of the last frames, newest first, at most 20 (R116). -/
  hist : List Rat := []
  /-- a_0, a_1, a_2 (Table 4.2). -/
  a0 : Rat := 0
  a1 : Rat := 0
  a2 : Rat := 0
  /-- E_B. -/
  eb : Nat := 0
  /-- ISO_A driven, ISO_B driven (R114). -/
  isoA : Bool := false
  isoB : Bool := false
  /-- Tick at which the driven switch was commanded on (R122). -/
  onAt : Nat := 0
  /-- Consecutive Fine instants with a drive current below 1 mA (R122). -/
  low : Nat := 0
  /-- Sum of the chassis potential over the Fine instants of the frame, mV, and their count (R115). -/
  chSum : Int := 0
  chN : Nat := 0
  /-- Consecutive frames with ISOVMAX at or above 1,000,000 mV (R115). -/
  stress : Nat := 0
  deriving DecidableEq, Repr

/-- Hidden state of balancing and of the exclusion matrix. -/
structure Bal where
  /-- The switches, CH1 first (R283). -/
  sw : List Switch := List.replicate 48 {}
  /-- On set of the frame, bit i for CH(i+1) (R284). -/
  onSet : Nat := 0
  /-- Eligible set of the last boundary (R284). -/
  eligible : Nat := 0
  /-- Channel index after the last channel that was on in the frames before this one: the rotation starts there (R284). -/
  rotFrom : Nat := 0
  /-- Channel index after the last channel of the present on set. -/
  rotNext : Nat := 0
  /-- The on set has been driven in this frame. -/
  ran : Bool := false
  /-- Second half of the Fine period: even channels (R434). -/
  half : Bool := false
  /-- Channels whose result and populated state made them eligible at the last boundary, bit i (R284). -/
  valid : Nat := 0
  /-- The pattern was written since the last Fine instant (R284). -/
  newPat : Bool := false
  /-- Devices whose grant the lead holds, bit d, by activity code 2, 4, 6 (R281). -/
  grants2 : Nat := 0
  grants4 : Nat := 0
  grants6 : Nat := 0
  /-- Codes that the lead has asked the cascade for, bit k (R281). -/
  asked : Nat := 0
  /-- Codes that hold or wait for a cascade grant of the lead on this follower, bit k (R281). -/
  forLead : Nat := 0
  /-- Pending codes whose owner no longer wants them, bit k: such a request stays pending and ends with its grant (R282). -/
  gone : Nat := 0
  /-- The modulation of the last impedance pass (R186). -/
  modul : Modulation := {}
  deriving DecidableEq, Repr

/-- One load channel (R257 to R266). -/
structure Chan where
  /-- Tick of the turn-on command (R258). -/
  start : Nat := 0
  /-- Inrush budget in ms (R258, R271). -/
  budget : Nat := 20
  /-- Slew in force, V/ms (R258, R271). -/
  slew : Nat := 10
  /-- Ticks spent frozen, and the tick at which the present freeze began (R264). -/
  frozen : Nat := 0
  frozenAt : Nat := 0
  /-- Consecutive open-load readings (R262). -/
  olN : Nat := 0
  /-- Own protection tripped since LHx last went high (R272). -/
  tripped : Bool := false
  deriving DecidableEq, Repr

/-- Hidden state of the load channels. -/
structure Out where
  /-- OUT1 first. -/
  ch : List Chan := List.replicate 16 {}
  /-- Channel index under test, and whether the pulse is a dark one (R266). -/
  test : Option (Nat × Bool) := none
  /-- Tick at which the pulse ends. -/
  testEnd : Nat := 0
  /-- Frame from which the next test may run (R266). -/
  testFrame : Nat := 0
  /-- Channel index after the last one tested. -/
  testNext : Nat := 0
  /-- Channel whose incomplete test is repeated, and the frame from which it may be (R267). -/
  retest : Option (Nat × Nat) := none
  /-- Diagnostics are suspended after a crank until this tick (R264). -/
  diagFrom : Nat := 0
  /-- VBAT is below 4.5 V (R264). -/
  crank : Bool := false
  /-- Tick of the last shed of each cluster (R265). -/
  shedAt : List Nat := [0, 0, 0, 0]
  /-- The cluster is still at or above 175 °C (R265). -/
  hot : List Bool := [false, false, false, false]
  deriving DecidableEq, Repr

/-- Hidden state of Safety Net. -/
structure Lhm where
  /-- Tick at which each filtered LHx level last changed (R272). -/
  lhAt : List Nat := [0, 0, 0, 0]
  /-- Tick at which the episode began (R273). -/
  since : Nat := 0
  /-- The episode began during a reset (R273). -/
  inReset : Bool := false
  /-- Host requests in force: bit 0 `HREQ.REQ`, bit 1 the mailbox (R269). -/
  hreq : Nat := 0
  deriving DecidableEq, Repr

/-- Hidden state of the contactor sequencer. -/
structure Cts where
  /-- Channel of each role in use, 0 unmapped: MP, MN, PC, CP, CN, AUX (R241, R242). -/
  map : List Nat := [0, 0, 0, 0, 0, 0]
  /-- Tick of entry to the drive state and to the charge state. -/
  since : Nat := 0
  cSince : Nat := 0
  /-- a_0 (R246). -/
  a0 : Rat := 0
  /-- VOLT1 to VOLT4 in mV and ISH1 in mA of the latest delivered sample (R243). -/
  v1 : Int := 0
  v2 : Int := 0
  v3 : Int := 0
  v4 : Int := 0
  i1 : Int := 0
  /-- VOLT2 of the sample before, and whether that sample, one instant earlier, was delivered (R246). -/
  v2p : Int := 0
  v2ok : Bool := false
  /-- Consecutive missing samples (R243). -/
  miss : Nat := 0
  /-- Consecutive samples with |I| ≤ IOPEN in RAMP, drive and charge (Table 10.3). -/
  low : Nat := 0
  cLow : Nat := 0
  /-- Consecutive samples within CMATCH (Table 10.5). -/
  matchN : Nat := 0
  /-- Highest |ISH1| in PROBE, mA (R248). -/
  probeMax : Int := 0
  /-- Drive close is refused until this tick (R247). -/
  coolUntil : Nat := 0
  /-- Reason that the next opening record carries (R250). -/
  reason : Nat := 1
  /-- TRAMP in ticks for the ramp in progress (Table 10.6). -/
  ramp : Nat := 0
  /-- Consecutive samples that met the EARLY condition of the watchdog hold (R411). -/
  earlyN : Nat := 0
  /-- Tick of the last PC on-command (R246). -/
  pcAt : Nat := 0
  /-- ROLEMAP to RETRY as read at entry to the drive state and to the charge state (R242). -/
  cfg : List Nat := []
  cCfg : List Nat := []
  deriving DecidableEq, Repr

/-- A black-box record (Table 17.2). -/
structure BbxRec where
  tick : Nat
  gen : Nat
  num : Nat
  kind : Nat
  source : Nat
  flags : Nat
  d0 : Nat
  d1 : Nat
  d2 : Nat
  deriving DecidableEq, Repr

/-- A freeze copy in progress (R385, R386). -/
structure Freeze where
  /-- Freeze tick, as TICK and as model time. -/
  tick : Nat
  atNow : Nat
  /-- Trigger code and source (R384). -/
  trig : Nat
  src : Nat
  /-- FREEZEID and GEN of the image. -/
  id : Nat
  gen : Nat
  /-- The copy has started: it holds the MRAM write port. -/
  started : Bool
  /-- Blocks written. -/
  blocks : Nat
  deriving DecidableEq, Repr

/-- Hidden state of the black box. -/
structure Bbx where
  /-- Valid records in the ring, at most 4,096 (R382). -/
  count : Nat := 0
  /-- Records that wait while a copy runs, oldest first, at most 64 (R386). -/
  fifo : List BbxRec := []
  /-- Records dropped during the copy in progress (R386). -/
  dropped : Nat := 0
  /-- The copy in progress. -/
  copy : Option Freeze := none
  deriving DecidableEq, Repr

/-- Where the control die stands between a reset and running software (Table 18.6). -/
inductive Phase where
  /-- In reset. -/
  | inReset
  /-- Released: boot steps 1 to 4. -/
  | released
  /-- Step 5 complete: GEN and the records written. -/
  | records
  /-- Both Pair A regions failed (R328). -/
  | bootHold
  /-- The pairs are at their ENTRY. -/
  | run
  deriving DecidableEq, Repr

/-- Supply, clock, reset and watchdog state that no register shows. -/
structure Power where
  /-- Where the control die stands. -/
  phase : Phase := .released
  /-- Reset code of the last device reset (Table 18.5), in the always-on domain. -/
  code : Nat := 1
  /-- Tick at which the last reset began (R378, Table 18.9). -/
  resetAt : Nat := 0
  /-- Tick at which the last reset was released (R412). -/
  releasedAt : Nat := 0
  /-- Tick at which the pause began (R395). -/
  pauseAt : Option Nat := none
  /-- Tick at which VBAT returned at or above 4.5 V while measurement waits for its boundary (R395). -/
  backAt : Option Nat := none
  /-- Tick at which the brown-out warning began (R398). -/
  warnAt : Option Nat := none
  /-- Tick since which HOLDE has been below 1,200 µJ in state Normal (R397). -/
  lowSince : Option Nat := none
  /-- Tick at which the output hold began (R411). -/
  holdAt : Option Nat := none
  /-- First key of a service written, Pair A and Pair B (R410). -/
  keyA : Bool := false
  keyB : Bool := false
  /-- Pair and reason of a watchdog expiry, in the always-on domain (R411). -/
  wdPair : Nat := 0
  wdWhy : Nat := 0
  /-- Tick at which nRST was found low (R407). -/
  nrstAt : Option Nat := none
  /-- nRST holds the device in reset (R407). -/
  nrstLow : Bool := false
  /-- Length of the last nRST hold in ms, in the always-on domain (R407). -/
  nrstMs : Nat := 0
  /-- Length of the last reset in ms (Table 18.9). -/
  resetMs : Nat := 0
  /-- The device is leaving Sleep (R41). -/
  waking : Bool := false
  /-- Tick at which it began to leave Sleep, that of the lead's wake pattern (R135). -/
  wakeAt : Nat := 0
  /-- VBAT was lost since the last boot (R378). -/
  vbatLost : Bool := true
  /-- The core supply has failed while VBAT is present (R269). -/
  coreFail : Bool := false
  /-- The PLL runs and TICK counts on the TICK clock (R405). -/
  pll : Bool := true
  /-- A clock failure holds the device in reset (R403). -/
  clockFail : Bool := false
  /-- PWR_HOLD_FAULT is to be raised once the pairs run (R412). -/
  holdFltBoot : Bool := false
  /-- Fault of the LHCFG strap is to be raised at the first boot (Table 11.5). -/
  strapFault : Bool := false
  /-- The PLL has been restarted and has not locked (R405). -/
  pllOn : Bool := false
  /-- Tick since which what a reset waits for has held: its 1 ms count runs from there (Table 18.5). -/
  okAt : Option Nat := none
  /-- The die thermal hard stop holds the control die in reset (R212). -/
  hot : Bool := false
  /-- An nRST hold has ended since the last boot (R407). -/
  nrstNew : Bool := false
  /-- Die thermal stage in force, 0 to 3 (R211), and the tick of entry to stage 3. -/
  stage : Nat := 0
  stage3At : Nat := 0
  /-- Who holds the data-MRAM write port: 0 free, 1 TICK save, 2 journal, 3 freeze, 4 pair store (R321, R389). -/
  port : Nat := 0
  deriving DecidableEq, Repr

/-- An impedance reference (R191). -/
structure EisRef where
  re : Rat
  t : Rat
  rho : Rat
  z : Rat
  deriving DecidableEq, Repr

/-- The retained records of data MRAM (Table 14.5) and the boot record (R327, R331). -/
structure Retained where
  /-- TICK of the last periodic save, and that of the save at a brown-out warning, which counts until the warning ends or the
  next boot (R378). -/
  tick : Nat := 0
  warnTick : Nat := 0
  warned : Bool := false
  /-- GEN; none when neither slot is valid (R377). -/
  gen : Option Nat := none
  /-- A periodic save of TICK has been made. -/
  saved : Bool := false
  /-- FREEZEID of the last released image (R387). -/
  freezeId : Nat := 0
  /-- Banks of Pair A and Pair B in the boot record; none when no slot is valid (R328). -/
  boot : Option (Nat × Nat) := none
  /-- Impedance references, by cell, as last written (R191, R325). -/
  refs : List (Nat × EisRef) := []
  /-- Openings under load of each role (R249). -/
  loadOpen : List Nat := [0, 0, 0, 0, 0, 0]
  deriving DecidableEq, Repr

/-- Hidden state of the timebase. -/
structure Tmb where
  /-- Ticks still to be held (negative) or repeated (positive) in the frame (R376). -/
  trim : Int := 0
  /-- TICK of the next boundary to which a larger difference is stepped (R376). -/
  step : Option Nat := none
  deriving DecidableEq, Repr

/-- A timetable entry (Table 2.3). -/
structure Entry where
  slot : Nat
  typ : Nat
  target : Nat
  winlen : Nat
  budget : Nat
  param : Nat
  res : Nat
  deriving DecidableEq, Repr

/-- A timetable image as copied into a buffer (Tables 2.2 and 2.14). -/
structure Image where
  setid : Nat
  devmask : Nat
  ncells : Nat
  /-- FIRST and COUNT of the directory records 0 to 3. -/
  dir : List (Nat × Nat)
  entries : List Entry
  deriving DecidableEq, Repr

/-- A released pair task (R54). -/
structure Task where
  pair : Pair
  /-- Entry index in the image. -/
  entry : Nat
  /-- Release tick. -/
  rel : Nat
  budget : Nat
  /-- The kill trap was raised at this tick and waits for its acknowledgement. -/
  killed : Option Nat
  deriving DecidableEq, Repr

/-- An accelerator run in progress (R56). -/
structure AccelRun where
  /-- Entry type, and index of the entry in the image. -/
  typ : Nat
  entry : Nat
  /-- Tick of the release, and the end of the window. -/
  rel : Nat
  till : Nat
  deriving DecidableEq, Repr

/-- Hidden state of the timetable engine. -/
structure Tt where
  /-- The two image buffers (R52). -/
  bufs : List (Option Image) := [none, none]
  /-- Buffer that a load in progress fills, and the image address. -/
  loading : Option (Nat × Nat) := none
  /-- The buffer of the active image; none until a commit selects a valid buffer (R462). -/
  active : Option Nat := none
  /-- Directory record of the schedule in force: 0 Run Fine, 1 Run Fast, 2 Watch; none when nothing is released. -/
  sched : Option Nat := none
  /-- Released tasks not yet complete. -/
  tasks : List Task := []
  /-- Consecutive overruns of a task by entry index (R55). -/
  overruns : KMap Nat := []
  /-- Consecutive frames with an overrun of an accelerator, by entry type (R56). -/
  accelOver : KMap Nat := []
  /-- Tick after the start of the frame that the count of an accelerator counted last (R56). -/
  accelAt : KMap Nat := []
  /-- Accelerator runs in progress (R56). -/
  accel : List AccelRun := []
  /-- XFER windows open: end tick (R129). -/
  xfer : List Nat := []
  /-- CANTX windows open: channel index, object, end tick (R58, R345). -/
  cantx : List (Nat × Nat × Nat) := []
  /-- Frames since the last watch frame (R45). -/
  watchN : Nat := 0
  deriving DecidableEq, Repr

/-- Hidden state of staging and commit. -/
structure Stg where
  /-- A commit is pending (R61). -/
  armed : Bool := false
  /-- Pages of the pending commit. -/
  mask : Nat := 0
  /-- POINT of the pending commit. -/
  point : Nat := 0
  /-- Tick of the ARM (R61). -/
  armedAt : Nat := 0
  /-- The pending commit is a cascade commit. -/
  cascade : Bool := false
  /-- The device's own check has passed. -/
  passed : Bool := false
  /-- The commit flag is set for the next boundary: by the lead's reports or by the marker received (R64). -/
  flag : Bool := false
  /-- Followers that have reported a pass, bit d (R64). -/
  reports : Nat := 0
  /-- Follower: armed by the lead; boundaries since the report was sent (R64). -/
  remote : Bool := false
  waited : Nat := 0
  /-- Follower: the lead's SETID after the pending commit, as its arm tells it (check 12). -/
  setid : Nat := 0
  /-- Configuration digest that the followers report for the state after the commit, by device (R143). -/
  digests : KMap Nat := []
  deriving DecidableEq, Repr

/-- Shared registers of a core pair that no register page shows. -/
structure Core where
  /-- Held in reset by the mismatch limit (R315) until a restart request. -/
  held : Bool := false
  /-- Held in reset: restart in progress before the restore. -/
  inReset : Bool := true
  /-- Tick of the restart trigger. -/
  trigAt : Nat := 0
  /-- Frames of the last restarts, newest first (R315). -/
  history : List Nat := []
  /-- Halted at the frame boundary for the checkpoint (R313). -/
  ckHalt : Bool := false
  /-- The copy of the checkpoint is in progress (R313). -/
  copying : Bool := false
  /-- Slot that the next checkpoint fills, 0 or 1 (R313). -/
  slot : Nat := 0
  /-- A new bank waits for READY: the old bank and the pinned slot (R331). -/
  swap : Option (Nat × Nat) := none
  /-- Tick of the commit boundary of the swap (R66, R67). -/
  swapAt : Nat := 0
  /-- Architectural state of the pair (2,016 bytes of Table 14.1), as far as the model holds it. -/
  arch : List Byte := []
  /-- Restored pc saved in mepc by the last restart trap, and mcause of the last trap (R314, R319). -/
  mepc : Nat := 0
  mcause : Nat := 0
  /-- The pc at which the pair last started at the ENTRY of its region (R314, R328, R331). -/
  entry : Nat := 0
  /-- Non-maskable kill trap pending (R54). -/
  killTrap : Bool := false
  /-- Single steps taken (R317). -/
  steps : Nat := 0
  /-- Access faults taken by both cores (R319, R323). -/
  faults : Nat := 0
  deriving DecidableEq, Repr

/-- What a message on the Valpex link or the SYNC line carries (Table 5.1). -/
inductive LinkKind where
  /-- A sample set of the frame buffer. -/
  | set (p : SetPacket)
  /-- The frame record. -/
  | record (r : FrameRecord)
  /-- An access reply. -/
  | reply (op : ReplyOp)
  /-- The check report of a cascade commit: `a` the follower's `STG.FAIL`, 0 for a pass, `b` the digest (R64). -/
  | report
  /-- An access packet. -/
  | access (op : AccessOp)
  /-- A commit arm with mask `a`; `b` the mode and twice the SETID after the commit (R64, checks 11 and 12). -/
  | arm
  /-- A disarm with mask `a` (R64). -/
  | disarm
  /-- An enumeration token with count `a`; `b` 1 on the reverse lanes (R136). -/
  | token
  /-- A readmission token (R142). -/
  | readmit
  /-- The heartbeat: TICK `a`, combined charge-forbidden state `b` (R376, R222). -/
  | heartbeat
  /-- The frame marker word `a`, on SYNC (R132). -/
  | marker
  /-- The SYNC edge. -/
  | edge
  /-- The SYNC wake pattern (R135). -/
  | wake
  deriving DecidableEq, Repr

/-- A message queued for the link or the SYNC line. -/
structure LinkMsg where
  kind : LinkKind
  /-- Device it goes to; 8 for every device. -/
  dst : Nat
  a : Nat
  b : Nat
  deriving DecidableEq, Repr

/-- The way of a packet out of a device (R127, R139). -/
inductive Path where
  /-- Out of port D, in the ring direction. -/
  | ring
  /-- Out of port U, on the reverse lanes. -/
  | reverse
  /-- Out of both ports. -/
  | both
  deriving DecidableEq, Repr

/-- A break of the ring (R139, R140). -/
structure Gap where
  /-- Its hops, bit i for Di to Di+1. -/
  hops : Nat
  /-- Tick since which all of them have been locked again. -/
  healed : Option Nat
  deriving DecidableEq, Repr

/-- Hidden state of the cascade link. -/
structure Csc where
  /-- 0 not enumerating, 1 first token sent or taken, 2 second token sent, 3 both tokens have passed: the lead completes at a
  boundary; 4 on a follower: the lead has confirmed, complete at the boundary. -/
  stage : Nat := 0
  /-- Tick at which the token in flight was sent. -/
  tokenAt : Nat := 0
  /-- First frame marker sent (R137). -/
  firstMarker : Option Nat := none
  /-- Hops with receiver lock and hops that have lost it, bit i for Di to Di+1, and the tick of the last change (R136, R139). -/
  hops : Nat := 0
  hopsLost : Nat := 0
  hopsAt : Nat := 0
  /-- The gaps of the ring, in the order in which they arose (R139, R140). -/
  gaps : List Gap := []
  /-- A port has seen receiver lock (R137). -/
  everLocked : Bool := false
  /-- A token this lead sent is in flight (R138). -/
  sent : Bool := false
  /-- A token of this lead has timed out and may still return (R138). -/
  lateTok : Bool := false
  /-- Gaps that have closed and leave the record at the next boundary (R140). -/
  restore : Nat := 0
  /-- The packet last put on a lane, and its way: own packets of a follower and those that it passes on (R127). -/
  wire : Option (LinkMsg × Path) := none
  /-- Frame for which the frame record has been queued (R129). -/
  recDone : Option Nat := none
  /-- Follower: a commit made on this device alone waits to be marked in its next frame record (R143). -/
  localDone : Bool := false
  /-- Follower: it has answered the readmission token (R142). -/
  answered : Bool := false
  /-- Consecutive frames without a complete frame record, by device (R141). -/
  missed : List Nat := [0, 0, 0, 0, 0, 0, 0, 0]
  /-- Frame in which each device was declared lost (R141). -/
  lostAt : List Nat := [0, 0, 0, 0, 0, 0, 0, 0]
  /-- Devices whose readmission takes effect at the next boundary, bit d (R142). -/
  rejoin : Nat := 0
  /-- Frame buffers received for the frame, newest first (R129). -/
  buf : List SetPacket := []
  /-- Frame buffers of the previous frame. -/
  lastBuf : List SetPacket := []
  /-- The record of each follower before its latest one (R149). -/
  oldRecords : List FrameRecord := []
  /-- Latest frame record of each follower (R128). -/
  records : List FrameRecord := []
  /-- Expected digests by device (R143), and consecutive differing records. -/
  expect : KMap Nat := []
  differ : List Nat := [0, 0, 0, 0, 0, 0, 0, 0]
  /-- Follower: the lead's SETID since the last cascade commit, as the lead's arm told it (check 12). -/
  leadSet : Option Nat := none
  /-- Consecutive frames in which the anchor's buffer was incomplete (R102). -/
  anchorMiss : Nat := 0
  /-- Pack current and high voltage are marked invalid (R100, R102). -/
  anchorBad : Bool := false
  /-- Valid marker received for the coming boundary: commit, profile, mode, frame (R132). -/
  marker : Option (Bool × Nat × Nat × Nat) := none
  /-- Consecutive good markers and edges; consecutive missed frames (R133). -/
  good : Nat := 0
  miss : Nat := 0
  /-- Sets of the frame carry UNSYNC (R133). -/
  unsync : Bool := false
  /-- A marker or a heartbeat was received in the expected frame; consecutive frames with neither (R144). -/
  heard : Bool := false
  silent : Nat := 0
  /-- Tick at which this device began to drive TRIP (R146). -/
  tripAt : Nat := 0
  /-- A lead that stopped driving SYNC after CSC_MULTI_LEAD (R138). -/
  mute : Bool := false
  /-- A valid marker has been received since the reset (R138, R144). -/
  everMarker : Bool := false
  /-- Offset in ticks of the edge of the coming boundary from the predicted tick (R133). -/
  edge : Int := 0
  /-- The completion window of the previous frame has ended (R129). -/
  closed : Bool := true
  /-- First frame that counts for each device (R142). -/
  since : List Nat := [0, 0, 0, 0, 0, 0, 0, 0]
  /-- Lost devices for which the lead pulls TRIP, bit d (R141). -/
  tripping : Nat := 0
  /-- Queued for the link and the SYNC line, oldest first. -/
  txq : List LinkMsg := []
  deriving DecidableEq, Repr

/-- One cell of the estimator (R154, R164). -/
structure EstCell where
  z : Rat := 0
  v1 : Rat := 0
  v2 : Rat := 0
  rho : Rat := 1
  /-- The covariance, row by row. -/
  p : List Rat := []
  zc : Rat := 0
  /-- Capacity, Ah. -/
  q : Rat := 0
  /-- Rest point: present, z_r, temperature in °C, GEN (R163). -/
  restValid : Bool := false
  rz : Rat := 0
  rt : Rat := 0
  rgen : Nat := 0
  /-- Charge count since the rest point, A·s, and the span flags (R164, R165). -/
  dql : Rat := 0
  gaps : Nat := 0
  /-- Every gap of the span before that of the present GEN has been attested (R165). -/
  attested : Bool := false
  curinv : Bool := false
  bankchg : Bool := false
  capsus : Bool := false
  /-- Seconds of SOC disagreement, and the flag (Table 6.5a). -/
  disT : Rat := 0
  socdis : Bool := false
  /-- Runs beyond and within the innovation threshold, and the flag (Table 6.5a). -/
  innN : Nat := 0
  innOk : Nat := 0
  model : Bool := false
  degr : Bool := false
  /-- Last innovation, V. -/
  e : Rat := 0
  /-- Sum and count of the minute in progress, and the last two complete minute means, newest first (R162). -/
  minS : Rat := 0
  minN : Nat := 0
  mins : List Rat := []
  /-- Seconds for which the balancing switch has been off (R162). -/
  balOff : Rat := 0
  /-- A rest point or a calibration since the restore (Table 6.5a). -/
  anchored : Bool := false
  /-- A cold start waits for the cell's first admitted sample; it keeps Q and ρ (R173). -/
  cold : Bool := true
  keep : Bool := false
  /-- Latest mean of the cell, V (R150). -/
  y : Rat := 0
  deriving DecidableEq, Repr

/-- A taper detector (Table 6.3). -/
structure Detector where
  /-- State code of Table 6.3; `EST.TAPSTAT` shows it at the end of a run (R175). -/
  code : Nat := 0
  t : Rat := 0
  g : Rat := 0
  deriving DecidableEq, Repr

/-- Hidden state of the estimator. -/
structure Est where
  /-- Cells by global index (R136). -/
  cells : List EstCell := List.replicate 384 {}
  /-- The two table banks: 1,024·bank + index (R156). -/
  tbl : KMap Nat := []
  /-- By cell, y_j in µV and BAL of the source frame of the last run (R150, Table 16.3). -/
  shown : List (Option Int × Bool) := []
  /-- The cells as the run before the last left them (R149). -/
  prev : List EstCell := []
  /-- s_rep and s_int in ppm (R155, R158). -/
  srep : Rat := 0
  sint : Rat := 0
  /-- A cold start is due at the first run with an admitted sample (R173). -/
  cold : Bool := true
  /-- REINIT, CAPRST, RESYNC requested (R173, R159). -/
  reinit : Bool := false
  caprst : Bool := false
  resync : Bool := false
  /-- End-of-charge and end-of-discharge detectors (R160), and the cell that each calibrated. -/
  eoc : Detector := {}
  eod : Detector := {}
  /-- Rest timer, s; the rest has been detected (R162). -/
  restT : Rat := 0
  rested : Bool := false
  /-- Frames without a completed run, newest first, at most 16: pack charge, and balancing charge by cell, A·s (R152). -/
  owed : List (Rat × List (Nat × Rat)) := []
  /-- A frame owed had invalid pack current, or more than 16 frames are owed (R151, R152). -/
  owedBad : Bool := false
  /-- A run has completed in this frame. -/
  ranFrame : Bool := false
  /-- The next run in Run predicts over the elapsed time: after Watch, or after Sleep with no charge (R153). -/
  elapsed : Bool := false
  slept : Bool := false
  /-- Populated channels of each device, as its sets report them. -/
  pop : List Nat := [0, 0, 0, 0, 0, 0, 0, 0]
  /-- Runs of the rest minute in progress, a watch-frame run counting as 100 (R162). -/
  minT : Nat := 0
  /-- The part of the limiter's allowance below 2^−16 ppm that is not yet used (R158). -/
  srepRest : Rat := 0
  /-- Rest watch is granted on all devices (R288). -/
  restHeld : Bool := false
  /-- The journal write in progress carries a learning result (R172). -/
  jCarry : Bool := false
  /-- TBLCRC of the record restored, until the first run compares it (R173). -/
  tblCrc : Option Nat := none
  /-- TICK at the last run (R153). -/
  lastTick : Nat := 0
  /-- First frame of those with invalid current (R151). -/
  invalidFrom : Option Nat := none
  /-- Bank in force at the last run (R164). -/
  bank : Nat := 0
  /-- Results restored across a GEN change (Table 6.5a GAP). -/
  gapOpen : Bool := false
  /-- A journal write is requested; it carries a learning result; it is running (R172). -/
  jPend : Bool := false
  jCap : Bool := false
  jRun : Bool := false
  /-- Tick from which the period of the journal counts, and the ticks of Run that it had counted before (R171). -/
  jAt : Nat := 0
  jAcc : Nat := 0
  /-- Rest watch submitted for the rest in progress (R288). -/
  restWatch : Bool := false
  /-- A run has completed since the reset. -/
  ran : Bool := false
  deriving DecidableEq, Repr

/-- An impedance result (R189). -/
structure EisRes where
  /-- Real and imaginary part, Ω. -/
  re : Rat
  im : Rat
  mag : Nat
  ph : Int
  conf : Nat
  flags : Nat
  src : Nat
  frame : Nat
  deriving DecidableEq, Repr

/-- The accumulated sums of one signal in a window: at the point, at the lower and at the upper side bin (R179). -/
structure Phasor where
  re : Rat := 0
  im : Rat := 0
  lre : Rat := 0
  lim : Rat := 0
  ure : Rat := 0
  uim : Rat := 0
  deriving DecidableEq, Repr

/-- Hidden state of the impedance engine. -/
structure Eis where
  /-- 0 idle, 1 waits for the grants, 2 charger handshake, 3 window, 4 results awaited, 5 between passes, 6 the device's results
  were discarded in an overrun (R56). -/
  phase : Nat := 0
  /-- First boundary of the window, and its end. -/
  b : Nat := 0
  e : Nat := 0
  /-- Frame number of the window's first frame, and of START. -/
  frame : Nat := 0
  start : Nat := 0
  /-- Sources of the point's mask not yet tried, and the source in use: 0 none, 1 charger, 2 balancing, 3 drive. -/
  left : Nat := 0
  /-- The charger refused or timed out for the point (R184). -/
  refused : Bool := false
  /-- Samples accumulated. -/
  m : Nat := 0
  /-- Cell sums, own cells, and the current sum (R179). -/
  cells : List Phasor := List.replicate 48 {}
  cur : Phasor := {}
  /-- Mean of each own cell over the pass, V sum (R187). -/
  mean : List Rat := List.replicate 48 0
  /-- SAT by own cell, bit i; ISH1 SAT; UNSYNC and GAP of the window (R190). -/
  sat : Nat := 0
  satI : Bool := false
  unsync : Bool := false
  gap : Bool := false
  /-- The current phasor received or measured for the point, A (R180). -/
  i : Phasor := {}
  gotI : Bool := false
  /-- Devices whose results the lead holds, bit d (R180). -/
  done : Nat := 0
  /-- Points completed in this sweep (R180). -/
  okPoints : Nat := 0
  /-- Exciting request: REQSTATE, REQSEQ, AMP in 0.1 A (R184). -/
  req : Nat := 0
  reqSeq : Nat := 0
  amp : Nat := 0
  ackAmp : Nat := 0
  /-- STOP was requested in this frame (R184). -/
  stopFrame : Nat := 0
  /-- Results by 8·cell + point, and references by cell (R189, R191). -/
  res : List (Nat × EisRes) := []
  ref : List (Nat × EisRef) := []
  /-- Results formed for the point in progress, by 8·cell + point (R189). -/
  new : List (Nat × EisRes) := []
  /-- References wait for the energy of R325 to be written to data MRAM. -/
  refDue : Bool := false
  /-- TCAL: cells whose next confident result sets their reference, bit by global index (R191). -/
  tcal : Nat := 0
  /-- T_Z by cell, in °C, with the T_C of the run of its result's first frame (R191, R209). -/
  tz : List (Nat × (Rat × Option Rat)) := []
  /-- The source with which the window starts at the coming boundary: 0 none is available (R182, R192). -/
  plan : Option Nat := none
  /-- Follower: low 16 bits of the number of the window's first frame, and point + 8·pass (R281). -/
  planFrame : Nat := 0
  planArg : Nat := 0
  /-- The charger has accepted the request: REQSTATE is RUN from START on (R184). -/
  accepted : Bool := false
  /-- Devices of which a set of the window was missing, bit d (R131, R190). -/
  gapDev : Nat := 0
  deriving DecidableEq, Repr

/-- Hidden state of temperatures, the cell thermal model and the die sensors. -/
structure Thm where
  /-- Consecutive samples outside the near band, by input (R204). -/
  nearOut : List Nat := List.replicate 24 0
  /-- Inputs sampled in this frame (R199). -/
  sampled : Nat := 0
  /-- The last temperature of each input in class None or RANGE, 0.1 °C (R464). -/
  lastGood : List Int := List.replicate 24 0
  /-- Die sensors found out of range when last sampled (R211). -/
  dieBad : Nat := 0
  /-- SUSPECT mask of this device in force, and the one received for the next boundary (R206). -/
  suspect : Nat := 0
  suspectNext : Option Nat := none
  /-- The neighbour-map banks: 384·bank + index (R207). -/
  nmap : KMap Nat := []
  /-- T_C and T_S in °C by global cell index, once the model runs (R208). -/
  tc : List Rat := []
  ts : List Rat := []
  /-- P_j of the last run, W. -/
  p : List Rat := []
  /-- Boundary temperature held, °C (R208). -/
  tb : Rat := 25
  /-- Consecutive candidate runs, clear runs and the SUSPECT marks by global sensor index (R205). -/
  cand : KMap Nat := []
  calm : KMap Nat := []
  marked : List Nat := []
  /-- Consecutive runs of model disagreement by cell (R209). -/
  modN : KMap Nat := []
  /-- Coolant demand in 0.1 %, before truncation (R210). -/
  demand : Rat := 0
  /-- Frames owed to the model and the mean current and mean square current of the last frame, A and A² (R208). -/
  owed : List (Rat × Rat) := []
  /-- Die stages: consecutive frames at or above the threshold of stages 1 to 3 (R211). -/
  up : List Nat := [0, 0, 0]
  /-- Consecutive frames below the threshold minus 10 °C of stages 1 and 2 (R211). -/
  down : List Nat := [0, 0]
  /-- A model run has completed in this frame. -/
  ranFrame : Bool := false
  /-- T_C of the runs of the first frames of the windows of the impedance point in progress, by frame number (R209). -/
  tcWin : List (Nat × List Rat) := []
  deriving DecidableEq, Repr

/-- Hidden state of the coolant pump drive. -/
structure Pmp where
  /-- Tick of entry to the drive state (Table 13.2). -/
  since : Nat := 0
  /-- Speed reference, rpm (R298). -/
  ref : Rat := 0
  /-- i_d,ref in A (R299). -/
  idRef : Rat := 0
  /-- i_q,ref in A, the output of the speed loop (R294). -/
  iqRef : Rat := 0
  /-- Current-loop instants since the speed loop last ran (R294). -/
  div : Nat := 0
  /-- Duties computed, and duties in effect, of the three phases (R294). -/
  duty : List Nat := [0, 0, 0]
  dutyNow : List Nat := [0, 0, 0]
  /-- High sides, and low sides, cut off for the rest of the PWM period (R297). -/
  hiCut : Bool := false
  loCut : Bool := false
  /-- Consecutive periods with a shunt cut-off (R297), and whether the present period had one. -/
  ocN : Nat := 0
  /-- Consecutive instants of angle error and of back-EMF error (R295). -/
  angN : Nat := 0
  emfN : Nat := 0
  /-- Tick of entry to RUN for the attempt reset (R304). -/
  runAt : Nat := 0
  /-- STOPPING passes through ZERO before OFF (Table 13.2). -/
  toOff : Bool := false
  /-- The gate supply is faulty (R303), the zero vector is held meanwhile, and the tick of its return. -/
  gateBad : Bool := false
  gateBack : Option Nat := none
  deriving DecidableEq, Repr

/-- A frame as it goes to or comes from a bus (R341). -/
structure CanFrame where
  xtd : Bool
  id : Nat
  fdf : Bool
  brs : Bool
  esi : Bool
  dlc : Nat
  data : List Nat
  deriving DecidableEq, Repr

/-- Hidden state of one CAN controller. -/
structure Can where
  /-- Words of the message objects: 19·object + word (R341). -/
  obj : KMap Nat := []
  /-- Object in arbitration or being sent; 128 is the FIFO head (R344). -/
  sending : Option Nat := none
  /-- A CANCEL, or for the FIFO head a FIFOCLR, was written while it is in arbitration or being sent (R344, R347). -/
  cancelled : Bool := false
  /-- Failed attempts of the frame at the head of each object: object to count (R346). -/
  tries : KMap Nat := []
  /-- The transmit FIFO of CAN4, head first; words 0, 1, 3 to 18 of each frame (R347). -/
  fifo : List (List Nat) := []
  /-- The FIFO window (R347). -/
  fifoWin : KMap Nat := []
  /-- The protocol engine has joined the bus (R348), and the tick since which it waits to. -/
  joined : Bool := false
  waitAt : Nat := 0
  /-- Tick of the last entry to bus-off (R348). -/
  offAt : Nat := 0
  /-- Automatic bit-rate detection runs since this tick (R340). -/
  abd : Option Nat := none
  /-- Reference messages sent (R349). -/
  refN : Nat := 0
  deriving DecidableEq, Repr

/-- Hidden state of one Ticket connection. -/
structure Conn where
  /-- Start of the expectation window (R357). -/
  t : Nat := 0
  /-- SEQ and TS of the last accepted Ticket (R356), or SEQ of the last Ticket sent (R355). -/
  seq : Nat := 0
  ts : Nat := 0
  /-- A Ticket has been sent since reset (R355). -/
  sent : Bool := false
  /-- Consecutive acceptances toward recovery, and the tick of the last acceptance or transmission (R358). -/
  recN : Nat := 0
  recAt : Option Nat := none
  /-- Channel, object and direction of the binding while the connection is not OFF (R354). -/
  bound : Option (Nat × Nat × Bool) := none
  deriving DecidableEq, Repr

/-- Hidden state of the host port. -/
structure Hst where
  /-- Front and back buffers of the Live Table by word (R365). -/
  front : KMap Nat := []
  back : KMap Nat := []
  /-- BBDONE of Pair A, of Pair B since the last flip (R368). -/
  doneA : Bool := false
  doneB : Bool := false
  /-- The mailbox as the host writes it, and MBSEQ of the previous take (R369, R370). -/
  mb : KMap Nat := []
  lastSeq : Nat := 0
  /-- Flips since reset (R366). -/
  seq : Nat := 0
  /-- HIRQ is high since this tick (R371). -/
  hirq : Option Nat := none
  /-- SPI transaction: read, address of the next word; none outside a transaction (R372). -/
  spi : Option (Bool × Nat) := none
  /-- Word shifted out on MISO by the last read. -/
  spiOut : Nat := 0
  deriving DecidableEq, Repr

/-- Hidden state of memory, secure boot and OTP. -/
structure Nvm where
  /-- OTP key words by index 0 to 31 (R326): a programmed word is held as its value + 1. -/
  key : KMap Nat := []
  /-- Boot record that waits for the energy of R325: banks of Pair A and Pair B. -/
  bootDue : Option (Nat × Nat) := none
  /-- Region under verification (R329). -/
  verify : Option Nat := none
  deriving DecidableEq, Repr

/-- Hidden state of the test port. -/
structure Jtag where
  /-- Selected instruction code: 0x01, 0x02, 0x03, 0x10 or 0x1F (Table 19.7). -/
  ir : Nat := 0x01
  /-- Data captured by the last IDCODE or DBGACC. -/
  dr : Nat := 0
  /-- Boundary-scan chain, and whether EXTEST drives it onto the balls. -/
  chain : List Bool := []
  drive : Bool := false
  /-- Tick of the last activity on TCK. -/
  tckAt : Nat := 0
  deriving DecidableEq, Repr

/-- The state of one device. -/
structure State where
  /-- Full build (AEV4848); false is the AEV4848F (R2). -/
  full : Bool := true
  /-- LEAD as sampled at the last boot; a lead is a full build with LEAD high (R6, R7). -/
  leadStrap : Bool := true
  /-- Model time in ticks, counted without steps. -/
  now : Nat := 0
  /-- TICK (R375), 64 bits. -/
  tick : Nat := 0
  /-- Number of the frame in progress (R132), and the model time of its boundary. -/
  frame : Nat := 0
  fstart : Nat := 0
  /-- Register words that differ from their reset value, by address (R19). -/
  regs : KMap Word := []
  /-- Addressed memories of Table 14.4: MRAM, SRAM, checkpoint and black-box SRAM; an unlisted byte reads 0. -/
  mem : List Host.Cell := []
  /-- Tick after which each event was last raised: 32·page + bit (R420). -/
  evAt : KMap Nat := []
  /-- Free values used so far (the model's own field, assumption 2). -/
  freeCtr : Nat := 0
  power : Power := {}
  ret : Retained := {}
  tmb : Tmb := {}
  bbx : Bbx := {}
  tt : Tt := {}
  stg : Stg := {}
  cm : CellMeas := {}
  ipk : Ipk := {}
  iso : Iso := {}
  bal : Bal := {}
  csc : Csc := {}
  est : Est := {}
  eis : Eis := {}
  thm : Thm := {}
  saf : Saf := {}
  cts : Cts := {}
  out : Out := {}
  lhm : Lhm := {}
  pmp : Pmp := {}
  cpa : Core := {}
  cpb : Core := {}
  nvm : Nvm := {}
  /-- CAN1 to CAN4. -/
  can : List Can := [{}, {}, {}, {}]
  /-- Ticket connections 0 to 31 (R354). -/
  conn : List Conn := List.replicate 32 {}
  hst : Hst := {}
  jtag : Jtag := {}
  /-- The commands that wait, first in, first out. -/
  pending : List Instr := []
  deriving DecidableEq, Repr

/-- The device in the tick in which its power-on reset is released (R412 step 1), sampled as a lead of the full
build: every register at its reset value, no memory written, no command waiting (assumptions 1, 5, 6). Safety Net is
active since the reset (R269, R273; assumption 19), and strap code 0 is to be reported at the first boot (Table 11.5). -/
def State.reset : State :=
  { regs := [(Reg.LHM_STAT, 0x82000000#32)], lhm := { inReset := true }, power := { strapFault := true } }

end Sys2Proof.Machine
end

