-- ==== Sys2Proof/Machine/Ops.lean ====
section
/-!
DEFINITION. The named operations over the state: canonical maps, register words and fields (R12, R19, R20), addressed
memory (Table 14.4), time, free values, and the writing of black-box records (R382, R386).
-/
namespace Sys2Proof.Machine

/-- What a command answers. -/
abbrev Result := Host.Outcome State Fault Refusal

/-! ### Canonical maps -/

/-- The value at a key: an unlisted key reads as its default. -/
def kget {α : Type} (d : Nat → α) (k : Nat) : KMap α → α
  | [] => d k
  | (k', v) :: m => if k' = k then v else kget d k m

/-- Put a value at its place among the rising keys. -/
def kput {α : Type} (k : Nat) (v : α) : KMap α → KMap α
  | [] => [(k, v)]
  | (k', v') :: m =>
    if k < k' then (k, v) :: (k', v') :: m
    else if k = k' then (k, v) :: m
    else (k', v') :: kput k v m

/-- Write a value at a key, keeping the canonical form: writing the default removes the entry. -/
def kset {α : Type} [DecidableEq α] (d : Nat → α) (k : Nat) (v : α) (m : KMap α) : KMap α :=
  if v = d k then m.filter (fun p => p.1 != k) else kput k v m

/-- Every key of the map is above `lo`. -/
def kabove {α : Type} (lo : Nat) : KMap α → Bool
  | [] => true
  | (k, _) :: m => decide (lo < k) && kabove lo m

/-- The canonical form: keys strictly rising, no entry equal to its default. -/
def kwf {α : Type} [DecidableEq α] (d : Nat → α) : KMap α → Bool
  | [] => true
  | (k, v) :: m => decide (v ≠ d k) && kabove k m && kwf d m

/-- The number map with default 0. -/
def nget (k : Nat) (m : KMap Nat) : Nat := kget (fun _ => 0) k m

/-- Write into a number map with default 0. -/
def nset (k v : Nat) (m : KMap Nat) : KMap Nat := kset (fun _ => 0) k v m

/-! ### Numbers -/

/-- Bit `i` of a number set to `b`. -/
def bitTo (n i : Nat) (b : Bool) : Nat :=
  if n.testBit i = b then n else if b then n + 2 ^ i else n - 2 ^ i

/-- Set bits of the low `w` bits of a number. -/
def popcount (w n : Nat) : Nat := (List.range w).countP (n.testBit ·)

/-- The lowest set bit below `w`. -/
def lowestBit (w n : Nat) : Option Nat := (List.range w).find? (n.testBit ·)

/-- The number whose bit `i` is the `i`-th truth value. -/
def bitsOf (l : List Bool) : Nat := l.foldr (fun b n => 2 * n + b.toNat) 0

/-- Nearest integer, halves upward (assumption 7). -/
def roundQ (q : Rat) : Int := (q + 1 / 2).floor

/-- Nearest integer of a quotient, halves upward (assumption 7). -/
def roundDiv (a : Int) (b : Nat) : Int := (2 * a + b) / (2 * b)

/-- A value held to a range. -/
def clampI (lo hi v : Int) : Int := max lo (min hi v)

/-- A rational held to a range. -/
def clampQ (lo hi v : Rat) : Rat := if v < lo then lo else if hi < v then hi else v

/-- A value of a field acts as the nearest end of its range (R460). -/
def clampN (lo hi v : Nat) : Nat := max lo (min hi v)

/-- The absolute value of a rational. -/
def absQ (q : Rat) : Rat := if q < 0 then -q else q

/-- Two's complement of a signed value in `w` bits. -/
def twos (w : Nat) (v : Int) : Nat := (v % (2 ^ w : Int)).toNat

/-- The signed value of `w` bits. -/
def signed (w v : Nat) : Int := if 2 ^ (w - 1) ≤ v then (v : Int) - (2 ^ w : Int) else v

/-- The bytes of a number, least significant first. -/
def leBytes : Nat → Nat → List Byte
  | 0, _ => []
  | k + 1, n => BitVec.ofNat 8 n :: leBytes k (n / 256)

/-- The number of bytes, least significant first. -/
def ofLeBytes : List Byte → Nat
  | [] => 0
  | b :: bs => b.toNat + 256 * ofLeBytes bs

/-- One bit of the reflected CRC-32C. -/
def crc32cBit (c : BitVec 32) : BitVec 32 :=
  if c.getLsbD 0 then (c >>> 1) ^^^ 0x82F63B78#32 else c >>> 1

/-- One byte of CRC-32C. -/
def crc32cByte (c : BitVec 32) (b : Byte) : BitVec 32 :=
  let c := c ^^^ b.setWidth 32
  crc32cBit (crc32cBit (crc32cBit (crc32cBit (crc32cBit (crc32cBit (crc32cBit (crc32cBit c)))))))

/-- CRC-32C of a byte sequence (R325). -/
def crc32c (bs : List Byte) : Nat := ((bs.foldl crc32cByte 0xFFFFFFFF#32) ^^^ 0xFFFFFFFF#32).toNat

/-! ### Register words and fields -/

/-- The mask of a field in its word. -/
def Fld.mask (f : Fld) : Word := BitVec.ofNat 32 (2 ^ f.wid - 1) <<< f.lo

/-- The field's value in a word. -/
def Fld.extract (f : Fld) (w : Word) : Nat := ((w &&& f.mask) >>> f.lo).toNat

/-- The word with the field's bits replaced. -/
def Fld.insert (f : Fld) (w : Word) (v : Nat) : Word :=
  (w &&& ~~~f.mask) ||| ((BitVec.ofNat 32 v <<< f.lo) &&& f.mask)

/-- The word held at a register address. -/
def State.word (s : State) (a : Nat) : Word := kget resetWord a s.regs

/-- Hold a word at a register address. -/
def State.setWord (s : State) (a : Nat) (w : Word) : State := { s with regs := kset resetWord a w s.regs }

/-- The value of a field. -/
def State.get (s : State) (f : Fld) : Nat := f.extract (s.word f.addr)

/-- Give a field a value: its low bits. -/
def State.put (s : State) (f : Fld) (v : Nat) : State := s.setWord f.addr (f.insert (s.word f.addr) v)

/-- A one-bit field as a truth value. -/
def State.flag (s : State) (f : Fld) : Bool := s.get f != 0

/-- Give a one-bit field a truth value. -/
def State.putB (s : State) (f : Fld) (b : Bool) : State := s.put f b.toNat

/-- A signed field. -/
def State.getI (s : State) (f : Fld) : Int := signed f.wid (s.get f)

/-- Give a signed field a value, in two's complement. -/
def State.putI (s : State) (f : Fld) (v : Int) : State := s.put f (twos f.wid v)

/-- Give a signed field a value held to its range. -/
def State.putSatI (s : State) (f : Fld) (v : Int) : State :=
  s.putI f (clampI (-(2 ^ (f.wid - 1) : Int)) ((2 ^ (f.wid - 1) : Int) - 1) v)

/-- Give an unsigned field a value held to its range. -/
def State.putSat (s : State) (f : Fld) (v : Nat) : State := s.put f (min v (2 ^ f.wid - 1))

/-- Bit `i` of a field. -/
def State.bit (s : State) (f : Fld) (i : Nat) : Bool := (s.get f).testBit i

/-- Set or clear bit `i` of a field. -/
def State.putBit (s : State) (f : Fld) (i : Nat) (b : Bool) : State := s.put f (bitTo (s.get f) i b)

/-- Add one to a counter that saturates at its width. -/
def State.incSat (s : State) (f : Fld) : State := s.putSat f (s.get f + 1)

/-- Add one to a counter that wraps at its width. -/
def State.inc (s : State) (f : Fld) : State := s.put f (s.get f + 1)

/-! ### Addressed memory -/

/-- The byte at an address: unlisted bytes read 0 (assumption 6). -/
def State.byte (s : State) (a : Nat) : Byte := kget (fun _ => 0) a s.mem

/-- Store a byte. -/
def State.setByte (s : State) (a : Nat) (b : Byte) : State :=
  { s with mem := kset (fun _ => (0 : Byte)) a b s.mem }

/-- The canonical form of a memory (Table 14.4). -/
def Memory.wf (m : List Host.Cell) : Bool := kwf (fun _ => (0 : Byte)) m

/-- `n` bytes from an address. -/
def State.bytes (s : State) (a n : Nat) : List Byte := (List.range n).map (fun i => s.byte (a + i))

/-- Store bytes from an address. -/
def State.setBytes (s : State) (a : Nat) : List Byte → State
  | [] => s
  | b :: bs => (s.setByte a b).setBytes (a + 1) bs

/-- The little-endian number in `n` bytes from an address. -/
def State.num (s : State) (a n : Nat) : Nat := ofLeBytes (s.bytes a n)

/-- The word at an address of memory. -/
def State.memWord (s : State) (a : Nat) : Word := BitVec.ofNat 32 (s.num a 4)

/-- Store a word. -/
def State.setMemWord (s : State) (a : Nat) (w : Nat) : State := s.setBytes a (leBytes 4 w)

/-- Store words one after the other. -/
def State.setMemWords (s : State) (a : Nat) : List Nat → State
  | [] => s
  | w :: ws => (s.setMemWord a w).setMemWords (a + 4) ws

/-! ### Time and free values -/

/-- Time passes up to the model time `t`; it never runs back. TICK counts with it (R375). -/
def State.advanceTo (s : State) (t : Nat) : State :=
  { s with now := max s.now t, tick := s.tick + (max s.now t - s.now) }

/-- A free number; the next use of a free value follows `State.nextFree`. -/
def State.freeN (s : State) : Nat := Config.freeNat s.freeCtr

/-- A free truth value. -/
def State.freeB (s : State) : Bool := Config.freeBool s.freeCtr

/-- A free real number; places within one use have values of their own. -/
def State.freeQ (s : State) (site : Nat := 0) : Rat := Config.freeRat s.freeCtr site

/-- The free value has been used. -/
def State.nextFree (s : State) : State := { s with freeCtr := s.freeCtr + 1 }

/-- TICK [31:0]. -/
def State.tick32 (s : State) : Nat := s.tick % 2 ^ 32

/-- This device's number. -/
def State.devNum (s : State) : Nat := s.get Reg.SYS_PROFSTAT_DEVNUM

/-- The frames from frame number `f` to the present one: frame numbers wrap at 2^32 and compare serially (R17). -/
def State.framesSince (s : State) (f : Nat) : Nat := (s.frame + (2 ^ 32 - f % 2 ^ 32)) % 2 ^ 32

/-! ### Roles and profiles -/

/-- This device is the lead (R6, R7). -/
def State.isLead (s : State) : Bool := s.leadStrap && s.full

/-- Sleep is the profile in force (Table 1.9). -/
def State.sleeping (s : State) : Bool := s.get Reg.SYS_PROFSTAT_PROF == 2

/-- Watch is the profile in force. -/
def State.watching (s : State) : Bool := s.get Reg.SYS_PROFSTAT_PROF == 1

/-- Between two watch frames the cores are halted (Table 1.7). -/
def State.coresIdle (s : State) : Bool := s.watching && s.tt.watchN != 0

/-- Fast mode is in force (R32). -/
def State.fast (s : State) : Bool := s.flag Reg.SYS_PROFSTAT_MODE

/-- The sample period in ticks (Table 1.3). -/
def State.period (s : State) : Nat := if s.fast then 4000 else 25000

/-- This device is the anchor (R8). -/
def State.isAnchor (s : State) : Bool := s.flag Reg.SYS_PROFSTAT_ANCHOR

/-- The control die is out of reset. -/
def State.alive (s : State) : Bool := s.power.phase != .inReset

/-! ### Black-box records -/

/-- The 32 bytes of a record (Table 17.2). -/
def BbxRec.bytes (r : BbxRec) : List Byte :=
  leBytes 8 r.tick ++ leBytes 4 r.gen ++ leBytes 4 r.num ++ leBytes 1 r.kind ++ leBytes 1 r.source ++
    leBytes 2 r.flags ++ leBytes 4 r.d0 ++ leBytes 4 r.d1 ++ leBytes 4 r.d2

/-- Address of record slot `i` of the ring (R382). -/
def recordAddr (i : Nat) : Nat := 0x12000000 + 32 * i

/-- Put a record into the next slot of the ring (R382). -/
def State.ringPut (s : State) (r : BbxRec) : State :=
  let n := s.get Reg.BBX_RECPTR_NEXT
  let s := (s.setBytes (recordAddr n) r.bytes).put Reg.BBX_RECPTR_NEXT (n + 1)
  { s with bbx := { s.bbx with count := min 4096 (s.bbx.count + 1) } }

/-- The ring is stopped: a freeze copy is in progress and its freeze tick has passed (R384, R386). -/
def State.ringStopped (s : State) : Bool :=
  match s.bbx.copy with
  | none => false
  | some f => f.started || f.atNow != s.now

/-- The record as it is made now: TICK, GEN and number of this instant (Table 17.2). -/
def State.makeRecord (s : State) (kind source d0 d1 d2 : Nat) : BbxRec :=
  { tick := s.tick, gen := s.get Reg.TMB_GEN_GEN, num := s.get Reg.BBX_RECNUM_NUM, kind, source,
    flags := (!s.isLead && !s.flag Reg.TMB_SRC_ALIGNED).toNat, d0, d1, d2 }

/-- Write a record (R382). None is written in Sleep nor in reset. While the ring is stopped it waits in the FIFO of 64; a record
that finds it full is dropped and counted (R386), and takes no number (assumption 8). -/
def State.record (s : State) (kind source d0 d1 d2 : Nat) : State :=
  if s.sleeping || !s.alive then s
  else
    let r := s.makeRecord kind source d0 d1 d2
    if s.ringStopped then
      if s.bbx.fifo.length < 64 then
        { s with bbx := { s.bbx with fifo := s.bbx.fifo ++ [r] } }.inc Reg.BBX_RECNUM_NUM
      else { s with bbx := { s.bbx with dropped := s.bbx.dropped + 1 } }.incSat Reg.BBX_DROPS_COUNT
    else (s.ringPut r).inc Reg.BBX_RECNUM_NUM

/-- A NOTE record (Table 17.3). -/
def State.note (s : State) (code d0 d1 d2 : Nat) : State := s.record 5 code d0 d1 d2

end Sys2Proof.Machine
end

