-- ==== Sys2Proof/Machine/Flags.lean ====
section
/-!
DEFINITION. The flags of the block: the event map of 256 sources (R420, R426, R427), the summary causes, delivery to
the pairs (R428 to R430) and the refused accesses that raise system events (R3, R20, R22, R425).
-/
namespace Sys2Proof.Machine

/-- An event: bit `bit` of the event registers of page `page`. -/
structure Event where
  page : Nat
  bit : Nat
  deriving DecidableEq, Repr

/-- The source number of an event (Tables 19.4 and 19.5): the STG, PWR, CLK and RST pages share one summary source
each. -/
def Event.source (e : Event) : Nat :=
  match e.page with
  | 0 => e.bit
  | 4 => 6 + e.bit
  | 5 => 11
  | 2 => 12
  | 1 => 13
  | 3 => 14
  | 6 => 16 + e.bit
  | 7 => 48 + e.bit
  | 8 => 56 + e.bit
  | 9 => 64 + e.bit
  | 10 => 80 + e.bit
  | 11 => 96 + e.bit
  | 12 => 112 + e.bit
  | 13 => 122 + e.bit
  | 14 => 128 + e.bit
  | 15 => 160 + e.bit
  | 16 => 176 + e.bit
  | 17 => 200 + e.bit
  | 18 => 208 + e.bit
  | 19 => 216 + e.bit
  | 20 => 219 + e.bit
  | 21 => 222 + e.bit
  | 22 => 224 + e.bit
  | 23 => 230 + e.bit
  | 24 => 236 + e.bit
  | 25 => 242 + e.bit
  | 26 => 248 + e.bit
  | 27 => 252
  | 28 => 253
  | 29 => 254
  | _ => 255

/-- Address of a page's EVRAW, EVEN and EVPND (Table 19.2). -/
def evrawAddr (page : Nat) : Nat := pageBase page + 0x10
def evenAddr (page : Nat) : Nat := pageBase page + 0x14
def evpndAddr (page : Nat) : Nat := pageBase page + 0x18

/-- The pages behind the sources from 16 up: first source, number of sources, page (Table 19.4). -/
def sourceTable : List (Nat × Nat × Nat) :=
  [(16, 10, 6), (48, 8, 7), (56, 8, 8), (64, 14, 9), (80, 7, 10), (96, 16, 11), (112, 10, 12), (122, 6, 13),
   (128, 21, 14), (160, 16, 15), (176, 13, 16), (200, 7, 17), (208, 8, 18), (216, 3, 19), (219, 3, 20), (222, 2, 21),
   (224, 6, 22), (230, 6, 23), (236, 6, 24), (242, 6, 25), (248, 4, 26), (252, 1, 27), (253, 1, 28), (254, 1, 29),
   (255, 1, 31)]

/-- The page and event bits behind a source (Tables 19.4, 19.5): a mask, since a summary source stands for its whole
page. -/
def sourceBits (src : Nat) : Option (Nat × Word) :=
  if src < 6 then some (0, 1#32 <<< src)
  else if src < 11 then some (4, 1#32 <<< (src - 6))
  else if src = 11 then some (5, 0x1F)
  else if src = 12 then some (2, 0x3F)
  else if src = 13 then some (1, 0x3)
  else if src = 14 then some (3, 0x7)
  else match sourceTable.find? (fun r => r.1 ≤ src && src < r.1 + r.2.1) with
    | some (lo, _, page) => some (page, 1#32 <<< (src - lo))
    | none => none

/-- The event bit is set in EVRAW. -/
def State.raised (s : State) (e : Event) : Bool := (s.word (evrawAddr e.page)).getLsbD e.bit

/-- The event is pending. -/
def State.evPending (s : State) (e : Event) : Bool := (s.word (evpndAddr e.page)).getLsbD e.bit

/-- The event is enabled. -/
def State.evEnabled (s : State) (e : Event) : Bool := (s.word (evenAddr e.page)).getLsbD e.bit

/-- Key of an event in `State.evAt`. -/
def Event.key (e : Event) : Nat := 32 * e.page + e.bit

/-- Raise an event (R420 items 1 and 3): EVRAW, EVPND when enabled, and an EVENT record when its source is recorded
(R382). A raise while the bits are set already changes only the tick that a clear of this tick looks at; in reset nothing is raised. -/
def State.raise (s : State) (e : Event) : State :=
  let was := !s.alive || (s.raised e && (!s.evEnabled e || s.evPending e))
  let s := { s with evAt := nset e.key (s.now + 1) s.evAt }
  if was then s
  else
    let bit : Word := 1#32 <<< e.bit
    let s := s.setWord (evrawAddr e.page) (s.word (evrawAddr e.page) ||| bit)
    let s := if s.evEnabled e then s.setWord (evpndAddr e.page) (s.word (evpndAddr e.page) ||| bit) else s
    if s.bit (Reg.BBX_RECEN_EN.at (e.source / 32)) (e.source % 32) then
      s.record 1 e.source (s.word (evrawAddr e.page)).toNat (s.word Reg.SYS_PROFSTAT).toNat 0
    else s

/-- Raise an event when a condition holds. -/
def State.raiseIf (s : State) (c : Bool) (e : Event) : State := if c then s.raise e else s

/-- The bits of a page raised in this very tick: a clear leaves them set (R420 item 3). -/
def State.raisedNow (s : State) (page : Nat) : Word :=
  BitVec.ofNat 32 (bitsOf ((List.range 32).map fun i => decide (nget (32 * page + i) s.evAt = s.now + 1)))

/-- Clear pending bits of a page, and the same bits of EVRAW (R420 items 2 and 3). -/
def State.clearEvents (s : State) (page : Nat) (mask : Word) : State :=
  let m := ~~~(mask &&& ~~~(s.raisedNow page))
  let s := s.setWord (evpndAddr page) (s.word (evpndAddr page) &&& m)
  s.setWord (evrawAddr page) (s.word (evrawAddr page) &&& m)

/-- Set a bit of a CAUSE register: the page's summary event is raised when the bit becomes set. -/
def State.setCause (s : State) (f : Fld) (e : Event) : State :=
  if s.flag f then s else (s.putB f true).raise e

/-- A source is pending (R427). -/
def State.sourcePending (s : State) (src : Nat) : Bool :=
  match sourceBits src with
  | some (page, m) => (s.word (evpndAddr page) &&& m) != 0
  | none => false

/-- The route of a source: 1 Pair A, 2 Pair B, 3 both (R428). -/
def State.route (s : State) (src : Nat) : Nat :=
  (s.get (Reg.EVC_ROUTE_ROUTE.at (src / 16))) / 4 ^ (src % 16) % 4

/-- A pair held in reset, or in boot hold, receives nothing (R430). -/
def State.pairReceives (s : State) (p : Pair) : Bool :=
  s.power.phase == .run && !(match p with | .a => s.cpa.held | .b => s.cpb.held)

/-- A source is delivered to a pair: pending and routed to it (R429, R430). -/
def State.delivered (s : State) (p : Pair) (src : Nat) : Bool :=
  s.pairReceives p && s.sourcePending src && (s.route src).testBit p.idx

/-- `EVC.CLAIMA` or `CLAIMB`: the lowest source delivered to the pair (R429). -/
def State.claim (s : State) (p : Pair) : Word :=
  match (List.range 256).find? (s.delivered p) with
  | some src => BitVec.ofNat 32 (0x80000000 + src)
  | none => 0

/-- The pair's machine external interrupt line (R429). -/
def State.meip (s : State) (p : Pair) : Bool := (s.claim p).getLsbD 31

/-- Word `w` of `EVC.DELA` or `DELB` (Table 19.6). -/
def State.deliveredWord (s : State) (p : Pair) (w : Nat) : Word :=
  BitVec.ofNat 32 (bitsOf ((List.range 32).map fun i => s.delivered p (32 * w + i)))

/-! ### The events by name (Tables 3.11, 4.6, 5.7, 6.8, 7.5, 8.6, 9.6, 10.8, 11.10, 12.5, 13.6, 14.9, 15.6, 18.10, 19.5) -/

namespace Ev

def ACCESS_FAULT : Event := ⟨0, 0⟩
def ACCESS_DISABLED : Event := ⟨0, 1⟩
def CONFIG_LOCKED : Event := ⟨0, 2⟩
def CONFIG_MISMATCH : Event := ⟨0, 3⟩
def PROFILE_REFUSED : Event := ⟨0, 4⟩
def PROFILE_CHANGED : Event := ⟨0, 5⟩
def PWR_PAUSE : Event := ⟨2, 0⟩
def PWR_RESUME : Event := ⟨2, 1⟩
def PWR_BOW : Event := ⟨2, 2⟩
def PWR_BOW_END : Event := ⟨2, 3⟩
def PWR_OVERVOLT : Event := ⟨2, 4⟩
def PWR_HOLD_FAULT : Event := ⟨2, 5⟩
def CLK_SYS_REDUCED : Event := ⟨1, 0⟩
def CLK_SYS_RESTORED : Event := ⟨1, 1⟩
def RST_BOOT : Event := ⟨3, 0⟩
def RST_LONG : Event := ⟨3, 1⟩
def WDG_EXPIRED : Event := ⟨3, 2⟩
def TT_IMAGE_REFUSED : Event := ⟨4, 0⟩
def TT_OVERRUN : Event := ⟨4, 1⟩
def TT_ESCALATE : Event := ⟨4, 2⟩
def TT_SKIP : Event := ⟨4, 3⟩
def TT_SET_MISMATCH : Event := ⟨4, 4⟩
def STG_REJECT : Event := ⟨5, 0⟩
def STG_DISARMED : Event := ⟨5, 1⟩
def STG_BUSY : Event := ⟨5, 2⟩
def STG_SLIP : Event := ⟨5, 3⟩
def STG_COMMITTED : Event := ⟨5, 4⟩
def CELL_SAT : Event := ⟨6, 0⟩
def CELL_OPENWIRE : Event := ⟨6, 1⟩
def CELL_OW_DONE : Event := ⟨6, 2⟩
def CELL_OW_INCOMPLETE : Event := ⟨6, 3⟩
def CELL_UNPOP_FAULT : Event := ⟨6, 4⟩
def BARRIER_FAULT : Event := ⟨6, 5⟩
def CELL_SET_DISCARD : Event := ⟨6, 6⟩
def CELL_REF_FAULT : Event := ⟨6, 7⟩
def CELL_SUM_MISMATCH : Event := ⟨6, 8⟩
def CELL_QUIET_SKIP : Event := ⟨6, 9⟩
def IPK_SAT : Event := ⟨7, 0⟩
def IPK_OC_CHG : Event := ⟨7, 1⟩
def IPK_OC_DIS : Event := ⟨7, 2⟩
def IPK_OC_SELFTEST : Event := ⟨7, 3⟩
def IPK_ISH_DISAGREE : Event := ⟨7, 4⟩
def IPK_HALL_DISAGREE : Event := ⟨7, 5⟩
def IPK_HALL_RANGE : Event := ⟨7, 6⟩
def IPK_ANCHOR_LOST : Event := ⟨7, 7⟩
def HVM_SAT : Event := ⟨8, 0⟩
def HVM_ISO_DONE : Event := ⟨8, 1⟩
def HVM_ISO_WARN : Event := ⟨8, 2⟩
def HVM_ISO_FAULT : Event := ⟨8, 3⟩
def HVM_ISO_INCOMPLETE : Event := ⟨8, 4⟩
def HVM_BARRIER_STRESS : Event := ⟨8, 5⟩
def HVM_ANCHOR_FAULT : Event := ⟨8, 6⟩
def HVM_ISO_SWITCH : Event := ⟨8, 7⟩
def THM_OPEN : Event := ⟨9, 0⟩
def THM_SHORT : Event := ⟨9, 1⟩
def THM_RANGE : Event := ⟨9, 2⟩
def THM_SUSPECT : Event := ⟨9, 3⟩
def THM_SUSPECT_CLEAR : Event := ⟨9, 4⟩
def THM_COVERAGE : Event := ⟨9, 5⟩
def THM_MODEL_DISAGREE : Event := ⟨9, 6⟩
def THM_TZ_DISAGREE : Event := ⟨9, 7⟩
def THM_DIESENSOR : Event := ⟨9, 8⟩
def THM_DIE_STAGE1 : Event := ⟨9, 9⟩
def THM_DIE_STAGE2 : Event := ⟨9, 10⟩
def THM_DIE_STAGE3 : Event := ⟨9, 11⟩
def THM_DIE_CLEAR : Event := ⟨9, 12⟩
def THM_MODEL_STALE : Event := ⟨9, 13⟩
def BAL_DEFERRED : Event := ⟨10, 0⟩
def BAL_ROTATE : Event := ⟨10, 1⟩
def BAL_LIMIT : Event := ⟨10, 2⟩
def BAL_CMD_TIMEOUT : Event := ⟨10, 3⟩
def BAL_REST_HOLD : Event := ⟨10, 4⟩
def BAL_REST_END : Event := ⟨10, 5⟩
def BAL_WITHDRAWN : Event := ⟨10, 6⟩
def CSC_SYNC_LOST : Event := ⟨11, 0⟩
def CSC_SYNC_LOCKED : Event := ⟨11, 1⟩
def CSC_ENUM_DONE : Event := ⟨11, 2⟩
def CSC_ENUM_MISMATCH : Event := ⟨11, 3⟩
def CSC_RING_OPEN : Event := ⟨11, 4⟩
def CSC_RING_BREAK : Event := ⟨11, 5⟩
def CSC_RING_RESTORED : Event := ⟨11, 6⟩
def CSC_XFER_INCOMPLETE : Event := ⟨11, 7⟩
def CSC_FOLLOWER_LOST : Event := ⟨11, 8⟩
def CSC_FOLLOWER_REJOINED : Event := ⟨11, 9⟩
def CSC_LEAD_LOST : Event := ⟨11, 10⟩
def CSC_NO_LEAD : Event := ⟨11, 11⟩
def CSC_MULTI_LEAD : Event := ⟨11, 12⟩
def CSC_TRIP_IN : Event := ⟨11, 13⟩
def CSC_TRIP_FAULT : Event := ⟨11, 14⟩
def CSC_LINK_CRC : Event := ⟨11, 15⟩
def SOC_DISAGREE : Event := ⟨12, 0⟩
def EST_END_CHARGE : Event := ⟨12, 1⟩
def EST_END_DISCHARGE : Event := ⟨12, 2⟩
def EST_REST_POINT : Event := ⟨12, 3⟩
def CAP_LEARNED : Event := ⟨12, 4⟩
def CAP_REJECTED : Event := ⟨12, 5⟩
def CAP_WRITE_ABORTED : Event := ⟨12, 6⟩
def EST_RESYNC : Event := ⟨12, 7⟩
def EST_CURRENT_INVALID : Event := ⟨12, 8⟩
def EST_MODEL_DISAGREE : Event := ⟨12, 9⟩
def EIS_POINT_DONE : Event := ⟨13, 0⟩
def EIS_SWEEP_DONE : Event := ⟨13, 1⟩
def EIS_POINT_SKIP : Event := ⟨13, 2⟩
def EIS_EXC_REFUSED : Event := ⟨13, 3⟩
def EIS_EXC_FAULT : Event := ⟨13, 4⟩
def EIS_LOW_CONF : Event := ⟨13, 5⟩
def SAF_CLEARED : Event := ⟨14, 15⟩
def SAF_CLEAR_REFUSED : Event := ⟨14, 16⟩
def SAF_COPY_DISAGREE : Event := ⟨14, 17⟩
def SAF_SELFTEST : Event := ⟨14, 18⟩
def SAF_WRITE_REFUSED : Event := ⟨14, 19⟩
def SAF_SLD_STATE : Event := ⟨14, 20⟩
def CTS_CLOSED : Event := ⟨15, 0⟩
def CTS_OPENED : Event := ⟨15, 1⟩
def CTS_PC_FAST : Event := ⟨15, 2⟩
def CTS_PC_SLOW : Event := ⟨15, 3⟩
def CTS_PC_DATA : Event := ⟨15, 4⟩
def CTS_WELD : Event := ⟨15, 5⟩
def CTS_CLOSE_REFUSED : Event := ⟨15, 6⟩
def CTS_CMD_REFUSED : Event := ⟨15, 7⟩
def CTS_LOAD_OPEN : Event := ⟨15, 8⟩
def CTS_ROLE_LOST : Event := ⟨15, 9⟩
def CTS_CHG_CLOSED : Event := ⟨15, 10⟩
def CTS_CHG_OPENED : Event := ⟨15, 11⟩
def CTS_MATCH_FAULT : Event := ⟨15, 12⟩
def CTS_GRANT_TIMEOUT : Event := ⟨15, 13⟩
def CTS_WELD_UNDECIDED : Event := ⟨15, 14⟩
def CTS_LOCKOUT : Event := ⟨15, 15⟩
def OUT_SHORT : Event := ⟨16, 0⟩
def OUT_JUNCTION : Event := ⟨16, 1⟩
def OUT_INRUSH_FAULT : Event := ⟨16, 2⟩
def OUT_OPENLOAD : Event := ⟨16, 3⟩
def OUT_OPENLOAD_CLEAR : Event := ⟨16, 4⟩
def OUT_CLAMP : Event := ⟨16, 5⟩
def OUT_SHED : Event := ⟨16, 6⟩
def OUT_SHED_CLEAR : Event := ⟨16, 7⟩
def OUT_TEST_FAIL : Event := ⟨16, 8⟩
def OUT_TEST_INCOMPLETE : Event := ⟨16, 9⟩
def OUT_CMD_REFUSED : Event := ⟨16, 10⟩
def OUT_CRANK : Event := ⟨16, 11⟩
def OUT_CRANK_END : Event := ⟨16, 12⟩
def LHM_ACTIVE : Event := ⟨17, 0⟩
def LHM_RELEASED : Event := ⟨17, 1⟩
def LHM_LOCKED : Event := ⟨17, 2⟩
def LHM_LOCK_REFUSED : Event := ⟨17, 3⟩
def LHM_STRAP_FAULT : Event := ⟨17, 4⟩
def LHM_RELEASE_REFUSED : Event := ⟨17, 5⟩
def LHM_CORESUPPLY : Event := ⟨17, 6⟩
def PMP_RUNNING : Event := ⟨18, 0⟩
def PMP_STOPPED : Event := ⟨18, 1⟩
def PMP_REVERSE : Event := ⟨18, 2⟩
def PMP_ROTOR_LOST : Event := ⟨18, 3⟩
def PMP_OVERCURRENT : Event := ⟨18, 4⟩
def PMP_START_FAIL : Event := ⟨18, 5⟩
def PMP_GATE_FAULT : Event := ⟨18, 6⟩
def PMP_GIVEUP : Event := ⟨18, 7⟩
def NVM_ECC : Event := ⟨21, 0⟩
def NVM_ECC_FATAL : Event := ⟨21, 1⟩
def TKT_EXPIRED : Event := ⟨26, 0⟩
def TKT_REJECTED : Event := ⟨26, 1⟩
def TKT_GAP : Event := ⟨26, 2⟩
def TKT_RECOVERED : Event := ⟨26, 3⟩
def HST_SERVICE : Event := ⟨27, 0⟩
def TMB_SERVICE : Event := ⟨28, 0⟩
def BBX_SERVICE : Event := ⟨29, 0⟩
def DBG_SERVICE : Event := ⟨31, 0⟩
/-- Bits 0 to 14 of SAF: source `s` latched (Table 9.6). -/
def safLatched (s : Nat) : Event := ⟨14, s⟩
/-- The pair's page: CPA or CPB (R335). -/
def PAIR_MISMATCH (p : Pair) : Event := ⟨19 + p.idx, 0⟩
def COMPARE_UNIT_FAULT (p : Pair) : Event := ⟨19 + p.idx, 1⟩
def TRAPEZE_ABORT (p : Pair) : Event := ⟨19 + p.idx, 2⟩
/-- The pages of CAN1 to CAN4 (R360). -/
def CAN_RX (ch : Nat) : Event := ⟨22 + ch, 0⟩
def CAN_TXDONE (ch : Nat) : Event := ⟨22 + ch, 1⟩
def CAN_TXFAIL (ch : Nat) : Event := ⟨22 + ch, 2⟩
def CAN_OVERRUN (ch : Nat) : Event := ⟨22 + ch, 3⟩
def CAN_STATE (ch : Nat) : Event := ⟨22 + ch, 4⟩
def CAN_SERVICE (ch : Nat) : Event := ⟨22 + ch, 5⟩

end Ev


/-! ### Refused accesses -/

/-- The page an address lies in, 0 outside the register pages. -/
def pageOf (addr : Nat) : Nat :=
  if 0x40000000 ≤ addr ∧ addr < 0x40020000 then (addr - 0x40000000) / 0x1000 else 0

/-- Overwrite the access record (R425). `kind`: 0 ACCESS_FAULT, 1 ACCESS_DISABLED, 2 CONFIG_LOCKED. -/
def State.accessRecord (s : State) (ini : Ini) (write : Bool) (addr kind : Nat) : State :=
  ((((s.put Reg.SYS_ACCINFO_INIT ini.code).putB Reg.SYS_ACCINFO_WRITE write).put Reg.SYS_ACCINFO_KIND kind).put
    Reg.SYS_ACCINFO_PAGE (pageOf addr)).put Reg.SYS_ACCADDR_ADDR addr

/-- An access with no effect that raises ACCESS_FAULT (R22 and every rule that names it). -/
def State.accessFault (s : State) (ini : Ini) (write : Bool) (addr : Nat) : State :=
  (s.accessRecord ini write addr 0).raise Ev.ACCESS_FAULT

/-- A write to a page that the build does not have (R3). -/
def State.accessDisabled (s : State) (ini : Ini) (addr : Nat) : State :=
  (s.accessRecord ini true addr 1).raise Ev.ACCESS_DISABLED

/-- A write to an RWL field of a locked page (R20). -/
def State.configLocked (s : State) (ini : Ini) (addr : Nat) : State :=
  (s.accessRecord ini true addr 2).raise Ev.CONFIG_LOCKED

/-- The pages that the AEV4848F does not have (R3): EST, PMP, CAN2 to CAN4, HST. -/
def pageF (page : Nat) : Bool := [12, 18, 23, 24, 25, 27].contains page

/-- The page answers on this build (R3). -/
def State.pageOn (s : State) (page : Nat) : Bool := s.full || !pageF page

/-- A write command at a register of a page: on a build without the page it has no effect and raises
ACCESS_DISABLED (R3), otherwise it acts. -/
def State.onPage (s : State) (ini : Ini) (addr : Nat) (act : State → State) : State :=
  if s.pageOn (pageOf addr) then act s else s.accessDisabled ini addr

end Sys2Proof.Machine
end

