-- ==== Sys2Proof/Machine/Bbx.lean ====
section
/-!
DEFINITION. The black box: snapshots (R383), freezing and the freeze image (R384 to R386, R389), the rebuild of its
status at boot (R388), and the commands of the BBX page.
-/
namespace Sys2Proof.Machine

/-- The words of consecutive registers from an address. -/
def State.words (s : State) (a n : Nat) : List Nat := (List.range n).map fun i => (s.word (a + 4 * i)).toNat

/-- Address of slot `j` of the snapshot ring (R383). -/
def snapAddr (j : Nat) : Nat := 0x12020000 + 0x400 * j

/-- The words of a snapshot up to offset 0x300 (Table 17.4): type 0 periodic, 1 FREEZE. -/
def State.snapWords (s : State) (typ : Nat) : List Nat :=
  [s.tick % 2 ^ 32, s.tick / 2 ^ 32, s.get Reg.TMB_GEN_GEN, s.frame % 2 ^ 32, typ, 0, 0, 0] ++
  s.words Reg.CELL_DATA 48 ++
  [s.word Reg.IPK_ISH1, s.word Reg.IPK_CUR1, s.word Reg.IPK_AVG1, s.word Reg.IPK_HALLCUR].map BitVec.toNat ++
  s.words Reg.HVM_VOLT 4 ++
  s.words Reg.THM_TEMP 24 ++ s.words Reg.THM_DIE 8 ++
  [(s.word Reg.OUT_CMD).toNat, (s.word Reg.OUT_COND).toNat] ++ s.words Reg.OUT_CHSTAT 16 ++ [0, 0] ++
  [s.word Reg.SAF_RSTAT, s.word Reg.SAF_RCAUSE, s.word Reg.SAF_OVSL, s.word Reg.SAF_OVSH, s.word Reg.SAF_UVSL,
   s.word Reg.SAF_UVSH, s.word Reg.SAF_I2TE, s.word Reg.SAF_STAT].map BitVec.toNat ++
  [s.word Reg.CTS_STAT, s.word Reg.PMP_STAT, s.word Reg.PMP_SPD, s.word Reg.CSC_STAT, s.word Reg.CSC_LOST,
   s.word Reg.LHM_STAT, s.word Reg.SYS_PROFSTAT].map BitVec.toNat ++ [0] ++
  List.replicate 60 0

/-- Write a snapshot of the present values into the slot `BBX.RECPTR.SNEXT` (R383). -/
def State.putSnapshot (s : State) (typ : Nat) : State :=
  let a := snapAddr (s.get Reg.BBX_RECPTR_SNEXT)
  (s.setMemWords a (s.snapWords typ)).setBytes (a + 0x300)
    (s.bytes (0x101C0000 + 256 * s.get Reg.BBX_SWADDR_INDEX) 256)

/-- A freeze trigger (R384): it starts a copy, or counts in `MISSED` while a copy runs or a held image is kept. The
FREEZE snapshot takes the slot of the next periodic one (assumption 11). -/
def State.freeze (s : State) (trig src : Nat) : State :=
  if s.bbx.copy.isSome || (s.flag Reg.BBX_CFG_KEEP && s.flag Reg.BBX_STAT_HELD) then
    let s := s.incSat Reg.BBX_MISSED_COUNT
    (s.note 6 (s.get Reg.BBX_MISSED_COUNT) 0 0).setCause Reg.BBX_CAUSE_MISSED Ev.BBX_SERVICE
  else
    let s := s.inc Reg.BBX_FREEZEID_ID
    let id := s.get Reg.BBX_FREEZEID_ID
    let s := ((s.note 4 id trig src).put Reg.BBX_FTICK_TICK s.tick).putB Reg.BBX_STAT_COPY true
    let s := s.putSnapshot 1
    let f : Freeze := ⟨s.tick, s.now, trig, src, id, s.get Reg.TMB_GEN_GEN, false, 0⟩
    { s with bbx := { s.bbx with copy := some f } }

/-- Base of the freeze region in data MRAM (R385). -/
def freezeBase : Nat := 0x00860000

/-- The 4,096 bytes of record block `b`: records 128·b to 128·b + 127 counted from the oldest; unused slots are zero
(R385). -/
def State.recordBlock (s : State) (b : Nat) : List Byte :=
  let first := (s.get Reg.BBX_RECPTR_NEXT + 4096 - s.bbx.count) % 4096
  (List.range 128).flatMap fun i =>
    if 128 * b + i < s.bbx.count then s.bytes (recordAddr ((first + 128 * b + i) % 4096)) 32 else List.replicate 32 0

/-- The 4,096 bytes of snapshot block `b`: snapshots 4·b to 4·b + 3, the FREEZE snapshot last (R385). -/
def State.snapBlock (s : State) (b : Nat) : List Byte :=
  (List.range 4).flatMap fun i => s.bytes (snapAddr ((s.get Reg.BBX_RECPTR_SNEXT + 1 + 4 * b + i) % 64)) 1024

/-- Data block `k` of an image: 32 record blocks, then 16 snapshot blocks. -/
def State.dataBlock (s : State) (k : Nat) : List Byte := if k < 32 then s.recordBlock k else s.snapBlock (k - 32)

/-- Address of data block `k` (R385). -/
def dataBlockAddr (k : Nat) : Nat :=
  if k < 32 then freezeBase + 0x1000 + 0x1000 * k else freezeBase + 0x21000 + 0x1000 * (k - 32)

/-- The header block (R385). The order and the offsets of its fields are the model's (assumption 12). -/
def State.freezeHeader (s : State) (f : Freeze) : List Byte :=
  let body := leBytes 4 0x42425846 ++ leBytes 4 f.id ++ leBytes 4 f.gen ++ leBytes 8 f.tick ++ leBytes 4 f.trig ++
    leBytes 4 f.src ++ leBytes 4 (s.get Reg.SYS_PROFSTAT_DEVNUM) ++ leBytes 4 s.bbx.count ++
    (List.range 48).flatMap fun k => leBytes 4 (crc32c (leBytes 4 f.id ++ s.dataBlock k))
  body ++ leBytes 4 (crc32c body)

/-- Offsets of the header's fields that are read back. -/
def freezeCrcAt (k : Nat) : Nat := freezeBase + 36 + 4 * k

/-- The block that the copy writes as its `n`-th after the header (R386): record block 31, snapshot block 15, record
blocks 30 down to 0, snapshot blocks 14 down to 0. -/
def copyOrder (n : Nat) : Nat :=
  if n = 1 then 31 else if n = 2 then 47 else if n ≤ 33 then 33 - n else 80 - n

/-- Write block `n` of the copy to the freeze region. -/
def State.writeFreezeBlock (s : State) (f : Freeze) (n : Nat) : State :=
  if n = 0 then s.setBytes freezeBase (s.freezeHeader f)
  else s.setBytes (dataBlockAddr (copyOrder n)) (s.dataBlock (copyOrder n))

/-- The hold-up monitor reports at least 0.3 mJ: a freeze block may start (R389). -/
def State.blockMayStart (s : State) : Bool := 300 ≤ s.get Reg.PWR_HOLDE_UJ

/-- The rings resume: the FIFO drains into the ring, and a DROPPED note follows dropped records (R386). -/
def State.ringsResume (s : State) : State :=
  let s := s.bbx.fifo.foldl State.ringPut s
  let d := s.bbx.dropped
  let s := { s with bbx := { s.bbx with fifo := [], dropped := 0, copy := none } }
  if d = 0 then s else (s.note 5 d 0 0).setCause Reg.BBX_CAUSE_DROPPED Ev.BBX_SERVICE

/-- The copy ends after `n` blocks (R386). -/
def State.freezeEnd (s : State) (n : Nat) : State :=
  let s := { s with power := { s.power with port := if s.power.port = 3 then 0 else s.power.port } }
  let s := s.ringsResume
  let s := (((s.put Reg.BBX_STAT_BLOCKS n).putB Reg.BBX_STAT_VALID true).putB Reg.BBX_STAT_HELD true).putB
    Reg.BBX_STAT_COPY false
  let s := s.setCause Reg.BBX_CAUSE_FROZEN Ev.BBX_SERVICE
  if n < 49 then s.setCause Reg.BBX_CAUSE_PARTIAL Ev.BBX_SERVICE else s

/-- Rebuild the BBX status from the freeze region (R388). -/
def State.bbxRebuild (s : State) : State :=
  let ok := decide (s.num freezeBase 4 = 0x42425846) &&
    decide (s.num (freezeCrcAt 48) 4 = crc32c (s.bytes freezeBase 228))
  let id := s.num (freezeBase + 4) 4
  if ok then
    let n := (List.range 48).countP fun k =>
      decide (s.num (freezeCrcAt k) 4 = crc32c (leBytes 4 id ++ s.bytes (dataBlockAddr k) 4096))
    let s := (((s.putB Reg.BBX_STAT_VALID true).put Reg.BBX_STAT_BLOCKS (n + 1)).putB Reg.BBX_STAT_HELD
      (id != s.ret.freezeId)).put Reg.BBX_FREEZEID_ID id
    if n + 1 < 49 then s.setCause Reg.BBX_CAUSE_PARTIAL Ev.BBX_SERVICE else s
  else
    (((s.putB Reg.BBX_STAT_VALID false).put Reg.BBX_STAT_BLOCKS 0).putB Reg.BBX_STAT_HELD false).put
      Reg.BBX_FREEZEID_ID s.ret.freezeId

/-! ### Commands -/

/-- SOURCE of an SW record (Table 17.3); for a writer other than a pair the manual states none: a free value. -/
def swSource (s : State) : Ini → Nat
  | .pairA => 0x0A
  | .pairB => 0x0B
  | .debug => s.freeN % 256
  | .link => s.freeN % 256

/-- BBX_SW_PUSH (R382): an SW record with the data of `BBX.SWREC0` to `SWREC2`. -/
def execBbxSwPush (ini : Ini) (s : State) : Result :=
  .next ((s.record 6 (swSource s ini) (s.get Reg.BBX_SWREC_DATA) (s.get (Reg.BBX_SWREC_DATA.at 1))
    (s.get (Reg.BBX_SWREC_DATA.at 2))).nextFree)

/-- BBX_FREEZE_COMMAND (R384): trigger code 5, from either pair; the manual gives no other writer an effect. -/
def execBbxFreezeCommand (ini : Ini) (s : State) : Result :=
  match ini with
  | .pairA => .next (s.freeze 5 0x0A)
  | .pairB => .next (s.freeze 5 0x0B)
  | _ => .next s

/-- BBX_RELEASE (R387): HELD clears and the image's FREEZEID goes to the retained records. -/
def execBbxRelease (_ini : Ini) (s : State) : Result :=
  let s := s.putB Reg.BBX_STAT_HELD false
  let id := if s.flag Reg.BBX_STAT_VALID then s.num (freezeBase + 4) 4 else s.get Reg.BBX_FREEZEID_ID
  .next { s with ret := { s.ret with freezeId := id } }

/-- SNAPSHOT (R383): at F + 20,000 of a frame in which measurement runs and whose number is a multiple of SNAPPER. -/
def execSnapshot (s : State) : Result :=
  let s := s.advanceTo (s.fstart + 20000)
  let n := s.get Reg.BBX_CFG_SNAPPER
  if n ≠ 0 ∧ s.frame % n = 0 ∧ s.cm.running ∧ ¬ s.sleeping ∧ ¬ s.ringStopped then
    .next ((s.putSnapshot 0).inc Reg.BBX_RECPTR_SNEXT)
  else .next s

/-- FREEZE_COPY_START (R386, R389): the first block starts once the CRCs are ready and the write port is free; the
freeze stops at a block that cannot start. -/
def execFreezeCopyStart (s : State) : Result :=
  match s.bbx.copy with
  | none => .next s
  | some f =>
    let journalFirst := s.isLead && s.power.warnAt.isSome && s.est.jPend && decide (1200 ≤ s.get Reg.PWR_HOLDE_UJ)
    if f.started || s.power.port != 0 || journalFirst then .next s
    else
      let s := s.advanceTo (f.atNow + 8200)
      if s.blockMayStart then
        let s := { s with power := { s.power with port := 3 } }
        .next { s with bbx := { s.bbx with copy := some { f with started := true } } }
      else .next (s.freezeEnd 0)

/-- FREEZE_BLOCK_DONE (R386, R389): a block is written; the next starts if energy permits, and after the last the
copy ends. -/
def execFreezeBlockDone (s : State) : Result :=
  match s.bbx.copy with
  | none => .next s
  | some f =>
    if f.started && s.power.port == 3 then
      let s := (s.advanceTo (s.now + 5120)).writeFreezeBlock f f.blocks
      let n := f.blocks + 1
      if n < 49 ∧ s.blockMayStart then
        .next { s with bbx := { s.bbx with copy := some { f with blocks := n } } }
      else .next (s.freezeEnd n)
    else .next s

end Sys2Proof.Machine
end

