-- ==== Sys2Proof/Machine/Balancing.lean ====
section
/-!
DEFINITION. Balancing and maintenance activities: the exclusion matrix (R278 to R282), the balancing switches (R283 to
R287, R434) and the commands of the BAL page. The delays of at most 1,000 ticks to open and to resume are taken as
zero (assumption 14).
-/
namespace Sys2Proof.Machine

/-! ### The exclusion matrix -/

/-- Two activities conflict (Table 12.2). -/
def conflicts (a b : Nat) : Bool :=
  match a with
  | 1 => b == 4 || b == 5
  | 2 => b == 3 || b == 4 || b == 5
  | 3 => b == 2 || b == 4
  | 4 => b == 1 || b == 2 || b == 3 || b == 5 || b == 6
  | 5 => b == 1 || b == 2 || b == 4 || b == 6
  | 6 => b == 4 || b == 5
  | _ => false

/-- Precedence: a lower number ranks higher; rest watch lies between impedance and balancing (R279). -/
def actRank (k : Nat) : Nat := if k = 5 then 7 else k

/-- The activities in order of precedence, balancing left out. -/
def actOrder : List Nat := [1, 2, 3, 4, 6]

/-- Code `k` holds a grant. -/
def State.granted (s : State) (k : Nat) : Bool := s.bit Reg.BAL_STAT_GRANT (k - 1)

/-- Code `k` is pending. -/
def State.isPending (s : State) (k : Nat) : Bool := s.bit Reg.BAL_STAT_PEND (k - 1)

/-- The profile in force permits code `k` (Table 12.1). -/
def State.actProfile (s : State) (k : Nat) : Bool :=
  let p := s.get Reg.SYS_PROFSTAT_PROF
  p == 0 || (p == 1 && (k == 1 || k == 6))

/-- What keeps code `k` from a grant (R280 step 1): 0 for its profile or, for impedance, a die stage (Table 8.4); an activity that conflicts, or none. -/
def State.blocker (s : State) (k : Nat) : Option Nat :=
  if s.actProfile k && !(k == 4 && s.power.stage != 0) then
    match actOrder.find? (fun g => s.granted g && conflicts k g) with
    | some g => some g
    | none => actOrder.find? (fun p => s.isPending p && conflicts k p && actRank p < actRank k)
  else some 0

/-- A deferral is reported (R282). -/
def State.defer (s : State) (k by_ : Nat) : State :=
  ((((s.incSat Reg.BAL_DEFCNT_COUNT).put Reg.BAL_DEFLAST_DEFERRED k).put Reg.BAL_DEFLAST_HELDBY by_).put
    Reg.BAL_DEFTICK_TICK s.tick).raise Ev.BAL_DEFERRED

/-- The pattern requested in `BAL.PATL` and `PATH`. -/
def State.pattern (s : State) : Nat := s.get Reg.BAL_PATL_PAT + 2 ^ 32 * s.get Reg.BAL_PATH_PAT

/-- Balancing is suspended by `by_`: a deferral of code 5 (R280 step 4, R282). -/
def State.suspendBal (s : State) (by_ : Nat) : State :=
  if s.pattern = 0 ∨ s.flag Reg.BAL_STAT_SUSP then s
  else
    let s := ((s.putB Reg.BAL_STAT_SUSP true).putBit Reg.BAL_STAT_GRANT 4 false).putBit Reg.BAL_STAT_PEND 4 true
    s.defer 5 by_

/-- Grant a pending code: balancing yields to it. -/
def State.grantCode (s : State) (k : Nat) : State :=
  let s := (s.putBit Reg.BAL_STAT_PEND (k - 1) false).putBit Reg.BAL_STAT_GRANT (k - 1) true
  if conflicts k 5 then s.suspendBal k else s

/-- What keeps balancing from its grant: 0 the profile (Table 12.1) or a die stage (Table 8.4); an activity that conflicts and
holds a grant or is pending (R280 step 5), or none. -/
def State.balBlocker (s : State) : Option Nat :=
  if s.get Reg.SYS_PROFSTAT_PROF != 0 || s.power.stage != 0 then some 0
  else actOrder.find? fun k => (s.granted k || s.isPending k) && conflicts 5 k

/-- Balancing resumes when nothing keeps it from its grant (R280 step 5). -/
def State.resumeBal (s : State) : State :=
  if s.isPending 5 ∧ s.balBlocker = none then
    if s.pattern = 0 then (s.putB Reg.BAL_STAT_SUSP false).putBit Reg.BAL_STAT_PEND 4 false
    else ((s.putB Reg.BAL_STAT_SUSP false).putBit Reg.BAL_STAT_PEND 4 false).putBit Reg.BAL_STAT_GRANT 4 true
  else s

/-- A request whose owner no longer wants it ends with its grant, which is released in the same tick (assumption 105). -/
def State.grantGone (s : State) (k : Nat) : State :=
  { s.putBit Reg.BAL_STAT_PEND (k - 1) false with bal := { s.bal with gone := bitTo s.bal.gone k false } }

/-- The matrix considers its pending requests in order of precedence (R280 steps 1 to 3, 5). -/
def State.matrixRun (s : State) : State :=
  (actOrder.foldl (fun s k =>
    if s.isPending k && (s.blocker k).isNone then (if s.bal.gone.testBit k then s.grantGone k else s.grantCode k)
    else s) s).resumeBal

/-- A request reaches the matrix (R280, R282): granted at once, or kept pending and reported as deferred. A request of
an activity that is pending or granted is merged. -/
def State.submit (s : State) (k : Nat) : State :=
  if s.granted k then s
  else if s.isPending k then { s with bal := { s.bal with gone := bitTo s.bal.gone k false } }
  else
    match s.blocker k with
    | none => s.grantCode k
    | some b => (s.putBit Reg.BAL_STAT_PEND (k - 1) true).defer k b

/-- An activity is released (R280 steps 2, 3, 5). -/
def State.release (s : State) (k : Nat) : State :=
  if s.granted k then (s.putBit Reg.BAL_STAT_GRANT (k - 1) false).matrixRun else s

/-- A pending request is withdrawn (R282). -/
def State.withdraw (s : State) (k : Nat) : State :=
  if s.isPending k then ((s.grantGone k).raise Ev.BAL_WITHDRAWN).matrixRun else s

/-- The owner of an activity gives it up: a grant is released; a pending request is kept, as R282 keeps every request
outside its list, and ends with its grant (assumption 105). -/
def State.abandon (s : State) (k : Nat) : State :=
  if s.isPending k then { s with bal := { s.bal with gone := bitTo s.bal.gone k true } } else s.release k

/-! ### Activities that every enumerated device grants (R281) -/

/-- Queue a message on the link. -/
def State.send (s : State) (kind : LinkKind) (dst a b : Nat) : State :=
  { s with csc := { s.csc with txq := s.csc.txq ++ [⟨kind, dst, a, b⟩] } }

/-- The followers that are enumerated, lost ones among them, bit d (R136). -/
def State.enumerated (s : State) : Nat :=
  if s.flag Reg.CSC_STAT_ENUM then
    bitsOf ((List.range 8).map fun d => d != 0 && decide (d ≤ s.get Reg.CSC_ENUMSTAT_NFOUND))
  else 0

/-- The followers that are enumerated and not lost, bit d. -/
def State.followers (s : State) : Nat :=
  if s.flag Reg.CSC_STAT_ENUM then
    bitsOf ((List.range 8).map fun d =>
      d != 0 && decide (d ≤ s.get Reg.CSC_ENUMSTAT_NFOUND) && !s.bit Reg.CSC_LOST_DEV d)
  else 0

/-- The latest frame record of a follower that is not lost (R141). -/
def State.recordFrom (s : State) (d : Nat) : Option FrameRecord :=
  if s.bit Reg.CSC_LOST_DEV d then none else s.csc.records.find? (·.dev == d)

/-- The latest frame record of the anchor, when a follower that is not lost is the anchor. -/
def State.anchorRecord (s : State) : Option FrameRecord :=
  s.csc.records.find? fun r => r.anchor && !s.bit Reg.CSC_LOST_DEV r.dev

/-- The grants that the lead holds of its followers for a code, bit d. -/
def State.grantsOf (s : State) (k : Nat) : Nat :=
  if k = 2 then s.bal.grants2 else if k = 4 then s.bal.grants4 else if k = 6 then s.bal.grants6 else 0

/-- Set the grants that the lead holds for a code. -/
def State.setGrantsOf (s : State) (k m : Nat) : State :=
  if k = 2 then { s with bal := { s.bal with grants2 := m } }
  else if k = 4 then { s with bal := { s.bal with grants4 := m } }
  else if k = 6 then { s with bal := { s.bal with grants6 := m } }
  else s

/-- The lead holds the grants of all devices that are not lost (R281). -/
def State.allGranted (s : State) (k : Nat) : Bool :=
  s.granted k && (List.range 8).all fun d => !s.followers.testBit d || (s.grantsOf k).testBit d

/-- The lead submits a cascade activity on its own matrix and asks every follower (R281). -/
def State.askAll (s : State) (k : Nat) : State :=
  if s.bal.asked.testBit k then s
  else
    let s := { s with bal := { s.bal with asked := bitTo s.bal.asked k true } }
    ((if s.followers = 0 then s else s.send (.access (.request k)) 8 0 0).setGrantsOf k 0).submit k

/-- The lead gives a cascade activity up everywhere (R281); `how` and `flags` tell the followers what becomes of an
impedance point. -/
def State.releaseAs (s : State) (k how flags : Nat) : State :=
  let s := if s.bal.asked.testBit k ∧ s.followers ≠ 0 then s.send (.access (.release k how flags)) 8 0 0 else s
  let s := { s with bal := { s.bal with asked := bitTo s.bal.asked k false } }
  (s.setGrantsOf k 0).abandon k

/-- The lead gives a cascade activity up everywhere (R281). -/
def State.releaseAll (s : State) (k : Nat) : State := s.releaseAs k 0 0

/-- A follower releases every cascade grant and withdraws every pending cascade request at once: codes 2, 4 and 6 are
always granted for the cascade (R281, Table 12.1). -/
def State.dropCascadeGrants (s : State) : State :=
  let was := [2, 4, 6].any s.isPending
  let s := { s with bal := { s.bal with forLead := 0 } }
  let s := [2, 4, 6].foldl (fun s k => (s.grantGone k).putBit Reg.BAL_STAT_GRANT (k - 1) false) s
  (s.raiseIf was Ev.BAL_WITHDRAWN).matrixRun

/-! ### The switches -/

/-- The channels marked populated, bit i for CH(i+1) (R85). -/
def State.populated (s : State) : Nat := s.get Reg.CELL_POPL_POP + 2 ^ 32 * s.get Reg.CELL_POPH_POP

/-- UV is set for channel index `i` (R217). -/
def State.uvSet (s : State) (i : Nat) : Bool := (s.get Reg.SAF_UVSL_SET + 2 ^ 32 * s.get Reg.SAF_UVSH_SET).testBit i

/-- A reaction of source 1, 6, 8 or 9 is latched (Table 12.3). -/
def State.balReaction (s : State) : Bool := [1, 6, 8, 9].any fun i => s.bit Reg.SAF_RSTAT_LATCH i

/-- The switches may be closed: Table 12.3 and R280 hold none of them open, whatever the pattern. -/
def State.balMayRun (s : State) : Bool :=
  s.alive && s.get Reg.SYS_PROFSTAT_PROF == 0 && s.cm.running && !s.cm.supplyFail && !s.flag Reg.BAL_STAT_SUSP &&
    !s.balReaction && s.power.stage == 0 && !s.cm.quietPause &&
    !actOrder.any fun k => s.granted k && conflicts 5 k

/-- A switch has an adjacent switch that is also to be on (R434). -/
def hasNeighbour (on i : Nat) : Bool := on.testBit (i + 1) || (i != 0 && on.testBit (i - 1))

/-- The switches closed now (R434): of two adjacent ones, an odd channel in the first half of the Fine period, an even
channel in the second. Index `i` is channel `i + 1`. -/
def switchMask (on : Nat) (half : Bool) : Nat :=
  bitsOf ((List.range 48).map fun i =>
    on.testBit i && (!hasNeighbour on i || (if half then i % 2 == 1 else i % 2 == 0)))

/-- One switch takes its state at tick `t` of the frame that began at `f`. -/
def Switch.to (w : Switch) (f t : Nat) (on : Bool) : Switch :=
  if on = w.on then w
  else if on then { w with on := true, onAt := t }
  else { w with on := false, offAt := t, acc := w.acc + (t - max w.onAt f) }

/-! ### Modulation (R186) -/

/-- The first edge of the 4-tick MEAS grid at or after the time `a / b`. -/
def gridUp (a b : Nat) : Nat := (a + 4 * b - 1) / (4 * b) * 4

/-- When cycle `k` of a modulation closes and opens its switches, in ticks after the start of the pass: closed for the
half cycle about each crest of the cosine, which gives R187's current its real phase (DEDUCED, assumption 104). -/
def Modulation.closing (m : Modulation) (k : Nat) : Nat × Nat :=
  let n := 1000000 * m.frm
  (gridUp ((4 * k - 1) * n) (4 * m.cyc), gridUp ((4 * k + 1) * n) (4 * m.cyc))

/-- The cycle that a tick after the start of the pass falls in. -/
def Modulation.cycle (m : Modulation) (t : Nat) : Nat := t * m.cyc / (1000000 * m.frm)

/-- A pass of the modulation is in progress at tick `t`. -/
def Modulation.runs (m : Modulation) (t : Nat) : Bool := m.mask != 0 && decide (m.b ≤ t) && decide (t < m.e)

/-- The modulation closes its switches at tick `t`. -/
def Modulation.closed (m : Modulation) (t : Nat) : Bool :=
  m.runs t && [0, 1].any fun j =>
    let c := m.closing (m.cycle (t - m.b) + j)
    decide (c.1 ≤ t - m.b) && decide (t - m.b < c.2)

/-- Ticks in [`lo`, `hi`) for which the modulation closes its switches. -/
def Modulation.ticks (m : Modulation) (lo hi : Nat) : Nat :=
  let a := max lo m.b - m.b
  let z := min hi m.e - m.b
  if m.mask = 0 ∨ z ≤ a then 0
  else
    let k := m.cycle a
    (List.range (m.cycle z + 2 - k)).foldl (fun n j =>
      let c := m.closing (k + j)
      n + (min c.2 z - max c.1 a)) 0

/-- The modulation ends: its switches open at the next MEAS edge (R194). -/
def State.stopModulation (s : State) : State :=
  let m := s.bal.modul
  if m.runs s.now then
    { s with bal := { s.bal with modul := { m with e := min m.e (m.b + (s.now - m.b) / 4 * 4 + 4) } } }
  else s

/-- The switches closed now, by the pattern or by the modulation. -/
def State.closedMask (s : State) : Nat :=
  bitsOf (s.bal.sw.map (·.on)) ||| (if s.bal.modul.closed s.now then s.bal.modul.mask else 0)

/-- ONL and ONH show the switches closed now. -/
def State.showSwitches (s : State) : State :=
  (s.put Reg.BAL_ONL_ON (s.closedMask % 2 ^ 32)).put Reg.BAL_ONH_ON (s.closedMask / 2 ^ 32)

/-- The switches of the pattern take the states of a mask. -/
def State.setSwitches (s : State) (m : Nat) : State :=
  { s with bal := { s.bal with
    sw := s.bal.sw.mapIdx fun i w => Switch.to w s.fstart s.now (m.testBit i) } }.showSwitches

/-- Every switch opens, a modulated one among them. -/
def State.openSwitches (s : State) : State := s.stopModulation.setSwitches 0

/-- The switches follow the on set, the half period and every cause that holds them open. -/
def State.refreshSwitches (s : State) : State :=
  if s.balMayRun then
    ({ s with bal := { s.bal with ran := s.bal.ran || s.bal.onSet != 0 } }).setSwitches (switchMask s.bal.onSet s.bal.half)
  else s.setSwitches 0

/-- The channels that may balance by their latest Fine result, population and UV state (R284). -/
def State.validMask (s : State) : Nat :=
  let lo : Int := 1000 * min 5000 (s.get Reg.BAL_VLIM_VBMIN)
  let hi : Int := 1000 * min 5000 (s.get Reg.BAL_VLIM_VBMAX)
  bitsOf (s.cm.fine.mapIdx fun i r =>
    s.populated.testBit i && !s.uvSet i && !r.2 && decide (lo ≤ r.1) && decide (r.1 ≤ hi))

/-- The first `n` channels of a set in ascending order from index `start`, wrapping at the top. -/
def rotateFrom (set start n : Nat) : List Nat :=
  (((List.range 48).map fun i => (start + i) % 48).filter (set.testBit ·)).take n

/-- Choose the on set from the eligible set (R284). -/
def State.chooseOn (s : State) : State :=
  let elig := bitsOf ((List.range 48).map fun i => s.pattern.testBit i && s.bal.valid.testBit i)
  let s := { s with bal := { s.bal with eligible := elig } }
  let maxon := clampN 1 24 (s.get Reg.BAL_CFG_MAXON)
  if popcount 48 elig ≤ maxon then
    let last := (List.range 48).foldl (fun l i => if elig.testBit i then i + 1 else l) s.bal.rotFrom
    ({ s with bal := { s.bal with onSet := elig, rotNext := last % 48 } }).putB Reg.BAL_STAT_ROTATE false
  else
    let l := rotateFrom elig s.bal.rotFrom maxon
    let s := { s with bal := { s.bal with
      onSet := bitsOf ((List.range 48).map (l.contains ·)), rotNext := (l.getLastD 0 + 1) % 48 } }
    (s.raiseIf (!s.flag Reg.BAL_STAT_ROTATE) Ev.BAL_ROTATE).putB Reg.BAL_STAT_ROTATE true

/-- A channel left the eligible set because of its result (R284): it was eligible, its pattern bit is set, it is
populated, and its result no longer serves. -/
def State.balLimit (s : State) (was : Nat) : Bool :=
  (List.range 48).any fun i => was.testBit i && s.pattern.testBit i && s.populated.testBit i && !s.uvSet i &&
    !s.bal.valid.testBit i

/-- Balancing at a frame boundary (R284): the eligible set is formed anew and the on set chosen for the frame; the rotation
goes on from the last channel that was on. -/
def State.balBoundary (s : State) : State :=
  let was := s.bal.eligible
  let s := { s with bal := { s.bal with
    valid := s.validMask, half := false, newPat := false, ran := false,
    rotFrom := if s.bal.ran then s.bal.rotNext else s.bal.rotFrom } }
  let s := s.raiseIf (s.balLimit was) Ev.BAL_LIMIT
  s.chooseOn.refreshSwitches

/-- On-time of one channel in the frame that ends now, in 10 µs, the modulation included (R287). -/
def State.onTime (s : State) (i : Nat) (w : Switch) : Nat :=
  min 1000 ((w.acc + (if w.on then s.now - max w.onAt s.fstart else 0) +
    (if s.bal.modul.mask.testBit i then s.bal.modul.ticks s.fstart s.now else 0)) / 1000)

/-- Publish ONT01 to ONT48 at the end of a frame and start counting anew (R287). -/
def State.publishOnTimes (s : State) : State :=
  let ts := s.bal.sw.mapIdx fun i w => s.onTime i w
  let s := { s with bal := { s.bal with sw := s.bal.sw.map fun w => { w with acc := 0 } } }
  (ts.zipIdx).foldl (fun s t => s.put (Reg.BAL_ONT_TIME.at t.2) t.1) s

/-- The pattern is cleared and every switch opens (R289, Table 12.3). -/
def State.clearPattern (s : State) : State :=
  let s := ((((s.setWord Reg.BAL_PATL 0).setWord Reg.BAL_PATH 0).putB Reg.BAL_STAT_SUSP false).putBit
    Reg.BAL_STAT_GRANT 4 false).putBit Reg.BAL_STAT_PEND 4 false
  { s with bal := { s.bal with onSet := 0, eligible := 0 } }.openSwitches

/-! ### Commands -/

/-- Balancing has a standing request while the pattern has a set bit (Table 12.1). -/
def State.standingRequest (s : State) : State :=
  if s.pattern = 0 then
    ((s.putB Reg.BAL_STAT_SUSP false).putBit Reg.BAL_STAT_GRANT 4 false).putBit Reg.BAL_STAT_PEND 4 false
  else if s.granted 5 ∨ s.isPending 5 then s
  else
    match s.balBlocker with
    | some b => s.suspendBal b
    | none => s.putBit Reg.BAL_STAT_GRANT 4 true

/-- BALANCING_PATTERN_WRITE (R284): the written word holds at once; the switches change at the next Fine instant. -/
def execBalancingPatternWrite (_ini : Ini) (upper : Bool) (val : Word) (s : State) : Result :=
  let s := if upper then s.setWord Reg.BAL_PATH (val &&& 0xFFFF) else s.setWord Reg.BAL_PATL val
  .next { s.standingRequest with bal := { s.standingRequest.bal with newPat := true } }

/-- BALANCING_STOP (R289, Table 12.3): every switch opens and the pattern is cleared. -/
def execBalancingStop (_ini : Ini) (s : State) : Result := .next s.clearPattern

/-- BAL_HALF_PERIOD (R434): 12,500 ticks into a Fine period the odd channels of adjacent pairs give way to the even
ones. -/
def execBalHalfPeriod (s : State) : Result :=
  let s := { s with bal := { s.bal with half := true } }
  .next (s.advanceTo (s.fstart + (s.now - s.fstart) / 25000 * 25000 + 12500)).refreshSwitches

/-- BAL_CMD_TIMEOUT (R283): the powered measurement die opens every switch and raises the event; none is raised in a
pause, after a supply failure, or unpowered. -/
def execBalCmdTimeout (s : State) : Result :=
  if s.cm.running ∧ ¬ s.cm.supplyFail ∧ s.power.pauseAt.isNone then
    .next (s.openSwitches.raise Ev.BAL_CMD_TIMEOUT)
  else .next s.openSwitches

end Sys2Proof.Machine
end

