-- ==== Sys2Proof/Machine/Outputs.lean ====
section
/-!
DEFINITION. The load channels and Safety Net as shared operations (R255 to R273): what turns a channel on and off,
its ramp and freeze, test pulses, shedding, and the Safety Net truth table. Channel index `i` is OUT(i+1).
-/
namespace Sys2Proof.Machine

/-- The channels that the build has, bit i (R4). -/
def State.chanMask (s : State) : Nat := if s.full then 0xFFFF else 0xFF

/-- The build has channel `i`. -/
def State.hasChan (s : State) (i : Nat) : Bool := s.chanMask.testBit i

/-- The hidden state of channel `i`. -/
def State.chan (s : State) (i : Nat) : Chan := s.out.ch.getD i {}

/-- Set the hidden state of channel `i`. -/
def State.setChan (s : State) (i : Nat) (c : Chan) : State := { s with out := { s.out with ch := s.out.ch.set i c } }

/-- `OUT.CHSTATn.STATE` (Table 11.8). -/
def State.chState (s : State) (i : Nat) : Nat := s.get (Reg.OUT_CHSTAT_STATE.at i)

/-- A channel mapped to a contactor role in the map in use (R241). -/
def State.isRole (s : State) (i : Nat) : Bool := s.cts.map.contains (i + 1)

/-- The role channels, bit i. -/
def State.roleMask (s : State) : Nat := bitsOf ((List.range 16).map s.isRole)

/-- A source whose fixed part on the lead is every contactor role: all but TKA and TKB (Table 9.1, R358). -/
def fixedRoles (src : Nat) : Bool := src != 11 && src != 12

/-- The channels that one latched source holds off: its mask, and its fixed part on the lead (R225, Table 9.1). -/
def State.sourceHolds (s : State) (src : Nat) : Nat :=
  s.get (Reg.SAF_RM_OUT.at src) ||| (if s.isLead && fixedRoles src then s.roleMask else 0)

/-- The channels that latched reactions hold off (R225, R226). -/
def State.heldMask (s : State) : Nat :=
  (List.range 15).foldl (fun m src => if s.bit Reg.SAF_RSTAT_LATCH src then m ||| s.sourceHolds src else m) 0

/-- A latched reaction holds channel `i`. -/
def State.isHeld (s : State) (i : Nat) : Bool := s.heldMask.testBit i

/-! ### Safety Net (R269 to R273) -/

/-- The strap assignment of LHx by code (Table 11.5), as a channel mask. -/
def strapMask (code x : Nat) : Nat :=
  match code, x with
  | 1, 0 => 0x0010
  | 2, 0 => 0x0010
  | 2, 1 => 0x0020
  | 3, x => 2 ^ (4 + x)
  | 4, 0 => 0x1000
  | 5, x => 2 ^ (12 + x)
  | 6, 0 => 0x1010
  | _, _ => 0

/-- The channels assigned to LH(x+1): the locked registers, or the strap (R270, R271). -/
def State.lhMask (s : State) (x : Nat) : Nat :=
  (if s.flag Reg.LHM_STAT_SRC then s.get (Reg.LHM_ASSIGN_MASK.at x) else strapMask (s.get Reg.LHM_STRAP_CODE) x) &&&
    s.chanMask

/-- Safety Net is active. -/
def State.snActive (s : State) : Bool := s.flag Reg.LHM_STAT_ACTIVE

/-- The input that controls channel `i`. -/
def State.lhOf (s : State) (i : Nat) : Option Nat := (List.range 4).find? fun x => (s.lhMask x).testBit i

/-- The filtered level of LH(x+1). -/
def State.lhIn (s : State) (x : Nat) : Bool := s.bit Reg.LHM_STAT_LHIN x

/-- Channel `i` is driven by Safety Net: active and assigned. -/
def State.snDrives (s : State) (i : Nat) : Bool := s.snActive && (s.lhOf i).isSome

/-- The state that Table 11.6 decides for channel `i`, in Sleep only under a host request (Table 11.4); a channel that Safety Net does not drive follows its
on-command. -/
def State.wanted (s : State) (i : Nat) : Bool :=
  if s.snActive then
    match s.lhOf i with
    | some x => !(s.alive && s.isHeld i) && !(s.chan i).tripped && s.lhIn x && (!s.sleeping || s.lhm.hreq != 0)
    | none => s.bit Reg.OUT_CMD_ON i && !s.isHeld i
  else s.bit Reg.OUT_CMD_ON i && !s.isHeld i

/-- The slew and the inrush budget of a turn-on of channel `i`, in V/ms and ms (R258, R271). -/
def State.slewBudget (s : State) (i : Nat) : Nat × Nat :=
  if s.snDrives i then
    match s.lhOf i with
    | some x => (if s.flag Reg.LHM_STAT_SRC then clampN 1 255 (s.get (Reg.LHM_ASSIGN_SLEW.at x)) else 1, 255)
    | none => (1, 255)
  else (clampN 1 255 (s.get (Reg.OUT_CFG_SLEW.at i)), clampN 1 255 (s.get (Reg.OUT_CFG_INRUSH.at i)))

/-! ### Turning on and off -/

/-- Channel `i` starts its ramp, frozen while VBAT is below 4.5 V (R258, R264). -/
def State.startRamp (s : State) (i : Nat) : State :=
  let (slew, budget) := s.slewBudget i
  let s := s.setChan i { s.chan i with start := s.now, slew, budget, frozen := 0, frozenAt := s.now, olN := 0 }
  ((s.put (Reg.OUT_CHSTAT_STATE.at i) 1).putB (Reg.OUT_CHSTAT_FROZEN.at i) s.out.crank).putBit Reg.OUT_COND_ON i true

/-- Channel `i` stops conducting (R259). -/
def State.stopChan (s : State) (i : Nat) : State :=
  ((s.put (Reg.OUT_CHSTAT_STATE.at i) 0).putB (Reg.OUT_CHSTAT_FROZEN.at i) false).putBit Reg.OUT_COND_ON i false

/-- The test in progress ends as incomplete; the channel takes state `st`, and its test is repeated from the next frame
on (R267). -/
def State.testIncomplete (s : State) (i st : Nat) : State :=
  let s := (s.put (Reg.OUT_CHSTAT_STATE.at i) st).putBit Reg.OUT_COND_ON i (st != 0)
  let s := { s with out := { s.out with test := none, retest := some (i, (s.frame + 1) % 2 ^ 32) } }
  (s.putBit Reg.OUT_TESTRES_INCOMPLETE i true).raise Ev.OUT_TEST_INCOMPLETE

/-- A cause of the last row of Table 11.3 ends the test in progress: back on after a dark pulse, off after a bright
one. -/
def State.abortTest (s : State) : State :=
  match s.out.test with
  | none => s
  | some (i, bright) => s.testIncomplete i (if bright then 0 else 2)

/-- Channel `i` takes the state that its commands, reactions and Safety Net decide. A real demand wins over a test
pulse, and a reaction over a bright one (R226, R267). -/
def State.refreshChan (s : State) (i : Nat) : State :=
  let s := (s.putB (Reg.OUT_CHSTAT_SN.at i) (s.snDrives i)).putB (Reg.OUT_CHSTAT_HELD.at i) (s.isHeld i)
  match s.chState i, s.wanted i with
  | 0, true => s.startRamp i
  | 3, false => s.testIncomplete i 0
  | 4, true => (s.testIncomplete i 0).startRamp i
  | 4, false => if s.isHeld i then s.testIncomplete i 0 else s
  | 1, false => s.stopChan i
  | 2, false => s.stopChan i
  | 5, false => s.stopChan i
  | _, _ => s

/-- Every channel of the build takes its decided state. -/
def State.refreshChannels (s : State) : State :=
  let s := (List.range 16).foldl (fun s i => if s.hasChan i then s.refreshChan i else s) s
  s.put Reg.LHM_STAT_HELD (bitsOf ((List.range 16).map s.snDrives))

/-- Set or clear the on-command of channel `i`, with no check. -/
def State.setCmd (s : State) (i : Nat) (on : Bool) : State := (s.putBit Reg.OUT_CMD_ON i on).refreshChannels

/-- The reasons of R257 that refuse a turn-on of channel `i`, role mapping left out. -/
def State.turnOnRefused (s : State) (i : Nat) : Bool :=
  s.isHeld i || s.snDrives i || s.flag (Reg.OUT_CHSTAT_HOT.at i) || s.bit Reg.OUT_SHED_CLUSTER (i / 4) ||
    s.power.holdAt.isSome

/-- The sequencer, or a command, turns channel `i` on under the same override (R257). -/
def State.turnOn (s : State) (i : Nat) : State :=
  if !s.hasChan i then s
  else if s.turnOnRefused i then s.raise Ev.OUT_CMD_REFUSED
  else (s.put (Reg.OUT_CHSTAT_LASTFLT.at i) 0).setCmd i true

/-- Turn channel `i` off; the command ends a bright pulse on it (Table 11.3). -/
def State.turnOff (s : State) (i : Nat) : State :=
  if !s.hasChan i then s
  else if s.chState i = 4 then (s.testIncomplete i 0).setCmd i false
  else s.setCmd i false

/-- A turn-off by the channel's own protection or by shedding (R261): the on-command clears, `LASTFLT` records the
cause, and under Safety Net the channel stays off as R272 says. -/
def State.tripChan (s : State) (i fault : Nat) : State :=
  let s := s.setChan i { s.chan i with tripped := (s.chan i).tripped || (s.lhOf i).isSome }
  (s.put (Reg.OUT_CHSTAT_LASTFLT.at i) fault).setCmd i false

/-- A reaction commands channels off: their on-commands clear (R225 step 2), with fault code 5 (Table 11.2). -/
def State.reactionOff (s : State) (m : Nat) : State :=
  let s := (List.range 16).foldl (fun s i =>
    if m.testBit i && s.hasChan i && (s.bit Reg.OUT_CMD_ON i || s.chState i != 0) then
      s.put (Reg.OUT_CHSTAT_LASTFLT.at i) 5 else s) s
  (s.put Reg.OUT_CMD_ON (s.get Reg.OUT_CMD_ON - (s.get Reg.OUT_CMD_ON &&& m))).refreshChannels

/-- Every on-command clears: a reset, the end of an output hold, or Sleep (R268, assumption 15). A channel that Safety Net
drives follows its input. -/
def State.allOff (s : State) : State := (s.abortTest.put Reg.OUT_CMD_ON 0).refreshChannels

/-! ### Cranking (R264) -/

/-- VBAT falls below 4.5 V. -/
def State.crankBegin (s : State) : State :=
  if s.out.crank then s
  else
    let s := s.abortTest
    let s := { s with out := { s.out with crank := true } }
    let s := (List.range 16).foldl (fun s i =>
      if s.chState i = 1 then
        (s.setChan i { s.chan i with frozenAt := s.now }).putB (Reg.OUT_CHSTAT_FROZEN.at i) true
      else s) s
    s.raise Ev.OUT_CRANK

/-- VBAT is back at or above 4.5 V: ramps resume, diagnostics 100,000 ticks later. -/
def State.crankEnd (s : State) : State :=
  if s.out.crank then
    let s := { s with out := { s.out with crank := false, diagFrom := s.now + 100000 } }
    let s := (List.range 16).foldl (fun s i =>
      if s.flag (Reg.OUT_CHSTAT_FROZEN.at i) then
        (s.setChan i { s.chan i with frozen := (s.chan i).frozen + (s.now - (s.chan i).frozenAt) }).putB
          (Reg.OUT_CHSTAT_FROZEN.at i) false
      else s) s
    s.raise Ev.OUT_CRANK_END
  else s

/-- Diagnostics and test pulses run: not in a crank nor in the 1 ms after it (R264). -/
def State.diagOn (s : State) : Bool := !s.out.crank && decide (s.out.diagFrom ≤ s.now)

/-- The tick at which the inrush budget of channel `i` runs out: extended by the time frozen, never beyond twice the
budget (R258, R264). -/
def State.inrushEnd (s : State) (i : Nat) : Nat :=
  let c := s.chan i
  let frozenNow := s.flag (Reg.OUT_CHSTAT_FROZEN.at i)
  let b := c.budget * 100000
  if frozenNow then c.start + 2 * b else c.start + min (2 * b) (b + c.frozen)

/-! ### Safety Net episodes (R269, R273) -/

/-- A cause of R269 arises: bit of `LHM.STAT.CAUSE` 0 watchdog, 1 reset, 2 core supply, 3 host request. Safety Net
takes control at once (assumption 14). -/
def State.snBegin (s : State) (cause : Nat) (inReset : Bool) : State :=
  let s := s.putBit Reg.LHM_STAT_CAUSE cause true
  if s.snActive then s.refreshChannels
  else
    let taken := match s.out.test with
      | some (i, _) => (s.lhOf i).isSome
      | none => false
    let s := if taken then s.abortTest else s
    let s := s.putB Reg.LHM_STAT_ACTIVE true
    let s := { s with lhm := { s.lhm with since := s.now, inReset } }
    -- a channel that stays on keeps its ramp; one that Safety Net finds on without a ramp is not interrupted
    s.refreshChannels

/-- A cause other than a past reset persists (R273). -/
def State.snCausePersists (s : State) : Bool := s.power.coreFail || s.lhm.hreq != 0 || s.power.holdAt.isSome

/-- Safety Net ends: the episode is recorded, and the channels return to their on-commands (R273). -/
def State.snEnd (s : State) : State :=
  let cmd := bitsOf ((List.range 16).map fun i => if s.snDrives i then s.wanted i else s.bit Reg.OUT_CMD_ON i)
  let s := (s.put Reg.LHM_LAST_DUR (min 65535 ((s.now - s.lhm.since) / 1000000))).put Reg.LHM_LAST_CAUSE
    (s.get Reg.LHM_STAT_CAUSE)
  let s := (s.put Reg.OUT_CMD_ON cmd).putB Reg.LHM_STAT_ACTIVE false
  ((s.put Reg.LHM_STAT_CAUSE 0).refreshChannels).raise Ev.LHM_RELEASED

/-- A host request bit changes: 0 `LHM.HREQ.REQ`, 1 the mailbox (R269). -/
def State.hostRequest (s : State) (i : Nat) (on : Bool) : State :=
  let s := { s with lhm := { s.lhm with hreq := bitTo s.lhm.hreq i on } }
  if on then s.snBegin 3 false else s

/-- Lock the Safety Net assignment (R270). -/
def State.lhmLock (s : State) : State :=
  if s.flag Reg.LHM_LOCK_LOCK then s
  else
    let m := fun x => s.get (Reg.LHM_ASSIGN_MASK.at x)
    let overlap := m 0 &&& m 1 ||| m 0 &&& m 2 ||| m 0 &&& m 3 ||| m 1 &&& m 2 ||| m 1 &&& m 3 ||| m 2 &&& m 3
    let all := m 0 ||| m 1 ||| m 2 ||| m 3
    let roleReg := bitsOf ((List.range 16).map fun i =>
      (List.range 6).any fun r => min 16 (s.get Reg.CTS_ROLEMAP_CH / 32 ^ r % 32) == i + 1)
    if overlap ≠ 0 ∨ all &&& s.chanMask ≠ all ∨ all &&& roleReg ≠ 0 then s.raise Ev.LHM_LOCK_REFUSED
    else (((s.putB Reg.LHM_LOCK_LOCK true).putB Reg.LHM_STAT_SRC true).refreshChannels).raise Ev.LHM_LOCKED

/-! ### Shedding (R265) -/

/-- The next channel of a cluster to shed: an on channel, lowest SHEDPRI first, then lowest number. -/
def State.shedNext (s : State) (c : Nat) : Option Nat :=
  let on := (List.range 4).filterMap fun k =>
    let i := 4 * c + k
    if s.hasChan i && s.chState i != 0 && s.chState i != 4 then some i else none
  on.foldl (fun best i =>
    match best with
    | none => some i
    | some j => if s.get (Reg.OUT_CFG_SHEDPRI.at i) < s.get (Reg.OUT_CFG_SHEDPRI.at j) then some i else some j) none

/-- Shed channel `i` of cluster `c`. -/
def State.shedChan (s : State) (c i : Nat) : State :=
  let s := ((s.tripChan i 4).putBit Reg.OUT_SHED_CH i true).raise Ev.OUT_SHED
  { s with out := { s.out with shedAt := s.out.shedAt.set c s.now } }

end Sys2Proof.Machine
end

