-- ==== Sys2Proof/Machine/Sideshows.lean ====
section
/-!
DEFINITION. How the isolation run and the impedance point end early (R121, R194), and how the lead steps from one
impedance point to the next (R178, R182, R192): shared by the contactor sequencer, the reactions, the profile changes
and the commands of the two blocks.
-/
namespace Sys2Proof.Machine

/-! ### Isolation -/

/-- An activity is released and requested again in one tick: its new request ranks with the pending ones by precedence
alone (R121, R192, R280 step 3). `how` and `flags` as the release packet carries them. -/
def State.resubmitAs (s : State) (k how flags : Nat) : State :=
  let s := if s.isLead ∧ s.bal.asked.testBit k ∧ s.followers ≠ 0 then
    (s.send (.access (.release k how flags)) 8 0 0).send (.access (.request k)) 8 0 0 else s
  let s := s.setGrantsOf k 0
  let s := ((s.putBit Reg.BAL_STAT_GRANT (k - 1) false).putBit Reg.BAL_STAT_PEND (k - 1) true).matrixRun
  if s.isPending k then s.defer k ((s.blocker k).getD 0) else s

/-- An activity that ended early is released and requested again in one tick. -/
def State.resubmit (s : State) (k : Nat) : State := s.resubmitAs k 0 0

/-- Once the lead holds every grant, G is the tenth frame boundary after (R281); another device as anchor is told. -/
def State.isoSettle (s : State) : State :=
  if s.isLead ∧ s.bal.asked.testBit 2 ∧ s.allGranted 2 ∧ s.iso.g.isNone ∧ s.iso.phase = 0 then
    let g := s.fstart + 10000000
    let s := { s with iso := { s.iso with g := some g } }
    if s.isAnchor then s else s.send (.access (.start 2 ((s.frame + 10) % 65536) 0)) 8 0 0
  else s

/-- Give up the grant of the isolation measurement: everywhere on the lead, on its own matrix on a follower. -/
def State.releaseIso (s : State) : State := if s.isLead then s.releaseAll 2 else s.release 2

/-- The isolation run ends: both switches open, no start boundary set. -/
def State.isoIdle (s : State) : State :=
  let s := { s with iso := { s.iso with phase := 0, g := none, isoA := false, isoB := false, low := 0, frames := 0 } }
  (s.put Reg.HVM_ISOSTAT_PHASE 0).putB Reg.HVM_STAT_ISORUN false

/-- A run ends as incomplete (R121); `again`: the anchor submits a new request in the same tick. -/
def State.isoIncomplete (s : State) (again : Bool) : State :=
  let s := (s.isoIdle.put Reg.HVM_ISOSTAT_STATE 3).raise Ev.HVM_ISO_INCOMPLETE
  if again then ({ s with iso := { s.iso with asked := !s.isLead } } : State).resubmit 2 else s.releaseIso

/-- A run is in progress on this anchor. -/
def State.isoRunning (s : State) : Bool := s.isAnchor && (s.iso.phase != 0 || s.iso.g.isSome)

/-- A cause of R121 ends the run of this anchor; a lead that is not the anchor gives the run's grant back everywhere
and asks for it again. -/
def State.endIso (s : State) : State :=
  if s.isoRunning then s.isoIncomplete true
  else if s.isLead ∧ ¬ s.isAnchor ∧ s.bal.asked.testBit 2 ∧ s.granted 2 then
    ({ s with iso := { s.iso with g := none } } : State).resubmit 2
  else s

/-- The lead of another device's run, which has ended: every grant is given back, and G with them. -/
def State.isoOver (s : State) : State := ({ s with iso := { s.iso with g := none } } : State).releaseAll 2

/-- A follower that is anchor has lost the grant of its run: the run ends as incomplete. -/
def State.isoOrphan (s : State) : State :=
  if s.isoRunning ∧ ¬ s.isLead ∧ ¬ s.granted 2 then s.isoIncomplete false else s

/-! ### Impedance -/

/-- Frames and cycles of point `p` (R177, Table 7.4). -/
def State.eisFrm (s : State) (p : Nat) : Nat := clampN 1 4095 (s.get (Reg.EIS_FREQ_FRM.at p))
def State.eisCyc (s : State) (p : Nat) : Nat := clampN 1 65535 (s.get (Reg.EIS_FREQ_CYC.at p))

/-- The frequency of point `p` in Hz: 100 · CYC / FRM. -/
def State.eisFreq (s : State) (p : Nat) : Rat := (100 * s.eisCyc p : Nat) / (s.eisFrm p : Nat)

/-- Points of the plan. -/
def State.eisPoints (s : State) : Nat := min 8 (s.get Reg.EIS_PLAN_NFREQ)

/-- The engine accumulates nothing and modulates nothing; `EIS.STAT` shows no source. -/
def State.eisQuiet (s : State) : State :=
  let s := s.stopModulation
  let s := { s with eis := { s.eis with
    phase := 0, plan := none, accepted := false, gapDev := 0, cells := List.replicate 48 {}, cur := {}, m := 0,
    mean := List.replicate 48 0, gotI := false, done := 0, new := [], sat := 0, satI := false, unsync := false,
    gap := false } }
  (s.put Reg.EIS_STAT_SRC 0).put Reg.EIS_STAT_PASS 0

/-- A point counts as skipped or incomplete with a reason of Table 7.2. -/
def State.eisSkipRecord (s : State) (reason : Nat) : State :=
  (((s.incSat Reg.EIS_SWSTAT_SKIP).put Reg.EIS_SWSTAT_REASON reason).put Reg.EIS_SWSTAT_LAST
    (s.get Reg.EIS_STAT_POINT)).raise Ev.EIS_POINT_SKIP

/-- A charger request in force goes to STOP (R184, R194). -/
def State.eisStopRequest (s : State) : State :=
  if s.eis.req = 1 ∨ s.eis.req = 2 then { s with eis := { s.eis with req := 3, stopFrame := s.frame } } else s

/-- The sweep ends (R178, R194). -/
def State.eisSweepEnd (s : State) (how flags : Nat) : State :=
  (s.eisQuiet.releaseAs 4 how flags).putB Reg.EIS_STAT_SWEEP false

/-- The sweep ends with no result of the point in progress. -/
def State.eisSweepOver (s : State) : State := s.eisSweepEnd 0 0

/-- The frame mean of the pack current in mA as the lead has it: its own, or the anchor's frame record (R128). -/
def State.packAvg1 (s : State) : Int :=
  if s.isAnchor then s.getI Reg.IPK_AVG1_MA
  else match s.anchorRecord with
    | some r => r.avg1
    | none => 0

/-- A published limit of the Live Table in mA: two words from `w`, low half first (R367). -/
def State.published (s : State) (w : Nat) : Int := nget w s.hst.front + 65536 * nget (w + 1) s.hst.front

/-- The amplitude of a charger request in 0.1 A (R183). -/
def State.requestAmp (s : State) : Int :=
  min (s.get Reg.EIS_EXCCFG_AMAX)
    (min ((s.published 0x40 - s.packAvg1) / 100) ((s.published 0x46 + s.packAvg1) / 100))

/-- The first available source of those left for the point, in the order of Table 7.1: 1 charger, 2 balancing, up to
1 kHz, 3 drive, 0 none. -/
def State.eisSource (s : State) : Nat :=
  let l := s.eis.left
  if l.testBit 0 ∧ s.get Reg.EIS_EXCCFG_AMAX ≠ 0 ∧ 10 ≤ s.requestAmp then 1
  else if l.testBit 1 ∧ s.eisFreq (s.get Reg.EIS_STAT_POINT) ≤ 1000 then 2
  else if l.testBit 2 then 3
  else 0

/-- Every follower learns the first frame of a window, its point, pass and source, ahead of the boundary (R281, assumption 63). -/
def State.eisTell (s : State) (src : Nat) : State :=
  let arg := s.get Reg.EIS_STAT_POINT + 8 * s.get Reg.EIS_STAT_PASS + 32 * src
  if s.followers ≠ 0 then s.send (.access (.start 4 ((s.frame + 1) % 65536) arg)) 8 0 0 else s

/-- The lead holds every grant of the point: at the coming boundary it starts, with the source chosen now (R182, R192); between
two passes the source stays. -/
def State.eisPlan (s : State) : State :=
  if s.isLead ∧ (s.eis.phase = 1 ∨ s.eis.phase = 5) ∧ s.eis.plan = none ∧ s.allGranted 4 then
    let src := if s.eis.phase = 5 then 2 else s.eisSource
    let s : State := { s with eis := { s.eis with plan := some src } }
    if 2 ≤ src then s.eisTell src else s
  else s

/-- Start the points from index `p` on: a point that the mode in force cannot measure is skipped with reason 2; the
first that it can is submitted to every matrix, in the tick of the release of the point before it; after the last the
sweep is done (R178, R192, R280 step 3). `n` points remain. -/
def State.eisFrom (how flags : Nat) : Nat → Nat → State → State
  | 0, _, s => (s.eisSweepEnd how flags).raise Ev.EIS_SWEEP_DONE
  | n + 1, p, s =>
    let s := s.eisQuiet.put Reg.EIS_STAT_POINT p
    if !s.fast && 2000 ≤ s.eisFreq p then State.eisFrom how flags n (p + 1) (s.eisSkipRecord 2)
    else
      let s := { s with eis := { s.eis with phase := 1, left := s.get (Reg.EIS_FREQ_SRC.at p), refused := false } }
      if s.bal.asked.testBit 4 then s.resubmitAs 4 how flags else s.askAll 4

/-- The next point, after the present one has completed (`how` 1) or been skipped. -/
def State.eisNext (s : State) (how flags : Nat) : State :=
  let p := s.get Reg.EIS_STAT_POINT + 1
  State.eisFrom how flags (s.eisPoints - p) p s.eisQuiet

/-- The point in progress is skipped. -/
def State.eisSkip (s : State) (reason : Nat) : State := (s.eisSkipRecord reason).eisNext 0 0

/-- A point is in progress, waits for its grants or is to start at a boundary. -/
def State.eisActive (s : State) : Bool := s.eis.phase != 0 || s.eis.plan.isSome

/-- A cause of R194 ends the point as incomplete with reason 4, and the sweep with it; on a follower the device's own
part of the point ends. -/
def State.eisAbort (s : State) : State :=
  if !s.eisActive then s
  else if s.isLead then
    let s := s.eisSkipRecord 4
    let s := s.raiseIf (s.eis.req == 2) Ev.EIS_EXC_FAULT
    s.eisStopRequest.eisSweepOver
  else s.eisQuiet

/-- `EIS.STAT.EXC`: REQSTATE is not IDLE. -/
def State.eisExc (s : State) : State := s.putB Reg.EIS_STAT_EXC (s.eis.req != 0)

/-- A contactor role changes state: an isolation run and an impedance point end as incomplete (R121, R194, R252). -/
def State.roleChanged (s : State) : State := s.endIso.eisAbort.eisExc

end Sys2Proof.Machine
end

