-- ==== Sys2Proof/Machine/Contactors.lean ====
section
/-!
DEFINITION. The contactor sequencer (R241 to R254): its states, checks and opening records as shared operations, and
the commands of the CTS block.
-/
namespace Sys2Proof.Machine

/-! ### Configuration and measurements -/

/-- A configuration field as read at entry to the drive state (`charge` false) or the charge state (R242). -/
def State.ctsCfg (s : State) (charge : Bool) (f : Fld) : Nat :=
  f.extract (BitVec.ofNat 32 ((if charge then s.cts.cCfg else s.cts.cfg).getD ((f.addr - Reg.CTS_ROLEMAP) / 4) 0))

/-- One millisecond in ticks. -/
def msTicks (ms : Nat) : Nat := ms * 100000

/-- The map of `CTS.ROLEMAP`: the channel of each role. -/
def State.roleReg (s : State) : List Nat := (List.range 6).map fun r => min 16 (s.get Reg.CTS_ROLEMAP_CH / 32 ^ r % 32)

/-- `CTS.STAT.DSTATE` and `CSTATE`. -/
def State.dstate (s : State) : Nat := s.get Reg.CTS_STAT_DSTATE
def State.cstate (s : State) : Nat := s.get Reg.CTS_STAT_CSTATE

/-- The map in use follows the register while both paths are OPEN; otherwise MAPPEND shows that they differ (R242). Roles exist
on the lead only (R28). -/
def State.mapSync (s : State) : State :=
  if !s.isLead then s
  else if s.dstate = 0 ∧ s.cstate = 0 then
    let m := s.roleReg
    let s := ({ s with cts := { s.cts with map := m } }).putB Reg.CTS_STAT_MAPPEND false
    s.putB Reg.CTS_STAT_AUX (m.getD 5 0 != 0 && s.bit Reg.OUT_CMD_ON (m.getD 5 0 - 1))
  else s.putB Reg.CTS_STAT_MAPPEND (s.cts.map != s.roleReg)

/-- The sequencer acts: on the lead, out of reset, with no output hold in progress (Table 10.6). -/
def State.ctsRuns (s : State) : Bool := s.isLead && s.alive && s.power.holdAt.isNone

/-- Role `r` is on: the on-command of its channel. -/
def State.roleOn (s : State) (r : Nat) : Bool :=
  let c := s.cts.map.getD r 0
  c != 0 && s.bit Reg.OUT_CMD_ON (c - 1)

/-- The roles that are on, bit r. -/
def State.rolesOn (s : State) : Nat := bitsOf ((List.range 6).map s.roleOn)

/-- LINKINV while MN is open, INLETINV while CN is open, AUX (R244, Table 10.7). -/
def State.ctsShow (s : State) : State :=
  ((s.putB Reg.CTS_STAT_LINKINV (!s.roleOn 1)).putB Reg.CTS_STAT_INLETINV (!s.roleOn 4)).putB Reg.CTS_STAT_AUX
    (s.roleOn 5)

/-- Switch role `r`: a change of its state ends an isolation run and an impedance point. -/
def State.setRole (s : State) (r : Nat) (on : Bool) : State :=
  let c := s.cts.map.getD r 0
  let was := s.roleOn r
  if c = 0 then s
  else
    let s := (if on then s.turnOn (c - 1) else s.turnOff (c - 1)).ctsShow
    if s.roleOn r = was then s else s.roleChanged

/-- Switch several roles in one tick. -/
def State.setRoles (s : State) (rs : List Nat) (on : Bool) : State := rs.foldl (fun s r => s.setRole r on) s

/-- The fraction VOLT2 / VOLT1 of the latest sample (R243); with VOLT1 at 0 the manual states none: a free value. -/
def State.linkFraction (s : State) : Rat := if s.cts.v1 = 0 then s.freeQ else (s.cts.v2 : Rat) / (s.cts.v1 : Rat)

/-- WELDV in mV, WELDI and IOPEN in mA (Table 10.7). -/
def State.weldMV (s : State) (charge : Bool) : Int := 1000 * clampN 1 1000 (s.ctsCfg charge Reg.CTS_WELDCFG_WELDV)
def State.weldMA (s : State) : Int := 100 * clampN 1 65535 (s.ctsCfg false Reg.CTS_WELDCFG_WELDI)
def State.openMA (s : State) (charge : Bool) : Int := 100 * s.ctsCfg charge Reg.CTS_OPENCFG_IOPEN

/-- TCLOSE, TGAP, TPROBE in ticks. -/
def State.tClose (s : State) (charge : Bool) : Nat := msTicks (clampN 5 255 (s.ctsCfg charge Reg.CTS_TIMING_TCLOSE))
def State.tGap (s : State) (charge : Bool) : Nat := msTicks (clampN 1 50 (s.ctsCfg charge Reg.CTS_TIMING_TGAP))
def State.tProbe (s : State) : Nat := msTicks (clampN 5 255 (s.ctsCfg false Reg.CTS_TIMING_TPROBE))

/-- The words ROLEMAP to RETRY as they stand. -/
def State.ctsWords (s : State) : List Nat := s.words Reg.CTS_ROLEMAP 10

/-- Enter a drive state: the configuration is read (R242). -/
def State.enterD (s : State) (st : Nat) : State :=
  let cfg := s.ctsWords
  { s with cts := { s.cts with since := s.now, low := 0, cfg } }.put Reg.CTS_STAT_DSTATE st

/-- Enter a charge state. -/
def State.enterC (s : State) (st : Nat) : State :=
  let cCfg := s.ctsWords
  { s with cts := { s.cts with cSince := s.now, cLow := 0, matchN := 0, cCfg } }.put Reg.CTS_STAT_CSTATE st

/-- The weld grant, or the request for it, is given up. -/
def State.dropWeld (s : State) : State := s.abandon 3

/-- A result of a weld check: 1 open confirmed, 2 welded (R248). -/
def State.weldResult (s : State) (r v : Nat) : State :=
  let old := s.get Reg.CTS_WELDSTAT_ROLE
  let s := s.put Reg.CTS_WELDSTAT_ROLE (old - old / 4 ^ r % 4 * 4 ^ r + v * 4 ^ r)
  s.raiseIf (v == 2) Ev.CTS_WELD

/-! ### Opening records -/

/-- The roles of `tick` open under load: a positive-side one among them, at ILOAD or more (R249). -/
def State.underLoad (s : State) (tick : Nat) : Bool :=
  tick &&& 0b001101 != 0 && decide (100 * (s.get Reg.CTS_LOADCFG_ILOAD : Int) ≤ s.cts.i1.natAbs)

/-- An opening under load is reported and counted for each role that opens in this tick (R249). -/
def State.loadOpened (s : State) (tick : Nat) : State :=
  if s.underLoad tick then
    let s := s.raise Ev.CTS_LOAD_OPEN
    let s := (List.range 6).foldl (fun s r =>
      if tick.testBit r then s.incSat (Reg.CTS_LOADOPN_COUNT.at r) else s) s
    let n := (List.range 6).map fun r => s.get (Reg.CTS_LOADOPN_COUNT.at r)
    { s with ret := { s.ret with loadOpen := n } }
  else s

/-- The opening record (R249, R250): `tick` the roles that open in this tick, `all` those of the whole opening. -/
def State.openRecord (s : State) (tick all reason : Nat) : State :=
  let load := s.underLoad tick
  let s := s.loadOpened tick
  let s := ((s.put Reg.CTS_ORREC_ROLES all).put Reg.CTS_ORREC_REASON reason).putB Reg.CTS_ORREC_LOAD load
  let s := ((s.putI Reg.CTS_ORCUR_MA s.cts.i1).putI Reg.CTS_ORVOLT_MV s.cts.v1).put Reg.CTS_ORTICK_TICK s.tick
  s.record 3 0 (s.word Reg.CTS_ORREC).toNat (s.word Reg.CTS_ORCUR).toNat (s.word Reg.CTS_ORVOLT).toNat

/-- The bits of a list of roles. -/
def roleBits (rs : List Nat) : Nat := bitsOf ((List.range 6).map (rs.contains ·))

/-- An opening: the roles of `now_` go off in this tick, those of `later` will follow; `lost` went off already. -/
def State.opening (s : State) (now_ later : List Nat) (reason lost : Nat) : State :=
  let tick := lost ||| (s.rolesOn &&& roleBits now_)
  (s.openRecord tick (tick ||| (s.rolesOn &&& roleBits later)) reason).setRoles now_ false

/-- An AUX channel that is on goes off, with its opening record. -/
def State.auxOpen (s : State) (reason : Nat) : State := if s.roleOn 5 then s.opening [5] [] reason 0 else s

/-! ### The drive path (Table 10.3) -/

/-- POSOPEN: MP, PC and CP off in one tick, with the opening record; reason 4 takes AUX too (Table 10.6). -/
def State.posOpen (s : State) (reason lost : Nat) : State :=
  let s := s.dropWeld
  let s := s.opening (if reason = 4 then [0, 2, 3, 5] else [0, 2, 3]) [1, 4] reason lost
  s.enterD 8

/-- Both paths are OPEN: the map may change. -/
def State.driveOpen (s : State) : State := (s.enterD 0).mapSync

/-- A FAST (2), SLOW (3) or DATA (4) result (R246, R247). -/
def State.pcFail (s : State) (code : Nat) : State :=
  let fails := min 15 (s.get Reg.CTS_PCRES_FAILS + 1)
  let s := ((s.put Reg.CTS_PCRES_RESULT code).put Reg.CTS_PCRES_FAILS fails).put Reg.CTS_PCRES_TIME
    (min 65535 ((s.now - s.cts.pcAt) / 100000))
  let s := s.raise (if code = 2 then Ev.CTS_PC_FAST else if code = 3 then Ev.CTS_PC_SLOW else Ev.CTS_PC_DATA)
  let s := { s with cts := { s.cts with
    coolUntil := s.now + 100000000 * clampN 1 600 (s.get Reg.CTS_RETRY_TCOOL) } }
  let s := if clampN 1 15 (s.get Reg.CTS_RETRY_PCMAX) ≤ fails then
    (s.putB Reg.CTS_STAT_LOCKOUT true).raise Ev.CTS_LOCKOUT else s
  s.posOpen 5 0

/-- PC on, its time noted. -/
def State.pcOn (s : State) : State :=
  let s := { s with cts := { s.cts with pcAt := s.now } }
  s.setRole 2 true

/-- A weld grant starts PROBE, or CPCHECK on the charge path while the drive path is CLOSED (R251). -/
def State.ctsSettle (s : State) : State :=
  if s.granted 3 && s.ctsRuns then
    if s.dstate = 1 then
      let s := { s with cts := { s.cts with probeMax := 0, miss := 0 } }
      (s.enterD 2).pcOn
    else if s.cstate = 1 ∧ s.dstate = 6 then
      let s := { s with cts := { s.cts with miss := 0 } }
      s.enterC 2
    else s
  else s

/-- A granted open-wire test waits for T_S, the first Fine instant at least 10,000 ticks after the grant with k up to
24, in this frame or the next (R87). -/
def State.owSettle (s : State) : State :=
  if s.granted 1 ∧ s.cm.ow.phase = 0 then
    let ok := (List.range 25).find? fun k => s.now + 10000 ≤ s.fstart + 25000 * k
    let ts := match ok with
      | some k => s.fstart + 25000 * k
      | none => if s.now + 10000 ≤ s.fstart + 1000000 then s.fstart + 1000000 else s.fstart + 1025000
    { s with cm := { s.cm with ow := { phase := 1, ts } } }
  else s

/-- Every activity that holds a new grant takes it up. -/
def State.settle (s : State) : State := s.owSettle.isoSettle.eisPlan.ctsSettle.refreshSwitches

/-- PRECHARGE ends with DONE: MAINCLOSE (R246, R247). -/
def State.pcDone (s : State) (ms : Nat) : State :=
  let s := ((s.put Reg.CTS_PCRES_RESULT 1).put Reg.CTS_PCRES_FAILS 0).put Reg.CTS_PCRES_TIME (min 65535 ms)
  (s.enterD 5).setRole 0 true

/-- The tests of R246 on a sample at tick `t`. DONE needs the sample of the instant before (assumption 114). -/
def State.precharge (s : State) (t : Nat) : State :=
  let a := s.linkFraction
  let tk := t - s.cts.pcAt
  let tau : Rat := 100 * (clampN 1 65535 (s.ctsCfg false Reg.CTS_PCMOD_RPC) *
    clampN 1 65535 (s.ctsCfg false Reg.CTS_PCMOD_CLINK) : Nat)
  let lo : Rat := (clampN 10 100 (s.ctsCfg false Reg.CTS_PCTOL_TLO) : Nat) / 100
  let hi : Rat := (clampN 100 255 (s.ctsCfg false Reg.CTS_PCTOL_THI) : Nat) / 100
  let atol : Rat := (clampN 1 100 (s.ctsCfg false Reg.CTS_PCTOL_ATOL) : Nat) / 1000
  let late := s.tClose false + 200000
  let bound := fun (x k : Rat) => 1 - (1 - s.cts.a0) * expR (-x / (tau * k))
  let tmax := msTicks (clampN 10 10000 (s.ctsCfg false Reg.CTS_PCTIME_TMAX))
  let dvdt : Int := clampN 1 65535 (s.ctsCfg false Reg.CTS_PCTIME_DVDT)
  let s := if s.cts.v1 = 0 then s.nextFree else s
  if bound (tk : Nat) lo + atol < a then s.pcFail 2
  else if late < tk ∧ a < bound ((tk - late : Nat)) hi - atol then s.pcFail 3
  else if 95 / 100 ≤ a ∧ s.cts.v2ok ∧ ((s.cts.v2 - s.cts.v2p).natAbs : Int) < dvdt then s.pcDone (tk / 100000)
  else if tmax ≤ tk then s.pcFail 3
  else s

/-! ### The charge path (Table 10.5) -/

/-- CPOPEN: CP off, with the opening record. -/
def State.cpOpen (s : State) (reason : Nat) : State := (s.opening [3] [4] reason 0).enterC 8

/-- The charge path returns to OPEN. -/
def State.chargeOpen (s : State) : State := (s.enterC 0).mapSync

/-- The charge path acts while the drive path is CLOSED or in RAMP. -/
def State.chargeLive (s : State) : Bool := s.dstate == 6 || s.dstate == 7

/-- The charge path closes only while the drive path is CLOSED (R251). -/
def State.chargeCloses (s : State) : Bool := s.dstate == 6

/-- The CP check of Table 10.4, on a sample in CPCHECK; a failure leads to CPOPEN (Table 10.6). -/
def State.cpCheck (s : State) : State :=
  if s.cts.v2 - s.cts.v4 < s.weldMV true then
    ((s.weldResult 3 2).dropWeld).cpOpen 5
  else
    let s := (s.weldResult 3 1).dropWeld
    (s.enterC 3).setRole 4 true

/-- Two consecutive missing samples (R243, R251). -/
def State.dataLost (s : State) : State :=
  let s := if 2 ≤ s.dstate ∧ s.dstate ≤ 5 then s.pcFail 4 else s
  if s.chargeLive then
    if s.cstate = 2 then (((s.openRecord 0 0 5).dropWeld).chargeOpen).raise Ev.CTS_MATCH_FAULT
    else if 3 ≤ s.cstate ∧ s.cstate ≤ 5 then (s.cpOpen 5).raise Ev.CTS_MATCH_FAULT
    else s
  else s

/-! ### Other openings (Table 10.6) -/

/-- A latched reaction: both paths enter OPEN with no ramp, gap or check; `were` the roles that were on (R225). -/
def State.ctsReaction (s : State) (were : Nat) : State :=
  if s.isLead then
    let s := s.reactionOff s.roleMask
    let s := if were = 0 then s else s.openRecord were were 2
    let s := s.dropWeld
    let s := if s.dstate = 0 then s else s.enterD 0
    let s := if s.cstate = 0 then s else s.enterC 0
    let s := s.mapSync.ctsShow
    if were = 0 then s else s.roleChanged
  else s

/-- A role channel turned off by its own protection (R261): the rest of both paths opens while its path is not OPEN. AUX has
no path, and in an output hold the sequencer takes no step: then the role alone is recorded (R250). -/
def State.roleLost (s : State) (i : Nat) : State :=
  match s.cts.map.findIdx? (· = i + 1) with
  | none => s
  | some r =>
    let s := s.ctsShow.roleChanged.raise Ev.CTS_ROLE_LOST
    if !s.ctsRuns ∨ r = 5 ∨ (r < 3 ∧ s.dstate = 0) ∨ (3 ≤ r ∧ s.cstate = 0) then s.openRecord (2 ^ r) (2 ^ r) 3
    else s.posOpen 3 (2 ^ r)

/-- Own protection turns a channel off, a role channel with its consequences (R261). -/
def State.protectOff (s : State) (i fault : Nat) : State :=
  let was := s.isRole i && s.bit Reg.OUT_CMD_ON i
  let s := s.tripChan i fault
  if was && s.isLead then (s.roleLost i).settle else s

/-- RAMP with TRAMP capped at 40 ms from CLOSED, POSOPEN from a closing state; with the path OPEN or opening, AUX. -/
def State.stage3Drive (s : State) : State :=
  let cap := msTicks 40
  if s.dstate = 6 then
    let s := s.enterD 7
    { s with cts := { s.cts with ramp := min cap (msTicks (min 1000 (s.ctsCfg false Reg.CTS_OPENCFG_TRAMP))) } }
  else if s.dstate = 7 then { s with cts := { s.cts with ramp := min s.cts.ramp (s.now - s.cts.since + cap) } }
  else if 2 ≤ s.dstate ∧ s.dstate ≤ 5 then s.posOpen 4 0
  else (if s.dstate = 1 then s.dropWeld.driveOpen else s).auxOpen 4

/-- Die stage 3 opens every role (Table 10.6, R211); in an output hold the sequencer takes no step. -/
def State.stage3Open (s : State) : State :=
  if s.ctsRuns then ({ s with cts := { s.cts with reason := 4 } } : State).stage3Drive else s

/-- The end of a watchdog hold: all role channels go off in one tick, under load or not, and both paths enter OPEN
(Table 10.6, R249). -/
def State.ctsHoldEnd (s : State) : State :=
  if s.isLead then (((s.loadOpened s.rolesOn).enterD 0).enterC 0).mapSync else s

/-! ### Commands -/

/-- The reasons of Table 10.2 that every close shares, in the order of their codes. `need`: the roles it needs. -/
def State.ctsRefusal (s : State) (need : List Nat) (pathOpen : Bool) : Option Nat :=
  if !s.flag Reg.CSC_STAT_ENUM then some 1
  else if s.get Reg.SAF_RSTAT_LATCH != 0 then some 2
  else if !pathOpen then some 3
  else if need.any (fun r => s.cts.map.getD r 0 == 0) || s.get Reg.CTS_PCMOD_RPC == 0 ||
      s.get Reg.CTS_PCMOD_CLINK == 0 || s.flag Reg.CTS_STAT_MAPPEND then some 4
  else none

/-- The further reasons of a close of a path. -/
def State.ctsRefusalClose (s : State) : Option Nat :=
  if s.csc.anchorBad then some 5
  else if s.flag Reg.CTS_STAT_HOLD then some 6
  else if 2 ≤ s.power.stage then some 7
  else if s.get Reg.SYS_PROFSTAT_PROF != 0 then some 8
  else none

/-- A refused command (R242). -/
def State.ctsRefuse (s : State) (code : Nat) : State :=
  (s.put Reg.CTS_STAT_REFUSE code).raise Ev.CTS_CLOSE_REFUSED

/-- Who may write `CTS.CTRL`: Pair A alone; the sequencer takes no command in an output hold nor on a follower
(R242, R253, Table 10.6). -/
def State.ctsCommand (s : State) (ini : Ini) (act : State → State) : State :=
  match ini with
  | .pairA => if s.ctsRuns then act s else s
  | _ => s.raise Ev.CTS_CMD_REFUSED

/-- The effect of DRIVE_CLOSE by Pair A. -/
def State.driveCloseCmd (s : State) : State :=
  let r := (s.ctsRefusal [0, 1, 2] (s.dstate == 0)).orElse fun _ => s.ctsRefusalClose.orElse fun _ =>
    if s.flag Reg.CTS_STAT_LOCKOUT || decide (s.now < s.cts.coolUntil) then some 11 else none
  match r with
  | some c => s.ctsRefuse c
  | none =>
    let s := { s with cts := { s.cts with reason := 1 } }
    ((s.enterD 1).submit 3).settle

/-- The effect of DRIVE_OPEN by Pair A (R245). -/
def State.driveOpenCmd (s : State) : State :=
  if s.dstate = 1 then s.dropWeld.driveOpen.settle
  else if 2 ≤ s.dstate ∧ s.dstate ≤ 5 then
    (((s.put Reg.CTS_PCRES_RESULT 5).put Reg.CTS_PCRES_TIME
      (min 65535 ((s.now - s.cts.pcAt) / 100000))).posOpen 1 0).settle
  else if s.dstate = 6 then
    let s := s.enterD 7
    { s with cts := { s.cts with ramp := msTicks (min 1000 (s.ctsCfg false Reg.CTS_OPENCFG_TRAMP)), reason := 1 } }
  else s

/-- The effect of CHARGE_CLOSE by Pair A. -/
def State.chargeCloseCmd (s : State) : State :=
  let r := (s.ctsRefusal [3, 4] (s.cstate == 0)).orElse fun _ => s.ctsRefusalClose.orElse fun _ =>
    if s.dstate != 6 then some 9 else if s.flag Reg.SAF_STAT_CHGFORB then some 10 else none
  match r with
  | some c => s.ctsRefuse c
  | none => ((s.enterC 1).submit 3).settle

/-- The effect of CHARGE_OPEN by Pair A (R251). -/
def State.chargeOpenCmd (s : State) : State :=
  if s.cstate = 1 ∨ s.cstate = 2 then s.dropWeld.chargeOpen.settle
  else if 3 ≤ s.cstate ∧ s.cstate ≤ 5 then (s.cpOpen 1).settle
  else if s.cstate = 6 then s.enterC 7
  else s

/-- DRIVE_CLOSE (R245). -/
def execDriveClose (ini : Ini) (s : State) : Result := .next (s.ctsCommand ini State.driveCloseCmd)

/-- DRIVE_OPEN (R245). -/
def execDriveOpen (ini : Ini) (s : State) : Result := .next (s.ctsCommand ini State.driveOpenCmd)

/-- CHARGE_CLOSE (R251). -/
def execChargeClose (ini : Ini) (s : State) : Result := .next (s.ctsCommand ini State.chargeCloseCmd)

/-- CHARGE_OPEN (R251). -/
def execChargeOpen (ini : Ini) (s : State) : Result := .next (s.ctsCommand ini State.chargeOpenCmd)

/-- AUX_ON (R242): refused for reasons 1, 2, 4 and 6. -/
def execAuxOn (ini : Ini) (s : State) : Result :=
  .next (s.ctsCommand ini fun s =>
    match (s.ctsRefusal [5] true).orElse fun _ => if s.flag Reg.CTS_STAT_HOLD then some 6 else none with
    | some c => s.ctsRefuse c
    | none => (s.setRole 5 true).settle)

/-- AUX_OFF (R242, R250): an AUX channel that was on leaves an opening record of reason 1. -/
def execAuxOff (ini : Ini) (s : State) : Result :=
  .next (s.ctsCommand ini fun s => (s.auxOpen 1).settle)

/-- FAULT_CLEAR (R247): LOCKOUT and the count of failures clear; the cool-down runs on. -/
def execFaultClear (ini : Ini) (s : State) : Result :=
  .next (s.ctsCommand ini fun s => (s.putB Reg.CTS_STAT_LOCKOUT false).put Reg.CTS_PCRES_FAILS 0)

/-- CTS_GRANT_TIMEOUT (R245, R282): 6 s in GRANT without the grant. -/
def execCtsGrantTimeout (s : State) : Result :=
  if !s.ctsRuns then .next s
  else if s.dstate = 1 then
    .next ((((s.advanceTo (s.cts.since + 600000000)).withdraw 3).driveOpen).raise Ev.CTS_GRANT_TIMEOUT).settle
  else if s.cstate = 1 then
    .next ((((s.advanceTo (s.cts.cSince + 600000000)).withdraw 3).chargeOpen).raise Ev.CTS_GRANT_TIMEOUT).settle
  else .next s

/-- PROBE_TIMER_END (R245, R248): the MN check and the PC contact check. -/
def execProbeTimerEnd (s : State) : Result :=
  if !s.ctsRuns || s.dstate != 2 then .next s
  else
    let s := s.advanceTo (s.cts.since + s.tProbe)
    if s.weldMA ≤ s.cts.probeMax then .next ((s.weldResult 1 2).posOpen 5 0).settle
    else if s.cts.v3 < s.cts.v1 - s.weldMV false then .next (s.pcFail 3).settle
    else .next (((s.setRole 2 false).setRole 1 true).enterD 3).settle

/-- The end of TCLOSE in NEGCLOSE: the PC and MP checks of R248. -/
def State.negCloseEnd (s : State) : State :=
  if s.cts.v1 - s.weldMV false ≤ s.cts.v3 then (s.weldResult 2 2).posOpen 5 0
  else if s.cts.v1 - s.weldMV false ≤ s.cts.v2 then (s.weldResult 0 2).posOpen 5 0
  else
    let s := ((s.weldResult 0 1).weldResult 1 1).weldResult 2 1
    let s := s.dropWeld
    let s := { s with cts := { s.cts with a0 := s.linkFraction } }
    ((if s.cts.v1 = 0 then s.nextFree else s).enterD 4).pcOn

/-- The end of TCLOSE in MAINCLOSE. -/
def State.mainCloseEnd (s : State) : State :=
  if s.cts.v1 - s.cts.v2 < s.weldMV false then ((s.setRole 2 false).enterD 6).raise Ev.CTS_CLOSED else s.pcFail 3

/-- The end of TCLOSE in CPCLOSE. -/
def State.cpCloseEnd (s : State) : State :=
  if ((s.cts.v4 - s.cts.v2).natAbs : Int) < s.weldMV true then (s.enterC 6).raise Ev.CTS_CHG_CLOSED
  else (s.cpOpen 5).raise Ev.CTS_MATCH_FAULT

/-- CLOSE_TIMER_END (R245, R251): TCLOSE elapses in NEGCLOSE, MAINCLOSE, CNCLOSE or CPCLOSE. -/
def execCloseTimerEnd (s : State) : Result :=
  if !s.ctsRuns then .next s
  else if s.dstate = 3 then .next (s.advanceTo (s.cts.since + s.tClose false)).negCloseEnd.settle
  else if s.dstate = 5 then .next (s.advanceTo (s.cts.since + s.tClose false)).mainCloseEnd.settle
  else if s.chargeCloses ∧ s.cstate = 3 then .next ((s.advanceTo (s.cts.cSince + s.tClose true)).enterC 4)
  else if s.chargeCloses ∧ s.cstate = 5 then .next (s.advanceTo (s.cts.cSince + s.tClose true)).cpCloseEnd.settle
  else .next s

/-- The end of TGAP on the drive path: the MP open check, then MN and CN open (Table 10.3). -/
def State.driveGapEnd (s : State) : State :=
  let s := s.advanceTo (s.cts.since + s.tGap false)
  let s := if s.weldMV false ≤ s.cts.v1 - s.cts.v2 then s.weldResult 0 1 else s.raise Ev.CTS_WELD_UNDECIDED
  let s := s.setRoles [1, 4] false
  let s := if s.cstate = 0 then s else s.enterC 0
  (s.driveOpen.raise Ev.CTS_OPENED).settle

/-- The end of TGAP on the charge path: CN opens (Table 10.5). -/
def State.chargeGapEnd (s : State) : State :=
  ((((s.advanceTo (s.cts.cSince + s.tGap true)).setRole 4 false).chargeOpen).raise Ev.CTS_CHG_OPENED).settle

/-- Of two timers of the paths the one that ends first: the drive's, if it runs and the charge's does not end before or with
it. -/
def driveFirst (drive charge : Bool) (dEnd cEnd : Nat) : Bool := drive && !(charge && decide (cEnd ≤ dEnd))

/-- GAP_TIMER_END (R245, R248, R251): the next TGAP of a path in POSOPEN or CPOPEN elapses. -/
def execGapTimerEnd (s : State) : Result :=
  let d := s.dstate == 8
  let c := s.cstate == 8
  if !s.ctsRuns then .next s
  else if driveFirst d c (s.cts.since + s.tGap false) (s.cts.cSince + s.tGap true) then .next s.driveGapEnd
  else if c then .next s.chargeGapEnd
  else .next s

/-- TRAMP of the charge path in ticks. -/
def State.chargeRamp (s : State) : Nat := msTicks (min 1000 (s.ctsCfg true Reg.CTS_OPENCFG_TRAMP))

/-- RAMP_TIMER_END (R245, R251): the next TRAMP of a path in RAMP elapses. -/
def execRampTimerEnd (s : State) : Result :=
  let d := s.dstate == 7
  let c := s.chargeLive && s.cstate == 7
  if !s.ctsRuns then .next s
  else if driveFirst d c (s.cts.since + s.cts.ramp) (s.cts.cSince + s.chargeRamp) then
    .next ((s.advanceTo (s.cts.since + s.cts.ramp)).posOpen s.cts.reason 0).settle
  else if c then .next ((s.advanceTo (s.cts.cSince + s.chargeRamp)).cpOpen 1).settle
  else .next s

/-- MATCH_TIMER_END (R251): TMATCH elapses in MATCH. -/
def execMatchTimerEnd (s : State) : Result :=
  if s.ctsRuns ∧ s.chargeLive ∧ s.cstate = 4 then
    let t := msTicks (clampN 100 60000 (s.ctsCfg true Reg.CTS_CHGCFG_TMATCH))
    .next (((s.advanceTo (s.cts.cSince + t)).cpOpen 5).raise Ev.CTS_MATCH_FAULT).settle
  else .next s

/-- COOLDOWN_END (R247): TCOOL has elapsed; a drive close is no longer refused for it. -/
def execCooldownEnd (s : State) : Result :=
  if s.ctsRuns then .next (s.advanceTo s.cts.coolUntil) else .next s

/-- The drive path's use of a sample at tick `t` (Table 10.3, R246, R248). -/
def State.driveSample (s : State) (t : Nat) : State :=
  if s.dstate = 2 ∧ s.cts.since ≤ t then
    { s with cts := { s.cts with probeMax := max s.cts.probeMax s.cts.i1.natAbs } }
  else if s.dstate = 4 ∧ s.cts.pcAt ≤ t then s.precharge t
  else if s.dstate = 7 then
    let n := if (s.cts.i1.natAbs : Int) ≤ s.openMA false then s.cts.low + 1 else 0
    let s := { s with cts := { s.cts with low := n } }
    if 2 ≤ n then s.posOpen s.cts.reason 0 else s
  else s

/-- The charge path's use of a sample (Table 10.5); it closes only while the drive path is CLOSED (R251). -/
def State.chargeSample (s : State) : State :=
  if !s.chargeLive then s
  else if s.chargeCloses ∧ s.cstate = 2 then s.cpCheck
  else if s.chargeCloses ∧ s.cstate = 4 then
    let ok := ((s.cts.v4 - s.cts.v2).natAbs : Int) ≤ 100 * clampN 1 1000 (s.ctsCfg true Reg.CTS_CHGCFG_CMATCH)
    let n := if ok then s.cts.matchN + 1 else 0
    let s := { s with cts := { s.cts with matchN := n } }
    if 10 ≤ n then (s.enterC 5).setRole 3 true else s
  else if s.cstate = 7 then
    let n := if (s.cts.i1.natAbs : Int) ≤ s.openMA true then s.cts.cLow + 1 else 0
    let s := { s with cts := { s.cts with cLow := n } }
    if 2 ≤ n then s.cpOpen 1 else s
  else s

/-- CTS_SAMPLE (R243): the anchor's sample of an instant reaches the sequencer, on an anchor lead 2,000 ticks after it. One
that arrives more than 50,000 ticks after it is not used. In an output hold it only counts toward the early end (R411). -/
def execCtsSample (v1 v2 v3 v4 ish1 : Int) (offset : Nat) (s : State) : Result :=
  if !s.isLead || !s.alive then .next s
  else
    let t := if s.isAnchor || s.fstart + offset ≤ s.now then s.fstart + offset else s.fstart + offset - 1000000
    let s := if s.isAnchor then s.advanceTo (t + 2000) else s
    if t + 50000 < s.now then .next s
    else if s.power.holdAt.isSome then
      let low := decide ((ish1.natAbs : Int) ≤ 100 * s.get Reg.CTS_OPENCFG_IOPEN)
      .next { s with cts := { s.cts with i1 := ish1, earlyN := if low then s.cts.earlyN + 1 else 0 } }
    else
      let s := { s with cts := { s.cts with 
        v2p := s.cts.v2, v2ok := s.cts.miss == 0, v1, v2, v3, v4, i1 := ish1, miss := 0 } }
      .next (s.driveSample t).chargeSample.settle

/-- CTS_SAMPLE_MISSING (R243): a sample has not arrived 50,000 ticks after its instant; two in a row end a closing
sequence. -/
def execCtsSampleMissing (s : State) : Result :=
  if !s.isLead || !s.alive then .next s
  else
    let s := s.advanceTo (s.fstart + (s.now - s.fstart + 49999) / 100000 * 100000 + 50000)
    if s.power.holdAt.isSome then .next { s with cts := { s.cts with earlyN := 0 } }
    else
    let n := s.cts.miss + 1
    let s := { s with cts := { s.cts with miss := n } }
    if 2 ≤ n then .next s.dataLost.settle else .next s

end Sys2Proof.Machine
end

