-- ==== Sys2Proof/Machine/Isolation.lean ====
section
/-!
DEFINITION. The isolation measurement on the anchor (R114 to R122): its states and result, and its commands.
-/
namespace Sys2Proof.Machine

/-- The mean of a list of rationals; 0 of an empty list. -/
def meanQ (l : List Rat) : Rat := if l.isEmpty then 0 else l.foldl (· + ·) 0 / (l.length : Nat)

/-- Mean of a over the last 10 frames, and over the 10 before them (R116). -/
def State.isoMean (s : State) : Rat := meanQ (s.iso.hist.take 10)
def State.isoMeanBefore (s : State) : Rat := meanQ ((s.iso.hist.drop 10).take 10)

/-- The anchor asks for the activity: through the lead's matrix when it is the lead, on its own when it is a follower
(R114, R281, assumption 13). -/
def State.requestIso (s : State) : State :=
  if s.isLead then s.askAll 2 else ({ s with iso := { s.iso with asked := true } } : State).submit 2

/-- A state of the run ends (R116): its mean is taken and its switch opens; the result window follows the second. -/
def State.isoStateEnd (s : State) : State :=
  if s.iso.phase = 1 then
    let s := { s with iso := { s.iso with a1 := s.isoMean, isoA := false, phase := 2, since := s.now, frames := 0, low := 0 } }
    s.put Reg.HVM_ISOSTAT_PHASE 0
  else if s.iso.phase = 3 then
    let s := { s with iso := { s.iso with a2 := s.isoMean, isoB := false, phase := 4, eb := s.now, low := 0 } }
    s.put Reg.HVM_ISOSTAT_PHASE 0
  else s

/-- A frame of the run has ended (R116): from the 50th on, a settled mean ends the state. -/
def State.isoBoundary (s : State) : State :=
  if s.iso.phase = 1 ∨ s.iso.phase = 2 ∨ s.iso.phase = 3 then
    let s := { s with iso := { s.iso with frames := s.iso.frames + 1 } }
    if 50 ≤ s.iso.frames ∧ absQ (s.isoMean - s.isoMeanBefore) < 5 / 10000 then s.isoStateEnd else s
  else s

/-- A resistance in kΩ as coded (R118). -/
def isoCode (r : Rat) : Nat := if r < 10 then 0 else if 50000 < r then 0xFFFF else (roundQ r).toNat

/-- The result of R117: G_P, G_NT in 1/kΩ, none where a divisor is zero. -/
def State.isoConduct (s : State) : Option (Rat × Rat) :=
  let ga : Rat := 1 / (clampN 200 1000 (s.get Reg.HVM_ISORA_KOHM) : Nat)
  let gb : Rat := 1 / (clampN 200 1000 (s.get Reg.HVM_ISORB_KOHM) : Nat)
  let a1 := s.iso.a1
  let a2 := s.iso.a2
  if a1 - a2 = 0 ∨ a1 = 0 then none
  else
    let gp := (a2 * (1 - a1) * ga + a1 * a2 * gb) / (a1 - a2)
    some (gp, (1 - a1) * (gp + ga) / a1)

/-- R_P and R_N in kΩ (R117); where the formula divides by zero the manual states none: a free value. -/
def State.isoResistances (s : State) : Rat × Rat :=
  let gm : Rat := 1 / (clampN 1000 50000 (s.get Reg.HVM_ISORM_KOHM) : Nat)
  match s.isoConduct with
  | none => (s.freeQ 0, s.freeQ 1)
  | some (gp, gnt) => (if gp = 0 then s.freeQ 0 else 1 / gp, if gnt - gm = 0 then s.freeQ 1 else 1 / (gnt - gm))

/-- The prediction of a_0 agrees (R117); with no prediction the answer is free. -/
def State.isoConsistent (s : State) : Bool :=
  match s.isoConduct with
  | none => s.freeB
  | some (gp, gnt) => if gp + gnt = 0 then s.freeB else decide (absQ (gp / (gp + gnt) - s.iso.a0) < 5 / 1000)

/-- The completed run (R117 to R120). -/
def State.isoResult (s : State) : State :=
  let (rp, rn) := s.isoResistances
  let ok := s.isoConsistent
  let s := ((s.put Reg.HVM_ISORES_RP (isoCode rp)).put Reg.HVM_ISORES_RN (isoCode rn)).nextFree
  let s := (s.putB Reg.HVM_ISOSTAT_INCONS (!ok)).raiseIf (!ok) Ev.HVM_ISO_SWITCH
  let good := ok && !s.flag Reg.HVM_ISOSTAT_UNSETTLED
  let hit := fun (f : Fld) => good && decide (min rp rn ≤ ((s.get f : Nat) : Rat))
  let warn := hit Reg.HVM_ISOTHR_WARN
  let fault := hit Reg.HVM_ISOTHR_FAULT
  let s := (s.raiseIf warn Ev.HVM_ISO_WARN).raiseIf fault Ev.HVM_ISO_FAULT
  ((s.put Reg.HVM_ISOSTAT_STATE 2).put Reg.HVM_ISOTICK_TICK s.tick).raise Ev.HVM_ISO_DONE

/-! ### Commands -/

/-- ISOLATION_REQUEST (R114): on the anchor a request reaches the exclusion matrix; elsewhere it has no effect. -/
def execIsolationRequest (_ini : Ini) (s : State) : Result :=
  if s.isAnchor then .next s.requestIso.settle else .next s

/-- ISOLATION_RUN_START (R116): at G the anchor takes a_0 and turns ISO_A on; below 100 V the run is incomplete
(R121). -/
def execIsolationRunStart (s : State) : Result :=
  match s.iso.g with
  | none => .next s
  | some g =>
    if s.isAnchor ∧ s.iso.phase = 0 then
      let s := s.advanceTo g
      let s := { s with iso := { s.iso with
        g := none, phase := 1, a0 := s.isoMean, isoA := true, isoB := false, onAt := s.now, since := s.now,
        frames := 0, low := 0 } }
      let s := ((s.put Reg.HVM_ISOSTAT_STATE 1).put Reg.HVM_ISOSTAT_PHASE 1).putB Reg.HVM_STAT_ISORUN true
      let s := (s.putB Reg.HVM_ISOSTAT_INCONS false).putB Reg.HVM_ISOSTAT_UNSETTLED false
      if s.getI Reg.HVM_VOLT_MV < 100000 then .next (s.isoIncomplete true).settle else .next s
    else .next s

/-- ISOLATION_STATE_TIMEOUT (R116): a state ends at its 240th frame with UNSETTLED set. -/
def execIsolationStateTimeout (s : State) : Result :=
  if 240 ≤ s.iso.frames ∧ (s.iso.phase = 1 ∨ s.iso.phase = 3) then
    .next (s.putB Reg.HVM_ISOSTAT_UNSETTLED true).isoStateEnd
  else .next s

/-- ISO_B_ENGAGE (R116): 10,000 ticks after ISO_A opens, ISO_B is turned on. -/
def execIsoBEngage (s : State) : Result :=
  if s.iso.phase = 2 then
    let s := s.advanceTo (s.iso.since + 10000)
    .next ({ s with iso := { s.iso with phase := 3, isoB := true, onAt := s.now } }.put Reg.HVM_ISOSTAT_PHASE 2)
  else .next s

/-- ISOLATION_RESULT (R117, R120): at E_B + 2,000,000 the result is computed and the run's grant released. -/
def execIsolationResult (s : State) : Result :=
  if s.iso.phase = 4 then
    .next ((((s.advanceTo (s.iso.eb + 2000000)).isoResult).isoIdle).releaseIso).settle
  else .next s

end Sys2Proof.Machine
end

