-- ==== Sys2Proof/Machine/Impedance.lean ====
section
/-!
DEFINITION. The impedance engine (R176 to R197): accumulation over a window, the excitation sources and the charger
handshake, results, confidence and internal temperature, and the commands of the EIS block.
-/
namespace Sys2Proof.Machine

/-- Insert or replace an entry of an association list sorted by key. -/
def aput {α : Type} (k : Nat) (v : α) : List (Nat × α) → List (Nat × α)
  | [] => [(k, v)]
  | (k', v') :: m => if k < k' then (k, v) :: (k', v') :: m else if k = k' then (k, v) :: m else (k', v') :: aput k v m

/-- The entry at a key. -/
def aget {α : Type} (k : Nat) (m : List (Nat × α)) : Option α := (m.find? (·.1 == k)).map (·.2)

/-- The global index of channel index `i` of this device (R136). -/
def State.globalCell (s : State) (i : Nat) : Nat := 48 * s.get Reg.SYS_PROFSTAT_DEVNUM + i

/-! ### Accumulation (R179) -/

/-- Add one sample `x` at the point and at its side bins; the angle of each is in turns of the reference phase. -/
def Phasor.add (p : Phasor) (x t lo hi : Rat) : Phasor :=
  { re := p.re + x * cosR t, im := p.im - x * sinR t,
    lre := p.lre + x * cosR lo, lim := p.lim - x * sinR lo,
    ure := p.ure + x * cosR hi, uim := p.uim - x * sinR hi }

/-- Sum of two phasors. -/
def Phasor.plus (p q : Phasor) : Phasor :=
  { re := p.re + q.re, im := p.im + q.im, lre := p.lre + q.lre, lim := p.lim + q.lim, ure := p.ure + q.ure,
    uim := p.uim + q.uim }

/-- A phasor scaled by a real factor. -/
def Phasor.scale (p : Phasor) (k : Rat) : Phasor :=
  { re := k * p.re, im := k * p.im, lre := k * p.lre, lim := k * p.lim, ure := k * p.ure, uim := k * p.uim }

/-- The modulus of a complex number. -/
def modulus (re im : Rat) : Rat := sqrtR (re * re + im * im)

/-- Accumulate the sample set of instant `t` (model time): the device's populated cells in V and, on the anchor, ISH1
in A. `sats` are the channels with SAT. With CYC = 1 only the upper side bin is used. -/
def State.eisAccumulate (s : State) (t : Nat) (cells : List (Int × Bool)) (curMA : Int) (curSat : Bool) : State :=
  if s.eis.phase ≠ 3 ∨ t < s.eis.b ∨ s.eis.e ≤ t then s
  else
    let p := s.get Reg.EIS_STAT_POINT
    let per := fun (c : Nat) => ((c * (t - s.eis.b) : Nat) : Rat) / (s.eisFrm p * 1000000 : Nat)
    let a := per (s.eisCyc p)
    let lo := per (s.eisCyc p - 1)
    let hi := per (s.eisCyc p + 1)
    let vs := cells.map fun c => ((c.1 : Rat) / 1000000)
    let sats := bitsOf (cells.map (·.2))
    { s with eis := { s.eis with
      m := s.eis.m + 1,
      cells := (s.eis.cells.zip vs).map fun c => Phasor.add c.1 c.2 a lo hi,
      mean := (s.eis.mean.zip vs).map fun c => c.1 + c.2,
      cur := if s.isAnchor then Phasor.add s.eis.cur ((curMA : Rat) / 1000) a lo hi else s.eis.cur,
      sat := s.eis.sat ||| sats, satI := s.eis.satI || (s.isAnchor && curSat),
      unsync := s.eis.unsync || s.csc.unsync } }

/-- A sample set of the window was discarded or missing (R190). -/
def State.eisGap (s : State) : State :=
  if s.eis.phase = 3 then { s with eis := { s.eis with gap := true } } else s

/-! ### Sources (R182 to R186) -/

/-- The charger answers as the last take of the mailbox holds it (R184, Table 16.4). -/
def State.ackActive (s : State) : Bool := (s.get (Reg.HST_MB_DATA.at 2)).testBit 15
def State.ackSeq (s : State) : Nat := s.get (Reg.HST_MB_DATA.at 2) % 256
def State.ackAmpl (s : State) : Nat := s.get (Reg.HST_MB_DATA.at 3)

/-- The channels modulated in balancing pass `k`: every third, with both neighbours populated (R186). -/
def State.passMask (s : State) (k : Nat) : Nat :=
  bitsOf ((List.range 48).map fun i =>
    (i + 1) % 3 == (k + 1) % 3 && i != 0 && i != 47 && s.populated.testBit (i - 1) && s.populated.testBit i &&
      s.populated.testBit (i + 1))

/-- The window starts at the boundary `b` with source `src` (R177, R179, R186). -/
def State.eisOpen (s : State) (src b : Nat) : State :=
  let p := s.get Reg.EIS_STAT_POINT
  let pass := s.get Reg.EIS_STAT_PASS
  let frm := s.eisFrm p
  let later := src == 2 && pass != 0
  let s : State := { s with
    eis := { s.eis with
      phase := 3, plan := none, accepted := false, b, e := b + 1000000 * frm, frame := s.frame,
      m := 0, cells := List.replicate 48 {}, cur := {}, mean := List.replicate 48 0, sat := 0, satI := false,
      unsync := false, gap := false, gapDev := if later then s.eis.gapDev else 0, gotI := false, done := 0,
      new := if later then s.eis.new else [] }
    thm := { s.thm with tcWin := if later then s.thm.tcWin else [] } }
  let s : State := if src = 2 then { s with bal := { s.bal with modul :=
      { mask := s.passMask pass, b, e := b + 1000000 * frm, cyc := s.eisCyc p, frm } } } else s
  (s.put Reg.EIS_STAT_SRC src).showSwitches

/-- The lead's start of a point at a boundary with the source that it has planned (R182, R184). A charger that is still in STOP
from the point before is awaited (assumption 110); one that is no longer available gives way to the next source, which starts at the
next boundary. -/
def State.eisStart (s : State) (src : Nat) : State :=
  if src = 0 then s.eisSkip (if s.eis.refused then 3 else 1)
  else if src ≠ 1 then s.eisOpen src s.fstart
  else if s.eis.req ≠ 0 then s
  else if s.get Reg.EIS_EXCCFG_AMAX ≠ 0 ∧ 10 ≤ s.requestAmp then
    let s := { s with eis := { s.eis with
      phase := 2, plan := none, accepted := false, left := bitTo s.eis.left 0 false, req := 1,
      reqSeq := (s.eis.reqSeq + 1) % 256, amp := s.requestAmp.toNat,
      start := s.frame + 1 + clampN 3 255 (s.get Reg.EIS_EXCCFG_LEAD) } }
    s.eisExc
  else ({ s with eis := { s.eis with plan := none } }).eisPlan

/-- The boundary START − 1 (Table 7.3): the charger's answer is accepted, and every follower learns the window; or it is
refused, and the point passes on to the next permitted source. -/
def State.eisAnswer (s : State) : State :=
  if s.ackSeq = s.eis.reqSeq ∧ 10 ≤ s.ackAmpl ∧ s.ackActive then
    ({ s with eis := { s.eis with ackAmp := s.ackAmpl, accepted := true } }).eisTell 1
  else
    let s := s.raise Ev.EIS_EXC_REFUSED
    let s := ({ s with eis := { s.eis with req := 0, refused := true, phase := 1 } }).eisExc
    if s.eis.left &&& 6 = 0 then s.eisSkip 3 else s.eisPlan

/-- The lead's part at a frame boundary (R182, R184, R192): the start of a point once every device has granted, the
charger handshake, ACTIVE lost in RUN, and the return of REQSTATE to IDLE. -/
def State.eisLeadBoundary (s : State) : State :=
  let s := if s.eis.req = 3 ∧ ¬ s.ackActive then { s with eis := { s.eis with req := 0 } }.eisExc else s
  if s.eis.phase = 1 ∨ s.eis.phase = 5 then
    match s.eis.plan with
    | some src => s.eisStart src
    | none => s.eisPlan
  else if s.eis.phase = 2 ∧ s.eis.req = 1 ∧ (s.frame + 1) % 2 ^ 32 = s.eis.start % 2 ^ 32 then s.eisAnswer
  else if s.eis.phase = 2 ∧ s.eis.accepted ∧ s.frame = s.eis.start % 2 ^ 32 then
    ({ s with eis := { s.eis with req := 2 } }.eisOpen 1 s.fstart).eisExc
  else if s.eis.phase = 3 ∧ s.eis.req = 2 ∧ ¬ s.ackActive then s.eisAbort.eisExc
  else s

/-- A follower opens its window at the boundary that the lead has named (R281). -/
def State.eisFollow (s : State) : State :=
  match s.eis.plan with
  | some src =>
    if s.frame % 65536 = s.eis.planFrame then
      let s := (s.put Reg.EIS_STAT_POINT (s.eis.planArg % 8)).put Reg.EIS_STAT_PASS (s.eis.planArg / 8 % 4)
      s.eisOpen src s.fstart
    else s
  | none => s

/-- The engine's part at a frame boundary. -/
def State.eisBoundary (s : State) : State := if s.isLead then s.eisLeadBoundary else s.eisFollow

/-- REQSTATE as the lead writes it into the back buffer, which the coming flip publishes (R184, Table 7.3): RUN for the boundary
START, STOP for the boundary E. -/
def State.eisShownReq (s : State) : Nat :=
  if s.eis.req = 1 ∧ s.eis.accepted then 2
  else if s.eis.req = 2 ∧ s.eis.phase = 3 ∧ s.eis.e ≤ s.fstart + 1000000 then 3
  else s.eis.req

/-! ### Results (R180, R181, R187, R189, R190) -/

/-- The gain and phase of the decimation filter in force at frequency `f` as a complex number (R72, Table 3.1). -/
def filterResponse (fast : Bool) (f : Rat) : Rat × Rat :=
  let d : Rat := if fast then 1000 else 6250
  let r := sinR (f * d / 50000000) / (d * sinR (f / 50000000))
  let g := r * r * r
  let turns := f * (if fast then 6000 else 37500) / 100000000
  (g * cosR turns, -(g * sinR turns))

/-- CONF of R190 from the signal amplitudes and the larger side-bin amplitudes; a free value where an amplitude is 0. -/
def confOf (free : Nat) (v nv i ni : Rat) : Nat :=
  if v = 0 ∨ i = 0 then free % 101
  else (clampQ 0 100 (100 - 1000 * sqrtR ((nv / v) * (nv / v) + (ni / i) * (ni / i)))).floor.toNat

/-- A result from its impedance in Ω (R189): the phase wraps to [−180.00°, +179.99°], a flag forces CONF to 0. -/
def eisResOf (re im : Rat) (conf flags src frame : Nat) : EisRes :=
  let a := roundQ (atan2Deg im re * 100)
  { re, im, mag := min 16777215 (roundQ (modulus re im * 100000000)).toNat,
    ph := if 18000 ≤ a then a - 36000 else a, conf := if flags = 0 then conf else 0, flags, src, frame }

/-- One impedance result from voltage phasor `v` (scaled) and current `(ire, iim)` with side amplitude `ni`. -/
def State.eisFormZ (s : State) (i : Nat) (v : Phasor) (ire iim ni : Rat) (satCell : Bool) : EisRes :=
  let p := s.get Reg.EIS_STAT_POINT
  let src := s.get Reg.EIS_STAT_SRC
  let d := ire * ire + iim * iim
  let re := if d = 0 then s.freeQ (2 * i) else (v.re * ire + v.im * iim) / d
  let im := if d = 0 then s.freeQ (2 * i + 1) else (v.im * ire - v.re * iim) / d
  let lower := if s.eisCyc p = 1 then 0 else modulus v.lre v.lim
  let upper := modulus v.ure v.uim
  let flags := bitsOf [s.eis.gap, false, s.eis.unsync, satCell || s.eis.satI]
  let conf := confOf (s.freeN / 101 ^ i) (modulus v.re v.im) (if lower < upper then upper else lower) (modulus ire iim) ni
  eisResOf re im conf flags src (s.eis.frame % 2 ^ 32)

/-- SAT of a channel or of its neighbours. -/
def nearSat (m i : Nat) : Bool := m.testBit i || m.testBit (i + 1) || (i != 0 && m.testBit (i - 1))

/-- The result of channel `i` (R181 for a pack current, R187 for the balancing modulation). -/
def State.eisCellResult (s : State) (i : Nat) : EisRes :=
  let k : Rat := if s.eis.m = 0 then 0 else 2 / (s.eis.m : Nat)
  let c := fun j => (s.eis.cells.getD j {}).scale k
  if s.get Reg.EIS_STAT_SRC = 2 then
    let v := ((c (i - 1)).plus (c i)).plus (c (i + 1))
    let mean := s.eis.mean.getD i 0 * k / 2
    let rbal : Rat := (clampN 50 65535 (s.get Reg.BAL_CFG_RBAL) : Nat) / 10
    let amp := -(2 / piR) * mean / rbal
    let h := filterResponse s.fast (s.eisFreq (s.get Reg.EIS_STAT_POINT))
    s.eisFormZ i v (amp * h.1) (amp * h.2) 0 (nearSat s.eis.sat i)
  else
    let ni := if s.eis.i.lre < s.eis.i.ure then s.eis.i.ure else s.eis.i.lre
    s.eisFormZ i (c i) s.eis.i.re s.eis.i.im ni (nearSat s.eis.sat i)

/-- Form the results of the device's own cells: the modulated ones of the pass, or every populated one. -/
def State.eisForm (s : State) : State :=
  let p := s.get Reg.EIS_STAT_POINT
  let m := if s.get Reg.EIS_STAT_SRC = 2 then s.passMask (s.get Reg.EIS_STAT_PASS) else s.populated
  let new := (List.range 48).foldl (fun l i =>
    if m.testBit i then aput (8 * s.globalCell i + p) (s.eisCellResult i) l else l) s.eis.new
  { s with eis := { s.eis with new } }.nextFree

/-- The anchor's current phasor of the window, with its side-bin amplitudes in `lre` and `ure` (R180 step 1). -/
def State.eisOwnPhasor (s : State) : Phasor :=
  let k : Rat := if s.eis.m = 0 then 0 else 2 / (s.eis.m : Nat)
  let c := s.eis.cur.scale k
  let lo := if s.eisCyc (s.get Reg.EIS_STAT_POINT) = 1 then 0 else modulus c.lre c.lim
  { re := c.re, im := c.im, lre := lo, ure := modulus c.ure c.uim }

/-- The flags of this anchor's window that reach every result: SAT of ISH1 8, UNSYNC 4, GAP 1 (R190). -/
def State.eisFlags (s : State) : Nat := bitsOf [s.eis.gap, false, s.eis.unsync, s.eis.satI]

/-- The current phasor of the point, with the flags of the anchor's window, is known to this device; the lead forwards it (R180
step 2, R190). -/
def State.eisGotPhasor (s : State) (i : Phasor) (flags : Nat) : State :=
  let s := { s with eis := { s.eis with
    i, gotI := true, satI := s.eis.satI || flags.testBit 3, unsync := s.eis.unsync || flags.testBit 2,
    gap := s.eis.gap || flags.testBit 0 } }
  if s.isLead ∧ s.followers ≠ 0 then s.send (.access (.phasor i.re i.im i.lre i.ure flags)) 8 0 0 else s

/-- A drive current below IMIN (R188). -/
def State.eisNoDrive (s : State) : Bool :=
  s.get Reg.EIS_STAT_SRC == 3 && s.eis.gotI &&
    decide (modulus s.eis.i.re s.eis.i.im < (clampN 1 65535 (s.get Reg.EIS_OPPCFG_IMIN) : Nat) / 10)

/-- The point ends with reason 5, and with it a run in which no point has completed (R180, Table 7.2). -/
def State.eisIncomplete (s : State) : State :=
  let s := s.eisStopRequest.eisExc
  if s.eis.okPoints = 0 then (s.eisSkipRecord 5).eisSweepOver else s.eisSkip 5

/-- A result enters the result memory (R189). -/
def State.eisStore (s : State) (l : List (Nat × EisRes)) : State :=
  { s with eis := { s.eis with res := l.foldl (fun m r => aput r.1 r.2 m) s.eis.res } }

/-- The impedance temperature in °C against a reference (R191); a free value where the formula divides by zero. -/
def tzOf (free : Rat) (b : Nat) (r : EisRef) (re rho : Rat) : Rat :=
  let inv := 1 / (r.t + 27315 / 100) + lnR (re * r.rho / (rho * r.re)) / (b : Nat)
  if r.t + 27315 / 100 = 0 ∨ rho * r.re = 0 ∨ inv = 0 then free else 1 / inv - 27315 / 100

/-- T_C of a cell in the thermal-model run of the window that began with frame `n` (R209). -/
def State.windowCore (s : State) (n cell : Nat) : Option Rat :=
  (s.thm.tcWin.find? (·.1 == n)).bind fun w => w.2[cell]?

/-- One confident result of the TFREQ point: the reference after TCAL, and T_Z (R191). Without a thermal-model run the
core temperature is a free value. -/
def State.eisTemp (s : State) (cell : Nat) (r : EisRes) : State :=
  let c := s.est.cells.getD cell {}
  let t := s.thm.tc.getD cell (s.freeQ cell)
  let s := s.nextFree
  if r.conf < min 100 (s.get Reg.EIS_CONFCFG_CONFMIN) then
    { s with eis := { s.eis with tz := s.eis.tz.filter (·.1 != cell) } }
  else
    let ref : EisRef := { re := r.re, t, rho := c.rho, z := c.z }
    let s := if s.eis.tcal.testBit cell then
        { s with eis := { s.eis with
          ref := aput cell ref s.eis.ref, tcal := bitTo s.eis.tcal cell false, refDue := true } } else s
    match aget cell s.eis.ref with
    | none => s
    | some f =>
      if absQ (c.z - f.z) ≤ 30 / 100 then
        let tz := tzOf (s.freeQ (1000 + cell)) (clampN 500 20000 (s.get Reg.EIS_TCFG_B)) f r.re c.rho
        { s with eis := { s.eis with tz := aput cell (tz, s.windowCore r.frame cell) s.eis.tz } }
      else { s with eis := { s.eis with tz := s.eis.tz.filter (·.1 != cell) } }

/-- References that wait are written to data MRAM once the energy permits (R325). -/
def State.refSave (s : State) : State :=
  if s.eis.refDue ∧ 1200 ≤ s.get Reg.PWR_HOLDE_UJ then
    { s with eis := { s.eis with refDue := false }, ret := { s.ret with refs := s.eis.ref } }
  else s

/-- A charger point whose current lies outside 50 % to 150 % of ACKAMP: LOWEXC in every result (R185). -/
def State.eisLowExc (s : State) : Bool :=
  s.get Reg.EIS_STAT_SRC == 1 &&
    (let i := modulus s.eis.i.re s.eis.i.im
     let a : Rat := (s.eis.ackAmp : Nat) / 10
     decide (i < a / 2) || decide (3 * a / 2 < i))

/-- Results with the flags that only the lead knows: LOWEXC of every result (R185), GAP of those of the devices of a mask, of
which a set was missing (R131, R190). -/
def eisMark (flags : Nat) (l : List (Nat × EisRes)) : List (Nat × EisRes) :=
  l.map fun r =>
    let f := r.2.flags ||| bitsOf [flags.testBit (1 + r.1 / 384), flags.testBit 0]
    (r.1, { r.2 with flags := f, conf := if f = 0 then r.2.conf else 0 })

/-- The devices whose results carry GAP: those of which a set was missing, and every device when it was one of the anchor's. -/
def State.eisGapAll (s : State) : Nat :=
  let anchor := if s.isAnchor then 0 else match s.anchorRecord with
    | some r => r.dev
    | none => 8
  if s.eis.gapDev.testBit anchor ∧ s.get Reg.EIS_STAT_SRC ≠ 2 then 255 else s.eis.gapDev

/-- The point has completed on the lead (R180 step 5, R185, R189 to R191). -/
def State.eisComplete (s : State) : State :=
  let p := s.get Reg.EIS_STAT_POINT
  let low := s.eisLowExc
  let new := eisMark (low.toNat + 2 * s.eisGapAll) s.eis.new
  let s := (s.raiseIf low Ev.EIS_EXC_FAULT).eisStore new
  let s := (s.incSat Reg.EIS_SWSTAT_DONE).raise Ev.EIS_POINT_DONE
  let min_ := min 100 (s.get Reg.EIS_CONFCFG_CONFMIN)
  let s := s.raiseIf (new.any fun r => decide (r.2.conf < min_)) Ev.EIS_LOW_CONF
  let s := if p = s.get Reg.EIS_PLAN_TFREQ ∧ p < s.eisPoints then
      (new.foldl (fun s r => s.eisTemp (r.1 / 8) r.2) s).refSave
    else s
  { s with eis := { s.eis with okPoints := s.eis.okPoints + 1 } }.eisNext 1 (low.toNat + 2 * s.eisGapAll)

/-- `EIS.RMAG` to `RREF` show the selected result (R196). -/
def State.eisShow (s : State) (point cell : Nat) : State :=
  let r := aget (8 * cell + point) s.eis.res
  let own := s.isLead || (48 * s.get Reg.SYS_PROFSTAT_DEVNUM ≤ cell && cell < 48 * s.get Reg.SYS_PROFSTAT_DEVNUM + 48)
  let s := match (if own then r else none) with
    | some r => ((((((s.putB Reg.EIS_RMAG_VALID true).put Reg.EIS_RMAG_MAG r.mag).putI Reg.EIS_RPH_PH r.ph).put
        Reg.EIS_RCONF_SRC r.src).put Reg.EIS_RCONF_FLAGS r.flags).put Reg.EIS_RCONF_CONF r.conf).put
        Reg.EIS_RFRAME_FRAME r.frame
    | none => (((s.setWord Reg.EIS_RMAG 0).setWord Reg.EIS_RPH 0).setWord Reg.EIS_RCONF 0).setWord Reg.EIS_RFRAME 0
  let s := match (if own then aget cell s.eis.tz else none) with
    | some t => (s.putB Reg.EIS_RTZ_VALID true).putSatI Reg.EIS_RTZ_TZ (roundQ (t.1 * 10))
    | none => s.setWord Reg.EIS_RTZ 0
  match (if own then aget cell s.eis.ref else none) with
  | some f => (s.putB Reg.EIS_RREF_VALID true).putSat Reg.EIS_RREF_RE (roundQ (f.re * 100000000)).toNat
  | none => s.setWord Reg.EIS_RREF 0

/-! ### Commands -/

/-- Start a sweep on the lead in Run (R178); a sweep in progress goes on. -/
def State.eisSweepStart (s : State) : State :=
  if s.isLead ∧ s.get Reg.SYS_PROFSTAT_PROF = 0 ∧ ¬ s.flag Reg.EIS_STAT_SWEEP then
    let s := (s.putB Reg.EIS_STAT_SWEEP true).put Reg.EIS_STAT_POINT 0
    (State.eisFrom 0 0 s.eisPoints 0 { s with eis := { s.eis with okPoints := 0, refused := false } })
  else s

/-- EIS_SWEEP_REQUEST (R178). -/
def execEisSweepRequest (_ini : Ini) (s : State) : Result := .next s.eisSweepStart

/-- EIS_ABORT (R194): no effect on a follower (R195). -/
def execEisAbort (_ini : Ini) (s : State) : Result :=
  if s.isLead then .next s.eisAbort.eisExc.settle else .next s

/-- EIS_TCAL (R191): no effect on a follower (R195). -/
def execEisTcal (_ini : Ini) (s : State) : Result :=
  if s.isLead then .next { s with eis := { s.eis with tcal := 2 ^ 384 - 1 } } else .next s

/-- EIS_RESULT_SELECT (R196): the write of RSEL latches the result registers. -/
def execEisResultSelect (_ini : Ini) (point cell : Nat) (s : State) : Result :=
  .next (((s.put Reg.EIS_RSEL_POINT point).put Reg.EIS_RSEL_CELL cell).eisShow point cell)

/-- EIS_WINDOW_END (R180, R184, R186): the window ends at E. A balancing pass forms its results and the next pass asks
for the grants anew, in the tick of the release; otherwise the anchor's phasor goes out. -/
def execEisWindowEnd (s : State) : Result :=
  if s.eis.phase ≠ 3 then .next s
  else
    let s := (s.advanceTo s.eis.e).eisStopRequest.eisExc.showSwitches
    if s.get Reg.EIS_STAT_SRC = 2 then
      let s := s.eisForm
      let pass := s.get Reg.EIS_STAT_PASS
      if pass < 2 then
        let s := { s with eis := { s.eis with phase := 5 } }
        .next (if s.isLead then ((s.put Reg.EIS_STAT_PASS (pass + 1)).resubmitAs 4 2 0).settle else s)
      else .next { s with eis := { s.eis with phase := 4 } }
    else
      let s := { s with eis := { s.eis with phase := 4 } }
      if s.isAnchor then
        let i := s.eisOwnPhasor
        let s := s.eisGotPhasor i s.eisFlags
        .next (if s.isLead then s else s.send (.reply (.phasor i.re i.im i.lre i.ure s.eisFlags)) 0 0 0)
      else .next s

/-- The accelerator run of a type has completed within its window (R55, R56): its overrun count returns to zero. -/
def State.accelDone (s : State) (typ : Nat) : State :=
  match s.tt.accel.find? (fun x => x.typ == typ && decide (s.now < x.till)) with
  | none => s
  | some x => { s with tt := { s.tt with
      accel := s.tt.accel.filter (·.entry != x.entry), accelOver := nset typ 0 s.tt.accelOver } }

/-- An accelerator run of a type is in progress. -/
def State.accelRuns (s : State) (typ : Nat) : Bool := s.tt.accel.any fun x => x.typ == typ && decide (s.now < x.till)

/-- The EIS run that completes now started at or after E + 200,000 (R180 step 3). -/
def State.eisRunCounts (s : State) : Bool :=
  match s.tt.accel.find? (fun x => x.typ == 8 && decide (s.now < x.till)) with
  | some x => decide (s.eis.e + 200000 ≤ x.rel)
  | none => false

/-- The results of the point as an access reply carries them: those of the device's own cells. -/
def State.eisReport (s : State) : List (Nat × Rat × Rat × Nat × Nat) :=
  s.eis.new.map fun r => (r.1 / 8 % 48, r.2.re, r.2.im, r.2.conf, r.2.flags)

/-- EIS_PROCESSING_DONE (R180 steps 3 and 4): the first EIS entry from E + 200,000 on forms the results of the device's own cells, and
a follower reports them. They enter its result memory once the point has completed (R189). -/
def execEisProcessingDone (s : State) : Result :=
  if !s.accelRuns 8 then .next s
  else
  let counts := s.eisRunCounts
  let s := s.accelDone 8
  if s.eis.phase ≠ 4 ∨ !counts ∨ s.eis.done.testBit s.devNum then .next s
  else
    let drive := s.get Reg.EIS_STAT_SRC ≠ 2
    if drive ∧ ¬ s.eis.gotI then .next s
    else
      let s := if drive then s.eisForm else s
      let s : State := { s with eis := { s.eis with done := bitTo s.eis.done s.devNum true } }
      .next (if s.isLead then s else s.send (.reply (.results s.eisReport)) 0 0 0)

/-- A follower learns what becomes of the point (R189): `how` 1, the results of its cells count, with the lead's flags; 2, the
next pass follows; 0, nothing is replaced. -/
def State.eisOutcome (s : State) (how flags : Nat) : State :=
  if how = 2 then s
  else (if how = 1 then s.eisStore (eisMark flags s.eis.new) else s).eisQuiet

/-- EIS_RESULT_DEADLINE (R180 step 5, R188): a drive current below IMIN skips the point; with the results of every device it
completes; otherwise it ends with reason 5. -/
def execEisResultDeadline (s : State) : Result :=
  if !s.isLead || (s.eis.phase ≠ 4 ∧ s.eis.phase ≠ 6) then .next s
  else
    let s := s.advanceTo (s.eis.e + 2000000)
    let all := s.eis.done.testBit 0 &&
      (List.range 8).all fun d => !s.followers.testBit d || s.eis.done.testBit d
    if s.eisNoDrive then .next (s.eisSkip 6).settle
    else if all then .next s.eisComplete.settle
    else .next s.eisIncomplete.settle

/-- EXCITATION_STOP_TIMEOUT (R184): ACTIVE is still set STOPTMO frames after STOP. -/
def execExcitationStopTimeout (s : State) : Result :=
  if s.isLead ∧ s.eis.req = 3 ∧ s.ackActive ∧ clampN 1 255 (s.get Reg.EIS_EXCCFG_STOPTMO) ≤ s.framesSince s.eis.stopFrame + 1 then
    .next ((({ s with eis := { s.eis with req := 0 } }).raise Ev.EIS_EXC_FAULT).eisExc)
  else .next s

end Sys2Proof.Machine
end

