-- ==== Sys2Proof/Machine/Protection.lean ====
section
/-!
DEFINITION. The safety monitor (R215 to R240): the window monitors in two copies, the causes, the latching and clearing
of reactions, and the commands of the SAF block. The logic term of R231 is taken as zero (assumption 14).
-/
namespace Sys2Proof.Machine

/-! ### The window monitors -/

/-- A field of the SAF page as one copy reads it: copy Y reads the redundant copies 0x100 above (R215). -/
def State.mon (s : State) (y : Bool) (f : Fld) : Nat := s.get (if y then { f with addr := f.addr + 0x100 } else f)

/-- A signed field of a copy. -/
def State.monI (s : State) (y : Bool) (f : Fld) : Int := signed f.wid (s.mon y f)

/-- One step of a state with dwell: `set` and `clr` say whether the sample counts toward the change; a sample that
counts toward neither resets the count (R217). -/
def Dwell.step (d : Dwell) (dwell : Nat) (set clr : Bool) : Dwell :=
  let hit := if d.on then clr else set
  if hit then (if dwell ≤ d.n + 1 then { on := !d.on, n := 0 } else { d with n := d.n + 1 }) else { d with n := 0 }

/-- A DWELL field of 1 or 2: 3 acts as 2 (R217, R223), 0 as 1 (R460). -/
def dwell2 (n : Nat) : Nat := clampN 1 2 n

/-- What a copy decides on one sample of one channel: OV reached, OV left, UV reached, UV left (R217). A clipped sample lies
beyond every threshold (R78). -/
def State.cellCompare (s : State) (y : Bool) (v : Int) (sat : Bool) : Bool × Bool × Bool × Bool :=
  let hi := sat && decide (0 < v)
  let lo := sat && decide (v < 0)
  let thr := fun (f : Fld) => ((min 5000000 (s.mon y f) : Nat) : Int)
  (!lo && (hi || decide (thr Reg.SAF_CWOV_SET ≤ v)), !hi && (lo || decide (v ≤ thr Reg.SAF_CWOVC_CLR)),
   !hi && (lo || decide (v ≤ thr Reg.SAF_CWUV_SET)), !lo && (hi || decide (thr Reg.SAF_CWUVC_CLR ≤ v)))

/-- One sample of one channel in one copy (R217). -/
def ChanMon.step (m : ChanMon) (s : State) (y : Bool) (v : Int) (sat : Bool) : ChanMon :=
  let c := s.cellCompare y v sat
  { ov := m.ov.step (dwell2 (s.mon y Reg.SAF_CWOV_DWELL)) c.1 c.2.1,
    uv := m.uv.step (dwell2 (s.mon y Reg.SAF_CWUV_DWELL)) c.2.2.1 c.2.2.2 }

/-- The enabled channels of a copy, bit i. -/
def State.windowsOn (s : State) (y : Bool) : Nat := s.mon y Reg.SAF_CWENL_EN + 2 ^ 32 * s.mon y Reg.SAF_CWENH_EN

/-- One sample set in one copy: an enabled channel steps, a disabled one has no state. -/
def State.stepCells (s : State) (y : Bool) (m : Monitor) (cells : List (Int × Bool)) : Monitor :=
  { m with ch := (m.ch.zip cells).mapIdx fun i c =>
      if (s.windowsOn y).testBit i then ChanMon.step c.1 s y c.2.1 c.2.2 else {} }

/-- A barrier or reference fault: every enabled channel has OV and UV set at once (R217). -/
def State.forceCells (s : State) (y : Bool) (m : Monitor) : Monitor :=
  { m with ch := m.ch.mapIdx fun i _ =>
      if (s.windowsOn y).testBit i then { ov := { on := true }, uv := { on := true } } else {} }

/-- What a copy decides on one current sample: limit reached and left in charge, reached and left in discharge (R218). A
clipped sample is beyond the limit of its direction (R103). -/
def State.slcCompare (s : State) (y : Bool) (i : Int) (sat : Bool) : Bool × Bool × Bool × Bool :=
  let chg : Int := 100 * s.mon y Reg.SAF_SLCI_CHG
  let dis : Int := 100 * s.mon y Reg.SAF_SLCI_DIS
  let beyond := fun (x lim : Int) => (sat && decide (0 < x)) || decide (lim ≤ x)
  let below := fun (x lim : Int) => !(sat && decide (0 < x)) && decide (10 * x < 9 * lim)
  (beyond i chg, below i chg, beyond (-i) dis, below (-i) dis)

/-- One current sample in one copy (R218). -/
def State.stepSlc (s : State) (y : Bool) (m : Monitor) (i : Int) (sat : Bool) : Monitor :=
  let d := dwell2 (s.mon y Reg.SAF_SLCDW_IDWELL)
  let c := s.slcCompare y i sat
  { m with slcC := m.slcC.step d c.1 c.2.1, slcD := m.slcD.step d c.2.2.1 c.2.2.2 }

/-- One block of one I²t direction: the integrator and its cause (R219). `mean2` in A². -/
def stepI2t (e mean2 icont k clr : Rat) (dwell : Nat) (d : Dwell) : Rat × Dwell :=
  let e' := e + (mean2 - icont * icont) / 1000
  let e' := if e' < 0 then 0 else e'
  let d' : Dwell :=
    if d.on then (if e' < k * clr / 100 then {} else { on := true })
    else if k ≤ e' then (if dwell ≤ d.n + 1 then { on := true } else { d with n := d.n + 1 }) else {}
  (e', d')

/-- Bits of the inputs of the cell class for which either copy has a state set: the direction thresholds and the
under-temperature threshold are theirs alone (R221, R223). -/
def State.cellBits (s : State) (f : TempMon → Bool) : Nat :=
  bitsOf (s.saf.x.temp.map f) &&& s.mon false Reg.SAF_TCFG_CELLMASK |||
    bitsOf (s.saf.y.temp.map f) &&& s.mon true Reg.SAF_TCFG_CELLMASK

/-- Charge is forbidden by this device's own inputs of the cell class, by either copy (R221). -/
def State.ownForb (s : State) : Bool := s.cellBits (fun t => t.lo.on || t.hi.on) != 0

/-- The charge-forbidden state in force (R222): the lead combines the followers' states, a follower that of the last
heartbeat. -/
def State.forbidden (s : State) : Bool :=
  s.ownForb || (if s.isLead then s.saf.followerForb != 0 else s.saf.cascadeForb)

/-- One block in one copy: I²t and the safely limited direction (R219, R221). Means in A² and A. -/
def State.stepBlock (s : State) (y : Bool) (m : Monitor) (c2 d2 mean : Rat) : Monitor :=
  let dw := clampN 1 9 (s.mon y Reg.SAF_SLCDW_I2TDWELL)
  let clr : Rat := (clampN 10 90 (s.mon y Reg.SAF_I2TCLR_CLR) : Nat)
  let a := fun (f : Fld) => ((s.mon y f : Nat) : Rat) / 10
  let k := fun (f : Fld) => ((1000 * s.mon y f : Nat) : Rat)
  let c := stepI2t m.ec c2 (a Reg.SAF_I2TC_CHG) (k Reg.SAF_I2TK_CHG) clr dw m.i2tC
  let d := stepI2t m.ed d2 (a Reg.SAF_I2TC_DIS) (k Reg.SAF_I2TK_DIS) clr dw m.i2tD
  let beyond := s.forbidden && decide (a Reg.SAF_SLDI_DEADBAND ≤ mean)
  let sldDw := clampN 1 24 (s.mon y Reg.SAF_SLDI_DWELL)
  let sld : Dwell :=
    if beyond then
      (if m.sld.on || decide (sldDw ≤ m.sld.n + 1) then { on := true } else { on := false, n := m.sld.n + 1 })
    else {}
  { m with ec := c.1, i2tC := c.2, ed := d.1, i2tD := d.2, sld }

/-- What a copy decides on one reading at an upper, or a lower, threshold: reached and left (R203). -/
def State.upperCompare (s : State) (y : Bool) (set clr : Fld) (t : Int) : Bool × Bool :=
  (decide (s.monI y set ≤ t), decide (t ≤ s.monI y clr))
def State.lowerCompare (s : State) (y : Bool) (set clr : Fld) (t : Int) : Bool × Bool :=
  (decide (t ≤ s.monI y set), decide (s.monI y clr ≤ t))

/-- What a copy decides on one reading of an input, in 0.1 °C: over- and under-temperature, then the low and the high
direction threshold (R221, R223). An input outside the cell class has the first alone. -/
def State.tempCompare (s : State) (y : Bool) (i : Nat) (t : Int) : List (Bool × Bool) :=
  if (s.mon y Reg.SAF_TCFG_CELLMASK).testBit i then
    [s.upperCompare y Reg.SAF_TCOT_SET Reg.SAF_TCOT_CLR t, s.lowerCompare y Reg.SAF_TCUT_SET Reg.SAF_TCUT_CLR t,
     s.lowerCompare y Reg.SAF_SLDT_CHGMIN Reg.SAF_SLDC_CHGMINCLR t,
     s.upperCompare y Reg.SAF_SLDT_CHGMAX Reg.SAF_SLDC_CHGMAXCLR t]
  else [s.upperCompare y Reg.SAF_TKOT_SET Reg.SAF_TKOT_CLR t]

/-- One valid reading of input `i` in one copy (R221, R223). -/
def State.stepTemp (s : State) (y : Bool) (i : Nat) (m : TempMon) (t : Int) : TempMon :=
  let d := dwell2 (s.mon y Reg.SAF_TCFG_TDWELL)
  match s.tempCompare y i t with
  | [ot, ut, lo, hi] =>
    { ot := m.ot.step d ot.1 ot.2, ut := m.ut.step d ut.1 ut.2, lo := m.lo.step d lo.1 lo.2, hi := m.hi.step d hi.1 hi.2 }
  | ot :: _ => { ot := m.ot.step d ot.1 ot.2 }
  | [] => m

/-- Apply a comparison to the copies that compare real samples: the copy under test does not (R237). -/
def State.onCopies (s : State) (f : Bool → Monitor → Monitor) : State :=
  let x := if s.saf.testing = some false then s.saf.x else f false s.saf.x
  let y := if s.saf.testing = some true then s.saf.y else f true s.saf.y
  { s with saf := { s.saf with x, y } }

/-- The decisions of a copy on the cells of a sample set: a disabled channel is not compared (R217). -/
def State.cellDecisions (s : State) (y : Bool) (cells : List (Int × Bool)) : List (Bool × Bool × Bool × Bool) :=
  cells.mapIdx fun i c =>
    if (s.windowsOn y).testBit i then s.cellCompare y c.1 c.2 else (false, false, false, false)

/-- The decisions of a copy on a block, from its integrators after it: each at K and below the clear value, and the mean
against the dead band (R219, R221). -/
def State.blockDecisions (s : State) (y : Bool) (m : Monitor) (mean : Rat) : List Bool :=
  let clr : Rat := (clampN 10 90 (s.mon y Reg.SAF_I2TCLR_CLR) : Nat)
  let k := fun (f : Fld) => ((1000 * s.mon y f : Nat) : Rat)
  let two := fun (e : Rat) (f : Fld) => [decide (k f ≤ e), decide (e < k f * clr / 100)]
  two m.ec Reg.SAF_I2TK_CHG ++ two m.ed Reg.SAF_I2TK_DIS ++
    [decide (((s.mon y Reg.SAF_SLDI_DEADBAND : Nat) : Rat) / 10 ≤ mean)]

/-- The copies' decisions on the same sample of kind `k` differ or agree; a difference on two consecutive samples of a kind
(R238). The kinds: 0 sample sets, 1 blocks, 2 + i temperature input i. -/
def State.compareDecisions (s : State) (k : Nat) (agree : Bool) : State :=
  let n := if agree then 0 else s.saf.differ.getD k 0 + 1
  let s := { s with saf := { s.saf with differ := s.saf.differ.set k n } }
  if 2 ≤ n then
    ({ s with saf := { s.saf with disX := true, disY := true } }).raise Ev.SAF_COPY_DISAGREE
  else s

/-- The primary words against their redundant copies, once per frame (R215). -/
def State.compareCopies (s : State) : State :=
  let bad := (List.range 33).any fun k => s.word (Reg.SAF_CWOV + 4 * k) != s.word (Reg.SAF_CWOV + 0x100 + 4 * k)
  { s with saf := { s.saf with mismatch := bad } }

/-! ### Causes -/

/-- Bits of the channels, or inputs, for which either copy has a state set. -/
def State.chanBits (s : State) (f : ChanMon → Bool) : Nat :=
  bitsOf ((s.saf.x.ch.zip s.saf.y.ch).map fun c => f c.1 || f c.2)
def State.tempBits (s : State) (f : TempMon → Bool) : Nat :=
  bitsOf ((s.saf.x.temp.zip s.saf.y.temp).map fun c => f c.1 || f c.2)

/-- XMIS of a page (R60). -/
def State.xmis (s : State) (page : Nat) : Bool := (s.word (pageBase page + 0x24)).getLsbD 8

/-- A state of either copy. -/
def State.either (s : State) (f : Monitor → Bool) : Bool := f s.saf.x || f s.saf.y

/-- The causes of Table 9.1 that are present, bit s. The current functions have no cause off the anchor (R101). -/
def State.causes (s : State) : Nat :=
  bitsOf [s.chanBits (·.ov.on) != 0, s.chanBits (·.uv.on) != 0,
    s.isAnchor && s.saf.oc.any id,
    s.isAnchor && s.either (fun m => m.slcC.on || m.slcD.on),
    s.isAnchor && s.either (fun m => m.i2tC.on || m.i2tD.on),
    s.isAnchor && s.either (·.sld.on),
    s.tempBits (·.ot.on) != 0, s.cellBits (·.ut.on) != 0,
    [14, 6, 7, 8].any s.xmis || s.cm.unpop || s.saf.mismatch || s.saf.disX || s.saf.disY || s.saf.failX ||
      s.saf.failY,
    s.saf.coverage, s.saf.tripIn, s.saf.tka != 0, s.saf.tkb != 0, false, s.saf.loss]

/-- The index that `RFIRST` records for a source (Table 9.5). -/
def State.causeIndex (s : State) (src : Nat) : Nat :=
  let one := fun (w n : Nat) => match lowestBit w n with
    | some i => i + 1
    | none => 0
  match src with
  | 0 => one 48 (s.chanBits (·.ov.on))
  | 1 => one 48 (s.chanBits (·.uv.on))
  | 6 => one 24 (s.tempBits (·.ot.on))
  | 7 => one 24 (s.cellBits (·.ut.on))
  | 11 => (lowestBit 32 s.saf.tka).getD 0
  | 12 => (lowestBit 32 s.saf.tkb).getD 0
  | 14 => s.saf.lossDev
  | _ => 0

/-- The registers that show the monitors' states. -/
def State.safShow (s : State) : State :=
  let ov := s.chanBits (·.ov.on)
  let uv := s.chanBits (·.uv.on)
  let s := (((s.put Reg.SAF_OVSL_SET ov).put Reg.SAF_OVSH_SET (ov / 2 ^ 32)).put Reg.SAF_UVSL_SET uv).put
    Reg.SAF_UVSH_SET (uv / 2 ^ 32)
  let s := ((s.put Reg.SAF_TOTS_SET (s.tempBits (·.ot.on))).put Reg.SAF_TUTS_SET (s.cellBits (·.ut.on))).put
    Reg.SAF_TSLDS_SET (s.cellBits fun t => t.lo.on || t.hi.on)
  let s := (s.putB Reg.SAF_STAT_COPYDIS (s.saf.disX || s.saf.disY)).put Reg.SAF_RCAUSE_CAUSE s.causes
  let s := s.raiseIf (s.forbidden != s.flag Reg.SAF_STAT_CHGFORB) Ev.SAF_SLD_STATE
  s.putB Reg.SAF_STAT_CHGFORB s.forbidden

/-- `CSC.TRIPSRC`: the lead's record that device `d` drives TRIP; LATCH is set whenever NOW becomes set (R146). -/
def State.tripNow (s : State) (d : Nat) (on : Bool) : State :=
  let s := if on && !s.bit Reg.CSC_TRIPSRC_NOW d then s.putBit Reg.CSC_TRIPSRC_LATCH d true else s
  s.putBit Reg.CSC_TRIPSRC_NOW d on

/-- `SAF.HOLD`, `SAF.STAT.ACTIVE` and `CSC.STAT.TRIPOUT` follow the latches; the lead's own bit of `CSC.TRIPSRC`
follows its drive. -/
def State.holdShow (s : State) : State :=
  let s := if s.isLead then s.tripNow 0 (s.saf.tripBy != 0) else s
  ((s.put Reg.SAF_HOLD_OUT s.heldMask).putB Reg.SAF_STAT_ACTIVE (s.get Reg.SAF_RSTAT_LATCH != 0)).putB
    Reg.CSC_STAT_TRIPOUT (s.saf.tripBy != 0)

/-- Source `src` drives TRIP: by its mask, or by the fixed part of Table 9.1. Source 10 never does. -/
def State.drivesTrip (s : State) (src : Nat) : Bool :=
  (src != 10 && s.flag (Reg.SAF_RM_TRIP.at src)) ||
    (if s.isLead then src == 14 else !(src == 10 || src == 11 || src == 12))

/-! ### Latching and clearing -/

/-- A source that latches now enters the first-reaction record: no other is latched, or those of this tick have higher
numbers (R230). -/
def State.latchesFirst (s : State) (src : Nat) : Bool :=
  s.get Reg.SAF_RSTAT_LATCH == 0 || (s.saf.firstAt == s.now + 1 && decide (src < s.get Reg.SAF_RFIRST_SRC))

/-- This device drives TRIP for a source (R225, R146). -/
def State.driveTrip (s : State) (src : Nat) : State :=
  let tripAt := if s.saf.tripBy = 0 then s.now else s.csc.tripAt
  { s with saf := { s.saf with tripBy := bitTo s.saf.tripBy src true }, csc := { s.csc with tripAt } }

/-- A reaction latches (R225). On the lead one with a fixed part, or one whose mask turned a role off, opens every role
(Table 10.6, assumption 113). -/
def State.latch (s : State) (src : Nat) : State :=
  if s.bit Reg.SAF_RSTAT_LATCH src then s
  else
    let first := s.latchesFirst src
    let were := s.rolesOn
    let s := s.putBit Reg.SAF_RSTAT_LATCH src true
    let s := if s.drivesTrip src then s.driveTrip src else s
    let s := s.holdShow.reactionOff (s.sourceHolds src)
    let s := if first then
        (({ s with saf := { s.saf with firstAt := s.now + 1 } }.put Reg.SAF_RFIRST_SRC src).put Reg.SAF_RFIRST_INDEX
          (s.causeIndex src)).put Reg.SAF_RTICK_TICK s.tick
      else s
    let s := { s with saf := { s.saf with latchedInFrame := true } }
    let s := s.raise (Ev.safLatched src)
    let s := s.record 2 src (s.word Reg.SAF_RFIRST).toNat (s.word Reg.SAF_RSTAT).toNat (s.word Reg.SAF_RCAUSE).toNat
    let s := if fixedRoles src || s.rolesOn != were then s.ctsReaction were else s
    ((s.endIso.eisAbort.eisExc).freeze 1 src).settle

/-- Evaluate the causes and latch every source whose cause is present, lowest first (R225, R230). -/
def State.protect (s : State) : State :=
  if s.alive then
    let s := s.safShow
    let c := s.causes
    (List.range 15).foldl (fun s i => if c.testBit i then s.latch i else s) s
  else s

/-- Clear one latched source whose cause is absent, or refuse (R228, R229); a clear in the tick of a new SWTRIP is refused
too (R230). -/
def State.clearSource (s : State) (src : Nat) : State :=
  if !s.bit Reg.SAF_RSTAT_LATCH src then s
  else if s.causes.testBit src ∨ (src = 13 ∧ s.saf.swAt = s.now + 1) then s.raise Ev.SAF_CLEAR_REFUSED
  else
    let s := s.putBit Reg.SAF_RSTAT_LATCH src false
    let s := { s with saf := { s.saf with tripBy := bitTo s.saf.tripBy src false } }
    (s.holdShow.raise Ev.SAF_CLEARED).refreshChannels.refreshSwitches

/-- A commit has changed masks: the channels that latched reactions now hold go off (R230). -/
def State.remask (s : State) : State :=
  if s.get Reg.SAF_RSTAT_LATCH = 0 then s
  else
    let were := s.rolesOn
    let s := s.holdShow.reactionOff s.heldMask
    if were = s.rolesOn then s else s.ctsReaction were

/-! ### Samples -/

/-- A barrier or reference fault reaches both monitors, without a sample (R217). -/
def State.monitorFault (s : State) : State :=
  { s with saf := { s.saf with x := s.forceCells false s.saf.x, y := s.forceCells true s.saf.y } }

/-- A sample set reaches the monitors (R217, R218). `cur` is ISH1 in mA with its SAT flag. -/
def State.monitorSet (s : State) (cells : List (Int × Bool)) (cur : Int × Bool) : State :=
  let fault := s.cm.barrier || s.cm.ref
  let s := if fault then s.monitorFault else s.onCopies fun y m => s.stepCells y m cells
  let s := if s.isAnchor then s.onCopies fun y m => s.stepSlc y m cur.1 cur.2 else s
  if s.saf.testing.isSome then s
  else s.compareDecisions 0 (decide ((fault ∨ s.cellDecisions false cells = s.cellDecisions true cells) ∧
    (¬ s.isAnchor ∨ s.slcCompare false cur.1 cur.2 = s.slcCompare true cur.1 cur.2)))

/-- The block in progress ends: its means go to both copies' integrators (R219, R221, R237). -/
def State.monitorBlock (s : State) : State :=
  if s.saf.blkN = 0 then s
  else
    let n : Rat := (s.saf.blkN : Nat)
    let c2 := s.saf.blkC / n
    let d2 := s.saf.blkD / n
    let mean := s.saf.blkI / n
    let x := s.stepBlock false s.saf.x c2 d2 mean
    let y := s.stepBlock true s.saf.y c2 d2 mean
    let s := { s with saf := { s.saf with x, y, blkN := 0, blkC := 0, blkD := 0, blkI := 0 } }
    let s := s.compareDecisions 1 (decide (s.blockDecisions false x mean = s.blockDecisions true y mean))
    let part := fun (free : Nat) (e : Rat) (k : Nat) => if k = 0 then free % 65536 else min 65535 (e / k).floor.toNat
    let s := s.put Reg.SAF_I2TE_CHG (part s.freeN x.ec (s.get Reg.SAF_I2TK_CHG))
    let s := s.nextFree
    (s.put Reg.SAF_I2TE_DIS (part s.freeN x.ed (s.get Reg.SAF_I2TK_DIS))).nextFree

/-- A current sample of instant `o` of the frame enters its 1 ms block; the block closes with its last sample, or when a
sample of a later one arrives (R219). -/
def State.blockSample (s : State) (o : Nat) (mA : Int) : State :=
  if !s.isAnchor then s
  else
    let b := s.fstart + o - o % 100000
    let s := if s.saf.blkAt = b then s else s.monitorBlock
    let i : Rat := (mA : Rat) / 1000
    let s := { s with saf := { s.saf with
      blkN := s.saf.blkN + 1, blkAt := b, blkI := s.saf.blkI + i,
      blkC := s.saf.blkC + (if 0 < i then i * i else 0), blkD := s.saf.blkD + (if i < 0 then i * i else 0) } }
    if 100000 ≤ o % 100000 + s.period then s.monitorBlock else s

/-- A valid reading of a used input, in 0.1 °C (R223). -/
def State.monitorTemp (s : State) (i : Nat) (t : Int) : State :=
  let s := s.onCopies fun y m => { m with temp := m.temp.modify i fun w => s.stepTemp y i w t }
  if s.saf.testing.isSome then s
  else s.compareDecisions (2 + i) (decide (s.tempCompare false i t = s.tempCompare true i t))

/-! ### Commands -/

/-- SW_TRIP (R224, R234): Pair A latches source 13; any other writer is refused. -/
def execSwTrip (ini : Ini) (s : State) : Result :=
  match ini with
  | .pairA => .next ({ s with saf := { s.saf with swAt := s.now + 1 } }.latch 13)
  | _ => .next (s.raise Ev.SAF_WRITE_REFUSED)

/-- REACTION_CLEAR (R228, R229, R234): Pair A clears each latched source of the mask whose cause is absent. -/
def execReactionClear (ini : Ini) (mask : Word) (s : State) : Result :=
  match ini with
  | .pairA =>
    let s := s.safShow
    .next ((List.range 15).foldl (fun s i => if mask.getLsbD i then s.clearSource i else s) s)
  | _ => .next (s.raise Ev.SAF_WRITE_REFUSED)

/-- SAF_SELFTEST_START (R237): at F + 5,000 one copy is switched to test vectors; the copies alternate. -/
def execSafSelftestStart (s : State) : Result :=
  if !s.alive || s.sleeping then .next s
  else
  let s := s.advanceTo (s.fstart + 5000)
  .next { s with saf := { s.saf with testing := some s.saf.nextTest, nextTest := !s.saf.nextTest } }

/-- The outcome of a copy's test (R238). -/
def State.testOutcome (s : State) (y passed : Bool) : State :=
  let f := s.saf
  let s := { s with saf := { f with
    testing := none,
    failX := if y then f.failX else !passed, failY := if y then !passed else f.failY,
    disX := f.disX && (y || !passed), disY := f.disY && (!y || !passed) } }
  (s.putB Reg.SAF_STAT_TESTFAIL (!passed)).raiseIf (!passed) Ev.SAF_SELFTEST

/-- SAF_SELFTEST_END (R237, R238): at F + 8,000 the test ends. -/
def execSafSelftestEnd (passed : Bool) (s : State) : Result :=
  match s.saf.testing with
  | none => .next s
  | some y => .next (((s.advanceTo (s.fstart + 8000)).testOutcome y passed).protect)

end Sys2Proof.Machine
end

