-- ==== Sys2Proof/Machine/Engine.lean ====
section
/-!
DEFINITION. The timetable engine (Ringmaster) as shared operations (R43 to R58, R462): images and their load checks,
the skipping of tasks, and the accelerator runs.
-/
namespace Sys2Proof.Machine

/-! ### Images (R48 to R52, Tables 2.2 to 2.6, 2.14) -/

/-- The timetable image area of data MRAM (Table 14.5). -/
def imageArea : Nat := 0x00820000
def imageAreaEnd : Nat := 0x00860000

/-- The entry record at an address (Table 2.3). -/
def State.entryAt (s : State) (a : Nat) : Entry :=
  let w0 := s.num a 4
  let w1 := s.num (a + 4) 4
  { slot := w0 / 2 ^ 22, typ := w0 / 2 ^ 16 % 64, target := w0 % 4096, winlen := w1 / 2 ^ 22, budget := w1 % 2 ^ 20,
    param := s.num (a + 8) 4, res := s.num (a + 12) 2 }

/-- Reserved bits of the entry record at an address are zero. -/
def State.entryClean (s : State) (a : Nat) : Bool :=
  s.num a 4 / 4096 % 16 == 0 && s.num (a + 4) 4 / 2 ^ 20 % 4 == 0 && s.num (a + 14) 2 == 0 &&
    s.num (a + 12) 2 < 0x8000

/-- The image at an address as the engine copies it. -/
def State.imageAt (s : State) (a : Nat) : Image :=
  { setid := s.num (a + 0x0C) 4, devmask := s.num (a + 0x10) 1, ncells := s.num (a + 0x14) 2,
    dir := (List.range 4).map fun r => (s.num (a + 0x20 + 8 * r) 2, s.num (a + 0x22 + 8 * r) 2),
    entries := (List.range (min 4096 (s.num (a + 0x12) 2))).map fun e => s.entryAt (a + 0x40 + 16 * e) }

/-- The entries of schedule `r`, with their index. -/
def Image.sched (m : Image) (r : Nat) : List (Nat × Entry) :=
  let d := m.dir.getD r (0, 0)
  ((m.entries.zipIdx).map fun e => (e.2, e.1)).filter fun e => d.1 ≤ e.1 && e.1 < d.1 + d.2

/-- Reserved fields of header and directory are zero, and record 3 is empty. -/
def State.headerClean (s : State) (a : Nat) : Bool :=
  s.num (a + 6) 2 == 0 && s.num (a + 0x11) 1 == 0 && s.num (a + 0x16) 10 == 0 &&
    (List.range 4).all (fun r => s.num (a + 0x24 + 8 * r) 4 == 0) && s.num (a + 0x3A) 2 == 0

/-- A key slot is usable: each of its words programmed, and not revoked (R326). -/
def State.keyUsable (s : State) (k : Nat) : Bool :=
  (List.range 16).all (fun i => nget (16 * k + i) s.nvm.key != 0) && !s.bit Reg.NVM_KEYREV_REV k

/-- The 64 bytes of a key. -/
def State.keyBytes (s : State) (k : Nat) : List Byte :=
  ((List.range 16).map fun i => leBytes 4 (nget (16 * k + i) s.nvm.key - 1)).flatten

/-- The entry types that only a lead's image may hold (Table 2.4): CANTX for CAN2 to CAN4 among them. -/
def Entry.leadOnly (e : Entry) : Bool :=
  [1, 3, 6, 7].contains e.typ || (e.typ == 0x0B && decide (1024 ≤ e.target))

/-- The entries that the AEV4848F does not have (reason 0x5). -/
def Entry.notOnF (e : Entry) : Bool := e.typ == 6 || e.typ == 3 || e.typ == 0x0B

/-- A task entry. -/
def Entry.isTask (e : Entry) : Bool := e.typ == 9 || e.typ == 0x0A

/-- The bound of an accelerator window in ticks (Table 2.1), 0 for other entries. -/
def Entry.bound (e : Entry) (ncells : Nat) : Nat :=
  if e.typ = 6 then 10000 + 1200 * ncells
  else if e.typ = 7 then 5000 + 180 * ncells
  else if e.typ = 8 then 2000 + 40 * ncells * (e.param % 16)
  else 0

/-- The windows of one kind of task in a schedule overlap, or one meets [0, 15,000) (reason 0x9). -/
def taskClash (l : List Entry) : Bool :=
  l.any (fun e => e.slot < 15 && decide (0 < e.winlen)) ||
    (l.zipIdx).any fun x => (l.zipIdx).any fun y => x.2 < y.2 &&
      decide (x.1.slot < y.1.slot + y.1.winlen) && decide (y.1.slot < x.1.slot + x.1.winlen)

/-- The entries of one schedule are sorted by slot, at most 16 in a slot (reason 0x7). -/
def schedSorted (l : List Entry) : Bool :=
  (l.zip (l.drop 1)).all (fun p => p.1.slot ≤ p.2.slot) && (l.zip (l.drop 16)).all (fun p => p.1.slot < p.2.slot)


/-- The first refusal reason of Table 2.6 for the image at an address; 0 when it is valid. -/
def State.imageReason (s : State) (a : Nat) : Nat :=
  let len := s.num (a + 8) 4
  let m := s.imageAt a
  let es := m.entries
  let scheds := (List.range 3).map fun r => (m.sched r).map (·.2)
  let run := (scheds.getD 0 []).filter (·.slot == 0)
  let need := if s.isLead then [1, 2, 3, 4] else [2, 4]
  if s.num a 4 ≠ 0x5453594C ∨ a < imageArea ∨ imageAreaEnd < a + len ∨ len < 128 then 1
  else if !((List.range 2).any fun k => s.keyUsable k && Config.sigOk (s.bytes a len) (s.keyBytes k)) then 2
  else if s.num (a + 5) 1 ≠ 1 ∨ 2 < s.num (a + 4) 1 then 3
  else if !m.devmask.testBit s.devNum ∨
      (!s.isLead && es.any fun e => e.leadOnly && !(!s.full && e.notOnF)) then 4
  else if !s.full && es.any Entry.notOnF then 5
  else if es.any fun e => decide (999 < e.slot) || decide (1000 < e.slot + e.winlen) then 6
  else if !scheds.all schedSorted then 7
  else if (m.dir.getD 0 (0, 0)).2 = 0 ∨ !(need.all fun t => run.any (·.typ == t)) ∨ !s.headerClean a ∨
      !((List.range es.length).all fun e => s.entryClean (a + 0x40 + 16 * e)) ∨
      !(m.dir.all fun d => d.1 + d.2 ≤ es.length) ∨
      es.any (fun e => e.typ == 0 || decide (0x0D < e.typ) ||
        (e.typ == 0x0D && (e.target == 0 || decide (15 < e.target)))) then 8
  else if scheds.any fun l => taskClash (l.filter (·.typ == 9)) || taskClash (l.filter (·.typ == 0x0A)) then 9
  else if es.any fun e => decide (1000 * e.winlen < e.bound m.ncells) then 0xA
  else if es.any fun e => e.isTask && decide (1000 * e.winlen < e.budget + 2) then 0xB
  else 0

/-- Record the state and the reason of a buffer in `TT.LOADSTAT`. -/
def State.putLoad (s : State) (buf st reason : Nat) : State :=
  if buf = 0 then (s.put Reg.TT_LOADSTAT_STATE0 st).put Reg.TT_LOADSTAT_REASON0 reason
  else (s.put Reg.TT_LOADSTAT_STATE1 st).put Reg.TT_LOADSTAT_REASON1 reason

/-- The state of a buffer. -/
def State.loadState (s : State) (buf : Nat) : Nat :=
  if buf = 0 then s.get Reg.TT_LOADSTAT_STATE0 else s.get Reg.TT_LOADSTAT_STATE1

/-- The image of a buffer. -/
def State.bufImage (s : State) (buf : Nat) : Option Image := (s.tt.bufs.getD buf none)

/-- The active image. -/
def State.activeImage (s : State) : Option Image :=
  match s.tt.active with
  | none => none
  | some b => s.bufImage b

/-- The active image holds schedule `r`. -/
def hasSched (m : Option Image) (r : Nat) : Bool :=
  match m with
  | none => false
  | some m => (m.dir.getD r (0, 0)).2 != 0

/-- The schedule that the profile and mode in force select (R43 step 2, R45). -/
def State.selectSched (s : State) : State :=
  let r : Option Nat :=
    if s.activeImage.isNone || s.sleeping then none
    else if s.watching then (if s.tt.watchN = 0 then some 2 else none)
    else if s.fast then some 1 else some 0
  { s with tt := { s.tt with sched := r } }

/-- The entries of the schedule in force for a slot, with their index. -/
def State.slotEntries (s : State) (slot : Nat) : List (Nat × Entry) :=
  match s.activeImage, s.tt.sched with
  | some m, some r => (m.sched r).filter (·.2.slot == slot)
  | _, _ => []

/-! ### Tasks (R54, R57) -/

/-- The hidden state of a pair. -/
def State.core (s : State) (p : Pair) : Core := match p with | .a => s.cpa | .b => s.cpb

/-- Set the hidden state of a pair. -/
def State.setCore (s : State) (p : Pair) (c : Core) : State :=
  match p with
  | .a => { s with cpa := c }
  | .b => { s with cpb := c }

/-- An entry is skipped (R57). -/
def State.skipEntry (s : State) : State := (s.raise Ev.TT_SKIP).incSat Reg.TT_SKIPCNT_COUNT

/-- A pair whose entries are skipped: restarting, held, in a Trapeze swap, or halted by debug (R57, R314, R318). -/
def State.pairSkips (s : State) (p : Pair) : Bool :=
  s.flag (Reg.CP_STAT_INRST.at p.idx) || (s.core p).held || (s.core p).inReset || (s.core p).swap.isSome ||
    s.flag (Reg.CP_STAT_DBGHALT.at p.idx)

/-- The tasks in progress of a pair are skipped (R314 step 1). -/
def State.dropTasks (s : State) (p : Pair) : State :=
  let n := (s.tt.tasks.filter (·.pair == p)).length
  let s := { s with tt := { s.tt with tasks := s.tt.tasks.filter (·.pair != p) } }
  let s := s.setCore p { s.core p with killTrap := false }
  (List.range n).foldl (fun s _ => s.skipEntry) s

end Sys2Proof.Machine
end

