-- ==== Sys2Proof/Machine/OutputCmds.lean ====
section
/-!
DEFINITION. The commands of the OUT and LHM pages and the events of the load channels and of Safety Net (R255 to R277).
-/
namespace Sys2Proof.Machine

/-! ### Commands (R257) -/

/-- A commanded turn-on of channel `i`: refused for a role channel and for the other reasons of R257. -/
def State.cmdOn (s : State) (i : Nat) : State :=
  if !s.hasChan i then s else if s.isRole i then s.raise Ev.OUT_CMD_REFUSED else s.turnOn i

/-- A commanded turn-off of channel `i`: refused for a role channel only. -/
def State.cmdOff (s : State) (i : Nat) : State :=
  if !s.hasChan i then s else if s.isRole i then s.raise Ev.OUT_CMD_REFUSED else s.turnOff i

/-- CMD_SET (R257): each bit turns its channel on or is refused. -/
def execCmdSet (_ini : Ini) (mask : Word) (s : State) : Result :=
  .next ((List.range 16).foldl (fun s i => if mask.getLsbD i then s.cmdOn i else s) s)

/-- CMD_CLEAR (R257): each bit turns its channel off or is refused. -/
def execCmdClear (_ini : Ini) (mask : Word) (s : State) : Result :=
  .next ((List.range 16).foldl (fun s i => if mask.getLsbD i then s.cmdOff i else s) s)

/-! ### Ramps and protection (R258, R261) -/

/-- RAMP_COMPLETE (R258): a ramp that is not frozen ends in the on state. -/
def execRampComplete (ch : Fin 16) (s : State) : Result :=
  if s.chState ch = 1 ∧ ¬ s.flag (Reg.OUT_CHSTAT_FROZEN.at ch) then .next (s.put (Reg.OUT_CHSTAT_STATE.at ch) 2)
  else .next s

/-- INRUSH_EXPIRY (R258, R264): the budget has run out before the ramp was complete. -/
def execInrushExpiry (ch : Fin 16) (s : State) : Result :=
  if s.chState ch = 1 then .next (((s.advanceTo (s.inrushEnd ch)).protectOff ch 3).raise Ev.OUT_INRUSH_FAULT)
  else .next s

/-- A test pulse fails (R266, Table 11.2). -/
def State.testFails (s : State) (i : Nat) : State :=
  ((s.putBit Reg.OUT_TESTRES_FAIL i true).put (Reg.OUT_CHSTAT_LASTFLT.at i) 6).raise Ev.OUT_TEST_FAIL

/-- The test pulse on channel `i` is over: the channel takes state `st` and the next test follows TPER frames later. -/
def State.testOver (s : State) (i st : Nat) : State :=
  let s := (s.put (Reg.OUT_CHSTAT_STATE.at i) st).putBit Reg.OUT_COND_ON i (st != 0)
  { s with out := { s.out with test := none } }

/-- CHANNEL_SHORT (R261, R266): a conducting channel limits and stops conducting at once (assumption 14); a bright
pulse that reaches the limit ends and fails, and nothing else of R261 applies to it. -/
def execChannelShort (ch : Fin 16) (s : State) : Result :=
  if s.chState ch = 4 then .next ((s.testOver ch 0).testFails ch)
  else if s.chState ch = 1 ∨ s.chState ch = 2 ∨ s.chState ch = 5 then
    .next ((s.protectOff ch 1).raise Ev.OUT_SHORT)
  else .next s

/-- JUNCTION_OVERTEMP (R261, Table 11.3): the channel is off whatever it did, and hot until a reading says otherwise. -/
def execJunctionOvertemp (ch : Fin 16) (s : State) : Result :=
  if !s.hasChan ch then .next s
  else
    let s := s.putB (Reg.OUT_CHSTAT_HOT.at ch) true
    let s := if s.chState ch = 4 then s.testIncomplete ch 0 else s
    .next ((s.protectOff ch 2).raise Ev.OUT_JUNCTION)

/-- CLAMP_CONDUCTED (R263): reported; the channel stays off. -/
def execClampConducted (ch : Fin 16) (s : State) : Result :=
  if s.hasChan ch then .next (s.raise Ev.OUT_CLAMP) else .next s

/-! ### Readings and open load (R260, R262) -/

/-- LSB of the current reading of channel index `i` in mA (Table 11.1). -/
def curLsb (i : Nat) : Nat := if i < 8 then 4 else 2

/-- Open-load check of channel `i` on a reading in mA that counts. -/
def State.openLoad (s : State) (i mA : Nat) : State :=
  let thr := s.get (Reg.OUT_CFG_OLTHR.at i)
  if thr = 0 then s
  else if mA < 5 * min 100 thr then
    let n := (s.chan i).olN + 1
    let s := s.setChan i { s.chan i with olN := n }
    if clampN 1 255 (s.get Reg.OUT_DIAGCFG_OLDWELL) ≤ n ∧ ¬ s.bit Reg.OUT_OLSTAT_OL i then
      (s.putBit Reg.OUT_OLSTAT_OL i true).raise Ev.OUT_OPENLOAD
    else s
  else
    let s := s.setChan i { s.chan i with olN := 0 }
    if s.bit Reg.OUT_OLSTAT_OL i then (s.putBit Reg.OUT_OLSTAT_OL i false).raise Ev.OUT_OPENLOAD_CLEAR else s

/-- The reading of one channel. -/
def State.readChan (s : State) (i mA : Nat) (hot counts : Bool) : State :=
  if !s.hasChan i then s
  else
    let s := s.putSat (Reg.OUT_CHSTAT_CUR.at i) ((2 * mA + curLsb i) / (2 * curLsb i))
    let s := s.putB (Reg.OUT_CHSTAT_HOT.at i) hot
    if counts && s.chState i == 2 then s.openLoad i mA else s

/-- Channel currents are read in every frame of Run and in the watch frames of Watch (R260). -/
def State.readsChannels (s : State) : Bool := s.alive && !s.sleeping && !s.coresIdle

/-- CHANNEL_CURRENT_READING (R260, R262): at the next instant F + 10,000·k, k up to 99, all readings change together with
LTICK; the junctions above 165 °C and the cluster temperatures are those of the reading. -/
def execChannelCurrentReading (mA : List Nat) (hot : Nat) (clusters : List Int) (s : State) : Result :=
  let k := (s.now - s.fstart + 9999) / 10000
  if !s.readsChannels ∨ 99 < k then .next s
  else
    let s := s.advanceTo (s.fstart + k * 10000)
    let counts := s.diagOn && s.out.test.isNone
    let s := (mA.zipIdx).foldl (fun s r => s.readChan r.2 r.1 (hot.testBit r.2) counts) s
    let s := ((s.putSatI Reg.OUT_CLTEMP01_C0 (clusters.getD 0 0)).putSatI Reg.OUT_CLTEMP01_C1
      (clusters.getD 1 0)).put Reg.OUT_LTICK_TICK s.tick
    if s.full then
      .next ((s.putSatI Reg.OUT_CLTEMP23_C2 (clusters.getD 2 0)).putSatI Reg.OUT_CLTEMP23_C3 (clusters.getD 3 0))
    else .next s

/-- CRANK_DIAG_RESUME (R264): 1 ms after VBAT's return the diagnostics run again. -/
def execCrankDiagResume (s : State) : Result :=
  if s.out.crank then .next s else .next (s.advanceTo s.out.diagFrom)

/-! ### Clusters (R265) -/

/-- Shed the next on channel of a cluster, if one is on; a role channel with its consequences (R261). -/
def State.shedOne (s : State) (c : Nat) : State :=
  match s.shedNext c with
  | none => s
  | some i =>
    let s := ((s.protectOff i 4).putBit Reg.OUT_SHED_CH i true).raise Ev.OUT_SHED
    { s with out := { s.out with shedAt := s.out.shedAt.set c s.now } }

/-- CLUSTER_OVERTEMP (R265): shedding starts with its first channel, and turn-on in the cluster is refused. The
AEV4848F has no channels in C2 and C3 (R255). -/
def execClusterOvertemp (c : Fin 4) (s : State) : Result :=
  if !s.hasChan (4 * c) then .next s
  else
    let s := { s with out := { s.out with hot := s.out.hot.set c true, shedAt := s.out.shedAt.set c s.now } }
    .next ((s.putBit Reg.OUT_SHED_CLUSTER c true).shedOne c)

/-- CLUSTER_SHED_STEP (R265): 1 ms after the last step the next on channel of a cluster that is still hot is shed; `hot` is
what the cluster's sensor says at the step. Below 175 °C shedding has ended. -/
def execClusterShedStep (c : Fin 4) (s : State) (hot : Bool := true) : Result :=
  if s.out.hot.getD c false then
    let s := s.advanceTo (s.out.shedAt.getD c 0 + 100000)
    if hot then
      let s := { s with out := { s.out with shedAt := s.out.shedAt.set c s.now } }
      .next (s.shedOne c)
    else .next { s with out := { s.out with hot := s.out.hot.set c false } }
  else .next s

/-- CLUSTER_COOLED (R265): below 160 °C turn-on is possible again. -/
def execClusterCooled (c : Fin 4) (s : State) : Result :=
  if s.bit Reg.OUT_SHED_CLUSTER c then
    let s := { s with out := { s.out with hot := s.out.hot.set c false } }
    let s := (s.putBit Reg.OUT_SHED_CLUSTER c false).put Reg.OUT_SHED_CH
      (bitsOf ((List.range 16).map fun i => i / 4 != c.val && s.bit Reg.OUT_SHED_CH i))
    .next (s.raise Ev.OUT_SHED_CLEAR)
  else .next s

/-! ### Test pulses (R266, R267) -/

/-- The pulse that channel `i` takes now: `some true` bright, `some false` dark. -/
def State.pulseFor (s : State) (i : Nat) : Option Bool :=
  let t := s.get (Reg.OUT_CFG_TEST.at i)
  if !s.hasChan i then none
  else if s.chState i = 2 ∧ t.testBit 0 then some false
  else if s.chState i = 0 ∧ t.testBit 1 ∧ ¬ s.turnOnRefused i then some true
  else none

/-- The frame number `f` has come: frame numbers compare serially (R17). -/
def State.frameCame (s : State) (f : Nat) : Bool := decide (s.framesSince f < 2 ^ 31)

/-- The channel whose incomplete test is repeated now: its cause has gone and the channel takes a pulse (R267). -/
def State.retestNow (s : State) : Option (Nat × Bool) :=
  match s.out.retest with
  | some (i, f) => if s.frameCame f then (s.pulseFor i).map fun b => (i, b) else none
  | none => none

/-- The next channel to test: the one whose test is repeated, otherwise, TPER frames after the last test, in ascending order
from the one after it (R266, R267). -/
def State.nextTest (s : State) : Option (Nat × Bool) :=
  s.retestNow.orElse fun _ =>
    if s.frameCame s.out.testFrame then
      ((List.range 16).map fun k => (s.out.testNext + k) % 16).findSome? fun i =>
        (s.pulseFor i).map fun b => (i, b)
    else none

/-- No cause of the last row of Table 11.3 is present, and no pulse is in progress. -/
def State.testDue (s : State) : Bool :=
  s.alive && !s.sleeping && s.out.test.isNone && s.diagOn && s.power.holdAt.isNone

/-- TEST_PULSE_START (R266): at TSLOT a pulse starts on the next enabled channel. -/
def execTestPulseStart (s : State) : Result :=
  let s := s.advanceTo (s.fstart + 1000 * min 949 (s.get Reg.OUT_TESTCFG_TSLOT))
  if s.testDue then
    match s.nextTest with
    | none => .next s
    | some (i, bright) =>
      let len := if bright then clampN 1 20 (s.get Reg.OUT_TESTCFG_BRIGHT) else clampN 1 50 (s.get Reg.OUT_TESTCFG_DARK)
      let tper := clampN 1 255 (s.get Reg.OUT_TESTCFG_TPER)
      let s := { s with out := { s.out with
        test := some (i, bright), testEnd := s.now + 1000 * len, testFrame := (s.frame + tper) % 2 ^ 32,
        testNext := (i + 1) % 16, retest := s.out.retest.filter fun r => r.1 != i } }
      .next ((s.put (Reg.OUT_CHSTAT_STATE.at i) (if bright then 4 else 3)).putBit Reg.OUT_COND_ON i bright)
  else .next s

/-- TEST_PULSE_END (R266): the pulse ends and is judged by the current (dark) or the output level (bright). -/
def execTestPulseEnd (mA : Nat) (reached : Bool) (s : State) : Result :=
  match s.out.test with
  | none => .next s
  | some (i, bright) =>
    let s := (s.advanceTo s.out.testEnd).testOver i (if bright then 0 else 2)
    if (if bright then !reached else decide (50 ≤ mA)) then .next (s.testFails i) else .next s

/-! ### Safety Net (R269 to R273) -/

/-- LH_INPUT_CHANGE (R272): the filtered level of an input changes. Low for 1 ms re-arms the channels that tripped,
and assigned channels follow while Safety Net is active. -/
def execLhInputChange (i : Fin 4) (high : Bool) (s : State) : Result :=
  if s.lhIn i = high then .next s
  else
    let rearm := high && decide (100000 ≤ s.now - s.lhm.lhAt.getD i 0)
    let m := s.lhMask i.val
    let s := if rearm then (List.range 16).foldl (fun s k =>
        if m.testBit k then s.setChan k { s.chan k with tripped := false } else s) s
      else s
    let s := { s with lhm := { s.lhm with lhAt := s.lhm.lhAt.set i s.now } }
    .next (s.putBit Reg.LHM_STAT_LHIN i high).refreshChannels

/-- HOST_REQUEST_WRITE (R269): the register's request is set or cleared. -/
def execHostRequestWrite (_ini : Ini) (req : Bool) (s : State) : Result :=
  .next ((s.putB Reg.LHM_HREQ_REQ req).hostRequest 0 req)

/-- SAFETY_NET_RELEASE (R273): Pair A alone releases, and only when no cause persists. -/
def execSafetyNetRelease (ini : Ini) (s : State) : Result :=
  if ini ≠ .pairA then .next (s.accessFault ini true Reg.LHM_CTRL)
  else if !s.snActive then .next s
  else if s.snCausePersists then .next (s.raise Ev.LHM_RELEASE_REFUSED)
  else .next s.snEnd

/-- LHM_LOCK (R270): the assignment registers become the assignment, or the write is refused. -/
def execLhmLock (_ini : Ini) (s : State) : Result := .next s.lhmLock

end Sys2Proof.Machine
end

