-- ==== Sys2Proof/Machine/Cores.lean ====
section
/-!
DEFINITION. The lockstep core pairs (R309 to R319, R330 to R333): checkpoints, pair restarts, Trapeze aborts, debug
halts, and the commands of the CPA and CPB pages. The instructions that a pair executes are outside the block: what
they write and read comes in as commands.
-/
namespace Sys2Proof.Machine

/-- Checkpoint slot `k` of a pair (Table 14.4). -/
def slotAddr (p : Pair) (k : Nat) : Nat := 0x11000000 + 0x20000 * p.idx + 0x10000 * k

/-- The private SRAM of a pair (Table 14.4). -/
def sramAddr : Pair → Nat
  | .a => 0x10000000
  | .b => 0x10080000

/-- CKLEN in bytes. -/
def State.ckBytes (s : State) (p : Pair) : Nat := 1024 * min 62 (s.get (Reg.CP_CKPTCFG_CKLEN.at p.idx))

/-- The bank in use. -/
def State.bank (s : State) (p : Pair) : Nat := s.get (Reg.CP_STAT_BANK.at p.idx)

/-- `CPx.BANKSEL`, active and staged copy, and `CPx.STAT.BANK`. -/
def State.putBank (s : State) (p : Pair) (b : Nat) : State :=
  ((s.put (Reg.CP_BANKSEL_BANK.at p.idx) b).put ((Reg.CP_BANKSEL_BANK.at p.idx).staged) b).put
    (Reg.CP_STAT_BANK.at p.idx) b

/-! ### Restart (R314 to R316) -/

/-- Restarts of a pair within the last 1,000 frames, the present one included (R315). -/
def State.recentRestarts (s : State) (p : Pair) : Nat :=
  ((s.core p).history.filter fun f => decide (s.framesSince f < 1000)).length

/-- Step 1 of a pair restart in the trigger tick: reset, tasks skipped, test pulse aborted, debug halt ended. More
than MAXRST restarts within 1,000 frames hold the pair in reset (R315). -/
def State.beginRestart (s : State) (p : Pair) (cause : Nat) : State :=
  let i := p.idx
  let s := (s.dropTasks p).abortTest
  let s := s.setCore p { s.core p with
    inReset := true, trigAt := s.now, ckHalt := false, steps := 0,
    history := s.frame :: ((s.core p).history.filter fun f => decide (s.framesSince f < 1000)) }
  let s := ((s.incSat (Reg.CP_RSTINFO_COUNT.at i)).put (Reg.CP_RSTINFO_CAUSE.at i) cause).putB
    (Reg.CP_RSTINFO_RESTARTED.at i) true
  let s := ((s.put (Reg.CP_RSTTICK_TICK.at i) s.tick).putB (Reg.CP_STAT_DBGHALT.at i) false).putB
    (Reg.CP_STAT_INRST.at i) true
  if clampN 1 15 (s.get (Reg.CP_RSTCFG_MAXRST.at i)) < s.recentRestarts p then
    let s := s.setCore p { s.core p with held := true }
    ((s.putB (Reg.CP_STAT_HALTED.at i) true).putB (Reg.CP_STAT_INRST.at i) false).raise (Ev.PAIR_MISMATCH p)
  else s

/-- `CTS.STAT.HOLD` shows a Pair A swap (R67). -/
def State.swapHold (s : State) (p : Pair) (on : Bool) : State := if p = .a then s.putB Reg.CTS_STAT_HOLD on else s

/-- The old bank is selected again and the pair restored from the pinned slot, with CAUSE 5 (R66, R67, R332). -/
def State.trapezeAbort (s : State) (p : Pair) (old : Nat) : State :=
  let s := ((s.setCore p { s.core p with swap := none }).putBank p old).swapHold p false
  ((s.putB (Reg.CP_STAT_PIN.at p.idx) false).beginRestart p 5).raise (Ev.TRAPEZE_ABORT p)

/-- The freeze of a restart trigger of PAIR_MISMATCH or COMPARE_UNIT_FAULT (R384): trigger code 2. The manual gives its trigger
source no number: the model takes the pair's of Table 17.3 (DESIGN CHOICE, assumption 122). -/
def State.mismatchFreeze (s : State) (p : Pair) : State := s.freeze 2 (0x0A + p.idx)

/-- A pair restart is triggered (R314, R316): before READY of a new bank it is a Trapeze abort; a pair that is held, or
already in reset for a restart, is not triggered again. -/
def State.restartPair (s : State) (p : Pair) (cause : Nat) : State :=
  if s.power.phase ≠ .run ∨ (s.core p).held then s
  else
    match (s.core p).swap with
    | some sw => s.trapezeAbort p sw.1
    | none => if (s.core p).inReset then s else s.beginRestart p cause

/-- The pair runs: out of reset and not held, outside the halt between watch frames. -/
def State.pairRuns (s : State) (p : Pair) : Bool :=
  s.power.phase == .run && !(s.core p).held && !(s.core p).inReset && !s.coresIdle

/-! ### Checkpoints (R313, Table 14.1) -/

/-- The bytes that the CRC of a slot covers. -/
def State.slotCovered (s : State) (a len : Nat) : List Byte := s.bytes a 0x7FC ++ s.bytes (a + 0x800) len

/-- The length in bytes that a slot records. -/
def State.slotLen (s : State) (a : Nat) : Nat := 1024 * min 62 (s.num (a + 12) 4)

/-- A slot passes its CRC. -/
def State.slotOk (s : State) (a : Nat) : Bool :=
  decide (s.num (a + 0x7FC) 4 = crc32c (s.slotCovered a (s.slotLen a)))

/-- The bank of the program that READY has confirmed: the old one while a new bank waits for READY (R331). -/
def State.confirmedBank (s : State) (p : Pair) : Nat :=
  match (s.core p).swap with
  | some sw => sw.1
  | none => s.bank p

/-- Write a checkpoint of a pair into the slot that does not hold its newest valid one. -/
def State.writeSlot (s : State) (p : Pair) (arch : List Byte) : State :=
  let k := (s.core p).slot
  let a := slotAddr p k
  let len := s.ckBytes p
  let s := s.setBytes a (leBytes 4 (s.get Reg.TMB_GEN_GEN) ++ leBytes 4 s.frame ++ leBytes 4 (s.confirmedBank p) ++
    leBytes 4 (len / 1024) ++ arch.take 2016 ++ List.replicate 12 0)
  let s := s.setBytes (a + 0x800) (s.bytes (sramAddr p) len)
  let s := s.setMemWord (a + 0x7FC) (crc32c (s.slotCovered a len))
  let s := s.setCore p { s.core p with
    slot := 1 - k, copying := false, arch := if (s.core p).swap.isSome then (s.core p).arch else arch }
  (s.putBit (Reg.CP_CKSTAT_VALID.at p.idx) k true).put (Reg.CP_CKSTAT_FRAME.at p.idx) s.frame

/-- A checkpoint of the pair can be taken: not while it restarts, is held or is halted by debug (R313, R318). -/
def State.ckptCan (s : State) (p : Pair) : Bool :=
  s.pairRuns p && !s.flag (Reg.CP_STAT_DBGHALT.at p.idx) && !s.flag (Reg.CP_STAT_INRST.at p.idx)

/-- The boundary halts the pairs and starts the copies (R313, R318). Of a pair that this boundary resets onto a new bank the
checkpoint of the old program is taken as usual, and its slot is the pinned one (R67, R331); before READY the new program has
none. -/
def State.startCheckpoint (s : State) : State :=
  [Pair.a, Pair.b].foldl (fun s p =>
    let c := s.core p
    match c.swap with
    | none => s.setCore p { c with ckHalt := s.pairRuns p, copying := s.ckptCan p }
    | some sw =>
      let take := c.copying && c.swapAt == s.now
      s.setCore p { c with ckHalt := s.pairRuns p, copying := take, swap := some (sw.1, if take then c.slot else sw.2) }) s

/-- A frame whose schedule has no checkpoint entry takes none. -/
def State.noCheckpoint (s : State) : State :=
  (s.setCore .a { s.cpa with copying := false }).setCore .b { s.cpb with copying := false }

/-- Ticks of the copy of both pairs: 8 bytes per SYS cycle, three cycles a tick (R313), at half the SYS clock
in twice the time (R404). -/
def State.copyTicks (s : State) : Nat :=
  let n := (if s.cpa.copying then 2048 + s.ckBytes .a else 0) + (if s.cpb.copying then 2048 + s.ckBytes .b else 0)
  ((if s.flag Reg.CLK_STAT_SYSHALF then 2 else 1) * (n / 8) + 2) / 3

/-- The pair leaves reset at the ENTRY of its region in the bank in use, in the execution window (R328, Table 14.4). -/
def State.startEntry (s : State) (p : Pair) : State :=
  let entry := 0x08000000 + s.num (0x200000 * (2 * s.bank p + p.idx) + 0x0C) 4
  s.setCore p { s.core p with inReset := false, arch := [], mcause := 0, killTrap := false, entry }

/-- Load the newest valid slot that passes its CRC (R314 step 2), which the next checkpoint then keeps; a slot that fails is no
longer valid. With none the pair starts at its ENTRY with CAUSE 6. -/
def State.restorePair (s : State) (p : Pair) : State :=
  let i := p.idx
  let order := [1 - (s.core p).slot, (s.core p).slot].filter fun k => s.bit (Reg.CP_CKSTAT_VALID.at i) k
  let good := order.filter fun k => s.slotOk (slotAddr p k)
  let s := if order = [] ∨ good ≠ order then s.putB (Reg.CP_CKSTAT_CRCERR.at i) true else s
  let s := s.put (Reg.CP_CKSTAT_VALID.at i) (bitsOf [good.contains 0, good.contains 1])
  match good with
  | k :: _ =>
    let a := slotAddr p k
    let arch := s.bytes (a + 0x10) 2016
    let mepc := s.num (a + 0x10) 4
    let s := (s.put (Reg.CP_CKSTAT_FRAME.at i) (s.num (a + 4) 4)).setBytes (sramAddr p) (s.bytes (a + 0x800) (s.slotLen a))
    s.setCore p { s.core p with slot := 1 - k, inReset := false, arch, mepc, mcause := 0x80000018, killTrap := false }
  | [] => (s.startEntry p).put (Reg.CP_RSTINFO_CAUSE.at i) 6

/-! ### The boot record (R325, R331) -/

/-- Write the boot record once the hold-up monitor reports 1.2 mJ; until then the write waits. -/
def State.writeBoot (s : State) (a b : Nat) : State :=
  if 1200 ≤ s.get Reg.PWR_HOLDE_UJ then
    { s with ret := { s.ret with boot := some (a, b) }, nvm := { s.nvm with bootDue := none } }
  else { s with nvm := { s.nvm with bootDue := some (a, b) } }

/-- A pair is reset onto the bank that its BANKSEL selects at a commit (R66, R67, R331): its tasks are skipped, a restore in
progress is over, and the newest checkpoint is pinned. `copying` says that the checkpoint of this boundary can still be taken
of the old program: `State.startCheckpoint` takes it and pins its slot instead. -/
def State.beginSwap (s : State) (p : Pair) (old new : Nat) : State :=
  let can := s.ckptCan p
  let s := (s.dropTasks p).abortTest
  let s := s.setCore p { s.core p with
    swap := some (old, 1 - (s.core p).slot), swapAt := s.now, ckHalt := false, copying := can }
  let s := ((s.put (Reg.CP_STAT_BANK.at p.idx) new).startEntry p).putB (Reg.CP_STAT_INRST.at p.idx) false
  (s.putB (Reg.CP_STAT_PIN.at p.idx) true).swapHold p true

/-- The time within which READY must be written after a bank change: 50 ms for Pair A, 1 s for Pair B. -/
def readyLimit : Pair → Nat
  | .a => 5000000
  | .b => 100000000

/-! ### Commands -/

/-- PAIR_MISMATCH (R311): the access never reaches the bus; the pair restarts with CAUSE 1. -/
def execPairMismatch (pair : Pair) (addr : Nat) (s : State) : Result :=
  if s.pairRuns pair then
    .next ((((s.put (Reg.CP_MMADDR_ADDR.at pair.idx) addr).raise (Ev.PAIR_MISMATCH pair)).restartPair pair 1).mismatchFreeze pair)
  else .next s

/-- Record the cause of a COMPARE_UNIT_FAULT: DISAGREE, C1TEST, C2TEST, PARITY. -/
def State.compareFault (s : State) (p : Pair) (dis c1 c2 par : Bool) : State :=
  let i := p.idx
  let s := ((s.putB (Reg.CP_CMPSTAT_DISAGREE.at i) dis).putB (Reg.CP_CMPSTAT_C1TEST.at i) c1).putB
    (Reg.CP_CMPSTAT_C2TEST.at i) c2
  (((s.putB (Reg.CP_CMPSTAT_PARITY.at i) par).raise (Ev.COMPARE_UNIT_FAULT p)).restartPair p 2).mismatchFreeze p

/-- COMPARE_UNIT_FAULT (R311): copies that disagree, or a parity bit of the delay stage; treated as a mismatch. Where the copies
disagree one of them reports a difference, so that the access at `addr` is a pair mismatch as well. -/
def execCompareUnitFault (pair : Pair) (parity : Bool) (s : State) (addr : Nat := 0) : Result :=
  if s.pairRuns pair then
    let s := if parity then s else (s.put (Reg.CP_MMADDR_ADDR.at pair.idx) addr).raise (Ev.PAIR_MISMATCH pair)
    .next (s.compareFault pair (!parity) false false parity)
  else .next s

/-- COMPARATOR_FRAME_TEST (R312): both copies and the parity check must report what is forced on them. -/
def execComparatorFrameTest (pair : Pair) (c1 c2 parity : Bool) (s : State) : Result :=
  if s.pairRuns pair && !s.flag (Reg.CP_STAT_INRST.at pair.idx) && !s.flag (Reg.CP_STAT_DBGHALT.at pair.idx) then
    let s := s.advanceTo (s.fstart + 14200)
    if c1 && c2 && parity then .next (s.put (Reg.CP_CMPSTAT_TESTAGE.at pair.idx) 0)
    else .next (s.compareFault pair false (!c1) (!c2) (!parity))
  else .next s

/-- CHECKPOINT_COMPLETE (R313): both pairs' slots are written, with the architectural states at the halt. -/
def execCheckpointComplete (archA archB : List Byte) (s : State) : Result :=
  let s := s.advanceTo (if s.cpa.copying || s.cpb.copying then s.fstart + s.copyTicks else s.now)
  let s := if s.cpa.copying then s.writeSlot .a archA else s
  .next (if s.cpb.copying then s.writeSlot .b archB else s)

/-- PAIR_HALT_END (R313): at F + 15,000 the pairs resume. -/
def execPairHaltEnd (s : State) : Result :=
  let s := s.advanceTo (s.fstart + 15000)
  let s := s.setCore .a { s.cpa with ckHalt := false }
  .next (s.setCore .b { s.cpb with ckHalt := false })

/-- PAIR_RESTART_REQUEST (R314, R333): by the page's own pair only. -/
def execPairRestartRequest (ini : Ini) (pair : Pair) (s : State) : Result :=
  if ini = pair.ini then .next (s.restartPair pair 4)
  else .next (s.accessFault ini true (Reg.CP_CTRL + 0x1000 * pair.idx))

/-- RESTORE_COMPLETE (R314): the pair leaves reset with its restart trap, or at its ENTRY. A copy in progress completes
first. -/
def execRestoreComplete (pair : Pair) (s : State) : Result :=
  if (s.core pair).inReset && !(s.core pair).held && !(s.core pair).copying && s.power.phase == .run && s.power.holdAt.isNone && !s.sleeping then
    .next (s.restorePair pair)
  else .next s

/-- RESTART_TIMEOUT (R314): 200,000 ticks after its trigger the restart ends without READY. -/
def execRestartTimeout (pair : Pair) (s : State) : Result :=
  if s.flag (Reg.CP_STAT_INRST.at pair.idx) then
    .next ((s.advanceTo ((s.core pair).trigAt + 200000)).putB (Reg.CP_STAT_INRST.at pair.idx) false)
  else .next s

/-- PAIR_READY (R314, R331, R333): ends a restart, or confirms a new bank within its time. -/
def execPairReady (ini : Ini) (pair : Pair) (s : State) : Result :=
  if ini ≠ pair.ini then .next (s.accessFault ini true (Reg.CP_READY + 0x1000 * pair.idx))
  else
    match (s.core pair).swap with
    | some _ =>
      if s.now < (s.core pair).swapAt + readyLimit pair then
        let s := (s.setCore pair { s.core pair with swap := none }).swapHold pair false
        .next ((s.putB (Reg.CP_STAT_PIN.at pair.idx) false).writeBoot (s.confirmedBank .a) (s.confirmedBank .b))
      else .next s
    | none => .next (s.putB (Reg.CP_STAT_INRST.at pair.idx) false)

/-- TRAPEZE_READY_TIMEOUT (R66, R67): the old bank again, restored from the pinned checkpoint. -/
def execTrapezeReadyTimeout (pair : Pair) (s : State) : Result :=
  match (s.core pair).swap with
  | some sw => .next ((s.advanceTo ((s.core pair).swapAt + readyLimit pair)).trapezeAbort pair sw.1)
  | none => .next s

/-- A contactor role channel is on. -/
def State.anyRoleOn (s : State) : Bool := s.rolesOn != 0

/-- DEBUG_HALT (R317, R318, R432): by the debug port only; refused under DBGLOCK, and for Pair A with a role on. -/
def execDebugHalt (ini : Ini) (pair : Pair) (s : State) : Result :=
  let i := pair.idx
  if ini ≠ .debug then .next s
  else if s.flag Reg.NVM_SECCFG_DBGLOCK ∨ (pair = .a ∧ s.anyRoleOn) then
    .next ((s.putB (Reg.CP_STAT_DBGREF.at i) true).raise Ev.DBG_SERVICE)
  else if s.pairRuns pair then
    .next (((s.dropTasks pair).putB (Reg.CP_STAT_DBGREF.at i) false).putB (Reg.CP_STAT_DBGHALT.at i) true)
  else .next (s.putB (Reg.CP_STAT_DBGREF.at i) false)

/-- DEBUG_RESUME (R317). -/
def execDebugResume (ini : Ini) (pair : Pair) (s : State) : Result :=
  if ini = .debug then .next (s.putB (Reg.CP_STAT_DBGHALT.at pair.idx) false) else .next s

/-- DEBUG_STEP (R317): one instruction on both cores of a halted pair. -/
def execDebugStep (ini : Ini) (pair : Pair) (s : State) : Result :=
  if ini = .debug ∧ s.flag (Reg.CP_STAT_DBGHALT.at pair.idx) then
    .next (s.setCore pair { s.core pair with steps := (s.core pair).steps + 1 })
  else .next s

/-- Both cores of a pair take an access-fault exception: `mcause` 5 for a load, 7 for a store (R309, R319). -/
def State.pairFault (s : State) (p : Pair) (write : Bool) : State :=
  s.setCore p { s.core p with faults := (s.core p).faults + 1, mcause := if write then 7 else 5 }

/-- The memory map permits the access of a pair (Table 14.4): a write to a program region goes by R320, one to data MRAM by
Table 14.5. -/
def mapPermits (p : Pair) (write : Bool) (a : Nat) : Bool :=
  let within := fun (lo hi : Nat) => decide (lo ≤ a) && decide (a < hi)
  within 0 0x00800000 || within 0x40000000 0x40020000 || within 0x101C0000 0x10200000 ||
    (match p with | .a => within 0x10000000 0x10080000 | .b => within 0x10080000 0x101C0000) ||
    within 0x00820000 0x00860000 || within 0x008A0000 0x00900000 ||
    (!write && (within 0x00800000 0x00900000 || within 0x08000000 0x08200000 || within 0x11000000 0x11040000 ||
      within 0x12000000 0x12030000 || within 0x20000000 0x20008000))

/-- MEMORY_ACCESS_FAULT (R319): an access that the map does not permit is an access-fault exception on both cores alike; no
mismatch. -/
def execMemoryAccessFault (pair : Pair) (write : Bool) (addr : Nat) (s : State) : Result :=
  if s.pairRuns pair && !mapPermits pair write addr then .next (s.pairFault pair write) else .next s

/-- ECC_ERROR (R323): a corrected error is counted; an uncorrectable one is recorded and returns an access fault. -/
def execEccError (pair : Pair) (mram corrected : Bool) (addr : Nat) (s : State) : Result :=
  if corrected then
    .next ((s.incSat (if mram then Reg.NVM_ECCCNT_MRAM else Reg.NVM_ECCCNT_SRAM)).raise Ev.NVM_ECC)
  else .next (((s.put Reg.NVM_ECCADDR_ADDR addr).raise Ev.NVM_ECC_FATAL).pairFault pair false)

end Sys2Proof.Machine
end

