-- ==== Sys2Proof/Machine/Tickets.lean ====
section
/-!
DEFINITION. The words of the CAN message objects (Table 15.1) and the Ticket connections (R352 to R358): binding, seal,
receive check, expectation windows and recovery.
-/
namespace Sys2Proof.Machine

/-! ### Objects (Table 15.1) -/

/-- The hidden state of channel `ch` (0 for CAN1). -/
def State.canOf (s : State) (ch : Nat) : Can := s.can.getD ch {}

/-- Replace it. -/
def State.setCan (s : State) (ch : Nat) (c : Can) : State := { s with can := s.can.set ch c }

/-- Word `w` of object `k` of a channel. -/
def State.objWord (s : State) (ch k w : Nat) : Nat := nget (19 * k + w) (s.canOf ch).obj

/-- Write it. -/
def State.setObjWord (s : State) (ch k w v : Nat) : State :=
  let c := s.canOf ch
  s.setCan ch { c with obj := nset (19 * k + w) (v % 2 ^ 32) c.obj }

/-- Bit `i` of word `w` of an object. -/
def State.objBit (s : State) (ch k w i : Nat) : Bool := (s.objWord ch k w).testBit i

/-- Write it. -/
def State.setObjBit (s : State) (ch k w i : Nat) (b : Bool) : State :=
  s.setObjWord ch k w (bitTo (s.objWord ch k w) i b)

/-- Data byte `i` of an object: byte 4·k + i in bits [8·i + 7:8·i] of word 3 + k. -/
def State.objByte (s : State) (ch k i : Nat) : Nat := s.objWord ch k (3 + i / 4) / 256 ^ (i % 4) % 256

/-- Write it. -/
def State.setObjByte (s : State) (ch k i b : Nat) : State :=
  let w := s.objWord ch k (3 + i / 4)
  let u := 256 ^ (i % 4)
  s.setObjWord ch k (3 + i / 4) (w - (w / u % 256) * u + b % 256 * u)

/-- Write bytes from byte `i` on. -/
def State.setObjBytes (s : State) (ch k i : Nat) : List Nat → State
  | [] => s
  | b :: bs => (s.setObjByte ch k i b).setObjBytes ch k (i + 1) bs

/-- Data length of a data length code (ISO 11898-1; a classic frame carries at most 8 bytes). -/
def dlcLen (fdf : Bool) (dlc : Nat) : Nat :=
  let n := [0, 1, 2, 3, 4, 5, 6, 7, 8, 12, 16, 20, 24, 32, 48, 64].getD (dlc % 16) 64
  if fdf then n else min 8 n

/-- The data length code of `L + 8` bytes for the Ticket payload lengths (R352). -/
def ticketDlc (len : Nat) : Nat :=
  match len with
  | 0 => 8 | 4 => 9 | 8 => 10 | 12 => 11 | 16 => 12 | 24 => 13 | 40 => 14 | _ => 15

/-- The channel runs on this device: its page exists (R3), and CAN2 to CAN4 run only on the lead (R336). -/
def State.canRuns (s : State) (ch : Nat) : Bool := s.pageOn (22 + ch) && (ch == 0 || s.isLead)

/-- The protocol engine takes part in bus traffic: not in INIT, joined (R348), not asleep (R350), not bus-off. -/
def State.canOnBus (s : State) (ch : Nat) : Bool :=
  s.alive && s.canRuns ch && !s.flag (Reg.CAN_CTRL_INIT.at ch) && (s.canOf ch).joined &&
    !s.flag (Reg.CAN_STAT_SLEEP.at ch) && s.get (Reg.CAN_STAT_ESTATE.at ch) != 2

/-- Object `k` of the channel lies in an open CANTX window that names it (R345). -/
def State.cantxOpen (s : State) (ch k : Nat) : Bool :=
  s.tt.cantx.any fun w => w.1 == ch && w.2.1 == k && decide (s.now < w.2.2)

/-! ### Connections (R354) -/

/-- Hidden state of connection `n`. -/
def State.connOf (s : State) (n : Nat) : Conn := s.conn.getD n {}

/-- Replace it. -/
def State.setConn (s : State) (n : Nat) (c : Conn) : State := { s with conn := s.conn.set n c }

/-- `CONnSTAT.STATE`: 0 OFF, 1 START, 2 RUN, 3 EXPIRED. -/
def State.connState (s : State) (n : Nat) : Nat := s.get (Reg.TKT_STAT_STATE.at n)

/-- Network time in ms, low 16 bits (R349). -/
def State.nowMs (s : State) : Nat := s.tick / 100000 % 65536

/-- The connections are suspended: the profile is Watch or Sleep (R351). -/
def State.tktSuspended (s : State) : Bool := s.get Reg.SYS_PROFSTAT_PROF != 0

/-- Length of the expectation window in ticks: E of 1 ms to 1,000 ms (R354, R460). -/
def State.connWindow (s : State) (n : Nat) : Nat := 100000 * clampN 1 1000 (s.get (Reg.TKT_TIM_EXP.at n))

/-- The causes of sources 11 and 12: connections in EXPIRED with REACT = 1, by RSEL (R358). -/
def State.tktCauses (s : State) : State :=
  let of := fun (rsel : Bool) => bitsOf ((List.range 32).map fun n =>
    s.connState n == 3 && s.flag (Reg.TKT_CFG_REACT.at n) && s.flag (Reg.TKT_CFG_RSEL.at n) == rsel)
  { s with saf := { s.saf with tka := of false, tkb := of true } }

/-- Give a connection a state; `EXPD` shows the connections in EXPIRED. -/
def State.connTo (s : State) (n st : Nat) : State :=
  (s.put (Reg.TKT_STAT_STATE.at n) st).putBit Reg.TKT_EXPD_EXP n (st == 3)

/-- A connection enters START with its window from now (R354, R357). -/
def State.connStart (s : State) (n : Nat) : State :=
  (s.connTo n 1).setConn n { s.connOf n with t := s.now, recN := 0 }

/-- The object that connection `n` would hold: its channel is not disabled nor idle, and the object is valid with the
connection's direction (R354). A channel in configuration mode is idle. -/
def State.connWants (s : State) (n : Nat) : Option (Nat × Nat × Bool) :=
  let ch := s.get (Reg.TKT_CFG_CH.at n)
  let k := s.get (Reg.TKT_CFG_OBJ.at n)
  let dir := s.flag (Reg.TKT_CFG_DIR.at n)
  if s.flag (Reg.TKT_CFG_EN.at n) && s.canRuns ch && !s.flag (Reg.CAN_CTRL_INIT.at ch) && s.objBit ch k 0 31 &&
      s.objBit ch k 0 30 == dir then some (ch, k, dir) else none

/-- Connection `n` leaves its binding or takes one; an object goes to the lowest-numbered connection (R354). -/
def State.connBind (s : State) (n : Nat) : State :=
  let held := (List.range n).filterMap fun m => (s.connOf m).bound
  let want : Option (Nat × Nat × Bool) := match s.connWants n with
    | some b => if held.any (fun h => h.1 == b.1 && h.2.1 == b.2.1) then none else some b
    | none => none
  let c := s.connOf n
  if want == c.bound then s
  else
    let s := s.setConn n { c with bound := want }
    if want.isSome then s.connStart n else s.connTo n 0

/-- Every object's TKT bit shows whether a connection holds it (R354). -/
def State.tktBits (s : State) (old : List (Nat × Nat × Bool)) : State :=
  let s := old.foldl (fun s b => s.setObjBit b.1 b.2.1 1 20 false) s
  (s.conn.filterMap (·.bound)).foldl (fun s b => s.setObjBit b.1 b.2.1 1 20 true) s

/-- The conditions of R354 are evaluated again. -/
def State.tktRebind (s : State) : State :=
  let old := s.conn.filterMap (·.bound)
  ((((List.range 32).foldl State.connBind s).tktBits old).tktCauses).protect

/-- The connection that holds object `k` of channel `ch`. -/
def State.connAt (s : State) (ch k : Nat) (dir : Bool) : Option Nat :=
  (List.range 32).find? fun n => (s.connOf n).bound == some (ch, k, dir)

/-! ### Expiry and recovery (R357, R358) -/

/-- A connection expires. -/
def State.connExpire (s : State) (n : Nat) : State :=
  let s := s.setConn n { s.connOf n with recN := 0 }
  (((s.connTo n 3).raise Ev.TKT_EXPIRED).tktCauses).protect

/-- Its window has ended without acceptance or transmission. -/
def State.connDue (s : State) (n : Nat) : Bool :=
  (s.connState n == 1 || s.connState n == 2) && !s.tktSuspended && decide ((s.connOf n).t + s.connWindow n ≤ s.now)

/-- An acceptance at the end tick belongs to the next window (R357): the window that ended without one expires first. -/
def State.connExpireIfDue (s : State) (n : Nat) : State := if s.connDue n then s.connExpire n else s

/-- A Ticket is accepted, or a send connection has transmitted: the window restarts; START becomes RUN, and an expired
connection counts toward recovery (R356, R357, R358). -/
def State.connProgress (s : State) (n : Nat) : State :=
  let c := s.connOf n
  let near : Bool := match c.recAt with
    | some t => decide (s.now < t + s.connWindow n)
    | none => false
  let st := s.connState n
  let k : Nat := if st = 3 ∧ near then c.recN + 1 else 0
  let s := s.setConn n { c with t := s.now, recAt := some s.now, recN := k }
  if st = 1 then s.connTo n 2
  else if st = 3 ∧ clampN 1 15 (s.get (Reg.TKT_TIM_RECOV.at n)) ≤ k then
    ((((s.setConn n { s.connOf n with recN := 0 }).connTo n 2).raise Ev.TKT_RECOVERED).tktCauses).protect
  else s

/-! ### Receiving (R356) -/

/-- A rejection leaves state and window unchanged. -/
def State.connReject (s : State) (n reason : Nat) : State :=
  let s := s.setConn n { s.connOf n with recN := 0 }
  ((((s.put (Reg.TKT_STAT_REASON.at n) reason).put Reg.TKT_REJLAST_CON n).put Reg.TKT_REJLAST_REASON reason).incSat
    Reg.TKT_REJCNT_COUNT).raise Ev.TKT_REJECTED

/-- The CRC of a Ticket: connection identity, payload, SEQ and TS (R353). -/
def ticketCrc (id : Nat) (payload : List Nat) (seq ts : Nat) : Nat :=
  crc32c (leBytes 4 id ++ payload.map (BitVec.ofNat 8) ++ leBytes 2 seq ++ leBytes 2 ts)

/-- Little-endian number in data bytes `i` to `i + k − 1` of an object. -/
def State.objNum (s : State) (ch k i : Nat) : Nat → Nat
  | 0 => 0
  | j + 1 => s.objByte ch k i + 256 * s.objNum ch k (i + 1) j

/-- `connection c, frame f`: the check of the frame just stored, of the given length and identifier format, in the object
that connection `n` holds (R356). -/
def State.connCheck (s : State) (n ch k len : Nat) (xtd : Bool) : State :=
  let s := s.connExpireIfDue n
  let c := s.connOf n
  let l := s.get (Reg.TKT_CFG_LEN.at n)
  let seq := s.objNum ch k l 2
  let ts := s.objNum ch k (l + 2) 2
  let run := s.connState n == 2
  let d := signed 16 ((seq + 65536 - c.seq) % 65536)
  let age := signed 16 ((s.nowMs + 65536 - ts) % 65536)
  let maxAge := min 1000 (s.get (Reg.TKT_TIM_AGE.at n))
  if len ≠ l + 8 ∨ xtd ≠ s.objBit ch k 0 29 then s.connReject n 1
  else if ticketCrc (s.get (Reg.TKT_ID_ID.at n)) ((List.range l).map (s.objByte ch k)) seq ts ≠ s.objNum ch k (l + 4) 4 then
    s.connReject n 2
  else if run ∧ d ≤ 0 then s.connReject n 3
  else if run ∧ signed 16 ((ts + 65536 - c.ts) % 65536) < 0 then s.connReject n 4
  else
    let s := s.raiseIf (run && decide ((s.get (Reg.TKT_TIM_MAXGAP.at n) : Int) < d - 1)) Ev.TKT_GAP
    if maxAge ≠ 0 ∧ (age < -1 ∨ (maxAge : Int) < age) then s.connReject n 5
    else ((s.setConn n { s.connOf n with seq, ts }).put (Reg.TKT_STAT_SEQ.at n) seq).connProgress n

/-! ### Sending (R355) -/

/-- Seal the object of a send connection: source frame, SEQ, TS, CRC, DLC and FDF (R355). -/
def State.connSeal (s : State) (n ch k : Nat) : State :=
  let c := s.connOf n
  let l := s.get (Reg.TKT_CFG_LEN.at n)
  let seq : Nat := if c.sent then (c.seq + 1) % 65536 else 0
  let ts := s.nowMs
  let src := s.get Reg.EST_SRCFRAME_FRAME % 65536
  let s := if s.flag (Reg.TKT_CFG_SRCF.at n) && l != 0 then s.setObjBytes ch k 0 [src % 256, src / 256] else s
  let crc := ticketCrc (s.get (Reg.TKT_ID_ID.at n)) ((List.range l).map (s.objByte ch k)) seq ts
  let s := s.setObjBytes ch k l ((leBytes 2 seq ++ leBytes 2 ts ++ leBytes 4 crc).map (·.toNat))
  let w := s.objWord ch k 1
  let w := w - w / 2 ^ 24 % 16 * 2 ^ 24 + ticketDlc l * 2 ^ 24
  s.setObjWord ch k 1 (if 8 < l + 8 then bitTo w 31 true else w)

/-- Seal the object where a send connection holds it. -/
def State.sealObj (s : State) (ch k : Nat) : State :=
  match s.connAt ch k true with
  | some n => s.connSeal n ch k
  | none => s

/-- A CANTX window opens: a scheduled object whose NEW is set is sealed (R355). -/
def State.cantxOpens (s : State) (ch k : Nat) : State :=
  if s.objBit ch k 1 29 && s.objBit ch k 1 0 then s.sealObj ch k else s

/-- An object has been sent successfully: its Ticket consumes the SEQ (R355). -/
def State.connSent (s : State) (ch k : Nat) : State :=
  match s.connAt ch k true with
  | some n =>
    let s := s.connExpireIfDue n
    let seq := s.objNum ch k (s.get (Reg.TKT_CFG_LEN.at n)) 2
    ((s.setConn n { s.connOf n with seq, sent := true }).put (Reg.TKT_STAT_SEQ.at n) seq).connProgress n
  | none => s

/-- Run from a boundary: each enabled connection enters START with its first window from it (R351). -/
def State.tktResume (s : State) : State :=
  (((List.range 32).foldl (fun s n => if s.connState n = 0 then s else s.connStart n) s).tktCauses).protect

/-- TICKET_EXPIRY (R357): a connection's window ends without acceptance or transmission. -/
def execTicketExpiry (con : Fin 32) (s : State) : Result :=
  let n := con.val
  if s.alive && (s.connState n == 1 || s.connState n == 2) && !s.tktSuspended then
    .next ((s.advanceTo ((s.connOf n).t + s.connWindow n)).connExpire n)
  else .next s

end Sys2Proof.Machine
end

