-- ==== Sys2Proof/Machine/Timetable.lean ====
section
/-!
DEFINITION. The commands of the timetable engine (R43 to R58): loads, task completions and overruns, and the release of
a slot's entries.
-/
namespace Sys2Proof.Machine

/-! ### Staging as far as the engine touches it (R53, R59, R61) -/

/-- `STGSTAT.STATE` of a page (Table 2.7): 0 SYNC, 1 EDITED, 2 ARMED, 3 CHECKED. -/
def stgstatAddr (page : Nat) : Nat := pageBase page + 0x24
def stgField (page : Nat) : Fld := ⟨stgstatAddr page, 0, 3, 4⟩
def xmisField (page : Nat) : Fld := ⟨stgstatAddr page, 8, 1, 4⟩

/-- Set the staging state of every page of a mask. -/
def State.stageMask (s : State) (mask st : Nat) : State :=
  (List.range 32).foldl (fun s p => if mask.testBit p then s.put (stgField p) st else s) s

/-- The pending commit is over: nothing is armed. `st` is `STG.STAT.STATE`. -/
def State.stgEnd (s : State) (st : Nat) : State :=
  let s := { s with stg := { digests := s.stg.digests } }
  ((s.put Reg.STG_STAT_STATE st).putB Reg.STG_STAT_CASCADE false).put Reg.STG_STAT_SLIPS 0

/-- A pending commit is cancelled (R61): the masked pages return to EDITED with STG_DISARMED. A cascade commit that the
lead cancels is disarmed on every follower that received the arm (R64). -/
def State.stgCancel (s : State) : State :=
  if !s.stg.armed then s
  else
    let s := if s.isLead ∧ s.stg.cascade then s.send .disarm 8 s.stg.mask 0 else s
    ((s.stageMask s.stg.mask 1).stgEnd 0).raise Ev.STG_DISARMED

/-- A pending commit masks a page. -/
def State.armedPage (s : State) (page : Nat) : Bool := s.stg.mask.testBit page

/-! ### Loads -/

/-- IMAGE_LOAD (R52, R53): into a buffer that is not active; a pending commit that selects the buffer is disarmed. While a load
is in progress another one has no effect (DESIGN CHOICE, assumption 92). -/
def execImageLoad (_ini : Ini) (buf go : Bool) (s : State) : Result :=
  if !go ∨ s.tt.active = some buf.toNat ∨ s.tt.loading.isSome then .next s
  else
    let s := if s.armedPage 4 ∧ s.get Reg.TT_IMGSEL_BUF.staged = buf.toNat then s.stgCancel else s
    let s := s.putLoad buf.toNat 1 0
    .next { s with tt := { s.tt with
      loading := some (buf.toNat, s.get Reg.TT_LOADADDR_ADDR), bufs := s.tt.bufs.set buf.toNat none } }

/-- IMAGE_LOAD_DONE (R52): the buffer becomes valid, or is refused with the first reason of Table 2.6. -/
def execImageLoadDone (s : State) : Result :=
  match s.tt.loading with
  | none => .next s
  | some (buf, a) =>
    let reason := s.imageReason a
    let img := s.imageAt a
    let s := { s with tt := { s.tt with loading := none } }
    if reason = 0 then .next ({ s with tt := { s.tt with bufs := s.tt.bufs.set buf (some img) } }.putLoad buf 2 0)
    else .next ((s.putLoad buf 3 reason).raise Ev.TT_IMAGE_REFUSED)

/-! ### Tasks (R54, R55) -/

/-- The task of an entry in progress. -/
def State.taskOf (s : State) (entry : Nat) : Option Task := s.tt.tasks.find? (·.entry == entry)

/-- The task of an entry is over. -/
def State.endTask (s : State) (entry : Nat) : State :=
  { s with tt := { s.tt with tasks := s.tt.tasks.filter (·.entry != entry) } }

/-- Set the count of consecutive overruns of an entry. -/
def State.setOver (s : State) (entry n : Nat) : State := { s with tt := { s.tt with overruns := nset entry n s.tt.overruns } }

/-- OVRLIM. -/
def State.ovrLimit (s : State) : Nat := clampN 1 15 (s.get Reg.TT_OVRLIM_LIMIT)

/-- An overrun is raised and recorded with its consecutive count (R54 step 1, Table 2.11). -/
def State.noteOverrun (s : State) (entry typ n : Nat) : State :=
  (((s.raise Ev.TT_OVERRUN).put Reg.TT_OVRSTAT_COUNT (min 15 n)).put Reg.TT_OVRSTAT_TYPE typ).put Reg.TT_OVRSTAT_ENTRY entry

/-- A task overruns. -/
def State.overrun (s : State) (entry typ : Nat) : State :=
  let n := nget entry s.tt.overruns + 1
  (s.setOver entry n).noteOverrun entry typ n

/-- An accelerator overruns: its frames are counted, whichever of its entries overran (R56). -/
def State.accelOverrun (s : State) (entry typ : Nat) : State :=
  let n := nget typ s.tt.accelOver + (if nget typ s.tt.accelAt = s.fstart + 1 then 0 else 1)
  ({ s with tt := { s.tt with
    accelOver := nset typ n s.tt.accelOver, accelAt := nset typ (s.fstart + 1) s.tt.accelAt } }).noteOverrun entry typ n

/-- The reset of an accelerator (R56): none of its runs goes on, and its frames are counted afresh. Its memories keep their
contents (assumption 91). -/
def State.accelReset (s : State) (typ : Nat) : State :=
  { s with tt := { s.tt with accel := s.tt.accel.filter (·.typ != typ), accelOver := nset typ 0 s.tt.accelOver } }

/-- Escalation of a task (R55): its pair restarts with CAUSE 3. -/
def State.escalate (s : State) (t : Task) : State :=
  (((s.setOver t.entry 0).endTask t.entry).raise Ev.TT_ESCALATE).restartPair t.pair 3

/-- TASK_DONE (R54): written by its pair before the overrun tick; a task without a budget only ends. -/
def execTaskDone (ini : Ini) (pair : Pair) (entry : Nat) (s : State) : Result :=
  match s.taskOf entry with
  | some t =>
    if ini ≠ pair.ini ∨ t.pair ≠ pair ∨ t.killed.isSome then .next s
    else if t.budget = 0 then .next (s.endTask entry)
    else if s.now < t.rel + t.budget then .next ((s.endTask entry).setOver entry 0)
    else .next s
  | none => .next s

/-- KILL_ACK (R54): within 1,000 ticks of the kill. -/
def execKillAck (ini : Ini) (pair : Pair) (entry : Nat) (s : State) : Result :=
  match s.taskOf entry with
  | some t =>
    match t.killed with
    | some k =>
      if ini = pair.ini ∧ t.pair = pair ∧ s.now < k + 1000 then
        .next ((s.endTask entry).setCore pair { s.core pair with killTrap := false })
      else .next s
    | none => .next s
  | none => .next s

/-- TASK_OVERRUN (R54, R55): BUDGET ticks after the release; the kill trap is raised, and the entry escalates in its
LIMIT-th consecutive frame. -/
def execTaskOverrun (entry : Nat) (s : State) : Result :=
  match s.taskOf entry with
  | some t =>
    if t.budget = 0 ∨ t.killed.isSome then .next s
    else
      let typ := match t.pair with | .a => 9 | .b => 0x0A
      let s := (s.advanceTo (t.rel + t.budget)).overrun entry typ
      if s.ovrLimit ≤ nget entry s.tt.overruns then .next (s.escalate t)
      else
        let s := s.setCore t.pair { s.core t.pair with killTrap := true }
        .next { s with tt := { s.tt with
          tasks := s.tt.tasks.map fun u => if u.entry == entry then { u with killed := some s.now } else u } }
  | none => .next s

/-- KILL_ACK_TIMEOUT (R55): a kill not acknowledged within 1,000 ticks escalates. -/
def execKillAckTimeout (entry : Nat) (s : State) : Result :=
  match s.taskOf entry with
  | some t =>
    match t.killed with
    | some k => .next ((s.advanceTo (k + 1000)).escalate t)
    | none => .next s
  | none => .next s

/-! ### Slot release (R44, R51, R57, R58) -/

/-- A pair task entry is released: the task runs from now within its budget (R47, R53). -/
def State.openTask (s : State) (e : Nat × Entry) (p : Pair) : State :=
  if s.pairSkips p then s.skipEntry
  else { s with tt := { s.tt with
    tasks := s.tt.tasks.filter (·.entry != e.1) ++ [⟨p, e.1, s.now, e.2.budget, none⟩] } }

/-- An accelerator entry is released: its run belongs in the window that ends at `fin` (R56). -/
def State.openAccel (s : State) (e : Nat × Entry) (fin : Nat) : State :=
  { s with tt := { s.tt with accel := s.tt.accel.filter (·.entry != e.1) ++ [⟨e.2.typ, e.1, s.now, fin⟩] } }

/-- Release one entry. A commit point has its own command, and the four slot-0 functions belong to the boundary: a MEAS and a
SYNC entry have no effect of their own, since sampling and the SYNC edge run at every boundary (DESIGN CHOICE, assumption
93). -/
def State.releaseEntry (s : State) (e : Nat × Entry) : State :=
  let fin := s.fstart + 1000 * (e.2.slot + e.2.winlen)
  -- die stage 2 or higher (Table 8.4)
  if 2 ≤ s.power.stage ∧ (e.2.typ = 8 ∨ (e.2.typ = 10 ∧ e.2.param % 2 = 0)) then s.skipEntry
  else match e.2.typ with
  | 5 => { s with tt := { s.tt with xfer := s.tt.xfer ++ [fin] } }
  | 6 => s.openAccel e fin
  | 7 => s.openAccel e fin
  | 8 => s.openAccel e fin
  | 9 => s.openTask e .a
  | 10 => s.openTask e .b
  | 11 =>
    let s : State := { s with tt := { s.tt with cantx := s.tt.cantx ++ [(e.2.target / 1024 % 4, e.2.target % 128, fin)] } }
    s.cantxOpens (e.2.target / 1024 % 4) (e.2.target % 128)
  | 12 =>
    match e.2.param % 16 with
    | 1 => s.submit 1
    | 2 => if s.isAnchor then s.requestIso else s
    | 4 => s.eisSweepStart
    | _ => s
  | _ => s

/-- Release every entry of a slot of the schedule in force. -/
def State.releaseSlot (s : State) (slot : Nat) : State :=
  let s := s.put Reg.TT_NOW_SLOT slot
  ((s.slotEntries slot).foldl State.releaseEntry s).settle

/-- SLOT_RELEASE (R44): at F + 1,000·s. -/
def execSlotRelease (slot : Nat) (s : State) : Result :=
  if s.alive && !s.sleeping then .next ((s.advanceTo (s.fstart + 1000 * slot)).releaseSlot slot) else .next s

end Sys2Proof.Machine
end

