-- ==== Sys2Proof/Machine/CurrentHv.lean ====
section
/-!
DEFINITION. Pack current and high voltage (R100 to R113, R115): the scaling of a set's shunt and divider results, the
frame means and their checks, and the overcurrent comparators.
-/
namespace Sys2Proof.Machine

/-- Model time `t` as TICK [31:0], for an instant not later than now. -/
def State.tickOf (s : State) (t : Nat) : Nat := (s.tick + 2 ^ 32 - (s.now - t) % 2 ^ 32) % 2 ^ 32

/-- A shunt or divider result held to its range, with its SAT flag (R103, R112). -/
def clipHv (v : Int) : Int × Bool := (clampI (-7500000) 7500000 v, decide (v < -7500000) || decide (7500000 < v))

/-- A shunt code as a current in mA (R104). -/
def State.shuntMA (s : State) (res pol : Fld) (code : Int) : Int :=
  let r := clampN 1000 10000000 (s.get res)
  let i := roundDiv (20000 * code) r
  if s.flag pol then -i else i

/-- A divider code as mV at its node (R112), with a 16.16 ratio. -/
def State.dividerMV (s : State) (ratio : Fld) (code : Int) : Int := roundDiv (code * s.get ratio) (5000 * 65536)

/-- A Hall code as mA (R110). -/
def State.hallMA (s : State) (code : Nat) : Int :=
  let sens := clampN 100 65535 (s.get Reg.IPK_HALLCAL_SENS)
  let i := roundDiv (((code : Int) - s.get Reg.IPK_HALLCAL_VZERO) * 76294) sens
  if s.flag Reg.IPK_CFG_HALLPOL then -i else i

/-- ISH2 has a role (R106): with `ISH2USE` 0 it is off and has no results. -/
def State.ish2On (s : State) : Bool := s.get Reg.IPK_CFG_ISH2USE != 0

/-- The shunt results of a set in their registers (R103, R104): ISH1, and ISH2 where it has a role. -/
def State.shuntShow (s : State) (i1 i2 : Int × Bool) (c1 c2 : Int) : State :=
  let s := ((s.putI Reg.IPK_ISH1_CODE i1.1).putB Reg.IPK_ISH1_SAT i1.2).putI Reg.IPK_CUR1_MA c1
  if s.ish2On then ((s.putI Reg.IPK_ISH2_CODE i2.1).putB Reg.IPK_ISH2_SAT i2.2).putI Reg.IPK_CUR2_MA c2 else s

/-- The Hall code of instant `t` in its registers: it changes with the set of its instant (R123). -/
def State.hallShow (s : State) (t : Nat) : State :=
  if s.ipk.nH = 0 ∨ s.ipk.hallAt ≠ t then s
  else (s.put Reg.IPK_HALL_CODE s.ipk.hall).putI Reg.IPK_HALLCUR_MA (s.hallMA s.ipk.hall)

/-- The frame sums take the results of a Fine instant (R106, R115, R128). -/
def State.fineSums (s : State) (c1 c2 chMV : Int) (volts : List Int) : State :=
  { s with
    ipk := { s.ipk with
      n := s.ipk.n + 1, sum1 := s.ipk.sum1 + c1, sum2 := s.ipk.sum2 + (if s.ish2On then c2 else 0),
      sumV := (s.ipk.sumV.zip volts).map fun v => v.1 + v.2 }
    iso := { s.iso with chSum := s.iso.chSum + chMV, chN := s.iso.chN + 1 } }

/-- A set's shunt and divider results reach their registers (R103, R104, R112), all at one instant; the Fine
instants enter the frame sums. In Fast mode the set of a Fine instant that is no Fast one only enters the sums (assumption 97).
Answers ISH1 in mA with SAT too. -/
def State.hvDeliver (s : State) (t : Nat) (set : SampleSet) (isFine show_ : Bool) : State × (Int × Bool) :=
  let i1 := clipHv set.ish1
  let i2 := clipHv set.ish2
  let c1 := s.shuntMA Reg.IPK_RSH1_RES Reg.IPK_CFG_POL1 i1.1
  let c2 := s.shuntMA Reg.IPK_RSH2_RES Reg.IPK_CFG_POL2 i2.1
  let ch := clipHv set.chassis
  let hv := set.hvd.map clipHv
  let s := s.raiseIf (i1.2 || (i2.2 && s.ish2On)) Ev.IPK_SAT
  let s := s.raiseIf (hv.any (·.2) || ch.2) Ev.HVM_SAT
  let s := if isFine then s.hallShow t else s
  let s := if show_ then
      let s := (s.shuntShow i1 i2 c1 c2).put Reg.IPK_LTICK_TICK (s.tickOf t)
      let s := (hv.zipIdx).foldl (fun s h =>
        ((s.putI (Reg.HVM_HVD_CODE.at h.2) h.1.1).putB (Reg.HVM_HVD_SAT.at h.2) h.1.2).putSatI (Reg.HVM_VOLT_MV.at h.2)
          (s.dividerMV (Reg.HVM_RATIO_RATIO.at h.2) h.1.1)) s
      s.put Reg.HVM_LTICK_TICK (s.tickOf t)
    else if isFine then s.put Reg.IPK_LTICK_TICK (s.tickOf t)
    else s
  let s := if isFine then s.fineSums c1 c2 (s.dividerMV Reg.HVM_ISOCH_RATIO ch.1)
      (hv.mapIdx fun k h => s.dividerMV (Reg.HVM_RATIO_RATIO.at k) h.1) else s
  (s, (c1, i1.2))

/-- A Hall code enters the frame at a Fine instant (R110, R111); 0.25 V and 4.75 V are 3,277 and 62,259 codes. -/
def State.hallSample (s : State) (code : Nat) : State :=
  let bad := decide (code * 5 < 65536 / 4) || decide (4 * code * 5 > 19 * 65536)
  { s with ipk := { s.ipk with
    nH := s.ipk.nH + 1, sumH := s.ipk.sumH + s.hallMA code, hallBad := s.ipk.hallBad || bad, hall := code % 65536,
    hallAt := s.now } }

/-- ABS + REL·|AVG1| in units of 10⁻⁴ mA, of HALLTOL or ISHTOL. -/
def State.tolerance (s : State) (ab rel : Fld) (avg1 : Int) : Int := 10000000 * s.get ab + s.get rel * avg1.natAbs

/-- The check of the redundant shunt on the frame means (R106). -/
def State.ishCheck (s : State) (run : Nat) : State :=
  if s.get Reg.IPK_CFG_ISH2USE ≠ 1 then s
  else
    let a1 := s.getI Reg.IPK_AVG1_MA
    let a2 := s.getI Reg.IPK_AVG2_MA
    let far := decide (s.tolerance Reg.IPK_ISHTOL_ABS Reg.IPK_ISHTOL_REL a1 ≤ 10000 * (a1 - a2).natAbs)
    let n := if far then run + 1 else 0
    let s : State := { s with ipk := { s.ipk with ishRun := n } }
    if !far then s.putB Reg.IPK_STAT_ISHDIS false
    else if clampN 1 255 (s.get Reg.IPK_ISHTOL_DWELL) ≤ n ∧ ¬ s.flag Reg.IPK_STAT_ISHDIS then
      (s.putB Reg.IPK_STAT_ISHDIS true).raise Ev.IPK_ISH_DISAGREE
    else s

/-- The Hall checks of the frame that ends (R111): the range on the codes alone, the comparison where the frame has means of
both. -/
def State.hallCheck (s : State) (k : Ipk) : State :=
  if !s.flag Reg.IPK_CFG_HALLEN ∨ k.nH = 0 then s
  else if k.hallBad then
    (s.raiseIf (!s.flag Reg.IPK_STAT_HALLRANGE) Ev.IPK_HALL_RANGE).putB Reg.IPK_STAT_HALLRANGE true
  else
    let s := s.putB Reg.IPK_STAT_HALLRANGE false
    if k.n = 0 then s
    else
      let a1 := s.getI Reg.IPK_AVG1_MA
      let ah := s.getI Reg.IPK_AVGH_MA
      let far : Bool := decide (s.tolerance Reg.IPK_HALLTOL_ABS Reg.IPK_HALLTOL_REL a1 ≤ 10000 * (a1 - ah).natAbs)
      let n : Nat := if far then k.hallRun + 1 else 0
      let s : State := { s with ipk := { s.ipk with hallRun := n } }
      if !far then s.putB Reg.IPK_STAT_HALLDIS false
      else if clampN 1 255 (s.get Reg.IPK_HALLTOL_DWELL) ≤ n ∧ ¬ s.flag Reg.IPK_STAT_HALLDIS then
        (s.putB Reg.IPK_STAT_HALLDIS true).raise Ev.IPK_HALL_DISAGREE
      else s

/-- The frame means of the frame that ends, and the anchor's checks on them (R106, R111, Table 4.4). -/
def State.ipkFrame (s : State) : State :=
  let k := s.ipk
  let s := { s with ipk := { s.ipk with
    n := 0, sum1 := 0, sum2 := 0, sumV := [0, 0, 0, 0], nH := 0, sumH := 0, hallBad := false } }
  let s := if k.n = 0 then s else s.putI Reg.IPK_AVG1_MA (roundDiv k.sum1 k.n)
  let s := if k.n = 0 ∨ !s.ish2On then s else s.putI Reg.IPK_AVG2_MA (roundDiv k.sum2 k.n)
  let s := if k.nH = 0 then s else s.putI Reg.IPK_AVGH_MA (roundDiv k.sumH k.nH)
  if !s.isAnchor then s
  else (if k.n = 0 then s else s.ishCheck k.ishRun).hallCheck k

/-- The anchor's chassis potential, barrier stress and fraction a of the frame that ends (R115, R116). With VOLT1 at 0
the manual states no fraction: a free value. -/
def State.chassisFrame (s : State) : State :=
  if !s.isAnchor ∨ s.iso.chN = 0 then { s with iso := { s.iso with chSum := 0, chN := 0 } }
  else
    let ch := roundDiv s.iso.chSum s.iso.chN
    let v1 := s.getI Reg.HVM_VOLT_MV
    let top := max ch (v1 - ch)
    let n := if 1000000 ≤ top then s.iso.stress + 1 else 0
    let a : Rat := if v1 = 0 then s.freeQ else (ch : Rat) / (v1 : Rat)
    let s := { s with iso := { s.iso with chSum := 0, chN := 0, stress := n, hist := (a :: s.iso.hist).take 20 } }
    let s := (s.nextFree.putSatI Reg.HVM_CHASSIS_MV ch).putSatI Reg.HVM_ISOVMAX_MV top
    if 10 ≤ n ∧ ¬ s.flag Reg.HVM_STAT_STRESS then (s.putB Reg.HVM_STAT_STRESS true).raise Ev.HVM_BARRIER_STRESS
    else if n = 0 then s.putB Reg.HVM_STAT_STRESS false
    else s

/-! ### Overcurrent comparators (R107 to R109) -/

/-- Index of a comparator: charge X, charge Y, discharge X, discharge Y. -/
def ocIndex (discharge copyY : Bool) : Nat := 2 * discharge.toNat + copyY.toNat

/-- The live outputs in `IPK.STAT`. -/
def State.ocShow (s : State) : State :=
  (s.putB Reg.IPK_STAT_OCCHG (s.ipk.raw.getD 0 false || s.ipk.raw.getD 1 false)).putB Reg.IPK_STAT_OCDIS
    (s.ipk.raw.getD 2 false || s.ipk.raw.getD 3 false)

/-- The output of a comparator at ISH1P − ISH1N = `uv` µV (R107): it trips at its threshold in its direction and releases below
90 % of it. -/
def State.ocOutput (s : State) (discharge was : Bool) (uv : Int) : Bool :=
  let thr : Int := 1000 * clampN 10 200 (s.get (if discharge then Reg.IPK_OCCFG_DIS else Reg.IPK_OCCFG_CHG))
  let v := if discharge then -uv else uv
  if was then decide (9 * thr ≤ 10 * v) else decide (thr ≤ v)

/-- OC_COMPARATOR_CROSSING (R107, R108): the shunt voltage at one comparator becomes `uv` µV; where its output changes, the glitch
filter starts anew. -/
def execOcComparatorCrossing (discharge copyY : Bool) (uv : Int) (s : State) : Result :=
  let i := ocIndex discharge copyY
  let was := s.ipk.raw.getD i false
  let above := s.ocOutput discharge was uv
  if s.isAnchor ∧ was ≠ above then
    .next ({ s with ipk := { s.ipk with raw := s.ipk.raw.set i above, rawAt := s.ipk.rawAt.set i s.now } }).ocShow
  else .next s

/-- The comparators are off on a device that is no anchor (R101): no output, no trip. -/
def State.ocOff (s : State) : State :=
  ({ s with
    ipk := { s.ipk with raw := [false, false, false, false], ocTest := none },
    saf := { s.saf with oc := [false, false, false, false] } }).ocShow

/-- OC_GLITCH_FILTER_EXPIRY (R108): an output that has persisted for 200 ticks reaches the monitors, unless its copy is
under test (R109). -/
def execOcGlitchFilterExpiry (discharge copyY : Bool) (s : State) : Result :=
  let i := ocIndex discharge copyY
  let on := s.ipk.raw.getD i false
  if !s.isAnchor ∨ s.ipk.ocTest = some copyY ∨ s.saf.oc.getD i false = on then .next s
  else
    let s := s.advanceTo (s.ipk.rawAt.getD i 0 + 200)
    let s := { s with saf := { s.saf with oc := s.saf.oc.set i on } }
    let s := s.raiseIf on (if discharge then Ev.IPK_OC_DIS else Ev.IPK_OC_CHG)
    .next s.protect

/-- OC_SELFTEST_START (R109): at F + 2,000 one copy per direction is tested; the copies alternate. -/
def execOcSelftestStart (s : State) : Result :=
  if s.isAnchor && s.cm.running && s.alive then
    .next { s.advanceTo (s.fstart + 2000) with ipk := { s.ipk with ocTest := some s.ipk.ocNext } }
  else .next s

/-- OC_SELFTEST_END (R109): at F + 2,500 a tested copy that did not trip is reported. -/
def execOcSelftestEnd (trippedChg trippedDis : Bool) (s : State) : Result :=
  match s.ipk.ocTest with
  | none => .next s
  | some y =>
    let s := s.advanceTo (s.fstart + 2500)
    let s := { s with ipk := { s.ipk with ocTest := none, ocNext := !y } }
    .next (s.raiseIf (!(trippedChg && trippedDis)) Ev.IPK_OC_SELFTEST)

end Sys2Proof.Machine
end

