-- ==== Sys2Proof/Machine/CellMeas.lean ====
section
/-!
DEFINITION. Cell measurement and the barrier (R24 to R34, R71 to R99, R461): sample instants, the arrival and loss of
sample sets, the self-checks of the measurement die, the open-wire test and quiet samples.
-/
namespace Sys2Proof.Machine

/-! ### Flags of a sample -/

/-- A cell result held to its range, with its SAT flag (R77). -/
def clipCell (v : Int) : Int × Bool := (clampI (-500000) 5000000 v, decide (v < -500000) || decide (5000000 < v))

/-- A switch was on at some time in [t − w, t). -/
def Switch.onIn (x : Switch) (t w : Nat) : Bool :=
  (x.on && decide (x.onAt < t)) || (decide (t < x.offAt + w) && (decide (x.offAt ≤ t) || decide (x.onAt < t)) &&
    decide (0 < x.offAt))

/-- The window [t − w, t) holds a part of the pass: every sample of a pass of the modulation carries BAL (R187). -/
def Modulation.onIn (m : Modulation) (t w : Nat) : Bool := decide (m.b < t) && decide (t < m.e + w)

/-- The BAL flag of channel index `i`: its switch or a neighbour's was on in the window (R92, R187). -/
def State.balFlag (s : State) (i t w : Nat) : Bool :=
  [i - 1, i, i + 1].any fun k => (match s.bal.sw[k]? with
    | some x => x.onIn t w
    | none => false) || (s.bal.modul.mask.testBit k && s.bal.modul.onIn t w)

/-- The lowest ball of the group of balls that the board joins to tap `k` (R85, R87). -/
def groupTap (pop : Nat) : Nat → Nat
  | 0 => 0
  | k + 1 => if pop.testBit k then k + 1 else groupTap pop k

/-- A window [t − w, t) overlaps the even, or the odd, injection of the test in progress (Table 3.6). -/
def State.inPass (s : State) (odd : Bool) (t w : Nat) : Bool :=
  let a := s.cm.ow.ts + (if odd then 200000 else 0)
  2 ≤ s.cm.ow.phase && decide (a < t) && decide (t < a + 100000 + w)

/-- The OWT flag of channel index `i`: an injection at either of its taps overlaps the window (R90). -/
def State.owtFlag (s : State) (i t w : Nat) : Bool :=
  let tap := fun k => s.inPass (groupTap s.populated k % 2 == 1) t w
  tap i || tap (i + 1)

/-- The flag nibble of a sample: SAT 8, BAL 4, OWT 2, UNPOP 1 (Table 3.9, R128). -/
def State.sampleFlags (s : State) (i t w : Nat) (sat : Bool) : Nat :=
  8 * sat.toNat + 4 * (s.balFlag i t w).toNat + 2 * (s.owtFlag i t w).toNat + (!s.populated.testBit i).toNat

/-! ### Faults of the measurement die -/

/-- `CELL.STAT` follows the faults; a bit clears one frame after its fault has ended (Table 3.8). For SUMFAULT the manual gives no
end of the mismatch: the model counts from the last Fine instant beyond SEGTOL, a single one included (DESIGN CHOICE, assumption
98). -/
def State.cellStat (s : State) : State :=
  let keep := fun (now_ : Bool) (f : Fld) (fin : Nat) => now_ || (s.flag f && decide (s.now < fin + 1000000))
  ((s.putB Reg.CELL_STAT_REFFAULT (keep s.cm.ref Reg.CELL_STAT_REFFAULT s.cm.refEnd)).putB Reg.CELL_STAT_BARRIER
    (keep s.cm.barrier Reg.CELL_STAT_BARRIER s.cm.barrierEnd)).putB Reg.CELL_STAT_SUMFAULT
      (keep (decide (2 ≤ s.cm.sumBad)) Reg.CELL_STAT_SUMFAULT s.cm.sumEnd)

/-- BARRIER_FAULT is raised (R26, R396): every enabled window is violated. -/
def State.barrierFault (s : State) (byPause : Bool) : State :=
  let s := { s with cm := { s.cm with pauseFault := s.cm.pauseFault || byPause } }
  if s.cm.barrier then s
  else
    let s := { s with cm := { s.cm with barrier := true } }
    ((s.raise Ev.BARRIER_FAULT).cellStat.monitorFault).protect

/-- The set of instant `t` is discarded or missing (R26): the second in a row raises BARRIER_FAULT. It neither advances nor resets the
consecutive counts of the reference, segment and unpopulated checks (DESIGN CHOICE, assumption 99). -/
def State.setLost (s : State) (t : Nat) : State :=
  let inOw := decide (2 ≤ s.cm.ow.phase) && decide (s.cm.ow.ts ≤ t) && decide (t < s.cm.ow.ts + 400000)
  let atTs := s.cm.ow.phase == 1 && t == s.cm.ow.ts
  let s := { s with cm := { s.cm with
    badRun := s.cm.badRun + 1, ow := { s.cm.ow with lost := s.cm.ow.lost || inOw || atTs } } }
  let s := (s.raise Ev.CELL_SET_DISCARD).eisGap
  if 2 ≤ s.cm.badRun then s.barrierFault false else s

/-- An intact set has arrived: a barrier fault that no pause raised ends (R461). -/
def State.setGood (s : State) : State :=
  let s := { s with cm := { s.cm with badRun := 0, supplyFail := false } }
  if s.cm.barrier ∧ ¬ s.cm.pauseFault then
    { s with cm := { s.cm with barrier := false, barrierEnd := s.now } }.cellStat
  else s.cellStat

/-- The reference check at a Fine instant (R95, R461); reaching ±100 ppm counts (R16). REFCHK saturates (DESIGN CHOICE, assumption
100). -/
def State.refCheck (s : State) (ppm : Int) : State :=
  let bad := decide (100 ≤ ppm.natAbs)
  let s := s.putSatI Reg.CELL_REFCHK_DIFF ppm
  let s := { s with cm := { s.cm with
    refBad := if bad then s.cm.refBad + 1 else 0, refGood := if bad then 0 else s.cm.refGood + 1 } }
  if !s.cm.ref ∧ 2 ≤ s.cm.refBad then
    ((({ s with cm := { s.cm with ref := true } }).raise Ev.CELL_REF_FAULT).monitorFault).cellStat
  else if s.cm.ref ∧ 2 ≤ s.cm.refGood then { s with cm := { s.cm with ref := false, refEnd := s.now } }.cellStat
  else s.cellStat

/-- The segment-sum check at a Fine instant (R96): `mv` the segment voltage, against the 48 Fine results. SEGV and SEGDIFF saturate
(DESIGN CHOICE, assumption 100). -/
def State.segCheck (s : State) (mv : Int) : State :=
  let diff := 1000 * mv - (s.cm.fine.map (·.1)).foldl (· + ·) 0
  let tol := 1000 * clampN 50 1000 (s.get Reg.CELL_SEGCFG_SEGTOL)
  let bad := decide (tol ≤ diff.natAbs)
  let s := (s.putSatI Reg.CELL_SEGV_VOLT mv).putSatI Reg.CELL_SEGDIFF_DIFF diff
  let n := if bad then s.cm.sumBad + 1 else 0
  let s := { s with cm := { s.cm with sumBad := n, sumEnd := if bad then s.now else s.cm.sumEnd } }
  (s.raiseIf (n == 2) Ev.CELL_SUM_MISMATCH).cellStat

/-- The check of the unpopulated channels at a Fine instant (R86). -/
def State.unpopCheck (s : State) : State :=
  let out := s.cm.fine.mapIdx fun i r => !s.populated.testBit i && decide (20000 ≤ r.1.natAbs)
  let bad := (s.cm.unpopBad.zip out).map fun x => if x.2 then x.1 + 1 else 0
  let good : Nat := if out.any id then 0 else s.cm.unpopGood + 1
  let s : State := { s with cm := { s.cm with unpopBad := bad, unpopGood := good } }
  if !s.cm.unpop ∧ bad.any (2 ≤ ·) then ({ s with cm := { s.cm with unpop := true } }).raise Ev.CELL_UNPOP_FAULT
  else if s.cm.unpop ∧ 2 ≤ good then { s with cm := { s.cm with unpop := false } }
  else s

/-! ### The open-wire test (R87, R88) -/

/-- Keep the Fine results of the four instants that the test uses. -/
def State.owSample (s : State) (t : Nat) : State :=
  let o := s.cm.ow
  if o.phase = 0 then s
  else if t = o.ts then { s with cm := { s.cm with ow := { o with s0 := s.cm.fine } } }
  else if t = o.ts + 100000 then { s with cm := { s.cm with ow := { o with s1 := s.cm.fine } } }
  else if t = o.ts + 200000 then { s with cm := { s.cm with ow := { o with s2 := s.cm.fine } } }
  else if t = o.ts + 300000 then { s with cm := { s.cm with ow := { o with s3 := s.cm.fine } } }
  else s

/-- Δ of channel `i` in the pass of a tap reaches THRESH upward, or downward; a result clipped low carries Δ beyond any
threshold upward, one clipped high downward (R88). `thr` in µV. -/
def owReach (up : Bool) (a b : List (Int × Bool)) (i : Nat) (thr : Int) : Bool :=
  match a[i]?, b[i]? with
  | some x, some y =>
    let d := x.1 - y.1
    if y.2 then (if up then decide (y.1 < 0) else decide (0 < y.1))
    else if up then decide (thr ≤ d) else decide (d ≤ -thr)
  | _, _ => false

/-- Tap `k` is declared open (R88), with the channels populated at T_S (assumption 101). -/
def State.tapOpen (s : State) (k : Nat) : Bool :=
  let o := s.cm.ow
  let pop := o.pop
  let thr : Int := 1000 * clampN 50 2000 o.thresh
  let a := if k % 2 = 0 then o.s0 else o.s2
  let b := if k % 2 = 0 then o.s1 else o.s3
  let below := ((List.range 48).filter fun i => pop.testBit i && i < k).getLast?
  let above := (List.range 48).find? fun i => pop.testBit i && k ≤ i
  -- a tap is tested as the lowest ball of its group
  if groupTap pop k ≠ k then false
  else match below, above with
    | none, some i => owReach true a b i thr
    | some i, none => owReach true a b i thr
    | some i, some j => owReach true a b i thr && owReach false a b j thr
    | none, none => false

/-- The open taps, bit k. -/
def State.openTaps (s : State) : Nat := bitsOf ((List.range 49).map s.tapOpen)

/-! ### Samples -/

/-- Clipped results set their SAT bits and raise CELL_SAT (R77). -/
def State.satSeen (s : State) (cells : List (Int × Bool)) : State :=
  let sat := bitsOf (cells.map (·.2))
  let s := (s.put Reg.CELL_SAT0_SAT (s.get Reg.CELL_SAT0_SAT ||| sat % 2 ^ 32)).put Reg.CELL_SAT1_SAT
    (s.get Reg.CELL_SAT1_SAT ||| sat / 2 ^ 32)
  s.raiseIf (sat != 0) Ev.CELL_SAT

/-- The DATA registers and LTICK change together (R98, Table 3.9). -/
def State.showCells (s : State) (t : Nat) (cells : List (Int × Bool)) (flags : List Nat) : State :=
  let s := ((cells.zip flags).zipIdx).foldl (fun s r =>
    s.setWord (Reg.CELL_DATA_CODE.at r.2).addr
      (BitVec.ofNat 32 (r.1.2 * 2 ^ 28 + twos 24 r.1.1.1))) s
  (s.put Reg.CELL_LTICK_TICK (s.tickOf t)).satSeen cells

/-- The index of a set in the frame buffer: every Fine set, or every 25th Fast set (Table 1.3). -/
def State.bufIndex (s : State) (o : Nat) : Option Nat :=
  if s.fast then (if o % 100000 = 0 then some (o / 100000) else none) else some (o / 25000)

/-- A follower that has a number. -/
def State.numbered (s : State) : Bool := !s.isLead && (s.flag Reg.CSC_STAT_ENUM || s.csc.stage != 0)

/-- A set enters the frame buffer; a follower with a number queues it for the lead (R29, R128, R129). -/
def State.bufferSet (s : State) (p : SetPacket) : State :=
  let s : State := { s with cm := { s.cm with buffer := s.cm.buffer ++ [p] } }
  if s.numbered then s.send (.set p) 0 0 0 else s

/-- The Fine results of instant `t` reach the self-checks and the open-wire test, in either mode (R34, R86, R87, R95, R96). In Fine
mode they are the set's results themselves. -/
def State.fineChecks (s : State) (t : Nat) (x : SampleSet) : State :=
  let r := (if s.fast then x.fine else x.cells).map clipCell
  let s := if s.fast then s.satSeen r else s
  let s : State := { s with cm := { s.cm with fine := r } }
  ((s.refCheck x.refdiff).segCheck x.segv).unpopCheck.owSample t

/-- A set of the mode in force is delivered to registers, checks, frame buffer and monitors (R29, R30, R74). -/
def State.deliverMode (s : State) (x : SampleSet) : State :=
  let o := x.instant
  let t := s.fstart + o
  let isFine := decide (o % 25000 = 0)
  let cells := x.cells.map clipCell
  let flags := cells.mapIdx fun i c => s.sampleFlags i t (if s.fast then 12000 else 75000) c.2
  let s := s.showCells t cells flags
  let s : State := if isFine then s.fineChecks t x else s
  let r := s.hvDeliver t x isFine true
  let s : State := r.1
  let cur := r.2
  let s : State := match s.bufIndex o with
    | none => s
    | some idx =>
      -- the anchor fields are zero on other devices (R128)
      let a := s.isAnchor
      s.bufferSet {
        dev := s.devNum, frame := s.frame % 65536, idx, unsync := s.csc.unsync, crcOk := true,
        codes := cells.map (·.1), flags, ish1 := if a then (clipHv x.ish1).1 else 0,
        ish2 := if a then (clipHv x.ish2).1 else 0, hvd := x.hvd.map fun h => if a then (clipHv h).1 else 0,
        ihall := if a then s.get Reg.IPK_HALL_CODE else 0 }
  let s := (s.monitorSet cells cur).blockSample o cur.1
  let s := s.eisAccumulate t cells cur.1 cur.2
  let s := if s.isAnchor ∧ s.iso.phase ≠ 0 ∧ s.getI Reg.HVM_VOLT_MV < 100000 then s.isoIncomplete true else s
  s.protect.settle

/-- An intact set is delivered. In Fast mode the Fine instants that are no Fast ones carry Fine results only, for the checks and
the open-wire test (R34, R87, R95): registers, monitors and frame buffer are those of the mode in force. -/
def State.deliverSet (s : State) (x : SampleSet) : State :=
  if s.fast ∧ x.instant % 4000 ≠ 0 then
    let t := s.fstart + x.instant
    if x.instant % 25000 = 0 then ((s.fineChecks t x).hvDeliver t x true false).1.protect.settle else s
  else s.deliverMode x

/-- SAMPLE_SET_ARRIVAL (R25, R26, R461): CRC and sequence are checked; a set that fails is discarded. -/
def execSampleSetArrival (set : SampleSet) (s : State) : Result :=
  if !s.cm.running ∨ !s.alive then .next s
  else
    let s := s.advanceTo (s.fstart + set.instant)
    let good := set.crcOk && set.seq.toNat == s.cm.nextSeq
    let next := if set.crcOk then (set.seq.toNat + 1) % 256 else (s.cm.nextSeq + 1) % 256
    let s := { s with cm := { s.cm with nextSeq := next } }
    if good then .next (s.setGood.deliverSet set) else .next (s.setLost (s.fstart + set.instant))

/-- SAMPLE_SET_MISSING (R26): 2,000 ticks after its instant; none is expected while the die does not measure. -/
def execSampleSetMissing (instant : Nat) (s : State) : Result :=
  if !s.cm.running ∨ !s.alive then .next s
  else
    let s := s.advanceTo (s.fstart + instant + 2000)
    let s := { s with cm := { s.cm with nextSeq := (s.cm.nextSeq + 1) % 256 } }
    .next (s.setLost (s.fstart + instant))

/-- TRANSFORMER_SUPPLY_FAILURE (R26): the fault is raised at once (assumption 14); the switches open. The commanded
stop in a pause is none. -/
def execTransformerSupplyFailure (s : State) : Result :=
  if !s.cm.running ∨ !s.alive then .next s
  else
    let s := { s with cm := { s.cm with supplyFail := true } }
    .next (s.openSwitches.barrierFault false)

/-- The drive check of the isolation switches at a Fine instant (R122): from 25,000 ticks after the switch was
commanded on, below 1 mA at two consecutive instants, or below 0.3 V once. -/
def State.isoDriveCheck (s : State) (driveUA driveMV : Nat) : State :=
  if !(s.iso.isoA || s.iso.isoB) ∨ s.now < s.iso.onAt + 25000 then s
  else
    let low := if driveUA < 1000 then s.iso.low + 1 else 0
    let s := { s with iso := { s.iso with low } }
    if 2 ≤ low ∨ driveMV < 300 then (s.raise Ev.HVM_ISO_SWITCH).isoIncomplete false else s

/-- SAMPLE_INSTANT (R29, R110, R122, R284, R434): every converter samples; at a Fine instant the Hall input and the
isolation drive are measured and a new balancing pattern is applied. -/
def execSampleInstant (offset hall driveUA driveMV : Nat) (s : State) : Result :=
  if !s.cm.running ∨ !s.alive then .next s
  else
    let s := s.advanceTo (s.fstart + offset)
    if offset % 25000 = 0 then
      let s := (s.hallSample hall).isoDriveCheck driveUA driveMV
      let s := { s with bal := { s.bal with half := false } }
      let s := if s.bal.newPat then ({ s with bal := { s.bal with newPat := false } }).chooseOn else s
      .next s.settle
    else .next s

/-! ### Open-wire commands -/

/-- OPEN_WIRE_REQUEST (R87). -/
def execOpenWireRequest (_ini : Ini) (s : State) : Result := .next (s.submit 1).settle

/-- OPEN_WIRE_START (R87): at T_S the settings in force are taken and the even pass starts. -/
def execOpenWireStart (s : State) : Result :=
  if s.cm.ow.phase = 1 then
    let s := s.advanceTo s.cm.ow.ts
    .next ({ s with cm := { s.cm with ow := { s.cm.ow with
      phase := 2, pop := s.populated, isel := s.get Reg.CELL_OWCFG_ISEL, thresh := s.get Reg.CELL_OWCFG_THRESH } } }.put
        Reg.CELL_OWSTAT_STATE 1)
  else .next s

/-- OPEN_WIRE_PHASE (R87): every 100,000 ticks, from the even pass to recovery, odd pass and recovery. -/
def execOpenWirePhase (s : State) : Result :=
  let p := s.cm.ow.phase
  if 2 ≤ p ∧ p ≤ 4 then
    let s := s.advanceTo (s.cm.ow.ts + 100000 * (p - 1))
    .next { s with cm := { s.cm with ow := { s.cm.ow with phase := p + 1 } } }
  else .next s

/-- OPEN_WIRE_END (R88): at T_S + 400,000 the grant is released; a test that lost a set is requested again. A test without its four
results, in a frame that takes no samples, counts as one that lost a set (DESIGN CHOICE, assumption 102). -/
def execOpenWireEnd (s : State) : Result :=
  if 2 ≤ s.cm.ow.phase ∧ s.cm.ow.phase ≤ 5 then
    let s := s.advanceTo (s.cm.ow.ts + 400000)
    let o := s.cm.ow
    let s := { s with cm := { s.cm with ow := { o with
      phase := 6, lost := o.lost || o.s0.isEmpty || o.s1.isEmpty || o.s2.isEmpty || o.s3.isEmpty } } }
    if s.cm.ow.lost then .next (s.resubmit 1).settle else .next (s.release 1).settle
  else .next s

/-- OPEN_WIRE_RESULT (R88): at T_S + 401,500 the taps are written, or the test is reported incomplete. -/
def execOpenWireResult (s : State) : Result :=
  if s.cm.ow.phase = 6 then
    let s := s.advanceTo (s.cm.ow.ts + 401500)
    let taps := s.openTaps
    let lost := s.cm.ow.lost
    let s := { s with cm := { s.cm with ow := {} } }
    if lost then .next ((s.put Reg.CELL_OWSTAT_STATE 3).raise Ev.CELL_OW_INCOMPLETE).settle
    else
      let s := (s.put Reg.CELL_OWRES0_OPEN (taps % 2 ^ 32)).put Reg.CELL_OWRES1_OPEN (taps / 2 ^ 32)
      let s := (s.put Reg.CELL_OWSTAT_STATE 2).put Reg.CELL_OWSTAT_NOPEN (popcount 49 taps)
      .next ((s.raise Ev.CELL_OW_DONE).raiseIf (taps != 0) Ev.CELL_OPENWIRE).settle
  else .next s

/-- The test in progress ends at once, at a pause (R395): it is reported incomplete, its grant is released and it is not requested
again (DESIGN CHOICE, assumption 103). -/
def State.owAbort (s : State) : State :=
  if s.cm.ow.phase = 0 then s
  else
    let s := { s with cm := { s.cm with ow := {} } }
    ((s.release 1).put Reg.CELL_OWSTAT_STATE 3).raise Ev.CELL_OW_INCOMPLETE

/-! ### Quiet samples (R93, R94) -/

/-- The Fine instant of quiet samples, and the frames that have one. -/
def State.quietK (s : State) : Nat := min 39 (s.get Reg.CELL_QCFG_QK)
def State.quietFrame (s : State) (n : Nat) : Bool :=
  let per := s.get Reg.CELL_QCFG_QPER
  per != 0 && n % per == 0

/-- The quiet instant `t` is skipped: balancing modulation, an injection in the window, or a pause (R94, R395). -/
def State.quietSkipped (s : State) (t : Nat) : Bool :=
  s.bal.modul.runs t || s.inPass false t 7500 || s.inPass true t 7500 || s.power.pauseAt.isSome

/-- QUIET_PAUSE_START (R93): 10,000 ticks before the instant the switches open, if any is on. -/
def execQuietPauseStart (s : State) : Result :=
  let k := s.quietK
  let n := if k = 0 then (s.frame + 1) % 2 ^ 32 else s.frame
  let t := s.fstart + (if k = 0 then 1000000 else 25000 * k)
  if s.quietFrame n && s.cm.running && s.alive && !s.quietSkipped t then
    .next ({ s.advanceTo (t - 10000) with cm := { s.cm with quietPause := true } }).stopModulation.refreshSwitches
  else .next s

/-- QUIET_INSTANT (R93, R94): the results are delivered and the switches return, or the instant is skipped. -/
def execQuietInstant (codes : List Int) (s : State) : Result :=
  let t := s.fstart + 25000 * s.quietK
  if s.quietFrame s.frame && s.alive && (s.cm.running || s.power.pauseAt.isSome) then
    let s := s.advanceTo t
    let s := ({ s with cm := { s.cm with quietPause := false } }).refreshSwitches
    let s := s.put Reg.CELL_QTICK_TICK (s.tickOf t)
    if s.quietSkipped t then
      let s := (List.range 48).foldl (fun s i => s.putB (Reg.CELL_QDATA_VALID.at i) false) s
      .next (s.raise Ev.CELL_QUIET_SKIP)
    else
      let cells := codes.map clipCell
      let s := (cells.zipIdx).foldl (fun s c =>
        s.setWord (Reg.CELL_QDATA_CODE.at c.2).addr
          (BitVec.ofNat 32 (c.1.2.toNat * 2 ^ 31 + 2 ^ 30 + twos 24 c.1.1))) s
      .next (s.satSeen cells)
  else .next s

end Sys2Proof.Machine
end

