-- ==== Sys2Proof/Machine/Nvm.lean ====
section
/-!
DEFINITION. Program regions, data MRAM, verification and one-time-programmable memory (R320, R321, R324 to R329).
-/
namespace Sys2Proof.Machine

/-! ### Regions (R320, R334) -/

/-- Base address of region `r`: 2·bank + pair. -/
def regionBase (r : Nat) : Nat := 0x200000 * r

/-- The pair of a region. -/
def regionPair (r : Nat) : Pair := if r % 2 = 0 then .a else .b

/-- A region is active: the active `BANKSEL` of its pair selects its bank; the old region of a bank change until READY (R331). -/
def State.regionActive (s : State) (r : Nat) : Bool :=
  s.get (Reg.CP_BANKSEL_BANK.at (regionPair r).idx) == r / 2 || s.confirmedBank (regionPair r) == r / 2

/-- The region that is active for a pair. -/
def State.activeRegion (s : State) (p : Pair) : Nat := 2 * s.get (Reg.CP_BANKSEL_BANK.at p.idx) + p.idx

/-- State of region `r` in `NVM.REGSTAT`. -/
def regstatField (r : Nat) : Fld := ⟨Reg.NVM_REGSTAT, 2 * r, 2, 4⟩

/-- SVN of region `r` in `NVM.REGSVN`. -/
def regsvnField (r : Nat) : Fld := ⟨Reg.NVM_REGSVN, 8 * r, 6, 4⟩

/-- PROGRAM_REGION_WRITE (R320): by either pair or the lead over the link, into a region that is not active and whose
enable bit is set; it leaves the region not verified and cancels a commit whose staged bank selects the region. -/
def execProgramRegionWrite (ini : Ini) (addr : Nat) (val : Word) (s : State) : Result :=
  let r := addr / 0x200000
  if 3 < r ∨ ini = .debug ∨ s.regionActive r ∨ !s.bit Reg.NVM_PGMWE_WE r then .next (s.accessFault ini true addr)
  else
    let p := regionPair r
    let s := (s.setMemWord addr val.toNat).put (regstatField r) 0
    let hit := s.armedPage (19 + p.idx) && s.get ((Reg.CP_BANKSEL_BANK.at p.idx).staged) == r / 2
    .next (if hit then s.stgCancel else s)

/-- The areas of data MRAM that a pair may write (Table 14.5): the timetable images and the application area. -/
def dataWritable (a : Nat) : Bool :=
  (decide (0x00820000 ≤ a) && decide (a < 0x00860000)) || (decide (0x008A0000 ≤ a) && decide (a < 0x00900000))

/-- Another writer takes the port without a window: a freeze copy, or a journal write on the brown-out warning. -/
def State.portBusy (s : State) : Bool :=
  s.power.port == 3 || (s.power.port == 2 && s.power.warnAt.isSome)

/-- DATA_MRAM_STORE (R321, R324): a store that meets a freeze or a warned journal write stalls and is counted; it takes
effect when the port is free. A store to an area that hardware writes is an access fault (R319). -/
def execDataMramStore (pair : Pair) (addr : Nat) (val : Word) (s : State) : Result :=
  if !s.pairRuns pair then .next s
  else if !dataWritable addr then .next (s.pairFault pair true)
  else
    let s := if s.portBusy then s.incSat Reg.NVM_STALL_COUNT else s
    .next (s.setMemWord addr val.toNat)

/-! ### Verification (R327, R329) -/

/-- The header and the signature of a region hold (Table 14.6). -/
def State.regionOk (s : State) (r : Nat) : Bool :=
  let b := regionBase r
  let len := s.num (b + 8) 4
  let entry := s.num (b + 0x0C) 4
  let key := s.num (b + 7) 1
  let svn := s.num (b + 0x10) 1
  s.num b 4 == 0x47505247 && s.num (b + 4) 2 == 1 && s.num (b + 6) 1 == 0x0A + r % 2 && decide (key < 2) &&
    decide (256 ≤ len) && decide (len ≤ 2097088) && entry % 4 == 0 && decide (entry < len) && decide (svn < 64) &&
    (s.bytes (b + 0x11) 239).all (· == 0) && s.keyUsable key && decide (s.get Reg.NVM_SVN_MIN ≤ svn) &&
    Config.sigOk (s.bytes b (len + 64)) (s.keyBytes key)

/-- The result of a verification in `REGSTAT` and `REGSVN`. -/
def State.regionResult (s : State) (r : Nat) (ok : Bool) : State :=
  if ok then (s.put (regstatField r) 2).put (regsvnField r) (s.num (regionBase r + 0x10) 1)
  else s.put (regstatField r) 3

/-- REGION_VERIFY (R329): the verification of region VSEL starts. -/
def execRegionVerify (_ini : Ini) (s : State) : Result :=
  if s.nvm.verify.isSome then .next s
  else
    let r := s.get Reg.NVM_VSEL_REGION
    let s : State := { s with nvm := { s.nvm with verify := some r } }
    .next ((s.putB Reg.NVM_STAT_VBUSY true).put (regstatField r) 1)

/-- REGION_VERIFY_DONE (R329): the result stands unless a write made the region not verified meanwhile (R320). -/
def execRegionVerifyDone (s : State) : Result :=
  match s.nvm.verify with
  | none => .next s
  | some r =>
    let s : State := { s with nvm := { s.nvm with verify := none } }
    let s := s.putB Reg.NVM_STAT_VBUSY false
    .next (if s.get (regstatField r) = 1 then s.regionResult r (s.regionOk r) else s)

/-! ### One-time-programmable memory (R326, R329) -/

/-- SVNMIN_WRITE (R329): raises SVNMIN; no higher value, no effect; above an active region's SVN, ACCESS_FAULT. -/
def execSvnminWrite (ini : Ini) (min : Nat) (s : State) : Result :=
  let v := min % 64
  if v ≤ s.get Reg.NVM_SVN_MIN then .next s
  else if [Pair.a, Pair.b].any fun p => decide (s.num (regionBase (s.activeRegion p) + 0x10) 1 < v) then
    .next (s.accessFault ini true Reg.NVM_SVN)
  else .next (s.put Reg.NVM_SVN_MIN v)

/-- KEY_REVOKE (R329): refused when it would leave no usable slot or revoke the key of an active region. -/
def execKeyRevoke (ini : Ini) (mask : Nat) (s : State) : Result :=
  let m := mask % 4
  if m = 0 then .next s
  else
    let t := s.put Reg.NVM_KEYREV_REV (s.get Reg.NVM_KEYREV_REV ||| m)
    let usedKey := [Pair.a, Pair.b].any fun p => m.testBit (s.num (regionBase (s.activeRegion p) + 7) 1)
    if usedKey || !(t.keyUsable 0 || t.keyUsable 1) then .next (s.accessFault ini true Reg.NVM_KEYREV) else .next t

/-- DBGLOCK_SET (R326): never cleared. -/
def execDbglockSet (_ini : Ini) (s : State) : Result := .next (s.putB Reg.NVM_SECCFG_DBGLOCK true)

/-- The word that `NVM.OTPDATA` reads: the key word that OTPADDR names, a blank word as 0. -/
def State.otpRead (s : State) : Word := BitVec.ofNat 32 (nget (s.get Reg.NVM_OTPADDR_INDEX) s.nvm.key - 1)

/-- A key slot still holds a blank word. -/
def State.slotBlank (s : State) (k : Nat) : Bool := (List.range 16).any fun i => nget (16 * k + i) s.nvm.key == 0

/-- OTP_KEY_WRITE (R326): programs a word that is not yet programmed while its slot is blank. -/
def execOtpKeyWrite (_ini : Ini) (val : Word) (s : State) : Result :=
  let i := s.get Reg.NVM_OTPADDR_INDEX
  if s.slotBlank (i / 16) ∧ nget i s.nvm.key = 0 then
    .next { s with nvm := { s.nvm with key := nset i (val.toNat + 1) s.nvm.key } }
  else .next s

end Sys2Proof.Machine
end

