-- ==== Sys2Proof/Machine/TimeBase.lean ====
section
/-!
DEFINITION. The timebase (R375 to R380): the saves of TICK, the gap record, and the commands of the TMB page.
-/
namespace Sys2Proof.Machine

/-- Save TICK in the retained records (R378): at a brown-out warning, or periodically. -/
def State.saveTick (s : State) (warned : Bool) : State :=
  if warned then { s with ret := { s.ret with warnTick := s.tick, warned := true } }
  else { s with ret := { s.ret with tick := s.tick, saved := true } }

/-- TICK steps to a value at a boundary on a follower (R376): ALIGN note and cause. -/
def State.stepTick (s : State) (t : Nat) : State :=
  let old := s.tick32
  (({ s with tick := t }).note 2 old (t % 2 ^ 32) 0).setCause Reg.TMB_CAUSE_ALIGN Ev.TMB_SERVICE

/-- TICK_READ (R375): a read of TICKLO latches TICKHI; both hold the TICK of the read. -/
def execTickRead (_ini : Ini) (s : State) : Result :=
  .next ((s.put Reg.TMB_TICKLO_TICK s.tick).put Reg.TMB_TICKHI_TICK (s.tick / 2 ^ 32))

/-- TICK_WRAP_SAVE (R378): at the next wrap of TICK [31:0] the timebase saves TICK. -/
def execTickWrapSave (s : State) : Result :=
  .next ((s.advanceTo (s.now + (2 ^ 32 - s.tick % 2 ^ 32) % 2 ^ 32)).saveTick false)

/-- GAP_ATTEST (R380): the first attestation of a GEN is taken; a second one, or one of 0 s, is refused. -/
def execGapAttest (_ini : Ini) (secs : Word) (s : State) : Result :=
  if s.flag Reg.TMB_GAPSTAT_ATTESTED ∨ secs = 0 then
    .next (s.setCause Reg.TMB_CAUSE_REFUSED Ev.TMB_SERVICE)
  else
    let s := ((s.putB Reg.TMB_GAPSTAT_ATTESTED true).putB Reg.TMB_GAPSTAT_EXT true).put Reg.TMB_GAPATT_S secs.toNat
    .next (((s.note 3 secs.toNat 0 0).setCause Reg.TMB_CAUSE_ATTESTED Ev.TMB_SERVICE))

end Sys2Proof.Machine
end

