-- ==== Sys2Proof/Machine/Cascade.lean ====
section
/-!
DEFINITION. The cascade (R126 to R148, R281, R376, R457, R463): packets, frame marker and SYNC, enumeration, the ring,
loss of devices, the configuration digest, and the TRIP line.
-/
namespace Sys2Proof.Machine

/-! ### Checks on the line (R127, R463) -/

/-- One bit of CRC-8, polynomial 0x2F, not reflected. -/
def crc8Bit (c : BitVec 8) : BitVec 8 := if c.msb then (c <<< 1) ^^^ 0x2F#8 else c <<< 1

/-- One byte of CRC-8. -/
def crc8Byte (c : BitVec 8) (b : Byte) : BitVec 8 :=
  let c := c ^^^ b
  crc8Bit (crc8Bit (crc8Bit (crc8Bit (crc8Bit (crc8Bit (crc8Bit (crc8Bit c)))))))

/-- CRC-8 of R463. -/
def crc8 (bs : List Byte) : BitVec 8 := bs.foldl crc8Byte 0xFF#8 ^^^ 0xFF#8

/-- The CRC field that bits [31:8] of a marker call for. -/
def markerCrc (w : Word) : BitVec 8 := crc8 [w.extractLsb' 24 8, w.extractLsb' 16 8, w.extractLsb' 8 8]

/-- A marker is valid: TYPE 0x5 and its CRC matches (R463). -/
def markerValid (w : Word) : Bool := w.extractLsb' 28 4 == 5#4 && w.extractLsb' 0 8 == markerCrc w

/-- The marker word of Table 5.3. -/
def markerWord (commit : Bool) (prof mode frame : Nat) : Word :=
  let w := BitVec.ofNat 32 (0x50000000 + commit.toNat * 2 ^ 27 + prof % 4 * 2 ^ 25 + mode % 2 * 2 ^ 24 + frame % 65536 * 256)
  w ||| (markerCrc w).setWidth 32

/-- A packet fails its CRC: discarded, counted, CSC_LINK_CRC (R127). -/
def State.linkCrc (s : State) : State := (s.incSat Reg.CSC_CRCERR_COUNT).raise Ev.CSC_LINK_CRC

/-! ### The configuration digest (R143) -/

/-- The addresses of the words that hold RWS fields on the pages of a build, ascending. -/
def rwsAddrs (full : Bool) : List Nat :=
  (((List.range 32).filter fun p => full || !pageF p).map fun p =>
    ((List.range 496).map (0x40 + 4 * ·)).filterMap fun off =>
      match rowOf p off with
      | some r => if r.rws = 0 then none else some (pageBase p + off)
      | none => none).flatten

/-- CRC-32C over SETID and the given words, each least significant byte first. -/
def digestOf (setid : Nat) (words : List Word) : Nat :=
  crc32c (leBytes 4 setid ++ (words.map fun w => leBytes 4 w.toNat).flatten)

/-- A word that this device does not have: OUT9 to OUT16 on the AEV4848F (R4), the CTS page but its fixed registers off
the lead (R253). -/
def State.noWord (s : State) (a : Nat) : Bool :=
  let r := if 0x840 ≤ a % 0x1000 then a - 0x800 else a
  (!s.full && decide (0x40010060 ≤ r) && decide (r < 0x40010080)) ||
    (!s.isLead && pageOf a == 15 && decide (0x40 ≤ a % 0x1000))

/-- The word as it reads: zero where the device has none. -/
def State.shown (s : State) (a : Nat) : Word := if s.noWord a then 0 else s.word a

/-- This device's digest. -/
def State.digest (s : State) : Nat := digestOf (s.get Reg.TT_SETID_SETID) ((rwsAddrs s.full).map s.shown)

/-- The digest is recomputed after boot and at every commit. -/
def State.showDigest (s : State) : State := s.put Reg.CSC_DIGEST_DIGEST s.digest

/-! ### The profile that the next boundary brings (R38, R39, R40, R50) -/

/-- A safety reaction is active or has occurred in the frame, on this device or on a follower by its last record. -/
def State.reactionSeen (s : State) : Bool :=
  s.get Reg.SAF_RSTAT_LATCH != 0 || s.saf.latchedInFrame || (s.isLead && s.csc.records.any fun r => r.reaction && !s.bit Reg.CSC_LOST_DEV r.dev)

/-- The lead refuses the request for Watch or Sleep that stands (R39), Watch also without a Watch schedule (R50). -/
def State.profRefuse (s : State) : Bool :=
  let r := s.get Reg.SYS_PROFREQ_REQ
  r != 0 && r != s.get Reg.SYS_PROFSTAT_PROF &&
    (s.anyRoleOn || s.reactionSeen || (r == 1 && !hasSched s.activeImage 2))

/-- A pair restart is in progress. -/
def State.pairRestarting (s : State) : Bool := s.flag (Reg.CP_STAT_INRST.at 0) || s.flag (Reg.CP_STAT_INRST.at 1)

/-- The profile from the next boundary on, on the lead. -/
def State.profNext (s : State) : Nat :=
  let r := s.get Reg.SYS_PROFREQ_REQ
  let p := s.get Reg.SYS_PROFSTAT_PROF
  if p = 2 then 2
  else if s.reactionSeen then 0
  else if r = p ∨ r = 3 ∨ s.pairRestarting ∨ s.profRefuse then p
  else r

/-- `TT.SCHED.RUNMODE` from the next boundary on, on the lead (R32): the staged mode when the flagged commit masks TT. -/
def State.modeNext (s : State) : Nat :=
  s.get (if s.stg.flag && s.armedPage 4 then Reg.TT_SCHED_RUNMODE.staged else Reg.TT_SCHED_RUNMODE)

/-- The device begins to leave Sleep (R41). -/
def State.wake (s : State) : State :=
  if s.sleeping then { s with power := { s.power with waking := true, wakeAt := s.now } } else s

/-! ### Loss as a cause of reaction (source 14) -/

/-- The cause of source 14 becomes present: TRIP is pulled, again where its reaction is still latched from an earlier loss
(R138, R141, R144). -/
def State.lossBegin (s : State) (dev : Nat) : State :=
  let s : State := { s with saf := { s.saf with loss := true, lossDev := dev } }
  if s.alive ∧ s.bit Reg.SAF_RSTAT_LATCH 14 then (s.driveTrip 14).holdShow.safShow else s.protect

/-- The cause of source 14 is absent, and the TRIP that it drove is released (R144, R146). -/
def State.lossEnd (s : State) : State :=
  let s := { s with saf := { s.saf with loss := false, tripBy := bitTo s.saf.tripBy 14 false } }
  if s.alive then s.holdShow.safShow else s

/-! ### Follower: transmission, passing on and heartbeat (R127 to R129, R139) -/

/-- A message that lane 0 carries toward the lead (Table 5.1). -/
def LinkKind.lane0 (k : LinkKind) : Bool :=
  match k with
  | .set _ | .record _ | .reply _ | .report => true
  | .access _ | .arm | .disarm | .token | .readmit | .heartbeat | .marker | .edge | .wake => false

/-- A set or frame record, which goes before queued replies (R128). -/
def LinkKind.first (k : LinkKind) : Bool :=
  match k with
  | .set _ | .record _ => true
  | .reply _ | .report | .access _ | .arm | .disarm | .token | .readmit | .heartbeat | .marker | .edge | .wake => false

/-- The queue without the first message that satisfies `f`. -/
def dropFirst (f : LinkMsg → Bool) : List LinkMsg → List LinkMsg
  | [] => []
  | m :: l => if f m then l else m :: dropFirst f l

/-- The way of lane-0 traffic to the lead: back on the reverse lanes from a device before a gap (R139). -/
def State.lane0Path (s : State) : Path := if s.flag Reg.CSC_STAT_REVERSED then .reverse else .ring

/-- The way on of lane-1 traffic: a device after a gap has it from the reverse lanes (R139). -/
def State.lane1Path (s : State) : Path :=
  if (List.range s.devNum).any s.csc.hopsLost.testBit then .reverse else .ring

/-- A packet addressed elsewhere passes on (R127). -/
def State.passAway (s : State) (m : LinkMsg) : State :=
  { s with csc := { s.csc with wire := some (m, if m.kind.lane0 then s.lane0Path else s.lane1Path) } }

/-- The frame in progress is one of Run or a watch frame. -/
def State.actFrame (s : State) : Bool :=
  s.get Reg.SYS_PROFSTAT_PROF == 0 || (s.watching && s.tt.watchN == 0)

/-- The mean of a frame sum; 0 of none. -/
def frameMean (sum : Int) (n : Nat) : Int := if n = 0 then 0 else roundDiv sum n

/-- The quiet set, when one was taken in this frame (R93, R128). -/
def State.quietSet (s : State) : List Int :=
  if s.quietFrame s.frame && s.flag Reg.CELL_QDATA_VALID &&
      s.get Reg.CELL_QTICK_TICK == s.tickOf (s.fstart + 25000 * s.quietK) then
    (List.range 48).map fun i => s.getI (Reg.CELL_QDATA_CODE.at i)
  else []

/-- The activities that this follower reports: its cascade grants, and as anchor a new isolation request (R281). -/
def State.grantBits (s : State) : Nat :=
  bitsOf ((List.range 11).map fun k => ([2, 4, 6].contains k && s.granted k) || (k == 10 && s.iso.asked))

/-- This follower's frame record (R128, R142, R143, R146, R222, R281, R287). -/
def State.ownRecord (s : State) : FrameRecord :=
  let k := s.ipk
  { dev := s.devNum, frame := s.frame % 65536, crcOk := true, anchor := s.isAnchor, setid := s.get Reg.TT_SETID_SETID,
    digest := s.get Reg.CSC_DIGEST_DIGEST, localCommit := s.csc.localDone,
    temps := (List.range 24).map fun i => (s.getI (Reg.THM_TEMP_TEMP.at i), s.get (Reg.THM_TEMP_FLT.at i)),
    stage := s.power.stage, dies := (List.range 8).map fun i => s.getI (Reg.THM_DIE_TEMP.at i),
    hallRange := s.flag Reg.IPK_STAT_HALLRANGE, hallDis := s.flag Reg.IPK_STAT_HALLDIS,
    avg1 := frameMean k.sum1 k.n, avg2 := frameMean k.sum2 k.n, avgH := frameMean k.sumH k.nH,
    volts := k.sumV.map fun v => frameMean v k.n, chassis := frameMean s.iso.chSum s.iso.chN, quiet := s.quietSet,
    trip := s.saf.tripBy != 0, chgforb := s.ownForb, grants := s.grantBits, reaction := s.get Reg.SAF_RSTAT_LATCH != 0,
    ont := (List.range 48).map fun i => s.get (Reg.BAL_ONT_TIME.at i), rbal := s.get Reg.BAL_CFG_RBAL,
    paused := s.cm.paused, readmit := s.csc.answered }

/-- The frame record of the frame in progress is queued, once per frame, measured or in a pause (R128, R129, R395). -/
def State.recordQueue (s : State) : State :=
  if s.numbered ∧ s.alive ∧ s.actFrame ∧ s.csc.recDone ≠ some s.frame then
    let s := s.send (.record s.ownRecord) 0 0 0
    { s with
      csc := { s.csc with recDone := some s.frame, localDone := false }
      iso := { s.iso with asked := false } }
  else s

/-- The first message that satisfies `f` goes out on lane 0. -/
def State.transmit (s : State) (f : LinkMsg → Bool) : State :=
  { s with csc := { s.csc with
    txq := dropFirst f s.csc.txq,
    wire := match s.csc.txq.find? f with
      | some m => some (m, s.lane0Path)
      | none => s.csc.wire } }

/-- LANE0_TRANSMIT (R128, R129): with an XFER window open, the oldest set or record goes, else the oldest reply,
outside [F + 970,000, F + 1,020,000). The frame record is queued once the last set of the frame can have come, at F + 977,000. -/
def execLane0Transmit (s : State) : Result :=
  let off := s.now - s.fstart
  let quiet := decide (970000 ≤ off) || decide (off < 20000)
  let s := if 977000 ≤ off then s.recordQueue else s
  if s.isLead ∨ !s.tt.xfer.any (s.now < ·) then .next s
  else if s.csc.txq.any (·.kind.first) then .next (s.transmit (·.kind.first))
  else if quiet then .next s
  else .next (s.transmit (·.kind.lane0))

/-- TICK follows the lead's (R376): up to 2 ticks within the frame, more as a step at the next boundary. -/
def State.alignTick (s : State) (leadTick : Nat) : State :=
  let own := s.tick - (s.now - s.fstart)
  let d : Int := (leadTick : Int) - (own : Int)
  if d.natAbs ≤ 2 then ({ s with tmb := { s.tmb with trim := d } }).putB Reg.TMB_SRC_ALIGNED true
  else { s with tmb := { s.tmb with step := some (leadTick + 1000000) } }

/-- HEARTBEAT_RECEIVED (R144, R222, R376). -/
def execHeartbeatReceived (crcOk : Bool) (leadTick : Nat) (chgforb : Bool) (s : State) : Result :=
  if s.isLead ∨ !s.alive then .next s
  else if !crcOk then .next s.linkCrc
  else
    let s := s.passAway ⟨.heartbeat, 8, leadTick, chgforb.toNat⟩
    let s := { s with csc := { s.csc with heard := true }, saf := { s.saf with cascadeForb := chgforb } }
    let s := if s.flag Reg.CSC_STAT_LOCK then s.alignTick leadTick else s
    .next s.protect

/-! ### Lead: what the followers send -/

/-- A device that the lead has enumerated. -/
def State.knows (s : State) (d : Nat) : Bool := decide (1 ≤ d) && decide (d ≤ s.get Reg.CSC_ENUMSTAT_NFOUND)

/-- SET_PACKET_RECEIVED (R127, R129): into the frame buffer of its frame, until the completion window of that frame ends; a
follower passes it on. -/
def execSetPacketReceived (p : SetPacket) (s : State) : Result :=
  if !s.alive then .next s
  else if !p.crcOk then .next s.linkCrc
  else if !s.isLead then .next (s.passAway ⟨.set p, 0, 0, 0⟩)
  else
    let here := p.frame == s.frame % 65536 || (p.frame == (s.frame + 65535) % 65536 && !s.csc.closed)
    let dup := s.csc.buf.any fun q => q.dev == p.dev && q.frame == p.frame && q.idx == p.idx
    if s.flag Reg.CSC_STAT_ENUM ∧ s.knows p.dev ∧ !s.bit Reg.CSC_LOST_DEV p.dev ∧ here ∧ !dup then
      .next { s with csc := { s.csc with buf := p :: s.csc.buf } }
    else .next s

/-- The digest of a frame record against the one that the lead expects (R143): an expected digest is held as its value
plus 1. -/
def State.checkDigest (s : State) (r : FrameRecord) : State :=
  let e := nget r.dev s.csc.expect
  let s := if e = 0 ∨ r.localCommit then
    { s with csc := { s.csc with expect := nset r.dev (r.digest + 1) s.csc.expect } } else s
  let bad := decide (nget r.dev s.csc.expect ≠ r.digest + 1) || r.setid != s.get Reg.TT_SETID_SETID
  let n := if bad then s.csc.differ.getD r.dev 0 + 1 else 0
  ({ s with csc := { s.csc with differ := s.csc.differ.set r.dev n } }).raiseIf (n == 2) Ev.TT_SET_MISMATCH

/-- A lost follower answers the readmission token (R142): with the lead's SETID and the digest that the lead expects it is
readmitted, and told so. -/
def State.readmit (s : State) (r : FrameRecord) : State :=
  if r.setid = s.get Reg.TT_SETID_SETID ∧ nget r.dev s.csc.expect = r.digest + 1 then
    ({ s with csc := { s.csc with rejoin := bitTo s.csc.rejoin r.dev true } }).send (.access .member) r.dev 0 0
  else s.raise Ev.TT_SET_MISMATCH

/-- The lead has the first frame record of every follower that it has found (R136 step 6). -/
def State.allRecords (s : State) : Bool :=
  (List.range 8).all fun d =>
    d == 0 || decide (s.get Reg.CSC_ENUMSTAT_NFOUND < d) || s.csc.records.any (·.dev == d)

/-- A frame record enters the lead's table; the one that completes an enumeration confirms every follower (R136 step 7). -/
def State.takeRecord (s : State) (r : FrameRecord) : State :=
  let was := s.allRecords
  let s : State := { s with
    csc := { s.csc with
      records := r :: s.csc.records.filter (·.dev != r.dev)
      oldRecords := s.csc.records.filter (·.dev == r.dev) ++ s.csc.oldRecords.filter (·.dev != r.dev) }
    saf := { s.saf with followerForb := bitTo s.saf.followerForb r.dev r.chgforb } }
  if s.csc.stage = 3 ∧ !was ∧ s.allRecords then s.send (.access .member) 8 0 0 else s

/-- A safety reaction is new on a follower: its latest record had none. -/
def State.newReaction (s : State) (r : FrameRecord) : Bool :=
  r.reaction && !((s.csc.records.find? (·.dev == r.dev)).map (·.reaction)).getD false

/-- The grants that a record reports enter the lead's matrix for the codes that it has asked for (R281). -/
def State.takeGrants (s : State) (r : FrameRecord) : State :=
  [2, 4, 6].foldl (fun s k =>
    if s.bal.asked.testBit k ∧ r.grants.testBit k then s.setGrantsOf k (bitTo (s.grantsOf k) r.dev true) else s) s

/-- The isolation run of an anchor that is a follower, as its records tell the lead (R281, assumption 13): a request asks
every matrix, once more after a run that ended early; a grant that has gone ends the run everywhere. -/
def State.followAnchor (s : State) (r : FrameRecord) : State :=
  if s.isAnchor then s
  else if r.grants.testBit 10 then (if s.bal.asked.testBit 2 then s.isoOver else s).askAll 2
  else if !r.anchor then s
  else if r.grants.testBit 2 then s.askAll 2
  else if s.bal.asked.testBit 2 ∧ (s.grantsOf 2).testBit r.dev then s.isoOver
  else s

/-- FRAME_RECORD_RECEIVED (R127, R128, R131, R142, R143, R146, R194, R222, R281); a follower's die stage acts on the impedance
engine like the lead's own (Table 8.4), and so does its safety reaction. -/
def execFrameRecordReceived (r : FrameRecord) (s : State) : Result :=
  if !s.alive then .next s
  else if !r.crcOk then .next s.linkCrc
  else if !s.isLead then .next (s.passAway ⟨.record r, 0, 0, 0⟩)
  else if !s.knows r.dev ∨ !(s.flag Reg.CSC_STAT_ENUM || s.csc.stage == 3) then .next s
  else
    let s := s.tripNow r.dev r.trip
    if s.bit Reg.CSC_LOST_DEV r.dev then .next (if r.readmit then s.readmit r else s)
    else
      let ends := r.stage != 0 || s.newReaction r
      let s := (((s.takeRecord r).checkDigest r).followAnchor r).takeGrants r
      .next ((if ends then s.eisAbort.eisExc else s).settle.protect)

/-- A follower's results of the point in progress (R180, R189, R190). -/
def State.takeResults (s : State) (dev : Nat) (zs : List (Nat × Rat × Rat × Nat × Nat)) : State :=
  let p := s.get Reg.EIS_STAT_POINT
  let new := zs.foldl (fun l z =>
    aput (8 * (48 * dev + z.1) + p)
      (eisResOf z.2.1 z.2.2.1 z.2.2.2.1 z.2.2.2.2 (s.get Reg.EIS_STAT_SRC) (s.eis.frame % 2 ^ 32)) l) s.eis.new
  { s with eis := { s.eis with new, done := bitTo s.eis.done dev true } }

/-- ACCESS_REPLY_RECEIVED (R127, R128, R180): a phasor or results of a point enter the impedance engine; the data of a read
is for the requesting pair; a follower passes the packet on. -/
def execAccessReplyReceived (dev : Nat) (crcOk : Bool) (op : ReplyOp) (s : State) : Result :=
  if !s.alive then .next s
  else if !crcOk then .next s.linkCrc
  else if !s.isLead then .next (s.passAway ⟨.reply op, 0, dev, 0⟩)
  else
    match op with
    | .data _ _ => .next s
    | .phasor re im lo hi flags =>
      if s.eis.phase = 4 ∧ ¬ s.eis.gotI then
        .next (s.eisGotPhasor { re, im, lre := lo, ure := hi } flags).settle
      else .next s
    | .results zs =>
      if s.eis.phase ≠ 4 ∨ !s.knows dev then .next s else .next (s.takeResults dev zs)

/-! ### The completion window (R100, R102, R129, R131, R141) -/

/-- Sets that a complete frame buffer holds (Table 1.3). -/
def setsDue (fast : Bool) : Nat := if fast then 10 else 40

/-- The frame record of `d` for the frame with number `n` has arrived. -/
def State.recordOf (s : State) (d n : Nat) : Bool := s.csc.records.any fun r => r.dev == d && r.frame == n % 65536

/-- The buffer of `d` for frame `n` is complete. -/
def State.complete (s : State) (d n : Nat) : Bool :=
  let sets := if d = 0 then s.cm.lastBuffer else s.csc.lastBuf.filter (·.dev == d)
  (d == 0 || s.recordOf d n) && decide (setsDue s.cm.lastFast ≤ sets.length)

/-- The lead's judgement of the anchor (R100, R102): every enumerated device counts, a lost one among them, by the flag of its
latest record (DESIGN CHOICE for a frame in which its record does not arrive, assumption 111). -/
def State.judgeAnchor (s : State) (n : Nat) : State :=
  let flags := (if s.isAnchor then [0] else []) ++
    ((s.csc.records.filter fun r => r.anchor && s.enumerated.testBit r.dev).map (·.dev))
  match flags with
  | [d] =>
    let miss := if d = 0 ∨ s.complete d n then 0 else s.csc.anchorMiss + 1
    ({ s with csc := { s.csc with anchorMiss := miss, anchorBad := decide (2 ≤ miss) } }).raiseIf (miss == 2)
      Ev.IPK_ANCHOR_LOST
  | _ => ({ s with csc := { s.csc with anchorBad := true } }).raise Ev.HVM_ANCHOR_FAULT

/-- The devices of a mask lack a set of frame `n`: GAP for an impedance window that holds the frame (R131, R190). -/
def State.eisMissing (s : State) (n gap : Nat) : State :=
  let inside := (n + (2 ^ 32 - s.eis.frame % 2 ^ 32)) % 2 ^ 32 < s.eisFrm (s.get Reg.EIS_STAT_POINT)
  if 3 ≤ s.eis.phase ∧ inside then
    { s with eis := { s.eis with gapDev := s.eis.gapDev ||| gap } }
  else s

/-- XFER_COMPLETION_WINDOW_END (R129, R131). -/
def execXferCompletionWindowEnd (s : State) : Result :=
  if !s.isLead ∨ !s.alive ∨ s.csc.closed then .next s
  else
    let s := s.advanceTo (match s.tt.xfer with | e :: _ => e | [] => s.fstart + 20000)
    let n := (s.frame + 2 ^ 32 - 1) % 2 ^ 32
    let f := n % 65536
    let s := { s with csc := { s.csc with
      closed := true, lastBuf := s.csc.buf.filter (·.frame == f), buf := s.csc.buf.filter (·.frame != f) } }
    if !s.flag Reg.CSC_STAT_ENUM ∨ !s.cm.lastAct then .next s
    else
      let who := (List.range 8).filter fun d => s.followers.testBit d && decide (s.csc.since.getD d 0 ≤ n)
      let good := who.filter fun d => s.complete d n
      let missed := s.csc.missed.mapIdx fun d m => if who.contains d then (if s.recordOf d n then 0 else m + 1) else m
      let s := { s with csc := { s.csc with missed } }
      let s := (s.put Reg.CSC_PRESENT_DEV (bitsOf ((List.range 8).map fun d =>
        if d = 0 then s.complete 0 n else good.contains d))).put Reg.CSC_UNSYNC_DEV (bitsOf ((List.range 8).map fun d =>
        s.csc.lastBuf.any fun p => p.dev == d && p.unsync))
      let s := if good.length < who.length then (s.incSat Reg.CSC_XFERERR_COUNT).raise Ev.CSC_XFER_INCOMPLETE
        else if who.length = s.get Reg.CSC_ENUMSTAT_NFOUND then s.put Reg.CSC_LFRAME_FRAME n else s
      let s := s.eisMissing n (bitsOf ((List.range 8).map fun d =>
        who.contains d && decide ((s.csc.lastBuf.filter (·.dev == d)).length < setsDue s.cm.lastFast)))
      .next (s.judgeAnchor n)

/-! ### SYNC (R132, R133, R135) -/

/-- FRAME_MARKER_SEND (R132): in [B − 1,000, B − 680). A lead after CSC_MULTI_LEAD, or asleep, drives no SYNC;
after Sleep the first marker belongs to the first boundary at least 2,000,000 ticks after the wake pattern (R135). -/
def execFrameMarkerSend (s : State) : Result :=
  if !s.isLead ∨ s.power.phase ≠ .run ∨ s.csc.mute ∨ s.sleeping ∨ (s.power.wakeAt ≠ 0 ∧ s.fstart < s.power.wakeAt + 1000000) then
    .next s
  else
    let s := s.advanceTo (s.fstart + 999000)
    let w := markerWord s.stg.flag s.profNext s.modeNext (s.frame + 1)
    let first := match s.csc.firstMarker with | some t => some t | none => some s.now
    .next (({ s with csc := { s.csc with firstMarker := first } }.send .marker 8 w.toNat 0).send .edge 8 0 0)

/-- FRAME_MARKER_RECEIVED (R132, R463): a follower takes a valid marker for the coming boundary; while locked its FRAME
must be the expected value. -/
def execFrameMarkerReceived (word : Word) (s : State) : Result :=
  let f := (word.extractLsb' 8 16).toNat
  if s.isLead ∨ !s.alive ∨ s.sleeping ∨ !markerValid word then .next s
  else if s.flag Reg.CSC_STAT_LOCK ∧ f ≠ (s.frame + 1) % 65536 then .next s
  else .next { s with csc := { s.csc with
    marker := some (word.getLsbD 27, (word.extractLsb' 25 2).toNat, (word.extractLsb' 24 1).toNat, f),
    everMarker := true } }

/-- SYNC_EDGE (R133): the edge after a valid marker, `offset` ticks from the predicted tick; from 1,000 ticks after it
on the frame is missed. Three good frames in a row lock the follower. -/
def execSyncEdge (offset : Int) (s : State) : Result :=
  if s.isLead ∨ !s.alive ∨ s.csc.marker.isNone ∨ 1000 ≤ offset then .next s
  else
    let good := if offset.natAbs ≤ 2 then s.csc.good + 1 else 0
    let lock := s.flag Reg.CSC_STAT_LOCK || decide (3 ≤ good)
    let s := s.raiseIf (lock && !s.flag Reg.CSC_STAT_LOCK) Ev.CSC_SYNC_LOCKED
    let s := { s with csc := { s.csc with good, miss := 0, edge := offset, unsync := !lock } }
    .next (s.putB Reg.CSC_STAT_LOCK lock)

/-- A follower drops the armed state of a cascade commit (R64): its masked pages return to EDITED. -/
def State.dropRemote (s : State) : State := if s.stg.remote then s.stgCancel else s

/-- MISSED_FRAME (R133): the frame starts on the own timebase. -/
def execMissedFrame (s : State) : Result :=
  if s.isLead ∨ !s.alive then .next s
  else
    let s := s.dropRemote
    let miss := s.csc.miss + 1
    let s := { s with csc := { s.csc with marker := none, edge := 0, good := 0, miss, unsync := true } }
    if 2 ≤ miss ∧ s.flag Reg.CSC_STAT_LOCK then
      .next (((s.putB Reg.CSC_STAT_LOCK false).putB Reg.TMB_SRC_ALIGNED false).raise Ev.CSC_SYNC_LOST)
    else .next s

/-- SYNC_WAKE_PATTERN (R41, R135): a sleeping follower begins to leave Sleep. -/
def execSyncWakePattern (s : State) : Result := .next (if s.isLead then s else s.wake)

/-! ### Enumeration (R136 to R138) -/

/-- The lead sends the first token (R136 step 2). -/
def State.sendToken (s : State) : State :=
  { s with csc := { s.csc with
      stage := 1, tokenAt := s.now, sent := true, lateTok := false, expect := [], records := [] } }.send .token 1 1 0

/-- The lead may enumerate. -/
def State.mayEnum (s : State) : Bool :=
  s.isLead && s.power.phase == .run && !s.csc.mute && !s.flag Reg.CSC_STAT_ENUM && s.csc.stage == 0

/-- Every hop that the device knows of is locked (R136 step 2). -/
def State.hopsWhole (s : State) : Bool := s.csc.everLocked && s.csc.hopsLost == 0

/-- ENUMERATION_START (R136): every hop has been locked for 100,000 ticks. -/
def execEnumerationStart (s : State) : Result :=
  if s.mayEnum ∧ s.hopsWhole then .next (s.advanceTo (s.csc.hopsAt + 100000)).sendToken else .next s

/-- A lead sees a SYNC edge or a token that it did not send (Table 5.4). -/
def State.multiLead (s : State) : State :=
  let s := { s with csc := { s.csc with mute := true, stage := 0, sent := false } }
  (((s.putB Reg.CSC_STAT_ENUM false).put Reg.SYS_PROFSTAT_ROLE 0).raise Ev.CSC_MULTI_LEAD).lossBegin 0

/-- The token returns to the lead (R136 steps 4 to 6, Table 5.4). -/
def State.tokenBack (s : State) (reverse : Bool) (count : Nat) : State :=
  let tok := s.csc
  if !tok.sent then
    -- a token of this lead that timed out is late, not another lead's (assumption 108)
    if tok.lateTok then { s with csc := { s.csc with lateTok := false } } else s.multiLead
  else if tok.stage = 1 ∧ !reverse then
    let s := { s with csc := { s.csc with stage := 2, tokenAt := s.now } }.put Reg.CSC_ENUMSTAT_NFOUND (count - 1)
    s.send .token (count - 1) count 1
  else if tok.stage = 2 ∧ reverse then
    let n := s.get Reg.CSC_ENUMSTAT_NFOUND + 1
    let s := { s with csc := { s.csc with sent := false, stage := 0 } }
    if count ≠ n then s
    else if n ≠ clampN 1 8 (s.get Reg.CSC_CFG_NDEV) then s.raise Ev.CSC_ENUM_MISMATCH
    else { s with csc := { s.csc with stage := 3 } }
  else s

/-- A token reaches a follower: it takes the count as its number and forwards the token; the second token confirms the
number. A readmission token comes alone, on the reverse lanes: a follower locked to SYNC that has no number, or has this one,
answers it (R136, R142). -/
def State.tokenTake (s : State) (reverse : Bool) (count : Nat) : State :=
  if !reverse then
    ({ s with csc := { s.csc with stage := 1 } }.put Reg.SYS_PROFSTAT_DEVNUM count).send .token (count + 1) (count + 1) 0
  else if s.csc.stage = 1 then { s with csc := { s.csc with stage := 3 } }.send .token 0 count 1
  else if s.flag Reg.CSC_STAT_LOCK ∧ (s.devNum = 0 ∨ s.devNum = count) then
    ({ s with csc := { s.csc with stage := 3, answered := true } }).put Reg.SYS_PROFSTAT_DEVNUM count
  else s

/-- ENUM_TOKEN_RECEIVED (R136, R138, R142). -/
def execEnumTokenReceived (reverse : Bool) (count : Nat) (crcOk : Bool) (s : State) : Result :=
  if !s.alive then .next s
  else if !crcOk then .next s.linkCrc
  else if s.isLead then .next (s.tokenBack reverse count)
  else .next (s.tokenTake reverse count)

/-- ENUM_TOKEN_TIMEOUT (R138): 100,000 ticks without the token. -/
def execEnumTokenTimeout (s : State) : Result :=
  if s.isLead ∧ s.alive ∧ (s.csc.stage = 1 ∨ s.csc.stage = 2) then
    let s := s.advanceTo (s.csc.tokenAt + 100000)
    .next (({ s with csc := { s.csc with stage := 0, sent := false, lateTok := true } }).raise Ev.CSC_RING_OPEN)
  else .next s

/-- ENUM_RETRY (R138): a new attempt every 10,000,000 ticks. -/
def execEnumRetry (s : State) : Result :=
  if s.mayEnum then .next (s.advanceTo (s.csc.tokenAt + 10000000)).sendToken else .next s

/-- SINGLE_DEVICE_ENUM_TIMEOUT (R137): no port locked in the 100,000 ticks after the first marker; complete at the next
boundary. -/
def execSingleDeviceEnumTimeout (s : State) : Result :=
  match s.csc.firstMarker with
  | some t =>
    if s.mayEnum ∧ s.get Reg.CSC_CFG_NDEV ≤ 1 ∧ !s.csc.everLocked then
      let s := s.advanceTo (t + 100000)
      .next ({ s with csc := { s.csc with stage := 3, records := [], expect := [] } }.put Reg.CSC_ENUMSTAT_NFOUND 0)
    else .next s
  | none => .next s

/-- ENUM_REQUEST (R136, R147): on the lead, and not while a contactor role is closed. A cascade of one waits anew for a
port to lock (R137). -/
def execEnumRequest (_ini : Ini) (s : State) : Result :=
  if !s.isLead ∨ !s.alive ∨ s.anyRoleOn ∨ s.csc.mute then .next s
  else
    let s := (s.putB Reg.CSC_STAT_ENUM false).put Reg.SYS_PROFSTAT_ROLE 0
    let s := { s with csc := { s.csc with stage := 0, firstMarker := some s.now } }
    .next (if s.hopsWhole ∧ s.csc.hopsAt + 100000 ≤ s.now then s.sendToken else s)

/-- NO_LEAD_TIMEOUT (Table 5.4): LTMO frame periods after the boot without a marker. -/
def execNoLeadTimeout (s : State) : Result :=
  if s.isLead ∨ !s.alive ∨ s.csc.everMarker ∨ s.saf.loss ∨
      s.now < s.power.releasedAt + 1000000 * clampN 2 255 (s.get Reg.CSC_LOSSCFG_LTMO) then .next s
  else .next ((s.raise Ev.CSC_NO_LEAD).lossBegin 0)

/-- FOREIGN_SYNC_DETECTED (Table 5.4). -/
def execForeignSyncDetected (s : State) : Result :=
  if s.isLead ∧ s.alive ∧ !s.csc.mute then .next s.multiLead else .next s

/-- Enumeration completes at a boundary (R136 step 7, R137): on the lead once it has read every follower's first frame
record, on a follower once the lead has confirmed it. -/
def State.enumBoundary (s : State) : State :=
  if s.csc.stage ≠ (if s.isLead then 3 else 4) then s
  else if s.isLead then
    if s.allRecords then
      let s := { s with csc := { s.csc with
        stage := 0, missed := List.replicate 8 0, differ := List.replicate 8 0, since := List.replicate 8 s.frame,
        tripping := 0, rejoin := 0, anchorMiss := 0, anchorBad := false, buf := [], lastBuf := [] } }
      let s := ((s.putB Reg.CSC_STAT_ENUM true).put Reg.SYS_PROFSTAT_ROLE 1).put Reg.SYS_PROFSTAT_DEVNUM 0
      ((s.put Reg.CSC_LOST_DEV 0).lossEnd).raise Ev.CSC_ENUM_DONE
    else s
  else
    let s := { s with csc := { s.csc with stage := 0, silent := 0, answered := false } }
    (((s.putB Reg.CSC_STAT_ENUM true).put Reg.SYS_PROFSTAT_ROLE 2).putB Reg.CSC_STAT_NOLEAD false).lossEnd

/-! ### The ring (R139, R140, R457) -/

/-- Hops of the ring. -/
def State.hopCount (s : State) : Nat := s.get Reg.CSC_ENUMSTAT_NFOUND + 1

/-- The gap touches a hop: it holds it or a hop next to it. -/
def Gap.touches (g : Gap) (hop : Nat) : Bool :=
  g.hops.testBit hop || g.hops.testBit (hop + 1) || (hop != 0 && g.hops.testBit (hop - 1))

/-- The lead records a gap: the device before its first hop and the device after its last (R139). -/
def State.gapShow (s : State) (g : Gap) : State :=
  let l := (List.range s.hopCount).filter g.hops.testBit
  (s.put Reg.CSC_RINGSTAT_BRKFIRST (l.headD 0)).put Reg.CSC_RINGSTAT_BRKLAST ((l.getLastD 0 + 1) % s.hopCount)

/-- The lead uses both directions while a gap exists; a follower sends back when a gap lies after it (R139). -/
def State.gapReversed (s : State) : Bool :=
  s.csc.gaps.any fun g => s.isLead || (List.range 8).any fun i => g.hops.testBit i && decide (s.devNum ≤ i)

/-- A hop has lost lock in one direction at least. -/
def State.hopDown (s : State) (hop : Nat) : State :=
  { s with csc := { s.csc with
    hops := bitTo s.csc.hops hop false, hopsLost := bitTo s.csc.hopsLost hop true, hopsAt := s.now } }

/-- The gaps that a hop touches become one gap with it (R139). -/
def State.gapJoin (s : State) (hop : Nat) (gap : Gap) : State :=
  { s with csc := { s.csc with gaps := s.csc.gaps.filter (fun g => !g.touches hop) ++ [gap] } }

/-- HOP_LOCK_LOST (R139, R140): a hop that touches a gap joins it, and gaps that it joins become one; any other is a new gap. -/
def execHopLockLost (hop : Nat) (s : State) : Result :=
  if !s.alive then .next s
  else
    let s := s.hopDown hop
    if !s.flag Reg.CSC_STAT_ENUM ∨ (s.isLead ∧ (s.hopCount ≤ hop ∨ s.hopCount ≤ 1)) then .next s
    else
      let near := s.csc.gaps.filter (·.touches hop)
      let gap : Gap := { hops := near.foldl (fun m g => m ||| g.hops) (2 ^ hop), healed := none }
      let s := s.gapJoin hop gap
      let s := s.putB Reg.CSC_STAT_REVERSED s.gapReversed
      if s.isLead then
        let s := (s.gapShow gap).putB Reg.CSC_RINGSTAT_BROKEN true
        .next (if near.isEmpty then (s.incSat Reg.CSC_RINGSTAT_BRKCNT).raise Ev.CSC_RING_BREAK else s)
      else .next s

/-- HOP_LOCK_GAINED (R457): a gap whose hops are all locked again begins to heal (R140). -/
def execHopLockGained (hop : Nat) (s : State) : Result :=
  if !s.alive then .next s
  else
    let hops := bitTo s.csc.hops hop true
    let whole := fun (g : Gap) => (List.range 8).all fun i => !g.hops.testBit i || hops.testBit i
    .next { s with csc := { s.csc with
      hops, hopsLost := bitTo s.csc.hopsLost hop false, hopsAt := s.now, everLocked := true,
      gaps := s.csc.gaps.map fun g => if g.hops.testBit hop && whole g then { g with healed := some s.now } else g } }

/-- A gap has had every hop locked for 100 frame periods (R140). -/
def State.gapClosed (s : State) (g : Gap) : Bool :=
  match g.healed with
  | some t => decide (t + 100000000 ≤ s.now)
  | none => false

/-- RING_GAP_CLOSED (R140): the hops of a gap have been locked for 100 consecutive frames; it ends at the next boundary. -/
def execRingGapClosed (s : State) : Result :=
  if s.alive then
    .next { s with csc := { s.csc with
      restore := (s.csc.gaps.filter s.gapClosed).foldl (fun m g => m ||| g.hops) s.csc.restore } }
  else .next s

/-- Closed gaps end at a boundary: with the last of them the ring direction returns (R140); while another exists the ring stays
broken (assumption 107). -/
def State.ringBoundary (s : State) : State :=
  if s.csc.restore = 0 then s
  else
    let gaps := s.csc.gaps.filter fun g => !(s.gapClosed g && g.hops &&& s.csc.restore != 0)
    let none_ := gaps.isEmpty && !s.csc.gaps.isEmpty
    let s : State := { s with csc := { s.csc with restore := 0, gaps } }
    let s := s.putB Reg.CSC_STAT_REVERSED s.gapReversed
    if s.isLead then
      match gaps with
      | g :: _ => s.gapShow g
      | [] => if none_ then (s.putB Reg.CSC_RINGSTAT_BROKEN false).raise Ev.CSC_RING_RESTORED else s
    else s

/-! ### Loss (R141, R142, R144) -/

/-- FOLLOWER_LOST (R141): no complete frame record in FLOST frames. An impedance point in progress ends with reason 5, a lost
anchor's isolation run with it. -/
def execFollowerLost (dev : Nat) (s : State) : Result :=
  if s.isLead ∧ s.alive ∧ s.flag Reg.CSC_STAT_ENUM ∧ s.knows dev ∧ !s.bit Reg.CSC_LOST_DEV dev ∧
      clampN 1 15 (s.get Reg.CSC_LOSSCFG_FLOST) ≤ s.csc.missed.getD dev 0 then
    let anchor := (s.anchorRecord.map (·.dev)) == some dev
    let s := { s with
      csc := { s.csc with
        lostAt := s.csc.lostAt.set dev s.frame, missed := s.csc.missed.set dev 0, differ := s.csc.differ.set dev 0 }
      saf := { s.saf with followerForb := bitTo s.saf.followerForb dev false } }
    let s := (s.putBit Reg.CSC_LOST_DEV dev true).raise Ev.CSC_FOLLOWER_LOST
    let s := if anchor ∧ s.bal.asked.testBit 2 then s.isoOver else s
    .next ((if 2 ≤ s.eis.phase then s.eisIncomplete else s).settle.protect)
  else .next s

/-- FOLLOWER_LOSS_TRIP (R141): still lost FTRIP frames after the declaration. -/
def execFollowerLossTrip (dev : Nat) (s : State) : Result :=
  let ft := s.get Reg.CSC_LOSSCFG_FTRIP
  if s.isLead ∧ s.alive ∧ s.bit Reg.CSC_LOST_DEV dev ∧ ft ≠ 0 ∧ ft ≤ s.framesSince (s.csc.lostAt.getD dev 0) then
    let s := { s with csc := { s.csc with tripping := bitTo s.csc.tripping dev true } }
    .next ((s.putBit Reg.CSC_TRIPSRC_LATCH dev true).lossBegin dev)
  else .next s

/-- A readmitted follower is asked for the activities in force (R281). -/
def State.askAgain (s : State) (d : Nat) : State :=
  [2, 4, 6].foldl (fun s k =>
    let s := s.setGrantsOf k (bitTo (s.grantsOf k) d false)
    if s.bal.asked.testBit k then s.send (.access (.request k)) d 0 0 else s) s

/-- A follower is readmitted (R142, R146). -/
def State.rejoinDev (s : State) (d : Nat) : State :=
  let s : State := { s with csc := { s.csc with
    rejoin := bitTo s.csc.rejoin d false, since := s.csc.since.set d s.frame, missed := s.csc.missed.set d 0,
    tripping := bitTo s.csc.tripping d false } }
  let s : State := ((s.putBit Reg.CSC_LOST_DEV d false).raise Ev.CSC_FOLLOWER_REJOINED).askAgain d
  if s.csc.tripping == 0 && s.saf.loss && !s.csc.mute then s.lossEnd else s

/-- Readmission takes effect at a boundary (R142). -/
def State.rejoinBoundary (s : State) : State :=
  (List.range 8).foldl (fun s d => if s.csc.rejoin.testBit d then s.rejoinDev d else s) s

/-- LEAD_LOST (R144): neither marker nor heartbeat in LTMO consecutive expected frames; the cascade grants go
(R281), and so do the SUSPECT marks (R206). -/
def execLeadLost (s : State) : Result :=
  let n := if s.csc.heard then 0 else s.csc.silent + 1
  if s.isLead ∨ !s.alive ∨ s.sleeping ∨ !s.csc.everMarker ∨ s.flag Reg.CSC_STAT_NOLEAD ∨
      n < clampN 2 255 (s.get Reg.CSC_LOSSCFG_LTMO) then .next s
  else
    let s := ((s.putB Reg.CSC_STAT_NOLEAD true).putB Reg.TMB_SRC_ALIGNED false).raise Ev.CSC_LEAD_LOST
    let s := { s with thm := { s.thm with suspect := 0, suspectNext := none } }.putB Reg.THM_STAT_SUSP false
    .next s.eisAbort.dropCascadeGrants.isoOrphan.settle

/-- LEAD_LOSS_TRIP (R144): at the predicted boundary of the LTMO-th missed frame plus 1,000 ticks. -/
def execLeadLossTrip (s : State) : Result :=
  if s.isLead ∨ !s.alive ∨ !s.flag Reg.CSC_STAT_NOLEAD ∨ s.saf.loss then .next s
  else .next ((s.advanceTo (s.fstart + 1000)).lossBegin 0)

/-! ### TRIP (R145, R146) -/

/-- TRIP_RECOGNISED (R145, R146): the cause of source 10. -/
def execTripRecognised (s : State) : Result :=
  if !s.alive then .next s
  else
    let s := s.raiseIf (!s.flag Reg.CSC_STAT_TRIPIN) Ev.CSC_TRIP_IN
    .next (({ s with saf := { s.saf with tripIn := true } }.putB Reg.CSC_STAT_TRIPIN true).protect)

/-- TRIP_READBACK_CHECK (R146): 200 ticks after this device began to drive. -/
def execTripReadbackCheck (released : Bool) (s : State) : Result :=
  if s.flag Reg.CSC_STAT_TRIPOUT ∧ s.alive then
    .next ((s.advanceTo (s.csc.tripAt + 200)).raiseIf released Ev.CSC_TRIP_FAULT)
  else .next s

/-- TRIP_RELEASED (R229): the line is high; the cause of source 10 is absent. -/
def execTripReleased (s : State) : Result :=
  let s := { s with saf := { s.saf with tripIn := false } }.putB Reg.CSC_STAT_TRIPIN false
  .next (if s.alive then s.safShow else s)

/-! ### At a frame boundary -/

/-- The own timebase at a boundary (R376): trims of the frame, or a step with its ALIGN note. -/
def State.tickBoundary (s : State) : State :=
  let s := { s with tick := (s.tick + s.tmb.trim).toNat, tmb := { s.tmb with trim := 0 } }
  match s.tmb.step with
  | none => s
  | some t => (({ s with tmb := { s.tmb with step := none } }).stepTick t).putB Reg.TMB_SRC_ALIGNED true

/-- Number of the frame that a follower starts: that of the marker, as the next number with those low bits. -/
def State.frameNumber (s : State) : Nat :=
  let next := s.frame + 1
  match s.csc.marker with
  | some m => (next + (m.2.2.2 + 65536 - next % 65536) % 65536) % 2 ^ 32
  | none => next % 2 ^ 32

/-- The link at a boundary: enumeration, readmission, ring direction, what the lead sends, and the follower's watch over
the lead (R144). `expected`: the frame that ended was one in which the lead was expected. -/
def State.cscBoundary (s : State) (expected : Bool) : State :=
  let s := s.enumBoundary.rejoinBoundary.ringBoundary
  if s.isLead then
    let s := { s with csc := { s.csc with closed := false } }
    let s := if s.csc.everLocked ∧ !s.csc.mute then s.send .heartbeat 8 s.tick s.forbidden.toNat else s
    (List.range 8).foldl (fun s d => if s.bit Reg.CSC_LOST_DEV d then s.send .readmit d d 0 else s) s
  else
    let silent := if s.csc.heard || !expected then (if expected then 0 else s.csc.silent) else s.csc.silent + 1
    { s with csc := { s.csc with silent, heard := s.csc.marker.isSome, marker := none, edge := 0 } }

end Sys2Proof.Machine
end

