-- ==== Sys2Proof/Machine/Can.lean ====
section
/-!
DEFINITION. The CAN FD channels at the level of frames (R336 to R351, R359): configuration, message objects, filters,
transmission, the CAN4 FIFO, fault confinement, bit-rate detection, reference messages, sleep and wake.
-/
namespace Sys2Proof.Machine

/-! ### Shared operations -/

/-- Set `STAT.SVC` and raise CANx_SERVICE (Table 15.6). -/
def State.canService (s : State) (ch svc : Nat) : State := (s.put (Reg.CAN_STAT_SVC.at ch) svc).raise (Ev.CAN_SERVICE ch)

/-- The object that `OBJSEL` selects. -/
def State.objSel (s : State) (ch : Nat) : Nat := s.get (Reg.CAN_OBJSEL_OBJ.at ch)

/-- A valid send object. -/
def State.sendObj (s : State) (ch k : Nat) : Bool := s.objBit ch k 0 31 && s.objBit ch k 0 30

/-- A valid receive object (R343). -/
def State.recvObj (s : State) (ch k : Nat) : Bool := s.objBit ch k 0 31 && !s.objBit ch k 0 30

/-- Failed attempts of the frame of object `k` (128: FIFO head). -/
def State.setTries (s : State) (ch k n : Nat) : State :=
  let c := s.canOf ch
  s.setCan ch { c with tries := nset k n c.tries }

/-- Request the transmission of object `k`: NEW is set and the frame is sealed where R355 says so (R344). -/
def State.objRequest (s : State) (ch k : Nat) : State :=
  if s.sendObj ch k then
    let s := (((s.setObjBit ch k 1 0 true).setObjBit ch k 1 1 false).setObjBit ch k 1 3 false).setTries ch k 0
    if s.objBit ch k 1 29 && !s.cantxOpen ch k then s else s.sealObj ch k
  else s

/-- Withdraw or abandon the frame of object `k`: WDR and CANx_TXFAIL; `keep` says whether NEW stays (R344 to R346). -/
def State.objWithdraw (s : State) (ch k : Nat) (keep : Bool) : State :=
  let s := if keep then s else (s.setObjBit ch k 1 0 false).setTries ch k 0
  (s.setObjBit ch k 1 3 true).raise (Ev.CAN_TXFAIL ch)

/-- The protocol engine stops for Watch or Sleep (R350). -/
def State.canStop (s : State) (ch : Nat) : State :=
  (s.setCan ch { s.canOf ch with joined := false, sending := none, cancelled := false, abd := none }).putB
    (Reg.CAN_STAT_SLEEP.at ch) true

/-- Watch or Sleep from a boundary (Table 15.3): pending requests are withdrawn, the FIFO is cleared, and the engine stops
when the frame in progress has completed. -/
def State.canSleep (s : State) (ch : Nat) : State :=
  let inFlight := (s.canOf ch).sending
  let s := (List.range 128).foldl (fun s k =>
    if s.sendObj ch k && s.objBit ch k 1 0 && inFlight != some k then s.objWithdraw ch k false else s) s
  let c := s.canOf ch
  let s := s.setCan ch { c with fifo := if inFlight = some 128 then c.fifo.take 1 else [] }
  if inFlight.isNone then s.canStop ch else s

/-- Run from a boundary: the channel joins the bus after 11 recessive bits (R348). -/
def State.canResume (s : State) (ch : Nat) : State :=
  (s.setCan ch { s.canOf ch with joined := false, waitAt := s.now }).putB (Reg.CAN_STAT_SLEEP.at ch) false

/-- CORE cycles of a nominal bit (R338); a segment below its limit acts as the limit. -/
def State.canBit (s : State) (ch : Nat) : Nat :=
  (s.get (Reg.CAN_NBT_NBRP.at ch) + 1) *
    (1 + max 2 (s.get (Reg.CAN_NBT_NTSEG1.at ch) + 1) + max 2 (s.get (Reg.CAN_NBT_NTSEG2.at ch) + 1))

/-- Ticks of `n` nominal bits, six CORE cycles a tick. -/
def State.canBits (s : State) (ch n : Nat) : Nat := (n * s.canBit ch + 5) / 6

/-- The level of CANxSTB: true is the standby request (R336, R350). -/
def State.canStb (s : State) (ch : Nat) : Bool :=
  s.flag (Reg.CAN_STAT_SLEEP.at ch) && !(ch == 0 && s.flag Reg.CAN_WAKE_WFEN)

/-- Time master (R349): NEW on the reference object at the boundary of every frame whose number is a multiple of PER. -/
def State.canReference (s : State) : State :=
  (List.range 4).foldl (fun s ch =>
    if s.isLead && s.canRuns ch && s.flag (Reg.CAN_REFCFG_TMEN.at ch) &&
        s.frame % clampN 1 100 (s.get (Reg.CAN_REFCFG_PER.at ch)) == 0 then
      s.objRequest ch (s.get (Reg.CAN_REFCFG_OBJ.at ch))
    else s) s

/-! ### Configuration -/

/-- Take a controller off the bus or let it join (R348); CAN2 to CAN4 stay in INIT on a follower (R336). -/
def State.canInit (s : State) (ch : Nat) (init : Bool) : State :=
  let init := init || !s.canRuns ch
  if init = s.flag (Reg.CAN_CTRL_INIT.at ch) then s
  else
    let s := (s.putB (Reg.CAN_CTRL_INIT.at ch) init).putB (Reg.CAN_STAT_INIT.at ch) init
    (s.setCan ch { s.canOf ch with
      joined := false, waitAt := s.now, sending := none, cancelled := false, abd := none }).tktRebind

/-- CAN_INIT_WRITE (R348, R354). -/
def execCanInitWrite (ini : Ini) (ch : Fin 4) (init : Bool) (s : State) : Result :=
  .next (s.onPage ini (Reg.CAN_CTRL_INIT.at ch.val).addr fun s => s.canInit ch.val init)

/-- Enter or leave listen-only mode (R337). -/
def State.canLom (s : State) (ch : Nat) (lom : Bool) : State :=
  let s := (s.putB (Reg.CAN_CTRL_LOM.at ch) lom).putB (Reg.CAN_STAT_LOM.at ch) lom
  if lom then s else s.setCan ch { s.canOf ch with abd := none }

/-- CAN_LOM_WRITE (R337). -/
def execCanLomWrite (ini : Ini) (ch : Fin 4) (lom : Bool) (s : State) : Result :=
  .next (s.onPage ini (Reg.CAN_CTRL_LOM.at ch.val).addr fun s => s.canLom ch.val lom)

/-- Start a detection while LOM = 1 and INIT = 0 (R340). -/
def State.canAbd (s : State) (ch : Nat) : State :=
  if s.flag (Reg.CAN_CTRL_LOM.at ch) && !s.flag (Reg.CAN_CTRL_INIT.at ch) then
    s.setCan ch { s.canOf ch with abd := some s.now }
  else s

/-- CAN_ABD_START (R340). -/
def execCanAbdStart (ini : Ini) (ch : Fin 4) (s : State) : Result :=
  .next (s.onPage ini (Reg.CAN_CTRL_ABD.at ch.val).addr fun s => s.canAbd ch.val)

/-- CORE cycles of a nominal bit for NRATE 1 to 4, and of a data bit for DRATE 1 to 5 (R338, Table 15.5). -/
def nominalCycles (n : Nat) : Nat := [4800, 2400, 1200, 600].getD (n - 1) 600
def dataCycles (n : Nat) : Nat := [600, 300, 150, 120, 75].getD (n - 1) 75

/-- The words of `NBT` that give a rate with a sample point of 80 % and NSJW equal to NTSEG2 within the limits of R338. -/
def nbtChoices (cycles : Nat) : List Nat :=
  (List.range 256).filterMap fun b =>
    let n := cycles / (b + 1)
    let t2 := n / 5
    if cycles % (b + 1) = 0 ∧ n % 5 = 0 ∧ 2 ≤ t2 ∧ t2 ≤ 128 ∧ 3 ≤ n - t2 ∧ n - t2 ≤ 257 then
      some (b * 2 ^ 24 + (n - t2 - 2) * 2 ^ 16 + (t2 - 1) * 2 ^ 8 + (t2 - 1))
    else none

/-- The words of `DBT` that give a rate with the sample point nearest to 75 %, before DSJW, within the limits of R338. -/
def dbtChoices (cycles : Nat) : List Nat :=
  (List.range 32).filterMap fun b =>
    let n := cycles / (b + 1)
    let a := (roundDiv (3 * n) 4).toNat
    if cycles % (b + 1) = 0 ∧ 3 ≤ a ∧ a ≤ 65 ∧ a + 1 ≤ n ∧ n ≤ a + 32 then
      some (b * 2 ^ 24 + (a - 2) * 2 ^ 16 + (n - a - 1) * 2 ^ 8)
    else none

/-- One of a list of words, by a free value. -/
def State.freeOf (s : State) (l : List Nat) : Nat := l.getD (s.freeN % l.length) 0

/-- CAN_ABD_DONE (R340): the rates found are loaded and reported with SVC 3. Which division of the bit the controller loads
is left free among those that meet R340 and R338, and so is DSJW. -/
def execCanAbdDone (ch : Fin 4) (nrate drate : Nat) (s : State) : Result :=
  let c := s.canOf ch.val
  if s.alive ∧ c.abd.isSome ∧ 1 ≤ nrate ∧ nrate ≤ 4 ∧ drate ≤ 5 then
    let s := (s.setWord (Reg.CAN_NBT + 0x1000 * ch.val)
      (BitVec.ofNat 32 (s.freeOf (nbtChoices (nominalCycles nrate))))).nextFree
    let s : State := if drate = 0 then s else
      let w := s.freeOf (dbtChoices (dataCycles drate))
      let s := s.nextFree
      (s.setWord (Reg.CAN_DBT + 0x1000 * ch.val) (BitVec.ofNat 32 (w + s.freeN % (w / 2 ^ 8 % 32 + 1)))).nextFree
    let s := ((s.putB (Reg.CAN_ABDRES_VALID.at ch.val) true).put (Reg.CAN_ABDRES_NRATE.at ch.val) nrate).put
      (Reg.CAN_ABDRES_DRATE.at ch.val) drate
    .next ((s.setCan ch.val { s.canOf ch.val with abd := none }).canService ch.val 3)
  else .next s

/-- CAN_ABD_TIMEOUT (R340): no nominal rate is confirmed within ABDTMO. -/
def execCanAbdTimeout (ch : Fin 4) (s : State) : Result :=
  let c := s.canOf ch.val
  match c.abd with
  | some t =>
    if s.alive then
      let s := s.advanceTo (t + 100000 * clampN 10 60000 (s.get (Reg.CAN_ABDCFG_ABDTMO.at ch.val)))
      .next ((s.setCan ch.val { c with abd := none }).canService ch.val 4)
    else .next s
  | none => .next s

/-! ### Objects -/

/-- OBJECT_REQ (R344, R355). -/
def execObjectReq (ini : Ini) (ch : Fin 4) (s : State) : Result :=
  .next (s.onPage ini (Reg.CAN_OBJCMD_REQ.at ch.val).addr fun s => s.objRequest ch.val (s.objSel ch.val))

/-- Withdraw a request that has not yet won arbitration. Of a frame in arbitration or being sent, the outcome tells. -/
def State.objCancel (s : State) (ch k : Nat) : State :=
  if s.sendObj ch k && s.objBit ch k 1 0 then
    let c := s.canOf ch
    if c.sending = some k then s.setCan ch { c with cancelled := true } else s.objWithdraw ch k false
  else s

/-- OBJECT_CANCEL (R344). -/
def execObjectCancel (ini : Ini) (ch : Fin 4) (s : State) : Result :=
  .next (s.onPage ini (Reg.CAN_OBJCMD_CANCEL.at ch.val).addr fun s => s.objCancel ch.val (s.objSel ch.val))

/-- Acknowledge unread data of a receive object (R342). -/
def State.objAck (s : State) (ch k : Nat) : State := if s.objBit ch k 0 30 then s else s.setObjBit ch k 1 0 false

/-- OBJECT_ACK (R342). -/
def execObjectAck (ini : Ini) (ch : Fin 4) (s : State) : Result :=
  .next (s.onPage ini (Reg.CAN_OBJCMD_ACK.at ch.val).addr fun s => s.objAck ch.val (s.objSel ch.val))

/-- A write of word 0 of the selected object takes effect only while INIT = 1 (R341) and re-evaluates the connections. -/
def State.objWord0 (s : State) (ch : Nat) (val : Word) : State :=
  if s.flag (Reg.CAN_CTRL_INIT.at ch) then (s.setObjWord ch (s.objSel ch) 0 val.toNat).tktRebind else s

/-- OBJECT_WORD0_WRITE (R341, R354). -/
def execObjectWord0Write (ini : Ini) (ch : Fin 4) (val : Word) (s : State) : Result :=
  .next (s.onPage ini (Reg.CAN_OBJW_VAL.at ch.val).addr fun s => s.objWord0 ch.val val)

/-- A write of word `w` of the selected object (Table 15.1): word 1 keeps its read-only bits, word 2 is read only. -/
def State.objWordWrite (s : State) (ch w : Nat) (val : Word) : State :=
  let k := s.objSel ch
  match w with
  | 0 => s.objWord0 ch val
  | 1 => s.setObjWord ch k 1 (s.objWord ch k 1 % 2 ^ 24 + val.toNat / 2 ^ 24 * 2 ^ 24)
  | 2 => s
  | _ => s.setObjWord ch k w val.toNat

/-! ### The CAN4 FIFO (R347) -/

/-- The words of a FIFO frame in order: 0, 1, 3 to 18. -/
def fifoWords : List Nat := 0 :: 1 :: (List.range 16).map (· + 3)

/-- Push the frame of the window, or refuse it when 32 frames wait. -/
def State.fifoPush (s : State) : State :=
  let c := s.canOf 3
  if c.fifo.length < 32 then
    s.setCan 3 { c with fifo := c.fifo ++ [fifoWords.map fun w => nget w c.fifoWin] }
  else (s.canService 3 6).raise (Ev.CAN_OVERRUN 3)

/-- FIFO_PUSH (R347). -/
def execFifoPush (ini : Ini) (s : State) : Result :=
  .next (s.onPage ini (Reg.CAN_CTRL_FIFOPUSH.at 3).addr State.fifoPush)

/-- Empty the FIFO but for a frame that has won arbitration. -/
def State.fifoClear (s : State) : State :=
  let c := s.canOf 3
  if c.sending = some 128 then s.setCan 3 { c with fifo := c.fifo.take 1, cancelled := true }
  else s.setCan 3 { c with fifo := [], tries := nset 128 0 c.tries }

/-- FIFO_CLEAR (R347). -/
def execFifoClear (ini : Ini) (s : State) : Result :=
  .next (s.onPage ini (Reg.CAN_CTRL_FIFOCLR.at 3).addr State.fifoClear)

/-- Word `w` of the FIFO head. -/
def State.fifoHead (s : State) (w : Nat) : Nat :=
  (((s.canOf 3).fifo.headD []).getD (fifoWords.idxOf w) 0)

/-- The head leaves the FIFO. -/
def State.fifoDrop (s : State) : State :=
  let c := s.canOf 3
  s.setCan 3 { c with fifo := c.fifo.drop 1, tries := nset 128 0 c.tries }

/-! ### Reception (R342, R343) -/

/-- An identifier as objects and filters place it: an 11-bit identifier lies in [28:18] (Table 15.1). -/
def placeId (xtd : Bool) (id : Nat) : Nat := if xtd then id % 2 ^ 29 else id % 2 ^ 11 * 2 ^ 18

/-- Word `w` of filter element `k`. -/
def State.fltWord (s : State) (ch k w : Nat) : Nat := (s.word (Reg.CAN_FLT + 0x1000 * ch + 12 * k + 4 * w)).toNat

/-- Filter element `k` matches (Table 15.2); an element whose object is not a valid receive object is skipped. -/
def State.fltMatch (s : State) (ch k : Nat) (xtd : Bool) (id : Nat) : Bool :=
  let w0 := s.fltWord ch k 0
  let id1 := w0 % 2 ^ 29
  let id2 := s.fltWord ch k 1 % 2 ^ 29
  s.recvObj ch (s.fltWord ch k 2 % 128) && w0.testBit 29 == xtd &&
    (match w0 / 2 ^ 30 with
      | 1 => decide (id1 ≤ id ∧ id ≤ id2)
      | 2 => id == id1 || id == id2
      | 3 => id &&& id2 == id1 &&& id2
      | _ => false)

/-- The target of a received frame: that of the first element that matches. -/
def State.fltTarget (s : State) (ch : Nat) (xtd : Bool) (id : Nat) : Option Nat :=
  ((List.range 64).find? fun k => s.fltMatch ch k xtd id).map fun k => s.fltWord ch k 2 % 128

/-- Write a received frame into object `k`. -/
def State.objStore (s : State) (ch k : Nat) (f : BusFrame) : State :=
  let len := dlcLen f.fdf f.dlc
  let w := s.objWord ch k 1
  let lost := w.testBit 0
  let w := bitTo (bitTo (bitTo (bitTo (w - w / 2 ^ 24 % 16 * 2 ^ 24 + f.dlc % 16 * 2 ^ 24) 31 f.fdf) 30 f.brs) 23 f.esi) 0 true
  let s := s.setObjWord ch k 1 (if lost then bitTo w 2 true else w)
  let s := (s.setObjWord ch k 2 s.tick32).setObjBytes ch k 0 ((List.range len).map fun i => f.data.getD i 0)
  (s.raiseIf lost (Ev.CAN_OVERRUN ch)).raiseIf (s.objBit ch k 1 28) (Ev.CAN_RX ch)

/-- CAN_FRAME_RECEIVED (R342): a frame becomes valid now; a remote frame is not stored (R337). -/
def execCanFrameReceived (ch : Fin 4) (f : BusFrame) (s : State) : Result :=
  let ch := ch.val
  if s.canOnBus ch && !f.rtr && (!f.fdf || s.flag (Reg.CAN_MODE_FDOE.at ch)) then
    match s.fltTarget ch f.xtd (placeId f.xtd f.id) with
    | some k =>
      let s := s.objStore ch k f
      match s.connAt ch k false with
      | some n => .next (s.connCheck n ch k (dlcLen f.fdf f.dlc) f.xtd)
      | none => .next s
    | none => .next s
  else .next s

/-! ### Transmission (R344 to R346) -/

/-- Rank of a frame in bus arbitration, lowest first: base identifier, format, extension. -/
def arbKey (w0 : Nat) : Nat :=
  let id := w0 % 2 ^ 29
  id / 2 ^ 18 * 2 ^ 19 + if w0.testBit 29 then 2 ^ 18 + id % 2 ^ 18 else 0

/-- Object `k` is a candidate: pending and free, or scheduled in an open window. An FD frame needs FDOE. -/
def State.objCandidate (s : State) (ch k : Nat) : Bool :=
  s.sendObj ch k && s.objBit ch k 1 0 && (!s.objBit ch k 1 29 || s.cantxOpen ch k) &&
    (!s.objBit ch k 1 31 || s.flag (Reg.CAN_MODE_FDOE.at ch))

/-- The FIFO head is a candidate on CAN4. -/
def State.fifoCandidate (s : State) (ch : Nat) : Bool :=
  ch == 3 && !(s.canOf 3).fifo.isEmpty && (!(s.fifoHead 1).testBit 31 || s.flag (Reg.CAN_MODE_FDOE.at 3))

/-- The frame that the controller picks: highest rank, ties to the lower object, the FIFO head (128) last (R344). -/
def State.canPick (s : State) (ch : Nat) : Option Nat :=
  let objs := ((List.range 128).filter (s.objCandidate ch)).map fun k => (arbKey (s.objWord ch k 0), k)
  let all := if s.fifoCandidate ch then objs ++ [(arbKey (s.fifoHead 0), 128)] else objs
  (all.foldl (fun (best : Option (Nat × Nat)) x =>
    match best with
    | none => some x
    | some b => if x.1 < b.1 then some x else some b) none).map (·.2)

/-- The data bytes of a reference message (R349): the mark in µs, GEN, the count. -/
def State.referenceData (s : State) (ch k : Nat) : State :=
  s.setObjBytes ch k 0 ((leBytes 6 (s.tick / 100) ++ leBytes 1 (s.get Reg.TMB_GEN_GEN) ++ leBytes 1 (s.canOf ch).refN).map
    (·.toNat))

/-- Object `k` carries the reference messages of the channel. -/
def State.isReference (s : State) (ch k : Nat) : Bool :=
  s.isLead && s.flag (Reg.CAN_REFCFG_TMEN.at ch) && s.get (Reg.CAN_REFCFG_OBJ.at ch) == k

/-- CAN_START_OF_FRAME (R344): listen-only mode sends nothing (R337). -/
def execCanStartOfFrame (ch : Fin 4) (s : State) : Result :=
  let ch := ch.val
  if s.canOnBus ch && !s.flag (Reg.CAN_CTRL_LOM.at ch) && (s.canOf ch).sending.isNone &&
      s.get Reg.SYS_PROFSTAT_PROF == 0 then
    match s.canPick ch with
    | some k =>
      let s := s.setCan ch { s.canOf ch with sending := some k, cancelled := false }
      .next (if s.isReference ch k then s.referenceData ch k else s)
    | none => .next s
  else .next s

/-- The frame in progress has ended; in Watch or Sleep the engine stops with it (R351). -/
def State.canFrameEnd (s : State) (ch : Nat) : State :=
  let s := s.setCan ch { s.canOf ch with sending := none, cancelled := false }
  if s.get Reg.SYS_PROFSTAT_PROF = 0 then s else s.canStop ch

/-- An attempt of the frame of object `k` (128: FIFO head) has failed (R345, R346). -/
def State.canAttemptFailed (s : State) (ch k : Nat) (arbitration : Bool) : State :=
  let tries : Nat := nget k (s.canOf ch).tries + 1
  let retry := min 16 (s.get (Reg.CAN_MODE_RETRY.at ch))
  let spent := decide (retry < 16 ∧ retry < tries)
  let gone := (s.canOf ch).cancelled && arbitration
  let asleep := s.get Reg.SYS_PROFSTAT_PROF != 0
  let s := s.setTries ch k tries
  let s : State :=
    if k = 128 then
      if asleep || gone then s.fifoDrop
      else if spent then s.fifoDrop.raise (Ev.CAN_TXFAIL ch)
      else s
    else if asleep || gone || spent then s.objWithdraw ch k false
    else if s.objBit ch k 1 29 && !s.cantxOpen ch k then s.objWithdraw ch k true
    else s
  s.canFrameEnd ch

/-- Word 1 of the frame in progress. -/
def State.sendingWord1 (s : State) (ch k : Nat) : Nat := if k = 128 then s.fifoHead 1 else s.objWord ch k 1

/-- CAN_TX_SUCCESS (R344). With transceiver-delay compensation in effect the delay is measured in a frame with bit-rate
switching; a delay above 255 cycles saturates TDCV, and the frame ends in a bit error (R339). -/
def execCanTxSuccess (ch : Fin 4) (tdcv : Nat) (s : State) : Result :=
  let ch := ch.val
  match (s.canOf ch).sending with
  | some k =>
    let w := s.sendingWord1 ch k
    let tdc := w.testBit 31 && w.testBit 30 && s.flag (Reg.CAN_TDC_TDCEN.at ch) && decide (s.get (Reg.CAN_DBT_DBRP.at ch) ≤ 1)
    let s := if tdc then s.put (Reg.CAN_TDC_TDCV.at ch) (min 255 tdcv) else s
    if tdc && decide (255 < tdcv) then .next ((s.canService ch 5).canAttemptFailed ch k false)
    else
      let s : State :=
        if k = 128 then s.fifoDrop
        else
          let s := (((s.setObjBit ch k 1 0 false).setObjBit ch k 1 1 true).setObjWord ch k 2 s.tick32).setTries ch k 0
          let s := if s.isReference ch k then s.setCan ch { s.canOf ch with refN := ((s.canOf ch).refN + 1) % 256 } else s
          s.connSent ch k
      .next ((s.raiseIf (w.testBit 28) (Ev.CAN_TXDONE ch)).canFrameEnd ch)
  | none => .next s

/-- CAN_TX_ATTEMPT_FAILED (R346): the attempt lost arbitration or ended in an error. -/
def execCanTxAttemptFailed (ch : Fin 4) (arbitration : Bool) (s : State) : Result :=
  match (s.canOf ch.val).sending with
  | some k => .next (s.canAttemptFailed ch.val k arbitration)
  | none => .next s

/-- CANTX_WINDOW_END (R345, R58): the first window of the object that is open or has just ended closes; a frame that is not
in arbitration is withdrawn and keeps NEW. -/
def execCantxWindowEnd (ch : Fin 4) (obj : Nat) (s : State) : Result :=
  let ch := ch.val
  match s.tt.cantx.find? fun w => w.1 == ch && w.2.1 == obj with
  | some w =>
    let s := s.advanceTo w.2.2
    let s : State := { s with tt := { s.tt with cantx := s.tt.cantx.erase w } }
    if s.alive && s.sendObj ch obj && s.objBit ch obj 1 29 && s.objBit ch obj 1 0 && (s.canOf ch).sending != some obj then
      .next (s.objWithdraw ch obj true)
    else .next s
  | none => .next s

/-! ### Fault confinement (R348) -/

/-- Error state of a pair of counters (ISO 11898-1): bus-off above 255, passive above 127. -/
def errorState (tec rec_ : Nat) : Nat := if 255 < tec then 2 else if 127 < tec ∨ 127 < rec_ then 1 else 0

/-- The counters take new values. A bus-off controller leaves that state by recovery only. -/
def State.canCounters (s : State) (ch tec rec_ : Nat) : State :=
  if !s.alive || !s.canRuns ch || s.get (Reg.CAN_STAT_ESTATE.at ch) == 2 then s
  else
    let st := errorState tec rec_
    let old := s.get (Reg.CAN_STAT_ESTATE.at ch)
    let s := ((s.putSat (Reg.CAN_STAT_TEC.at ch) tec).putSat (Reg.CAN_STAT_REC.at ch) rec_).put (Reg.CAN_STAT_ESTATE.at ch) st
    let s := if st = 2 then
        ((s.setCan ch { s.canOf ch with offAt := s.now }).putB (Reg.CAN_STAT_RECOV.at ch) true).incSat
          (Reg.CAN_BOCNT_COUNT.at ch)
      else s
    s.raiseIf (st != old) (Ev.CAN_STATE ch)

/-- CAN_ERROR_STATE_CHANGE (R348). -/
def execCanErrorStateChange (ch : Fin 4) (tec rec_ : Nat) (s : State) : Result := .next (s.canCounters ch.val tec rec_)

/-- CAN_RECEIVE_ERROR (R348): a protocol error in a frame on the bus; the frame is not stored. -/
def execCanReceiveError (ch : Fin 4) (tec rec_ : Nat) (s : State) : Result :=
  .next (if s.canOnBus ch.val then s.canCounters ch.val tec rec_ else s)

/-- BUS_OFF_RECOVERED (R348): after 128 occurrences of 11 consecutive recessive bits, which take their time at least. -/
def execBusOffRecovered (ch : Fin 4) (s : State) : Result :=
  let ch := ch.val
  if s.alive && s.get (Reg.CAN_STAT_ESTATE.at ch) == 2 then
    let s := s.advanceTo ((s.canOf ch).offAt + s.canBits ch 1408)
    let s := ((s.put (Reg.CAN_STAT_ESTATE.at ch) 0).putB (Reg.CAN_STAT_RECOV.at ch) false).put (Reg.CAN_STAT_TEC.at ch) 0
    .next ((s.put (Reg.CAN_STAT_REC.at ch) 0).raise (Ev.CAN_STATE ch))
  else .next s

/-- CAN_BUS_INTEGRATED (R348): 11 consecutive recessive bits after INIT is cleared or after a wake. -/
def execCanBusIntegrated (ch : Fin 4) (s : State) : Result :=
  let ch := ch.val
  if s.alive && s.canRuns ch && !s.flag (Reg.CAN_CTRL_INIT.at ch) && !s.flag (Reg.CAN_STAT_SLEEP.at ch) then
    .next ((s.advanceTo ((s.canOf ch).waitAt + s.canBits ch 11)).setCan ch { s.canOf ch with joined := true })
  else .next s

/-! ### Wake (R350) -/

/-- The CAN wake of Table 1.7: the device leaves Sleep and wakes the followers (R41), or Watch at the next boundary. -/
def State.canWake (s : State) : State :=
  if s.sleeping then (s.wake).send .wake 8 0 0
  else if s.watching then s.put Reg.SYS_PROFREQ_REQ 0
  else s

/-- CAN_EDGE_WAKE (R350): CANxRX has been low for a time in µs, which counts from WFLT on. -/
def execCanEdgeWake (ch : Fin 4) (s : State) (lowUS : Nat := 255) : Result :=
  let ch := ch.val
  if s.alive && s.isLead && s.flag (Reg.CAN_STAT_SLEEP.at ch) && s.flag (Reg.CAN_WAKE_WEEN.at ch) &&
      decide (max 1 (s.get (Reg.CAN_WAKE_WFLT.at ch)) ≤ lowUS) then
    .next (s.canService ch 1).canWake
  else .next s

/-- CAN_WAKE_FRAME (R350): CAN1's decoder receives a frame. -/
def execCanWakeFrame (xtd : Bool) (id : Nat) (fd crcOk : Bool) (s : State) : Result :=
  let m := s.get Reg.CAN_WKMSK_MASK
  if s.alive && s.isLead && s.flag Reg.CAN_STAT_SLEEP && s.flag Reg.CAN_WAKE_WFEN && !fd && crcOk &&
      xtd == s.flag Reg.CAN_WKID_XTD && placeId xtd id &&& m == s.get Reg.CAN_WKID_ID &&& m then
    .next (s.canService 0 2).canWake
  else .next s

/-! ### The CAN page (R359) -/

/-- A full write of `CTRL`: INIT and LOM, then detection, clear and push. -/
def State.canCtrlWrite (s : State) (ch : Nat) (val : Word) : State :=
  let s := (s.canInit ch (val.getLsbD 0)).canLom ch (val.getLsbD 1)
  let s := if val.getLsbD 2 then s.canAbd ch else s
  let s := if val.getLsbD 8 && ch == 3 then s.fifoClear else s
  if val.getLsbD 9 && ch == 3 then s.fifoPush else s

/-- A full write of `OBJCMD`: ACK, CANCEL, REQ. -/
def State.canObjCmd (s : State) (ch : Nat) (val : Word) : State :=
  let k := s.objSel ch
  let s := if val.getLsbD 2 then s.objAck ch k else s
  let s := if val.getLsbD 1 then s.objCancel ch k else s
  if val.getLsbD 0 then s.objRequest ch k else s

/-- A write of the FIFO window, words 0, 1 and 3 to 18, on CAN4. -/
def State.fifoWordWrite (s : State) (ch w : Nat) (val : Word) : State :=
  if ch = 3 ∧ fifoWords.contains w then
    let c := s.canOf 3
    s.setCan 3 { c with fifoWin := nset w val.toNat c.fifoWin }
  else s

/-- The word that a read of a live CAN register sees, by channel and offset: RXNEW, TXPEND, FIFOSTAT and the object window. -/
def State.canRead (s : State) (ch off : Nat) : Option Nat :=
  let bits := fun (dir : Bool) (w : Nat) => bitsOf ((List.range 32).map fun i =>
    s.objBit ch (32 * w + i) 1 0 && s.objBit ch (32 * w + i) 0 30 == dir)
  if 0x80 ≤ off ∧ off < 0x90 then some (bits false ((off - 0x80) / 4))
  else if 0x90 ≤ off ∧ off < 0xA0 then some (bits true ((off - 0x90) / 4))
  else if off = 0xA0 then
    let n : Nat := if ch = 3 then (s.canOf 3).fifo.length else 0
    some (n + if 32 ≤ n then 256 else 0)
  else if 0x100 ≤ off ∧ off < 0x14C then some (s.objWord ch (s.objSel ch) ((off - 0x100) / 4))
  else none

end Sys2Proof.Machine
end

