-- ==== Sys2Proof/Machine/Estimator.lean ====
section
/-!
DEFINITION. The estimator (R149 to R176): the inputs of a run, the cell filter, reported SOC, the taper detectors, rest
points and capacity learning, limits, the journal, and the commands of the EST block. Amounts are exact rationals in V,
A, A·s, Ah, s and °C; a division that the manual leaves without a value is a free value.
-/
namespace Sys2Proof.Machine

/-! ### Parameter tables (R156) -/

/-- A word of a table bank. -/
def State.estWord (s : State) (bank i : Nat) : Nat := nget (1024 * bank + i) s.est.tbl

/-- A quotient; a free value for a zero divisor. -/
def divF (free a b : Rat) : Rat := if b = 0 then free else a / b

/-- The temperatures of the grid. -/
def tGrid : List Rat := [-30, -20, -10, 0, 10, 25, 40, 55]

/-- The segment of the temperature grid below `t`, and the fraction of it, held to the edges. -/
def tSeg (t : Rat) : Nat × Rat :=
  let t := clampQ (-30) 55 t
  let k := min 6 ((tGrid.countP (· ≤ t)) - 1)
  let a := tGrid.getD k 0
  let b := tGrid.getD (k + 1) 1
  (k, (t - a) / (b - a))

/-- The segment of a SOC grid of `n` intervals, and the fraction of it, held to the edges. -/
def zSeg (n : Nat) (z : Rat) : Nat × Rat :=
  let x := clampQ 0 1 z * (n : Rat)
  let k := min (n - 1) x.floor.toNat
  (k, x - (k : Rat))

/-- Linear interpolation. -/
def lerp (a b f : Rat) : Rat := a + (b - a) * f

/-- A table value at a SOC point and a temperature. -/
def State.tableAt (s : State) (bank base p : Nat) (t : Rat) : Rat :=
  let k := tSeg t
  let w := fun (i : Nat) => ((s.estWord bank (base + 8 * p + i) : Nat) : Rat)
  lerp (w k.1) (w (k.1 + 1)) k.2

/-- Bilinear interpolation in a table of `n` SOC intervals (R156). -/
def State.bilinear (s : State) (bank base n : Nat) (z t : Rat) : Rat :=
  let k := zSeg n z
  lerp (s.tableAt bank base k.1 t) (s.tableAt bank base (k.1 + 1) t) k.2

/-- OCV in V, and its slope in V per unit of SOC: at a breakpoint that of the segment above (R154). -/
def State.ocv (s : State) (bank : Nat) (z t : Rat) : Rat := s.bilinear bank 0 20 z t / 1000000
def State.docv (s : State) (bank : Nat) (z t : Rat) : Rat :=
  let k := zSeg 20 z
  20 * (s.tableAt bank 0 (k.1 + 1) t - s.tableAt bank 0 k.1 t) / 1000000

/-- The SOC with a given OCV in V (R157, R162), held to 0 and 1. -/
def State.ocvInv (s : State) (bank j : Nat) (v t : Rat) : Rat :=
  let u := v * 1000000
  let at_ := fun k => s.tableAt bank 0 k t
  if u ≤ at_ 0 then 0
  else match (List.range 20).find? fun k => decide (u ≤ at_ (k + 1)) with
    | none => 1
    | some k => ((k : Rat) + divF (s.freeQ (1000 * (j + 1) + 900)) (u - at_ k) (at_ (k + 1) - at_ k)) / 20

/-- dOCV/dT in V/K at a SOC (Table 6.2). -/
def State.entropic (s : State) (bank : Nat) (z : Rat) : Rat :=
  let k := zSeg 20 z
  let w := fun i => ((signed 32 (s.estWord bank (0xC0 + i)) : Int) : Rat)
  lerp (w k.1) (w (k.1 + 1)) k.2 / 1000000

/-- R_s, R_p1, τ1, R_p2, τ2 in Ω and s. -/
structure CellPar where
  rs : Rat
  rp1 : Rat
  t1 : Rat
  rp2 : Rat
  t2 : Rat

/-- The parameters of a cell at its SOC and temperature. -/
def State.cellPar (s : State) (bank : Nat) (z t : Rat) : CellPar :=
  { rs := s.bilinear bank 0x100 10 z t / 1000000, rp1 := s.bilinear bank 0x180 10 z t / 1000000,
    t1 := s.bilinear bank 0x200 10 z t / 1000, rp2 := s.bilinear bank 0x280 10 z t / 1000000,
    t2 := s.bilinear bank 0x300 10 z t / 1000 }

/-- exp(−dt / τ); a free value for τ = 0. -/
def decay (free dt tau : Rat) : Rat := if tau = 0 then free else expR (-(dt / tau))

/-- CRC-32C of a table bank (R170). -/
def State.tableCrc (s : State) (bank : Nat) : Nat :=
  crc32c (((List.range 1024).map fun i => leBytes 4 (s.estWord bank i)).flatten)

/-! ### Inputs of a run (R149 to R153) -/

/-- QNOM in Ah, as a cell's initial capacity. -/
def State.qnom (s : State) : Rat := ((clampN 10 65535 (s.get Reg.EST_CFG_QNOM) : Nat) : Rat) / 10

/-- η. -/
def State.eta (s : State) : Rat := ((clampN 9900 10000 (s.get Reg.EST_CFG_ETA) : Nat) : Rat) / 10000

/-- The sets of a device for the last measured frame. -/
def State.setsOf (s : State) (d : Nat) : List SetPacket :=
  if d = s.devNum then s.cm.lastBuffer
  else if s.bit Reg.CSC_LOST_DEV d then [] else s.csc.lastBuf.filter (·.dev == d)

/-- The anchor's number: its own, or that of the one follower that flags itself (R100). -/
def State.anchorDev (s : State) : Option Nat :=
  if s.isAnchor then some s.devNum else s.anchorRecord.map (·.dev)

/-- The record of a follower that is not lost for frame number `n`: its latest, or the one before (R149). -/
def State.recordFor (s : State) (d n : Nat) : Option FrameRecord :=
  if s.bit Reg.CSC_LOST_DEV d then none
  else (s.csc.records ++ s.csc.oldRecords).find? fun r => r.dev == d && r.frame == n % 65536

/-- ISH1 of the anchor's sets in A, by set index. -/
def State.anchorCurrents (s : State) : List (Nat × Rat) :=
  match s.anchorDev with
  | none => []
  | some d => (s.setsOf d).map fun p =>
      (p.idx, ((s.shuntMA Reg.IPK_RSH1_RES Reg.IPK_CFG_POL1 p.ish1 : Int) : Rat) / 1000)

/-- Mean of a list of rationals, none for no entry. -/
def meanOf : List Rat → Option Rat
  | [] => none
  | l => some (l.sum / (l.length : Rat))

/-- Pack current is invalid for the last measured frame (R151), a frame with a pause of the anchor among them (R395). -/
def State.currentInvalid (s : State) : Bool :=
  match s.anchorDev with
  | none => true
  | some d => s.csc.anchorBad ||
      (if d = s.devNum then s.cm.lastPaused
        else match s.recordFor d s.cm.lastFrame with
          | none => true
          | some r => r.paused) ||
      (s.setsOf d).any fun p => decide (7500000 ≤ p.ish1.natAbs)

/-- Pack current of the last measured frame in A: AVG1 of the anchor's record of that frame (Table 6.1). -/
def State.packA (s : State) : Rat :=
  if s.isAnchor then ((s.getI Reg.IPK_AVG1_MA : Int) : Rat) / 1000
  else match s.anchorDev.bind fun d => s.recordFor d s.cm.lastFrame with
    | some r => ((r.avg1 : Int) : Rat) / 1000
    | none => 0

/-- Cells that take part: the populated channels of each device as its own mask or its last sets show them. -/
def State.learnPop (s : State) : State :=
  let pop := s.est.pop.mapIdx fun d m =>
    if d = s.devNum then s.populated
    else match s.setsOf d with
      | [] => m
      | p :: _ => bitsOf (p.flags.map fun f => !f.testBit 0)
  { s with est := { s.est with pop } }

/-- Cell `j` is populated. -/
def State.cellOn (s : State) (j : Nat) : Bool := (s.est.pop.getD (j / 48) 0).testBit (j % 48)

/-- The global indices of the populated cells. -/
def State.cellsOn (s : State) : List Nat := (List.range 384).filter s.cellOn

/-- Codes of cell `j` at the instants that meet R150, with the set index. -/
def State.admitted (s : State) (j : Nat) : List (Nat × Rat) :=
  (s.setsOf (j / 48)).filterMap fun p =>
    if p.unsync || p.flags.getD (j % 48) 0 != 0 then none
    else some (p.idx, ((p.codes.getD (j % 48) 0 : Int) : Rat) / 1000000)

/-- The quiet sample of cell `j` in V when the last measured frame has one (R93, R128). -/
def State.quietOf (s : State) (j : Nat) : Option Rat :=
  let l := if j / 48 = s.devNum then s.cm.lastQuiet
    else match s.recordFor (j / 48) s.cm.lastFrame with
      | none => []
      | some r => r.quiet
  (l[j % 48]?).map fun c => ((c : Int) : Rat) / 1000000

/-- The measurement of cell `j` in V and its paired current in A (R150); where the anchor has no set at an instant the
frame mean stands in. -/
def State.measured (s : State) (cur : List (Nat × Rat)) (j : Nat) : Option (Rat × Rat) :=
  let l := s.admitted j
  match meanOf (l.map (·.2)) with
  | some y =>
    let i := meanOf (l.filterMap fun x => aget x.1 cur)
    some (y, i.getD s.packA)
  | none =>
    match s.quietOf j with
    | none => none
    | some y =>
      let k := if s.cm.lastFast then (if s.quietK % 4 = 0 then s.quietK / 4 else 40) else s.quietK
      some (y, (aget k cur).getD s.packA)

/-- On-time of cell `j`'s switch in the last measured frame in s, and the loop resistance in Ω (R287). -/
def State.onTimeOf (s : State) (j : Nat) : Rat × Rat :=
  let f : Nat → Nat → Rat × Rat := fun t r => ((t : Rat) / 100000, ((clampN 50 65535 r : Nat) : Rat) / 10)
  if j / 48 = s.devNum then f (s.get (Reg.BAL_ONT_TIME.at (j % 48))) (s.get Reg.BAL_CFG_RBAL)
  else match s.recordFor (j / 48) s.cm.lastFrame with
    | some r => f (r.ont.getD (j % 48) 0) r.rbal
    | none => (0, 5)

/-- Balancing charge of cell `j` in the last measured frame, A·s (Table 6.1): the cell voltage is the mean of its codes. -/
def State.balCharge (s : State) (j : Nat) : Rat :=
  let o := s.onTimeOf j
  let v := (meanOf ((s.setsOf (j / 48)).map fun p => ((p.codes.getD (j % 48) 0 : Int) : Rat) / 1000000)).getD 0
  if o.1 = 0 then 0 else o.1 * v / o.2

/-- A median: the mean of the middle two of an even number. -/
def median (l : List Rat) : Option Rat :=
  let l := l.mergeSort (fun a b => decide (a ≤ b))
  match l.length with
  | 0 => none
  | n => some ((l.getD ((n - 1) / 2) 0 + l.getD (n / 2) 0) / 2)

/-- A thermistor class that the monitors compare: None or RANGE (R464). -/
def classValid (c : Nat) : Bool := c == 0 || c == 3 || c == 4

/-- A reading of sensor `g` = 24·d + i in °C, when it is valid (R464). -/
def State.sensor (s : State) (g : Nat) : Option Rat :=
  if g / 24 = s.devNum then
    if s.flag (Reg.THM_TEMP_VALID.at (g % 24)) then some (((s.getI (Reg.THM_TEMP_TEMP.at (g % 24)) : Int) : Rat) / 10)
    else none
  else match (s.recordFrom (g / 24)).bind (fun r => r.temps[g % 24]?) with
    | some t => if classValid t.2 then some ((t.1 : Rat) / 10) else none
    | none => none

/-- T_j in °C (Table 6.1): the core temperature of the model's last run, before it the median of the device's
thermistors; none valid: a free value. -/
def State.cellTemp (s : State) (j : Nat) : Rat :=
  match s.thm.tc[j]? with
  | some t => t
  | none => (median ((List.range 24).filterMap fun i => s.sensor (24 * (j / 48) + i))).getD (s.freeQ (1000 * (j + 1) + 901))

/-- A frame of invalid pack current is noted: the first of them starts the count of R151 step 5. -/
def State.noteInvalid (s : State) : State :=
  { s with est := { s.est with invalidFrom := some (s.est.invalidFrom.getD s.cm.lastFrame) } }

/-- At a boundary: a frame of Run without a completed run is retained, the last 16 of them (R152); an older one, or one of
invalid current, passes as R151. -/
def State.estOwe (s : State) : State :=
  let s := if s.isLead ∧ s.cm.lastAct ∧ !s.watching ∧ !s.est.ranFrame ∧ s.est.ran then
      if s.currentInvalid then ({ s with est := { s.est with owedBad := true } } : State).noteInvalid
      else
        let e := (s.packA / 100, s.cellsOn.filterMap fun j => let b := s.balCharge j; if b = 0 then none else some (j, b))
        { s with est := { s.est with
          owed := (e :: s.est.owed).take 16, owedBad := s.est.owedBad || decide (16 ≤ s.est.owed.length) } }
    else s
  { s with est := { s.est with ranFrame := false } }

/-! ### One cell (R150, R154) -/

/-- The initial covariance P0. -/
def covP0 : List Rat := [25/10000, 0, 0, 0,  0, 1/10000, 0, 0,  0, 0, 1/10000, 0,  0, 0, 0, 1/100]

/-- Entry (i, j) of a 4 × 4 matrix held by rows. -/
def m4 (p : List Rat) (i j : Nat) : Rat := p.getD (4 * i + j) 0

/-- A 4 × 4 matrix from its entries. -/
def build4 (f : Nat → Nat → Rat) : List Rat := (List.range 16).map fun k => f (k / 4) (k % 4)

/-- Product of 4 × 4 matrices. -/
def mul4 (a b : List Rat) : List Rat :=
  build4 fun i j => m4 a i 0 * m4 b 0 j + m4 a i 1 * m4 b 1 j + m4 a i 2 * m4 b 2 j + m4 a i 3 * m4 b 3 j

/-- Transpose. -/
def tr4 (a : List Rat) : List Rat := build4 fun i j => m4 a j i

/-- Set P_zz to a value and its cross terms to zero (R154). -/
def resetZ (p : List Rat) (v : Rat) : List Rat :=
  build4 fun i j => if i = 0 ∧ j = 0 then v else if i = 0 ∨ j = 0 then 0 else m4 p i j

/-- What a step of the filter takes. -/
structure StepIn where
  bank : Nat
  /-- The cell. -/
  cell : Nat
  /-- Δt in s, and the same in frames. -/
  dt : Rat
  m : Rat
  dq : Rat
  temp : Rat
  /-- y and Ī_m. -/
  y : Option (Rat × Rat)

/-- The prediction of R154 and the coulomb count. -/
def State.predict (s : State) (x : StepIn) (par : CellPar) (c : EstCell) : EstCell :=
  let free := fun k => s.freeQ (1000 * (x.cell + 1) + k)
  let cur := divF (free 0) x.dq x.dt
  let eta := if 0 < x.dq then s.eta else 1
  let a1 := decay (free 1) x.dt par.t1
  let a2 := decay (free 2) x.dt par.t2
  let dz := divF (free 3) (eta * x.dq) (3600 * c.q)
  let b1 := par.rp1 * (1 - a1) * cur
  let b2 := par.rp2 * (1 - a2) * cur
  let a : List Rat := [1, 0, 0, 0,  0, a1, 0, b1,  0, 0, a2, b2,  0, 0, 0, 1]
  let sz := ((clampN 1 65535 (s.get Reg.EST_NOISE1_SIGZ) : Nat) : Rat) / 1000000000
  let sv := ((clampN 1 65535 (s.get Reg.EST_NOISE1_SIGV) : Nat) : Rat) / 1000000
  let sr := ((s.get Reg.EST_NOISE2_SIGRHO : Nat) : Rat) / 1000000000
  let q := [sz * sz, sv * sv, sv * sv, sr * sr]
  let p := mul4 (mul4 a c.p) (tr4 a)
  { c with
    z := c.z + dz, v1 := a1 * c.v1 + c.rho * b1, v2 := a2 * c.v2 + c.rho * b2, zc := c.zc + dz,
    dql := c.dql + eta * x.dq, p := build4 fun i j => m4 p i j + (if i = j then x.m * q.getD i 0 else 0) }

/-- The measurement update of R154. -/
def State.update (s : State) (x : StepIn) (par : CellPar) (y im : Rat) (c : EstCell) : EstCell :=
  let h := [s.docv x.bank c.z x.temp, 1, 1, par.rs * im]
  let yhat := s.ocv x.bank c.z x.temp + c.rho * par.rs * im + c.v1 + c.v2
  let sig := ((clampN 10 10000 (s.get (if s.cm.lastFast then Reg.EST_MEAS_MEASS else Reg.EST_MEAS_MEASF)) : Nat) : Rat)
    / 1000000
  let ph := (List.range 4).map fun i =>
    m4 c.p i 0 * h.getD 0 0 + m4 c.p i 1 * h.getD 1 0 + m4 c.p i 2 * h.getD 2 0 + m4 c.p i 3 * h.getD 3 0
  let sv := h.getD 0 0 * ph.getD 0 0 + h.getD 1 0 * ph.getD 1 0 + h.getD 2 0 * ph.getD 2 0 + h.getD 3 0 * ph.getD 3 0 +
    sig * sig
  let k := ph.mapIdx fun i v => divF (s.freeQ (1000 * (x.cell + 1) + 4 + i)) v sv
  let e := y - yhat
  let ikh := build4 fun i j => (if i = j then 1 else 0) - k.getD i 0 * h.getD j 0
  { c with z := c.z + k.getD 0 0 * e, v1 := c.v1 + k.getD 1 0 * e, v2 := c.v2 + k.getD 2 0 * e,
           rho := c.rho + k.getD 3 0 * e, p := mul4 ikh c.p, e := e }

/-- The innovation monitor (Table 6.5a, MODEL). -/
def State.innovation (s : State) (c : EstCell) : EstCell :=
  let dwell := clampN 1 255 (s.get Reg.EST_INNCFG_DWELL)
  let thr := ((clampN 1000 65535 (s.get Reg.EST_INNCFG_THR) : Nat) : Rat) / 1000000
  let c := if thr ≤ absQ c.e then { c with innN := c.innN + 1, innOk := 0 }
    else { c with innN := 0, innOk := c.innOk + 1 }
  if !c.model ∧ dwell ≤ c.innN then { c with model := true, p := covP0 }
  else if c.model ∧ dwell ≤ c.innOk then { c with model := false }
  else c

/-- A cold start of one cell from its first admitted sample (R173). -/
def State.coldCell (s : State) (x : StepIn) (y : Rat) (c : EstCell) : EstCell :=
  let z := s.ocvInv x.bank x.cell y x.temp
  { z, zc := z, p := covP0, q := if c.keep then c.q else s.qnom, rho := if c.keep then c.rho else 1, capsus := true,
    cold := false, y, balOff := c.balOff, anchored := c.anchored }

/-- z and ρ held to their ranges. -/
def EstCell.clampZ (c : EstCell) : EstCell := { c with z := clampQ 0 1 c.z, rho := clampQ (1/2) 4 c.rho }

/-- One step of one cell: cold start, or prediction and update with the clamps of R154; the table values are those at the
cell's z at the start of the step. -/
def State.stepCell (s : State) (x : StepIn) (c : EstCell) : EstCell :=
  let par := s.cellPar x.bank c.z x.temp
  match x.y with
  | none => if c.cold then { c with degr := true } else EstCell.clampZ { s.predict x par c with degr := true }
  | some (y, im) =>
    if c.cold then s.coldCell x y c
    else s.innovation (EstCell.clampZ { s.update x par y im (s.predict x par c) with degr := false, y := y })

/-! ### Over all cells -/

/-- The cells that hold an estimate: populated and started. -/
def State.liveCells (s : State) : List (Nat × EstCell) :=
  s.cellsOn.filterMap fun j => match s.est.cells[j]? with
    | some c => if c.cold then none else some (j, c)
    | none => none

/-- Apply a function to every populated cell. -/
def State.mapCells (s : State) (f : Nat → EstCell → EstCell) : State :=
  { s with est := { s.est with cells := s.est.cells.mapIdx fun j c => if s.cellOn j then f j c else c } }

/-- The entry with the highest, or the lowest, value; the first of equals. -/
def bestBy (high : Bool) : List (Nat × Rat) → Option (Nat × Rat)
  | [] => none
  | x :: l => match bestBy high l with
    | none => some x
    | some y => if (if high then decide (x.2 < y.2) else decide (y.2 < x.2)) then some y else some x

/-- s_int in ppm (R155). -/
def sInt (zmin zmax : Rat) : Rat := if zmin = 0 ∧ zmax = 1 then 0 else 1000000 * zmin / (zmin + 1 - zmax)

/-- s_int from the populated cells. -/
def State.newSInt (s : State) : Rat :=
  let zs := s.liveCells.map fun c => (c.1, c.2.z)
  match bestBy false zs, bestBy true zs with
  | some a, some b => sInt a.2 b.2
  | _, _ => s.est.sint

/-- An amount of ppm without its part below 2^−16 (R158). -/
def ppm16 (q : Rat) : Rat := ((q * 65536).floor : Int) / 65536

/-- s_rep moves toward s_int by at most RATE · Δt and keeps a fraction of 2^−16 ppm; what the limiter's allowance holds
below that is carried to the next run, so that the average rate is exact (R158, assumption 71). -/
def State.moveSRep (s : State) (dt : Rat) : State :=
  let all : Rat := ((100 * clampN 10 1000 (s.get Reg.EST_RATE_RATE) : Nat) : Rat) / 60 * dt + s.est.srepRest
  let step := ppm16 all
  let gap := ppm16 s.est.sint - s.est.srep
  { s with est := { s.est with
    srep := s.est.srep + clampQ (-step) step gap, srepRest := if absQ gap < step then 0 else all - step } }

/-! ### End of charge and end of discharge (R160, R161, Table 6.3) -/

/-- One detector in a run with valid current: its state code, its timers, whether it enters DONE. -/
def tapRun (code : Nat) (t g dt limit : Rat) (on w leave : Bool) : Nat × Rat × Rat × Bool :=
  if !on then (0, 0, 0, false)
  else if code = 0 then (if w then (1, dt, 0, false) else (0, t, g, false))
  else if code = 1 then
    if w then (if limit ≤ t + dt then (3, t + dt, 0, true) else (1, t + dt, 0, false)) else (2, t, dt, false)
  else if code = 2 then
    if w then (1, t + dt, 0, false) else if 1 ≤ g + dt then (0, 0, 0, false) else (2, t, g + dt, false)
  else if leave then (0, 0, 0, false) else (3, t, g, false)

/-- The admitted cell means of the run, V. -/
def meansOf (ys : List (Nat × Rat × Rat)) : List (Nat × Rat) := ys.map fun y => (y.1, y.2.1)

/-- Both detectors return to IDLE with t = 0 (R160): a run without valid current, a profile change, a restore. -/
def State.resetDetectors (s : State) : State :=
  let s := { s with est := { s.est with eoc := {}, eod := {} } }
  (s.putB Reg.EST_STAT_EOC false).putB Reg.EST_STAT_EOD false

/-- A calibration of SOC to `z` at cell `j` (R161). -/
def State.calibrate (s : State) (j : Nat) (z : Rat) : State :=
  { s with est := { s.est with cells := s.est.cells.modify j fun c =>
    { c with z, zc := z, p := build4 fun a b => if a = 0 ∧ b = 0 then 25/1000000 else m4 c.p a b, anchored := true } } }

/-- The end-of-charge detector, or with `dis` the end-of-discharge detector, in a run with pack current `i`. -/
def State.detector (s : State) (dis : Bool) (i dt : Rat) (means : List (Nat × Rat)) : State :=
  let pick := fun (a b : Fld) => if dis then b else a
  let ihi := s.get (pick Reg.EST_EOCI_IHIGH Reg.EST_EODI_IHIGH)
  let ilo := s.get (pick Reg.EST_EOCI_ILOW Reg.EST_EODI_ILOW)
  let vhi := min 5000 (s.get (pick Reg.EST_EOCV_VHI Reg.EST_EODV_VHI))
  let vlo := min 5000 (s.get (pick Reg.EST_EOCV_VLO Reg.EST_EODV_VLO))
  let lim := clampN 1 3600 (s.get (pick Reg.EST_EOCT_TTAPER Reg.EST_EODT_TEOD))
  let vre := s.get (pick Reg.EST_EOCT_VRE Reg.EST_EODT_VRE)
  let cur := if dis then -i else i
  let cell := bestBy (!dis) means
  let v := fun (n : Nat) => (n : Rat) / 1000
  let w := match cell with
    | none => false
    | some c => decide ((ilo : Rat) / 10 ≤ cur) && decide (cur ≤ (ihi : Rat) / 10) && decide (v vlo ≤ c.2) &&
        decide (c.2 ≤ v vhi)
  let leave := match cell with
    | none => false
    | some c => if dis then decide (v vre < c.2) else decide (c.2 < v vre)
  let d := if dis then s.est.eod else s.est.eoc
  let r := tapRun d.code d.t d.g dt (lim : Rat) (ihi != 0) w leave
  let d' : Detector := { code := r.1, t := r.2.1, g := r.2.2.1 }
  let s := s.putB (pick Reg.EST_STAT_EOC Reg.EST_STAT_EOD) (r.1 == 3)
  let s := if dis then { s with est := { s.est with eod := d' } } else { s with est := { s.est with eoc := d' } }
  if r.2.2.2 then
    let s := match cell with
      | some c => s.calibrate c.1 (if dis then 0 else 1)
      | none => s
    let s := { s with est := { s.est with jPend := true } }
    s.raise (if dis then Ev.EST_END_DISCHARGE else Ev.EST_END_CHARGE)
  else s

/-! ### The journal: requests (R171, R172) -/

/-- The journal region of data MRAM, its slots and its intent word (R170, Table 14.5). -/
def journalBase : Nat := 0x00810000
def jSlotAddr (slot : Nat) : Nat := journalBase + 0x4000 * slot
def intentAddr : Nat := journalBase + 0x8000

/-- The intent word (R172). -/
def intentWord (capnew : Bool) (slot seq : Nat) : Nat := 0xA5000000 + 65536 * capnew.toNat + 256 * slot + seq % 256

/-- A learning result is accepted: the intent word is written at once (R172 step 1). -/
def State.capAccepted (s : State) : State :=
  let s := { s with est := { s.est with jPend := true, jCap := true } }
  let slot := 1 - s.get Reg.EST_JSTAT_SLOT
  let s := s.setMemWord intentAddr (intentWord true slot (s.get Reg.EST_JSEQ_SEQ + 1))
  s.putB Reg.EST_JSTAT_CAPPEND true

/-! ### Rest and capacity learning (R162 to R165) -/

/-- Every gap of the cell's span has been attested (R165). -/
def State.attestedSpan (s : State) (c : EstCell) : Bool := c.attested && s.flag Reg.TMB_GAPSTAT_ATTESTED

/-- The rejection reason of R164, 0 when the result is accepted, with the measured capacity. -/
def State.learnReason (s : State) (j : Nat) (c : EstCell) (z : Rat) : Nat × Rat :=
  let span := z - c.rz
  let qm := divF (s.freeQ (1000 * (j + 1) + 8)) c.dql (3600 * span)
  let sgn := fun (q : Rat) => if q < 0 then (0 : Nat) else if q = 0 then 1 else 2
  let r : Nat :=
    if absQ span < (clampN 20 100 (s.get Reg.EST_LRNCFG_SPAN) : Nat) / 100 then 1
    else if 0 < c.gaps ∧ !s.attestedSpan c then 2
    else if c.curinv then 3
    else if c.bankchg then 6
    else if sgn c.dql ≠ sgn span then 4
    else if qm < s.qnom / 2 ∨ 12 * s.qnom / 10 < qm then 5
    else 0
  (r, qm)

/-- A rest point of cell `j` at SOC `z` and temperature `t` (R163, R164). -/
def State.restPoint (s : State) (bank j : Nat) (z t : Rat) : State :=
  let c := s.est.cells.getD j {}
  let sd := divF (s.freeQ (1000 * (j + 1) + 9)) (1/10000) (s.docv bank z t)
  let base := { c with z, zc := z, v1 := 0, v2 := 0, p := resetZ c.p (sd * sd), anchored := true }
  let fresh := { base with restValid := true, rz := z, rt := t, rgen := s.get Reg.TMB_GEN_GEN, dql := 0, gaps := 0,
                           attested := true, curinv := false, bankchg := false }
  let put := fun (s : State) (c : EstCell) => ({ s with est := { s.est with cells := s.est.cells.set j c } } : State)
  if !c.restValid then put s fresh
  else
    let r := s.learnReason j c z
    if r.1 = 0 then
      let w : Rat := (clampN 1 100 (s.get Reg.EST_LRNCFG_W) : Nat) / 100
      let w := if 0 < c.gaps then w * (min 100 (s.get Reg.EST_LRNCFG_WGAP) : Nat) / 100 else w
      let s := put s { fresh with q := c.q + w * (r.2 - c.q), capsus := false }
      (((s.incSat Reg.EST_LRNSTAT_ACCEPT).raise Ev.CAP_LEARNED)).capAccepted
    else
      let s := ((s.incSat Reg.EST_LRNSTAT_REJECT).put Reg.EST_LRNSTAT_REASON r.1).put Reg.EST_LRNSTAT_CELL j
      let s := s.raise Ev.CAP_REJECTED
      if r.1 = 1 ∧ absQ (z - 1/2) ≤ absQ (c.rz - 1/2) then put s base else put s fresh

/-- The rest points of a rest detected now (R162). -/
def State.restPoints (s : State) (bank : Nat) : State :=
  s.cellsOn.foldl (fun s j =>
    let c := s.est.cells.getD j {}
    match c.mins with
    | m :: m0 :: _ =>
      let t := s.cellTemp j
      let z := s.ocvInv bank j m t
      if !c.cold ∧ absQ (m - m0) * 1000000 < (clampN 10 255 (s.get Reg.EST_RESTCFG_DVDT) : Nat) ∧ 600 ≤ c.balOff ∧
          (s.get Reg.EST_LRNCFG_MINSLOPE : Nat) ≤ s.docv bank z t * 1000 then
        (s.restPoint bank j z t).raise Ev.EST_REST_POINT
      else s
    | _ => s) s

/-- Rest watch (R288): submitted as the timer reaches RESTT − LEAD, released at the detection or when it returns to 0. -/
def State.restWatch (s : State) (restT : Rat) (detected : Bool) : State :=
  let lim : Rat := ((clampN 600 7200 (s.get Reg.EST_RESTCFG_RESTT) - clampN 600 3600 (s.get Reg.BAL_RWCFG_LEAD) : Nat) : Rat)
  if s.est.restWatch then
    if detected ∨ restT = 0 then
      let held := s.granted 6
      let s := { s with est := { s.est with restWatch := false, restHeld := false } }
      (s.releaseAll 6).raiseIf held Ev.BAL_REST_END
    else s
  else if s.flag Reg.BAL_RWCFG_EN ∧ 0 < restT ∧ lim ≤ restT ∧ !s.est.rested then
    ({ s with est := { s.est with restWatch := true } }).askAll 6
  else s

/-- BAL_REST_HOLD when rest watch is granted on all devices (R288). -/
def State.restHold (s : State) : State :=
  if s.est.restWatch ∧ !s.est.restHeld ∧ s.allGranted 6 then
    ({ s with est := { s.est with restHeld := true } }).raise Ev.BAL_REST_HOLD
  else s

/-- The rest timer returns to zero, with its minute means (R162). -/
def State.restClear (s : State) : State :=
  let cells := s.est.cells.map (fun c => { c with minS := 0, minN := 0, mins := [] })
  let s : State := { s with est := { s.est with restT := 0, rested := false, minT := 0, cells } }
  s.restWatch 0 false

/-- One run of the rest timer, `dt` measured seconds, with pack current `i`, and the rest points at its detection (R162). -/
def State.restRun (s : State) (bank : Nat) (i dt : Rat) (ys : List (Nat × Rat × Rat)) : State :=
  if absQ i < (clampN 5 50 (s.get Reg.EST_RESTCFG_RESTI) : Nat) / 1000 * s.qnom then
    let t := s.est.restT + dt
    let mt := s.est.minT + (if s.watching then 100 else 1)
    let full : Bool := decide (6000 ≤ mt)
    let s := s.mapCells fun j c =>
      let c := match aget j ys with
        | some y => { c with minS := c.minS + y.1, minN := c.minN + 1 }
        | none => c
      if full then
        { c with minS := 0, minN := 0, mins := if c.minN = 0 then [] else (c.minS / c.minN :: c.mins).take 2 }
      else c
    let now : Bool := decide ((clampN 600 7200 (s.get Reg.EST_RESTCFG_RESTT) : Nat) ≤ t) && !s.est.rested
    let s := { s with est := { s.est with restT := t, minT := if full then 0 else mt } }
    let s := s.restWatch t now
    if now then
      ({ s with est := { s.est with rested := true } } : State).restPoints bank
    else s
  else s.restClear

/-! ### Limits (R167) -/

/-- V_free and R_eff of a cell for a horizon. -/
def State.freeVR (s : State) (bank : Nat) (h : Rat) (j : Nat) (c : EstCell) : Rat × Rat :=
  let t := s.cellTemp j
  let par := s.cellPar bank c.z t
  let free := fun k => s.freeQ (1000 * (j + 1) + 10 * h.floor.toNat + k)
  let b1 := decay (free 0) h par.t1
  let b2 := decay (free 1) h par.t2
  (s.ocv bank c.z t + c.v1 * b1 + c.v2 * b2,
   c.rho * (par.rs + par.rp1 * (1 - b1) + par.rp2 * (1 - b2)) + divF (free 2) (s.docv bank c.z t * h) (3600 * c.q))

/-- The pack limits of one horizon: charge A, discharge A, charge W, discharge W. -/
def State.packLimits (s : State) (bank : Nat) (h : Rat) : Rat × Rat × Rat × Rat :=
  let vmax : Rat := (min 5000 (s.get Reg.EST_LIMV_VMAX) : Nat) / 1000
  let vmin : Rat := (min 5000 (s.get Reg.EST_LIMV_VMIN) : Nat) / 1000
  let free := fun j k => s.freeQ (1000 * (j + 1) + 10 * h.floor.toNat + k)
  let l := s.liveCells.map fun c => (c.2, s.freeVR bank h c.1 c.2, c.1)
  let pos := fun (q : Rat) => if q < 0 then 0 else q
  let least := fun (init : Rat) (l : List Rat) => l.foldl (fun a b => if b < a then b else a) init
  let c := least ((s.get Reg.EST_LIMI_IMAXC : Nat) / 10) (l.map fun x =>
    let i := pos (divF (free x.2.2 3) (vmax - x.2.1.1) x.2.1.2)
    let b := (1 - x.1.z) * 3600 * x.1.q / h
    if b < i then b else i)
  let d := least ((s.get Reg.EST_LIMI_IMAXD : Nat) / 10) (l.map fun x =>
    let i := pos (divF (free x.2.2 4) (x.2.1.1 - vmin) x.2.1.2)
    let b := x.1.z * 3600 * x.1.q / h
    if b < i then b else i)
  (c, d, c * (l.map fun x => x.2.1.1 + c * x.2.1.2).sum, d * (l.map fun x => x.2.1.1 - d * x.2.1.2).sum)

/-- Write a current limit in A and a power limit in W. -/
def State.putLimit (s : State) (f : Fld) (q : Rat) : State := s.putSat f (roundQ q).toNat

/-- The limits of a run with valid current: a longer horizon at most the shorter; zero while a detector is in DONE. -/
def State.showLimits (s : State) (bank : Nat) : State :=
  let a := s.packLimits bank 2
  let b := s.packLimits bank 10
  let c := s.packLimits bank 30
  let mn := fun (x y : Rat) => if y < x then y else x
  let eoc := s.flag Reg.EST_STAT_EOC
  let eod := s.flag Reg.EST_STAT_EOD
  let chain := fun (off : Bool) (x y z : Rat) => if off then [0, 0, 0] else [x, mn x y, mn (mn x y) z]
  let cur := chain eoc a.1 b.1 c.1 ++ chain eod a.2.1 b.2.1 c.2.1
  let pow := chain eoc a.2.2.1 b.2.2.1 c.2.2.1 ++ chain eod a.2.2.2 b.2.2.2 c.2.2.2
  let s := (cur.zipIdx).foldl (fun s x => s.putLimit (Reg.EST_ILIM_MA.at x.2) (x.1 * 1000)) s
  (pow.zipIdx).foldl (fun s x => s.putLimit (Reg.EST_PLIM_W.at x.2) x.1) s

/-- Frames since the pack current became invalid, the last measured one counted (R151). -/
def State.invalidFrames (s : State) : Nat :=
  (s.cm.lastFrame + 2 ^ 32 - (s.est.invalidFrom.getD s.cm.lastFrame) % 2 ^ 32) % 2 ^ 32 + 1

/-- The limits of a run without valid current (R151 steps 4 and 5). -/
def State.invalidLimits (s : State) : State :=
  let s := (List.range 3).foldl (fun s k => (s.put (Reg.EST_ILIM_MA.at k) 0).put (Reg.EST_PLIM_W.at k) 0) s
  if s.invalidFrames ≤ 100 then s
  else
    let ifb := s.get Reg.EST_LIMFB_IFB
    let sum := (s.cellsOn.map fun j => (s.est.cells.getD j {}).y).sum
    (List.range 3).foldl (fun s k => (s.put (Reg.EST_ILIM_MA.at (k + 3)) (100 * ifb)).putLimit (Reg.EST_PLIM_W.at (k + 3))
      ((ifb : Rat) / 10 * sum)) s

/-! ### The run (R149 to R153) -/

/-- The seconds of the run and its frames: m · 10 ms, or the elapsed time in Watch and after Watch or Sleep. -/
def State.runTime (s : State) : Rat :=
  if s.watching || s.est.elapsed then
    let d := s.tick - (s.now - s.fstart) - s.est.lastTick
    if s.est.lastTick = 0 then 1/100 else (d : Rat) / 100000000
  else ((s.est.owed.length + 1 : Nat) : Rat) / 100

/-- The measured, powered part of the run's time, for the timers of R160 and R162: without the Sleep before its first
frame. -/
def State.timerTime (s : State) (dt : Rat) : Rat :=
  if s.est.slept then ((s.est.owed.length + 1 : Nat) : Rat) / 100 else dt

/-- The record that was restored rests on another table bank (R173 step 4). -/
def State.checkBank (s : State) (bank : Nat) : State :=
  match s.est.tblCrc with
  | none => s
  | some c =>
    let s := { s with est := { s.est with tblCrc := none } }
    if c = s.tableCrc bank then s
    else { s with est := { s.est with cells := s.est.cells.map fun c => { c with restValid := false } } }

/-- Requests that the run takes up: CAPRST, REINIT, and a bank change within the spans (R164, R173). -/
def State.runRequests (s : State) (bank : Nat) : State :=
  let s := if s.est.caprst then s.mapCells fun _ c => { c with q := s.qnom, rho := 1, capsus := true } else s
  let s := if s.est.reinit then
      (s.mapCells fun _ c => { c with cold := true, keep := !c.cold || c.keep, restValid := false }).putB Reg.EST_STAT_INIT true
    else s
  let s := if s.est.bank ≠ bank ∧ s.est.ran then s.mapCells fun _ c => { c with bankchg := true } else s
  let cold := s.est.cold || s.est.reinit
  let s := if s.est.reinit then { s with thm := { s.thm with tc := [], ts := [] } } else s
  { s with est := { s.est with caprst := false, reinit := false, bank, cold } }

/-- A run without valid current: all states held, spans invalid (R151); the cell means go on. -/
def State.runInvalid (s : State) : State :=
  let s := (s.raise Ev.EST_CURRENT_INVALID).putB Reg.EST_STAT_CURINV true
  let s := s.mapCells fun j c => { c with curinv := true, y := ((s.measured [] j).map (·.1)).getD c.y }
  s.noteInvalid.resetDetectors.restClear.invalidLimits

/-- The flags of R169 over all cells after a run, and the disagreement timers. Each cell that is flagged anew raises the
event. -/
def State.runFlags (s : State) (dt : Rat) : State :=
  let thr : Rat := (clampN 10 500 (s.get Reg.EST_DISCFG_THR) : Nat) / 1000
  let hold := clampN 1 3600 (s.get Reg.EST_DISCFG_HOLD)
  let far := fun (c : EstCell) => decide (thr ≤ absQ (c.zc - c.z))
  let s := s.mapCells fun _ c =>
    if c.cold then c
    else
      let t := if far c then c.disT + dt else 0
      let hit := decide ((hold : Rat) ≤ t)
      { c with disT := t, socdis := c.socdis || hit, capsus := c.capsus || (hit && !c.socdis) }
  let l := s.liveCells
  let was := fun (j : Nat) => s.est.prev.getD j {}
  let s := s.raiseIf (l.any fun c => c.2.socdis && !(was c.1).socdis) Ev.SOC_DISAGREE
  let s := s.raiseIf (l.any fun c => c.2.model && !(was c.1).model) Ev.EST_MODEL_DISAGREE
  let s := if l.all fun c => !far c.2 then s.mapCells fun _ c => { c with socdis := false } else s
  let l := s.liveCells
  let gap := s.est.gapOpen && s.cellsOn.any fun j => !(s.est.cells.getD j {}).anchored
  let s := { s with est := { s.est with gapOpen := gap } }
  ((s.putB Reg.EST_STAT_SOCDIS (l.any (·.2.socdis))).putB Reg.EST_STAT_MODEL (l.any (·.2.model))).putB Reg.EST_STAT_GAP gap

/-- The populated cells that have a capacity and a resistance: those that hold an estimate, and those that REINIT has left
theirs (R166, R173). -/
def State.ratedCells (s : State) : List (Nat × EstCell) :=
  s.cellsOn.filterMap fun j => match s.est.cells[j]? with
    | some c => if c.cold && !c.keep then none else some (j, c)
    | none => none

/-- ΔQ_pack of the run in A·s: the frame's with those owed, or in Watch, and in the first run after it, the frame mean
held over the elapsed time; a stay in Sleep adds none (R152, R153). -/
def State.packCharge (s : State) (dt : Rat) : Rat :=
  if s.watching || (s.est.elapsed && !s.est.slept) then s.packA * dt else s.packA / 100 + (s.est.owed.map (·.1)).sum

/-- The steps of the filter over the run's time (R152 to R154): one prediction over all of it, then the update. -/
def State.runCells (s : State) (bank : Nat) (dt : Rat) (ys : List (Nat × Rat × Rat)) : State :=
  let pack := s.packCharge dt
  s.mapCells fun j c =>
    let b := s.balCharge j + (s.est.owed.map fun e => (aget j e.2).getD 0).sum
    let c := { c with balOff := if b = 0 then c.balOff + dt else 0 }
    s.stepCell { bank, cell := j, dt, m := 100 * dt, dq := pack - b, temp := s.cellTemp j, y := aget j ys } c

/-- A run with valid current. -/
def State.runValid (s : State) (bank : Nat) (dt : Rat) : State :=
  let cur := s.anchorCurrents
  let ys := s.cellsOn.filterMap fun j => (s.measured cur j).map fun m => (j, m)
  let was := s.flag Reg.EST_STAT_CURINV
  let s := if s.est.owedBad then (s.raise Ev.EST_CURRENT_INVALID).mapCells fun _ c => { c with curinv := true } else s
  let s := if was ∨ s.est.owedBad then s.mapCells fun _ c => { c with p := resetZ c.p (25/10000) } else s
  let s := ({ s with est := { s.est with invalidFrom := none } }).putB Reg.EST_STAT_CURINV false
  let s := s.runCells bank dt ys
  let means := meansOf ys
  let t := s.timerTime dt
  let i := divF s.freeQ (s.packCharge dt) t
  let s := (s.detector false i t means).detector true i t means
  let s := s.restRun bank i t ys
  let s := s.runFlags dt
  let s := { s with est := { s.est with sint := s.newSInt } }
  s.showLimits bank

/-- The reported SOC of the run (R158, R159). -/
def State.runSoc (s : State) (dt : Rat) : State :=
  let start := s.est.cold && !s.liveCells.isEmpty
  let s := if start ∨ (s.est.resync ∧ !s.est.cold) then { s with est := { s.est with srep := ppm16 s.est.sint, srepRest := 0, cold := false } }
    else s.moveSRep dt
  let s := s.raiseIf s.est.resync Ev.EST_RESYNC
  let s := { s with est := { s.est with resync := false } }
  s.putB Reg.EST_STAT_INIT s.est.cold

/-- The SOC values, the extreme cells and the pack's SOH of a completed run (R166). -/
def State.showSoc (s : State) : State :=
  let ppm := fun (q : Rat) => (roundQ q).toNat
  let zs := s.liveCells.map fun c => (c.1, c.2.z)
  let s := ((s.putB Reg.EST_SOCREP_STALE false).putB Reg.EST_SOCREP_INIT s.est.cold).putSat Reg.EST_SOCREP_SOC (ppm s.est.srep)
  let s := (s.putB Reg.EST_SOCINT_STALE false).putSat Reg.EST_SOCINT_SOC (ppm s.est.sint)
  match bestBy false zs, bestBy true zs with
  | some a, some b =>
    let s : State := (s.put Reg.EST_ZMIN_CELL a.1).putSat Reg.EST_ZMIN_SOC (ppm (1000000 * a.2))
    let s := (s.put Reg.EST_ZMAX_CELL b.1).putSat Reg.EST_ZMAX_SOC (ppm (1000000 * b.2))
    let soh := bestBy false (s.ratedCells.map fun c => (c.1, divF (s.freeQ (1000 * (c.1 + 1) + 902)) c.2.q s.qnom))
    let res := bestBy true (s.ratedCells.map fun c => (c.1, c.2.rho))
    (s.putSat Reg.EST_SOH_SOHC (ppm (10000 * (soh.map (·.2)).getD 0))).putSat Reg.EST_SOH_SOHR
      (ppm (10000 * (res.map (·.2)).getD 0))
  | _, _ => s

/-- The result registers (R174, R175). -/
def State.runShow (s : State) : State :=
  let s := s.showSoc
  let s := (s.putSat Reg.EST_RESTSTAT_ELAPSED s.est.restT.floor.toNat).put Reg.EST_SRCFRAME_FRAME s.cm.lastFrame
  let cur := s.anchorCurrents
  let shown := (List.range 384).map fun j =>
    ((s.measured cur j).map fun m => roundQ (m.1 * 1000000), (s.setsOf (j / 48)).any fun p => (p.flags.getD (j % 48) 0).testBit 2)
  let s := { s with est := { s.est with shown } }
  let s := ((s.put Reg.EST_TAPSTAT_EOCSTATE s.est.eoc.code).put Reg.EST_TAPSTAT_EODSTATE s.est.eod.code).putB
    Reg.EST_RESTSTAT_RESTING s.est.rested
  (s.putB Reg.EST_STAT_CAPSUS (s.ratedCells.any (·.2.capsus))).putB Reg.EST_STAT_STALE false

/-- ESTIMATOR_RUN_DONE (R149): one run on the data of the last measured frame; a run without one, or on a device that is
not the lead, has no effect. -/
def execEstimatorRunDone (s : State) : Result :=
  if !s.isLead ∨ !s.accelRuns 6 then .next s
  else
    let s := (s.accelDone 6).learnPop
    let s := { s with est := { s.est with prev := s.est.cells } }
    let bank := s.get Reg.EST_TBLSEL_BANK
    let dt := s.runTime
    let s := (s.checkBank bank).runRequests bank
    let s := if s.currentInvalid then s.runInvalid else s.runValid bank dt
    let s := (s.runSoc dt).runShow
    let s := { s with est := { s.est with
      ran := true, ranFrame := true, elapsed := s.watching, slept := false, owed := [], owedBad := false,
      lastTick := s.tick - (s.now - s.fstart) } }
    .next (s.nextFree.restHold.settle)

/-! ### Tables and cell selection (R156, R175) -/

/-- TABLE_DATA_WRITE (R156): the word goes to the inactive bank and the index advances; an armed commit of page 12 is
cancelled. -/
def execTableDataWrite (ini : Ini) (val : Word) (s : State) : Result :=
  .next (s.onPage ini Reg.EST_TBLDATA fun s =>
    let i := s.get Reg.EST_TBLADDR_INDEX
    let bank := 1 - s.get Reg.EST_TBLSEL_BANK
    let s := { s with est := { s.est with tbl := nset (1024 * bank + i) val.toNat s.est.tbl } }.put Reg.EST_TBLADDR_INDEX (i + 1)
    if s.armedPage 12 then s.stgCancel else s)

/-- `EST.TBLDATA` reads the word of the inactive bank. -/
def State.tableRead (s : State) : Word :=
  BitVec.ofNat 32 (s.estWord (1 - s.get Reg.EST_TBLSEL_BANK) (s.get Reg.EST_TBLADDR_INDEX))

/-- EST_CELL_SELECT (R175): CZ to CFLAG latch the last completed run; a cell that is not populated shows zeros. -/
def execEstCellSelect (ini : Ini) (cell : Nat) (s : State) : Result :=
  .next (s.onPage ini Reg.EST_CSEL fun s =>
    let s := s.put Reg.EST_CSEL_INDEX cell
    let on := s.cellOn cell && s.est.ran
    let c := if on then s.est.cells.getD cell {} else { q := 0, rho := 0 }
    let flags := bitsOf [on, c.degr, c.capsus, c.socdis, c.model, decide (0 < c.gaps), c.restValid]
    let s := (s.putSat Reg.EST_CZ_Z (roundQ (c.z * 1000000000)).toNat).putSatI Reg.EST_CZC_ZC (roundQ (c.zc * 1000000000))
    let s := (s.putSat Reg.EST_CQ_Q (roundQ (c.q * 1000)).toNat).putSat Reg.EST_CRHO_RHO (roundQ (c.rho * 65536)).toNat
    (s.putSatI Reg.EST_CINNOV_E (roundQ (c.e * 1000000))).put Reg.EST_CFLAG_FLAGS (if on then flags else 0))

/-- A request bit of `EST.CTRL` on the lead; a follower's estimator is idle (R27). -/
def State.estRequest (s : State) (ini : Ini) (f : State → State) : State :=
  s.onPage ini Reg.EST_CTRL fun s => if s.isLead then f s else s

/-- EST_CAPRST, EST_REINIT (R173), EST_JWRITE (R171), EST_RESYNC (R159): taken up by the next run or write. -/
def execEstCaprst (ini : Ini) (s : State) : Result :=
  .next (s.estRequest ini fun s => { s with est := { s.est with caprst := true } })
def execEstReinit (ini : Ini) (s : State) : Result :=
  .next (s.estRequest ini fun s => { s with est := { s.est with reinit := true } })
def execEstJwrite (ini : Ini) (s : State) : Result :=
  .next (s.estRequest ini fun s => { s with est := { s.est with jPend := true } })
def execEstResync (ini : Ini) (s : State) : Result :=
  .next (s.estRequest ini fun s => { s with est := { s.est with resync := true } })

/-! ### The journal (R170 to R173) -/

/-- The 32 bytes of a cell record (Table 6.7). -/
def State.cellRecord (s : State) (j : Nat) : List Byte :=
  if !s.cellOn j then List.replicate 32 0
  else
    let c := s.est.cells.getD j {}
    let ppb := fun (q : Rat) => twos 32 (roundQ (q * 1000000000))
    let flags := bitsOf [c.restValid, c.capsus, c.curinv, c.bankchg, s.attestedSpan c] + 256 * min 255 c.gaps
    leBytes 4 (ppb c.z) ++ leBytes 4 (ppb c.zc) ++ leBytes 4 (roundQ (c.q * 1000)).toNat ++
      leBytes 4 (roundQ (c.rho * 65536)).toNat ++ leBytes 4 (ppb c.rz) ++ leBytes 4 (twos 32 (roundQ c.dql)) ++
      leBytes 4 c.rgen ++ leBytes 2 (twos 16 (roundQ (c.rt * 10))) ++ leBytes 2 flags

/-- The record of Table 6.6 with a sequence number, CRC last. -/
def State.journalRecord (s : State) (seq : Nat) : List Byte :=
  let head := leBytes 4 0x4A455354 ++ leBytes 4 seq ++ leBytes 4 (s.get Reg.TMB_GEN_GEN) ++ leBytes 4 12356 ++
    leBytes 8 s.tick ++ leBytes 4 (roundQ s.est.srep).toNat ++ leBytes 4 (s.tableCrc (s.get Reg.EST_TBLSEL_BANK)) ++
    leBytes 2 (s.get Reg.EST_TAPSTAT_EOCSTATE + 256 * s.get Reg.EST_TAPSTAT_EODSTATE) ++ List.replicate 30 0
  let body := head ++ ((List.range 384).map s.cellRecord).flatten
  body ++ leBytes 4 (crc32c body)

/-- PERIOD of the journal in ticks (R171, R460). -/
def State.jPeriod (s : State) : Nat := 100000000 * clampN 10 3600 (s.get Reg.EST_JCFG_PERIOD)

/-- JOURNAL_PERIOD (R171): PERIOD seconds of Run since the last one; other profiles do not count. -/
def execJournalPeriod (s : State) : Result :=
  if s.isLead ∧ s.power.phase = .run ∧ !s.watching ∧ !s.sleeping then
    let s := s.advanceTo (s.est.jAt + (s.jPeriod - s.est.jAcc))
    .next { s with est := { s.est with jPend := true, jAt := s.now, jAcc := 0 } }
  else .next s

/-- A journal write starts (R172 steps 2 and 3): below 1.2 mJ, or with the write port taken, the request waits. At a
brown-out warning it goes before the blocks of a freeze copy (R389). -/
def State.journalStart (s : State) : State :=
  let free := s.power.port == 0 || (s.power.port == 3 && s.power.warnAt.isSome)
  if !s.isLead || !s.est.jPend || s.est.jRun || !free then s
  else if s.get Reg.PWR_HOLDE_UJ < 1200 then s.putB Reg.EST_JSTAT_LOWENERGY true
  else
    let slot := 1 - s.get Reg.EST_JSTAT_SLOT
    let cap := s.est.jCap
    let s := s.setMemWord intentAddr (intentWord cap slot (s.get Reg.EST_JSEQ_SEQ + 1))
    let s := { s with est := { s.est with jPend := false, jCap := false, jCarry := cap, jRun := true },
                      power := { s.power with port := 2 } }
    s.putB Reg.EST_JSTAT_LOWENERGY false

/-- The journal write in progress completes (R172 steps 4 to 6). A learning result accepted meanwhile keeps its intent;
a freeze copy that gave way takes the port again. -/
def State.journalDone (s : State) : State :=
  if !s.est.jRun then s
  else
    let slot := 1 - s.get Reg.EST_JSTAT_SLOT
    let seq := s.get Reg.EST_JSEQ_SEQ + 1
    let s := s.setBytes (jSlotAddr slot) (s.journalRecord seq)
    let s := (s.put Reg.EST_JSTAT_SLOT slot).put Reg.EST_JSEQ_SEQ seq
    let s := s.setMemWord intentAddr (if s.est.jCap then intentWord true (1 - slot) (seq + 1) else 0)
    let s := if s.est.jCarry ∧ !s.est.jCap then s.putB Reg.EST_JSTAT_CAPPEND false else s
    let copying := match s.bbx.copy with
      | some f => f.started
      | none => false
    { s with est := { s.est with jRun := false, jCarry := false },
             power := { s.power with port := if copying then 3 else 0 } }

/-- JOURNAL_WRITE_START (R172). -/
def execJournalWriteStart (s : State) : Result := .next s.journalStart

/-- JOURNAL_WRITE_DONE (R172). -/
def execJournalWriteDone (s : State) : Result := .next s.journalDone

/-- A slot holds a record that stands (R173 step 1): its SEQ. -/
def State.slotSeq (s : State) (slot : Nat) : Option Nat :=
  let a := jSlotAddr slot
  if s.num a 4 = 0x4A455354 ∧ s.num (a + 0x0C) 4 = 12356 ∧ s.num (a + 0x3040) 4 = crc32c (s.bytes a 0x3040) then
    some (s.num (a + 4) 4)
  else none

/-- A cell from its record (R173 step 3). -/
def State.cellFrom (s : State) (a : Nat) : EstCell :=
  let sg := fun (o n : Nat) => ((signed (8 * n) (s.num (a + o) n) : Int) : Rat)
  let fl := s.num (a + 30) 2
  let gaps := fl / 256
  let valid := fl.testBit 0
  { z := (s.num a 4 : Rat) / 1000000000, zc := sg 4 4 / 1000000000, q := (s.num (a + 8) 4 : Rat) / 1000,
    rho := (s.num (a + 12) 4 : Rat) / 65536, p := covP0, restValid := valid,
    rz := (s.num (a + 16) 4 : Rat) / 1000000000, dql := sg 20 4, rgen := s.num (a + 24) 4, rt := sg 28 2 / 10,
    capsus := fl.testBit 1, curinv := fl.testBit 2, bankchg := fl.testBit 3,
    attested := gaps == 0 || fl.testBit 4, gaps := if valid then gaps + 1 else gaps, cold := false }

/-- The restore of the estimator at the boot of a lead (R173). -/
def State.estBoot (s : State) : State :=
  if !s.isLead then s
  else
    let intent := s.num intentAddr 4
    let pend := intent / 2 ^ 24 == 0xA5
    let s := s.putB Reg.EST_JSTAT_ABORTED pend
    let s := s.raiseIf (pend && intent.testBit 16) Ev.CAP_WRITE_ABORTED
    let s := if pend then s.setMemWord intentAddr 0 else s
    let best : Option (Nat × Nat) := match s.slotSeq 0, s.slotSeq 1 with
      | some a, some b => if a < b then some (1, b) else some (0, a)
      | some a, none => some (0, a)
      | none, some b => some (1, b)
      | none, none => none
    let s := s.putB Reg.EST_JSTAT_CAPPEND false
    match best with
    | none => (({ s with est := { tbl := s.est.tbl } }).putB Reg.EST_STAT_INIT true).putB Reg.EST_SOCREP_INIT true
    | some (slot, seq) =>
      let a := jSlotAddr slot
      let cells := (List.range 384).map fun j => s.cellFrom (a + 0x40 + 32 * j)
      let s := { s with est := {
        tbl := s.est.tbl, cells, srep := (s.num (a + 0x18) 4 : Rat), cold := false, gapOpen := true,
        tblCrc := some (s.num (a + 0x1C) 4) } }
      let s := ({ s with est := { s.est with sint := s.est.srep } } : State).putB Reg.EST_STAT_CAPSUS (cells.any (·.capsus))
      ((s.put Reg.EST_JSTAT_SLOT slot).put Reg.EST_JSEQ_SEQ seq).putB Reg.EST_STAT_GAP true

/-- A profile change, out of Run or out of Sleep: both detectors return to IDLE (R160), and the next run in Run covers the
elapsed time (R153); the rest timer ends on leaving Sleep (R162). The period of the journal counts in Run alone (R171). -/
def State.estProfile (s : State) (fromRun fromSleep : Bool) : State :=
  let s := s.resetDetectors
  let acc := if fromRun then s.est.jAcc + (s.now - s.est.jAt) else s.est.jAcc
  let s := { s with est := { s.est with
    elapsed := true, slept := s.est.slept || fromSleep, jAt := s.now, jAcc := acc } }
  if fromSleep then s.restClear else s

end Sys2Proof.Machine
end

