-- ==== Sys2Proof/Machine/Pump.lean ====
section
/-!
DEFINITION. The coolant pump drive (R291 to R308). The controllers, the observer and the modulator are stated without
their gains: their outputs are free values (assumption 16); the sequence of Table 13.2 is modelled whole.
-/
namespace Sys2Proof.Machine

/-- `PMP.STAT.STATE` (Table 13.2): 0 OFF, 1 LISTEN, 2 BRAKE, 3 ALIGN, 4 OPENLOOP, 5 RUN, 6 ZERO, 7 STOPPING, 8 WAIT,
9 GIVEUP. -/
def State.pmpState (s : State) : Nat := s.get Reg.PMP_STAT_STATE

/-- NMAX, OBSMIN in rpm and the target speed (R298). -/
def State.pmpNmax (s : State) : Nat := s.get Reg.PMP_SPEED_NMAX
def State.pmpObsmin (s : State) : Nat := s.get Reg.PMP_START_OBSMIN
def State.pmpTarget (s : State) : Rat :=
  let demand := if s.flag Reg.THM_COOLCFG_AUTO then s.get Reg.THM_COOLDMD_DEMAND else s.get Reg.PMP_SETP_DEMAND
  (min 1000 demand * s.pmpNmax : Nat) / 1000

/-- ZVTIME in ticks. -/
def State.pmpZv (s : State) : Nat := 1000000 * clampN 1 50 (s.get Reg.PMP_BRAKE_ZVTIME)

/-- Enter a state. -/
def State.pmpEnter (s : State) (st : Nat) : State :=
  ({ s with pmp := { s.pmp with since := s.now, angN := 0, emfN := 0, ocN := 0 } }).put Reg.PMP_STAT_STATE st

/-- Field weakening is active (R299). -/
def State.pmpFw (s : State) : Bool := decide (s.pmp.idRef < 0)

/-- Set i_d,ref; `STAT.FW` shows it. -/
def State.pmpSetId (s : State) (i : Rat) : State :=
  let s := { s with pmp := { s.pmp with idRef := i } }
  s.putB Reg.PMP_STAT_FW s.pmpFw

/-- The drive is armed and is not told to stop by its target (R298). -/
def State.pmpStopDue (s : State) : Bool :=
  !s.flag Reg.PMP_STAT_ARMED || decide (s.pmpTarget < s.pmpObsmin)

/-- OFF is left, and RUN is left for STOPPING, as the command and the target say (R298, Table 13.2). -/
def State.pmpSettle (s : State) : State :=
  if s.pmpState = 0 ∧ s.flag Reg.PMP_STAT_ARMED ∧ ¬ s.pmp.gateBad ∧ (5 * s.pmpObsmin : Nat) ≤ 4 * s.pmpTarget then
    s.pmpEnter 1
  else if s.pmpState = 5 ∧ s.pmpStopDue then s.pmpEnter 7
  else s

/-- A start command (R291, R298): it arms the drive of the lead. -/
def State.pmpStart (s : State) : State :=
  if s.isLead then
    let s := s.putB Reg.PMP_STAT_ARMED true
    (if s.pmpState = 9 then s.pmpEnter 0 else s).pmpSettle
  else s

/-- A stop command (R298). -/
def State.pmpStop (s : State) : State := (s.putB Reg.PMP_STAT_ARMED false).pmpSettle

/-- The bridge is off with the current loop at rest. -/
def State.pmpOpen (s : State) (st : Nat) : State :=
  let s := { s with pmp := { s.pmp with iqRef := 0, ref := 0 } }
  ((s.pmpSetId 0).putB Reg.PMP_STAT_LOCK false).pmpEnter st

/-- RUN is entered at a speed. -/
def State.pmpRun (s : State) (rpm : Int) : State :=
  let s := { s with pmp := { s.pmp with ref := rpm, runAt := s.now } }
  (((s.putB Reg.PMP_STAT_LOCK true).pmpEnter 5).raise Ev.PMP_RUNNING).pmpSettle

/-- Every low side on. -/
def State.pmpZero (s : State) (toOff : Bool) : State :=
  let s := { s with pmp := { s.pmp with toOff } }
  s.pmpEnter 6

/-- The retries are spent (R304): 15 is without limit. -/
def State.pmpSpent (s : State) : Bool :=
  s.get Reg.PMP_CATCH_RETRIES != 15 && decide (s.get Reg.PMP_CATCH_RETRIES < s.get Reg.PMP_ATTEMPT_COUNT)

/-- An attempt fails: WAIT (R304). -/
def State.pmpFail (s : State) (e : Event) : State := ((s.incSat Reg.PMP_ATTEMPT_COUNT).pmpOpen 8).raise e

/-- A rotor loss (R302): the zero vector with field weakening active, otherwise the bridge opens and the coast is the
listening interval; one attempt. With the retries spent the drive waits (assumption 17). -/
def State.pmpRotorLost (s : State) : State :=
  let s := (s.incSat Reg.PMP_ATTEMPT_COUNT).raise Ev.PMP_ROTOR_LOST
  if s.pmpFw then s.pmpZero false
  else if s.pmpSpent then s.pmpOpen 8
  else s.pmpOpen 1

/-- A commanded stop has reached OFF. -/
def State.pmpStopped (s : State) : State := (s.pmpOpen 0).raise Ev.PMP_STOPPED

/-- The bridge drives currents: ALIGN, OPENLOOP, RUN, STOPPING. -/
def State.pmpDrives (s : State) : Bool := s.pmpState == 3 || s.pmpState == 4 || s.pmpState == 5 || s.pmpState == 7

/-- IMAX and IDMAX in A. -/
def State.pmpImax (s : State) : Rat := (s.get Reg.PMP_LIMITS_IMAX : Nat) / 100
def State.pmpIdmax (s : State) : Rat := (s.get Reg.PMP_LIMITS_IDMAX : Nat) / 100

/-- The field-weakening integrator on a voltage magnitude (R299). -/
def State.pmpWeaken (s : State) (v vbatMV : Rat) : State :=
  let vlim := vbatMV / 1000 / sqrtR 3 * (clampN 800 980 (s.get Reg.PMP_FWCFG_VMARG) : Nat) / 1000
  let k : Rat := (s.get Reg.PMP_FWCFG_KFW : Nat) / 1000
  s.pmpSetId (clampQ (-s.pmpIdmax) 0 (s.pmp.idRef - k * (v - vlim)))

/-- PERIOD in ticks, in steps of 10 (R294). -/
def State.pmpPeriod (s : State) : Nat := clampN 2000 5000 (s.get Reg.PMP_PWM_PERIOD) / 10 * 10

/-- A duty that keeps each low side on for 300 ticks of the period (Table 13.1). -/
def State.pmpDuty (s : State) : Nat := min (s.pmpPeriod - 300) (s.freeN % (s.pmpPeriod + 1))

/-- The two active vectors of the period with the duties in effect cannot both be extended to T_MIN in its first half (R296): the
phase with the longest duty would have to rise before the period begins, or the one with the shortest to fall below 0 (DEDUCED,
assumption 119). -/
def State.pmpShort (s : State) : Bool :=
  let d := fun k => s.pmp.dutyNow.getD k 0
  let hi := max (d 0) (max (d 1) (d 2))
  let lo := min (d 0) (min (d 1) (d 2))
  let mid := d 0 + d 1 + d 2 - hi - lo
  let tmin := clampN 20 200 (s.get Reg.PMP_PWM_DT) + 150
  decide (s.pmpPeriod < hi + 2 * (tmin - (hi - mid) / 2)) || decide (lo < 2 * (tmin - (mid - lo) / 2))

/-- The current in ALIGN, A (Table 13.2). -/
def State.pmpAlign (s : State) : Rat := s.pmpImax * (clampN 5 100 (s.get Reg.PMP_START_ALIGNI) : Nat) / 100

/-- The currents i_d and i_q of an instant, in units of `PMP.IDQ`, or one more vector too short to measure them (R296). -/
def State.pmpCurrents (s : State) (idq : Int × Int) : State :=
  if s.pmpShort then s.incSat Reg.PMP_STAT_SHORTVEC
  else (s.putSatI Reg.PMP_IDQ_ID idq.1).putSatI Reg.PMP_IDQ_IQ idq.2

/-- The speed loop, one current-loop instant in four (R299, R300). -/
def State.pmpSpeedLoop (s : State) : State :=
  if 3 ≤ s.pmp.div then
    let lim := sqrtR (s.pmpImax * s.pmpImax - s.pmp.idRef * s.pmp.idRef)
    let goal := if s.pmpState = 3 ∨ s.pmpState = 7 then 0 else s.pmpTarget
    let step : Rat := (s.get Reg.PMP_SPEED_ACCEL : Nat) / 5000
    let iq := if s.pmpState = 3 then s.pmpAlign else clampQ (-lim) lim s.freeQ
    { s with pmp := { s.pmp with
      div := 0, iqRef := iq, ref := clampQ (s.pmp.ref - step) (s.pmp.ref + step) goal } }.nextFree
  else { s with pmp := { s.pmp with div := s.pmp.div + 1 } }

/-- The current loop with its controllers (R294, R299): voltage magnitude, duties and the output of the
speed loop are free within their limits. -/
def State.pmpLoop (s : State) (vbatMV : Nat) (idq : Int × Int) : State :=
  let s := s.pmpCurrents idq
  let s := (s.pmpWeaken (absQ s.freeQ) (vbatMV : Nat)).nextFree
  let d0 := s.pmpDuty
  let d1 := s.nextFree.pmpDuty
  let d2 := s.nextFree.nextFree.pmpDuty
  { s with pmp := { s.pmp with duty := [d0, d1, d2] } }.nextFree.nextFree.nextFree.pmpSpeedLoop

/-- The estimated back-EMF, µV, differs from FLUX·ω at a speed by 50 % or more (R295). -/
def State.pmpEmfBad (s : State) (rpm : Int) (emfUV : Nat) : Bool :=
  let e : Rat := (s.get Reg.PMP_MOTOR2_FLUX * clampN 1 15 (s.get Reg.PMP_MOTOR2_PP) * rpm.natAbs : Nat) * piR / 30
  decide (e / 2 ≤ absQ (emfUV - e))

/-- The speed that LISTEN measures: none, as if slow forward, where 20 ms hold no full electrical period (R301). -/
def State.pmpHeard (s : State) (rpm : Int) : Int :=
  if rpm.natAbs * clampN 1 15 (s.get Reg.PMP_MOTOR2_PP) < 3000 then 0 else rpm

/-- What the state of Table 13.2 does at a current-loop instant with the speed measured. -/
def State.pmpAdvance (s : State) (rpm : Int) (angleErr : Nat) (emfBad locked : Bool) : State :=
  let obs : Int := s.pmpObsmin
  match s.pmpState with
  | 2 => if (10 * rpm.natAbs : Nat) < s.pmpTarget then s.pmpEnter 3 else s
  | 4 =>
    if obs ≤ rpm ∧ locked then s.pmpRun rpm
    else if 4 * obs ≤ rpm then s.pmpFail Ev.PMP_START_FAIL
    else s
  | 5 =>
    let angN := if clampN 10 90 (s.get Reg.PMP_OBSCFG_LOSSDEG) ≤ angleErr then s.pmp.angN + 1 else 0
    let emfN := if emfBad then s.pmp.emfN + 1 else 0
    let s := { s with pmp := { s.pmp with angN, emfN } }
    if clampN 1 255 (s.get Reg.PMP_OBSCFG_LOSSN) ≤ max angN emfN then s.pmpRotorLost else s.pmpSettle
  | 7 =>
    if rpm ≤ obs then (if s.pmpFw then s.pmpZero true else s.pmpStopped) else s
  | _ => s.pmpSettle

/-- A drive that can run: the lead of the full build (R291). -/
def State.pmpHere (s : State) : Bool := s.isLead && s.alive

/-- PUMP_START (R298). -/
def execPumpStart (ini : Ini) (s : State) : Result := .next (s.onPage ini Reg.PMP_CTRL State.pmpStart)

/-- PUMP_STOP (R298). -/
def execPumpStop (ini : Ini) (s : State) : Result := .next (s.onPage ini Reg.PMP_CTRL State.pmpStop)

/-- PUMP_SETPOINT_WRITE (R298): the demand is held; it sets the target while AUTO is 0. -/
def execPumpSetpointWrite (ini : Ini) (demand : Nat) (s : State) : Result :=
  .next (s.onPage ini Reg.PMP_SETP fun s => (s.put Reg.PMP_SETP_DEMAND demand).pmpSettle)

/-- PUMP_CURRENT_LOOP (R294, R295, R299, R300): the next instant F + 5,000·m with what the drive measures there:
VBAT, the speed, the angle error of the phase-locked loop, the magnitude of the estimated back-EMF in µV, the lock, and the
currents that follow from its two shunt samples. -/
def execPumpCurrentLoop (vbatMV : Nat) (rpm : Int) (angleErrDeg emfUV : Nat) (locked : Bool) (idq : Int × Int) (s : State) : Result :=
  if !s.pmpHere then .next s
  else
    let s := s.advanceTo (s.fstart + (s.now - s.fstart + 4999) / 5000 * 5000)
    let s := (s.putSatI Reg.PMP_SPD_RPM rpm).putSat Reg.PMP_VBUS_MV vbatMV
    if s.pmp.gateBad then .next s
    else
      let s := if s.pmpDrives then (s.pmpLoop vbatMV idq).putB Reg.PMP_STAT_LOCK locked else s
      .next (s.pmpAdvance rpm angleErrDeg (s.pmpEmfBad rpm emfUV) locked)

/-- The shunt voltage in µV stands for 1.5 times IMAX or more (R293, R297). -/
def State.pmpOver (s : State) (shuntUV : Nat) : Bool :=
  decide (15 * s.get Reg.PMP_LIMITS_IMAX * clampN 100 65535 (s.get Reg.PMP_SHUNT_RSH) ≤ 1000 * shuntUV)

/-- PUMP_SHUNT_OVERCURRENT (R297) at a shunt voltage: the high sides are off for the rest of the period; the twentieth period in
a row raises PMP_OVERCURRENT and goes on as a rotor loss. -/
def execPumpShuntOvercurrent (s : State) (shuntUV : Nat := 4294967295) : Result :=
  if s.pmpHere && s.pmpDrives && !s.pmp.hiCut && s.pmpOver shuntUV then
    let n := s.pmp.ocN + 1
    let s := { s with pmp := { s.pmp with hiCut := true, ocN := n } }
    if 20 ≤ n then .next (s.raise Ev.PMP_OVERCURRENT).pmpRotorLost else .next s
  else .next s

/-- PWM_PERIOD_START (R294, R297): the new duties take effect and the cut-offs of the last period end. -/
def execPwmPeriodStart (s : State) : Result :=
  let n := if s.pmp.hiCut then s.pmp.ocN else 0
  .next { s with pmp := { s.pmp with dutyNow := s.pmp.duty, hiCut := false, loCut := false, ocN := n } }

/-- VDS_LIMIT_REACHED (R297): with every low side on, a phase node at VDSLIM of either sign turns all of them off for the rest of
the period. -/
def execVdsLimitReached (s : State) (phMV : Int := 2000) : Result :=
  if (s.pmpState = 2 ∨ s.pmpState = 6) ∧ clampN 20 2000 (s.get Reg.PMP_BRAKE_VDSLIM) ≤ phMV.natAbs then
    .next { s with pmp := { s.pmp with loCut := true } }
  else .next s

/-- LISTEN_END (R301, Table 13.3): the catch-spin decision on the speed measured, negative backward. -/
def execListenEnd (rpm : Int) (s : State) : Result :=
  if s.pmpState = 1 ∧ ¬ s.pmp.gateBad then
    let n := s.pmpHeard rpm
    let s := (s.advanceTo (s.pmp.since + 2000000)).putSatI Reg.PMP_SPD_RPM n
    if 0 < n ∧ s.pmpNmax < n then .next (s.pmpZero false)
    else if 0 < n ∧ s.pmpTarget ≤ 10 * n then .next (s.pmpRun n)
    else if 0 ≤ n ∨ n.natAbs < s.get Reg.PMP_CATCH_BRKMAX then .next (s.pmpEnter 2)
    else .next (s.pmpFail Ev.PMP_REVERSE)
  else .next s

/-- PHASE_NODE_OVERVOLTAGE (R301): with a phase node above VBAT + 0.3 V, LISTEN is left at once. -/
def execPhaseNodeOvervoltage (s : State) (phMV : Nat := 65535) (vbatMV : Nat := 0) : Result :=
  if s.pmpState = 1 ∧ ¬ s.pmp.gateBad ∧ vbatMV + 300 < phMV then .next (s.pmpZero false) else .next s

/-- BRAKE_TIMEOUT (R301): 500 ms of BRAKE; a motor that still turns backward fails the attempt. -/
def execBrakeTimeout (rpm : Int) (s : State) : Result :=
  if s.pmpState = 2 ∧ ¬ s.pmp.gateBad then
    let s := s.advanceTo (s.pmp.since + 50000000)
    if rpm < 0 ∧ s.pmpTarget ≤ (10 * rpm.natAbs : Nat) then .next (s.pmpFail Ev.PMP_REVERSE)
    else .next (s.pmpEnter 3)
  else .next s

/-- ALIGN_END (R300). -/
def execAlignEnd (s : State) : Result :=
  if s.pmpState = 3 ∧ ¬ s.pmp.gateBad then
    .next ((s.advanceTo (s.pmp.since + 1000000 * clampN 1 100 (s.get Reg.PMP_START_ALIGNT))).pmpEnter 4)
  else .next s

/-- ZERO_VECTOR_END (R302, Table 13.2): on to LISTEN; to OFF for a stop; to WAIT with the retries spent. -/
def execZeroVectorEnd (s : State) : Result :=
  if s.pmpState = 6 ∧ ¬ s.pmp.gateBad then
    let s := s.advanceTo (s.pmp.since + s.pmpZv)
    if s.pmp.toOff then .next s.pmpStopped
    else if s.pmpSpent then .next (s.pmpOpen 8)
    else .next (s.pmpOpen 1)
  else .next s

/-- RETRY_DELAY_END (R304): the next attempt, or GIVEUP. -/
def execRetryDelayEnd (s : State) : Result :=
  if s.pmpState = 8 ∧ ¬ s.pmp.gateBad then
    let s := s.advanceTo (s.pmp.since + 10000000 * clampN 1 255 (s.get Reg.PMP_CATCH_RETRYDLY))
    if s.pmpSpent then .next ((s.pmpEnter 9).raise Ev.PMP_GIVEUP) else .next (s.pmpEnter 1)
  else .next s

/-- RUN_ATTEMPT_RESET (R304): 60 s in RUN. -/
def execRunAttemptReset (s : State) : Result :=
  if s.pmpState = 5 then .next ((s.advanceTo (s.pmp.runAt + 6000000000)).put Reg.PMP_ATTEMPT_COUNT 0) else .next s

/-- The gate supply is faulty (Table 13.1): VGD below 8.0 V, or a bootstrap below 7.0 V above its phase node. -/
def gateFaulty (vgdMV bootMV : Nat) : Bool := decide (vgdMV < 8000) || decide (bootMV < 7000)

/-- GATE_SUPPLY_FAULT (R303) at VGD and the lowest bootstrap: the zero vector while field weakening is active and VGD holds 8.0 V,
else the bridge opens; a drive that was not running stays where it is (assumption 18). -/
def execGateSupplyFault (vgdMV : Nat) (s : State) (bootMV : Nat := 0) : Result :=
  if !s.pmpHere || !gateFaulty vgdMV bootMV then .next s
  else
    let s := s.raiseIf (!s.pmp.gateBad) Ev.PMP_GATE_FAULT
    let s := { s with pmp := { s.pmp with gateBad := true, gateBack := none } }
    if s.pmpState = 0 ∨ s.pmpState = 9 then .next s
    else if s.pmpFw && decide (8000 ≤ vgdMV) then .next (s.pmpZero false)
    else .next (s.pmpOpen 8)

/-- GATE_SUPPLY_RETURN (R303): with VGD and the bootstraps back within their limits the 100 ms wait starts. -/
def execGateSupplyReturn (s : State) (vgdMV : Nat := 12000) (bootMV : Nat := 12000) : Result :=
  if s.pmp.gateBad && !gateFaulty vgdMV bootMV && s.pmp.gateBack.isNone then
    .next { s with pmp := { s.pmp with gateBack := some s.now } }
  else .next s

/-- GATE_SUPPLY_RECOVERY (R303): 100 ms after VGD has returned the drive re-enters LISTEN. -/
def execGateSupplyRecovery (s : State) : Result :=
  match s.pmp.gateBack with
  | none => .next s
  | some t =>
    let s := s.advanceTo (t + 10000000)
    let s := { s with pmp := { s.pmp with gateBad := false, gateBack := none } }
    if s.pmpState = 0 ∨ s.pmpState = 9 then .next s.pmpSettle else .next (s.pmpOpen 1)

end Sys2Proof.Machine
end

