-- ==== Sys2Proof/Machine/Thermal.lean ====
section
/-!
DEFINITION. Temperatures (R198 to R212): thermistor conversion and fault classes, the near band, the neighbour check, the
cell thermal model, the coolant demand, the die sensors and their stages, and the commands of the THM block.
-/
namespace Sys2Proof.Machine

/-! ### Thermistors (R200 to R204, R464) -/

/-- The inputs in use, bit i. -/
def State.inputsUsed (s : State) : Nat := s.get Reg.THM_INUSE_TH + 2 ^ 16 * s.get Reg.THM_INUSE_TL

/-- The resistance of point `p` of the input's curve, in 0.1 Ω. -/
def State.curvePoint (s : State) (i p : Nat) : Nat :=
  if (s.get Reg.THM_CURVESEL_SEL).testBit i then s.get (Reg.THM_CURVE1_RES.at p) else s.get (Reg.THM_CURVE0_RES.at p)

/-- The resistance of a code in 0.1 Ω (R200). -/
def codeRes (code : Nat) : Rat := 100000 * (code : Rat) / (65536 - (code : Rat))

/-- The temperature of a resistance on a curve, in 0.1 °C: linear in ln R between adjacent points (R200). -/
def State.curveTemp (s : State) (i : Nat) (r : Rat) : Int :=
  let pt := fun k => ((s.curvePoint i k : Nat) : Rat)
  let between := fun k => (decide (pt (k + 1) ≤ r) && decide (r ≤ pt k)) || (decide (pt k ≤ r) && decide (r ≤ pt (k + 1)))
  let k := ((List.range 36).find? between).getD 35
  let f := if r = pt k then 0 else if r = pt (k + 1) then 1
    else (lnR r - lnR (pt k)) / (lnR (pt (k + 1)) - lnR (pt k))
  roundQ (10 * (-55 + 5 * ((k : Rat) + f)))

/-- The class of a sample of input `i` (Table 8.1), the neighbour check's mark last. -/
def State.sampleClass (s : State) (i code : Nat) : Nat :=
  let r := codeRes code
  let p0 : Rat := (s.curvePoint i 0 : Nat)
  let p36 : Rat := (s.curvePoint i 36 : Nat)
  let falling := decide (p36 < p0)
  if s.get Reg.THM_FLTCFG_OPENCODE ≤ code then 1
  else if code ≤ s.get Reg.THM_FLTCFG_SHORTCODE then 2
  else if s.thm.suspect.testBit i then 5
  else if (if falling then decide (r < p36) else decide (p36 < r)) then 3
  else if (if falling then decide (p0 < r) else decide (r < p0)) then 4
  else 0

/-- The temperature of a sample that is converted: the end of the curve beyond it. -/
def State.sampleTemp (s : State) (i code : Nat) : Int :=
  let r := codeRes code
  let p0 : Rat := (s.curvePoint i 0 : Nat)
  let p36 : Rat := (s.curvePoint i 36 : Nat)
  let falling := decide (p36 < p0)
  if (if falling then decide (r < p36) else decide (p36 < r)) then 1250
  else if (if falling then decide (p0 < r) else decide (r < p0)) then -550
  else s.curveTemp i r

/-- The event of a class (Table 8.1); the lead raises THM_SUSPECT with the mark itself (R205), a follower with the class. -/
def classEvent (lead : Bool) : Nat → Option Event
  | 1 => some Ev.THM_OPEN
  | 2 => some Ev.THM_SHORT
  | 3 => some Ev.THM_RANGE
  | 4 => some Ev.THM_RANGE
  | 5 => if lead then none else some Ev.THM_SUSPECT
  | _ => none

/-- THM_COVERAGE: fewer used inputs in class None or RANGE than MINVALID, with at least one input used (R202). -/
def State.coverage (s : State) : State :=
  let used := (List.range 24).filter fun i => s.inputsUsed.testBit i
  let good := used.filter fun i => classValid (s.get (Reg.THM_TEMP_FLT.at i))
  let bad := !used.isEmpty && decide (good.length < min 24 (s.get Reg.THM_INUSE_MINVALID))
  let s := s.raiseIf (bad && !s.flag Reg.THM_STAT_COVER) Ev.THM_COVERAGE
  let s := { s with saf := { s.saf with coverage := bad } }.putB Reg.THM_STAT_COVER bad
  s.putB Reg.THM_STAT_SUSP (used.any fun i => s.get (Reg.THM_TEMP_FLT.at i) == 5)

/-- The inputs that a commit takes out of use are no longer compared or reported (R201, R464): their words read 0 and both
copies drop their states and counts. -/
def State.dropUnused (s : State) : State :=
  let fresh := fun (m : Monitor) =>
    { m with temp := m.temp.mapIdx fun i t => if s.inputsUsed.testBit i then t else ({} : TempMon) }
  let s : State := { s with
    saf := { s.saf with x := fresh s.saf.x, y := fresh s.saf.y },
    thm := { s.thm with
      nearOut := s.thm.nearOut.mapIdx fun i n => if s.inputsUsed.testBit i then n else 0,
      lastGood := s.thm.lastGood.mapIdx fun i t => if s.inputsUsed.testBit i then t else 0 } }
  (List.range 24).foldl (fun s i =>
    if s.inputsUsed.testBit i then s else s.setWord (Reg.THM_TEMP_FLT.at i).addr 0) s

/-- A sample is near a threshold of the input (R204): its temperature, where it has one, lies within BAND of the set value of
one that is clear, or beyond that value, or it finds one set. -/
def State.nearBand (s : State) (i : Nat) (t : Option Int) : Bool :=
  let band : Int := (clampN 10 255 (s.get Reg.THM_NEAR_BAND) : Nat)
  let x := s.saf.x.temp.getD i {}
  let y := s.saf.y.temp.getD i {}
  let upper := fun (f : Fld) (on : Bool) => on || t.any fun t => decide (s.monI false f - band ≤ t)
  let lower := fun (f : Fld) (on : Bool) => on || t.any fun t => decide (t ≤ s.monI false f + band)
  if (s.get Reg.SAF_TCFG_CELLMASK).testBit i then
    upper Reg.SAF_TCOT_SET (x.ot.on || y.ot.on) || lower Reg.SAF_TCUT_SET (x.ut.on || y.ut.on) ||
      lower Reg.SAF_SLDT_CHGMIN (x.lo.on || y.lo.on) || upper Reg.SAF_SLDT_CHGMAX (x.hi.on || y.hi.on)
  else upper Reg.SAF_TKOT_SET (x.ot.on || y.ot.on)

/-- Near-band sampling of an input at a sample of any class (R204), by the states that the sample finds; none in Watch
(R199). -/
def State.nearStep (s : State) (i : Nat) (t : Option Int) : State :=
  let near := s.nearBand i t
  let n := if near then 0 else s.thm.nearOut.getD i 0 + 1
  let s := { s with thm := { s.thm with nearOut := s.thm.nearOut.set i n } }
  if s.watching then s.putB (Reg.THM_TEMP_NEAR.at i) false
  else if near then s.putB (Reg.THM_TEMP_NEAR.at i) true
  else if clampN 1 255 (s.get Reg.THM_NEAR_LEAVE) ≤ n then s.putB (Reg.THM_TEMP_NEAR.at i) false
  else s

/-- An input has its sample instant at the boundary of this frame (R199): in Run every tenth frame, in near-band sampling
every frame; in Watch each watch frame; not in a pause (R395), and a TH input only while the measurement die runs. -/
def State.sampleDue (s : State) (i : Nat) : Bool :=
  s.alive && !s.sleeping && !s.coresIdle && s.power.pauseAt.isNone && (decide (16 ≤ i) || s.cm.running) &&
    s.inputsUsed.testBit i && !s.thm.sampled.testBit i &&
    (s.watching || s.frame % 10 == 0 || s.flag (Reg.THM_TEMP_NEAR.at i))

/-- `TEMPn` shows a sample of class `c` at `t` (R464). -/
def State.showTemp (s : State) (i c : Nat) (t : Int) : State :=
  let s := (s.put (Reg.THM_TEMP_FLT.at i) c).putB (Reg.THM_TEMP_VALID.at i) (classValid c)
  let s : State := if classValid c then { s with thm := { s.thm with lastGood := s.thm.lastGood.set i t } } else s
  s.putSatI (Reg.THM_TEMP_TEMP.at i) (if c = 1 ∨ c = 2 then s.thm.lastGood.getD i 0 else t)

/-- THERMISTOR_SAMPLE (R199 to R204, R464): the result of the sample instant at the frame boundary, with the window monitors
at the end of its delivery time; an input without a sample instant there, or not used, has none. -/
def execThermistorSample (input code : Nat) (s : State) : Result :=
  if !s.sampleDue input then .next s
  else
    let s := s.advanceTo (s.fstart + if input < 16 then 1500 else 500)
    let s : State := { s with thm := { s.thm with sampled := bitTo s.thm.sampled input true } }
    let c := s.sampleClass input code
    let t := if c = 3 then 1250 else if c = 4 then -550 else s.sampleTemp input code
    let was := s.get (Reg.THM_TEMP_FLT.at input)
    let s := match classEvent s.isLead c with
      | some e => s.raiseIf (was != c) e
      | none => s
    let v := if c = 3 then 1000000 else if c = 4 then -1000000 else t
    let s := (s.showTemp input c t).nearStep input (if c = 1 ∨ c = 2 then none else some v)
    let s := if classValid c then s.monitorTemp input v else s
    .next s.coverage.protect

/-- A follower applies the SUSPECT mask received (R206) at a boundary. -/
def State.suspectBoundary (s : State) : State :=
  match s.thm.suspectNext with
  | none => s
  | some m => { s with thm := { s.thm with suspect := m, suspectNext := none } }

/-! ### The neighbour map (R207) -/

/-- A word of the active bank. -/
def State.nmapWord (s : State) (i : Nat) : Nat := nget (384 * s.get Reg.THM_NMAPSEL_BANK + i) s.thm.nmap

/-- NEIGHBOUR_MAP_WRITE (R207): into the inactive bank, the index advancing; an index beyond the bank holds nothing. The banks
lie on the lead: a follower has none to write. -/
def execNeighbourMapWrite (_ini : Ini) (val : Word) (s : State) : Result :=
  if !s.isLead then .next s
  else
  let i := s.get Reg.THM_NMAPADDR_INDEX
  let s := if i < 384 then
      { s with thm := { s.thm with nmap := nset (384 * (1 - s.get Reg.THM_NMAPSEL_BANK) + i) val.toNat s.thm.nmap } }
    else s
  let s := s.put Reg.THM_NMAPADDR_INDEX (i + 1)
  .next (if s.armedPage 9 then s.stgCancel else s)

/-- `THM.NMAPDATA` reads the word of the inactive bank. -/
def State.nmapRead (s : State) : Word :=
  let i := s.get Reg.THM_NMAPADDR_INDEX
  BitVec.ofNat 32 (if i < 384 then nget (384 * (1 - s.get Reg.THM_NMAPSEL_BANK) + i) s.thm.nmap else 0)

/-- The neighbours of sensor `g` (Table 8.3). -/
def State.neighbours (s : State) (g : Nat) : List Nat :=
  let w := s.nmapWord (2 * g)
  ((List.range 4).map fun k => w / 2 ^ (8 * k) % 256).filter (· < 192)

/-- The cell of sensor `g`. -/
def State.sensorCell (s : State) (g : Nat) : Option Nat :=
  let c := s.nmapWord (2 * g + 1) % 512
  if c < 384 then some c else none

/-- The sensor mapped to a cell: the first of the map. -/
def State.cellSensor (s : State) (j : Nat) : Option Nat := (List.range 192).find? fun g => s.sensorCell g == some j

/-- The reading of a used sensor that the neighbour check evaluates, in °C, with its class (R205, R464). -/
def State.sensorRaw (s : State) (g : Nat) : Option (Rat × Nat) :=
  if g / 24 = s.devNum then
    if s.inputsUsed.testBit (g % 24) then
      some (((s.getI (Reg.THM_TEMP_TEMP.at (g % 24)) : Int) : Rat) / 10, s.get (Reg.THM_TEMP_FLT.at (g % 24)))
    else none
  else if s.bit Reg.CSC_LOST_DEV (g / 24) then none
  else match (s.recordFrom (g / 24)).bind (fun r => r.temps[g % 24]?) with
    | some t => if t.2 < 6 then some ((t.1 : Rat) / 10, t.2) else none
    | none => none

/-- A sensor in class None or RANGE and not marked SUSPECT. -/
def State.goodSensor (s : State) (g : Nat) : Option Rat :=
  match s.sensorRaw g with
  | some (t, c) => if classValid c && !s.thm.marked.contains g then some t else none
  | none => none

/-- The neighbour check of one sensor after a model run (R205): the new counts and mark. -/
def State.checkSensor (s : State) (g : Nat) : State :=
  let ns := (s.neighbours g).filterMap s.goodSensor
  let marked := s.thm.marked.contains g
  let dwell := clampN 1 255 (s.get Reg.THM_SUSCFG_SUSDWELL)
  let thr : Rat := (clampN 30 255 (s.get Reg.THM_SUSCFG_SUSTHR) : Nat) / 10
  let tol : Rat := (s.get Reg.THM_SUSCFG_MODTOL : Nat) / 10
  let clear := { s with thm := { s.thm with cand := nset g 0 s.thm.cand, calm := nset g 0 s.thm.calm } }
  match s.sensorRaw g, median ns with
  | some (t, c), some m =>
    if c = 1 ∨ c = 2 ∨ ns.length < 2 ∨ (s.sensorCell g).isNone then clear
    else
      let far := decide (thr ≤ absQ (t - m))
      let model := match (s.sensorCell g).bind fun j => s.thm.ts[j]? with
        | some ts => decide (absQ (ts - m) < tol)
        | none => false
      let n := if far && model then nget g s.thm.cand + 1 else 0
      let k := if absQ (t - m) < thr - 2 then nget g s.thm.calm + 1 else 0
      let s := { s with thm := { s.thm with cand := nset g n s.thm.cand, calm := nset g k s.thm.calm } }
      if !marked ∧ dwell ≤ n then
        ({ s with thm := { s.thm with marked := g :: s.thm.marked, calm := nset g 0 s.thm.calm } }).raise Ev.THM_SUSPECT
      else if marked ∧ dwell ≤ k then
        ({ s with thm := { s.thm with marked := s.thm.marked.filter (· != g), cand := nset g 0 s.thm.cand } }).raise
          Ev.THM_SUSPECT_CLEAR
      else s
  | _, _ => clear

/-- The SUSPECT mask of a device from the lead's marks. -/
def State.markMask (s : State) (d : Nat) : Nat := bitsOf ((List.range 24).map fun i => s.thm.marked.contains (24 * d + i))

/-- The check of every used sensor; a mask that changed acts at once on the lead and is sent to its follower (R206). -/
def State.neighbourCheck (s : State) : State :=
  let old := (List.range 8).map s.markMask
  let s := (List.range 192).foldl State.checkSensor s
  let s := { s with thm := { s.thm with suspect := s.markMask s.devNum } }
  (List.range 8).foldl (fun s d =>
    if s.followers.testBit d ∧ old.getD d 0 ≠ s.markMask d then s.send (.access (.suspect (s.markMask d))) d 0 0 else s) s

/-! ### The cell thermal model (R208, R209) -/

/-- Mean current and mean square current of the last measured frame, A and A². -/
def State.frameHeat (s : State) : Rat × Rat :=
  let l := s.anchorCurrents.map (·.2)
  match meanOf l, meanOf (l.map fun i => i * i) with
  | some a, some b => (a, b)
  | _, _ => (s.packA, s.packA * s.packA)

/-- At a boundary: a measured frame of Run without a completed model run is retained (R208, R152). -/
def State.thmOwe (s : State) : State :=
  let s := if s.isLead ∧ s.cm.lastRan ∧ !s.watching ∧ !s.thm.ranFrame ∧ !s.thm.tc.isEmpty then
      { s with thm := { s.thm with owed := (s.thm.owed ++ [s.frameHeat]).reverse.take 16 |>.reverse } }
    else s
  { s with thm := { s.thm with ranFrame := false } }

/-- The heat of a cell in W (R208). -/
def State.cellHeat (s : State) (c : EstCell) (j : Nat) (tc : Rat) (i m2 : Rat) : Rat :=
  let bank := s.get Reg.EST_TBLSEL_BANK
  let r := c.rho * (s.cellPar bank c.z (s.cellTemp j)).rs
  i * (r * i + c.v1 + c.v2) + r * (m2 - i * i) + i * (tc + 27315 / 100) * s.entropic bank c.z

/-- One step of the nodes of a cell. -/
def State.nodeStep (s : State) (p tb : Rat) (sensor : Option Rat) (tc ts : Rat) : Rat × Rat :=
  let dt : Rat := 1 / 100
  let pos := fun (f : Fld) => ((clampN 1 65535 (s.get f) : Nat) : Rat)
  let rcs := pos Reg.THM_MCFG2_RCS / 1000
  let rsa := pos Reg.THM_MCFG2_RSA / 1000
  let tc := tc + dt * (p - (tc - ts) / rcs) / pos Reg.THM_MCFG1_CC
  let ts := ts + dt * ((tc - ts) / rcs - (ts - tb) / rsa) / pos Reg.THM_MCFG1_CS
  match sensor with
  | some t => (tc, ts + dt * ((s.get Reg.THM_MCFG3_KS : Nat) / 1000) * (t - ts))
  | none => (tc, ts)

/-- The boundary temperature: held while its sensor faults; 25.0 °C without a sensor. -/
def State.boundaryTemp (s : State) : Rat :=
  let b := s.get Reg.THM_MCFG3_BOUND
  if b = 0xFF then 25 else (s.sensor b).getD s.thm.tb

/-- The model over the frames owed and the last measured frame. -/
def State.modelRun (s : State) : State :=
  let tb := s.boundaryTemp
  let est := if s.est.ranFrame then s.est.prev else s.est.cells
  let frames := s.thm.owed ++ [s.frameHeat]
  let start := fun j => ((s.cellSensor j).bind s.goodSensor).getD tb
  let old := (List.range 384).map fun j => (s.thm.tc.getD j (start j), s.thm.ts.getD j (start j))
  let new := old.mapIdx fun j x =>
    if s.cellOn j then
      let sensor := (s.cellSensor j).bind s.goodSensor
      let c := est.getD j {}
      frames.foldl (fun a f =>
        let p := s.cellHeat c j a.1.1 f.1 f.2
        (s.nodeStep p tb sensor a.1.1 a.1.2, p)) (x, 0)
    else (x, 0)
  let tc := new.map (·.1.1)
  let tcWin := if s.cm.lastFrame = s.eis.frame ∧ s.eisActive then
      s.thm.tcWin.filter (·.1 != s.eis.frame) ++ [(s.eis.frame, tc)] else s.thm.tcWin
  { s with thm := { s.thm with
    tc, ts := new.map (·.1.2), p := new.map (·.2), tb, owed := [], ranFrame := true, tcWin } }

/-- The disagreements of R209. -/
def State.modelCheck (s : State) : State :=
  let thr : Rat := (s.get Reg.THM_XCHK_MODTHR : Nat) / 10
  let tz : Rat := (s.get Reg.THM_XCHK_TZTHR : Nat) / 10
  let s := s.cellsOn.foldl (fun s j =>
    let far := match (s.cellSensor j).bind s.goodSensor with
      | some t => decide (thr ≤ absQ (s.thm.ts.getD j 0 - t))
      | none => false
    let n := if far then min 100 (nget j s.thm.modN + 1) else 0
    let hit := n == 100 && nget j s.thm.modN != 100
    ({ s with thm := { s.thm with modN := nset j n s.thm.modN } }).raiseIf hit Ev.THM_MODEL_DISAGREE) s
  s.raiseIf (s.eis.tz.any fun z => match z.2.2 with
    | some t => decide (tz ≤ absQ (z.2.1 - t))
    | none => false) Ev.THM_TZ_DISAGREE

/-! ### Coolant demand (R210) -/

/-- The demand at a temperature in °C, in 0.1 %. -/
def State.demandAt (s : State) (t : Rat) : Rat :=
  let tp := fun k => ((s.getI (Reg.THM_COOLPT_TEMP.at k) : Int) : Rat) / 10
  let dm := fun k => ((s.get (Reg.THM_COOLPT_DEMAND.at k) : Nat) : Rat)
  if t ≤ tp 0 then dm 0
  else match (List.range 3).find? fun k => decide (t ≤ tp (k + 1)) with
    | some k => lerp (dm k) (dm (k + 1)) (divF (s.freeQ k) (t - tp k) (tp (k + 1) - tp k))
    | none => dm 3

/-- The demand follows the hottest core, or with a stale model the hottest valid cell sensor plus 5.0 °C, by at most RAMP
per second. -/
def State.coolDemand (s : State) (stale : Bool) : State :=
  let temps := if stale then (List.range 192).filterMap fun g =>
      if (s.sensorCell g).isSome then (s.goodSensor g).map fun t => (g, t + 5) else none
    else s.cellsOn.map fun j => (j, s.thm.tc.getD j 0)
  match bestBy true temps with
  | none => s
  | some x =>
    let step : Rat := (s.get Reg.THM_COOLCFG_RAMP : Nat) / 100
    let d := clampQ (s.thm.demand - step) (s.thm.demand + step) (s.demandAt x.2)
    (({ s with thm := { s.thm with demand := d } }).putSat Reg.THM_COOLDMD_DEMAND d.floor.toNat).pmpSettle

/-- The result registers of a model run (R213). -/
def State.modelShow (s : State) : State :=
  let s : State := match bestBy true (s.cellsOn.map fun j => (j, s.thm.tc.getD j 0)) with
    | some x => (s.put Reg.THM_HOTTEST_CELL x.1).putSatI Reg.THM_HOTTEST_TEMP (roundQ (10 * x.2))
    | none => s
  (s.put Reg.THM_SRCFRAME_FRAME s.cm.lastFrame).putB Reg.THM_STAT_STALE false

/-- THERMAL_MODEL_RUN_DONE (R205, R208 to R210). -/
def execThermalModelRunDone (s : State) : Result :=
  if !s.isLead ∨ !s.accelRuns 7 then .next s
  else
    let s := (s.accelDone 7).modelRun.modelShow
    .next ((s.neighbourCheck.modelCheck.coolDemand false).nextFree)

/-- What an overrun leaves of a run released at tick `rel`: the registers keep the previous run's results, marked stale; a stale
model resets the neighbour check's counts (R205) and the coolant demand follows the sensors (R210). -/
def State.accelStale (s : State) (typ rel : Nat) : State :=
  if typ = 6 then ((s.putB Reg.EST_STAT_STALE true).putB Reg.EST_SOCREP_STALE true).putB Reg.EST_SOCINT_STALE true
  else if typ = 7 then
    let s : State := { s with thm := { s.thm with cand := [], calm := [] } }
    (((s.putB Reg.THM_STAT_STALE true).raise Ev.THM_MODEL_STALE).coolDemand true).nextFree
  else if s.eis.phase = 4 ∧ s.eis.e + 200000 ≤ rel then { s with eis := { s.eis with phase := 6, new := [] } }
  else s

/-- ACCELERATOR_OVERRUN (R56): the run is stopped at the end of its window and its results are discarded. In its LIMIT-th
consecutive frame with an overrun the accelerator is reset. -/
def execAcceleratorOverrun (entry : Nat) (s : State) : Result :=
  match s.tt.accel.find? (·.entry == entry) with
  | none => .next s
  | some x =>
    let typ := x.typ
    let s := s.advanceTo x.till
    let s := { s with tt := { s.tt with accel := s.tt.accel.filter (·.entry != entry) } }
    let s := (s.accelOverrun entry typ).accelStale typ x.rel
    .next (if s.ovrLimit ≤ nget typ s.tt.accelOver then (s.accelReset typ).raise Ev.TT_ESCALATE else s)

/-- THM_CELL_SELECT (R213): CTC, CTS and CPWR latch the last completed run; a follower has no model to select from. -/
def execThmCellSelect (_ini : Ini) (cell : Nat) (s : State) : Result :=
  if !s.isLead then .next s
  else
  let s := s.put Reg.THM_CSEL_INDEX cell
  let on := s.cellOn cell
  let v := fun (l : List Rat) (k : Rat) => if on then roundQ (k * l.getD cell 0) else 0
  .next (((s.putSatI Reg.THM_CTC_TEMP (v s.thm.tc 10)).putSatI Reg.THM_CTS_TEMP (v s.thm.ts 10)).putSatI Reg.THM_CPWR_MW
    (v s.thm.p 1000))

/-! ### Die sensors (R211) -/

/-- The die sensors at a frame boundary, in 0.1 °C; `powered`: the measurement die's two take part. -/
def State.dieSample (s : State) (die : List Int) (powered : Bool) : State :=
  let n := if powered then 8 else 6
  let v := fun i => ((die.getD i 0 : Int) : Rat)
  let bad := (List.range n).map fun i =>
    match median (((List.range n).filter (· != i)).map v) with
    | some m => decide (150 ≤ absQ (v i - m))
    | none => false
  let s := (List.range 8).foldl (fun s i =>
    if i < n then
      let ex := bad.getD i false
      let s := s.raiseIf (ex && !s.thm.dieBad.testBit i) Ev.THM_DIESENSOR
      let s : State := { s with thm := { s.thm with dieBad := bitTo s.thm.dieBad i ex } }
      (s.putSatI (Reg.THM_DIE_TEMP.at i) (die.getD i 0)).putB (Reg.THM_DIE_EXCL.at i) ex
    else s.putB (Reg.THM_DIE_EXCL.at i) true) s
  match bestBy true (((List.range n).filter fun i => !bad.getD i false).map fun i => (i, v i)) with
  | some x => s.putSatI Reg.THM_DIESTAT_TDIE x.2.floor
  | none => s

/-- Stage 3 is entered: a lead opens its roles in order, a follower drives TRIP, the pump stops, the black box freezes. -/
def State.stage3Enter (s : State) : State :=
  let s := { s with power := { s.power with stage3At := s.now } }
  let s := ((s.raise Ev.THM_DIE_STAGE3).freeze 4 0).pmpStop
  if s.isLead then s.stage3Open
  else
    let tripAt := if s.saf.tripBy = 0 then s.now else s.csc.tripAt
    { s with saf := { s.saf with tripBy := bitTo s.saf.tripBy 15 true }, csc := { s.csc with tripAt } }.holdShow

/-- The stages after a sample of the die sensors (Table 8.4): entered after two frames at the threshold, stages 1 and 2
left after 100 frames below the threshold minus 10.0 °C. -/
def State.dieStages (s : State) : State :=
  let t := s.getI Reg.THM_DIESTAT_TDIE
  let up := [1350, 1450, 1600].mapIdx fun i h => if h ≤ t then s.thm.up.getD i 0 + 1 else 0
  let down := [1350, 1450].mapIdx fun i h => if t < h - 100 then s.thm.down.getD i 0 + 1 else 0
  let s := { s with thm := { s.thm with up, down } }
  let was := s.power.stage
  let enter := if 2 ≤ up.getD 2 0 then 3 else if 2 ≤ up.getD 1 0 then 2 else if 2 ≤ up.getD 0 0 then 1 else 0
  let keep := if was = 3 then 3
    else if was = 2 ∧ down.getD 1 0 < 100 then 2
    else if 1 ≤ was ∧ down.getD 0 0 < 100 then 1 else 0
  let stage := max enter keep
  let s := { s with power := { s.power with stage } }.put Reg.THM_STAT_STAGE stage
  let s := s.raiseIf (decide (was < 1) && decide (1 ≤ stage)) Ev.THM_DIE_STAGE1
  let s := s.raiseIf (decide (was < 2) && decide (2 ≤ stage)) Ev.THM_DIE_STAGE2
  let s := s.raiseIf (decide (stage < was)) Ev.THM_DIE_CLEAR
  let s := if was = 0 ∧ 0 < stage ∧ s.isLead then s.eisAbort.eisExc else s
  let s := if was < 3 ∧ stage = 3 then s.stage3Enter else s
  if 0 < was ∧ stage = 0 then s.matrixRun.settle else s.settle

end Sys2Proof.Machine
end

