-- ==== Sys2Proof/Machine/HostPort.lean ====
section
/-!
DEFINITION. The charger host port (R363 to R374): the Live Table and its flip, the mailbox and its take, HIRQ, and the
parallel and SPI cycles.
-/
namespace Sys2Proof.Machine

/-! ### The port -/

/-- Interface in force: 0 off, 1 parallel, 2 SPI. The port runs on the lead only, and not in Sleep (R363). -/
def State.hostMode (s : State) : Nat :=
  if s.isLead && s.alive && !s.sleeping then s.get Reg.HST_CFG_MODE else 0

/-- `STAT.MODE` shows the interface in force; a transaction and HIRQ end with the interface. -/
def State.hostShow (s : State) : State :=
  let s := s.put Reg.HST_STAT_MODE s.hostMode
  let s := if s.hostMode = 2 then s else { s with hst := { s.hst with spi := none } }
  if s.hostMode = 0 ∨ ¬ s.flag Reg.HST_CFG_HIRQEN then { s with hst := { s.hst with hirq := none } } else s

/-- A bit of `HST.CAUSE` becomes set (R374). -/
def State.hostCause (s : State) (f : Fld) : State := s.setCause f Ev.HST_SERVICE

/-- The first read of word 0x000 after a flip lowers HIRQ (R371). -/
def State.hostSeqRead (s : State) : State := { s with hst := { s.hst with hirq := none } }

/-- A write by the host: a mailbox word, or `WRADDR` (R369). -/
def State.mailboxWrite (s : State) (addr v : Nat) : State :=
  if addr < 32 then { s with hst := { s.hst with mb := nset addr v s.hst.mb } } else s.hostCause Reg.HST_CAUSE_WRADDR

/-- The word of the Live Table that a read sees (R365). -/
def State.liveWord (s : State) (addr : Nat) : Nat := nget addr s.hst.front

/-- HOST_READ_SEQ (R371): a parallel read of word 0x000. -/
def execHostReadSeq (s : State) : Result := .next (if s.hostMode = 1 then s.hostSeqRead else s)

/-- HOST_WRITE (R369): a parallel write cycle. -/
def execHostWrite (addr : Nat) (data : BitVec 16) (s : State) : Result :=
  .next (if s.hostMode = 1 then s.mailboxWrite (addr % 4096) data.toNat else s)

/-- SPI_WORD_COMPLETE (R372): the command word, or a data word of the transaction in progress. -/
def execSpiWordComplete (mosi : BitVec 16) (s : State) : Result :=
  if s.hostMode ≠ 2 then .next s
  else match s.hst.spi with
  | none => .next { s with hst := { s.hst with spi := some (mosi.getLsbD 15, mosi.toNat % 4096) } }
  | some (read, addr) =>
    let s : State := { s with hst := { s.hst with spi := some (read, (addr + 1) % 4096) } }
    if read then
      let s : State := { s with hst := { s.hst with spiOut := s.liveWord addr } }
      .next (if addr = 0 then s.hostSeqRead else s)
    else .next (s.mailboxWrite addr mosi.toNat)

/-- SPI_DESELECT (R372): nHCS rises with `bits` bits of a word received. -/
def execSpiDeselect (bits : Nat) (s : State) : Result :=
  if s.hostMode ≠ 2 then .next s
  else
    let s : State := { s with hst := { s.hst with spi := none } }
    .next (if bits % 16 = 0 then s else s.hostCause Reg.HST_CAUSE_SPIERR)

/-- HIRQ_TIMEOUT (R371): 100,000 ticks after the flip. -/
def execHirqTimeout (s : State) : Result :=
  match s.hst.hirq with
  | some t => .next (s.advanceTo (t + 100000)).hostSeqRead
  | none => .next s

/-! ### The pairs' words (R368) -/

/-- The words that an initiator may write: Pair A 0x040 to 0x05F, Pair B 0x800 to 0xFFF. -/
def backRange (ini : Ini) (w : Nat) : Bool :=
  match ini with
  | .pairA => decide (0x40 ≤ w ∧ w < 0x60)
  | .pairB => decide (0x800 ≤ w ∧ w < 0x1000)
  | .debug | .link => false

/-- Write words INDEX and INDEX + 1 of the back buffer; bit 0 of INDEX is ignored. On a follower a write has no effect (R363). -/
def State.backWrite (s : State) (ini : Ini) (val : Word) : State :=
  let i := s.get Reg.HST_BBADDR_INDEX / 2 * 2
  if !s.isLead then s
  else if backRange ini i then
    let m := nset (i + 1) (val.toNat / 65536) (nset i (val.toNat % 65536) s.hst.back)
    ({ s with hst := { s.hst with back := m } }).put Reg.HST_BBADDR_INDEX ((i + 2) % 4096)
  else s.accessFault ini true Reg.HST_BBDATA

/-- BACK_BUFFER_WRITE (R368). -/
def execBackBufferWrite (ini : Ini) (val : Word) (s : State) : Result :=
  .next (s.onPage ini Reg.HST_BBDATA fun s => s.backWrite ini val)

/-- The writing pair's words are complete; no effect on a follower (R363). -/
def State.backDone (s : State) (ini : Ini) : State :=
  if !s.isLead then s
  else match ini with
  | .pairA => { s with hst := { s.hst with doneA := true } }
  | .pairB => { s with hst := { s.hst with doneB := true } }
  | .debug | .link => s

/-- BACK_BUFFER_DONE (R368). -/
def execBackBufferDone (ini : Ini) (s : State) : Result := .next (s.onPage ini Reg.HST_BBDONE fun s => s.backDone ini)

/-! ### The Live Table (R367, R368) -/

/-- The two words of a 32-bit value. -/
def wordPair (v : Nat) : List Nat := [v % 65536, v / 65536 % 65536]

/-- STATUS1 (Table 16.3) but for the stale bits of the pairs. -/
def State.status1 (s : State) : Nat :=
  let stages := s.power.stage :: (s.csc.records.filter fun r => !s.bit Reg.CSC_LOST_DEV r.dev).map (·.stage)
  bitsOf [false, false, s.fast, false, false, s.get Reg.SAF_RSTAT_LATCH != 0 || s.csc.records.any fun r => r.reaction && !s.bit Reg.CSC_LOST_DEV r.dev,
    s.flag Reg.SAF_STAT_CHGFORB, s.flag Reg.CTS_STAT_LINKINV, s.flag Reg.CTS_STAT_INLETINV,
    s.get Reg.CTS_STAT_CSTATE == 4, false, false, s.flag Reg.EST_STAT_STALE || s.flag Reg.THM_STAT_STALE,
    s.flag Reg.EST_STAT_CURINV, s.snActive, s.flag Reg.CSC_STAT_ENUM] +
    s.get Reg.SYS_PROFSTAT_PROF + 8 * stages.foldl max 0

/-- Frame mean VOLT`k + 1` in mV as the lead has it: its own, or the anchor's frame record (R128). -/
def State.packVolt (s : State) (k : Nat) : Int :=
  if s.isAnchor then s.getI (Reg.HVM_VOLT_MV.at k)
  else match s.anchorRecord with
    | some r => r.volts.getD k 0
    | none => 0

/-- y_j of the source frame of the last run in µV; 0x8000_0000 without one (R150, R367). -/
def State.liveMean (s : State) (j : Nat) : Nat :=
  match (s.est.shown.getD j (none, false)).1 with
  | some y => twos 32 y
  | none => 0x80000000

/-- The flag word of cell `j` (Table 16.3). The frame record of a follower names no OV or UV bit, so these two are free for
a follower's cell. -/
def State.liveFlags (s : State) (j : Nat) : Nat :=
  let c : EstCell := s.est.cells.getD j {}
  let sets := s.setsOf (j / 48)
  let absent := s.cellOn j && (s.bit Reg.CSC_LOST_DEV (j / 48) || decide (sets.length < setsDue s.cm.lastFast))
  let own := j / 48 == s.devNum
  let i := j % 48
  let ov := if own then (s.get Reg.SAF_OVSL_SET + 2 ^ 32 * s.get Reg.SAF_OVSH_SET).testBit i else s.freeN.testBit (2 * j)
  let uv := if own then (s.get Reg.SAF_UVSL_SET + 2 ^ 32 * s.get Reg.SAF_UVSH_SET).testBit i else s.freeN.testBit (2 * j + 1)
  bitsOf [s.cellOn j, c.degr || absent, s.cellOn j && ov, s.cellOn j && uv,
    (s.est.shown.getD j (none, false)).2, c.socdis, c.model, c.capsus]

/-- The reading of sensor `g` in 0.1 °C; 0x8000 when it is not valid. -/
def State.liveSensor (s : State) (g : Nat) : Nat :=
  match s.sensor g with
  | some t => twos 16 (roundQ (t * 10))
  | none => 0x8000

/-- The hardware words in address order as the state of tick B − 1 gives them, but for SEQ, FLIPTICK and the stale bits. -/
def State.liveWords (s : State) : List (Nat × List Nat) :=
  let p := s.get Reg.EIS_STAT_POINT
  let head : List (Nat × List Nat) := [(0x001, [1]), (0x002, wordPair (s.get Reg.EST_SRCFRAME_FRAME)),
    (0x006, [s.get Reg.TMB_GEN_GEN % 65536, s.status1,
      s.get Reg.CTS_STAT_CSTATE * 4096 + s.get Reg.CTS_STAT_DSTATE * 256 + s.get Reg.CSC_LOST_DEV % 256]),
    (0x010, [s.eisShownReq * 16384 + s.eis.reqSeq % 256, s.eisCyc p, s.eisFrm p, s.eis.amp % 65536, s.eis.start % 65536]),
    (0x020, (List.range 32).map fun i => s.get (Reg.HST_MB_DATA.at i)),
    (0x060, wordPair (s.get Reg.EST_SOCREP_SOC) ++ [s.get Reg.EST_SOH_SOHC, s.get Reg.EST_SOH_SOHR] ++
      wordPair (twos 32 s.packAvg1) ++ wordPair (twos 32 (s.packVolt 0)) ++ wordPair (twos 32 (s.packVolt 1)) ++
      wordPair (twos 32 (s.packVolt 2)) ++ wordPair (twos 32 (s.packVolt 3)) ++
      [s.get Reg.HVM_ISORES_RP, s.get Reg.HVM_ISORES_RN, s.get Reg.THM_HOTTEST_TEMP, s.get Reg.THM_HOTTEST_CELL,
        s.get Reg.THM_COOLDMD_DEMAND])]
  head ++ [(0x100, ((List.range 384).map fun j => wordPair (s.liveMean j)).flatten),
    (0x400, (List.range 192).map s.liveSensor), (0x500, (List.range 384).map s.liveFlags),
    (0x680, (List.range 384).map fun j => twos 16 (roundQ ((s.thm.tc.getD j 0) * 10)))]

/-- Write words from an address on. -/
def nsetList (a : Nat) : List Nat → KMap Nat → KMap Nat
  | [], m => m
  | v :: vs, m => nsetList (a + 1) vs (nset a v m)

/-- The words of a map in a range of addresses. -/
def nslice (lo hi : Nat) (m : KMap Nat) : KMap Nat := m.filter fun e => decide (lo ≤ e.1 ∧ e.1 < hi)

/-- Copy the words of a map into another. -/
def nmerge (src dst : KMap Nat) : KMap Nat := src.foldl (fun m e => nset e.1 e.2 m) dst

/-- A pair has its words complete for this flip: not while it restarts, is held or has a new bank that waits for READY, when
they are republished with their stale flag (R36, R66, R368). -/
def State.pairFresh (s : State) (p : Pair) (done : Bool) : Bool :=
  done && !s.flag (Reg.CP_STAT_INRST.at p.idx) && !(s.core p).inReset && !(s.core p).held && (s.core p).swap.isNone

/-- The flip at boundary B (R365, R366, R368, R371). `pre` is the state of tick B − 1. -/
def State.liveFlip (s pre : State) : State :=
  if !s.isLead then s
  else
    let h := s.hst
    let newA := s.pairFresh .a h.doneA
    let newB := s.pairFresh .b h.doneB
    let a := nslice 0x40 0x60 (if newA then h.back else h.front)
    let b := nslice 0x800 0x1000 (if newB then h.back else h.front)
    let own := nmerge b (nmerge a [])
    let seq := (h.seq + 1) % 65536
    let words := pre.liveWords.foldl (fun m e => nsetList e.1 e.2 m) own
    let words := nset 7 (nget 7 words + (!newA).toNat * 1024 + (!newB).toNat * 2048) words
    let words := nsetList 4 (wordPair s.tick32) (nset 0 seq words)
    let hirq := if s.hostMode ≠ 0 ∧ s.flag Reg.HST_CFG_HIRQEN then some s.now else none
    let s : State := { s with hst := { h with front := words, back := own, doneA := false, doneB := false, seq, hirq } }
    (((s.put Reg.HST_SEQ_SEQ seq).putB Reg.HST_STAT_STALEA (!newA)).putB Reg.HST_STAT_STALEB (!newB)).nextFree

/-! ### The mailbox (R369, R370) -/

/-- The latch of the mailbox's limp-home request. -/
def State.limpHome (s : State) (on : Bool) : State := (s.putB Reg.HST_STAT_LHREQ on).hostRequest 1 on

/-- At a frame boundary the lead takes all 32 words; a changed MBSEQ submits MBCMD once. -/
def State.mailboxTake (s : State) : State :=
  if !s.isLead then s
  else
    let s := (List.range 32).foldl (fun s i => s.put (Reg.HST_MB_DATA.at i) (nget i s.hst.mb)) s
    let seq := nget 0 s.hst.mb
    if seq = s.hst.lastSeq then s
    else
      let s : State := { s with hst := { s.hst with lastSeq := seq } }
      match nget 1 s.hst.mb with
      | 1 => ({ s with est := { s.est with resync := true } }).hostCause Reg.HST_CAUSE_CMD
      | 2 => (s.limpHome true).hostCause Reg.HST_CAUSE_CMD
      | 3 => (s.limpHome false).hostCause Reg.HST_CAUSE_CMD
      | _ => s.hostCause Reg.HST_CAUSE_BADCMD

end Sys2Proof.Machine
end

