-- ==== Sys2Proof/Machine/Staging.lean ====
section
/-!
DEFINITION. Staging and commit (R59 to R68): writes of staged copies, arming, the consistency checks of Table 2.8, the
commit itself, and the cascade commit.
-/
namespace Sys2Proof.Machine

/-! ### Staged copies (R19, R21, R59) -/

/-- The bits of the defined RWS fields of a page's registers: offset, count, stride, mask (the register tables). -/
def rwsFields : Nat → List (Nat × Nat × Nat × Nat)
  | 2 => [(0x40, 1, 4, 0xFFFF), (0x44, 1, 4, 0x3FF)]
  | 4 => [(0x40, 1, 4, 0x1), (0x44, 1, 4, 0x1), (0x5C, 1, 4, 0xF)]
  | 6 => [(0x44, 1, 4, 0xFFFF), (0x48, 1, 4, 0x7FF0100), (0x4C, 1, 4, 0x3FFF), (0x50, 1, 4, 0x3FF)]
  | 7 => [(0x40, 1, 4, 0x333), (0x44, 1, 4, 0xFFFFFF), (0x48, 1, 4, 0xFFFFFF), (0x4C, 1, 4, 0xFF00FF),
      (0x50, 1, 4, 0xFF00FF)]
  | 8 => [(0x40, 1, 4, 0x1), (0x58, 1, 4, 0xFFFF), (0x5C, 1, 4, 0xFFFF), (0x60, 1, 4, 0xFFFF)]
  | 9 => [(0x40, 1, 4, 0x1FFFFFFF), (0x44, 1, 4, 0xFFFFFF), (0x48, 1, 4, 0xFFFF), (0x50, 1, 4, 0xFFFFFF00),
      (0x54, 1, 4, 0x1), (0x68, 1, 4, 0xFF00FF), (0x6C, 1, 4, 0xFFFF00), (0x70, 1, 4, 0x8000FFFF)]
  | 10 => [(0x40, 1, 4, 0xFFFF001F), (0x48, 1, 4, 0x80000FFF)]
  | 11 => [(0x40, 1, 4, 0xF), (0x44, 1, 4, 0xFFFF0F), (0x48, 1, 4, 0x3F)]
  | 12 => [(0x44, 1, 4, 0x1), (0x48, 1, 4, 0x3FF), (0x50, 1, 4, 0xFFFF0000), (0x5C, 1, 4, 0xFF00FFFF),
      (0x88, 1, 4, 0xFFFF), (0x8C, 1, 4, 0xFFF)]
  | 13 => [(0x40, 1, 4, 0xF0F), (0x44, 8, 4, 0xFFFFFFF7), (0x68, 1, 4, 0xFFFF), (0x6C, 1, 4, 0xFF),
      (0x70, 1, 4, 0xFFFF)]
  | 14 => [(0x40, 1, 4, 0x37FFFFF), (0x44, 1, 4, 0x7FFFFF), (0x48, 1, 4, 0x37FFFFF), (0x4C, 1, 4, 0x7FFFFF),
      (0x54, 1, 4, 0xFFFF), (0x5C, 1, 4, 0xF0003), (0x68, 1, 4, 0x7F), (0x74, 1, 4, 0x1FFFFF),
      (0x84, 1, 4, 0x3FFFFFF), (0x88, 15, 4, 0x1FFFF)]
  | 15 => [(0x40, 1, 4, 0x3FFFFFFF), (0x48, 1, 4, 0xFFFF00FF), (0x54, 1, 4, 0xFFFFFF00), (0x5C, 1, 4, 0xFFFF),
      (0x64, 1, 4, 0xFFFF000F)]
  | 16 => [(0x40, 16, 4, 0xFFFFFFF0), (0x80, 1, 4, 0xFFFFFF1F), (0x84, 1, 4, 0xFF)]
  | 18 => [(0x40, 1, 4, 0xFFFF00FF), (0x44, 1, 4, 0xFFFF), (0x4C, 1, 4, 0xFFFF000F), (0x5C, 1, 4, 0xF0FFFFFF),
      (0x60, 1, 4, 0xFFFF00FF), (0x64, 1, 4, 0xFFFF03FF), (0x68, 1, 4, 0xFFFF)]
  | 19 => [(0x40, 1, 4, 0x1), (0x48, 1, 4, 0xF), (0x4C, 1, 4, 0x3F)]
  | 20 => [(0x40, 1, 4, 0x1), (0x48, 1, 4, 0xF), (0x4C, 1, 4, 0x3F)]
  | 26 => [(0x100, 32, 16, 0xFD7F3F00)]
  | 27 => [(0x40, 1, 4, 0x103)]
  | _ => []

/-- The reserved bits of the RWS register at an address, a redundant copy of a SAF threshold as its primary. -/
def reservedBits (a : Nat) : Word :=
  let page := pageOf a
  let off := a % 0x1000
  let off := if page = 14 then (safCopyOff off).getD off else off
  match (rwsFields page).find? fun r => decide (r.1 ≤ off ∧ off < r.1 + r.2.1 * r.2.2.1) && (off - r.1) % r.2.2.1 == 0 with
  | some r => ~~~(BitVec.ofNat 32 r.2.2.2)
  | none => 0

/-- The address of the register whose staged copy lies at `a`; none where there is no staged copy. -/
def stagedOf (a : Nat) : Option Nat :=
  if a % 0x1000 < 0x840 ∨ a % 4 ≠ 0 then none
  else match rowOf (pageOf a) (a % 0x1000 - 0x800) with
    | some r => if r.rws = 0 then none else some (a - 0x800)
    | none => none

/-- The bits of a word that a write cannot change: fields of OUT9 to OUT16 on the AEV4848F (R4), the host port on a follower
(R363), and the mode there (Table 2.9). -/
def State.fixedBits (s : State) (a : Nat) : Word :=
  let r := if 0x840 ≤ a % 0x1000 then a - 0x800 else a
  if !s.full ∧ 0x40010060 ≤ r ∧ r < 0x40010080 then 0xFFFFFFFF#32
  else if !s.full ∧ 0x40011044 ≤ r ∧ r < 0x40011054 then 0x0000FF00#32
  else if !s.isLead ∧ 0x4001B040 ≤ r ∧ r < 0x4001B100 then 0xFFFFFFFF#32
  else if !s.isLead ∧ r = Reg.TT_SCHED then 1#32
  else 0

/-- A staged copy of a page is written: a pending commit that masks the page is cancelled, and a page in SYNC becomes
EDITED (R59, R61). -/
def State.stagedEdit (s : State) (page : Nat) : State :=
  if s.armedPage page then s.stgCancel
  else if s.get (stgField page) = 0 then s.put (stgField page) 1
  else s

/-- A write to a staged copy, without effect where the build has no writable bit of it (R4); elsewhere from 0x840 on nothing is held, and an unaligned write is a fault (R22, R423). -/
def State.stagedWrite (s : State) (ini : Ini) (a : Nat) (val : Word) : State :=
  match stagedOf a with
  | some r =>
    let keep := s.fixedBits a ||| ~~~(BitVec.ofNat 32 ((rowOf (pageOf r) (r % 0x1000)).elim 0 (·.rws)))
    if keep = 0xFFFFFFFF#32 then s
    else (s.setWord a ((s.word a &&& keep) ||| (val &&& ~~~keep))).stagedEdit (pageOf a)
  | none => if a % 4 ≠ 0 then s.accessFault ini true a else s

/-- STAGED_WRITE (R59). -/
def execStagedWrite (ini : Ini) (addr : Nat) (val : Word) (s : State) : Result :=
  .next (s.onPage ini addr fun s => s.stagedWrite ini addr val)

/-! ### The consistency checks (R62, Table 2.8) -/

/-- The addresses of the RWS words of the pages in a mask. -/
def State.maskedWords (s : State) (mask : Nat) : List Nat := (rwsAddrs s.full).filter fun a => mask.testBit (pageOf a)

/-- The state with the staged words of the masked pages in force: what the checks look at, and what a commit makes. -/
def State.withStaged (s : State) (mask : Nat) : State :=
  (s.maskedWords mask).foldl (fun s a => s.setWord a (s.word (a + 0x800))) s

/-- The first address in a list that fails. -/
def failAt (l : List (Bool × Nat)) : Option Nat := (l.find? (·.1)).map (·.2)

/-- Check 1 on values that a register table or a rule refuses: `IPK.CFG.ISH2USE` 3 (R106), `HST.CFG.MODE` 3 (R363), a Ticket
length outside R352, and a curve in use that is not strictly monotonic above 0 (R200). -/
def State.refusedValue (w : State) (mask : Nat) : Option Nat :=
  let curve := fun (c : Nat) =>
    let used := (List.range 24).find? fun i => w.inputsUsed.testBit i && (w.get Reg.THM_CURVESEL_SEL).testBit i == (c == 1)
    match used with
    | none => false
    | some i =>
      let pts := (List.range 37).map (w.curvePoint i)
      let ps := pts.zip (pts.drop 1)
      pts.any (· == 0) || !(ps.all (fun p => decide (p.1 < p.2)) || ps.all (fun p => decide (p.2 < p.1)))
  failAt ([(mask.testBit 7 && w.get Reg.IPK_CFG_ISH2USE == 3, Reg.IPK_CFG),
    (mask.testBit 27 && w.get Reg.HST_CFG_MODE == 3, Reg.HST_CFG)] ++
    ((List.range 32).map fun n =>
      (mask.testBit 26 && !([0, 4, 8, 12, 16, 24, 40, 56].contains (w.get (Reg.TKT_CFG_LEN.at n))), Reg.TKT_CFG + 16 * n)) ++
    [(curve 0, Reg.THM_CURVE0), (curve 1, Reg.THM_CURVE1)])

/-- Check 2: the redundant copies of the SAF thresholds and of the overcurrent thresholds (R215, R107). -/
def State.copiesDiffer (w : State) : Option Nat :=
  failAt (((List.range 33).map fun k => (w.word (Reg.SAF_CWOV + 4 * k) != w.word (Reg.SAF_CWOV + 0x100 + 4 * k),
    Reg.SAF_CWOV + 0x100 + 4 * k)) ++ [(w.word Reg.IPK_OCCFG != w.word Reg.IPK_OCCFGR, Reg.IPK_OCCFGR)])

/-- Check 4: clear values on the safe side of their set values, and dwells of at least 1. A clear value equal to its set value
does not lie on its safe side (DESIGN CHOICE, assumption 94). -/
def State.hysteresisBad (w : State) : Option Nat :=
  failAt [(decide (w.get Reg.SAF_CWOV_SET ≤ w.get Reg.SAF_CWOVC_CLR), Reg.SAF_CWOVC),
    (decide (w.get Reg.SAF_CWUVC_CLR ≤ w.get Reg.SAF_CWUV_SET), Reg.SAF_CWUVC),
    (decide (w.getI Reg.SAF_SLDT_CHGMAX ≤ w.getI Reg.SAF_SLDC_CHGMAXCLR), Reg.SAF_SLDC),
    (decide (w.getI Reg.SAF_SLDC_CHGMINCLR ≤ w.getI Reg.SAF_SLDT_CHGMIN), Reg.SAF_SLDC),
    (decide (w.getI Reg.SAF_TCOT_SET ≤ w.getI Reg.SAF_TCOT_CLR), Reg.SAF_TCOT),
    (decide (w.getI Reg.SAF_TCUT_CLR ≤ w.getI Reg.SAF_TCUT_SET), Reg.SAF_TCUT),
    (decide (w.getI Reg.SAF_TKOT_SET ≤ w.getI Reg.SAF_TKOT_CLR), Reg.SAF_TKOT),
    (w.get Reg.SAF_CWOV_DWELL == 0, Reg.SAF_CWOV), (w.get Reg.SAF_CWUV_DWELL == 0, Reg.SAF_CWUV),
    (w.get Reg.SAF_SLCDW_IDWELL == 0, Reg.SAF_SLCDW), (w.get Reg.SAF_SLCDW_I2TDWELL == 0, Reg.SAF_SLCDW),
    (w.get Reg.SAF_SLDI_DWELL == 0, Reg.SAF_SLDI), (w.get Reg.SAF_TCFG_TDWELL == 0, Reg.SAF_TCFG),
    (decide (w.get Reg.SAF_I2TCLR_CLR < 10 ∨ 90 < w.get Reg.SAF_I2TCLR_CLR), Reg.SAF_I2TCLR)]

/-- Check 5: 12 to 48 channels populated, windows on populated channels only; nor can software disable the window of a
populated one (R233, assumption 115). -/
def State.populationBad (w : State) : Option Nat :=
  let pop := w.populated
  let en := w.get Reg.SAF_CWENL_EN + 2 ^ 32 * w.get Reg.SAF_CWENH_EN
  failAt [(decide (popcount 48 pop < 12), Reg.CELL_POPL), (en != pop, Reg.SAF_CWENL)]

/-- Check 6: full current and power of balancing (R285): I_max = (VBMAX + 50 mV) / RBAL, in 0.1 Ω. -/
def State.balancingBad (w : State) : Option Nat :=
  let v := 10 * (min 5000 (w.get Reg.BAL_VLIM_VBMAX) + 50)
  let r := clampN 50 65535 (w.get Reg.BAL_CFG_RBAL)
  let n := w.get Reg.BAL_CFG_MAXON
  failAt [(decide (24 < n ∨ 150 * r < v ∨ 6000000 * r * r < 11 * n * v * v), Reg.BAL_CFG)]

/-- Check 7: roles on distinct channels of the build, none in the Safety Net assignment (R5, R28). -/
def State.rolesBad (w : State) : Option Nat :=
  let cs := ((List.range 6).map fun r => w.get Reg.CTS_ROLEMAP_CH / 32 ^ r % 32).filter (· != 0)
  let lh := w.lhMask 0 ||| w.lhMask 1 ||| w.lhMask 2 ||| w.lhMask 3
  failAt [(cs.eraseDups.length != cs.length || cs.any (fun c => !w.hasChan (c - 1) || lh.testBit (c - 1)), Reg.CTS_ROLEMAP)]

/-- The range of every EST field (Table 6.5). -/
def estRanges : List (Fld × Nat × Nat) :=
  [(Reg.EST_CFG_QNOM, 10, 65535), (Reg.EST_CFG_ETA, 9900, 10000), (Reg.EST_RATE_RATE, 10, 1000),
    (Reg.EST_NOISE1_SIGZ, 1, 65535), (Reg.EST_NOISE1_SIGV, 1, 65535), (Reg.EST_MEAS_MEASS, 10, 10000),
    (Reg.EST_MEAS_MEASF, 10, 10000), (Reg.EST_DISCFG_HOLD, 1, 3600), (Reg.EST_DISCFG_THR, 10, 500),
    (Reg.EST_INNCFG_DWELL, 1, 255), (Reg.EST_INNCFG_THR, 1000, 65535), (Reg.EST_EOCV_VHI, 0, 5000),
    (Reg.EST_EOCV_VLO, 0, 5000), (Reg.EST_EOCT_TTAPER, 1, 3600), (Reg.EST_EODV_VHI, 0, 5000), (Reg.EST_EODV_VLO, 0, 5000),
    (Reg.EST_EODT_TEOD, 1, 3600), (Reg.EST_RESTCFG_RESTT, 600, 7200), (Reg.EST_RESTCFG_RESTI, 5, 50),
    (Reg.EST_RESTCFG_DVDT, 10, 255), (Reg.EST_LRNCFG_SPAN, 20, 100), (Reg.EST_LRNCFG_W, 1, 100),
    (Reg.EST_LRNCFG_WGAP, 0, 100), (Reg.EST_LIMV_VMAX, 0, 5000), (Reg.EST_LIMV_VMIN, 0, 5000), (Reg.EST_JCFG_PERIOD, 10, 3600)]

/-- The bank that TBLSEL selects breaks R157. -/
def State.bankBad (w : State) : Bool :=
  let t := fun (i : Nat) => w.estWord (w.get Reg.EST_TBLSEL_BANK) i
  let inR := fun (base lo hi : Nat) => (List.range 88).all fun p => decide (lo ≤ t (base + p) ∧ t (base + p) ≤ hi)
  let used := fun (i : Nat) => decide (i < 0xA8 ∨ 0xC0 ≤ i ∧ i < 0xD5) ||
    [0x100, 0x180, 0x200, 0x280, 0x300].any fun b => decide (b ≤ i ∧ i < b + 88)
  !((List.range 160).all (fun p => decide (t p < t (p + 8))) && (List.range 168).all (fun p => decide (t p ≤ 5000000)) &&
    inR 0x100 1 1000000 && inR 0x180 1 1000000 && inR 0x280 1 1000000 && inR 0x200 10 100000 && inR 0x300 1000 10000000 &&
    (List.range 88).all (fun p => decide (t (0x200 + p) < t (0x300 + p))) &&
    (List.range 21).all (fun p => decide (-2000 ≤ signed 32 (t (0xC0 + p)) ∧ signed 32 (t (0xC0 + p)) ≤ 2000)) &&
    (List.range 1024).all (fun i => used i || t i == 0))

/-- Check 8 (R157), on the lead, where the estimator runs. -/
def State.estimatorBad (w : State) : Option Nat :=
  if !w.isLead then none
  else
    let g := fun (f : Fld) => w.get f
    failAt ((estRanges.map fun x => (decide (g x.1 < x.2.1 ∨ x.2.2 < g x.1), x.1.addr)) ++
      [(decide (g Reg.EST_LIMV_VMAX ≤ g Reg.EST_LIMV_VMIN), Reg.EST_LIMV),
        (g Reg.EST_EOCI_IHIGH != 0 && decide (g Reg.EST_EOCI_IHIGH < g Reg.EST_EOCI_ILOW), Reg.EST_EOCI),
        (g Reg.EST_EOCI_IHIGH != 0 && decide (g Reg.EST_EOCV_VHI < g Reg.EST_EOCV_VLO), Reg.EST_EOCV),
        (g Reg.EST_EOCI_IHIGH != 0 && decide (g Reg.EST_EOCV_VLO ≤ g Reg.EST_EOCT_VRE), Reg.EST_EOCT),
        (g Reg.EST_EODI_IHIGH != 0 && decide (g Reg.EST_EODI_IHIGH < g Reg.EST_EODI_ILOW), Reg.EST_EODI),
        (g Reg.EST_EODI_IHIGH != 0 && decide (g Reg.EST_EODV_VHI < g Reg.EST_EODV_VLO), Reg.EST_EODV),
        (g Reg.EST_EODI_IHIGH != 0 && decide (g Reg.EST_EODT_VRE ≤ g Reg.EST_EODV_VHI), Reg.EST_EODT),
        (w.bankBad, Reg.EST_TBLSEL)])

/-- Check 9: every Ticket expectation lies in 1 ms to 1,000 ms. -/
def State.expectationBad (w : State) : Option Nat :=
  failAt ((List.range 32).map fun n =>
    (decide (w.get (Reg.TKT_TIM_EXP.at n) < 1 ∨ 1000 < w.get (Reg.TKT_TIM_EXP.at n)), Reg.TKT_TIM + 16 * n))

/-- Check 10: at most eight frequencies, each 0.1 Hz to 5 kHz, above 2 kHz only with Fast mode after the commit (R177). -/
def State.planBad (w : State) (fast : Bool) : Option Nat :=
  failAt ((decide (8 < w.get Reg.EIS_PLAN_NFREQ), Reg.EIS_PLAN) ::
    (List.range w.eisPoints).map fun p =>
      let f := w.eisFreq p
      (decide (f < 1 / 10 ∨ 5000 < f) || (!fast && decide (2000 < f)), Reg.EIS_FREQ + 4 * p))

/-- The image that TT.IMGSEL selects is valid. -/
def State.selectedImage (w : State) : Option Image :=
  let b := w.get Reg.TT_IMGSEL_BUF
  if w.loadState b = 2 then w.bufImage b else none

/-- Check 13: the region that each staged BANKSEL selects reads verified, and a change of `CPA.BANKSEL` finds no role in
transition, no reaction active and no Pair B update pending (R67, R329). -/
def State.banksBad (s w : State) (mask : Nat) : Option Nat :=
  let r := fun (i : Nat) => 2 * w.get (Reg.CP_BANKSEL_BANK.at i) + i
  let verified := fun (i : Nat) => s.get (regstatField (r i)) == 2
  let moves := fun (i : Nat) => w.get (Reg.CP_BANKSEL_BANK.at i) != s.get (Reg.CP_BANKSEL_BANK.at i)
  let still := (s.dstate == 0 || s.dstate == 6) && (s.cstate == 0 || s.cstate == 6)
  failAt [(mask.testBit 19 && !verified 0, (Reg.CP_BANKSEL_BANK.at 0).addr),
    (mask.testBit 20 && !verified 1, (Reg.CP_BANKSEL_BANK.at 1).addr),
    (moves 0 && (!still || s.get Reg.SAF_RSTAT_LATCH != 0 || s.flag (Reg.CP_STAT_PIN.at 1) || moves 1),
      (Reg.CP_BANKSEL_BANK.at 0).addr)]

/-- Check 14: the target exists, no masked page is locked, some pages are committed at POINT 0 only, a cascade commit is one
of POINT 0 (R64), and a local commit does not change the mode (R64). -/
def State.targetBad (s w : State) (mask point : Nat) (cascade : Bool) : Option Nat :=
  let exists_ := point == 0 || (match s.activeImage, s.tt.sched with
    | some m, some r => (m.sched r).any fun e => e.2.typ == 13 && e.2.target == point
    | _, _ => false)
  failAt ((!exists_ || (cascade && point != 0), Reg.STG_CMD) ::
    (List.range 32).map (fun p => (mask.testBit p && (s.word (pageBase p + 0x20)).getLsbD 0, pageBase p + 0x20)) ++
    (List.range 32).map (fun p => (mask.testBit p && point != 0 && pointZeroOnly p, pageBase p)) ++
    [(!cascade && w.flag Reg.TT_SCHED_RUNMODE != s.flag Reg.TT_SCHED_RUNMODE, Reg.TT_SCHED)])

/-- The first check that fails, with the address of the failing word (Table 2.8). `fast` and `setid` are the mode in force
and the lead's SETID after the commit; a device that knows no SETID of the lead passes `none`. -/
def State.firstFailure (s : State) (mask point : Nat) (cascade fast : Bool) (setid : Option Nat) : Option (Nat × Nat) :=
  let w := s.withStaged mask
  let img := w.selectedImage
  let checks : List (Nat × Option Nat) :=
    [(1, failAt ((s.maskedWords mask).map fun a => (s.word (a + 0x800) &&& reservedBits a != 0, a))),
      (1, w.refusedValue mask), (2, w.copiesDiffer),
      (3, failAt [(decide (w.get Reg.SAF_CWOV_SET < w.get Reg.SAF_CWUV_SET + 100000) && w.populated != 0, Reg.SAF_CWOV)]),
      (4, w.hysteresisBad), (5, w.populationBad), (6, w.balancingBad), (7, w.rolesBad), (8, w.estimatorBad),
      (9, w.expectationBad), (10, w.planBad fast), (11, failAt [(fast && !hasSched img 1, Reg.TT_SCHED)]),
      (12, failAt [(img.isNone || (match setid, img with
        | some i, some m => m.setid != i
        | _, _ => false), Reg.TT_IMGSEL)]),
      (13, s.banksBad w mask), (14, s.targetBad w mask point cascade)]
  (checks.find? (·.2.isSome)).map fun c => (c.1, c.2.getD 0)

/-- The word `STG.FAIL` for a failed check of this device (Table 2.13): the staged copy where the page is masked. -/
def State.failWord (s : State) (mask : Nat) (f : Nat × Nat) : Nat :=
  let off := f.2 % 0x1000 + if mask.testBit (pageOf f.2) && (stagedOf (f.2 + 0x800)).isSome then 0x800 else 0
  f.1 + off / 4 % 1024 * 64 + pageOf f.2 * 65536 + s.devNum * 2 ^ 24

/-! ### The commit (R45, R63) -/

/-- The device is no longer the anchor: its isolation run ends as incomplete with no new request, and its comparators go off
(R101, assumption 112). -/
def State.anchorOff (s : State) : State := (if s.isoRunning then s.isoIncomplete false else s).ocOff

/-- Everything that follows committed words in the commit tick: the selected image, the masks, the role map, a bank change,
the digest, the connections and the port. -/
def State.commitEffects (s old : State) (mask : Nat) : State :=
  let s : State := if mask.testBit 4 then
      let b := s.get Reg.TT_IMGSEL_BUF
      if s.loadState b = 2 then
        -- entries of another image start with no overrun counted (R55, R56)
        let tt := if s.tt.active = some b then s.tt else { s.tt with overruns := [], accelOver := [], accelAt := [] }
        ({ s with tt := { tt with active := some b } }).put Reg.TT_SETID_SETID (((s.bufImage b).map (fun m : Image => m.setid)).getD 0)
      else s
    else s
  let s := if s.isAnchor && s.get Reg.HVM_ACFG_ANCHOR == 0 then s.anchorOff else s
  let s := (s.put Reg.NVM_PGMWE_WE 0).put Reg.SYS_PROFSTAT_ANCHOR (s.get Reg.HVM_ACFG_ANCHOR)
  let swap := fun (s : State) (p : Pair) =>
    let was := old.get (Reg.CP_BANKSEL_BANK.at p.idx)
    let new := s.get (Reg.CP_BANKSEL_BANK.at p.idx)
    if was = new then s else s.beginSwap p was new
  let s := swap (swap s .a) .b
  let s := if mask.testBit 9 then s.dropUnused.coverage else s
  let s := s.mapSync.remask
  let s := if mask.testBit 27 then s.hostShow else s
  let s := if mask.testBit 26 then s.tktRebind else s
  s.showDigest.settle.protect

/-- The commit (R63): all staged words of the masked pages become active in one tick. -/
def State.stgCommit (s : State) : State :=
  let mask := s.stg.mask
  let digests := s.stg.digests
  let lead := s.isLead && s.stg.cascade
  let old := s
  let s := s.withStaged mask
  let s := (List.range 32).foldl (fun s p => if mask.testBit p then (s.put (stgField p) 0).putB (xmisField p) false else s) s
  let s := ((s.stgEnd 4).put Reg.STG_CTICK_TICK s.tick32).raise Ev.STG_COMMITTED
  let s : State := if lead then { s with csc := { s.csc with expect := digests.foldl (fun m e => nset e.1 e.2 m) s.csc.expect } } else s
  let s : State := if !s.isLead ∧ !old.stg.remote then { s with csc := { s.csc with localDone := true } } else s
  let s : State := if old.stg.remote then { s with csc := { s.csc with leadSet := some old.stg.setid } } else s
  let s := if old.stg.cascade then s.eisAbort.eisExc else s
  s.commitEffects old mask

/-! ### Arming (R61) -/

/-- The pages of a mask that have RWS fields, the STG page aside. -/
def State.stgPages (s : State) (mask : Nat) : Nat :=
  bitsOf ((List.range 32).map fun p => mask.testBit p && p != 5 && hasStaged p && s.pageOn p)

/-- A commit becomes pending. -/
def State.stgBegin (s : State) (mask point : Nat) (cascade remote : Bool) : State :=
  let s : State := { s with stg := { digests := s.stg.digests, armed := true, mask, point, armedAt := s.now, cascade, remote } }
  ((s.stageMask mask 2).put Reg.STG_STAT_STATE 1).putB Reg.STG_STAT_CASCADE cascade

/-- The mode and the SETID that the lead has after the pending commit, as its arm tells the followers. -/
def State.afterCommit (s : State) (mask : Nat) : Bool × Nat :=
  let w := s.withStaged mask
  (w.flag Reg.TT_SCHED_RUNMODE, (w.selectedImage.map (fun m : Image => m.setid)).getD 0)

/-- A write of `STG.CMD` with ARM = 1. -/
def State.stgArm (s : State) (ini : Ini) (point : Nat) (cascade : Bool) : State :=
  if cascade ∧ ¬ s.isLead then s.accessFault ini true Reg.STG_CMD
  else if s.stg.armed then s.raise Ev.STG_BUSY
  else
    let mask := s.stgPages (s.get Reg.STG_MASK_PAGES)
    let s := s.stgBegin mask (point % 16) cascade false
    if cascade then
      let a := s.afterCommit mask
      (List.range 8).foldl (fun s d => if s.enumerated.testBit d then s.send .arm d mask (a.1.toNat + 2 * a.2) else s) s
    else s

/-- STG_ARM (R61). -/
def execStgArm (ini : Ini) (point : Nat) (cascade : Bool) (s : State) : Result := .next (s.stgArm ini point cascade)

/-- STG_DISARM (R61). -/
def execStgDisarm (_ini : Ini) (s : State) : Result := .next s.stgCancel

/-- A full write of `STG.CMD`: ARM with DISARM, or CASCADE on a follower, has no effect (R61). -/
def State.stgCmd (s : State) (ini : Ini) (val : Word) : State :=
  if (val.getLsbD 0 ∧ val.getLsbD 1) ∨ (val.getLsbD 8 ∧ ¬ s.isLead) then s.accessFault ini true Reg.STG_CMD
  else if val.getLsbD 1 then s.stgCancel
  else if val.getLsbD 0 then s.stgArm ini (Reg.STG_CMD_POINT.extract val) (val.getLsbD 8)
  else s

/-! ### The outcome of the check -/

/-- The commit is rejected (Table 2.7): a failure applies nothing. The lead disarms the followers (R64). -/
def State.stgReject (s : State) (fail : Nat) : State :=
  let s := s.setWord Reg.STG_FAIL (BitVec.ofNat 32 fail)
  let s := if s.isLead ∧ s.stg.cascade then s.send .disarm 8 s.stg.mask 0 else s
  ((s.stageMask s.stg.mask 1).stgEnd 3).raise Ev.STG_REJECT

/-- The check has passed. -/
def State.stgPass (s : State) : State :=
  let s : State := { s with stg := { s.stg with passed := true } }
  ((s.stageMask s.stg.mask 3).put Reg.STG_STAT_STATE 2).setWord Reg.STG_FAIL 0

/-- The lead's SETID as a device knows it for a local commit: its own on a lead and on a device without a lead. A follower
compares with the one that the lead's last committed arm told it; before any, the manual names no way in which it has one, and
whether it equals is free (assumption 95). -/
def State.leadSetid (s : State) (w : State) : Option Nat :=
  if s.isLead ∨ ¬ s.flag Reg.CSC_STAT_ENUM then none
  else match s.csc.leadSet with
    | some i => some i
    | none => if s.freeB then none else some ((w.selectedImage.map (fun m : Image => m.setid)).getD 0 + 1)

/-- End the device's own check of a commit it armed itself (R62, R63). -/
def State.stgCheck (s : State) : State :=
  if s.stg.armed ∧ ¬ s.stg.remote ∧ s.get Reg.STG_STAT_STATE = 1 then
    let mask := s.stg.mask
    let w := s.withStaged mask
    let fast := if s.isLead then w.flag Reg.TT_SCHED_RUNMODE else s.fast
    let id := s.leadSetid w
    let fail := s.firstFailure mask s.stg.point s.stg.cascade fast id
    let s := if s.isLead then s else s.nextFree
    match fail with
    | some f => s.stgReject (s.failWord mask f)
    | none => s.stgPass
  else s

/-- CONSISTENCY_CHECK_DONE (R62): within 30,000 ticks of the ARM. -/
def execConsistencyCheckDone (s : State) : Result := .next s.stgCheck

/-- A pending local commit is due: its check has passed and 30,000 ticks have gone by since the ARM (R61). -/
def State.stgDue (s : State) (point : Nat) : Bool :=
  s.stg.armed && !s.stg.cascade && s.stg.passed && s.stg.point == point && decide (s.stg.armedAt + 30000 ≤ s.now)

/-- A check that has not been reported by its limit ends now. -/
def State.stgOverdue (s : State) : State := if s.stg.armedAt + 30000 ≤ s.now then s.stgCheck else s

/-- COMMIT_POINT_REACHED (R61): the slot of the COMMIT entry begins. -/
def execCommitPointReached (point : Nat) (s : State) : Result :=
  match s.activeImage, s.tt.sched with
  | some m, some r =>
    match (m.sched r).find? fun e =>
        e.2.typ == 13 && e.2.target == point && decide (s.now ≤ s.fstart + 1000 * e.2.slot) with
    | some e =>
      if s.alive && !s.sleeping && point != 0 then
        let s := (s.advanceTo (s.fstart + 1000 * e.2.slot)).stgOverdue
        .next (if s.stgDue point then s.stgCommit else s)
      else .next s
    | none => .next s
  | _, _ => .next s

/-! ### The cascade commit (R64) -/

/-- CASCADE_ARM_RECEIVED (R64): the follower checks its staged state and reports with its digest after the commit. `fast` and
`setid` are the mode and the lead's SETID after the commit. -/
def execCascadeArmReceived (mask : Nat) (fast : Bool) (setid : Nat) (s : State) : Result :=
  if s.isLead ∨ ¬ s.alive then .next s
  else if s.stg.armed then .next (s.raise Ev.STG_BUSY)
  else
    let mask := s.stgPages mask
    let s := s.stgBegin mask 0 true true
    let w := (s.withStaged mask)
    let w := if mask.testBit 4 then
        w.put Reg.TT_SETID_SETID ((w.selectedImage.map (fun m : Image => m.setid)).getD (s.get Reg.TT_SETID_SETID))
      else w
    let s : State := { s with stg := { s.stg with setid } }
    match s.firstFailure mask 0 true fast (some setid) with
    | some f =>
      let word := s.failWord mask f
      .next ((s.stgReject word).send .report 0 word w.digest)
    | none => .next (s.stgPass.send .report 0 0 w.digest)

/-- CHECK_REPORT_RECEIVED (R64): `fail` is the follower's `STG.FAIL`, 0 for a pass. -/
def execCheckReportReceived (dev : Nat) (fail : Word) (digest : Nat) (s : State) : Result :=
  if s.isLead ∧ s.stg.armed ∧ s.stg.cascade ∧ s.enumerated.testBit dev then
    if fail = 0 then
      .next { s with stg := { s.stg with
        reports := bitTo s.stg.reports dev true, digests := nset dev (digest + 1) s.stg.digests } }
    else .next (s.stgReject (Reg.STG_FAIL_DEV.insert fail dev).toNat)
  else .next s

/-- CASCADE_REPORT_DEADLINE (R63, R64): tick B − 100,000. Every enumerated follower must have reported; reports that arrive later
are late for B. For CHECK 15 `STG.FAIL.DEV` holds the lead's own number (DESIGN CHOICE, assumption 96). -/
def execCascadeReportDeadline (s : State) : Result :=
  if s.isLead ∧ s.alive ∧ s.stg.armed ∧ s.stg.cascade ∧ ¬ s.stg.flag ∧ s.stg.armedAt < s.fstart + 900000 ∧
      s.now ≤ s.fstart + 900000 then
    let s := (s.advanceTo (s.fstart + 900000)).stgOverdue
    if ¬ s.stg.armed then .next s
    else if s.stg.passed ∧ s.enumerated &&& s.stg.reports = s.enumerated then
      .next { s with stg := { s.stg with flag := true } }
    else
      let s := (s.put Reg.STG_STAT_SLIPS (s.get Reg.STG_STAT_SLIPS + 1)).raise Ev.STG_SLIP
      .next (if 4 ≤ s.get Reg.STG_STAT_SLIPS then s.stgReject (15 + s.devNum * 2 ^ 24) else s)
  else .next s

/-- CASCADE_DISARM_RECEIVED (R64). -/
def execCascadeDisarmReceived (s : State) : Result := .next s.dropRemote

/-- CASCADE_ARM_TIMEOUT (R64): eight boundaries after the report. -/
def execCascadeArmTimeout (s : State) : Result := .next (if 8 ≤ s.stg.waited then s.dropRemote else s)

/-- The commit of a boundary (R43 step 1): a local one that is due, or a cascade commit whose flag the marker of this
boundary carries. A follower counts the boundaries that pass without. -/
def State.boundaryCommit (s : State) : State :=
  let s := s.stgOverdue
  if s.stgDue 0 then s.stgCommit
  else if s.stg.armed && s.stg.cascade && s.stg.flag && s.stg.passed then s.stgCommit
  else if s.stg.remote then { s with stg := { s.stg with waited := s.stg.waited + 1 } }
  else s

end Sys2Proof.Machine
end

