-- ==== Sys2Proof/Machine/Power.lean ====
section
/-!
DEFINITION. Supply, clocks, resets, boot and watchdogs (R393 to R417, R328, R211, R212, R41): what each kind of reset
keeps, the pause and the brown-out warning, the boot sequence, and the commands of the PWR, CLK and RST pages.
-/
namespace Sys2Proof.Machine

/-! ### Device resets (R406, Table 18.5) -/

/-- The register words that every device reset keeps: the LHM page but `HREQ` and its events (R269, R270), channel state
(R268) and shedding, which goes on in reset (R261, R265), OTP content (R326), openings under load (R249), and what the hold-up monitor shows (R397). -/
def keptReg (a : Nat) : Bool :=
  [Reg.LHM_STAT, Reg.LHM_LOCK, Reg.LHM_ASSIGN, Reg.LHM_ASSIGN + 4, Reg.LHM_ASSIGN + 8, Reg.LHM_ASSIGN + 12,
   Reg.LHM_STRAP, Reg.LHM_LAST, Reg.OUT_COND, Reg.OUT_SHED, Reg.NVM_SVN, Reg.NVM_KEYREV, Reg.NVM_SECCFG, Reg.PWR_VBAT,
   Reg.PWR_VHOLD, Reg.PWR_HOLDE].contains a ||
    (decide (Reg.OUT_CHSTAT ≤ a) && decide (a < Reg.OUT_CHSTAT + 64)) ||
    (decide (Reg.CTS_LOADOPN ≤ a) && decide (a < Reg.CTS_LOADOPN + 24))

/-- The kinds of reset through which the core supply stays up: nRST, watchdog, die hard stop. -/
def supplyKept (code : Nat) : Bool := code == 2 || code == 7 || code == 8

/-- The registers and the hidden state after a reset: what Table 18.5 and the rules named there keep, the rest at its
reset value. The black box keeps its rings until the release, so that a freeze copy can go on (R399). -/
def State.wiped (s : State) (code : Nat) : State :=
  let keepBbx := fun (a : Nat) => keptReg a || pageOf a == 29
  let copies := code == 3 || code == 4
  let sup := supplyKept code
  { full := s.full, leadStrap := s.leadStrap, now := s.now, tick := s.tick, frame := 0, fstart := s.now,
    regs := s.regs.filter fun p => keepBbx p.1, mem := s.mem, freeCtr := s.freeCtr, ret := s.ret,
    bbx := if copies then s.bbx else { count := s.bbx.count },
    power := { s.power with
      phase := .inReset, code, resetAt := s.now, holdAt := none, keyA := false, keyB := false, lowSince := none,
      waking := false, pll := true, pllOn := false, stage := 0, stage3At := 0,
      port := if copies && s.power.port == 3 then 3 else 0,
      okAt := none, pauseAt := if sup then s.power.pauseAt else none, backAt := if sup then s.power.backAt else none,
      warnAt := if sup then s.power.warnAt else none }
    lhm := { s.lhm with hreq := 0 },
    out := { ch := s.out.ch, crank := s.out.crank, diagFrom := s.out.diagFrom, shedAt := s.out.shedAt, hot := s.out.hot },
    nvm := { key := s.nvm.key }, eis := { ref := s.eis.ref }, jtag := s.jtag, pending := s.pending }

/-- `CUR` and `LASTFLT` of every channel go to their reset values; the state of the channel stays (Tables 11.4, 11.8). -/
def State.chstatReset (s : State) : State :=
  (List.range 16).foldl (fun s i =>
    (s.put (Reg.OUT_CHSTAT_CUR.at i) 0).put (Reg.OUT_CHSTAT_LASTFLT.at i) 0) s

/-- A device reset with a code (R406): the first cause is recorded. Safety Net takes control first, so that a channel it drives
stays on without interruption (R269), and every other channel turns off (Table 11.4); the writes of a brown-out warning are
completed under the energy rule (R399 step 3). -/
def State.deviceReset (s : State) (code : Nat) : State :=
  if !s.alive then s
  else
    let s := if code = 3 ∨ code = 4 then (s.journalDone.journalStart).journalDone else s
    let s := s.abortTest
    let s : State := { s with power := { s.power with phase := .inReset } }.put Reg.SYS_PROFSTAT_PROF 0
    let s := (s.snBegin 1 true).allOff
    let s := if code = 5 then s.putBit Reg.LHM_STAT_CAUSE 2 true else s
    (s.wiped code).chstatReset

/-! ### VBAT (R394 to R399) -/

/-- Measurement stops for a pause: the transformer stops, the open-wire test, the isolation run and the impedance point
end as incomplete (R395 steps 1 to 4). -/
def State.pauseMeasurement (s : State) : State :=
  let s : State := { s with cm := { s.cm with running := false, paused := true, warm := false } }
  (s.owAbort.endIso.eisAbort).openSwitches

/-- VBAT_PAUSE (R395): in the tick at which filtered VBAT falls below 4.5 V. In reset only the channels see it (R264). -/
def execVbatPause (s : State) : Result :=
  if s.power.pauseAt.isSome ∧ s.power.backAt.isNone then .next s
  else if !s.alive then .next s.crankBegin
  else
    let s : State := { s with power := { s.power with
      pauseAt := some (s.power.pauseAt.getD s.now), backAt := none, lowSince := none } }
    let s := ((s.put Reg.PWR_STAT_STATE 1).raise Ev.PWR_PAUSE).incSat Reg.PWR_COUNT_PAUSES
    .next ((s.pauseMeasurement.pmpSettle).crankBegin)

/-- VBAT_PAUSE_RETURN (R395, R264): VBAT is back at or above 4.5 V; measurement waits for its boundary. -/
def execVbatPauseReturn (s : State) : Result :=
  if !s.alive then
    .next ({ s with power := { s.power with pauseAt := none, backAt := none, okAt := some s.now } }).crankEnd
  else
    match s.power.pauseAt with
    | none => .next s.crankEnd
    | some t =>
      if s.power.backAt.isSome ∨ s.power.warnAt.isSome then .next s
      else
        let s : State := { s with power := { s.power with backAt := some s.now } }
        let s := (s.put Reg.PWR_STAT_STATE 0).putSat Reg.PWR_PAUSELAST_MS ((s.now - t) / 100000)
        .next s.crankEnd

/-- PMAX in ticks (R396, R460). -/
def State.pauseMax (s : State) : Nat := 100000 * clampN 10 1000 (s.get Reg.PWR_PAUSECFG_PMAX)

/-- PAUSE_LIMIT (R396): a pause that has lasted PMAX raises BARRIER_FAULT. -/
def execPauseLimit (s : State) : Result :=
  match s.power.pauseAt with
  | some t =>
    if s.alive ∧ s.power.backAt.isNone then .next ((s.advanceTo (t + s.pauseMax)).barrierFault true) else .next s
  | none => .next s

/-- The pause ends at a boundary at least 200,000 ticks after VBAT has returned (R395, R396). -/
def State.pauseResume (s : State) : State :=
  match s.power.backAt with
  | some t =>
    if t + 200000 ≤ s.now then
      let s : State := { s with
        power := { s.power with pauseAt := none, backAt := none },
        cm := { s.cm with
          running := true, badRun := 0, pauseFault := false,
          barrier := s.cm.barrier && !s.cm.pauseFault,
          barrierEnd := if s.cm.barrier && s.cm.pauseFault then s.now else s.cm.barrierEnd } }
      (s.raise Ev.PWR_RESUME).cellStat
    else s
  | none => s

/-- BROWNOUT_WARNING (R398, R389): below 3.0 V. The pause, if not yet entered, is entered first. -/
def execBrownoutWarning (s : State) : Result :=
  if s.power.warnAt.isSome then .next s
  else if !s.alive then .next s.crankBegin
  else
    let s := match execVbatPause s with
      | .next t => t
      | _ => s
    let s : State := { s with power := { s.power with warnAt := some s.now } }
    let s := ((s.put Reg.PWR_STAT_STATE 2).raise Ev.PWR_BOW).incSat Reg.PWR_COUNT_BOWS
    let s := s.saveTick true
    if s.sleeping then .next s
    else
      let s : State := if s.isLead then { s with est := { s.est with jPend := true } } else s
      .next (s.freeze 3 0)

/-- BROWNOUT_WARNING_END (R398): VBAT is back at or above 3.0 V before a brown-out; the pause goes on. -/
def execBrownoutWarningEnd (s : State) : Result :=
  if s.alive ∧ s.power.warnAt.isSome then
    let s : State := { s with power := { s.power with warnAt := none }, ret := { s.ret with warned := false } }
    .next ((s.put Reg.PWR_STAT_STATE 1).raise Ev.PWR_BOW_END)
  else .next s

/-- BROWNOUT_TIMEOUT (R399): the warning has lasted 200,000 ticks. -/
def execBrownoutTimeout (s : State) : Result :=
  match s.power.warnAt with
  | some t => if s.alive then .next ((s.advanceTo (t + 200000)).deviceReset 3) else .next s
  | none => .next s

/-- HOLDUP_EXHAUSTED (R399): HOLDE has fallen below 50 µJ in the warning. -/
def execHoldupExhausted (s : State) : Result :=
  if s.alive ∧ s.power.warnAt.isSome ∧ s.get Reg.PWR_HOLDE_UJ < 50 then .next (s.deviceReset 4) else .next s

/-- VBAT_OVERVOLTAGE (R394): the third comparator, set at or above 52 V and clear below 50 V. -/
def execVbatOvervoltage (vbatMV : Nat) (s : State) : Result :=
  if 52000 ≤ vbatMV then .next ((s.putB Reg.PWR_STAT_OVERV true).raise Ev.PWR_OVERVOLT)
  else if vbatMV < 50000 then .next (s.putB Reg.PWR_STAT_OVERV false)
  else .next s

/-- ALWAYS_ON_LOSS (R264, R394): below 2.5 V every channel turns off, Safety Net ends, and the reset code is lost. VBAT is below
4.5 V until VBAT_PAUSE_RETURN says otherwise. -/
def execAlwaysOnLoss (s : State) : Result :=
  let s := match execBrownoutTimeout s with
    | .next t => t
    | _ => s
  let s := s.deviceReset 0
  let s := ((s.putB Reg.LHM_STAT_ACTIVE false).put Reg.LHM_STAT_CAUSE 0).put Reg.OUT_CMD_ON 0
  let s := (List.range 16).foldl (fun s i => if s.hasChan i then (s.stopChan i).setWord (Reg.OUT_CHSTAT + 4 * i) 0 else s) s
  .next { s.setWord Reg.OUT_SHED 0 with
    power := { vbatLost := true, code := 0, phase := .inReset, resetAt := s.now },
    lhm := {}, out := { crank := true }, bbx := {} }

/-! ### Hold-up (R397) -/

/-- E = ½ · CAP · (VHOLD² − (4.0 V)²) in µJ, 0 at or below 4.0 V. -/
def holdEnergy (capUF mv : Nat) : Nat :=
  if mv ≤ 4000 then 0 else (roundDiv ((capUF * (mv * mv - 16000000) : Nat) : Int) 2000000).toNat

/-- HOLDUP_MEASURE (R397): VHOLD in mV and, every 1 ms, VBAT in mV and the always-on frequency in Hz. A boot record that
waited for energy is written (R325). -/
def execHoldupMeasure (vholdMV : Nat) (slow : Option (Nat × Nat)) (s : State) : Result :=
  let e := holdEnergy (clampN 10 1000 (s.get Reg.PWR_HOLDCFG_CAP)) vholdMV
  let ok := decide (1200 ≤ e)
  let s := ((s.putSat Reg.PWR_VHOLD_MV vholdMV).putSat Reg.PWR_HOLDE_UJ e).putB Reg.PWR_STAT_HOLDOK ok
  let s := match slow with
    | some (vbat, hz) => (s.putSat Reg.PWR_VBAT_MV vbat).put Reg.CLK_AOFREQ_HZ hz
    | none => s
  let low : Option Nat := if ok ∨ s.get Reg.PWR_STAT_STATE ≠ 0 then none else some (s.power.lowSince.getD s.now)
  let s : State := { s with power := { s.power with lowSince := low } }
  match s.nvm.bootDue with
  | some (a, b) => .next (if s.alive then s.writeBoot a b else s)
  | none => .next s

/-- HOLDUP_FAULT (R397): HOLDE below 1,200 µJ for 1 s in state Normal. -/
def execHoldupFault (s : State) : Result :=
  match s.power.lowSince with
  | some t =>
    if s.alive then
      let s := s.advanceTo (t + 100000000)
      if s.flag Reg.PWR_STAT_HOLDFLT then .next s
      else .next ((s.putB Reg.PWR_STAT_HOLDFLT true).raise Ev.PWR_HOLD_FAULT)
    else .next s
  | none => .next s

/-! ### Rails and clocks (R400 to R405) -/

/-- CORE_SUPPLY_FAILURE (R400): the control die enters reset at once with code 0x05. -/
def execCoreSupplyFailure (s : State) : Result :=
  if s.sleeping then .next s
  else
    let s : State := { s with power := { s.power with coreFail := true } }
    let t := s.deviceReset 5
    .next (if t.alive then t else t.putBit Reg.LHM_STAT_CAUSE 2 true)

/-- CORE_SUPPLY_RETURN (R400): every rail is within its window again, and the 1 ms count to release starts. -/
def execCoreSupplyReturn (s : State) : Result :=
  .next { s with power := { s.power with coreFail := false, okAt := some (max s.now (s.power.okAt.getD 0)) } }

/-- CLOCK_FAILURE (R403): the clock monitor runs while the PLL runs; reset with code 0x06. -/
def execClockFailure (s : State) : Result :=
  if s.power.pll ∧ s.alive then
    .next ({ s with power := { s.power with clockFail := true } }.deviceReset 6)
  else .next s

/-- CRYSTAL_RECOVERED (R403): the crystal passes the first two checks again, and the 1 ms count to release starts. -/
def execCrystalRecovered (s : State) : Result :=
  .next { s with power := { s.power with clockFail := false, okAt := some (max s.now (s.power.okAt.getD 0)) } }

/-- The frame in progress is the last one before a watch frame (R405). -/
def State.beforeWatchFrame (s : State) : Bool := s.watching && s.tt.watchN == 99

/-- PLL_RESTART (R405): at B − 300,000 before a watch-frame boundary B. -/
def execPllRestart (s : State) : Result :=
  if s.beforeWatchFrame && !s.power.pll && !s.power.pllOn then
    let s := s.advanceTo (s.fstart + 700000)
    .next { s with power := { s.power with pllOn := true } }
  else .next s

/-- PLL_LOCKED (R405): TICK changes source without losing or repeating a tick. -/
def execPllLocked (s : State) : Result :=
  if s.power.pllOn then
    let s : State := { s with power := { s.power with pllOn := false, pll := true } }
    .next (s.putB Reg.CLK_STAT_PLLLOCK true)
  else .next s

/-- MEAS_DIE_WARMUP (R81): at B − 200,000 before a watch-frame boundary B. -/
def execMeasDieWarmup (s : State) : Result :=
  if s.beforeWatchFrame && s.power.pauseAt.isNone then
    let s := s.advanceTo (s.fstart + 800000)
    .next { s with cm := { s.cm with warm := true } }
  else .next s

/-- SLEEP_EXIT_RESUME (R41, R405): crystal and PLL are up; the pairs resume from their checkpoints, and Run starts with a
frame boundary in this tick (assumption 20). -/
def execSleepExitResume (s : State) : Result :=
  if s.sleeping && s.alive && s.power.waking then
    let s : State := { s with
      power := { s.power with waking := false, pll := true, pllOn := false },
      frame := (s.frame + 1) % 2 ^ 32, fstart := s.now,
      cm := { s.cm with running := s.power.pauseAt.isNone, badRun := 0 } }
    let s := ((s.putB Reg.CLK_STAT_XTALOK true).putB Reg.CLK_STAT_PLLLOCK true).put Reg.SYS_PROFREQ_REQ 0
    let s := (s.put Reg.SYS_PROFSTAT_PROF 0).raise Ev.PROFILE_CHANGED
    -- Safety Net channels follow their inputs, and the matrix serves what was kept pending (Tables 11.4, 12.1)
    let s := (s.put Reg.TMB_SRC_SOURCE 0).refreshChannels.matrixRun
    let s := (s.restorePair .a).restorePair .b
    let s := (List.range 4).foldl (fun s ch => s.canResume ch) s
    .next ((s.estProfile false true).tktResume.settle.hostShow)
  else .next s

/-! ### nRST and release (R407, R412) -/

/-- NRST_ASSERT (R407). -/
def execNrstAssert (s : State) : Result :=
  let s := s.deviceReset 2
  .next { s with power := { s.power with nrstLow := true, nrstAt := some (s.power.nrstAt.getD s.now) } }

/-- NRST_RELEASE (R407): the always-on counter keeps the length of the hold. -/
def execNrstRelease (s : State) : Result :=
  match s.power.nrstAt with
  | some t => .next { s with power := { s.power with
      nrstLow := false, nrstAt := none, nrstNew := true, nrstMs := (s.now - t) / 100000 } }
  | none => .next s

/-- POWER_ON (R406, R270, R271): VBAT is applied after the always-on domain had lost its supply; LHCFG is read: code 7 is
open, anything that Table 11.5 does not recognise is code 0. -/
def execPowerOn (lhcfg : Nat) (s : State) : Result :=
  if !s.alive && s.power.vbatLost then
    let s := ((s.setWord Reg.LHM_LOCK 0).setWord Reg.LHM_STAT 0).setWord Reg.LHM_LAST 0
    let s := (List.range 4).foldl (fun s x => s.setWord (Reg.LHM_ASSIGN + 4 * x) (resetWord (Reg.LHM_ASSIGN + 4 * x))) s
    let code := if lhcfg ≤ 7 then lhcfg else 0
    let s := (s.setWord Reg.LHM_STRAP 0).put Reg.LHM_STRAP_CODE code
    let s : State := { s with power := { s.power with code := 1, strapFault := code == 0, resetAt := s.now } }
    .next (s.snBegin 1 true)
  else .next s

/-- THERMAL_RESTART (R212): the always-on comparator sees the die below 125 °C. -/
def execThermalRestart (s : State) : Result := .next { s with power := { s.power with hot := false } }

/-- Nothing that the model sees holds the device in reset, and the reset has a code; after a power-on or a brown-out of VBAT or a
core supply, VBAT is at or above 4.5 V (Table 18.5). -/
def State.mayRelease (s : State) : Bool :=
  !s.power.nrstLow && !s.power.coreFail && !s.power.clockFail && !s.power.hot && s.power.code != 0 &&
    !([1, 3, 4, 5].contains s.power.code && s.out.crank)

/-- The tick of the release: 1 ms after what the reset waits for has come about (Table 18.5). -/
def State.releaseTick (s : State) : Nat :=
  match s.power.okAt with
  | some t => if supplyKept s.power.code then s.now else t + 100000
  | none => s.now

/-- No record of an earlier life of the device is retained: the first power-on (Table 17.5 KIND). -/
def State.firstPowerOn (s : State) : Bool := s.ret.gen.isNone && !s.ret.saved && !s.ret.warned

/-- TICK across a loss of VBAT (R378): the value saved at the warning plus 1, or the last periodic save plus 2^32; before the
first save that is 0 (assumption 121). -/
def State.restoreTick (s : State) : State :=
  if s.firstPowerOn then { s with tick := 0 }
  else if s.power.vbatLost then { s with tick := if s.ret.warned then s.ret.warnTick + 1 else s.ret.tick + 2 ^ 32 }
  else s

/-- The last TICK known before the gap (Table 17.5): the save that TICK resumes from, or TICK in the tick of the reset (DEDUCED,
assumption 121). -/
def State.lastKnownTick (s : State) : Nat :=
  if s.power.vbatLost then (if s.ret.warned then s.ret.warnTick else s.ret.tick)
  else s.tick - (s.now - s.power.resetAt)

/-- The memories that do not outlive the core supply: SRAM, checkpoint SRAM and the rings (R382, R393). -/
def volatileAddr (a : Nat) : Bool := decide (0x10000000 ≤ a) && decide (a < 0x14000000)

/-- RESET_RELEASE (R412 step 1): LEAD is sampled; the ring is kept or cleared as Table 18.5 says. -/
def execResetRelease (lead : Bool) (s : State) : Result :=
  if s.alive || !s.mayRelease then .next s
  else
    let s := s.advanceTo s.releaseTick
    let sup := supplyKept s.power.code
    let ring := fun (a : Nat) => a == Reg.BBX_RECPTR
    let s : State := { s with
      leadStrap := lead, frame := 0, fstart := s.now,
      regs := s.regs.filter fun p => keptReg p.1 || (sup && ring p.1),
      mem := if sup then s.mem else s.mem.filter fun c => !volatileAddr c.1,
      bbx := { count := if sup then s.bbx.count else 0 },
      power := { s.power with
        okAt := none, phase := .released, releasedAt := s.now, port := 0,
        resetMs := if s.power.code = 1 then 0 else (s.now - s.power.resetAt) / 100000 },
      cm := { s.cm with running := s.power.pauseAt.isNone } }
    let s := s.restoreTick
    let st := if s.power.warnAt.isSome then 2 else if s.power.pauseAt.isSome then 1 else 0
    .next ((s.put Reg.PWR_STAT_STATE st).refreshChannels)

/-! ### Boot (R412, R413, R328, R377, R388) -/

/-- Boot step 5: GEN, the gap, the reset information, the retained records, the BBX status, and the RESET record as record
0 of the new GEN. -/
def State.bootStep5 (s : State) : State :=
  let lost := s.power.vbatLost
  let gen : Nat := match s.ret.gen with
    | some g => (g + 1) % 2 ^ 32
    | none => 0
  let s := (s.put Reg.TMB_GEN_GEN gen).putB Reg.TMB_GAPSTAT_GENLOST s.ret.gen.isNone
  let first := s.firstPowerOn
  let s := (s.put Reg.TMB_GAPSTAT_KIND (if first then 0 else if lost then 2 else 1)).putB Reg.TMB_GAPSTAT_NOWARN
    (lost && !first && !s.ret.warned)
  let s := (s.put Reg.TMB_LASTLO_TICK s.lastKnownTick).put Reg.TMB_LASTHI_TICK (s.lastKnownTick / 2 ^ 32)
  let s := s.putSat Reg.TMB_GAPMEAS_MS (if lost then 0 else s.power.resetMs)
  let long := s.power.nrstNew && decide (5000 < s.power.nrstMs)
  let s := ((s.put Reg.RST_RSTINFO_CODE s.power.code).put Reg.RST_RSTINFO_WDPAIR s.power.wdPair).put
    Reg.RST_RSTINFO_WDWHY s.power.wdWhy
  let s := ((s.putB Reg.RST_RSTINFO_LONG long).putSat Reg.RST_RSTLEN_MS s.power.resetMs).putSat Reg.RST_NRSTLEN_MS
    s.power.nrstMs
  let s := (List.range 6).foldl (fun s r => s.putSat (Reg.CTS_LOADOPN_COUNT.at r) (s.ret.loadOpen.getD r 0)) s
  let s := s.bbxRebuild
  let s := (s.putB Reg.CLK_STAT_XTALOK true).putB Reg.CLK_STAT_PLLLOCK true
  let code := s.power.code
  let strap := s.power.strapFault
  let s : State := { s with
    ret := { s.ret with gen := some gen, warned := false },
    power := { s.power with
      phase := .records, vbatLost := false, wdPair := 0, wdWhy := 0, nrstNew := false, strapFault := false } }
  let s := s.record 4 code (s.word Reg.RST_RSTINFO).toNat (s.word Reg.RST_RSTLEN).toNat (s.word Reg.TMB_GAPSTAT).toNat
  let s := (s.raise Ev.RST_BOOT).raiseIf long Ev.RST_LONG
  let s := s.raiseIf (s.snActive && s.lhm.inReset) Ev.LHM_ACTIVE
  let s := s.raiseIf (code == 5) Ev.LHM_CORESUPPLY
  let s := if strap then (s.putB Reg.LHM_STRAP_FAULT true).raise Ev.LHM_STRAP_FAULT else s
  let s := if s.leadStrap && !s.full then s.note 1 0 0 0 else s
  s.estBoot

/-- BOOT_RECORDS (R412 step 5): once HOLDE reports 1,200 µJ or more. -/
def execBootRecords (s : State) : Result :=
  if s.power.phase = .released ∧ 1200 ≤ s.get Reg.PWR_HOLDE_UJ then .next s.bootStep5 else .next s

/-- BOOT_HOLDUP_TIMEOUT (R412): 1 s after release GEN is written all the same; PWR_HOLD_FAULT follows once the pairs
run. -/
def execBootHoldupTimeout (s : State) : Result :=
  if s.power.phase = .released then
    let s := s.advanceTo (s.power.releasedAt + 100000000)
    let s : State := { s with power := { s.power with holdFltBoot := true } }
    .next ((s.putB Reg.PWR_STAT_HOLDFLT true).bootStep5)
  else .next s

/-- Verify a pair's region of a bank, then that of the other bank (R328): the bank that stands, if any. -/
def State.verifyPair (s : State) (p : Pair) (bank : Nat) : State × Option Nat :=
  let r := 2 * bank + p.idx
  let r' := 2 * (1 - bank) + p.idx
  let ok := s.regionOk r
  let t := s.regionResult r ok
  if ok then (t, some bank)
  else
    let ok' := s.regionOk r'
    (t.regionResult r' ok', if ok' then some (1 - bank) else none)

/-- The pairs start at their ENTRY; Pair B without a bank that verifies stays held (R328). -/
def State.startCores (s : State) (bHeld : Bool) : State :=
  let s := { s with cpa := {}, cpb := {} }.startEntry .a
  if bHeld then s.setCore .b { inReset := true, held := true } else s.startEntry .b

/-- Both pairs after Pair A has verified in bank `ba`: Pair B leaves reset too, or is held (R328, R412 step 7). Frame 0
begins in this tick (R136, assumption 21). -/
def State.bootPairs (s : State) (rec_ : Nat × Nat) (ba : Nat) : State :=
  let r := s.verifyPair .b rec_.2
  let bb := r.2.getD rec_.2
  let s := ((r.1.putB Reg.NVM_BOOTSTAT_BFALL (r.2 != some rec_.2)).putB Reg.NVM_BOOTSTAT_BHELD r.2.isNone).put
    Reg.NVM_BOOTSTAT_ABANK ba
  let s := ((s.put Reg.NVM_BOOTSTAT_BBANK bb).putBank .a ba).putBank .b bb
  let s : State := if ba ≠ rec_.1 ∨ bb ≠ rec_.2 then { s with ret := { s.ret with boot := some (ba, bb) } } else s
  let s := s.startCores r.2.isNone
  let flt := s.power.holdFltBoot
  let s : State := { s with
    frame := 0, fstart := s.now, power := { s.power with phase := .run, holdFltBoot := false },
    est := { s.est with jAt := s.now, jAcc := 0 } }
  let s := (s.put Reg.RST_WDSTAT_CNTA 0).put Reg.RST_WDSTAT_CNTB 0
  (s.raiseIf flt Ev.PWR_HOLD_FAULT).showDigest

/-- BOOT_VERIFY_DONE (R328, R412 steps 6 and 7): a Pair A with no bank that verifies keeps the device held. -/
def execBootVerifyDone (s : State) : Result :=
  if s.power.phase ≠ .records then .next s
  else
    let rec_ := s.ret.boot.getD (0, 0)
    let r := s.verifyPair .a rec_.1
    let s := r.1.putB Reg.NVM_BOOTSTAT_AFALL (r.2 != some rec_.1)
    match r.2 with
    | none => .next { s with power := { s.power with phase := .bootHold } }
    | some ba => .next (s.bootPairs rec_ ba)

/-! ### Watchdogs (R409 to R411) -/

/-- WDMAX and WDMIN in force (R410, R460). -/
def State.wdMax (s : State) : Nat := clampN 1 255 (s.get Reg.RST_WDCFG_WDMAX)
def State.wdMin (s : State) : Nat := min (s.get Reg.RST_WDCFG_WDMIN) (s.wdMax - 1)

/-- The count of a pair. -/
def wdCount : Pair → Fld
  | .a => Reg.RST_WDSTAT_CNTA
  | .b => Reg.RST_WDSTAT_CNTB

/-- A watchdog expires (R411): why 1 late, 2 early, 3 wrong key. Both pairs enter reset, the balancing switches open with their
pattern cleared (Table 12.3), and the output hold starts. An expiry of the other pair in the same tick is recorded as both. -/
def State.wdExpire (s : State) (p : Pair) (why : Nat) : State :=
  match s.power.holdAt with
  | some t =>
    if t = s.now ∧ s.power.wdPair ≠ p.idx + 1 then { s with power := { s.power with wdPair := 3 } } else s
  | none =>
    let s : State := { s with
      power := { s.power with wdPair := p.idx + 1, wdWhy := why, holdAt := some s.now },
      cts := { s.cts with earlyN := 0 } }
    let s := s.raise Ev.WDG_EXPIRED
    [Pair.a, Pair.b].foldl (fun s q =>
      let s := (s.dropTasks q).setCore q { s.core q with inReset := true, ckHalt := false, copying := false }
      s.putB (Reg.CP_STAT_DBGHALT.at q.idx) false) s.abortTest.clearPattern

/-- The pair's count is held at 0 (R409). -/
def State.wdHeld (s : State) (p : Pair) : Bool :=
  s.flag (Reg.CP_STAT_INRST.at p.idx) || (s.core p).swap.isSome || (p == .b && s.flag Reg.NVM_BOOTSTAT_BHELD)

/-- The boundary adds to the counts (R409): in Run, and in Watch at a watch-frame boundary. -/
def State.wdBoundary (s : State) : State :=
  if s.power.phase ≠ .run ∨ s.power.holdAt.isSome then s
  else [Pair.a, Pair.b].foldl (fun s p => if s.wdHeld p then s.put (wdCount p) 0 else s.incSat (wdCount p)) s

/-- The first key of a service has been written. -/
def State.wdKey (s : State) (p : Pair) : Bool := match p with | .a => s.power.keyA | .b => s.power.keyB

/-- Remember, or forget, the first key. -/
def State.setWdKey (s : State) (p : Pair) (b : Bool) : State :=
  match p with
  | .a => { s with power := { s.power with keyA := b } }
  | .b => { s with power := { s.power with keyB := b } }

/-- Address of a pair's service register. -/
def wdAddr : Pair → Nat
  | .a => Reg.RST_WDSVCA
  | .b => Reg.RST_WDSVCB

/-- WATCHDOG_SERVICE (R410): 0x5A5A and then 0xA5A5 by the own pair. -/
def execWatchdogService (ini : Ini) (pair : Pair) (key : Word) (s : State) : Result :=
  let k := key.toNat % 65536
  if ini ≠ pair.ini then .next (s.accessFault ini true (wdAddr pair))
  else if s.power.phase ≠ .run ∨ s.power.holdAt.isSome then .next s
  else if k = 0x5A5A then .next (s.setWdKey pair true)
  else if k = 0xA5A5 ∧ s.wdKey pair then
    let s := s.setWdKey pair false
    if s.get (wdCount pair) < s.wdMin then .next (s.wdExpire pair 2) else .next (s.put (wdCount pair) 0)
  else .next ((s.setWdKey pair false).wdExpire pair 3)

/-- WATCHDOG_EXPIRY (R410, R411): the count has reached WDMAX. -/
def execWatchdogExpiry (pair : Pair) (s : State) : Result :=
  if s.power.phase = .run ∧ s.wdMax ≤ s.get (wdCount pair) then .next (s.wdExpire pair 1) else .next s

/-- The lead may end the hold early: EARLY, a valid pack current, and two samples in a row within IOPEN (R411). -/
def State.wdEarly (s : State) : Bool :=
  s.flag Reg.RST_WDCFG_EARLY && s.isLead && decide (2 ≤ s.cts.earlyN) && !s.csc.anchorBad

/-- WATCHDOG_HOLD_END (R411): the outputs drop, Safety Net takes control (R269), and the device resets with code 0x07. The
pump goes through the zero vector when field weakening is active (Table 13.4). -/
def execWatchdogHoldEnd (s : State) : Result :=
  match s.power.holdAt with
  | none => .next s
  | some t =>
    let s := if s.wdEarly then s else s.advanceTo (t + 1000000 * min 50 (s.get Reg.RST_WDCFG_HOLD))
    let fw := s.pmpFw
    let s := (s.ctsHoldEnd.snBegin 0 false).allOff
    let s := s.deviceReset 7
    if fw then .next ({ s with pmp := { since := s.now, toOff := true } }.put Reg.PMP_STAT_STATE 6) else .next s

/-! ### Die hard stop (R211, R212) -/

/-- DIE_STAGE3_HARD_STOP (R211): 100 ms after stage 3, or at 175 °C. -/
def execDieStage3HardStop (s : State) : Result :=
  if s.alive ∧ (s.power.stage = 3 ∨ 1750 ≤ s.getI Reg.THM_DIESTAT_TDIE) then
    let s := if 1750 ≤ s.getI Reg.THM_DIESTAT_TDIE then s else s.advanceTo (s.power.stage3At + 10000000)
    let s := s.deviceReset 8
    .next { s with power := { s.power with hot := true } }
  else .next s

end Sys2Proof.Machine
end

