-- ==== Sys2Proof/Machine/Access.lean ====
section
/-!
DEFINITION. Access to the register pages and the memory map (R19 to R22, R418 to R425, Table 14.4): a word write with all its
effects, a word read with the live registers, the common registers of every page, access packets (R128), and the test
port (R431, R432).
-/
namespace Sys2Proof.Machine

/-- The state that an effect answers; every effect used here answers a next state. -/
def Result.state (r : Result) (s : State) : State :=
  match r with
  | .next t => t
  | _ => s

/-- Events that a page has (Tables 19.4, 19.5). -/
def pageEvents (page : Nat) : Nat :=
  match page with
  | 0 => 6
  | 1 => 2
  | 2 => 6
  | 3 => 3
  | 4 => 5
  | 5 => 5
  | _ => match sourceTable.find? (·.2.2 == page) with
    | some r => r.2.1
    | none => 0

/-- The bits of a page's event registers that name an event (R419). -/
def eventMask (page : Nat) : Word := BitVec.ofNat 32 (2 ^ pageEvents page - 1)

/-- `LOCK` of a page (Table 19.2). -/
def lockField (page : Nat) : Fld := ⟨pageBase page + 0x20, 0, 1, 4⟩

/-- A bit of a written word. -/
def State.when (s : State) (c : Bool) (act : State → Result) : State := if c then (act s).state s else s

/-! ### The common registers of every page (R419 to R422) -/

/-- EVENT_FORCE (R421): by the debug port alone, and not under DBGLOCK. -/
def State.evForce (s : State) (ini : Ini) (page : Nat) (mask : Word) : State :=
  if ini ≠ .debug ∨ s.flag Reg.NVM_SECCFG_DBGLOCK then s.accessFault ini true (pageBase page + 0x1C)
  else (List.range (pageEvents page)).foldl (fun s i => s.raiseIf (mask.getLsbD i) ⟨page, i⟩) s

/-- EVENT_PENDING_CLEAR (R420). -/
def execEventPendingClear (ini : Ini) (page : Fin 32) (mask : Word) (s : State) : Result :=
  .next (s.onPage ini (evpndAddr page.val) fun s => s.clearEvents page.val mask)

/-- EVENT_FORCE (R421). -/
def execEventForce (ini : Ini) (page : Fin 32) (mask : Word) (s : State) : Result :=
  .next (s.onPage ini (pageBase page.val + 0x1C) fun s => s.evForce ini page.val mask)

/-- `LOCK` is set until the next device reset; the LHM page's lock is that of R270 (R422). -/
def State.pageLock (s : State) (page : Nat) : State :=
  if page = 17 then s.lhmLock else s.putB (lockField page) true

/-- PAGE_LOCK (R422). -/
def execPageLock (ini : Ini) (page : Fin 32) (s : State) : Result :=
  .next (s.onPage ini (pageBase page.val + 0x20) fun s => s.pageLock page.val)

/-! ### Word writes (R20, R21, R423, R424) -/

/-- A write to the writable bits of a register that has no effect beyond its access codes (Table 0.4). -/
def State.plainWrite (s : State) (ini : Ini) (a : Nat) (v : Word) : State :=
  let page := pageOf a
  match rowAt page (a % 0x1000) with
  | none => s
  | some r =>
    let old := s.word a
    let mask := BitVec.ofNat 32 (r.rw ||| r.rwl) &&& ~~~(s.fixedBits a)
    if r.rwl ≠ 0 ∧ s.flag (lockField page) then s.configLocked ini a
    else if r.rwl ≠ 0 ∧ 22 ≤ page ∧ page < 26 ∧ ¬ s.flag (Reg.CAN_CTRL_INIT.at (page - 22)) then
      s.accessFault ini true a
    else s.setWord a (((old &&& ~~~mask) ||| (v &&& mask)) &&& ~~~(v &&& BitVec.ofNat 32 r.w1c))

/-- PROFILE_REQUEST_WRITE (R38): taken on the lead alone; 0b11 has no effect. -/
def State.profileRequest (s : State) (req : Nat) : State :=
  if s.isLead ∧ req % 4 ≠ 3 then s.put Reg.SYS_PROFREQ_REQ req else s

/-- PROFILE_REQUEST_WRITE (R38). -/
def execProfileRequestWrite (_ini : Ini) (req : Nat) (s : State) : Result := .next (s.profileRequest req)

/-- A write of `CTS.CTRL` (Table 10.7); one that is not Pair A's is refused whatever it holds (R242). -/
def State.ctsCtrl (s : State) (ini : Ini) (v : Word) : State :=
  if ini != .pairA then s.raise Ev.CTS_CMD_REFUSED
  else
  let s := s.when (v.getLsbD 0) (execFaultClear ini)
  match v.toNat / 256 % 8 with
  | 1 => (execDriveClose ini s).state s
  | 2 => (execDriveOpen ini s).state s
  | 3 => (execChargeClose ini s).state s
  | 4 => (execChargeOpen ini s).state s
  | 5 => (execAuxOn ini s).state s
  | 6 => (execAuxOff ini s).state s
  | _ => s

/-- A write of a pair's `DBGCTL` (Table 14.8). -/
def State.debugCtl (s : State) (ini : Ini) (p : Pair) (v : Word) : State :=
  let s := s.when (v.getLsbD 0) (execDebugHalt ini p)
  let s := s.when (v.getLsbD 1) (execDebugResume ini p)
  s.when (v.getLsbD 2) (execDebugStep ini p)

/-- The pair of a CPA or CPB page. -/
def pairOfPage (page : Nat) : Pair := if page = 19 then .a else .b

/-- A word write to a block-specific register: the effects of its fields, or its access codes. -/
def State.blockWrite (s : State) (ini : Ini) (a : Nat) (v : Word) : State :=
  let off := a % 0x1000
  let n := v.toNat
  let p := pairOfPage (pageOf a)
  match pageOf a, off with
  | 0, 0x040 => s.profileRequest n
  | 3, 0x044 => (execWatchdogService ini .a v s).state s
  | 3, 0x048 => (execWatchdogService ini .b v s).state s
  | 4, 0x050 => (execImageLoad ini (v.getLsbD 4) (v.getLsbD 0) s).state s
  | 4, 0x064 => ((if v.getLsbD 12 then execKillAck else execTaskDone) ini .a (n % 4096) s).state s
  | 4, 0x068 => ((if v.getLsbD 12 then execKillAck else execTaskDone) ini .b (n % 4096) s).state s
  | 5, 0x040 => s.setWord a (v &&& ~~~(32#32))
  | 5, 0x044 => s.stgCmd ini v
  | 6, 0x008 => s.when (v.getLsbD 0) (execOpenWireRequest ini)
  | 8, 0x008 => s.when (v.getLsbD 0) (execIsolationRequest ini)
  | 9, 0x05C => (execNeighbourMapWrite ini v s).state s
  | 9, 0x184 => (execThmCellSelect ini (n % 512) s).state s
  | 10, 0x008 => s.when (v.getLsbD 0) (execBalancingStop ini)
  | 10, 0x050 => (execBalancingPatternWrite ini false v s).state s
  | 10, 0x054 => (execBalancingPatternWrite ini true v s).state s
  | 11, 0x008 => s.when (v.getLsbD 0) (execEnumRequest ini)
  | 12, 0x008 =>
    let s := s.when (v.getLsbD 0) (execEstResync ini)
    let s := s.when (v.getLsbD 1) (execEstJwrite ini)
    let s := s.when (v.getLsbD 2) (execEstReinit ini)
    s.when (v.getLsbD 3) (execEstCaprst ini)
  | 12, 0x094 => (execTableDataWrite ini v s).state s
  | 12, 0x098 => (execEstCellSelect ini (n % 512) s).state s
  | 13, 0x008 =>
    let s := s.when (v.getLsbD 2) (execEisTcal ini)
    let s := s.when (v.getLsbD 1) (execEisAbort ini)
    s.when (v.getLsbD 0) (execEisSweepRequest ini)
  | 13, 0x074 => (execEisResultSelect ini (n / 65536 % 8) (n % 512) s).state s
  | 14, 0x008 => s.when (v.getLsbD 0 || ini != .pairA) (execSwTrip ini)
  | 14, 0x208 => (execReactionClear ini v s).state s
  | 15, 0x008 => s.ctsCtrl ini v
  | 16, 0x104 => (execCmdSet ini v s).state s
  | 16, 0x108 => (execCmdClear ini v s).state s
  | 17, 0x008 => s.when (v.getLsbD 0 || ini != .pairA) (execSafetyNetRelease ini)
  | 17, 0x040 => (execHostRequestWrite ini (v.getLsbD 0) s).state s
  | 18, 0x008 =>
    if n % 4 = 1 then (execPumpStart ini s).state s else if n % 4 = 2 then (execPumpStop ini s).state s else s
  | 18, 0x06C => (execPumpSetpointWrite ini (n % 1024) s).state s
  | 19, 0x008 => s.when (v.getLsbD 0 || ini != p.ini) (execPairRestartRequest ini p)
  | 20, 0x008 => s.when (v.getLsbD 0 || ini != p.ini) (execPairRestartRequest ini p)
  | 19, 0x044 => s.when (v.getLsbD 0 || ini != p.ini) (execPairReady ini p)
  | 20, 0x044 => s.when (v.getLsbD 0 || ini != p.ini) (execPairReady ini p)
  | 19, 0x050 => if ini = p.ini then s.plainWrite ini a v else s.accessFault ini true a
  | 20, 0x050 => if ini = p.ini then s.plainWrite ini a v else s.accessFault ini true a
  | 19, 0x064 => s.debugCtl ini p v
  | 20, 0x064 => s.debugCtl ini p v
  | 21, 0x008 => s.when (v.getLsbD 0) (execRegionVerify ini)
  | 21, 0x040 =>
    s.put Reg.NVM_PGMWE_WE (bitsOf ((List.range 4).map fun r => v.getLsbD r && !s.regionActive r))
  | 21, 0x054 => (execSvnminWrite ini (n % 64) s).state s
  | 21, 0x058 => (execKeyRevoke ini (n % 4) s).state s
  | 21, 0x05C => s.when (v.getLsbD 0) (execDbglockSet ini)
  | 21, 0x070 => (execOtpKeyWrite ini v s).state s
  | 27, 0x048 => (execBackBufferWrite ini v s).state s
  | 27, 0x04C => s.when (v.getLsbD 0) (execBackBufferDone ini)
  | 28, 0x058 => (execGapAttest ini v s).state s
  | 29, 0x008 =>
    let s := s.when (v.getLsbD 2) (execBbxRelease ini)
    let s := s.when (v.getLsbD 1) (execBbxSwPush ini)
    s.when (v.getLsbD 0) (execBbxFreezeCommand ini)
  | page, off =>
    if 22 ≤ page ∧ page < 26 then
      let ch := page - 22
      if off = 0x008 then s.canCtrlWrite ch v
      else if off = 0x070 then s.canObjCmd ch v
      else if 0x100 ≤ off ∧ off < 0x14C then s.objWordWrite ch ((off - 0x100) / 4) v
      else if 0x180 ≤ off ∧ off < 0x1CC then s.fifoWordWrite ch ((off - 0x180) / 4) v
      else s.plainWrite ini a v
    else s.plainWrite ini a v

/-- A word write to a register page by an initiator (R3, R20, R419). -/
def State.regWrite (s : State) (ini : Ini) (a : Nat) (v : Word) : State :=
  let page := pageOf a
  let off := a % 0x1000
  s.onPage ini a fun s =>
    if 0x840 ≤ off then (if (stagedOf a).isSome then s.stagedWrite ini a v else s)
    else if off = 0x014 then s.setWord a (v &&& eventMask page)
    else if off = 0x018 then s.clearEvents page v
    else if off = 0x01C then s.evForce ini page v
    else if off = 0x020 then (if v.getLsbD 0 then s.pageLock page else s)
    else s.blockWrite ini a v

/-- The register pages answer: the control die is out of reset and not in Sleep (Table 18.1). -/
def State.busUp (s : State) : Bool := s.alive && !s.sleeping

/-- REGISTER_WRITE (R20, R22). Outside the register pages it names no register and has no effect. -/
def execRegisterWrite (ini : Ini) (addr : Nat) (val : Word) (s : State) : Result :=
  if !s.busUp ∨ addr < 0x40000000 ∨ 0x40020000 ≤ addr then .next s
  else if addr % 4 ≠ 0 then .next (s.accessFault ini true addr)
  else .next (s.regWrite ini addr val)

/-- NARROW_OR_UNALIGNED_ACCESS (R22). -/
def execNarrowOrUnalignedAccess (ini : Ini) (write : Bool) (addr : Nat) (s : State) : Result :=
  if !s.busUp ∨ addr < 0x40000000 ∨ 0x40020000 ≤ addr then .next s
  else .next (s.accessFault ini write addr)

/-! ### Word reads -/

/-- The model and coolant registers of the THM page, which read zero on a follower (R213). -/
def leadThm (off : Nat) : Bool := (decide (0x060 ≤ off) && decide (off ≤ 0x080)) || (decide (0x184 ≤ off) && decide (off ≤ 0x19C))

/-- What a read of a register sees (R20, R419): live registers are formed at the read. -/
def State.regRead (s : State) (a : Nat) : Word :=
  let page := pageOf a
  let off := a % 0x1000
  if !s.pageOn page then 0
  else match page, off with
  | 0, 0x000 => if s.full then s.word a else 0x4848210F#32
  | 4, 0x058 => BitVec.ofNat 32 ((s.now - s.fstart) / 1000 % 1000)
  | 6, 0x00C => s.cellStat.word a
  | 10, 0x058 => s.showSwitches.word a
  | 10, 0x05C => s.showSwitches.word a
  | 9, 0x05C => if s.isLead then s.nmapRead else 0
  | 12, 0x094 => s.tableRead
  | 21, 0x070 => s.otpRead
  | 26, 0x30C => BitVec.ofNat 32 s.nowMs
  | 30, 0x100 => s.claim .a
  | 30, 0x104 => s.claim .b
  | 31, 0x00C =>
    let halted := s.flag (Reg.CP_STAT_DBGHALT.at 0) || s.flag (Reg.CP_STAT_DBGHALT.at 1)
    BitVec.ofNat 32 (4 * halted.toNat + 2 * (s.flag Reg.NVM_SECCFG_DBGLOCK).toNat + s.get Reg.DBG_STAT_CONN)
  | 28, 0x040 => BitVec.ofNat 32 s.tick
  | page, off =>
    if page = 30 ∧ 0x110 ≤ off ∧ off < 0x130 then s.deliveredWord .a ((off - 0x110) / 4)
    else if page = 30 ∧ 0x130 ≤ off ∧ off < 0x150 then s.deliveredWord .b ((off - 0x130) / 4)
    else if 22 ≤ page ∧ page < 26 then
      match s.canRead (page - 22) off with
      | some n => BitVec.ofNat 32 n
      | none => s.word a
    else if !s.isLead ∧ page = 9 ∧ leadThm off then 0
    else s.shown a

/-- The areas of the memory map that hold data (Table 14.4): MRAM, SRAM, checkpoint and black-box SRAM. -/
def dataArea (a : Nat) : Bool :=
  decide (a < 0x00900000) || (decide (0x10000000 ≤ a) && decide (a < 0x10200000)) ||
    (decide (0x11000000 ≤ a) && decide (a < 0x11040000)) || (decide (0x12000000 ≤ a) && decide (a < 0x12030000))

/-- The data-MRAM records whose layout the spec does not give: boot record, retained records, impedance references
(Table 14.5). The model holds what they record in fields of its own; their words read as free values (assumption 116). -/
def unlaid (a : Nat) : Bool :=
  (decide (0x00800000 ≤ a) && decide (a < 0x00802000)) || (decide (0x00804000 ≤ a) && decide (a < 0x00808000))

/-- One word read by the debug port or over the link: the state after it, the word, and whether it was accepted. A read of
`TMB.TICKLO` latches `TICKHI` (R375). The execution window belongs to the pairs alone (Table 14.4). -/
def State.busRead (s : State) (ini : Ini) (a : Nat) : State × Word × Bool :=
  if 0x40000000 ≤ a ∧ a < 0x40020000 then
    if a % 4 ≠ 0 then (s.accessFault ini false a, 0, false)
    else
      let w := s.regRead a
      (if a = Reg.TMB_TICKLO then (execTickRead ini s).state s else s, w, true)
  else if a % 4 = 0 ∧ unlaid a then (s.nextFree, Config.recordWord a s.freeCtr, true)
  else if a % 4 = 0 ∧ dataArea a then (s, s.memWord a, true)
  else if a % 4 = 0 ∧ 0x20000000 ≤ a ∧ a < 0x20008000 then (s, Config.bootRom a, true)
  else (s, 0, false)

/-- One word write by the debug port or over the link: the state after it, and whether it was accepted. Program regions
follow R320, data MRAM Table 14.5; checkpoint and black-box SRAM and the boot ROM are read only. -/
def State.busWrite (s : State) (ini : Ini) (a : Nat) (v : Word) : State × Bool :=
  if 0x40000000 ≤ a ∧ a < 0x40020000 then
    if a % 4 ≠ 0 then (s.accessFault ini true a, false) else (s.regWrite ini a v, true)
  else if a % 4 ≠ 0 then (s, false)
  else if a < 0x00800000 then
    let r := a / 0x200000
    ((execProgramRegionWrite ini a v s).state s, ini != .debug && !s.regionActive r && s.bit Reg.NVM_PGMWE_WE r)
  else if dataWritable a ∨ (0x10000000 ≤ a ∧ a < 0x10200000) then (s.setMemWord a v.toNat, true)
  else (s, false)

/-! ### Access packets (R128, R281, R206, R180) -/

/-- The tick of the boundary that starts the frame with these low 16 bits, from the present frame on. -/
def State.boundaryOf (s : State) (frame : Nat) : Nat :=
  s.fstart + 1000000 * ((frame + 65536 - s.frame % 65536) % 65536)

/-- The lead starts an activity on this follower (R281, R180; assumptions 13, 63). A window whose boundary has passed
misses samples: GAP. -/
def State.remoteStart (s : State) (code frame arg : Nat) : State :=
  if code = 2 then { s with iso := { s.iso with g := some (s.boundaryOf frame) } }
  else if code = 4 then
    let s : State := { s with eis := { s.eis with
      plan := some (arg / 32 % 4), planFrame := frame % 65536, planArg := arg % 32 } }
    if s.frame % 65536 = frame % 65536 then s.eisFollow.eisGap else s
  else s

/-- An access packet passes on, or is taken: one for every device does both (R127). -/
def State.passAccess (s : State) (dst : Nat) (op : AccessOp) : State :=
  if dst = s.devNum then s else s.passAway ⟨.access op, dst, 0, 0⟩

/-- ACCESS_PACKET_RECEIVED (R424, R127, R128): a follower takes one that is addressed to it, or to every device, as initiator
"Valpex link", and passes on one for another device. -/
def execAccessPacketReceived (crcOk : Bool) (op : AccessOp) (s : State) (dst : Nat := 8) : Result :=
  if s.isLead ∨ !s.busUp then .next s
  else if !crcOk then .next s.linkCrc
  else
    let s := s.passAccess dst op
    if dst ≠ s.devNum ∧ dst ≠ 8 then .next s
    else
    match op with
    | .write a v => .next ((s.busWrite .link a v).1.send (.reply (.data a v)) 0 0 0)
    | .read a =>
      let (s, w, _) := s.busRead .link a
      .next (s.send (.reply (.data a w)) 0 0 0)
    | .request code =>
      .next (({ s with bal := { s.bal with forLead := bitTo s.bal.forLead code true } }.submit code).settle)
    | .release code how flags =>
      let s : State := { s with bal := { s.bal with forLead := bitTo s.bal.forLead code false } }
      let s := if code = 4 then s.eisOutcome how flags else s
      .next (s.abandon code).isoOrphan.settle
    | .start code frame arg => .next (s.remoteStart code frame arg).settle
    | .suspect mask => .next { s with thm := { s.thm with suspectNext := some (mask % 2 ^ 24) } }
    | .phasor re im lo hi flags => .next (s.eisGotPhasor { re, im, lre := lo, ure := hi } flags).settle
    | .member => .next (if s.csc.stage = 3 then { s with csc := { s.csc with stage := 4 } } else s)

/-! ### The test port (R431, R432) -/

/-- TCK is active: CONN becomes set (R432). -/
def State.tckTouch (s : State) : State :=
  let s : State := { s with jtag := { s.jtag with tckAt := s.now } }
  if s.flag Reg.DBG_STAT_CONN then s else (s.putB Reg.DBG_STAT_CONN true).raise Ev.DBG_SERVICE

/-- TCK_ACTIVITY (R432). -/
def execTckActivity (s : State) : Result := .next s.tckTouch

/-- TCK_IDLE_TIMEOUT (R432): 100,000 ticks without activity on TCK. -/
def execTckIdleTimeout (s : State) : Result :=
  if s.flag Reg.DBG_STAT_CONN then
    .next ((s.advanceTo (s.jtag.tckAt + 100000)).putB Reg.DBG_STAT_CONN false)
  else .next s

/-- An instruction is shifted in, with what its data register captures; leaving EXTEST releases the balls. -/
def State.jtagSelect (s : State) (ir dr : Nat) : State :=
  let s := s.tckTouch
  { s with jtag := { s.jtag with ir, dr, drive := ir == 0x03 } }

/-- JTAG_IDCODE (Table 19.7): REV, 0x4848, the manufacturer identity and 1. -/
def execJtagIdcode (s : State) : Result :=
  .next (s.jtagSelect 0x01 (2 * 2 ^ 28 + 0x4848 * 2 ^ 12 + Config.manufacturer.toNat * 2 + 1))

/-- JTAG_SAMPLE_PRELOAD (R431): the chain captures the balls, or is loaded. -/
def execJtagSamplePreload (capture : List Bool) (preload : Option (List Bool)) (s : State) : Result :=
  let s := s.jtagSelect 0x02 0
  .next { s with jtag := { s.jtag with chain := preload.getD capture } }

/-- JTAG_EXTEST (R431): the chain drives the digital balls of the low-voltage field; no load and no gate output. -/
def execJtagExtest (s : State) : Result := .next (s.jtagSelect 0x03 0)

/-- JTAG_DBGACC (Table 19.7, R432): one word access as the debug port, or refused under DBGLOCK. -/
def execJtagDbgacc (write : Bool) (addr : Nat) (data : Word) (s : State) : Result :=
  let dr := fun (d : Word) (ok : Bool) => addr * 2 ^ 34 + d.toNat * 4 + 2 * write.toNat + ok.toNat
  if !s.busUp then .next (s.jtagSelect 0x10 (dr 0 false))
  else if s.flag Reg.NVM_SECCFG_DBGLOCK then
    .next ((((s.jtagSelect 0x10 (dr 0 false)).incSat Reg.DBG_REFCNT_COUNT)).raise Ev.DBG_SERVICE)
  else if write then
    let (t, ok) := s.tckTouch.busWrite .debug addr data
    .next (t.jtagSelect 0x10 (dr data ok))
  else
    let (t, w, ok) := s.tckTouch.busRead .debug addr
    .next (t.jtagSelect 0x10 (dr w ok))

/-- JTAG_BYPASS (Table 19.7): BYPASS and every code of no instruction. -/
def execJtagBypass (_code : BitVec 5) (s : State) : Result := .next (s.jtagSelect 0x1F 0)

end Sys2Proof.Machine
end

