-- ==== Sys2Proof/Machine/FrameBoundary.lean ====
section
/-!
DEFINITION. The frame boundary (R43): the frame that ends is closed, an armed commit is applied, the profile and the mode
change, the schedule is selected and the slot-0 entries act, and every block takes its part of the boundary tick.
-/
namespace Sys2Proof.Machine

/-! ### The frame that ends -/

/-- The frame that ends: runs still owed are retained (R152, R208), the frame buffers change (R29), and the frame means and
on-times are published (Table 4.4, R287). -/
def State.closeFrame (s : State) : State :=
  let s := s.estOwe.thmOwe.recordQueue
  let s : State := { s with thm := { s.thm with sampled := 0 } }
  let act := s.actFrame
  let s : State := { s with cm := { s.cm with
    lastRan := s.cm.running,
    lastPaused := s.cm.paused,
    lastQuiet := if act then s.quietSet else s.cm.lastQuiet,
    lastAct := act,
    lastFast := if act then s.fast else s.cm.lastFast,
    lastFrame := if act then s.frame else s.cm.lastFrame,
    lastBuffer := if act then s.cm.buffer else s.cm.lastBuffer,
    buffer := [],
    -- a quiet pause that is open at a boundary has its instant there (R93)
    quietPause := false } }
  (s.ipkFrame.chassisFrame).publishOnTimes

/-! ### Profile and mode (R32, R38 to R41, R282) -/

/-- The sequencer in GRANT returns to OPEN when its request is withdrawn (R282). -/
def State.grantWithdrawn (s : State) : State :=
  if s.dstate = 1 then ((s.withdraw 3).driveOpen).raise Ev.CTS_GRANT_TIMEOUT
  else if s.cstate = 1 then ((s.withdraw 3).chargeOpen).raise Ev.CTS_GRANT_TIMEOUT
  else s.withdraw 3

/-- Sleep is entered (R41, Tables 1.7, 11.4): channels off, the pairs and everything but the retention domain unpowered. -/
def State.enterSleep (s : State) : State :=
  let s := s.allOff
  let s := s.setCore .a { s.cpa with inReset := true, ckHalt := false, copying := false, killTrap := false }
  let s := s.setCore .b { s.cpb with inReset := true, ckHalt := false, copying := false, killTrap := false }
  let s : State := { s with
    mem := s.mem.filter fun c => !(decide (0x10000000 ≤ c.1) && decide (c.1 < 0x10200000)),
    power := { s.power with pll := false, pllOn := false, waking := false },
    csc := { s.csc with good := 0, miss := 0, marker := none, unsync := false },
    tt := { s.tt with tasks := [], accel := [], xfer := [], cantx := [] } }
  let s := (s.putB Reg.CLK_STAT_XTALOK false).putB Reg.CLK_STAT_PLLLOCK false
  if s.isLead then s else (s.putB Reg.CSC_STAT_LOCK false).putB Reg.TMB_SRC_ALIGNED false

/-- The journal is written before an accepted Watch or Sleep (R171): at once where energy and port allow, else it stays
requested. -/
def State.journalBefore (s : State) : State :=
  if s.isLead then ({ s with est := { s.est with jPend := true } }.journalStart).journalDone else s

/-- The profile changes from `was` to `p` at this boundary. -/
def State.changeProfile (s : State) (was p : Nat) : State :=
  if was = p then s
  else
    let s := if p = 0 then s else s.journalBefore
    let s := s.put Reg.SYS_PROFSTAT_PROF p
    let s := (s.endIso.eisAbort.eisExc).estProfile (was == 0) false
    let s := (s.withdraw 4).grantWithdrawn
    let s := if p = 0 then (((List.range 4).foldl (fun s ch => s.canResume ch) s).tktResume).matrixRun
      else ((List.range 4).foldl (fun s ch => s.canSleep ch) s).pmpStop
    let s := if p = 2 then s.enterSleep else s
    s.hostShow

/-- Where the frame that begins stands in Watch: 0 is a watch frame, one in 100 (R45); entering Watch starts with one. -/
def watchIndex (was p n : Nat) : Nat := if p = 1 then (if was = 1 then (n + 1) % 100 else 0) else 0

/-- Measurement, PLL and measurement die follow the profile (Table 1.7, R81, R405). Sampling runs in every measured frame, whether
or not the schedule in force holds a MEAS entry (DESIGN CHOICE, assumption 93). -/
def State.powerFrame (s : State) : State :=
  let p := s.get Reg.SYS_PROFSTAT_PROF
  let act := p == 0 || (p == 1 && s.tt.watchN == 0)
  let s : State := { s with
    cm := { s.cm with running := act && s.power.pauseAt.isNone, paused := s.power.pauseAt.isSome, warm := false },
    power := { s.power with pll := act || s.power.pll && !(p == 1 && s.tt.watchN == 1) && p != 2,
                            pllOn := s.power.pllOn && !act } }
  -- Table 1.7: TICK counts on the TICK clock in Run, on the crystal in Watch, on the always-on oscillator in Sleep
  let s := s.put Reg.TMB_SRC_SOURCE p
  (s.putB Reg.CLK_STAT_PLLLOCK s.power.pll).refreshSwitches

/-- Profile and mode of the frame that begins: by the request on the lead, by the marker on a follower. -/
def State.nextProfile (s : State) : Nat :=
  if s.isLead then s.profNext
  else match s.csc.marker with
    | some m => if m.2.1 = 3 then s.get Reg.SYS_PROFSTAT_PROF else m.2.1
    | none => s.get Reg.SYS_PROFSTAT_PROF

/-- The mode that a follower takes from the marker: active and staged `RUNMODE` follow it (R32, Table 2.9). -/
def State.followMode (s : State) : State :=
  if s.isLead then s
  else match s.csc.marker with
    | some m => (s.put Reg.TT_SCHED_RUNMODE m.2.2.1).put Reg.TT_SCHED_RUNMODE.staged m.2.2.1
    | none => s

/-- The profile step of the boundary: refusals (R39, R50), the change, the mode in force, PROFILE_CHANGED. -/
def State.profileStep (s : State) : State :=
  let was := s.get Reg.SYS_PROFSTAT_PROF
  let mode := s.get Reg.SYS_PROFSTAT_MODE
  let refused := s.isLead && s.profRefuse && !s.pairRestarting
  let p := s.nextProfile
  let s := if refused then (s.put Reg.SYS_PROFREQ_REQ 0).raise Ev.PROFILE_REFUSED else s
  let s := if s.isLead && was != 0 && p == 0 && s.reactionSeen then s.put Reg.SYS_PROFREQ_REQ 0 else s
  let s : State := { s with
    saf := { s.saf with latchedInFrame := false }, tt := { s.tt with watchN := watchIndex was p s.tt.watchN } }
  let s := s.changeProfile was p
  let m := if p = 0 then s.get Reg.TT_SCHED_RUNMODE else if p = 1 then 0 else mode
  let s := (s.put Reg.SYS_PROFSTAT_MODE m).put Reg.CELL_CTRL_MODE m
  (s.raiseIf (was != p || mode != m) Ev.PROFILE_CHANGED).powerFrame

/-! ### Once per frame -/

/-- Active against staged words of every page in state SYNC (R60). -/
def State.xmisCompare (s : State) : State :=
  (List.range 32).foldl (fun s p =>
    let bad := s.pageOn p && s.get (stgField p) == 0 &&
      ((rwsAddrs s.full).filter (pageOf · == p)).any fun a => s.word a != s.word (a + 0x800)
    if bad then (s.putB (xmisField p) true).raise Ev.CONFIG_MISMATCH else s) s

/-- The frames since the last passed comparator test (R312). -/
def State.testAges (s : State) : State :=
  (s.incSat (Reg.CP_CMPSTAT_TESTAGE.at 0)).incSat (Reg.CP_CMPSTAT_TESTAGE.at 1)

/-- The SYS clock follows die stage 2 from the next boundary on (R404). -/
def State.sysClock (s : State) : State :=
  let half := decide (2 ≤ s.power.stage)
  if half = s.flag Reg.CLK_STAT_SYSHALF then s
  else (s.putB Reg.CLK_STAT_SYSHALF half).raise (if half then Ev.CLK_SYS_REDUCED else Ev.CLK_SYS_RESTORED)

/-- The slot-0 entries (R43 step 3, Table 2.4): the checkpoint and the flip act in the boundary tick; in Watch the flip
belongs to the watch-frame boundary (R365). `pre`: the state of the tick before. -/
def State.slotZero (s pre : State) : State :=
  let es := s.slotEntries 0
  let s := if es.any (·.2.typ == 4) then s.startCheckpoint else s.noCheckpoint
  let flip := es.any (·.2.typ == 3) || (s.watching && s.tt.watchN == 0)
  let s := if flip then s.liveFlip pre else s
  let s := if s.watching && s.tt.watchN != 0 then s else s.mailboxTake
  s.releaseSlot 0

/-- What every block does at the boundary once the schedule is selected. -/
def State.blocksFrame (s : State) (die : List Int) (expected : Bool) : State :=
  let run := s.get Reg.SYS_PROFSTAT_PROF == 0
  let act := run || (s.watching && s.tt.watchN == 0)
  let s := s.suspectBoundary.sysClock
  let s := (s.dieSample die s.cm.running).dieStages
  let s := if run then s.eisBoundary.isoBoundary else s
  let s := s.balBoundary
  let s := if act || !s.isLead then s.cscBoundary expected else s
  let s := if act then s.wdBoundary else s
  let s := if run then s.canReference else s
  let s := s.testAges.compareCopies.xmisCompare.refSave
  (s.cellStat.settle).protect

/-- FRAME_BOUNDARY (R43). `die`: the eight die sensors in 0.1 °C (R211). In reset and in Sleep there is none. -/
def execFrameBoundary (die : List Int) (s : State) : Result :=
  if !s.busUp then .next s
  else
    let expected := !s.watching || s.tt.watchN == 0
    let pre := s
    let s := s.advanceTo ((s.fstart : Int) + 1000000 + s.csc.edge).toNat
    let s := s.closeFrame
    let s : State := { s with frame := s.frameNumber, fstart := s.now, tt := { s.tt with xfer := [] } }
    let s := s.tickBoundary.followMode
    let flag := match s.csc.marker with
      | some m => m.1
      | none => false
    let s : State := if s.isLead then s else { s with stg := { s.stg with flag } }
    let s := s.boundaryCommit.pauseResume.profileStep
    if s.sleeping then .next s
    else .next (((s.selectSched).slotZero pre).blocksFrame die expected)

end Sys2Proof.Machine
end

