-- ==== Sys2Proof/Machine/Dispatch.lean ====
section
/-!
DEFINITION. The dispatch: one arm per command, each a direct call of the command's meaning.
-/
namespace Sys2Proof.Machine

def exec (i : Instr) (s : State) : Host.Outcome State Fault Refusal :=
  match i with
  | .registerWrite ini addr val => Sys2Proof.Machine.execRegisterWrite ini addr val s
  | .narrowOrUnalignedAccess ini write addr => Sys2Proof.Machine.execNarrowOrUnalignedAccess ini write addr s
  | .frameBoundary die => Sys2Proof.Machine.execFrameBoundary die s
  | .slotRelease slot => Sys2Proof.Machine.execSlotRelease slot s
  | .profileRequestWrite ini req => Sys2Proof.Machine.execProfileRequestWrite ini req s
  | .sampleInstant offset hall driveUA driveMV => Sys2Proof.Machine.execSampleInstant offset hall driveUA driveMV s
  | .sampleSetArrival set => Sys2Proof.Machine.execSampleSetArrival set s
  | .sampleSetMissing instant => Sys2Proof.Machine.execSampleSetMissing instant s
  | .transformerSupplyFailure => Sys2Proof.Machine.execTransformerSupplyFailure s
  | .swTrip ini => Sys2Proof.Machine.execSwTrip ini s
  | .reactionClear ini mask => Sys2Proof.Machine.execReactionClear ini mask s
  | .safSelftestStart => Sys2Proof.Machine.execSafSelftestStart s
  | .safSelftestEnd passed => Sys2Proof.Machine.execSafSelftestEnd passed s
  | .imageLoad ini buf go => Sys2Proof.Machine.execImageLoad ini buf go s
  | .imageLoadDone => Sys2Proof.Machine.execImageLoadDone s
  | .taskDone ini pair entry => Sys2Proof.Machine.execTaskDone ini pair entry s
  | .killAck ini pair entry => Sys2Proof.Machine.execKillAck ini pair entry s
  | .taskOverrun entry => Sys2Proof.Machine.execTaskOverrun entry s
  | .killAckTimeout entry => Sys2Proof.Machine.execKillAckTimeout entry s
  | .acceleratorOverrun entry => Sys2Proof.Machine.execAcceleratorOverrun entry s
  | .stagedWrite ini addr val => Sys2Proof.Machine.execStagedWrite ini addr val s
  | .stgArm ini point cascade => Sys2Proof.Machine.execStgArm ini point cascade s
  | .stgDisarm ini => Sys2Proof.Machine.execStgDisarm ini s
  | .consistencyCheckDone => Sys2Proof.Machine.execConsistencyCheckDone s
  | .commitPointReached point => Sys2Proof.Machine.execCommitPointReached point s
  | .cascadeArmReceived mask fast setid => Sys2Proof.Machine.execCascadeArmReceived mask fast setid s
  | .checkReportReceived dev fail digest => Sys2Proof.Machine.execCheckReportReceived dev fail digest s
  | .cascadeReportDeadline => Sys2Proof.Machine.execCascadeReportDeadline s
  | .cascadeDisarmReceived => Sys2Proof.Machine.execCascadeDisarmReceived s
  | .cascadeArmTimeout => Sys2Proof.Machine.execCascadeArmTimeout s
  | .pairReady ini pair => Sys2Proof.Machine.execPairReady ini pair s
  | .trapezeReadyTimeout pair => Sys2Proof.Machine.execTrapezeReadyTimeout pair s
  | .openWireRequest ini => Sys2Proof.Machine.execOpenWireRequest ini s
  | .openWireStart => Sys2Proof.Machine.execOpenWireStart s
  | .openWirePhase => Sys2Proof.Machine.execOpenWirePhase s
  | .openWireEnd => Sys2Proof.Machine.execOpenWireEnd s
  | .openWireResult => Sys2Proof.Machine.execOpenWireResult s
  | .quietPauseStart => Sys2Proof.Machine.execQuietPauseStart s
  | .quietInstant codes => Sys2Proof.Machine.execQuietInstant codes s
  | .ocComparatorCrossing discharge copyY microvolt => Sys2Proof.Machine.execOcComparatorCrossing discharge copyY microvolt s
  | .ocGlitchFilterExpiry discharge copyY => Sys2Proof.Machine.execOcGlitchFilterExpiry discharge copyY s
  | .ocSelftestStart => Sys2Proof.Machine.execOcSelftestStart s
  | .ocSelftestEnd trippedChg trippedDis => Sys2Proof.Machine.execOcSelftestEnd trippedChg trippedDis s
  | .isolationRequest ini => Sys2Proof.Machine.execIsolationRequest ini s
  | .isolationRunStart => Sys2Proof.Machine.execIsolationRunStart s
  | .isolationStateTimeout => Sys2Proof.Machine.execIsolationStateTimeout s
  | .isoBEngage => Sys2Proof.Machine.execIsoBEngage s
  | .isolationResult => Sys2Proof.Machine.execIsolationResult s
  | .lane0Transmit => Sys2Proof.Machine.execLane0Transmit s
  | .setPacketReceived p => Sys2Proof.Machine.execSetPacketReceived p s
  | .frameRecordReceived r => Sys2Proof.Machine.execFrameRecordReceived r s
  | .heartbeatReceived crcOk leadTick chgforb => Sys2Proof.Machine.execHeartbeatReceived crcOk leadTick chgforb s
  | .accessPacketReceived crcOk op dst => Sys2Proof.Machine.execAccessPacketReceived crcOk op s dst
  | .accessReplyReceived dev crcOk op => Sys2Proof.Machine.execAccessReplyReceived dev crcOk op s
  | .xferCompletionWindowEnd => Sys2Proof.Machine.execXferCompletionWindowEnd s
  | .frameMarkerSend => Sys2Proof.Machine.execFrameMarkerSend s
  | .frameMarkerReceived word => Sys2Proof.Machine.execFrameMarkerReceived word s
  | .syncEdge offset => Sys2Proof.Machine.execSyncEdge offset s
  | .missedFrame => Sys2Proof.Machine.execMissedFrame s
  | .syncWakePattern => Sys2Proof.Machine.execSyncWakePattern s
  | .enumerationStart => Sys2Proof.Machine.execEnumerationStart s
  | .enumTokenReceived reverse count crcOk => Sys2Proof.Machine.execEnumTokenReceived reverse count crcOk s
  | .enumTokenTimeout => Sys2Proof.Machine.execEnumTokenTimeout s
  | .enumRetry => Sys2Proof.Machine.execEnumRetry s
  | .singleDeviceEnumTimeout => Sys2Proof.Machine.execSingleDeviceEnumTimeout s
  | .enumRequest ini => Sys2Proof.Machine.execEnumRequest ini s
  | .noLeadTimeout => Sys2Proof.Machine.execNoLeadTimeout s
  | .foreignSyncDetected => Sys2Proof.Machine.execForeignSyncDetected s
  | .hopLockLost hop => Sys2Proof.Machine.execHopLockLost hop s
  | .hopLockGained hop => Sys2Proof.Machine.execHopLockGained hop s
  | .ringGapClosed => Sys2Proof.Machine.execRingGapClosed s
  | .followerLost dev => Sys2Proof.Machine.execFollowerLost dev s
  | .followerLossTrip dev => Sys2Proof.Machine.execFollowerLossTrip dev s
  | .leadLost => Sys2Proof.Machine.execLeadLost s
  | .leadLossTrip => Sys2Proof.Machine.execLeadLossTrip s
  | .tripRecognised => Sys2Proof.Machine.execTripRecognised s
  | .tripReadbackCheck released => Sys2Proof.Machine.execTripReadbackCheck released s
  | .tripReleased => Sys2Proof.Machine.execTripReleased s
  | .estimatorRunDone => Sys2Proof.Machine.execEstimatorRunDone s
  | .tableDataWrite ini val => Sys2Proof.Machine.execTableDataWrite ini val s
  | .estCaprst ini => Sys2Proof.Machine.execEstCaprst ini s
  | .estReinit ini => Sys2Proof.Machine.execEstReinit ini s
  | .estJwrite ini => Sys2Proof.Machine.execEstJwrite ini s
  | .estResync ini => Sys2Proof.Machine.execEstResync ini s
  | .journalPeriod => Sys2Proof.Machine.execJournalPeriod s
  | .journalWriteStart => Sys2Proof.Machine.execJournalWriteStart s
  | .journalWriteDone => Sys2Proof.Machine.execJournalWriteDone s
  | .estCellSelect ini cell => Sys2Proof.Machine.execEstCellSelect ini cell s
  | .eisSweepRequest ini => Sys2Proof.Machine.execEisSweepRequest ini s
  | .eisAbort ini => Sys2Proof.Machine.execEisAbort ini s
  | .eisTcal ini => Sys2Proof.Machine.execEisTcal ini s
  | .eisResultSelect ini point cell => Sys2Proof.Machine.execEisResultSelect ini point cell s
  | .eisWindowEnd => Sys2Proof.Machine.execEisWindowEnd s
  | .eisProcessingDone => Sys2Proof.Machine.execEisProcessingDone s
  | .eisResultDeadline => Sys2Proof.Machine.execEisResultDeadline s
  | .excitationStopTimeout => Sys2Proof.Machine.execExcitationStopTimeout s
  | .thermistorSample input code => Sys2Proof.Machine.execThermistorSample input code s
  | .thermalModelRunDone => Sys2Proof.Machine.execThermalModelRunDone s
  | .neighbourMapWrite ini val => Sys2Proof.Machine.execNeighbourMapWrite ini val s
  | .thmCellSelect ini cell => Sys2Proof.Machine.execThmCellSelect ini cell s
  | .dieStage3HardStop => Sys2Proof.Machine.execDieStage3HardStop s
  | .thermalRestart => Sys2Proof.Machine.execThermalRestart s
  | .driveClose ini => Sys2Proof.Machine.execDriveClose ini s
  | .driveOpen ini => Sys2Proof.Machine.execDriveOpen ini s
  | .chargeClose ini => Sys2Proof.Machine.execChargeClose ini s
  | .chargeOpen ini => Sys2Proof.Machine.execChargeOpen ini s
  | .auxOn ini => Sys2Proof.Machine.execAuxOn ini s
  | .auxOff ini => Sys2Proof.Machine.execAuxOff ini s
  | .faultClear ini => Sys2Proof.Machine.execFaultClear ini s
  | .ctsGrantTimeout => Sys2Proof.Machine.execCtsGrantTimeout s
  | .probeTimerEnd => Sys2Proof.Machine.execProbeTimerEnd s
  | .closeTimerEnd => Sys2Proof.Machine.execCloseTimerEnd s
  | .gapTimerEnd => Sys2Proof.Machine.execGapTimerEnd s
  | .rampTimerEnd => Sys2Proof.Machine.execRampTimerEnd s
  | .matchTimerEnd => Sys2Proof.Machine.execMatchTimerEnd s
  | .cooldownEnd => Sys2Proof.Machine.execCooldownEnd s
  | .ctsSample v1 v2 v3 v4 ish1 offset => Sys2Proof.Machine.execCtsSample v1 v2 v3 v4 ish1 offset s
  | .ctsSampleMissing => Sys2Proof.Machine.execCtsSampleMissing s
  | .cmdSet ini mask => Sys2Proof.Machine.execCmdSet ini mask s
  | .cmdClear ini mask => Sys2Proof.Machine.execCmdClear ini mask s
  | .rampComplete ch => Sys2Proof.Machine.execRampComplete ch s
  | .inrushExpiry ch => Sys2Proof.Machine.execInrushExpiry ch s
  | .channelShort ch => Sys2Proof.Machine.execChannelShort ch s
  | .junctionOvertemp ch => Sys2Proof.Machine.execJunctionOvertemp ch s
  | .clampConducted ch => Sys2Proof.Machine.execClampConducted ch s
  | .channelCurrentReading mA hot clusters => Sys2Proof.Machine.execChannelCurrentReading mA hot clusters s
  | .crankDiagResume => Sys2Proof.Machine.execCrankDiagResume s
  | .clusterOvertemp c => Sys2Proof.Machine.execClusterOvertemp c s
  | .clusterShedStep c hot => Sys2Proof.Machine.execClusterShedStep c s hot
  | .clusterCooled c => Sys2Proof.Machine.execClusterCooled c s
  | .testPulseStart => Sys2Proof.Machine.execTestPulseStart s
  | .testPulseEnd mA reached => Sys2Proof.Machine.execTestPulseEnd mA reached s
  | .lhInputChange inp high => Sys2Proof.Machine.execLhInputChange inp high s
  | .hostRequestWrite ini req => Sys2Proof.Machine.execHostRequestWrite ini req s
  | .safetyNetRelease ini => Sys2Proof.Machine.execSafetyNetRelease ini s
  | .lhmLock ini => Sys2Proof.Machine.execLhmLock ini s
  | .balancingPatternWrite ini upper val => Sys2Proof.Machine.execBalancingPatternWrite ini upper val s
  | .balancingStop ini => Sys2Proof.Machine.execBalancingStop ini s
  | .balHalfPeriod => Sys2Proof.Machine.execBalHalfPeriod s
  | .balCmdTimeout => Sys2Proof.Machine.execBalCmdTimeout s
  | .pumpStart ini => Sys2Proof.Machine.execPumpStart ini s
  | .pumpStop ini => Sys2Proof.Machine.execPumpStop ini s
  | .pumpSetpointWrite ini demand => Sys2Proof.Machine.execPumpSetpointWrite ini demand s
  | .pumpCurrentLoop vbatMV rpm angleErrDeg emfUV locked idq => Sys2Proof.Machine.execPumpCurrentLoop vbatMV rpm angleErrDeg emfUV locked idq s
  | .pumpShuntOvercurrent shuntUV => Sys2Proof.Machine.execPumpShuntOvercurrent s shuntUV
  | .listenEnd rpm => Sys2Proof.Machine.execListenEnd rpm s
  | .phaseNodeOvervoltage phMV vbatMV => Sys2Proof.Machine.execPhaseNodeOvervoltage s phMV vbatMV
  | .brakeTimeout rpm => Sys2Proof.Machine.execBrakeTimeout rpm s
  | .alignEnd => Sys2Proof.Machine.execAlignEnd s
  | .zeroVectorEnd => Sys2Proof.Machine.execZeroVectorEnd s
  | .retryDelayEnd => Sys2Proof.Machine.execRetryDelayEnd s
  | .runAttemptReset => Sys2Proof.Machine.execRunAttemptReset s
  | .gateSupplyFault vgdMV bootMV => Sys2Proof.Machine.execGateSupplyFault vgdMV s bootMV
  | .gateSupplyRecovery => Sys2Proof.Machine.execGateSupplyRecovery s
  | .pairMismatch pair addr => Sys2Proof.Machine.execPairMismatch pair addr s
  | .compareUnitFault pair parity addr => Sys2Proof.Machine.execCompareUnitFault pair parity s addr
  | .comparatorFrameTest pair c1 c2 parity => Sys2Proof.Machine.execComparatorFrameTest pair c1 c2 parity s
  | .checkpointComplete archA archB => Sys2Proof.Machine.execCheckpointComplete archA archB s
  | .pairHaltEnd => Sys2Proof.Machine.execPairHaltEnd s
  | .pairRestartRequest ini pair => Sys2Proof.Machine.execPairRestartRequest ini pair s
  | .restoreComplete pair => Sys2Proof.Machine.execRestoreComplete pair s
  | .restartTimeout pair => Sys2Proof.Machine.execRestartTimeout pair s
  | .debugHalt ini pair => Sys2Proof.Machine.execDebugHalt ini pair s
  | .debugResume ini pair => Sys2Proof.Machine.execDebugResume ini pair s
  | .debugStep ini pair => Sys2Proof.Machine.execDebugStep ini pair s
  | .memoryAccessFault pair write addr => Sys2Proof.Machine.execMemoryAccessFault pair write addr s
  | .eccError pair mram corrected addr => Sys2Proof.Machine.execEccError pair mram corrected addr s
  | .programRegionWrite ini addr val => Sys2Proof.Machine.execProgramRegionWrite ini addr val s
  | .dataMramStore pair addr val => Sys2Proof.Machine.execDataMramStore pair addr val s
  | .regionVerify ini => Sys2Proof.Machine.execRegionVerify ini s
  | .regionVerifyDone => Sys2Proof.Machine.execRegionVerifyDone s
  | .svnminWrite ini min => Sys2Proof.Machine.execSvnminWrite ini min s
  | .keyRevoke ini mask => Sys2Proof.Machine.execKeyRevoke ini mask s
  | .dbglockSet ini => Sys2Proof.Machine.execDbglockSet ini s
  | .otpKeyWrite ini val => Sys2Proof.Machine.execOtpKeyWrite ini val s
  | .canInitWrite ini ch init => Sys2Proof.Machine.execCanInitWrite ini ch init s
  | .canLomWrite ini ch lom => Sys2Proof.Machine.execCanLomWrite ini ch lom s
  | .canAbdStart ini ch => Sys2Proof.Machine.execCanAbdStart ini ch s
  | .canAbdDone ch nrate drate => Sys2Proof.Machine.execCanAbdDone ch nrate drate s
  | .canAbdTimeout ch => Sys2Proof.Machine.execCanAbdTimeout ch s
  | .objectReq ini ch => Sys2Proof.Machine.execObjectReq ini ch s
  | .objectCancel ini ch => Sys2Proof.Machine.execObjectCancel ini ch s
  | .objectAck ini ch => Sys2Proof.Machine.execObjectAck ini ch s
  | .objectWord0Write ini ch val => Sys2Proof.Machine.execObjectWord0Write ini ch val s
  | .fifoPush ini => Sys2Proof.Machine.execFifoPush ini s
  | .fifoClear ini => Sys2Proof.Machine.execFifoClear ini s
  | .canFrameReceived ch f => Sys2Proof.Machine.execCanFrameReceived ch f s
  | .canStartOfFrame ch => Sys2Proof.Machine.execCanStartOfFrame ch s
  | .canTxSuccess ch tdcv => Sys2Proof.Machine.execCanTxSuccess ch tdcv s
  | .canTxAttemptFailed ch arbitration => Sys2Proof.Machine.execCanTxAttemptFailed ch arbitration s
  | .cantxWindowEnd ch obj => Sys2Proof.Machine.execCantxWindowEnd ch obj s
  | .canErrorStateChange ch tec rec => Sys2Proof.Machine.execCanErrorStateChange ch tec rec s
  | .busOffRecovered ch => Sys2Proof.Machine.execBusOffRecovered ch s
  | .canEdgeWake ch lowUS => Sys2Proof.Machine.execCanEdgeWake ch s lowUS
  | .canWakeFrame xtd id fd crcOk => Sys2Proof.Machine.execCanWakeFrame xtd id fd crcOk s
  | .ticketExpiry con => Sys2Proof.Machine.execTicketExpiry con s
  | .hostReadSeq => Sys2Proof.Machine.execHostReadSeq s
  | .hostWrite addr data => Sys2Proof.Machine.execHostWrite addr data s
  | .spiWordComplete mosi => Sys2Proof.Machine.execSpiWordComplete mosi s
  | .spiDeselect bits => Sys2Proof.Machine.execSpiDeselect bits s
  | .hirqTimeout => Sys2Proof.Machine.execHirqTimeout s
  | .backBufferWrite ini val => Sys2Proof.Machine.execBackBufferWrite ini val s
  | .backBufferDone ini => Sys2Proof.Machine.execBackBufferDone ini s
  | .tickRead ini => Sys2Proof.Machine.execTickRead ini s
  | .tickWrapSave => Sys2Proof.Machine.execTickWrapSave s
  | .gapAttest ini secs => Sys2Proof.Machine.execGapAttest ini secs s
  | .bbxSwPush ini => Sys2Proof.Machine.execBbxSwPush ini s
  | .bbxFreezeCommand ini => Sys2Proof.Machine.execBbxFreezeCommand ini s
  | .bbxRelease ini => Sys2Proof.Machine.execBbxRelease ini s
  | .snapshot => Sys2Proof.Machine.execSnapshot s
  | .freezeCopyStart => Sys2Proof.Machine.execFreezeCopyStart s
  | .freezeBlockDone => Sys2Proof.Machine.execFreezeBlockDone s
  | .vbatPause => Sys2Proof.Machine.execVbatPause s
  | .vbatPauseReturn => Sys2Proof.Machine.execVbatPauseReturn s
  | .pauseLimit => Sys2Proof.Machine.execPauseLimit s
  | .brownoutWarning => Sys2Proof.Machine.execBrownoutWarning s
  | .brownoutWarningEnd => Sys2Proof.Machine.execBrownoutWarningEnd s
  | .brownoutTimeout => Sys2Proof.Machine.execBrownoutTimeout s
  | .holdupExhausted => Sys2Proof.Machine.execHoldupExhausted s
  | .vbatOvervoltage vbatMV => Sys2Proof.Machine.execVbatOvervoltage vbatMV s
  | .alwaysOnLoss => Sys2Proof.Machine.execAlwaysOnLoss s
  | .holdupMeasure vholdMV slow => Sys2Proof.Machine.execHoldupMeasure vholdMV slow s
  | .holdupFault => Sys2Proof.Machine.execHoldupFault s
  | .coreSupplyFailure => Sys2Proof.Machine.execCoreSupplyFailure s
  | .clockFailure => Sys2Proof.Machine.execClockFailure s
  | .pllRestart => Sys2Proof.Machine.execPllRestart s
  | .pllLocked => Sys2Proof.Machine.execPllLocked s
  | .measDieWarmup => Sys2Proof.Machine.execMeasDieWarmup s
  | .sleepExitResume => Sys2Proof.Machine.execSleepExitResume s
  | .nrstAssert => Sys2Proof.Machine.execNrstAssert s
  | .nrstRelease => Sys2Proof.Machine.execNrstRelease s
  | .powerOn lhcfg => Sys2Proof.Machine.execPowerOn lhcfg s
  | .resetRelease lead => Sys2Proof.Machine.execResetRelease lead s
  | .bootRecords => Sys2Proof.Machine.execBootRecords s
  | .bootHoldupTimeout => Sys2Proof.Machine.execBootHoldupTimeout s
  | .bootVerifyDone => Sys2Proof.Machine.execBootVerifyDone s
  | .watchdogService ini pair key => Sys2Proof.Machine.execWatchdogService ini pair key s
  | .watchdogExpiry pair => Sys2Proof.Machine.execWatchdogExpiry pair s
  | .watchdogHoldEnd => Sys2Proof.Machine.execWatchdogHoldEnd s
  | .eventPendingClear ini page mask => Sys2Proof.Machine.execEventPendingClear ini page mask s
  | .eventForce ini page mask => Sys2Proof.Machine.execEventForce ini page mask s
  | .pageLock ini page => Sys2Proof.Machine.execPageLock ini page s
  | .jtagIdcode => Sys2Proof.Machine.execJtagIdcode s
  | .jtagSamplePreload capture preload => Sys2Proof.Machine.execJtagSamplePreload capture preload s
  | .jtagExtest => Sys2Proof.Machine.execJtagExtest s
  | .jtagDbgacc write addr data => Sys2Proof.Machine.execJtagDbgacc write addr data s
  | .jtagBypass code => Sys2Proof.Machine.execJtagBypass code s
  | .pwmPeriodStart => Sys2Proof.Machine.execPwmPeriodStart s
  | .vdsLimitReached phMV => Sys2Proof.Machine.execVdsLimitReached s phMV
  | .gateSupplyReturn vgdMV bootMV => Sys2Proof.Machine.execGateSupplyReturn s vgdMV bootMV
  | .coreSupplyReturn => Sys2Proof.Machine.execCoreSupplyReturn s
  | .crystalRecovered => Sys2Proof.Machine.execCrystalRecovered s
  | .canBusIntegrated ch => Sys2Proof.Machine.execCanBusIntegrated ch s
  | .canReceiveError ch tec rec => Sys2Proof.Machine.execCanReceiveError ch tec rec s
  | .tckActivity => Sys2Proof.Machine.execTckActivity s
  | .tckIdleTimeout => Sys2Proof.Machine.execTckIdleTimeout s

end Sys2Proof.Machine
end

