-- ==== Sys2Proof/Machine/Step.lean ====
section
/-!
DEFINITION. One step of the block: the command at the front of the queue, or one tick of time when none waits.
-/
namespace Sys2Proof.Machine

/-- One tick passes with no command (assumption 10). -/
def idle (s : State) : State := s.advanceTo (s.now + 1)

/-- Take the command at the front of the queue and run it on the state with the queue's rest; an empty queue lets one
tick pass. -/
def step (s : State) : Host.Outcome State Fault Refusal :=
  match s.pending with
  | [] => .next (idle s)
  | c :: rest => exec c { s with pending := rest }

/-- `s` with the command that the word spells put at the front of its queue (the table spells none, assumption 9). -/
def State.withFetchWord (s : State) (nbits w : Nat) : State :=
  match decodeTableWord nbits w with
  | some c => { s with pending := c :: s.pending }
  | none => s

end Sys2Proof.Machine
end

