-- ==== Sys2Proof/Safety.lean ====
section
/-!
DEFINITION. What counts as a safe state of the block, in the terms that statements use.
-/
namespace Sys2Proof.Machine

/-- The canonical form of the state's two sparse stores: register words and addressed memory. -/
def State.canon (s : State) : Bool := kwf resetWord s.regs && Memory.wf s.mem

/-- What every operation keeps: the canonical form, a time that never runs back, the build (R1) and the queue. -/
structure Keeps (s t : State) : Prop where
  canon : s.canon = true → t.canon = true
  time : s.now ≤ t.now
  build : t.full = s.full
  queue : t.pending = s.pending

/-- The block made a next state: no fault and no refusal. -/
def Runs (r : Result) : Prop := ∃ t, r = .next t

/-- The block made a next state that has a property. -/
def Gives (r : Result) (p : State → Prop) : Prop := ∃ t, r = .next t ∧ p t

/-- A word that neither a record nor a raised event writes: no event word of a page and no counter of the black box. -/
def quiet (a : Nat) : Bool :=
  a % 0x1000 != 0x10 && a % 0x1000 != 0x18 && a != Reg.BBX_RECPTR && a != Reg.BBX_RECNUM && a != Reg.BBX_DROPS

/-- Every register word outside the list is what it was. -/
def WordsKept (l : List Nat) (s t : State) : Prop := ∀ a, a ∉ l → t.word a = s.word a

/-- Every register word outside the list is what it was, but for those that events and records write. -/
def QuietWordsKept (l : List Nat) (s t : State) : Prop := ∀ a, quiet a = true → a ∉ l → t.word a = s.word a

/-- Every byte of memory outside the record ring is what it was (Table 14.4). -/
def BytesKept (s t : State) : Prop := ∀ a, (a < 0x12000000 ∨ 0x12020000 ≤ a) → t.byte a = s.byte a

end Sys2Proof.Machine
end

