-- ==== Sys2Proof/Certificates/Slice0/Obligations.lean ====
section
/-!
DEFINITION. The statements about the block that the provers settle.
-/
open Sys2Proof Sys2Proof.Machine

/-- A step runs the command at the front of the queue -/
def Obligations.StepRunsFrontCommand : Prop :=
  ∀ (c : Instr) (q : List Instr) (s : State),
    step { s with pending := c :: q } = exec c { s with pending := q }

/-- With no command waiting one tick passes (the model's choice, log entry 10) -/
def Obligations.EmptyQueueIdles : Prop :=
  ∀ s : State, s.pending = [] → step s = .next { s with now := s.now + 1, tick := s.tick + 1 }

/-- The state after reset has its stores in canonical form and no command waiting -/
def Obligations.ResetIsCanonical : Prop :=
  State.reset.canon = true ∧ State.reset.pending = [] ∧ State.reset.mem = []

/-- Every step keeps the register words and the memory in canonical form -/
def Obligations.StepKeepsCanonicalStores : Prop :=
  ∀ s t : State, s.canon = true → step s = .next t → t.canon = true

/-- No command changes the queue or the build, and model time never runs back -/
def Obligations.CommandsKeepQueueBuildAndTime : Prop :=
  ∀ (c : Instr) (s t : State), exec c s = .next t →
    t.pending = s.pending ∧ t.full = s.full ∧ s.now ≤ t.now

/-- Every command completes: none ends in a fault or a refusal -/
def Obligations.EveryCommandCompletes : Prop :=
  ∀ (c : Instr) (s : State), Runs (exec c s)

/-- TICK is read whole, saved at its wrap, and a gap is attested once -/
def Obligations.TimebaseCommands : Prop :=
  (∀ (ini : Ini) (s : State), Gives (exec (.tickRead ini) s) fun t =>
    t.get Reg.TMB_TICKLO_TICK = s.tick % 2 ^ 32 ∧ t.get Reg.TMB_TICKHI_TICK = s.tick / 2 ^ 32 % 2 ^ 32 ∧
    WordsKept [Reg.TMB_TICKLO, Reg.TMB_TICKHI] s t ∧ t.mem = s.mem ∧ t.tick = s.tick) ∧
  (∀ s : State, Gives (exec .tickWrapSave s) fun t =>
    t.tick % 2 ^ 32 = 0 ∧ s.tick ≤ t.tick ∧ t.tick < s.tick + 2 ^ 32 ∧ t.ret.tick = t.tick ∧ t.ret.saved = true ∧
    t.regs = s.regs ∧ t.mem = s.mem) ∧
  (∀ (ini : Ini) (secs : Word) (s : State), s.flag Reg.TMB_GAPSTAT_ATTESTED = false → secs ≠ 0 →
    Gives (exec (.gapAttest ini secs) s) fun t =>
      t.flag Reg.TMB_GAPSTAT_ATTESTED = true ∧ t.flag Reg.TMB_GAPSTAT_EXT = true ∧
      t.get Reg.TMB_GAPATT_S = secs.toNat ∧ t.flag Reg.TMB_CAUSE_ATTESTED = true ∧
      QuietWordsKept [Reg.TMB_GAPSTAT, Reg.TMB_GAPATT, Reg.TMB_CAUSE] s t ∧ BytesKept s t) ∧
  (∀ (ini : Ini) (secs : Word) (s : State), s.flag Reg.TMB_GAPSTAT_ATTESTED = true ∨ secs = 0 →
    Gives (exec (.gapAttest ini secs) s) fun t =>
      t.flag Reg.TMB_CAUSE_REFUSED = true ∧ t.get Reg.TMB_GAPATT_S = s.get Reg.TMB_GAPATT_S ∧
      QuietWordsKept [Reg.TMB_CAUSE] s t ∧ BytesKept s t)

/-- A record takes the next slot of the ring, waits in the FIFO while the ring is stopped, or is dropped and counted -/
def Obligations.RecordsEnterTheRing : Prop :=
  ∀ (ini : Ini) (src : Nat) (s : State), (ini = .pairA ∧ src = 0x0A) ∨ (ini = .pairB ∧ src = 0x0B) →
    let r := s.makeRecord 6 src (s.get Reg.BBX_SWREC_DATA) (s.get (Reg.BBX_SWREC_DATA.at 1))
      (s.get (Reg.BBX_SWREC_DATA.at 2))
    (s.sleeping = false → s.alive = true → s.ringStopped = false →
      Gives (exec (.bbxSwPush ini) s) fun t =>
        t.bytes (recordAddr (s.get Reg.BBX_RECPTR_NEXT)) 32 = r.bytes ∧
        t.get Reg.BBX_RECPTR_NEXT = (s.get Reg.BBX_RECPTR_NEXT + 1) % 4096 ∧
        t.get Reg.BBX_RECNUM_NUM = (s.get Reg.BBX_RECNUM_NUM + 1) % 2 ^ 32 ∧
        WordsKept [Reg.BBX_RECPTR, Reg.BBX_RECNUM] s t ∧
        (∀ a, a < recordAddr (s.get Reg.BBX_RECPTR_NEXT) ∨ recordAddr (s.get Reg.BBX_RECPTR_NEXT) + 32 ≤ a →
          t.byte a = s.byte a) ∧ t.freeCtr = s.freeCtr + 1) ∧
    (s.sleeping = false → s.alive = true → s.ringStopped = true → s.bbx.fifo.length < 64 →
      Gives (exec (.bbxSwPush ini) s) fun t =>
        t.bbx.fifo = s.bbx.fifo ++ [r] ∧ t.mem = s.mem ∧ WordsKept [Reg.BBX_RECNUM] s t ∧
        t.get Reg.BBX_RECNUM_NUM = (s.get Reg.BBX_RECNUM_NUM + 1) % 2 ^ 32) ∧
    (s.sleeping = false → s.alive = true → s.ringStopped = true → 64 ≤ s.bbx.fifo.length →
      Gives (exec (.bbxSwPush ini) s) fun t =>
        t.bbx.fifo = s.bbx.fifo ∧ t.mem = s.mem ∧ WordsKept [Reg.BBX_DROPS] s t ∧
        t.get Reg.BBX_DROPS_COUNT = min (s.get Reg.BBX_DROPS_COUNT + 1) (2 ^ Reg.BBX_DROPS_COUNT.wid - 1)) ∧
    (s.sleeping = true → exec (.bbxSwPush ini) s = .next { s with freeCtr := s.freeCtr + 1 })

/-- A freeze command starts a copy or counts as missed; blocks are copied while the hold-up energy lasts; a snapshot takes the next slot -/
def Obligations.FreezeAndSnapshotCommands : Prop :=
  (∀ (ini : Ini) (src : Nat) (s : State), (ini = .pairA ∧ src = 0x0A) ∨ (ini = .pairB ∧ src = 0x0B) →
    (s.bbx.copy = none → (s.flag Reg.BBX_CFG_KEEP = false ∨ s.flag Reg.BBX_STAT_HELD = false) →
      Gives (exec (.bbxFreezeCommand ini) s) fun t =>
        t.get Reg.BBX_FREEZEID_ID = (s.get Reg.BBX_FREEZEID_ID + 1) % 2 ^ Reg.BBX_FREEZEID_ID.wid ∧
        t.get Reg.BBX_FTICK_TICK = s.tick % 2 ^ Reg.BBX_FTICK_TICK.wid ∧ t.flag Reg.BBX_STAT_COPY = true ∧
        t.bbx.copy = some ⟨s.tick, s.now, 5, src, t.get Reg.BBX_FREEZEID_ID, s.get Reg.TMB_GEN_GEN, false, 0⟩) ∧
    (s.bbx.copy.isSome = true ∨ (s.flag Reg.BBX_CFG_KEEP = true ∧ s.flag Reg.BBX_STAT_HELD = true) →
      Gives (exec (.bbxFreezeCommand ini) s) fun t =>
        t.get Reg.BBX_MISSED_COUNT = min (s.get Reg.BBX_MISSED_COUNT + 1) (2 ^ Reg.BBX_MISSED_COUNT.wid - 1) ∧
        t.flag Reg.BBX_CAUSE_MISSED = true ∧ t.bbx.copy = s.bbx.copy ∧
        QuietWordsKept [Reg.BBX_MISSED, Reg.BBX_CAUSE] s t ∧ BytesKept s t)) ∧
  (∀ (ini : Ini) (s : State), Gives (exec (.bbxRelease ini) s) fun t =>
    t.flag Reg.BBX_STAT_HELD = false ∧ WordsKept [Reg.BBX_STAT] s t ∧ t.mem = s.mem ∧
    (s.flag Reg.BBX_STAT_VALID = false → t.ret.freezeId = s.get Reg.BBX_FREEZEID_ID)) ∧
  (∀ s : State, s.get Reg.BBX_CFG_SNAPPER ≠ 0 → s.frame % s.get Reg.BBX_CFG_SNAPPER = 0 → s.cm.running = true →
    s.sleeping = false → s.bbx.copy = none →
    Gives (exec .snapshot s) fun t =>
      t.get Reg.BBX_RECPTR_SNEXT = (s.get Reg.BBX_RECPTR_SNEXT + 1) % 2 ^ Reg.BBX_RECPTR_SNEXT.wid ∧
      WordsKept [Reg.BBX_RECPTR] s t ∧ s.fstart + 20000 ≤ t.now ∧
      ∀ a, a < snapAddr (s.get Reg.BBX_RECPTR_SNEXT) ∨ snapAddr (s.get Reg.BBX_RECPTR_SNEXT) + 0x400 ≤ a →
        t.byte a = s.byte a) ∧
  (∀ (f : Freeze) (s : State), s.bbx.copy = some f → f.started = false → s.power.port = 0 →
    (s.isLead = false ∨ s.power.warnAt = none ∨ s.est.jPend = false ∨ s.get Reg.PWR_HOLDE_UJ < 1200) →
    300 ≤ s.get Reg.PWR_HOLDE_UJ →
    Gives (exec .freezeCopyStart s) fun t =>
      t.bbx.copy = some { f with started := true } ∧ t.power.port = 3 ∧ f.atNow + 8200 ≤ t.now ∧ t.regs = s.regs ∧
      t.mem = s.mem) ∧
  (∀ (f : Freeze) (s : State), s.bbx.copy = some f → f.started = true → s.power.port = 3 → f.blocks < 48 →
    300 ≤ s.get Reg.PWR_HOLDE_UJ →
    Gives (exec .freezeBlockDone s) fun t =>
      t.bbx.copy = some { f with blocks := f.blocks + 1 } ∧ t.regs = s.regs ∧ t.now = s.now + 5120 ∧
      t.mem = ((s.advanceTo (s.now + 5120)).writeFreezeBlock f f.blocks).mem)

/-- Host cycles: a write reaches the mailbox, a read of word 0 lowers HIRQ, SPI words form transactions -/
def Obligations.HostCycleCommands : Prop :=
  (∀ s : State, s.hostMode = 1 → exec .hostReadSeq s = .next { s with hst := { s.hst with hirq := none } }) ∧
  (∀ (addr : Nat) (data : BitVec 16) (s : State), s.hostMode = 1 → addr < 32 →
    Gives (exec (.hostWrite addr data) s) fun t =>
      nget addr t.hst.mb = data.toNat ∧ (∀ k, k ≠ addr → nget k t.hst.mb = nget k s.hst.mb) ∧ t.regs = s.regs ∧
      t.mem = s.mem) ∧
  (∀ (addr : Nat) (data : BitVec 16) (s : State), s.hostMode = 1 → 32 ≤ addr → addr < 4096 →
    Gives (exec (.hostWrite addr data) s) fun t =>
      t.flag Reg.HST_CAUSE_WRADDR = true ∧ t.hst = s.hst ∧ QuietWordsKept [Reg.HST_CAUSE] s t ∧ BytesKept s t) ∧
  (∀ (w : BitVec 16) (s : State), s.hostMode = 2 → s.hst.spi = none →
    exec (.spiWordComplete w) s =
      .next { s with hst := { s.hst with spi := some (w.getLsbD 15, w.toNat % 4096) } }) ∧
  (∀ (w : BitVec 16) (addr : Nat) (s : State), s.hostMode = 2 → s.hst.spi = some (true, addr) →
    Gives (exec (.spiWordComplete w) s) fun t =>
      t.hst.spi = some (true, (addr + 1) % 4096) ∧ t.hst.spiOut = s.liveWord addr ∧ t.hst.mb = s.hst.mb ∧
      (addr = 0 → t.hst.hirq = none) ∧ t.regs = s.regs ∧ t.mem = s.mem) ∧
  (∀ (w : BitVec 16) (addr : Nat) (s : State), s.hostMode = 2 → s.hst.spi = some (false, addr) → addr < 32 →
    Gives (exec (.spiWordComplete w) s) fun t =>
      t.hst.spi = some (false, (addr + 1) % 4096) ∧ nget addr t.hst.mb = w.toNat ∧ t.regs = s.regs ∧ t.mem = s.mem) ∧
  (∀ (bits : Nat) (s : State), s.hostMode = 2 → Gives (exec (.spiDeselect bits) s) fun t =>
      t.hst = { s.hst with spi := none } ∧ (bits % 16 = 0 → t.regs = s.regs ∧ t.mem = s.mem) ∧
      (bits % 16 ≠ 0 → t.flag Reg.HST_CAUSE_SPIERR = true) ∧ QuietWordsKept [Reg.HST_CAUSE] s t ∧ BytesKept s t) ∧
  (∀ (u : Nat) (s : State), s.hst.hirq = some u → Gives (exec .hirqTimeout s) fun t =>
      t.hst = { s.hst with hirq := none } ∧ t.now = max s.now (u + 100000) ∧ t.regs = s.regs ∧ t.mem = s.mem) ∧
  (∀ (addr : Nat) (data w : BitVec 16) (bits : Nat) (s : State), s.hostMode = 0 →
    exec .hostReadSeq s = .next s ∧ exec (.hostWrite addr data) s = .next s ∧
    exec (.spiWordComplete w) s = .next s ∧ exec (.spiDeselect bits) s = .next s)

/-- A pair writes its own words of the back buffer and declares them complete -/
def Obligations.BackBufferCommands : Prop :=
  (∀ (ini : Ini) (v : Word) (s : State), s.isLead = true →
    backRange ini (s.get Reg.HST_BBADDR_INDEX / 2 * 2) = true →
    let i := s.get Reg.HST_BBADDR_INDEX / 2 * 2
    Gives (exec (.backBufferWrite ini v) s) fun t =>
      nget i t.hst.back = v.toNat % 65536 ∧ nget (i + 1) t.hst.back = v.toNat / 65536 ∧
      (∀ k, k ≠ i → k ≠ i + 1 → nget k t.hst.back = nget k s.hst.back) ∧
      t.get Reg.HST_BBADDR_INDEX = (i + 2) % 4096 ∧ WordsKept [Reg.HST_BBADDR] s t ∧ t.mem = s.mem) ∧
  (∀ s : State, s.isLead = true →
    exec (.backBufferDone .pairA) s = .next { s with hst := { s.hst with doneA := true } } ∧
    exec (.backBufferDone .pairB) s = .next { s with hst := { s.hst with doneB := true } }) ∧
  (∀ (ini : Ini) (v : Word) (s : State), s.full = true → s.isLead = false →
    exec (.backBufferWrite ini v) s = .next s ∧ exec (.backBufferDone ini) s = .next s)

/-- Program regions, data MRAM and the one-time-programmable words are written only as the rules allow -/
def Obligations.ProgramMemoryCommands : Prop :=
  (∀ (ini : Ini) (addr : Nat) (v : Word) (s : State), addr < 0x800000 → ini ≠ .debug →
    s.regionActive (addr / 0x200000) = false → s.bit Reg.NVM_PGMWE_WE (addr / 0x200000) = true → s.stg.mask = 0 →
    Gives (exec (.programRegionWrite ini addr v) s) fun t =>
      t.get (regstatField (addr / 0x200000)) = 0 ∧ t.mem = (s.setMemWord addr v.toNat).mem ∧
      WordsKept [Reg.NVM_REGSTAT] s t) ∧
  (∀ (ini : Ini) (addr : Nat) (v : Word) (s : State), ini = .debug ∨ s.regionActive (addr / 0x200000) = true ∨
    s.bit Reg.NVM_PGMWE_WE (addr / 0x200000) = false →
    exec (.programRegionWrite ini addr v) s = .next (s.accessFault ini true addr) ∧
    BytesKept s (s.accessFault ini true addr)) ∧
  (∀ (p : Pair) (addr : Nat) (v : Word) (s : State), s.pairRuns p = true → dataWritable addr = true →
    s.portBusy = false → exec (.dataMramStore p addr v) s = .next (s.setMemWord addr v.toNat)) ∧
  (∀ (p : Pair) (addr : Nat) (v : Word) (s : State), s.pairRuns p = true → dataWritable addr = false →
    Gives (exec (.dataMramStore p addr v) s) fun t => (t.core p).mcause = 7 ∧ t.regs = s.regs ∧ t.mem = s.mem) ∧
  (∀ (ini : Ini) (s : State), s.nvm.verify = none → Gives (exec (.regionVerify ini) s) fun t =>
      t.nvm.verify = some (s.get Reg.NVM_VSEL_REGION) ∧ t.flag Reg.NVM_STAT_VBUSY = true ∧
      t.get (regstatField (s.get Reg.NVM_VSEL_REGION)) = 1 ∧ t.mem = s.mem) ∧
  (∀ (r : Nat) (s : State), s.nvm.verify = some r → r < 4 → Gives (exec .regionVerifyDone s) fun t =>
      t.nvm.verify = none ∧ t.flag Reg.NVM_STAT_VBUSY = false ∧ t.mem = s.mem ∧
      (s.get (regstatField r) = 1 → t.get (regstatField r) = (if s.regionOk r then 2 else 3)) ∧
      (s.get (regstatField r) ≠ 1 → t.get (regstatField r) = s.get (regstatField r)) ∧
      WordsKept [Reg.NVM_STAT, Reg.NVM_REGSTAT, Reg.NVM_REGSVN] s t) ∧
  (∀ (ini : Ini) (v : Nat) (s : State), v % 64 ≤ s.get Reg.NVM_SVN_MIN → exec (.svnminWrite ini v) s = .next s) ∧
  (∀ (ini : Ini) (v : Nat) (s : State), s.get Reg.NVM_SVN_MIN < v % 64 →
    (∀ p : Pair, v % 64 ≤ s.num (regionBase (s.activeRegion p) + 0x10) 1) →
    Gives (exec (.svnminWrite ini v) s) fun t =>
      t.get Reg.NVM_SVN_MIN = v % 64 ∧ WordsKept [Reg.NVM_SVN] s t ∧ t.mem = s.mem) ∧
  (∀ (ini : Ini) (m : Nat) (s : State), m % 4 ≠ 0 →
    (∀ p : Pair, (m % 4).testBit (s.num (regionBase (s.activeRegion p) + 7) 1) = false) →
    (∃ k, k < 2 ∧ s.keyUsable k = true ∧ m.testBit k = false) →
    Gives (exec (.keyRevoke ini m) s) fun t =>
      t.get Reg.NVM_KEYREV_REV = s.get Reg.NVM_KEYREV_REV ||| m % 4 ∧ WordsKept [Reg.NVM_KEYREV] s t ∧ t.mem = s.mem) ∧
  (∀ (ini : Ini) (s : State), Gives (exec (.dbglockSet ini) s) fun t =>
      t.flag Reg.NVM_SECCFG_DBGLOCK = true ∧ WordsKept [Reg.NVM_SECCFG] s t ∧ t.mem = s.mem) ∧
  (∀ (ini : Ini) (v : Word) (s : State),
    (s.slotBlank (s.get Reg.NVM_OTPADDR_INDEX / 16) = true → nget (s.get Reg.NVM_OTPADDR_INDEX) s.nvm.key = 0 →
      Gives (exec (.otpKeyWrite ini v) s) fun t => t.otpRead = v ∧ t.regs = s.regs ∧ t.mem = s.mem ∧
        ∀ k, k ≠ s.get Reg.NVM_OTPADDR_INDEX → nget k t.nvm.key = nget k s.nvm.key) ∧
    (nget (s.get Reg.NVM_OTPADDR_INDEX) s.nvm.key ≠ 0 → exec (.otpKeyWrite ini v) s = .next s))

/-- DBGLOCK is never cleared and SVNMIN never falls by their commands -/
def Obligations.RegisterAccessLocks : Prop :=
  (∀ (ini : Ini) (v : Nat) (s : State), Gives (exec (.svnminWrite ini v) s) fun t =>
    s.get Reg.NVM_SVN_MIN ≤ t.get Reg.NVM_SVN_MIN ∧ t.nvm.key = s.nvm.key) ∧
  (∀ (ini : Ini) (m i : Nat) (s : State), s.bit Reg.NVM_KEYREV_REV i = true →
    Gives (exec (.keyRevoke ini m) s) fun t => t.bit Reg.NVM_KEYREV_REV i = true ∧ t.nvm.key = s.nvm.key) ∧
  (∀ (ini : Ini) (v : Word) (s : State), Gives (exec (.otpKeyWrite ini v) s) fun t =>
    t.regs = s.regs ∧ ∀ k, nget k s.nvm.key ≠ 0 → nget k t.nvm.key = nget k s.nvm.key) ∧
  (∀ (ini : Ini) (v m : Nat) (w : Word) (s : State), s.flag Reg.NVM_SECCFG_DBGLOCK = true →
    Gives (exec (.dbglockSet ini) s) (fun t => t.flag Reg.NVM_SECCFG_DBGLOCK = true) ∧
    Gives (exec (.svnminWrite ini v) s) (fun t => t.flag Reg.NVM_SECCFG_DBGLOCK = true) ∧
    Gives (exec (.keyRevoke ini m) s) (fun t => t.flag Reg.NVM_SECCFG_DBGLOCK = true) ∧
    Gives (exec (.otpKeyWrite ini w) s) (fun t => t.flag Reg.NVM_SECCFG_DBGLOCK = true))

/-- Image loads, the ends of tasks, and what an overrun does -/
def Obligations.TimetableCommands : Prop :=
  (∀ (ini : Ini) (buf : Bool) (s : State), s.tt.active ≠ some buf.toNat → s.tt.loading = none → s.stg.mask = 0 →
    Gives (exec (.imageLoad ini buf true) s) fun t =>
      t.tt.loading = some (buf.toNat, s.get Reg.TT_LOADADDR_ADDR) ∧ t.loadState buf.toNat = 1 ∧
      t.tt.bufs = s.tt.bufs.set buf.toNat none ∧ WordsKept [Reg.TT_LOADSTAT] s t ∧ t.mem = s.mem) ∧
  (∀ (ini : Ini) (buf go : Bool) (s : State), go = false ∨ s.tt.active = some buf.toNat ∨ s.tt.loading.isSome = true →
    exec (.imageLoad ini buf go) s = .next s) ∧
  (∀ (buf a : Nat) (s : State), s.tt.loading = some (buf, a) → buf < 2 → s.alive = true →
    Gives (exec .imageLoadDone s) fun t => t.tt.loading = none ∧
      if s.imageReason a = 0 then
        t.loadState buf = 2 ∧ t.tt.bufs = s.tt.bufs.set buf (some (s.imageAt a)) ∧
        WordsKept [Reg.TT_LOADSTAT] s t ∧ t.mem = s.mem
      else
        t.loadState buf = 3 ∧ t.tt.bufs = s.tt.bufs ∧ t.raised Ev.TT_IMAGE_REFUSED = true ∧
        QuietWordsKept [Reg.TT_LOADSTAT] s t ∧ BytesKept s t) ∧
  (∀ (p : Pair) (e : Nat) (k : Task) (s : State), s.taskOf e = some k → k.pair = p → k.killed = none → k.budget ≠ 0 →
    s.now < k.rel + k.budget → Gives (exec (.taskDone p.ini p e) s) fun t =>
      t.taskOf e = none ∧ nget e t.tt.overruns = 0 ∧ t.regs = s.regs ∧ t.mem = s.mem) ∧
  (∀ (p : Pair) (e u : Nat) (k : Task) (s : State), s.taskOf e = some k → k.pair = p → k.killed = some u →
    s.now < u + 1000 → Gives (exec (.killAck p.ini p e) s) fun t =>
      t.taskOf e = none ∧ (t.core p).killTrap = false ∧ t.regs = s.regs ∧ t.mem = s.mem) ∧
  (∀ (e : Nat) (k : Task) (s : State), s.taskOf e = some k → k.killed = none → k.budget ≠ 0 →
    nget e s.tt.overruns + 1 < s.ovrLimit → Gives (exec (.taskOverrun e) s) fun t =>
      nget e t.tt.overruns = nget e s.tt.overruns + 1 ∧ (t.core k.pair).killTrap = true ∧
      t.get Reg.TT_OVRSTAT_ENTRY = e % 2 ^ Reg.TT_OVRSTAT_ENTRY.wid ∧
      t.get Reg.TT_OVRSTAT_COUNT = min 15 (nget e s.tt.overruns + 1) ∧ k.rel + k.budget ≤ t.now ∧
      (∀ u, u ∈ t.tt.tasks → u.entry = e → u.killed = some t.now) ∧
      QuietWordsKept [Reg.TT_OVRSTAT] s t ∧ BytesKept s t) ∧
  (∀ (e u : Nat) (k : Task) (s : State), s.taskOf e = some k → k.killed = some u →
    exec (.killAckTimeout e) s = .next ((s.advanceTo (u + 1000)).escalate k)) ∧
  (∀ (slot : Nat) (s : State), s.alive = true → s.sleeping = false →
    exec (.slotRelease slot) s = .next ((s.slotEntries slot).foldl State.releaseEntry
      ((s.advanceTo (s.fstart + 1000 * slot)).put Reg.TT_NOW_SLOT slot)).settle)

/-- A mismatch, a compare fault and a restart request put the pair in reset with their cause -/
def Obligations.PairRestartCommands : Prop :=
  (∀ (p : Pair) (addr : Nat) (s : State), s.pairRuns p = true → (s.core p).swap = none →
    Gives (exec (.pairMismatch p addr) s) fun t =>
      (t.core p).inReset = true ∧ t.get (Reg.CP_RSTINFO_CAUSE.at p.idx) = 1 ∧
      t.flag (Reg.CP_RSTINFO_RESTARTED.at p.idx) = true ∧ t.get (Reg.CP_RSTTICK_TICK.at p.idx) = s.tick % 2 ^ 32 ∧
      t.flag (Reg.CP_STAT_DBGHALT.at p.idx) = false ∧ ∀ k, k ∈ t.tt.tasks → k.pair ≠ p) ∧
  (∀ (p : Pair) (par : Bool) (addr : Nat) (s : State), s.pairRuns p = true → (s.core p).swap = none →
    Gives (exec (.compareUnitFault p par addr) s) fun t =>
      (t.core p).inReset = true ∧ t.get (Reg.CP_RSTINFO_CAUSE.at p.idx) = 2 ∧
      t.flag (Reg.CP_RSTINFO_RESTARTED.at p.idx) = true ∧ t.get (Reg.CP_RSTTICK_TICK.at p.idx) = s.tick % 2 ^ 32 ∧
      ∀ k, k ∈ t.tt.tasks → k.pair ≠ p) ∧
  (∀ (p : Pair) (s : State), s.pairRuns p = true → s.flag (Reg.CP_STAT_INRST.at p.idx) = false →
    s.flag (Reg.CP_STAT_DBGHALT.at p.idx) = false →
    Gives (exec (.comparatorFrameTest p true true true) s) fun t =>
      t.get (Reg.CP_CMPSTAT_TESTAGE.at p.idx) = 0 ∧ WordsKept [(Reg.CP_CMPSTAT_TESTAGE.at p.idx).addr] s t ∧
      t.mem = s.mem ∧ s.fstart + 14200 ≤ t.now) ∧
  (∀ (p : Pair) (c1 c2 par : Bool) (s : State), (c1 && c2 && par) = false → s.pairRuns p = true →
    (s.core p).swap = none → s.flag (Reg.CP_STAT_INRST.at p.idx) = false →
    s.flag (Reg.CP_STAT_DBGHALT.at p.idx) = false →
    Gives (exec (.comparatorFrameTest p c1 c2 par) s) fun t =>
      (t.core p).inReset = true ∧ t.get (Reg.CP_RSTINFO_CAUSE.at p.idx) = 2) ∧
  (∀ (p : Pair) (s : State), s.pairRuns p = true → (s.core p).swap = none →
    Gives (exec (.pairRestartRequest p.ini p) s) fun t =>
      (t.core p).inReset = true ∧ t.get (Reg.CP_RSTINFO_CAUSE.at p.idx) = 4 ∧
      t.get (Reg.CP_RSTTICK_TICK.at p.idx) = s.tick % 2 ^ 32) ∧
  (∀ (ini : Ini) (p : Pair) (s : State), ini ≠ p.ini →
    exec (.pairRestartRequest ini p) s = .next (s.accessFault ini true (Reg.CP_CTRL + 0x1000 * p.idx))) ∧
  (∀ (p : Pair) (s : State), s.flag (Reg.CP_STAT_INRST.at p.idx) = true →
    Gives (exec (.restartTimeout p) s) fun t =>
      t.flag (Reg.CP_STAT_INRST.at p.idx) = false ∧ t.now = max s.now ((s.core p).trigAt + 200000) ∧
      WordsKept [(Reg.CP_STAT_INRST.at p.idx).addr] s t ∧ t.mem = s.mem)

/-- Checkpoints, the halt at the boundary, the restore and READY -/
def Obligations.PairCheckpointCommands : Prop :=
  (∀ s : State, Gives (exec .pairHaltEnd s) fun t =>
    t.cpa = { s.cpa with ckHalt := false } ∧ t.cpb = { s.cpb with ckHalt := false } ∧
    t.now = max s.now (s.fstart + 15000) ∧ t.regs = s.regs ∧ t.mem = s.mem) ∧
  (∀ (x y : List Byte) (s : State), s.cpa.copying = true → s.cpb.copying = false → s.cpa.slot < 2 →
    s.cpa.swap = none →
    Gives (exec (.checkpointComplete x y) s) fun t =>
      t.bit (Reg.CP_CKSTAT_VALID.at 0) s.cpa.slot = true ∧
      t.get (Reg.CP_CKSTAT_FRAME.at 0) = s.frame % 2 ^ 16 ∧ t.cpa.copying = false ∧ t.cpa.slot = 1 - s.cpa.slot ∧
      t.cpa.arch = x ∧ t.cpb = s.cpb ∧ WordsKept [Reg.CP_CKSTAT] s t ∧
      ∀ a, (a < slotAddr .a s.cpa.slot ∨ slotAddr .a s.cpa.slot + 0x10000 ≤ a) → t.byte a = s.byte a) ∧
  (∀ (p : Pair) (s : State), (s.core p).inReset = true → (s.core p).held = false → (s.core p).copying = false → s.power.phase = .run →
    s.power.holdAt = none → s.sleeping = false → s.get (Reg.CP_CKSTAT_VALID.at p.idx) = 0 →
    Gives (exec (.restoreComplete p) s) fun t =>
      (t.core p).inReset = false ∧ t.flag (Reg.CP_CKSTAT_CRCERR.at p.idx) = true ∧
      t.get (Reg.CP_RSTINFO_CAUSE.at p.idx) = 6 ∧ t.mem = s.mem ∧
      WordsKept [(Reg.CP_CKSTAT_CRCERR.at p.idx).addr, (Reg.CP_RSTINFO_CAUSE.at p.idx).addr] s t) ∧
  (∀ (p : Pair) (s : State), (s.core p).swap = none → Gives (exec (.pairReady p.ini p) s) fun t =>
      t.flag (Reg.CP_STAT_INRST.at p.idx) = false ∧ WordsKept [(Reg.CP_STAT_INRST.at p.idx).addr] s t ∧
      t.mem = s.mem) ∧
  (∀ (p : Pair) (w : Nat × Nat) (s : State), (s.core p).swap = some w → s.now < (s.core p).swapAt + readyLimit p →
    Gives (exec (.pairReady p.ini p) s) fun t =>
      (t.core p).swap = none ∧ t.flag (Reg.CP_STAT_PIN.at p.idx) = false ∧
      (p = .a → t.flag Reg.CTS_STAT_HOLD = false) ∧
      WordsKept [(Reg.CP_STAT_PIN.at p.idx).addr, Reg.CTS_STAT] s t ∧ t.mem = s.mem) ∧
  (∀ (ini : Ini) (p : Pair) (s : State), ini ≠ p.ini →
    exec (.pairReady ini p) s = .next (s.accessFault ini true (Reg.CP_READY + 0x1000 * p.idx))) ∧
  (∀ (p : Pair) (old pin : Nat) (s : State), (s.core p).swap = some (old, pin) →
    Gives (exec (.trapezeReadyTimeout p) s) fun t =>
      (t.core p).inReset = true ∧ (t.core p).swap = none ∧ t.get (Reg.CP_RSTINFO_CAUSE.at p.idx) = 5 ∧
      t.get (Reg.CP_RSTTICK_TICK.at p.idx) = (s.advanceTo ((s.core p).swapAt + readyLimit p)).tick % 2 ^ 32) ∧
  (∀ (x y : List Byte) (s : State), s.cpa.copying = false → s.cpb.copying = true → s.cpb.slot < 2 →
    s.cpb.swap = none → Gives (exec (.checkpointComplete x y) s) fun t =>
      t.bit (Reg.CP_CKSTAT_VALID.at 1) s.cpb.slot = true ∧
      t.get (Reg.CP_CKSTAT_FRAME.at 1) = s.frame % 2 ^ 16 ∧ t.cpb.copying = false ∧ t.cpb.slot = 1 - s.cpb.slot ∧
      t.cpb.arch = y ∧ t.cpa = s.cpa ∧ WordsKept [Reg.CP_CKSTAT + 0x1000] s t ∧
      ∀ a, (a < slotAddr .b s.cpb.slot ∨ slotAddr .b s.cpb.slot + 0x10000 ≤ a) → t.byte a = s.byte a) ∧
  (∀ (p : Pair) (s : State), (s.core p).inReset = true → (s.core p).held = false → (s.core p).copying = false →
    s.power.phase = .run → s.power.holdAt = none → s.sleeping = false →
    exec (.restoreComplete p) s = .next (s.restorePair p)) ∧
  (∀ (p : Pair) (s : State), (s.core p).swap = none →
    exec (.pairReady p.ini p) s = .next (s.putB (Reg.CP_STAT_INRST.at p.idx) false))

/-- Halt, step and resume by the debug port, access faults of a pair, and ECC errors -/
def Obligations.DebugAndFaultCommands : Prop :=
  (∀ (p : Pair) (s : State), s.flag Reg.NVM_SECCFG_DBGLOCK = false → (p = .a → s.anyRoleOn = false) →
    s.pairRuns p = true → Gives (exec (.debugHalt .debug p) s) fun t =>
      t.flag (Reg.CP_STAT_DBGHALT.at p.idx) = true ∧ t.flag (Reg.CP_STAT_DBGREF.at p.idx) = false ∧
      (∀ k, k ∈ t.tt.tasks → k.pair ≠ p) ∧
      QuietWordsKept [Reg.TT_SKIPCNT, (Reg.CP_STAT_DBGHALT.at p.idx).addr] s t) ∧
  (∀ (p : Pair) (s : State), s.flag Reg.NVM_SECCFG_DBGLOCK = true ∨ (p = .a ∧ s.anyRoleOn = true) →
    Gives (exec (.debugHalt .debug p) s) fun t =>
      t.flag (Reg.CP_STAT_DBGREF.at p.idx) = true ∧ (s.alive = true → t.raised Ev.DBG_SERVICE = true) ∧
      QuietWordsKept [(Reg.CP_STAT_DBGREF.at p.idx).addr] s t ∧ BytesKept s t) ∧
  (∀ (ini : Ini) (p : Pair) (s : State), ini ≠ .debug → exec (.debugHalt ini p) s = .next s ∧
    exec (.debugResume ini p) s = .next s ∧ exec (.debugStep ini p) s = .next s) ∧
  (∀ (p : Pair) (s : State), Gives (exec (.debugResume .debug p) s) fun t =>
      t.flag (Reg.CP_STAT_DBGHALT.at p.idx) = false ∧ WordsKept [(Reg.CP_STAT_DBGHALT.at p.idx).addr] s t ∧
      t.mem = s.mem) ∧
  (∀ (p : Pair) (s : State), s.flag (Reg.CP_STAT_DBGHALT.at p.idx) = true →
    Gives (exec (.debugStep .debug p) s) fun t =>
      (t.core p).steps = (s.core p).steps + 1 ∧ t.regs = s.regs ∧ t.mem = s.mem) ∧
  (∀ (p : Pair) (w : Bool) (addr : Nat) (s : State), s.pairRuns p = true → mapPermits p w addr = false →
      Gives (exec (.memoryAccessFault p w addr) s) fun t =>
      (t.core p).faults = (s.core p).faults + 1 ∧ (t.core p).mcause = (if w then 7 else 5) ∧ t.regs = s.regs ∧
      t.mem = s.mem) ∧
  (∀ (p : Pair) (mram : Bool) (addr : Nat) (s : State), Gives (exec (.eccError p mram true addr) s) fun t =>
      (mram = true → t.get Reg.NVM_ECCCNT_MRAM = min (s.get Reg.NVM_ECCCNT_MRAM + 1) (2 ^ Reg.NVM_ECCCNT_MRAM.wid - 1)) ∧
      (mram = false → t.get Reg.NVM_ECCCNT_SRAM = min (s.get Reg.NVM_ECCCNT_SRAM + 1) (2 ^ Reg.NVM_ECCCNT_SRAM.wid - 1)) ∧
      (s.alive = true → t.raised Ev.NVM_ECC = true) ∧ QuietWordsKept [Reg.NVM_ECCCNT] s t ∧ BytesKept s t) ∧
  (∀ (p : Pair) (mram : Bool) (addr : Nat) (s : State), Gives (exec (.eccError p mram false addr) s) fun t =>
      t.get Reg.NVM_ECCADDR_ADDR = addr % 2 ^ 32 ∧ (t.core p).mcause = 5 ∧
      (s.alive = true → t.raised Ev.NVM_ECC_FATAL = true) ∧ QuietWordsKept [Reg.NVM_ECCADDR] s t ∧ BytesKept s t)

/-- Overcurrent comparators: crossing, glitch filter, self-test -/
def Obligations.OvercurrentComparatorCommands : Prop :=
  (∀ (d y : Bool) (uv : Int) (s : State), s.isAnchor = true → s.ipk.raw.length = 4 → s.ipk.rawAt.length = 4 →
    let was := s.ipk.raw.getD (ocIndex d y) false
    let v := if d then -uv else uv
    let thr : Int := 1000 * clampN 10 200 (s.get (if d then Reg.IPK_OCCFG_DIS else Reg.IPK_OCCFG_CHG))
    (was = false ∧ thr ≤ v) ∨ (was = true ∧ 10 * v < 9 * thr) →
    Gives (exec (.ocComparatorCrossing d y uv) s) fun t =>
      t.ipk.raw.getD (ocIndex d y) false = !was ∧ t.ipk.rawAt.getD (ocIndex d y) 0 = s.now ∧
      t.flag Reg.IPK_STAT_OCCHG = (t.ipk.raw.getD 0 false || t.ipk.raw.getD 1 false) ∧
      t.flag Reg.IPK_STAT_OCDIS = (t.ipk.raw.getD 2 false || t.ipk.raw.getD 3 false) ∧
      WordsKept [Reg.IPK_STAT] s t ∧ t.mem = s.mem) ∧
  (∀ (d y : Bool) (uv : Int) (s : State), s.isAnchor = false → exec (.ocComparatorCrossing d y uv) s = .next s) ∧
  (∀ (d y : Bool) (s : State), s.isAnchor = true → s.ipk.ocTest ≠ some y →
    s.saf.oc.getD (ocIndex d y) false ≠ s.ipk.raw.getD (ocIndex d y) false →
    let on := s.ipk.raw.getD (ocIndex d y) false
    let u := s.advanceTo (s.ipk.rawAt.getD (ocIndex d y) 0 + 200)
    exec (.ocGlitchFilterExpiry d y) s =
      .next (({ u with saf := { u.saf with oc := u.saf.oc.set (ocIndex d y) on } }).raiseIf on
        (if d then Ev.IPK_OC_DIS else Ev.IPK_OC_CHG)).protect) ∧
  (∀ s : State, s.isAnchor = true → s.cm.running = true → s.alive = true →
    Gives (exec .ocSelftestStart s) fun t =>
      t.ipk.ocTest = some s.ipk.ocNext ∧ t.now = max s.now (s.fstart + 2000) ∧ t.regs = s.regs ∧ t.mem = s.mem) ∧
  (∀ (c d y : Bool) (s : State), s.ipk.ocTest = some y → Gives (exec (.ocSelftestEnd c d) s) fun t =>
      t.ipk.ocTest = none ∧ t.ipk.ocNext = !y ∧ t.now = max s.now (s.fstart + 2500) ∧
      ((c && d) = true → t.regs = s.regs ∧ t.mem = s.mem) ∧
      ((c && d) = false → s.alive = true → t.raised Ev.IPK_OC_SELFTEST = true) ∧
      QuietWordsKept [] s t ∧ BytesKept s t)

/-- Sample instants, intact, discarded and missing sets, and the failure of the transformer supply -/
def Obligations.SampleSetCommands : Prop :=
  (∀ (x : SampleSet) (s : State), s.cm.running = true → s.alive = true → x.crcOk = true →
    x.seq.toNat = s.cm.nextSeq →
    let u := s.advanceTo (s.fstart + x.instant)
    exec (.sampleSetArrival x) s =
      .next (({ u with cm := { u.cm with nextSeq := (s.cm.nextSeq + 1) % 256 } }).setGood.deliverSet x)) ∧
  (∀ (x : SampleSet) (s : State), s.cm.running = true → s.alive = true → x.crcOk = true →
    x.seq.toNat ≠ s.cm.nextSeq →
    let u := s.advanceTo (s.fstart + x.instant)
    exec (.sampleSetArrival x) s =
      .next (({ u with cm := { u.cm with nextSeq := (x.seq.toNat + 1) % 256 } }).setLost
        (s.fstart + x.instant))) ∧
  (∀ (x : SampleSet) (s : State), s.cm.running = true → s.alive = true → x.crcOk = false →
    let u := s.advanceTo (s.fstart + x.instant)
    exec (.sampleSetArrival x) s =
      .next (({ u with cm := { u.cm with nextSeq := (s.cm.nextSeq + 1) % 256 } }).setLost
        (s.fstart + x.instant))) ∧
  (∀ (i : Nat) (s : State), s.cm.running = true → s.alive = true →
    let u := s.advanceTo (s.fstart + i + 2000)
    exec (.sampleSetMissing i) s =
      .next (({ u with cm := { u.cm with nextSeq := (s.cm.nextSeq + 1) % 256 } }).setLost
        (s.fstart + i))) ∧
  (∀ s : State, s.cm.running = true → s.alive = true → exec .transformerSupplyFailure s =
    .next (({ s with cm := { s.cm with supplyFail := true } }).openSwitches.barrierFault false)) ∧
  (∀ (o h ua mv : Nat) (s : State), s.cm.running = true → s.alive = true → o % 25000 = 0 →
    let u := ((s.advanceTo (s.fstart + o)).hallSample h).isoDriveCheck ua mv
    let v : State := { u with bal := { u.bal with half := false } }
    exec (.sampleInstant o h ua mv) s =
      .next (if u.bal.newPat then ({ v with bal := { v.bal with newPat := false } }).chooseOn else v).settle) ∧
  (∀ (o h ua mv : Nat) (s : State), s.cm.running = true → s.alive = true → o % 25000 ≠ 0 →
    exec (.sampleInstant o h ua mv) s = .next (s.advanceTo (s.fstart + o))) ∧
  (∀ (x : SampleSet) (o h ua mv : Nat) (s : State), s.cm.running = false ∨ s.alive = false →
    exec (.sampleSetArrival x) s = .next s ∧ exec (.sampleSetMissing o) s = .next s ∧
    exec .transformerSupplyFailure s = .next s ∧ exec (.sampleInstant o h ua mv) s = .next s)

/-- A delivered set stands in the DATA registers together with the tick of its instant -/
def Obligations.DeliveredResultsReachTheirRegisters : Prop :=
  ∀ (t : Nat) (cells : List (Int × Bool)) (flags : List Nat) (s : State), cells.length = 48 → flags.length = 48 →
    (s.showCells t cells flags).get Reg.CELL_LTICK_TICK = s.tickOf t % 2 ^ 32 ∧
    (s.showCells t cells flags).get Reg.CELL_SAT0_SAT =
      s.get Reg.CELL_SAT0_SAT ||| bitsOf (cells.map (·.2)) % 2 ^ 32 ∧
    QuietWordsKept (Reg.CELL_LTICK :: Reg.CELL_SAT0 :: Reg.CELL_SAT1 ::
      (List.range 48).map fun i => (Reg.CELL_DATA_CODE.at i).addr) s (s.showCells t cells flags) ∧
    ∀ (i : Nat) (c : Int × Bool) (f : Nat), cells[i]? = some c → flags[i]? = some f →
      (s.showCells t cells flags).word (Reg.CELL_DATA_CODE.at i).addr = BitVec.ofNat 32 (f * 2 ^ 28 + twos 24 c.1)

/-- The open-wire test runs through its passes and writes its result -/
def Obligations.OpenWireCommands : Prop :=
  (∀ (ini : Ini) (s : State), exec (.openWireRequest ini) s = .next (s.submit 1).settle) ∧
  (∀ s : State, s.cm.ow.phase = 1 → Gives (exec .openWireStart s) fun t =>
    t.cm.ow.phase = 2 ∧ t.cm.ow.isel = s.get Reg.CELL_OWCFG_ISEL ∧ t.cm.ow.thresh = s.get Reg.CELL_OWCFG_THRESH ∧
    t.now = max s.now s.cm.ow.ts ∧ t.get Reg.CELL_OWSTAT_STATE = 1 ∧ WordsKept [Reg.CELL_OWSTAT] s t ∧ t.mem = s.mem) ∧
  (∀ s : State, 2 ≤ s.cm.ow.phase → s.cm.ow.phase ≤ 4 → Gives (exec .openWirePhase s) fun t =>
    t.cm.ow = { s.cm.ow with phase := s.cm.ow.phase + 1 } ∧
    t.now = max s.now (s.cm.ow.ts + 100000 * (s.cm.ow.phase - 1)) ∧ t.regs = s.regs ∧ t.mem = s.mem) ∧
  (∀ s : State, 2 ≤ s.cm.ow.phase → s.cm.ow.phase ≤ 5 →
    let u := s.advanceTo (s.cm.ow.ts + 400000)
    let v : State := { u with cm := { u.cm with ow := { u.cm.ow with
      phase := 6,
      lost := s.cm.ow.lost || s.cm.ow.s0.isEmpty || s.cm.ow.s1.isEmpty || s.cm.ow.s2.isEmpty || s.cm.ow.s3.isEmpty } } }
    exec .openWireEnd s = .next (if v.cm.ow.lost then v.resubmit 1 else v.release 1).settle) ∧
  (∀ s : State, s.cm.ow.phase = 6 →
    let u := s.advanceTo (s.cm.ow.ts + 401500)
    let v : State := { u with cm := { u.cm with ow := {} } }
    exec .openWireResult s =
      .next (if s.cm.ow.lost then (v.put Reg.CELL_OWSTAT_STATE 3).raise Ev.CELL_OW_INCOMPLETE
        else (((((v.put Reg.CELL_OWRES0_OPEN (u.openTaps % 2 ^ 32)).put Reg.CELL_OWRES1_OPEN (u.openTaps / 2 ^ 32)).put
          Reg.CELL_OWSTAT_STATE 2).put Reg.CELL_OWSTAT_NOPEN (popcount 49 u.openTaps)).raise Ev.CELL_OW_DONE).raiseIf
          (u.openTaps != 0) Ev.CELL_OPENWIRE).settle) ∧
  (∀ s : State, s.cm.ow.phase = 0 → exec .openWireStart s = .next s ∧ exec .openWirePhase s = .next s ∧
    exec .openWireEnd s = .next s ∧ exec .openWireResult s = .next s)

/-- Quiet samples: the pause of balancing, the delivered results, and a skipped instant -/
def Obligations.QuietSampleCommands : Prop :=
  (∀ s : State, s.quietK ≠ 0 → s.quietFrame s.frame = true → s.cm.running = true → s.alive = true →
    s.quietSkipped (s.fstart + 25000 * s.quietK) = false →
    let u := s.advanceTo (s.fstart + 25000 * s.quietK - 10000)
    exec .quietPauseStart s = .next ({ u with cm := { u.cm with quietPause := true } }).stopModulation.refreshSwitches) ∧
  (∀ (codes : List Int) (s : State), s.quietFrame s.frame = true → s.alive = true → s.cm.running = true →
    s.bal.modul.runs (s.fstart + 25000 * s.quietK) = true ∨ s.power.pauseAt.isSome = true →
    Gives (exec (.quietInstant codes) s) fun w =>
      w.flag (Reg.CELL_QDATA_VALID.at 0) = false ∧ w.flag (Reg.CELL_QDATA_VALID.at 47) = false ∧
      (s.alive = true → w.raised Ev.CELL_QUIET_SKIP = true)) ∧
  (∀ (codes : List Int) (s : State), s.quietFrame s.frame = false → exec (.quietInstant codes) s = .next s) ∧
  (∀ (codes : List Int) (s : State), codes.length = 48 → s.quietFrame s.frame = true → s.alive = true →
    s.cm.running = true → s.quietSkipped (s.fstart + 25000 * s.quietK) = false →
    let u := s.advanceTo (s.fstart + 25000 * s.quietK)
    Gives (exec (.quietInstant codes) s) fun w =>
      w.get Reg.CELL_QTICK_TICK = u.tickOf (s.fstart + 25000 * s.quietK) % 2 ^ 32 ∧
      ∀ (i : Nat) (c : Int), codes[i]? = some c → w.word (Reg.CELL_QDATA_CODE.at i).addr =
        BitVec.ofNat 32 ((clipCell c).2.toNat * 2 ^ 31 + 2 ^ 30 + twos 24 (clipCell c).1))

/-- The isolation run: request, start at G, the two states, the result -/
def Obligations.IsolationCommands : Prop :=
  (∀ (ini : Ini) (s : State), s.isAnchor = true →
    exec (.isolationRequest ini) s = .next s.requestIso.settle) ∧
  (∀ (ini : Ini) (s : State), s.isAnchor = false → exec (.isolationRequest ini) s = .next s) ∧
  (∀ (g : Nat) (s : State), s.iso.g = some g → s.isAnchor = true → s.iso.phase = 0 →
    100000 ≤ s.getI Reg.HVM_VOLT_MV → Gives (exec .isolationRunStart s) fun t =>
      t.iso.phase = 1 ∧ t.iso.isoA = true ∧ t.iso.isoB = false ∧ t.iso.g = none ∧ t.iso.frames = 0 ∧
      t.iso.a0 = (s.advanceTo g).isoMean ∧ t.now = max s.now g ∧ t.get Reg.HVM_ISOSTAT_STATE = 1 ∧
      t.get Reg.HVM_ISOSTAT_PHASE = 1 ∧ t.flag Reg.HVM_STAT_ISORUN = true ∧ t.flag Reg.HVM_ISOSTAT_INCONS = false ∧
      t.flag Reg.HVM_ISOSTAT_UNSETTLED = false ∧ WordsKept [Reg.HVM_ISOSTAT, Reg.HVM_STAT] s t ∧ t.mem = s.mem) ∧
  (∀ s : State, 240 ≤ s.iso.frames → s.iso.phase = 1 → Gives (exec .isolationStateTimeout s) fun t =>
      t.flag Reg.HVM_ISOSTAT_UNSETTLED = true ∧ t.get Reg.HVM_ISOSTAT_PHASE = 0 ∧ t.iso.phase = 2 ∧
      t.iso.isoA = false ∧ t.iso.isoB = s.iso.isoB ∧ t.iso.since = s.now ∧ WordsKept [Reg.HVM_ISOSTAT] s t ∧
      t.mem = s.mem) ∧
  (∀ s : State, 240 ≤ s.iso.frames → s.iso.phase = 3 → Gives (exec .isolationStateTimeout s) fun t =>
      t.flag Reg.HVM_ISOSTAT_UNSETTLED = true ∧ t.get Reg.HVM_ISOSTAT_PHASE = 0 ∧ t.iso.phase = 4 ∧
      t.iso.isoB = false ∧ t.iso.eb = s.now ∧ WordsKept [Reg.HVM_ISOSTAT] s t ∧ t.mem = s.mem) ∧
  (∀ s : State, s.iso.phase = 2 → Gives (exec .isoBEngage s) fun t =>
      t.iso.phase = 3 ∧ t.iso.isoB = true ∧ t.now = max s.now (s.iso.since + 10000) ∧ t.iso.onAt = t.now ∧
      t.get Reg.HVM_ISOSTAT_PHASE = 2 ∧ WordsKept [Reg.HVM_ISOSTAT] s t ∧ t.mem = s.mem) ∧
  (∀ s : State, s.iso.phase = 4 → exec .isolationResult s =
    .next (s.advanceTo (s.iso.eb + 2000000)).isoResult.isoIdle.releaseIso.settle) ∧
  (∀ s : State, s.isoResult.get Reg.HVM_ISOSTAT_STATE = 2 ∧ s.isoResult.get Reg.HVM_ISOTICK_TICK = s.tick % 2 ^ 32 ∧
    (s.alive = true → s.isoResult.raised Ev.HVM_ISO_DONE = true) ∧
    QuietWordsKept [Reg.HVM_ISOSTAT, Reg.HVM_ISOTICK, Reg.HVM_ISORES] s s.isoResult)

/-- Balancing: a written pattern, the stop, the half period and the command timeout -/
def Obligations.BalancingCommands : Prop :=
  (∀ (ini : Ini) (v : Word) (s : State), Gives (exec (.balancingPatternWrite ini false v) s) fun t =>
    t.word Reg.BAL_PATL = v ∧ t.bal.newPat = true ∧ t.bal.sw = s.bal.sw ∧
    QuietWordsKept [Reg.BAL_PATL, Reg.BAL_STAT, Reg.BAL_DEFCNT, Reg.BAL_DEFLAST, Reg.BAL_DEFTICK] s t ∧
    BytesKept s t) ∧
  (∀ (ini : Ini) (v : Word) (s : State), Gives (exec (.balancingPatternWrite ini true v) s) fun t =>
    t.word Reg.BAL_PATH = v &&& 0xFFFF ∧ t.bal.newPat = true ∧ t.bal.sw = s.bal.sw ∧
    QuietWordsKept [Reg.BAL_PATH, Reg.BAL_STAT, Reg.BAL_DEFCNT, Reg.BAL_DEFLAST, Reg.BAL_DEFTICK] s t ∧
    BytesKept s t) ∧
  (∀ (ini : Ini) (s : State), Gives (exec (.balancingStop ini) s) fun t =>
    t.word Reg.BAL_PATL = 0 ∧ t.word Reg.BAL_PATH = 0 ∧ (s.bal.modul.closed s.now = false → t.get Reg.BAL_ONL_ON = 0 ∧ t.get Reg.BAL_ONH_ON = 0) ∧
    t.flag Reg.BAL_STAT_SUSP = false ∧ (∀ w, w ∈ t.bal.sw → w.on = false) ∧
    WordsKept [Reg.BAL_PATL, Reg.BAL_PATH, Reg.BAL_STAT, Reg.BAL_ONL, Reg.BAL_ONH] s t ∧ t.mem = s.mem) ∧
  (∀ s : State, Gives (exec .balHalfPeriod s) fun t =>
    t.bal.half = true ∧ t.now = max s.now (s.fstart + (s.now - s.fstart) / 25000 * 25000 + 12500) ∧
    WordsKept [Reg.BAL_ONL, Reg.BAL_ONH] s t ∧ t.mem = s.mem) ∧
  (∀ s : State, s.cm.running = true → s.cm.supplyFail = false → s.power.pauseAt = none →
    Gives (exec .balCmdTimeout s) fun t =>
      (s.bal.modul.closed s.now = false → t.get Reg.BAL_ONL_ON = 0 ∧ t.get Reg.BAL_ONH_ON = 0) ∧ (∀ w, w ∈ t.bal.sw → w.on = false) ∧
      (s.alive = true → t.raised Ev.BAL_CMD_TIMEOUT = true) ∧ QuietWordsKept [Reg.BAL_ONL, Reg.BAL_ONH] s t ∧
      BytesKept s t) ∧
  (∀ s : State, s.cm.running = false ∨ s.cm.supplyFail = true ∨ s.power.pauseAt.isSome = true →
    Gives (exec .balCmdTimeout s) fun t =>
      (s.bal.modul.closed s.now = false → t.get Reg.BAL_ONL_ON = 0 ∧ t.get Reg.BAL_ONH_ON = 0) ∧ (∀ w, w ∈ t.bal.sw → w.on = false) ∧
      WordsKept [Reg.BAL_ONL, Reg.BAL_ONH] s t ∧ t.mem = s.mem)

/-- Who may command the contactors, and what a refused close does -/
def Obligations.ContactorCommandGate : Prop :=
  (∀ (ini : Ini) (c : Instr) (s : State), c ∈ [Instr.driveClose ini, .driveOpen ini, .chargeClose ini, .chargeOpen ini,
      .auxOn ini, .auxOff ini, .faultClear ini] →
    (s.isLead = false → ini = .pairA → exec c s = .next s) ∧
    (ini ≠ .pairA → exec c s = .next (s.raise Ev.CTS_CMD_REFUSED))) ∧
  (∀ (n : Nat) (s : State), s.ctsRuns = true → s.ctsRefusal [0, 1, 2] (s.dstate == 0) = some n →
    Gives (exec (.driveClose .pairA) s) fun t => t.get Reg.CTS_STAT_REFUSE = n ∧ t.dstate = s.dstate ∧
      t.cstate = s.cstate ∧ t.cts = s.cts ∧ t.raised Ev.CTS_CLOSE_REFUSED = true ∧
      QuietWordsKept [Reg.CTS_STAT] s t ∧ BytesKept s t) ∧
  (∀ (n : Nat) (s : State), s.ctsRuns = true → s.ctsRefusal [3, 4] (s.cstate == 0) = some n →
    Gives (exec (.chargeClose .pairA) s) fun t => t.get Reg.CTS_STAT_REFUSE = n ∧ t.dstate = s.dstate ∧
      t.cstate = s.cstate ∧ t.cts = s.cts ∧ t.raised Ev.CTS_CLOSE_REFUSED = true ∧
      QuietWordsKept [Reg.CTS_STAT] s t ∧ BytesKept s t) ∧
  (∀ (n : Nat) (s : State), s.ctsRuns = true → s.ctsRefusal [5] true = some n →
    Gives (exec (.auxOn .pairA) s) fun t => t.get Reg.CTS_STAT_REFUSE = n ∧ t.get Reg.OUT_CMD_ON = s.get Reg.OUT_CMD_ON ∧
      t.cts = s.cts ∧ t.raised Ev.CTS_CLOSE_REFUSED = true ∧ QuietWordsKept [Reg.CTS_STAT] s t ∧ BytesKept s t) ∧
  (∀ s : State, s.ctsRuns = true → Gives (exec (.faultClear .pairA) s) fun t =>
    t.flag Reg.CTS_STAT_LOCKOUT = false ∧ t.get Reg.CTS_PCRES_FAILS = 0 ∧ t.dstate = s.dstate ∧ t.cstate = s.cstate ∧
    t.cts = s.cts ∧ WordsKept [Reg.CTS_STAT, Reg.CTS_PCRES] s t ∧ t.mem = s.mem)

/-- An accepted close enters GRANT, an opening ramps or opens -/
def Obligations.ContactorPathCommands : Prop :=
  (∀ s : State, s.ctsRuns = true → s.ctsRefusal [0, 1, 2] (s.dstate == 0) = none → s.ctsRefusalClose = none →
    s.flag Reg.CTS_STAT_LOCKOUT = false → s.cts.coolUntil ≤ s.now →
    exec (.driveClose .pairA) s =
      .next ((({ s with cts := { s.cts with reason := 1 } }.enterD 1).submit 3).settle)) ∧
  (∀ s : State, s.ctsRuns = true → s.ctsRefusal [3, 4] (s.cstate == 0) = none → s.ctsRefusalClose = none →
    s.dstate = 6 → s.flag Reg.SAF_STAT_CHGFORB = false →
    exec (.chargeClose .pairA) s = .next ((s.enterC 1).submit 3).settle) ∧
  (∀ s : State, s.ctsRuns = true →
    (s.dstate = 1 → exec (.driveOpen .pairA) s = .next s.dropWeld.driveOpen.settle) ∧
    (2 ≤ s.dstate → s.dstate ≤ 5 → 
      exec (.driveOpen .pairA) s = .next (((s.put Reg.CTS_PCRES_RESULT 5).put Reg.CTS_PCRES_TIME
        (min 65535 ((s.now - s.cts.pcAt) / 100000))).posOpen 1 0).settle) ∧
    (s.dstate = 6 → Gives (exec (.driveOpen .pairA) s) fun t => t.dstate = 7 ∧ t.cts.since = s.now ∧
      t.cts.cfg = s.ctsWords ∧ t.cts.reason = 1 ∧
      t.cts.ramp = msTicks (min 1000 (Reg.CTS_OPENCFG_TRAMP.extract (BitVec.ofNat 32 (s.ctsWords.getD 6 0)))) ∧
      WordsKept [Reg.CTS_STAT] s t ∧ t.mem = s.mem) ∧
    (s.dstate = 0 ∨ 7 ≤ s.dstate → exec (.driveOpen .pairA) s = .next s)) ∧
  (∀ s : State, s.ctsRuns = true →
    (s.cstate = 1 ∨ s.cstate = 2 → exec (.chargeOpen .pairA) s = .next s.dropWeld.chargeOpen.settle) ∧
    (3 ≤ s.cstate → s.cstate ≤ 5 → exec (.chargeOpen .pairA) s = .next (s.cpOpen 1).settle) ∧
    (s.cstate = 6 → Gives (exec (.chargeOpen .pairA) s) fun t => t.cstate = 7 ∧ t.dstate = s.dstate ∧
      t.cts.cSince = s.now ∧ WordsKept [Reg.CTS_STAT] s t ∧ t.mem = s.mem) ∧
    (s.cstate = 0 ∨ 7 ≤ s.cstate → exec (.chargeOpen .pairA) s = .next s)) ∧
  (∀ s : State, s.ctsRuns = true → s.ctsRefusal [5] true = none → s.flag Reg.CTS_STAT_HOLD = false →
    exec (.auxOn .pairA) s = .next (s.setRole 5 true).settle) ∧
  (∀ s : State, s.ctsRuns = true → (s.roleOn 5 = true → exec (.auxOff .pairA) s = .next (s.opening [5] [] 1 0).settle) ∧
    (s.roleOn 5 = false → exec (.auxOff .pairA) s = .next s.settle)) ∧
  (∀ (s : State) (r l : Nat), (s.posOpen r l).dstate = 8 ∧ (s.posOpen r l).cts.since = (s.posOpen r l).now) ∧
  (∀ (s : State) (r : Nat), (s.cpOpen r).cstate = 8 ∧ s.driveOpen.dstate = 0 ∧ s.chargeOpen.cstate = 0)

/-- The drive path at its timers: grant, probe, TCLOSE, TGAP, TRAMP, cool-down -/
def Obligations.ContactorDriveTimers : Prop :=
  (∀ s : State, s.ctsRuns = true → s.dstate = 1 → exec .ctsGrantTimeout s =
    .next ((((s.advanceTo (s.cts.since + 600000000)).withdraw 3).driveOpen).raise Ev.CTS_GRANT_TIMEOUT).settle) ∧
  (∀ s : State, s.ctsRuns = true → s.dstate = 2 →
    let u := s.advanceTo (s.cts.since + s.tProbe)
    (u.weldMA ≤ u.cts.probeMax → exec .probeTimerEnd s = .next ((u.weldResult 1 2).posOpen 5 0).settle) ∧
    (u.cts.probeMax < u.weldMA → u.cts.v3 < u.cts.v1 - u.weldMV false → exec .probeTimerEnd s = .next (u.pcFail 3).settle) ∧
    (u.cts.probeMax < u.weldMA → u.cts.v1 - u.weldMV false ≤ u.cts.v3 →
      exec .probeTimerEnd s = .next (((u.setRole 2 false).setRole 1 true).enterD 3).settle)) ∧
  (∀ s : State, s.ctsRuns = true → s.dstate = 3 →
    let u := s.advanceTo (s.cts.since + s.tClose false)
    (u.cts.v1 - u.weldMV false ≤ u.cts.v3 → exec .closeTimerEnd s = .next ((u.weldResult 2 2).posOpen 5 0).settle) ∧
    (u.cts.v3 < u.cts.v1 - u.weldMV false → u.cts.v1 - u.weldMV false ≤ u.cts.v2 →
      exec .closeTimerEnd s = .next ((u.weldResult 0 2).posOpen 5 0).settle) ∧
    (u.cts.v3 < u.cts.v1 - u.weldMV false → u.cts.v2 < u.cts.v1 - u.weldMV false →
      let w := (((u.weldResult 0 1).weldResult 1 1).weldResult 2 1).dropWeld
      w.cts.v1 ≠ 0 →
      exec .closeTimerEnd s = .next (({ w with cts := { w.cts with a0 := w.linkFraction } }.enterD 4).pcOn).settle)) ∧
  (∀ s : State, s.ctsRuns = true → s.dstate = 5 →
    let u := s.advanceTo (s.cts.since + s.tClose false)
    (u.cts.v1 - u.cts.v2 < u.weldMV false → exec .closeTimerEnd s =
      .next (((u.setRole 2 false).enterD 6).raise Ev.CTS_CLOSED).settle) ∧
    (u.weldMV false ≤ u.cts.v1 - u.cts.v2 → exec .closeTimerEnd s = .next (u.pcFail 3).settle)) ∧
  (∀ s : State, s.ctsRuns = true → s.dstate = 7 →
    (s.cstate = 7 → s.cts.since + s.cts.ramp < s.cts.cSince + s.chargeRamp) → exec .rampTimerEnd s =
    .next ((s.advanceTo (s.cts.since + s.cts.ramp)).posOpen s.cts.reason 0).settle) ∧
  (∀ s : State, s.ctsRuns = true → exec .cooldownEnd s = .next (s.advanceTo s.cts.coolUntil)) ∧
  (∀ (c : Instr) (s : State), s.ctsRuns = false → c ∈ [Instr.ctsGrantTimeout, .probeTimerEnd, .closeTimerEnd,
    .gapTimerEnd, .rampTimerEnd, .matchTimerEnd, .cooldownEnd] → exec c s = .next s) ∧
  (∀ (n : Nat) (s : State), n ∈ [2, 3, 4] → (s.pcFail n).dstate = 8) ∧
  (∀ (r v : Nat) (s : State), r < 5 → v < 4 →
    (s.weldResult r v).get Reg.CTS_WELDSTAT_ROLE / 4 ^ r % 4 = v ∧
    (v = 2 → s.alive = true → (s.weldResult r v).raised Ev.CTS_WELD = true))

/-- The charge path at its timers, and the end of an opening -/
def Obligations.ContactorChargeAndOpenTimers : Prop :=
  (∀ s : State, s.ctsRuns = true → s.dstate = 8 →
    (s.cstate = 8 → s.cts.since + s.tGap false < s.cts.cSince + s.tGap true) →
    let u := s.advanceTo (s.cts.since + s.tGap false)
    (u.weldMV false ≤ u.cts.v1 - u.cts.v2 → exec .gapTimerEnd s =
      .next ((State.driveOpen (let w := (u.weldResult 0 1).setRoles [1, 4] false
        if w.cstate = 0 then w else w.enterC 0)).raise Ev.CTS_OPENED).settle) ∧
    (u.cts.v1 - u.cts.v2 < u.weldMV false → exec .gapTimerEnd s =
      .next ((State.driveOpen (let w := (u.raise Ev.CTS_WELD_UNDECIDED).setRoles [1, 4] false
        if w.cstate = 0 then w else w.enterC 0)).raise Ev.CTS_OPENED).settle)) ∧
  (∀ s : State, s.ctsRuns = true → s.cstate = 8 →
    (s.dstate = 8 → s.cts.cSince + s.tGap true ≤ s.cts.since + s.tGap false) → exec .gapTimerEnd s =
    .next ((((s.advanceTo (s.cts.cSince + s.tGap true)).setRole 4 false).chargeOpen).raise Ev.CTS_CHG_OPENED).settle) ∧
  (∀ s : State, s.ctsRuns = true → s.dstate ≠ 1 → s.cstate = 1 → exec .ctsGrantTimeout s =
    .next ((((s.advanceTo (s.cts.cSince + 600000000)).withdraw 3).chargeOpen).raise Ev.CTS_GRANT_TIMEOUT).settle) ∧
  (∀ s : State, s.ctsRuns = true → s.dstate = 6 → s.cstate = 3 →
    Gives (exec .closeTimerEnd s) fun t => t.cstate = 4 ∧ t.dstate = s.dstate ∧ t.cts.matchN = 0 ∧
      t.now = max s.now (s.cts.cSince + s.tClose true) ∧ t.cts.cSince = t.now ∧
      WordsKept [Reg.CTS_STAT] s t ∧ t.mem = s.mem) ∧
  (∀ s : State, s.ctsRuns = true → s.dstate = 6 → s.cstate = 5 →
    let u := s.advanceTo (s.cts.cSince + s.tClose true)
    (((u.cts.v4 - u.cts.v2).natAbs : Int) < u.weldMV true → ∃ w : State, exec .closeTimerEnd s = .next w.settle ∧
      w.cstate = 6 ∧ w.dstate = s.dstate ∧ w.raised Ev.CTS_CHG_CLOSED = true ∧ QuietWordsKept [Reg.CTS_STAT] s w) ∧
    (u.weldMV true ≤ ((u.cts.v4 - u.cts.v2).natAbs : Int) →
      exec .closeTimerEnd s = .next ((u.cpOpen 5).raise Ev.CTS_MATCH_FAULT).settle)) ∧
  (∀ s : State, s.ctsRuns = true → s.dstate = 6 ∨ s.dstate = 7 → s.cstate = 4 → exec .matchTimerEnd s =
    .next (((s.advanceTo (s.cts.cSince + msTicks (clampN 100 60000 (s.ctsCfg true Reg.CTS_CHGCFG_TMATCH)))).cpOpen
      5).raise Ev.CTS_MATCH_FAULT).settle) ∧
  (∀ s : State, s.ctsRuns = true → s.cstate = 7 →
    s.dstate = 6 ∨ (s.dstate = 7 ∧ s.cts.cSince + s.chargeRamp ≤ s.cts.since + s.cts.ramp) → exec .rampTimerEnd s =
    .next ((s.advanceTo (s.cts.cSince + msTicks (min 1000 (s.ctsCfg true Reg.CTS_OPENCFG_TRAMP)))).cpOpen 1).settle)

/-- A sample, and a missing one, on the contactor paths -/
def Obligations.ContactorSamples : Prop :=
  (∀ (a b c d e : Int) (o : Nat) (s : State), s.isLead = false ∨ s.alive = false →
    exec (.ctsSample a b c d e o) s = .next s ∧ exec .ctsSampleMissing s = .next s) ∧
  (∀ (a b c d e : Int) (o : Nat) (s : State), s.isLead = true → s.alive = true → s.power.holdAt = none →
    s.isAnchor = false → s.fstart + o ≤ s.now → s.now ≤ s.fstart + o + 50000 →
    exec (.ctsSample a b c d e o) s = .next (State.driveSample ({ s with cts := { s.cts with
      v2p := s.cts.v2, v2ok := s.cts.miss == 0, v1 := a, v2 := b, v3 := c, v4 := d, i1 := e, miss := 0 } }) (s.fstart + o)).chargeSample.settle) ∧
  (∀ (a b c d e : Int) (o : Nat) (s : State), s.isLead = true → s.alive = true → s.power.holdAt = none →
    s.isAnchor = true → s.now ≤ s.fstart + o + 50000 →
    exec (.ctsSample a b c d e o) s = .next (State.driveSample ({ s.advanceTo (s.fstart + o + 2000) with
      cts := { s.cts with v2p := s.cts.v2, v2ok := s.cts.miss == 0, v1 := a, v2 := b, v3 := c, v4 := d, i1 := e, miss := 0 } })
      (s.fstart + o)).chargeSample.settle) ∧
  (∀ (t : Nat) (s : State), s.dstate = 7 → (s.cts.i1.natAbs : Int) ≤ s.openMA false → 1 ≤ s.cts.low →
    (s.driveSample t).dstate = 8) ∧
  (∀ (t : Nat) (s : State), s.dstate = 2 → s.cts.since ≤ t →
    s.driveSample t = { s with cts := { s.cts with probeMax := max s.cts.probeMax s.cts.i1.natAbs } }) ∧
  (∀ (t : Nat) (s : State), s.dstate = 0 ∨ s.dstate = 6 → s.driveSample t = s) ∧
  (∀ s : State, s.dstate = 6 → s.cstate = 4 → 9 ≤ s.cts.matchN →
    ((s.cts.v4 - s.cts.v2).natAbs : Int) ≤ 100 * clampN 1 1000 (s.ctsCfg true Reg.CTS_CHGCFG_CMATCH) →
    s.chargeSample = (({ s with cts := { s.cts with matchN := s.cts.matchN + 1 } }.enterC 5).setRole 3 true)) ∧
  (∀ s : State, s.isLead = true → s.alive = true → s.power.holdAt = none →
    let u := s.advanceTo (s.fstart + (s.now - s.fstart + 49999) / 100000 * 100000 + 50000)
    (s.cts.miss = 0 → exec .ctsSampleMissing s = .next { u with cts := { s.cts with miss := 1 } }) ∧
    (1 ≤ s.cts.miss → 2 ≤ s.dstate → s.dstate ≤ 5 →
      ∃ w : State, exec .ctsSampleMissing s = .next w.settle ∧ w.dstate = 8) ∧
    (1 ≤ s.cts.miss → s.dstate ≤ 1 ∨ s.dstate = 8 →
      exec .ctsSampleMissing s = .next ({ u with cts := { s.cts with miss := s.cts.miss + 1 } } : State).settle)) ∧
  (∀ (h : Nat) (s : State), s.isLead = true → s.alive = true → s.power.holdAt = some h →
    let u := s.advanceTo (s.fstart + (s.now - s.fstart + 49999) / 100000 * 100000 + 50000)
    exec .ctsSampleMissing s = .next { u with cts := { s.cts with earlyN := 0 } }) ∧
  (∀ (a b c d e : Int) (o : Nat) (s : State), s.isLead = true → s.alive = true → s.isAnchor = false →
    s.fstart + o + 50000 < s.now → exec (.ctsSample a b c d e o) s = .next s)

/-- Load channels: command bits, the end of a ramp, and the channel protection -/
def Obligations.LoadChannelCommands : Prop :=
  (∀ (ini : Ini) (m : Word) (s : State), exec (.cmdSet ini m) s =
    .next ((List.range 16).foldl (fun s i => if m.getLsbD i then s.cmdOn i else s) s)) ∧
  (∀ (ini : Ini) (m : Word) (s : State), exec (.cmdClear ini m) s =
    .next ((List.range 16).foldl (fun s i => if m.getLsbD i then s.cmdOff i else s) s)) ∧
  (∀ (i : Nat) (s : State), s.hasChan i = false → s.cmdOn i = s ∧ s.cmdOff i = s) ∧
  (∀ (i : Nat) (s : State), s.hasChan i = true → s.isRole i = true →
    s.cmdOn i = s.raise Ev.OUT_CMD_REFUSED ∧ s.cmdOff i = s.raise Ev.OUT_CMD_REFUSED) ∧
  (∀ (i : Nat) (s : State), s.hasChan i = true → s.isRole i = false →
    (s.turnOnRefused i = true → s.cmdOn i = s.raise Ev.OUT_CMD_REFUSED) ∧
    (s.turnOnRefused i = false → s.cmdOn i = (s.put (Reg.OUT_CHSTAT_LASTFLT.at i) 0).setCmd i true) ∧
    (s.chState i ≠ 4 → s.cmdOff i = s.setCmd i false) ∧
    (s.chState i = 4 → s.cmdOff i = (s.testIncomplete i 0).setCmd i false)) ∧
  (∀ (ch : Fin 16) (s : State), s.chState ch = 1 → s.flag (Reg.OUT_CHSTAT_FROZEN.at ch) = false →
    Gives (exec (.rampComplete ch) s) fun t => t.chState ch = 2 ∧
      WordsKept [(Reg.OUT_CHSTAT_STATE.at ch).addr] s t ∧ t.mem = s.mem ∧ t.out = s.out) ∧
  (∀ (ch : Fin 16) (s : State), s.chState ch ≠ 1 ∨ s.flag (Reg.OUT_CHSTAT_FROZEN.at ch) = true →
    exec (.rampComplete ch) s = .next s) ∧
  (∀ (ch : Fin 16) (s : State), s.chState ch = 1 → exec (.inrushExpiry ch) s =
    .next (((s.advanceTo (s.inrushEnd ch)).protectOff ch 3).raise Ev.OUT_INRUSH_FAULT)) ∧
  (∀ (ch : Fin 16) (s : State), s.chState ch = 1 ∨ s.chState ch = 2 ∨ s.chState ch = 5 →
    exec (.channelShort ch) s = .next ((s.protectOff ch 1).raise Ev.OUT_SHORT)) ∧
  (∀ (ch : Fin 16) (s : State), s.chState ch = 4 → Gives (exec (.channelShort ch) s) fun t =>
    t.chState ch = 0 ∧ t.bit Reg.OUT_TESTRES_FAIL ch = true ∧ t.out.test = none ∧
    t.get (Reg.OUT_CHSTAT_LASTFLT.at ch) = 6 ∧ t.get Reg.OUT_CMD_ON = s.get Reg.OUT_CMD_ON ∧
    (s.alive = true → t.raised Ev.OUT_TEST_FAIL = true)) ∧
  (∀ (ch : Fin 16) (s : State), s.chState ch = 0 ∨ s.chState ch = 3 → exec (.channelShort ch) s = .next s ∧
    exec (.inrushExpiry ch) s = .next s) ∧
  (∀ (ch : Fin 16) (s : State), s.hasChan ch = true → s.chState ch ≠ 4 → exec (.junctionOvertemp ch) s =
    .next (((s.putB (Reg.OUT_CHSTAT_HOT.at ch) true).protectOff ch 2).raise Ev.OUT_JUNCTION)) ∧
  (∀ (ch : Fin 16) (s : State), s.hasChan ch = true → exec (.clampConducted ch) s = .next (s.raise Ev.OUT_CLAMP)) ∧
  (∀ (ch : Fin 16) (s : State), s.hasChan ch = false → exec (.clampConducted ch) s = .next s ∧
    exec (.junctionOvertemp ch) s = .next s)

/-- Load readings, clusters and test pulses -/
def Obligations.LoadDiagnosticsAndClusters : Prop :=
  (∀ (mA : List Nat) (hot : Nat) (cl : List Int) (s : State), s.readsChannels = true → (s.now - s.fstart + 9999) / 10000 ≤ 99 →
    let u := s.advanceTo (s.fstart + (s.now - s.fstart + 9999) / 10000 * 10000)
    let w := (mA.zipIdx).foldl (fun x r => x.readChan r.2 r.1 (hot.testBit r.2) (u.diagOn && u.out.test.isNone)) u
    (s.full = true → Gives (exec (.channelCurrentReading mA hot cl) s) fun t =>
      t.get Reg.OUT_LTICK_TICK = w.tick % 2 ^ 32 ∧
      WordsKept [Reg.OUT_CLTEMP01, Reg.OUT_CLTEMP23, Reg.OUT_LTICK] w t ∧ t.mem = w.mem) ∧
    (s.full = false → Gives (exec (.channelCurrentReading mA hot cl) s) fun t =>
      t.get Reg.OUT_LTICK_TICK = w.tick % 2 ^ 32 ∧ WordsKept [Reg.OUT_CLTEMP01, Reg.OUT_LTICK] w t ∧ t.mem = w.mem)) ∧
  (∀ (mA : List Nat) (hot : Nat) (cl : List Int) (s : State), s.readsChannels = false ∨ 99 < (s.now - s.fstart + 9999) / 10000 →
    exec (.channelCurrentReading mA hot cl) s = .next s) ∧
  (∀ (i mA : Nat) (hot counts : Bool) (s : State), s.hasChan i = false → s.readChan i mA hot counts = s) ∧
  (∀ s : State, s.out.crank = false → exec .crankDiagResume s = .next (s.advanceTo s.out.diagFrom)) ∧
  (∀ (c : Fin 4) (s : State), s.hasChan (4 * c) = true → exec (.clusterOvertemp c) s =
    .next (State.shedOne (State.putBit { s with out := { s.out with
      hot := s.out.hot.set c true, shedAt := s.out.shedAt.set c s.now } } Reg.OUT_SHED_CLUSTER c true) c)) ∧
  (∀ (c : Fin 4) (s : State), s.out.hot.getD c false = true →
    let u := s.advanceTo (s.out.shedAt.getD c 0 + 100000)
    exec (.clusterShedStep c true) s =
      .next (State.shedOne { u with out := { u.out with shedAt := u.out.shedAt.set c u.now } } c)) ∧
  (∀ (c : Fin 4) (hot : Bool) (s : State), s.out.hot.getD c false = false →
    exec (.clusterShedStep c hot) s = .next s) ∧
  (∀ (c : Fin 4) (s : State), s.bit Reg.OUT_SHED_CLUSTER c = true → Gives (exec (.clusterCooled c) s) fun t =>
    t.bit Reg.OUT_SHED_CLUSTER c = false ∧ t.out.hot = s.out.hot.set c false ∧
    (s.alive = true → t.raised Ev.OUT_SHED_CLEAR = true) ∧ t.get Reg.OUT_CMD_ON = s.get Reg.OUT_CMD_ON ∧
    QuietWordsKept [Reg.OUT_SHED] s t ∧ BytesKept s t) ∧
  (∀ (c : Fin 4) (s : State), s.bit Reg.OUT_SHED_CLUSTER c = false → exec (.clusterCooled c) s = .next s) ∧
  (∀ s : State, (s.advanceTo (s.fstart + 1000 * min 949 (s.get Reg.OUT_TESTCFG_TSLOT))).testDue = false →
    exec .testPulseStart s = .next (s.advanceTo (s.fstart + 1000 * min 949 (s.get Reg.OUT_TESTCFG_TSLOT)))) ∧
  (∀ (i : Nat) (bright : Bool) (s : State), i < 16 →
    let u := s.advanceTo (s.fstart + 1000 * min 949 (s.get Reg.OUT_TESTCFG_TSLOT))
    u.testDue = true → u.nextTest = some (i, bright) → Gives (exec .testPulseStart s) fun t =>
      t.out.test = some (i, bright) ∧ t.chState i = (if bright then 4 else 3) ∧ t.bit Reg.OUT_COND_ON i = bright ∧
      t.out.testFrame = (s.frame + clampN 1 255 (s.get Reg.OUT_TESTCFG_TPER)) % 2 ^ 32 ∧ t.mem = s.mem) ∧
  (∀ (i : Nat) (bright reached : Bool) (mA : Nat) (s : State), s.out.test = some (i, bright) →
    exec (.testPulseEnd mA reached) s =
      .next (if (if bright then !reached else decide (50 ≤ mA)) = true then
        ((s.advanceTo s.out.testEnd).testOver i (if bright then 0 else 2)).testFails i
      else (s.advanceTo s.out.testEnd).testOver i (if bright then 0 else 2))) ∧
  (∀ (c : Fin 4) (s : State), s.hasChan (4 * c) = false → exec (.clusterOvertemp c) s = .next s) ∧
  (∀ (c : Fin 4) (s : State), s.out.hot.getD c false = true →
    let u := s.advanceTo (s.out.shedAt.getD c 0 + 100000)
    exec (.clusterShedStep c false) s = .next { u with out := { u.out with hot := u.out.hot.set c false } })

/-- Safety Net: the inputs, the host request, the release and the lock -/
def Obligations.SafetyNetCommands : Prop :=
  (∀ (i : Fin 4) (high : Bool) (s : State), s.lhIn i = high → exec (.lhInputChange i high) s = .next s) ∧
  (∀ (i : Fin 4) (s : State), s.lhIn i = true → exec (.lhInputChange i false) s =
    .next ((State.putBit { s with lhm := { s.lhm with lhAt := s.lhm.lhAt.set i s.now } } Reg.LHM_STAT_LHIN i
      false).refreshChannels)) ∧
  (∀ (i : Fin 4) (s : State), s.lhIn i = false → exec (.lhInputChange i true) s =
    .next (State.refreshChannels (State.putBit
      (let w := if 100000 ≤ s.now - s.lhm.lhAt.getD i 0 then (List.range 16).foldl (fun x k =>
          if (s.lhMask i).testBit k then x.setChan k { x.chan k with tripped := false } else x) s else s;
        { w with lhm := { w.lhm with lhAt := w.lhm.lhAt.set i w.now } }) Reg.LHM_STAT_LHIN i true))) ∧
  (∀ (ini : Ini) (s : State), Gives (exec (.hostRequestWrite ini false) s) fun t =>
    t.flag Reg.LHM_HREQ_REQ = false ∧ t.lhm.hreq = bitTo s.lhm.hreq 0 false ∧ t.snActive = s.snActive ∧
    t.out = s.out ∧ WordsKept [Reg.LHM_HREQ] s t ∧ t.mem = s.mem) ∧
  (∀ (ini : Ini) (s : State), exec (.hostRequestWrite ini true) s =
    .next (State.snBegin (let w := s.putB Reg.LHM_HREQ_REQ true
      { w with lhm := { w.lhm with hreq := bitTo w.lhm.hreq 0 true } }) 3 false)) ∧
  (∀ (ini : Ini) (s : State), ini ≠ .pairA →
    exec (.safetyNetRelease ini) s = .next (s.accessFault ini true Reg.LHM_CTRL)) ∧
  (∀ s : State, s.snActive = false → exec (.safetyNetRelease .pairA) s = .next s) ∧
  (∀ s : State, s.snActive = true → s.snCausePersists = true →
    exec (.safetyNetRelease .pairA) s = .next (s.raise Ev.LHM_RELEASE_REFUSED)) ∧
  (∀ s : State, s.snActive = true → s.snCausePersists = false → exec (.safetyNetRelease .pairA) s = .next s.snEnd) ∧
  (∀ s : State, s.snEnd.snActive = false ∧ s.snEnd.get Reg.LHM_STAT_CAUSE = 0) ∧
  (∀ s : State, s.flag Reg.LHM_LOCK_LOCK = true → ∀ ini, exec (.lhmLock ini) s = .next s) ∧
  (∀ (ini : Ini) (s : State) (x y : Fin 4), s.flag Reg.LHM_LOCK_LOCK = false → x < y →
    s.get (Reg.LHM_ASSIGN_MASK.at x) &&& s.get (Reg.LHM_ASSIGN_MASK.at y) ≠ 0 →
    exec (.lhmLock ini) s = .next (s.raise Ev.LHM_LOCK_REFUSED)) ∧
  (∀ (ini : Ini) (s : State), s.flag Reg.LHM_LOCK_LOCK = false → s.lhmLock ≠ s.raise Ev.LHM_LOCK_REFUSED →
    exec (.lhmLock ini) s =
      .next ((((s.putB Reg.LHM_LOCK_LOCK true).putB Reg.LHM_STAT_SRC true).refreshChannels).raise Ev.LHM_LOCKED))

/-- The pump commands: start, stop and setpoint -/
def Obligations.PumpCommands : Prop :=
  (∀ (ini : Ini) (d : Nat) (s : State), s.pageOn (pageOf Reg.PMP_CTRL) = false →
    exec (.pumpStart ini) s = .next (s.accessDisabled ini Reg.PMP_CTRL) ∧
    exec (.pumpStop ini) s = .next (s.accessDisabled ini Reg.PMP_CTRL) ∧
    exec (.pumpSetpointWrite ini d) s = .next (s.accessDisabled ini Reg.PMP_SETP)) ∧
  (∀ (ini : Ini) (s : State), s.pageOn (pageOf Reg.PMP_CTRL) = true → s.isLead = false →
    exec (.pumpStart ini) s = .next s) ∧
  (∀ (ini : Ini) (s : State), s.pageOn (pageOf Reg.PMP_CTRL) = true → s.isLead = true → s.pmpState = 0 →
    s.pmp.gateBad = false → (5 * s.pmpObsmin : Nat) ≤ 4 * s.pmpTarget →
    Gives (exec (.pumpStart ini) s) fun t => t.flag Reg.PMP_STAT_ARMED = true ∧ t.pmpState = 1 ∧
      t.pmp.since = s.now ∧ WordsKept [Reg.PMP_STAT] s t ∧ t.mem = s.mem) ∧
  (∀ (ini : Ini) (s : State), s.pageOn (pageOf Reg.PMP_CTRL) = true → s.isLead = true → s.pmpState = 0 →
    (4 * s.pmpTarget < (5 * s.pmpObsmin : Nat) ∨ s.pmp.gateBad = true) →
    Gives (exec (.pumpStart ini) s) fun t => t.flag Reg.PMP_STAT_ARMED = true ∧ t.pmpState = 0 ∧ t.pmp = s.pmp ∧
      WordsKept [Reg.PMP_STAT] s t ∧ t.mem = s.mem) ∧
  (∀ (ini : Ini) (s : State), s.pageOn (pageOf Reg.PMP_CTRL) = true → Gives (exec (.pumpStop ini) s) fun t =>
    t.flag Reg.PMP_STAT_ARMED = false ∧ t.pmpState = (if s.pmpState = 5 then 7 else s.pmpState) ∧
    WordsKept [Reg.PMP_STAT] s t ∧ t.mem = s.mem) ∧
  (∀ (ini : Ini) (d : Nat) (s : State), s.pageOn (pageOf Reg.PMP_SETP) = true → s.pmpState = 0 →
    s.flag Reg.PMP_STAT_ARMED = false → Gives (exec (.pumpSetpointWrite ini d) s) fun t =>
      t.get Reg.PMP_SETP_DEMAND = d % 2 ^ Reg.PMP_SETP_DEMAND.wid ∧ t.pmpState = 0 ∧ t.pmp = s.pmp ∧
      WordsKept [Reg.PMP_SETP] s t ∧ t.mem = s.mem) ∧
  (∀ (ini : Ini) (d : Nat) (s : State), s.pageOn (pageOf Reg.PMP_SETP) = true →
    exec (.pumpSetpointWrite ini d) s = .next (s.put Reg.PMP_SETP_DEMAND d).pmpSettle)

/-- The pump sequence at the ends of its waits -/
def Obligations.PumpSequenceTimers : Prop :=
  (∀ (rpm : Int) (s : State), s.pmpState = 1 → s.pmp.gateBad = false →
    let n := s.pmpHeard rpm
    let u := (s.advanceTo (s.pmp.since + 2000000)).putSatI Reg.PMP_SPD_RPM n
    (0 < n → (u.pmpNmax : Int) < n → exec (.listenEnd rpm) s = .next (u.pmpZero false)) ∧
    (0 < n → n ≤ (u.pmpNmax : Int) → u.pmpTarget ≤ 10 * n → exec (.listenEnd rpm) s = .next (u.pmpRun n)) ∧
    (0 ≤ n → n ≤ (u.pmpNmax : Int) → 10 * n < u.pmpTarget → exec (.listenEnd rpm) s = .next (u.pmpEnter 2)) ∧
    (n < 0 → n.natAbs < u.get Reg.PMP_CATCH_BRKMAX → exec (.listenEnd rpm) s = .next (u.pmpEnter 2)) ∧
    (n < 0 → u.get Reg.PMP_CATCH_BRKMAX ≤ n.natAbs →
      exec (.listenEnd rpm) s = .next (u.pmpFail Ev.PMP_REVERSE))) ∧
  (∀ (ph vbat : Nat) (s : State), s.pmpState = 1 → s.pmp.gateBad = false → vbat + 300 < ph →
    Gives (exec (.phaseNodeOvervoltage ph vbat) s) fun t => t.pmpState = 6 ∧ t.pmp.toOff = false ∧ t.pmp.since = s.now ∧
      WordsKept [Reg.PMP_STAT] s t ∧ t.mem = s.mem) ∧
  (∀ (rpm : Int) (s : State), s.pmpState = 2 → s.pmp.gateBad = false →
    let u := s.advanceTo (s.pmp.since + 50000000)
    (rpm < 0 → u.pmpTarget ≤ (10 * rpm.natAbs : Nat) → exec (.brakeTimeout rpm) s = .next (u.pmpFail Ev.PMP_REVERSE)) ∧
    (0 ≤ rpm ∨ ((10 * rpm.natAbs : Nat) : Rat) < u.pmpTarget → exec (.brakeTimeout rpm) s = .next (u.pmpEnter 3))) ∧
  (∀ s : State, s.pmpState = 3 → s.pmp.gateBad = false → Gives (exec .alignEnd s) fun t => t.pmpState = 4 ∧
    t.now = max s.now (s.pmp.since + 1000000 * clampN 1 100 (s.get Reg.PMP_START_ALIGNT)) ∧ t.pmp.since = t.now ∧
    WordsKept [Reg.PMP_STAT] s t ∧ t.mem = s.mem) ∧
  (∀ s : State, s.pmpState = 6 → s.pmp.gateBad = false →
    let u := s.advanceTo (s.pmp.since + s.pmpZv)
    (s.pmp.toOff = true → exec .zeroVectorEnd s = .next u.pmpStopped) ∧
    (s.pmp.toOff = false → u.pmpSpent = true → exec .zeroVectorEnd s = .next (u.pmpOpen 8)) ∧
    (s.pmp.toOff = false → u.pmpSpent = false → exec .zeroVectorEnd s = .next (u.pmpOpen 1))) ∧
  (∀ s : State, s.pmpState = 8 → s.pmp.gateBad = false →
    let u := s.advanceTo (s.pmp.since + 10000000 * clampN 1 255 (s.get Reg.PMP_CATCH_RETRYDLY))
    (u.pmpSpent = true → exec .retryDelayEnd s = .next ((u.pmpEnter 9).raise Ev.PMP_GIVEUP)) ∧
    (u.pmpSpent = false → exec .retryDelayEnd s = .next (u.pmpEnter 1))) ∧
  (∀ s : State, s.pmpState = 5 → Gives (exec .runAttemptReset s) fun t => t.get Reg.PMP_ATTEMPT_COUNT = 0 ∧
    t.now = max s.now (s.pmp.runAt + 6000000000) ∧ t.pmp = s.pmp ∧ WordsKept [Reg.PMP_ATTEMPT] s t ∧ t.mem = s.mem) ∧
  (∀ (rpm : Int) (ph vbat : Nat) (s : State), s.pmpState = 0 ∨ s.pmpState = 9 →
    exec (.listenEnd rpm) s = .next s ∧ exec (.phaseNodeOvervoltage ph vbat) s = .next s ∧ exec (.brakeTimeout rpm) s = .next s ∧ exec .alignEnd s = .next s ∧
    exec .zeroVectorEnd s = .next s ∧ exec .retryDelayEnd s = .next s ∧ exec .runAttemptReset s = .next s) ∧
  (∀ (e : Event) (s : State), (s.pmpFail e).pmpState = 8 ∧ s.pmpStopped.pmpState = 0 ∧
    (s.pmpFail e).pmpFw = false ∧ s.pmpStopped.pmpFw = false) ∧
  (∀ (rpm : Int) (s : State),
    (rpm.natAbs * clampN 1 15 (s.get Reg.PMP_MOTOR2_PP) < 3000 → s.pmpHeard rpm = 0) ∧
    (3000 ≤ rpm.natAbs * clampN 1 15 (s.get Reg.PMP_MOTOR2_PP) → s.pmpHeard rpm = rpm)) ∧
  (∀ (ph vbat : Nat) (s : State), ph ≤ vbat + 300 → exec (.phaseNodeOvervoltage ph vbat) s = .next s)

/-- The pump at its loop instants, PWM periods and gate supply -/
def Obligations.PumpLoopAndGateCommands : Prop :=
  (∀ (v : Nat) (rpm : Int) (ang : Nat) (e : Nat) (l : Bool) (i : Int × Int) (s : State), s.pmpHere = false →
    exec (.pumpCurrentLoop v rpm ang e l i) s = .next s) ∧
  (∀ (v : Nat) (rpm : Int) (ang : Nat) (e : Nat) (l : Bool) (i : Int × Int) (s : State), s.pmpHere = true →
    let u := ((s.advanceTo (s.fstart + (s.now - s.fstart + 4999) / 5000 * 5000)).putSatI Reg.PMP_SPD_RPM rpm).putSat
      Reg.PMP_VBUS_MV v
    (s.pmp.gateBad = true → exec (.pumpCurrentLoop v rpm ang e l i) s = .next u) ∧
    (s.pmp.gateBad = false → s.pmpState = 8 ∨ s.pmpState = 9 ∨ s.pmpState = 1 ∨ s.pmpState = 6 →
      exec (.pumpCurrentLoop v rpm ang e l i) s = .next u) ∧
    (s.pmp.gateBad = false → s.pmpDrives = true → 
      let w := (u.pmpLoop v i).putB Reg.PMP_STAT_LOCK l
      exec (.pumpCurrentLoop v rpm ang e l i) s = .next (w.pmpAdvance rpm ang (w.pmpEmfBad rpm e) l))) ∧
  (∀ (uv : Nat) (s : State), s.pmpHere = true → s.pmpDrives = true → s.pmp.hiCut = false → s.pmpOver uv = true →
    (s.pmp.ocN < 19 → exec (.pumpShuntOvercurrent uv) s =
      .next { s with pmp := { s.pmp with hiCut := true, ocN := s.pmp.ocN + 1 } }) ∧
    (19 ≤ s.pmp.ocN → exec (.pumpShuntOvercurrent uv) s = .next ((State.raise
      { s with pmp := { s.pmp with hiCut := true, ocN := s.pmp.ocN + 1 } } Ev.PMP_OVERCURRENT).pmpRotorLost))) ∧
  (∀ (uv : Nat) (s : State), s.pmpHere = false ∨ s.pmpDrives = false ∨ s.pmp.hiCut = true ∨ s.pmpOver uv = false →
    exec (.pumpShuntOvercurrent uv) s = .next s) ∧
  (∀ s : State, exec .pwmPeriodStart s = .next { s with pmp := { s.pmp with
    dutyNow := s.pmp.duty, hiCut := false, loCut := false, ocN := if s.pmp.hiCut then s.pmp.ocN else 0 } }) ∧
  (∀ (ph : Int) (s : State), (s.pmpState = 2 ∨ s.pmpState = 6 →
      clampN 20 2000 (s.get Reg.PMP_BRAKE_VDSLIM) ≤ ph.natAbs →
      exec (.vdsLimitReached ph) s = .next { s with pmp := { s.pmp with loCut := true } }) ∧
    (ph.natAbs < clampN 20 2000 (s.get Reg.PMP_BRAKE_VDSLIM) → exec (.vdsLimitReached ph) s = .next s) ∧
    (s.pmpState ≠ 2 → s.pmpState ≠ 6 → exec (.vdsLimitReached ph) s = .next s)) ∧
  (∀ (vgd boot : Nat) (s : State), s.pmpHere = false ∨ (8000 ≤ vgd ∧ 7000 ≤ boot) →
    exec (.gateSupplyFault vgd boot) s = .next s) ∧
  (∀ (vgd boot : Nat) (s : State), s.pmpHere = true → vgd < 8000 ∨ boot < 7000 → s.pmpState = 0 ∨ s.pmpState = 9 →
    Gives (exec (.gateSupplyFault vgd boot) s) fun t => t.pmp = { s.pmp with gateBad := true, gateBack := none } ∧
      (s.pmp.gateBad = false → t.raised Ev.PMP_GATE_FAULT = true) ∧ QuietWordsKept [] s t ∧ BytesKept s t) ∧
  (∀ (vgd boot : Nat) (s : State), s.pmpHere = true → vgd < 8000 → 1 ≤ s.pmpState → s.pmpState ≤ 8 →
    Gives (exec (.gateSupplyFault vgd boot) s) fun t =>
      t.pmpState = 8 ∧ t.pmp.gateBad = true ∧ t.pmp.idRef = 0 ∧ t.pmp.iqRef = 0 ∧ t.flag Reg.PMP_STAT_LOCK = false ∧
      QuietWordsKept [Reg.PMP_STAT] s t) ∧
  (∀ (vgd boot : Nat) (s : State), s.pmp.gateBad = true → s.pmp.gateBack = none → 8000 ≤ vgd → 7000 ≤ boot →
    exec (.gateSupplyReturn vgd boot) s = .next { s with pmp := { s.pmp with gateBack := some s.now } }) ∧
  (∀ (vgd boot : Nat) (s : State), s.pmp.gateBad = false ∨ vgd < 8000 ∨ boot < 7000 →
    exec (.gateSupplyReturn vgd boot) s = .next s) ∧
  (∀ s : State, s.pmp.gateBack = none → exec .gateSupplyRecovery s = .next s) ∧
  (∀ (n : Nat) (s : State), s.pmp.gateBack = some n → 1 ≤ s.pmpState → s.pmpState ≤ 8 →
    Gives (exec .gateSupplyRecovery s) fun t => t.pmpState = 1 ∧ t.pmp.gateBad = false ∧ t.pmp.gateBack = none ∧
      t.now = max s.now (n + 10000000) ∧ t.pmp.since = t.now ∧ WordsKept [Reg.PMP_STAT] s t ∧ t.mem = s.mem)

/-- VBAT pauses, the pause limit, the brown-out warning and over-voltage -/
def Obligations.SupplyPauseCommands : Prop :=
  (∀ (n : Nat) (s : State), s.power.pauseAt = some n → s.power.backAt = none → exec .vbatPause s = .next s) ∧
  (∀ s : State, s.power.pauseAt = none → s.alive = false → exec .vbatPause s = .next s.crankBegin ∧
    exec .vbatPauseReturn s = .next (State.crankEnd { s with power := { s.power with
      pauseAt := none, backAt := none, okAt := some s.now } })) ∧
  (∀ s : State, s.power.pauseAt = none → s.alive = true → exec .vbatPause s =
    .next ((((((State.put { s with power := { s.power with pauseAt := some s.now, backAt := none, lowSince := none } }
      Reg.PWR_STAT_STATE 1).raise Ev.PWR_PAUSE).incSat Reg.PWR_COUNT_PAUSES).pauseMeasurement).pmpSettle).crankBegin)) ∧
  (∀ (n : Nat) (s : State), s.alive = true → s.power.pauseAt = some n → s.power.backAt = none →
    s.power.warnAt = none → s.out.crank = false → Gives (exec .vbatPauseReturn s) fun t =>
      t.power.backAt = some s.now ∧ t.power.pauseAt = some n ∧ t.get Reg.PWR_STAT_STATE = 0 ∧
      t.get Reg.PWR_PAUSELAST_MS = min ((s.now - n) / 100000) (2 ^ Reg.PWR_PAUSELAST_MS.wid - 1) ∧
      WordsKept [Reg.PWR_STAT, Reg.PWR_PAUSELAST] s t ∧ t.mem = s.mem ∧ t.cm = s.cm) ∧
  (∀ (n b : Nat) (s : State), s.alive = true → s.power.pauseAt = some n → s.power.backAt = some b →
    exec .vbatPauseReturn s = .next s) ∧
  (∀ (n : Nat) (s : State), s.power.pauseAt = some n → s.alive = true → s.power.backAt = none →
    exec .pauseLimit s = .next ((s.advanceTo (n + s.pauseMax)).barrierFault true)) ∧
  (∀ s : State, s.power.pauseAt = none ∨ s.alive = false ∨ s.power.backAt.isSome = true →
    exec .pauseLimit s = .next s) ∧
  (∀ (n : Nat) (s : State), s.power.warnAt = some n → exec .brownoutWarning s = .next s) ∧
  (∀ s : State, s.power.warnAt = none → s.alive = true → Gives (exec .brownoutWarning s) fun t =>
    ∃ p : State, exec .vbatPause s = .next p ∧
    let w := (((State.put { p with power := { p.power with warnAt := some p.now } } Reg.PWR_STAT_STATE 2).raise
      Ev.PWR_BOW).incSat Reg.PWR_COUNT_BOWS).saveTick true
    t = if w.sleeping = true then w
      else if w.isLead = true then State.freeze { w with est := { w.est with jPend := true } } 3 0 else w.freeze 3 0) ∧
  (∀ (n : Nat) (s : State), s.alive = true → s.power.warnAt = some n → Gives (exec .brownoutWarningEnd s) fun t =>
    t.power.warnAt = none ∧ t.ret.warned = false ∧ t.get Reg.PWR_STAT_STATE = 1 ∧ t.raised Ev.PWR_BOW_END = true ∧
    QuietWordsKept [Reg.PWR_STAT] s t ∧ BytesKept s t) ∧
  (∀ s : State, s.power.warnAt = none → exec .brownoutWarningEnd s = .next s) ∧
  (∀ (mv : Nat) (s : State), 52000 ≤ mv → Gives (exec (.vbatOvervoltage mv) s) fun t => t.flag Reg.PWR_STAT_OVERV = true ∧
    (s.alive = true → t.raised Ev.PWR_OVERVOLT = true) ∧ QuietWordsKept [Reg.PWR_STAT] s t ∧ BytesKept s t) ∧
  (∀ (mv : Nat) (s : State), mv < 50000 → Gives (exec (.vbatOvervoltage mv) s) fun t =>
    t.flag Reg.PWR_STAT_OVERV = false ∧ WordsKept [Reg.PWR_STAT] s t ∧ t.mem = s.mem) ∧
  (∀ (mv : Nat) (s : State), 50000 ≤ mv → mv < 52000 → exec (.vbatOvervoltage mv) s = .next s)

/-- What every device reset leaves -/
def Obligations.DeviceResetLeaves : Prop :=
  (∀ (c : Nat) (s : State), s.alive = true →
    (s.deviceReset c).alive = false ∧ (s.deviceReset c).power.code = c ∧ (s.deviceReset c).frame = 0 ∧
    (s.deviceReset c).fstart = (s.deviceReset c).now ∧ (s.deviceReset c).power.resetAt = (s.deviceReset c).now ∧
    (s.deviceReset c).power.holdAt = none ∧ (s.deviceReset c).power.keyA = false ∧
    (s.deviceReset c).power.keyB = false ∧ (s.deviceReset c).power.stage = 0 ∧ (s.deviceReset c).lhm.hreq = 0 ∧
    (s.deviceReset c).pending = s.pending ∧ (s.deviceReset c).full = s.full ∧ s.now ≤ (s.deviceReset c).now) ∧
  (∀ (c a : Nat) (s : State), s.alive = true → keptReg a = false → pageOf a ≠ 29 →
    (s.deviceReset c).word a = resetWord a) ∧
  (∀ (c a : Nat) (s : State), (s.wiped c).word a = (if keptReg a || pageOf a == 29 then s.word a else resetWord a)) ∧
  (∀ (c : Nat) (s : State), s.alive = false → s.deviceReset c = s)

/-- The events that reset the device, and those that end a cause -/
def Obligations.ResetCauseCommands : Prop :=
  (∀ (n : Nat) (s : State), s.power.warnAt = some n → s.alive = true →
    exec .brownoutTimeout s = .next ((s.advanceTo (n + 200000)).deviceReset 3) ∧
    (s.get Reg.PWR_HOLDE_UJ < 50 → exec .holdupExhausted s = .next (s.deviceReset 4)) ∧
    (50 ≤ s.get Reg.PWR_HOLDE_UJ → exec .holdupExhausted s = .next s)) ∧
  (∀ s : State, s.power.warnAt = none → exec .brownoutTimeout s = .next s ∧ exec .holdupExhausted s = .next s) ∧
  (∀ s : State, s.sleeping = false → s.alive = true → exec .coreSupplyFailure s =
    .next ((State.deviceReset { s with power := { s.power with coreFail := true } } 5).putBit Reg.LHM_STAT_CAUSE 2 true)) ∧
  (∀ s : State, s.sleeping = true → exec .coreSupplyFailure s = .next s) ∧
  (∀ s : State, exec .coreSupplyReturn s = .next { s with power := { s.power with
    coreFail := false, okAt := some (max s.now (s.power.okAt.getD 0)) } }) ∧
  (∀ s : State, s.power.pll = true → s.alive = true → exec .clockFailure s =
    .next (State.deviceReset { s with power := { s.power with clockFail := true } } 6)) ∧
  (∀ s : State, s.power.pll = false ∨ s.alive = false → exec .clockFailure s = .next s) ∧
  (∀ s : State, exec .crystalRecovered s = .next { s with power := { s.power with
    clockFail := false, okAt := some (max s.now (s.power.okAt.getD 0)) } }) ∧
  (∀ s : State, Gives (exec .nrstAssert s) fun t => t.alive = false ∧ t.power.nrstLow = true ∧
    t.power.nrstAt.isSome = true ∧ t.mayRelease = false ∧ (s.alive = true → t.power.code = 2)) ∧
  (∀ (n : Nat) (s : State), s.power.nrstAt = some n → exec .nrstRelease s = .next { s with power := { s.power with
    nrstLow := false, nrstAt := none, nrstNew := true, nrstMs := (s.now - n) / 100000 } }) ∧
  (∀ s : State, s.power.nrstAt = none → exec .nrstRelease s = .next s) ∧
  (∀ s : State, exec .thermalRestart s = .next { s with power := { s.power with hot := false } }) ∧
  (∀ s : State, s.alive = true → 1750 ≤ s.getI Reg.THM_DIESTAT_TDIE → Gives (exec .dieStage3HardStop s) fun t =>
    t.alive = false ∧ t.power.code = 8 ∧ t.power.hot = true ∧ t.mayRelease = false) ∧
  (∀ s : State, s.alive = true → s.power.stage = 3 → s.getI Reg.THM_DIESTAT_TDIE < 1750 →
    Gives (exec .dieStage3HardStop s) fun t => t.alive = false ∧ t.power.code = 8 ∧ t.power.hot = true ∧
      s.power.stage3At + 10000000 ≤ t.now) ∧
  (∀ s : State, s.power.stage ≠ 3 → s.getI Reg.THM_DIESTAT_TDIE < 1750 → exec .dieStage3HardStop s = .next s) ∧
  (∀ s : State, Gives (exec .alwaysOnLoss s) fun t => t.alive = false ∧ t.power.vbatLost = true ∧ t.power.code = 0 ∧
    t.mayRelease = false ∧ t.power.pauseAt = none ∧ t.power.warnAt = none) ∧
  (∀ (n : Nat) (s : State), s.alive = true ∨ s.power.vbatLost = false → exec (.powerOn n) s = .next s) ∧
  (∀ (n : Nat) (s : State), s.alive = false → s.power.vbatLost = true → Gives (exec (.powerOn n) s) fun t =>
    t.alive = false ∧ t.power.code = 1 ∧ t.power.vbatLost = true ∧ t.power.strapFault = (n == 0 || decide (7 < n)))

/-- Release from reset and the boot steps -/
def Obligations.BootCommands : Prop :=
  (∀ (l : Bool) (s : State), s.alive = true ∨ s.mayRelease = false → exec (.resetRelease l) s = .next s) ∧
  (∀ (l : Bool) (s : State), s.alive = false → s.mayRelease = true → Gives (exec (.resetRelease l) s) fun t =>
    t.power.phase = .released ∧ t.alive = true ∧ t.leadStrap = l ∧ t.frame = 0 ∧ t.now = max s.now s.releaseTick ∧
    t.fstart = t.now ∧ t.power.releasedAt = t.now ∧ t.power.port = 0 ∧ t.power.okAt = none ∧ t.cm.running = s.power.pauseAt.isNone) ∧
  (∀ (c : Nat) (b : Bool) (s : State), c ∈ [2, 7, 8] → s.power.code = c → s.alive = false → s.mayRelease = true →
    Gives (exec (.resetRelease b) s) fun t => BytesKept s t) ∧
  (∀ s : State, s.power.phase = .released → 1200 ≤ s.get Reg.PWR_HOLDE_UJ →
    exec .bootRecords s = .next s.bootStep5) ∧
  (∀ s : State, s.power.phase ≠ .released ∨ s.get Reg.PWR_HOLDE_UJ < 1200 → exec .bootRecords s = .next s) ∧
  (∀ s : State, s.power.phase = .released → exec .bootHoldupTimeout s =
    .next (State.bootStep5 (let u := s.advanceTo (s.power.releasedAt + 100000000)
      { u with power := { u.power with holdFltBoot := true } }.putB Reg.PWR_STAT_HOLDFLT true))) ∧
  (∀ s : State, s.power.phase ≠ .released → exec .bootHoldupTimeout s = .next s) ∧
  (∀ s : State, s.power.phase ≠ .records → exec .bootVerifyDone s = .next s) ∧
  (∀ s : State, s.power.phase = .records → Gives (exec .bootVerifyDone s) fun t =>
    let r := s.verifyPair .a (s.ret.boot.getD (0, 0)).1
    match r.2 with
    | none => t.power.phase = .bootHold ∧ t.cpa = s.cpa ∧ t.cpb = s.cpb ∧ t.now = s.now ∧
      t.flag Reg.NVM_BOOTSTAT_AFALL = true
    | some _ => t.power.phase = .run ∧ t.cpa.inReset = false ∧ t.frame = 0 ∧ t.fstart = s.now ∧
      t.power.holdFltBoot = false ∧ t.get Reg.RST_WDSTAT_CNTA = 0 ∧ t.get Reg.RST_WDSTAT_CNTB = 0 ∧
      t.cpb.inReset = t.cpb.held) ∧
  (∀ (p : Pair) (b : Nat) (s : State), (s.verifyPair p b).2 = if s.regionOk (2 * b + p.idx) then some b
    else if s.regionOk (2 * (1 - b) + p.idx) then some (1 - b) else none)

/-- Watchdog service, expiry and the end of the output hold -/
def Obligations.WatchdogCommands : Prop :=
  (∀ (ini : Ini) (p : Pair) (k : Word) (s : State), ini ≠ p.ini →
    exec (.watchdogService ini p k) s = .next (s.accessFault ini true (wdAddr p))) ∧
  (∀ (p : Pair) (k : Word) (s : State), s.power.phase ≠ .run ∨ s.power.holdAt.isSome = true →
    exec (.watchdogService p.ini p k) s = .next s) ∧
  (∀ (p : Pair) (k : Word) (s : State), s.power.phase = .run → s.power.holdAt = none →
    (k.toNat % 65536 = 0x5A5A → Gives (exec (.watchdogService p.ini p k) s) fun t => t.wdKey p = true ∧
      t.get (wdCount p) = s.get (wdCount p) ∧ t.regs = s.regs ∧ t.mem = s.mem ∧ t.power.holdAt = none) ∧
    (k.toNat % 65536 = 0xA5A5 → s.wdKey p = true → s.wdMin ≤ s.get (wdCount p) →
      Gives (exec (.watchdogService p.ini p k) s) fun t => t.get (wdCount p) = 0 ∧ t.wdKey p = false ∧
        t.power.holdAt = none ∧ WordsKept [Reg.RST_WDSTAT] s t ∧ t.mem = s.mem) ∧
    (k.toNat % 65536 = 0xA5A5 → s.wdKey p = true → s.get (wdCount p) < s.wdMin →
      exec (.watchdogService p.ini p k) s = .next ((s.setWdKey p false).wdExpire p 2)) ∧
    (k.toNat % 65536 = 0xA5A5 → s.wdKey p = false →
      exec (.watchdogService p.ini p k) s = .next ((s.setWdKey p false).wdExpire p 3)) ∧
    (k.toNat % 65536 ≠ 0x5A5A → k.toNat % 65536 ≠ 0xA5A5 →
      exec (.watchdogService p.ini p k) s = .next ((s.setWdKey p false).wdExpire p 3))) ∧
  (∀ (p : Pair) (s : State), s.power.phase = .run → s.wdMax ≤ s.get (wdCount p) →
    exec (.watchdogExpiry p) s = .next (s.wdExpire p 1)) ∧
  (∀ (p : Pair) (s : State), s.power.phase ≠ .run ∨ s.get (wdCount p) < s.wdMax →
    exec (.watchdogExpiry p) s = .next s) ∧
  (∀ (p : Pair) (why : Nat) (s : State), s.power.holdAt = none →
    (s.wdExpire p why).power = { s.power with wdPair := p.idx + 1, wdWhy := why, holdAt := some s.now } ∧
    (s.wdExpire p why).cpa.inReset = true ∧ (s.wdExpire p why).cpb.inReset = true ∧
    (s.wdExpire p why).tt.tasks = [] ∧ (s.wdExpire p why).cts.earlyN = 0) ∧
  (∀ (p : Pair) (why : Nat) (s : State), s.power.holdAt = some s.now → s.power.wdPair ≠ p.idx + 1 →
    s.wdExpire p why = { s with power := { s.power with wdPair := 3 } }) ∧
  (∀ s : State, s.power.holdAt = none → exec .watchdogHoldEnd s = .next s) ∧
  (∀ (n : Nat) (s : State), s.power.holdAt = some n → s.pmpFw = false → exec .watchdogHoldEnd s =
    .next (State.deviceReset (((if s.wdEarly then s else
      s.advanceTo (n + 1000000 * min 50 (s.get Reg.RST_WDCFG_HOLD))).ctsHoldEnd).snBegin 0 false).allOff 7)) ∧
  (∀ (n : Nat) (s : State), s.power.holdAt = some n → s.pmpFw = true → Gives (exec .watchdogHoldEnd s) fun t =>
    t.pmpState = 6 ∧ t.pmp.toOff = true)

/-- Clocks before a watch frame, the end of Sleep, and the hold-up monitor -/
def Obligations.ClockAndHoldupCommands : Prop :=
  (∀ s : State, s.beforeWatchFrame = true → s.power.pll = false → s.power.pllOn = false →
    Gives (exec .pllRestart s) fun t => t.power.pllOn = true ∧ t.power.pll = false ∧
      t.now = max s.now (s.fstart + 700000) ∧ t.regs = s.regs ∧ t.mem = s.mem) ∧
  (∀ s : State, s.beforeWatchFrame = false ∨ s.power.pll = true ∨ s.power.pllOn = true →
    exec .pllRestart s = .next s) ∧
  (∀ s : State, s.power.pllOn = true → Gives (exec .pllLocked s) fun t => t.power.pll = true ∧
    t.power.pllOn = false ∧ t.flag Reg.CLK_STAT_PLLLOCK = true ∧ WordsKept [Reg.CLK_STAT] s t ∧ t.mem = s.mem ∧
    t.tick = s.tick ∧ t.now = s.now) ∧
  (∀ s : State, s.power.pllOn = false → exec .pllLocked s = .next s) ∧
  (∀ s : State, s.beforeWatchFrame = true → s.power.pauseAt = none → Gives (exec .measDieWarmup s) fun t =>
    t.cm.warm = true ∧ t.now = max s.now (s.fstart + 800000) ∧ t.regs = s.regs ∧ t.mem = s.mem) ∧
  (∀ s : State, s.beforeWatchFrame = false ∨ s.power.pauseAt.isSome = true → exec .measDieWarmup s = .next s) ∧
  (∀ s : State, s.sleeping = false ∨ s.alive = false ∨ s.power.waking = false → exec .sleepExitResume s = .next s) ∧
  (∀ s : State, s.sleeping = true → s.alive = true → s.power.waking = true → 
    Gives (exec .sleepExitResume s) fun t => ∃ w : State, w.frame = (s.frame + 1) % 2 ^ 32 ∧
    w.fstart = s.now ∧ w.power.waking = false ∧ w.power.pll = true ∧ w.get Reg.SYS_PROFSTAT_PROF = 0 ∧
    w.flag Reg.CLK_STAT_XTALOK = true ∧ w.flag Reg.CLK_STAT_PLLLOCK = true ∧ w.raised Ev.PROFILE_CHANGED = true ∧
    w.get Reg.SYS_PROFREQ_REQ = 0 ∧ w.get Reg.TMB_SRC_SOURCE = 0 ∧ w.cm.running = s.power.pauseAt.isNone ∧
    t = (((List.range 4).foldl (fun x ch => x.canResume ch)
      ((w.refreshChannels.matrixRun.restorePair .a).restorePair .b)).estProfile false true).tktResume.settle.hostShow) ∧
  (∀ (mv : Nat) (sl : Option (Nat × Nat)) (s : State), s.nvm.bootDue = none ∨ s.alive = false →
    let e := holdEnergy (clampN 10 1000 (s.get Reg.PWR_HOLDCFG_CAP)) mv
    Gives (exec (.holdupMeasure mv sl) s) fun t =>
      t.get Reg.PWR_VHOLD_MV = min mv (2 ^ Reg.PWR_VHOLD_MV.wid - 1) ∧
      t.get Reg.PWR_HOLDE_UJ = min e (2 ^ Reg.PWR_HOLDE_UJ.wid - 1) ∧
      t.flag Reg.PWR_STAT_HOLDOK = decide (1200 ≤ e) ∧
      t.power.lowSince = (if 1200 ≤ e ∨ s.get Reg.PWR_STAT_STATE ≠ 0 then none else some (s.power.lowSince.getD s.now)) ∧
      (∀ v hz, sl = some (v, hz) → t.get Reg.PWR_VBAT_MV = min v (2 ^ Reg.PWR_VBAT_MV.wid - 1) ∧
        t.get Reg.CLK_AOFREQ_HZ = hz % 2 ^ Reg.CLK_AOFREQ_HZ.wid) ∧
      WordsKept [Reg.PWR_VHOLD, Reg.PWR_HOLDE, Reg.PWR_STAT, Reg.PWR_VBAT, Reg.CLK_AOFREQ] s t ∧ t.mem = s.mem) ∧
  (∀ (n : Nat) (s : State), s.power.lowSince = some n → s.alive = true → s.flag Reg.PWR_STAT_HOLDFLT = false →
    Gives (exec .holdupFault s) fun t => t.flag Reg.PWR_STAT_HOLDFLT = true ∧ t.raised Ev.PWR_HOLD_FAULT = true ∧
      t.now = max s.now (n + 100000000) ∧ QuietWordsKept [Reg.PWR_STAT] s t ∧ BytesKept s t) ∧
  (∀ s : State, s.power.lowSince = none → exec .holdupFault s = .next s)

/-- Packets on the link: who takes them, the check, and what they change -/
def Obligations.LinkPacketCommands : Prop :=
  (∀ (t : Nat) (f : Bool) (s : State), s.isLead = false → s.alive = true →
    exec (.heartbeatReceived false t f) s = .next s.linkCrc) ∧
  (∀ (p : SetPacket) (s : State), s.alive = true → p.crcOk = false →
    exec (.setPacketReceived p) s = .next s.linkCrc) ∧
  (∀ (r : FrameRecord) (s : State), s.alive = true → r.crcOk = false →
    exec (.frameRecordReceived r) s = .next s.linkCrc) ∧
  (∀ (d : Nat) (op : ReplyOp) (s : State), s.alive = true →
    exec (.accessReplyReceived d false op) s = .next s.linkCrc) ∧
  (∀ s : State, s.alive = true → s.linkCrc.get Reg.CSC_CRCERR_COUNT =
      min (s.get Reg.CSC_CRCERR_COUNT + 1) (2 ^ Reg.CSC_CRCERR_COUNT.wid - 1) ∧
    s.linkCrc.raised Ev.CSC_LINK_CRC = true ∧ QuietWordsKept [Reg.CSC_CRCERR] s s.linkCrc ∧ BytesKept s s.linkCrc ∧
    s.linkCrc.csc = s.csc) ∧
  (∀ (d : Nat) (op : ReplyOp) (p : SetPacket) (r : FrameRecord) (crc : Bool) (s : State),
    s.alive = false → exec (.setPacketReceived p) s = .next s ∧
      exec (.frameRecordReceived r) s = .next s ∧ exec (.accessReplyReceived d crc op) s = .next s) ∧
  (∀ (crc f : Bool) (t : Nat) (s : State), s.isLead = true ∨ s.alive = false →
    exec (.heartbeatReceived crc t f) s = .next s) ∧
  (∀ (t : Nat) (f : Bool) (s : State), s.isLead = false → s.alive = true →
    let w := s.passAway ⟨.heartbeat, 8, t, f.toNat⟩
    let u : State := { w with csc := { w.csc with heard := true }, saf := { w.saf with cascadeForb := f } }
    (s.flag Reg.CSC_STAT_LOCK = true → exec (.heartbeatReceived true t f) s = .next (u.alignTick t).protect) ∧
    (s.flag Reg.CSC_STAT_LOCK = false → exec (.heartbeatReceived true t f) s = .next u.protect)) ∧
  (∀ (p : SetPacket) (s : State), s.isLead = true → s.alive = true → p.crcOk = true →
    exec (.setPacketReceived p) s = .next (if s.flag Reg.CSC_STAT_ENUM = true ∧ s.knows p.dev = true ∧
        s.bit Reg.CSC_LOST_DEV p.dev = false ∧
        (p.frame = s.frame % 65536 ∨ (p.frame = (s.frame + 65535) % 65536 ∧ s.csc.closed = false)) ∧
        (∀ q, q ∈ s.csc.buf → ¬ (q.dev = p.dev ∧ q.frame = p.frame ∧ q.idx = p.idx))
      then { s with csc := { s.csc with buf := p :: s.csc.buf } } else s)) ∧
  (∀ (r : FrameRecord) (s : State), s.isLead = true → s.alive = true → r.crcOk = true →
    (s.knows r.dev = false → exec (.frameRecordReceived r) s = .next s) ∧
    (s.knows r.dev = true → s.flag Reg.CSC_STAT_ENUM = true → (s.tripNow r.dev r.trip).bit Reg.CSC_LOST_DEV r.dev = true →
      r.readmit = false → exec (.frameRecordReceived r) s = .next (s.tripNow r.dev r.trip)) ∧
    (s.knows r.dev = true → s.flag Reg.CSC_STAT_ENUM = true → (s.tripNow r.dev r.trip).bit Reg.CSC_LOST_DEV r.dev = false →
      exec (.frameRecordReceived r) s = .next (
        let u := s.tripNow r.dev r.trip
        let v := (((u.takeRecord r).checkDigest r).followAnchor r).takeGrants r
        (if (r.stage != 0 || u.newReaction r) = true then v.eisAbort.eisExc else v).settle.protect))) ∧
  (∀ (d tag : Nat) (data : Word) (s : State), s.isLead = true → s.alive = true →
    exec (.accessReplyReceived d true (.data tag data)) s = .next s) ∧
  (∀ s : State, let u := if 977000 ≤ s.now - s.fstart then s.recordQueue else s
    (s.isLead = true ∨ (∀ e, e ∈ s.tt.xfer → e ≤ s.now) → exec .lane0Transmit s = .next u) ∧
    (s.isLead = false → (∃ e, e ∈ s.tt.xfer ∧ s.now < e) →
      (u.csc.txq.any (·.kind.first) = true → exec .lane0Transmit s = .next (u.transmit (·.kind.first))) ∧
      (u.csc.txq.any (·.kind.first) = false → 970000 ≤ s.now - s.fstart ∨ s.now - s.fstart < 20000 →
        exec .lane0Transmit s = .next u) ∧
      (u.csc.txq.any (·.kind.first) = false → s.now - s.fstart < 970000 → 20000 ≤ s.now - s.fstart →
        exec .lane0Transmit s = .next (u.transmit (·.kind.lane0))))) ∧
  (∀ (s : State) (f : LinkMsg → Bool), (s.transmit f).csc.txq = dropFirst f s.csc.txq ∧
    (∀ m : LinkMsg, s.csc.txq.find? f = some m → (s.transmit f).csc.wire = some (m, s.lane0Path)) ∧
    (s.transmit f).regs = s.regs ∧ (s.transmit f).mem = s.mem) ∧
  (∀ s : State, (s.numbered = true → s.alive = true → s.actFrame = true → s.csc.recDone ≠ some s.frame →
      s.recordQueue.csc.txq = s.csc.txq ++ [⟨.record s.ownRecord, 0, 0, 0⟩] ∧ s.recordQueue.csc.recDone = some s.frame) ∧
    (s.csc.recDone = some s.frame → s.recordQueue = s)) ∧
  (∀ (f : LinkMsg → Bool) (m : LinkMsg) (l : List LinkMsg), dropFirst f [] = [] ∧
    dropFirst f (m :: l) = (if f m then l else m :: dropFirst f l)) ∧
  (∀ (d : Nat) (op : ReplyOp) (p : SetPacket) (r : FrameRecord) (s : State), s.isLead = false → s.alive = true →
    (p.crcOk = true → exec (.setPacketReceived p) s = .next (s.passAway ⟨.set p, 0, 0, 0⟩)) ∧
    (r.crcOk = true → exec (.frameRecordReceived r) s = .next (s.passAway ⟨.record r, 0, 0, 0⟩)) ∧
    exec (.accessReplyReceived d true op) s = .next (s.passAway ⟨.reply op, 0, d, 0⟩))

/-- The frame marker, the SYNC edge and the missed frame -/
def Obligations.MarkerAndSyncCommands : Prop :=
  (∀ s : State, s.isLead = true → s.power.phase = .run → s.csc.mute = false → s.sleeping = false →
    s.power.wakeAt = 0 ∨ s.power.wakeAt + 1000000 ≤ s.fstart → Gives (exec .frameMarkerSend s) fun t =>
      t.now = max s.now (s.fstart + 999000) ∧ t.regs = s.regs ∧ t.mem = s.mem ∧
      t.csc.txq = s.csc.txq ++ [⟨.marker, 8, (markerWord s.stg.flag s.profNext s.modeNext (s.frame + 1)).toNat, 0⟩,
        ⟨.edge, 8, 0, 0⟩]) ∧
  (∀ s : State, s.isLead = false ∨ s.csc.mute = true ∨ s.sleeping = true → exec .frameMarkerSend s = .next s) ∧
  (∀ (w : Word) (s : State), s.isLead = false → s.alive = true → s.sleeping = false → markerValid w = true →
    s.flag Reg.CSC_STAT_LOCK = false ∨ (w.extractLsb' 8 16).toNat = (s.frame + 1) % 65536 →
    Gives (exec (.frameMarkerReceived w) s) fun t => t.csc.marker = some (w.getLsbD 27, (w.extractLsb' 25 2).toNat,
      (w.extractLsb' 24 1).toNat, (w.extractLsb' 8 16).toNat) ∧ t.csc.everMarker = true ∧ t.regs = s.regs ∧
      t.mem = s.mem) ∧
  (∀ (w : Word) (s : State), markerValid w = false ∨ s.isLead = true → exec (.frameMarkerReceived w) s = .next s) ∧
  (∀ (o : Int) (s : State), s.isLead = false → s.alive = true → s.csc.marker.isSome = true → o < 1000 →
    Gives (exec (.syncEdge o) s) fun t => t.csc.edge = o ∧ t.csc.miss = 0 ∧
      t.csc.good = (if o.natAbs ≤ 2 then s.csc.good + 1 else 0) ∧
      t.flag Reg.CSC_STAT_LOCK = (s.flag Reg.CSC_STAT_LOCK || decide (3 ≤ t.csc.good)) ∧
      t.csc.unsync = !t.flag Reg.CSC_STAT_LOCK ∧
      (s.flag Reg.CSC_STAT_LOCK = false → t.flag Reg.CSC_STAT_LOCK = true → t.raised Ev.CSC_SYNC_LOCKED = true) ∧
      QuietWordsKept [Reg.CSC_STAT] s t ∧ BytesKept s t) ∧
  (∀ (o : Int) (s : State), s.isLead = true ∨ s.csc.marker = none ∨ 1000 ≤ o → exec (.syncEdge o) s = .next s) ∧
  (∀ s : State, s.isLead = false → s.alive = true → let d := s.dropRemote
    (d.csc.miss = 0 ∨ d.flag Reg.CSC_STAT_LOCK = false → Gives (exec .missedFrame s) fun t => t.csc.marker = none ∧
      t.csc.miss = d.csc.miss + 1 ∧ t.csc.good = 0 ∧ t.csc.unsync = true ∧ t.regs = d.regs ∧ t.mem = d.mem) ∧
    (1 ≤ d.csc.miss → d.flag Reg.CSC_STAT_LOCK = true → Gives (exec .missedFrame s) fun t => t.csc.marker = none ∧
      t.csc.miss = d.csc.miss + 1 ∧ t.flag Reg.CSC_STAT_LOCK = false ∧ t.flag Reg.TMB_SRC_ALIGNED = false ∧
      (d.alive = true → t.raised Ev.CSC_SYNC_LOST = true) ∧ QuietWordsKept [Reg.CSC_STAT, Reg.TMB_SRC] d t ∧
      BytesKept d t)) ∧
  (∀ s : State, s.isLead = true → exec .missedFrame s = .next s ∧ exec .syncWakePattern s = .next s) ∧
  (∀ s : State, s.isLead = false → s.sleeping = true → exec .syncWakePattern s =
    .next { s with power := { s.power with waking := true, wakeAt := s.now } }) ∧
  (∀ s : State, s.isLead = false → s.sleeping = false → exec .syncWakePattern s = .next s) ∧
  (∀ s : State, s.isLead = false ∨ s.alive = false ∨ s.csc.closed = true →
    exec .xferCompletionWindowEnd s = .next s) ∧
  (∀ (e : Nat) (l : List Nat) (s : State), s.isLead = true → s.alive = true → s.csc.closed = false →
    s.tt.xfer = e :: l → s.flag Reg.CSC_STAT_ENUM = false → Gives (exec .xferCompletionWindowEnd s) fun t =>
      t.csc.closed = true ∧ t.now = max s.now e ∧ t.regs = s.regs ∧ t.mem = s.mem ∧
      t.csc.buf = s.csc.buf.filter (·.frame != (s.frame + 2 ^ 32 - 1) % 2 ^ 32 % 65536))

/-- Enumeration: the token, its time-out, retries, and foreign leads -/
def Obligations.EnumerationCommands : Prop :=
  (∀ s : State, s.mayEnum = true → s.hopsWhole = true → Gives (exec .enumerationStart s) fun t =>
    t.now = max s.now (s.csc.hopsAt + 100000) ∧ t.csc.stage = 1 ∧ t.csc.sent = true ∧ t.csc.tokenAt = t.now ∧ t.csc.expect = [] ∧ t.csc.records = [] ∧
    t.csc.txq = s.csc.txq ++ [⟨.token, 1, 1, 0⟩] ∧ t.regs = s.regs ∧ t.mem = s.mem) ∧
  (∀ s : State, s.mayEnum = true → Gives (exec .enumRetry s) fun t =>
    t.csc.stage = 1 ∧ t.csc.sent = true ∧ t.now = max s.now (s.csc.tokenAt + 10000000) ∧ t.csc.tokenAt = t.now ∧
    t.csc.txq = s.csc.txq ++ [⟨.token, 1, 1, 0⟩] ∧ t.regs = s.regs ∧ t.mem = s.mem) ∧
  (∀ s : State, s.mayEnum = false → exec .enumerationStart s = .next s ∧ exec .enumRetry s = .next s ∧
    exec .singleDeviceEnumTimeout s = .next s) ∧
  (∀ (n : Nat) (s : State), s.csc.firstMarker = some n → s.mayEnum = true → s.get Reg.CSC_CFG_NDEV ≤ 1 →
    s.csc.everLocked = false → Gives (exec .singleDeviceEnumTimeout s) fun t => t.csc.stage = 3 ∧
      t.get Reg.CSC_ENUMSTAT_NFOUND = 0 ∧ t.now = max s.now (n + 100000) ∧ WordsKept [Reg.CSC_ENUMSTAT] s t ∧
      t.mem = s.mem) ∧
  (∀ (r : Bool) (n : Nat) (s : State), s.alive = false → exec (.enumTokenReceived r n true) s = .next s ∧
    exec (.enumTokenReceived r n false) s = .next s) ∧
  (∀ (r : Bool) (n : Nat) (s : State), s.alive = true → exec (.enumTokenReceived r n false) s = .next s.linkCrc) ∧
  (∀ (r : Bool) (n : Nat) (s : State), s.alive = true → s.isLead = true → s.csc.sent = false →
    (s.csc.lateTok = false → exec (.enumTokenReceived r n true) s = .next s.multiLead) ∧
    (s.csc.lateTok = true →
      exec (.enumTokenReceived r n true) s = .next { s with csc := { s.csc with lateTok := false } })) ∧
  (∀ (n : Nat) (s : State), s.alive = true → s.isLead = true → s.csc.sent = true → s.csc.stage = 1 →
    Gives (exec (.enumTokenReceived false n true) s) fun t => t.csc.stage = 2 ∧ t.csc.tokenAt = s.now ∧
      t.get Reg.CSC_ENUMSTAT_NFOUND = (n - 1) % 2 ^ Reg.CSC_ENUMSTAT_NFOUND.wid ∧
      t.csc.txq = s.csc.txq ++ [⟨.token, n - 1, n, 1⟩] ∧ WordsKept [Reg.CSC_ENUMSTAT] s t ∧ t.mem = s.mem) ∧
  (∀ (n : Nat) (s : State), s.alive = true → s.isLead = true → s.csc.sent = true → s.csc.stage = 2 →
    n = s.get Reg.CSC_ENUMSTAT_NFOUND + 1 → Gives (exec (.enumTokenReceived true n true) s) fun t =>
      t.csc.sent = false ∧ (n = clampN 1 8 (s.get Reg.CSC_CFG_NDEV) → t.csc.stage = 3 ∧ t.regs = s.regs) ∧
      (n ≠ clampN 1 8 (s.get Reg.CSC_CFG_NDEV) → t.csc.stage = 0 ∧ t.raised Ev.CSC_ENUM_MISMATCH = true)) ∧
  (∀ (n : Nat) (s : State), s.alive = true → s.isLead = false → Gives (exec (.enumTokenReceived false n true) s) fun t =>
    t.csc.stage = 1 ∧ t.get Reg.SYS_PROFSTAT_DEVNUM = n % 2 ^ Reg.SYS_PROFSTAT_DEVNUM.wid ∧
    t.csc.txq = s.csc.txq ++ [⟨.token, n + 1, n + 1, 0⟩] ∧ WordsKept [Reg.SYS_PROFSTAT] s t ∧ t.mem = s.mem) ∧
  (∀ (n : Nat) (s : State), s.alive = true → s.isLead = false →
    (s.csc.stage = 1 → Gives (exec (.enumTokenReceived true n true) s) fun t => t.csc.stage = 3 ∧
      t.csc.txq = s.csc.txq ++ [⟨.token, 0, n, 1⟩] ∧ t.regs = s.regs) ∧
    (s.csc.stage ≠ 1 → s.flag Reg.CSC_STAT_LOCK = true → s.devNum = 0 ∨ s.devNum = n →
      Gives (exec (.enumTokenReceived true n true) s) fun t => t.csc.stage = 3 ∧ t.csc.answered = true ∧
        t.get Reg.SYS_PROFSTAT_DEVNUM = n % 2 ^ Reg.SYS_PROFSTAT_DEVNUM.wid) ∧
    (s.csc.stage ≠ 1 → s.flag Reg.CSC_STAT_LOCK = false ∨ (s.devNum ≠ 0 ∧ s.devNum ≠ n) →
      exec (.enumTokenReceived true n true) s = .next s)) ∧
  (∀ s : State, s.isLead = true → s.alive = true → s.csc.stage = 1 ∨ s.csc.stage = 2 →
    Gives (exec .enumTokenTimeout s) fun t => t.csc.stage = 0 ∧ t.csc.sent = false ∧ t.csc.lateTok = true ∧
      t.now = max s.now (s.csc.tokenAt + 100000) ∧ t.raised Ev.CSC_RING_OPEN = true ∧ QuietWordsKept [] s t) ∧
  (∀ s : State, s.isLead = false ∨ s.csc.stage = 0 ∨ s.csc.stage = 3 → exec .enumTokenTimeout s = .next s) ∧
  (∀ (ini : Ini) (s : State), s.isLead = true → s.alive = true → s.anyRoleOn = false → s.csc.mute = false →
    Gives (exec (.enumRequest ini) s) fun t => t.flag Reg.CSC_STAT_ENUM = false ∧ t.get Reg.SYS_PROFSTAT_ROLE = 0 ∧
      t.csc.firstMarker = some s.now ∧ t.csc.stage = (if s.hopsWhole = true ∧ s.csc.hopsAt + 100000 ≤ s.now then 1 else 0) ∧
      WordsKept [Reg.CSC_STAT, Reg.SYS_PROFSTAT] s t ∧ t.mem = s.mem) ∧
  (∀ (ini : Ini) (s : State), s.isLead = false ∨ s.anyRoleOn = true ∨ s.csc.mute = true →
    exec (.enumRequest ini) s = .next s) ∧
  (∀ s : State, s.isLead = false → s.alive = true → s.csc.everMarker = false → s.saf.loss = false →
    s.power.releasedAt + 1000000 * clampN 2 255 (s.get Reg.CSC_LOSSCFG_LTMO) ≤ s.now →
    exec .noLeadTimeout s = .next ((s.raise Ev.CSC_NO_LEAD).lossBegin 0)) ∧
  (∀ s : State, s.isLead = true ∨ s.csc.everMarker = true ∨
    s.now < s.power.releasedAt + 1000000 * clampN 2 255 (s.get Reg.CSC_LOSSCFG_LTMO) → exec .noLeadTimeout s = .next s) ∧
  (∀ s : State, s.isLead = true → s.alive = true → s.csc.mute = false →
    exec .foreignSyncDetected s = .next s.multiLead) ∧
  (∀ s : State, s.isLead = false ∨ s.csc.mute = true → exec .foreignSyncDetected s = .next s)

/-- Hops, lost followers, the lost lead and the TRIP line -/
def Obligations.RingAndLossCommands : Prop :=
  (∀ (h : Nat) (s : State), s.alive = false → exec (.hopLockLost h) s = .next s ∧ exec (.hopLockGained h) s = .next s) ∧
  (∀ (h : Nat) (s : State), s.alive = true → s.flag Reg.CSC_STAT_ENUM = false ∨ (s.isLead = true ∧ (s.hopCount ≤ h ∨
    s.hopCount ≤ 1)) → exec (.hopLockLost h) s = .next { s with csc := { s.csc with
      hops := bitTo s.csc.hops h false, hopsLost := bitTo s.csc.hopsLost h true, hopsAt := s.now } }) ∧
  (∀ (h : Nat) (s : State), s.alive = true → s.flag Reg.CSC_STAT_ENUM = true → h < s.hopCount → 1 < s.hopCount →
    s.isLead = true → Gives (exec (.hopLockLost h) s) fun t => t.flag Reg.CSC_RINGSTAT_BROKEN = true ∧
      t.flag Reg.CSC_STAT_REVERSED = true ∧ t.csc.hops = bitTo s.csc.hops h false ∧
      t.csc.gaps = s.csc.gaps.filter (fun g => !g.touches h) ++
        [{ hops := (s.csc.gaps.filter (·.touches h)).foldl (fun m g => m ||| g.hops) (2 ^ h), healed := none }] ∧
      ((∀ g, g ∈ s.csc.gaps → g.touches h = false) → t.raised Ev.CSC_RING_BREAK = true) ∧
      QuietWordsKept [Reg.CSC_RINGSTAT, Reg.CSC_STAT] s t ∧ BytesKept s t) ∧
  (∀ (h : Nat) (s : State), s.alive = true → s.flag Reg.CSC_STAT_ENUM = true → s.isLead = false →
    Gives (exec (.hopLockLost h) s) fun t => t.csc.hops = bitTo s.csc.hops h false ∧
      t.csc.gaps = s.csc.gaps.filter (fun g => !g.touches h) ++
        [{ hops := (s.csc.gaps.filter (·.touches h)).foldl (fun m g => m ||| g.hops) (2 ^ h), healed := none }] ∧
      t.flag Reg.CSC_STAT_REVERSED = (t.csc.gaps.any fun g => (List.range 8).any fun i =>
        g.hops.testBit i && decide (s.devNum ≤ i)) ∧ WordsKept [Reg.CSC_STAT] s t ∧ t.mem = s.mem) ∧
  (∀ (h : Nat) (s : State), s.alive = true → Gives (exec (.hopLockGained h) s) fun t =>
    t.csc.hops = bitTo s.csc.hops h true ∧ t.csc.hopsLost = bitTo s.csc.hopsLost h false ∧ t.csc.hopsAt = s.now ∧
    t.csc.everLocked = true ∧ t.csc.gaps.length = s.csc.gaps.length ∧ t.regs = s.regs ∧ t.mem = s.mem) ∧
  (∀ s : State, s.alive = true → exec .ringGapClosed s = .next { s with csc := { s.csc with
    restore := (s.csc.gaps.filter s.gapClosed).foldl (fun m g => m ||| g.hops) s.csc.restore } }) ∧
  (∀ (g : Gap) (s : State), s.gapClosed g = true ↔ ∃ n, g.healed = some n ∧ n + 100000000 ≤ s.now) ∧
  (∀ s : State, s.alive = false → exec .ringGapClosed s = .next s) ∧
  (∀ (d : Nat) (s : State), s.isLead = true → s.alive = true → s.flag Reg.CSC_STAT_ENUM = true → s.knows d = true →
    s.bit Reg.CSC_LOST_DEV d = false → clampN 1 15 (s.get Reg.CSC_LOSSCFG_FLOST) ≤ s.csc.missed.getD d 0 →
    Gives (exec (.followerLost d) s) fun t => ∃ w : State, w.csc.records = s.csc.records ∧ w.csc.lostAt = s.csc.lostAt.set d s.frame ∧
      w.saf.followerForb = bitTo s.saf.followerForb d false ∧ w.raised Ev.CSC_FOLLOWER_LOST = true ∧
      (d < 8 → w.bit Reg.CSC_LOST_DEV d = true) ∧ w.bal.asked = s.bal.asked ∧
      t = (
        let v := if ((s.anchorRecord.map (·.dev)) == some d) = true ∧ w.bal.asked.testBit 2 = true then w.isoOver
          else w
        (if 2 ≤ v.eis.phase then v.eisIncomplete else v).settle.protect)) ∧
  (∀ (d : Nat) (s : State), s.isLead = false ∨ s.knows d = false ∨ s.bit Reg.CSC_LOST_DEV d = true ∨
    s.csc.missed.getD d 0 < clampN 1 15 (s.get Reg.CSC_LOSSCFG_FLOST) → exec (.followerLost d) s = .next s) ∧
  (∀ (d : Nat) (s : State), s.isLead = true → s.alive = true → s.bit Reg.CSC_LOST_DEV d = true →
    s.get Reg.CSC_LOSSCFG_FTRIP ≠ 0 → s.get Reg.CSC_LOSSCFG_FTRIP ≤ s.framesSince (s.csc.lostAt.getD d 0) →
    exec (.followerLossTrip d) s = .next ((State.putBit { s with csc := { s.csc with
      tripping := bitTo s.csc.tripping d true } } Reg.CSC_TRIPSRC_LATCH d true).lossBegin d)) ∧
  (∀ (d : Nat) (s : State), s.bit Reg.CSC_LOST_DEV d = false ∨ s.get Reg.CSC_LOSSCFG_FTRIP = 0 →
    exec (.followerLossTrip d) s = .next s) ∧
  (∀ s : State, s.isLead = true ∨ s.alive = false ∨ s.flag Reg.CSC_STAT_NOLEAD = true ∨ s.csc.everMarker = false →
    exec .leadLost s = .next s) ∧
  (∀ s : State, s.isLead = false → s.alive = true → s.sleeping = false → s.csc.everMarker = true →
    s.flag Reg.CSC_STAT_NOLEAD = false → s.csc.heard = false →
    clampN 2 255 (s.get Reg.CSC_LOSSCFG_LTMO) ≤ s.csc.silent + 1 →
    Gives (exec .leadLost s) fun t => ∃ w : State, w.flag Reg.CSC_STAT_NOLEAD = true ∧ w.flag Reg.TMB_SRC_ALIGNED = false ∧
      w.flag Reg.THM_STAT_SUSP = false ∧ w.thm.suspect = 0 ∧ w.thm.suspectNext = none ∧
      t = w.eisAbort.dropCascadeGrants.isoOrphan.settle) ∧
  (∀ s : State, s.isLead = false → s.alive = true → s.flag Reg.CSC_STAT_NOLEAD = true → s.saf.loss = false →
    exec .leadLossTrip s = .next ((s.advanceTo (s.fstart + 1000)).lossBegin 0)) ∧
  (∀ s : State, s.isLead = true ∨ s.flag Reg.CSC_STAT_NOLEAD = false ∨ s.saf.loss = true →
    exec .leadLossTrip s = .next s) ∧
  (∀ s : State, s.alive = false → exec .tripRecognised s = .next s ∧ exec (.tripReadbackCheck true) s = .next s) ∧
  (∀ s : State, s.alive = true → Gives (exec .tripRecognised s) fun t => ∃ w : State, w.saf.tripIn = true ∧ w.flag Reg.CSC_STAT_TRIPIN = true ∧
    (s.flag Reg.CSC_STAT_TRIPIN = true → WordsKept [Reg.CSC_STAT] s w) ∧
    QuietWordsKept [Reg.CSC_STAT] s w ∧ t = w.protect) ∧
  (∀ (r : Bool) (s : State), s.flag Reg.CSC_STAT_TRIPOUT = true → s.alive = true →
    Gives (exec (.tripReadbackCheck r) s) fun t => t.now = max s.now (s.csc.tripAt + 200) ∧
      (r = true → t.raised Ev.CSC_TRIP_FAULT = true) ∧ (r = false → t.regs = s.regs) ∧ QuietWordsKept [] s t) ∧
  (∀ s : State, s.alive = true → exec .tripReleased s =
    .next (State.safShow (State.putB { s with saf := { s.saf with tripIn := false } } Reg.CSC_STAT_TRIPIN false))) ∧
  (∀ (d : Nat) (s : State), s.alive = true → s.bit Reg.SAF_RSTAT_LATCH 14 = true →
    s.lossBegin d = ((State.driveTrip { s with saf := { s.saf with loss := true, lossDev := d } } 14).holdShow.safShow))

/-- CAN control commands: INIT, LOM, detection, object requests and the FIFO -/
def Obligations.CanControlCommands : Prop :=
  (∀ (ini : Ini) (ch : Fin 4) (b : Bool) (v : Word) (s : State), s.pageOn (22 + ch.val) = false →
    exec (.canInitWrite ini ch b) s = .next (s.accessDisabled ini (Reg.CAN_CTRL_INIT.at ch.val).addr) ∧
    exec (.canLomWrite ini ch b) s = .next (s.accessDisabled ini (Reg.CAN_CTRL_LOM.at ch.val).addr) ∧
    exec (.canAbdStart ini ch) s = .next (s.accessDisabled ini (Reg.CAN_CTRL_ABD.at ch.val).addr) ∧
    exec (.objectReq ini ch) s = .next (s.accessDisabled ini (Reg.CAN_OBJCMD_REQ.at ch.val).addr) ∧
    exec (.objectCancel ini ch) s = .next (s.accessDisabled ini (Reg.CAN_OBJCMD_CANCEL.at ch.val).addr) ∧
    exec (.objectAck ini ch) s = .next (s.accessDisabled ini (Reg.CAN_OBJCMD_ACK.at ch.val).addr) ∧
    exec (.objectWord0Write ini ch v) s = .next (s.accessDisabled ini (Reg.CAN_OBJW_VAL.at ch.val).addr)) ∧
  (∀ (ini : Ini) (s : State), s.pageOn 25 = false →
    exec (.fifoPush ini) s = .next (s.accessDisabled ini (Reg.CAN_CTRL_FIFOPUSH.at 3).addr) ∧
    exec (.fifoClear ini) s = .next (s.accessDisabled ini (Reg.CAN_CTRL_FIFOCLR.at 3).addr)) ∧
  (∀ (ini : Ini) (ch : Fin 4) (b : Bool) (s : State), s.pageOn (22 + ch.val) = true →
    ((b || !s.canRuns ch.val) = s.flag (Reg.CAN_CTRL_INIT.at ch.val) → exec (.canInitWrite ini ch b) s = .next s) ∧
    ((b || !s.canRuns ch.val) ≠ s.flag (Reg.CAN_CTRL_INIT.at ch.val) → exec (.canInitWrite ini ch b) s =
      .next (State.tktRebind (((s.putB (Reg.CAN_CTRL_INIT.at ch.val) (b || !s.canRuns ch.val)).putB
        (Reg.CAN_STAT_INIT.at ch.val) (b || !s.canRuns ch.val)).setCan ch.val { s.canOf ch.val with
          joined := false, waitAt := s.now, sending := none, cancelled := false, abd := none })))) ∧
  (∀ (ini : Ini) (ch : Fin 4) (b : Bool) (s : State), s.pageOn (22 + ch.val) = true →
    Gives (exec (.canLomWrite ini ch b) s) fun t => t.flag (Reg.CAN_CTRL_LOM.at ch.val) = b ∧
      t.flag (Reg.CAN_STAT_LOM.at ch.val) = b ∧ (b = true → t.can = s.can) ∧
      WordsKept [Reg.CAN_CTRL + 0x1000 * ch.val, Reg.CAN_STAT + 0x1000 * ch.val] s t ∧ t.mem = s.mem) ∧
  (∀ (ini : Ini) (ch : Fin 4) (s : State), s.pageOn (22 + ch.val) = true →
    (s.flag (Reg.CAN_CTRL_LOM.at ch.val) = true → s.flag (Reg.CAN_CTRL_INIT.at ch.val) = false →
      exec (.canAbdStart ini ch) s = .next (s.setCan ch.val { s.canOf ch.val with abd := some s.now })) ∧
    (s.flag (Reg.CAN_CTRL_LOM.at ch.val) = false ∨ s.flag (Reg.CAN_CTRL_INIT.at ch.val) = true →
      exec (.canAbdStart ini ch) s = .next s)) ∧
  (∀ (ini : Ini) (ch : Fin 4) (v : Word) (s : State), s.pageOn (22 + ch.val) = true →
    let k := s.objSel ch.val
    exec (.objectReq ini ch) s = .next (s.objRequest ch.val k) ∧
    exec (.objectCancel ini ch) s = .next (s.objCancel ch.val k) ∧
    exec (.objectAck ini ch) s = .next (if s.objBit ch.val k 0 30 then s else s.setObjBit ch.val k 1 0 false) ∧
    exec (.objectWord0Write ini ch v) s = .next (if s.flag (Reg.CAN_CTRL_INIT.at ch.val) then
      (s.setObjWord ch.val k 0 v.toNat).tktRebind else s)) ∧
  (∀ (ch k : Nat) (s : State), (s.sendObj ch k = false → s.objRequest ch k = s ∧ s.objCancel ch k = s) ∧
    (s.objBit ch k 1 0 = false → s.objCancel ch k = s) ∧
    (s.sendObj ch k = true → s.objBit ch k 1 0 = true → (s.canOf ch).sending = some k →
      s.objCancel ch k = s.setCan ch { s.canOf ch with cancelled := true }) ∧
    (s.sendObj ch k = true → s.objBit ch k 1 0 = true → (s.canOf ch).sending ≠ some k →
      s.objCancel ch k = s.objWithdraw ch k false)) ∧
  (∀ (ini : Ini) (s : State), s.pageOn 25 = true →
    ((s.canOf 3).fifo.length < 32 → exec (.fifoPush ini) s = .next (s.setCan 3 { s.canOf 3 with
      fifo := (s.canOf 3).fifo ++ [fifoWords.map fun w => nget w (s.canOf 3).fifoWin] })) ∧
    (32 ≤ (s.canOf 3).fifo.length → Gives (exec (.fifoPush ini) s) fun t => t.can = s.can ∧
      t.get (Reg.CAN_STAT_SVC.at 3) = 6 ∧ (s.alive = true → t.raised (Ev.CAN_OVERRUN 3) = true)) ∧
    ((s.canOf 3).sending = some 128 → exec (.fifoClear ini) s = .next (s.setCan 3 { s.canOf 3 with
      fifo := (s.canOf 3).fifo.take 1, cancelled := true })) ∧
    ((s.canOf 3).sending ≠ some 128 → exec (.fifoClear ini) s = .next (s.setCan 3 { s.canOf 3 with
      fifo := [], tries := nset 128 0 (s.canOf 3).tries }))) ∧
  (∀ (ch : Fin 4) (n d : Nat) (s : State), s.alive = false ∨ (s.canOf ch.val).abd = none ∨ n = 0 ∨ 4 < n ∨ 5 < d →
    exec (.canAbdDone ch n d) s = .next s) ∧
  (∀ (ch : Fin 4) (n d : Nat) (s : State), s.alive = true → (s.canOf ch.val).abd.isSome = true → 1 ≤ n → n ≤ 4 →
    d ≤ 5 → Gives (exec (.canAbdDone ch n d) s) fun t => t.flag (Reg.CAN_ABDRES_VALID.at ch.val) = true ∧
      t.get (Reg.CAN_ABDRES_NRATE.at ch.val) = n ∧ t.get (Reg.CAN_ABDRES_DRATE.at ch.val) = d ∧
      t.get (Reg.CAN_STAT_SVC.at ch.val) = 3 ∧ t.raised (Ev.CAN_SERVICE ch.val) = true) ∧
  (∀ (ch : Fin 4) (n : Nat) (s : State), s.alive = true → (s.canOf ch.val).abd = some n →
    Gives (exec (.canAbdTimeout ch) s) fun t => t.get (Reg.CAN_STAT_SVC.at ch.val) = 4 ∧
      t.now = max s.now (n + 100000 * clampN 10 60000 (s.get (Reg.CAN_ABDCFG_ABDTMO.at ch.val))) ∧
      t.can = s.can.set ch.val { s.canOf ch.val with abd := none } ∧ t.raised (Ev.CAN_SERVICE ch.val) = true ∧
      QuietWordsKept [Reg.CAN_STAT + 0x1000 * ch.val] s t) ∧
  (∀ (ch : Fin 4) (s : State), s.alive = false ∨ (s.canOf ch.val).abd = none → exec (.canAbdTimeout ch) s = .next s)

/-- CAN frames: reception, the pick at start of frame, success, failure and the CANTX window -/
def Obligations.CanTrafficCommands : Prop :=
  (∀ (ch : Fin 4) (f : BusFrame) (s : State), s.canOnBus ch.val = false ∨ f.rtr = true ∨
      (f.fdf = true ∧ s.flag (Reg.CAN_MODE_FDOE.at ch.val) = false) ∨ s.fltTarget ch.val f.xtd (placeId f.xtd f.id) = none →
    exec (.canFrameReceived ch f) s = .next s) ∧
  (∀ (ch : Fin 4) (f : BusFrame) (k : Nat) (s : State), s.canOnBus ch.val = true → f.rtr = false →
    f.fdf = false ∨ s.flag (Reg.CAN_MODE_FDOE.at ch.val) = true →
    s.fltTarget ch.val f.xtd (placeId f.xtd f.id) = some k → let w := s.objStore ch.val k f
    (w.connAt ch.val k false = none → exec (.canFrameReceived ch f) s = .next w) ∧
    (∀ n, w.connAt ch.val k false = some n → exec (.canFrameReceived ch f) s =
      .next (w.connCheck n ch.val k (dlcLen f.fdf f.dlc) f.xtd))) ∧
  (∀ (ch : Fin 4) (s : State), s.canOnBus ch.val = false ∨ s.flag (Reg.CAN_CTRL_LOM.at ch.val) = true ∨
      (s.canOf ch.val).sending.isSome = true ∨ s.get Reg.SYS_PROFSTAT_PROF ≠ 0 ∨ s.canPick ch.val = none →
    exec (.canStartOfFrame ch) s = .next s) ∧
  (∀ (ch : Fin 4) (k : Nat) (s : State), s.canOnBus ch.val = true → s.flag (Reg.CAN_CTRL_LOM.at ch.val) = false →
    (s.canOf ch.val).sending = none → s.get Reg.SYS_PROFSTAT_PROF = 0 → s.canPick ch.val = some k →
    let w := s.setCan ch.val { s.canOf ch.val with sending := some k, cancelled := false }
    exec (.canStartOfFrame ch) s = .next (if w.isReference ch.val k then w.referenceData ch.val k else w)) ∧
  (∀ (ch : Fin 4) (d : Nat) (arb : Bool) (s : State), (s.canOf ch.val).sending = none →
    exec (.canTxSuccess ch d) s = .next s ∧ exec (.canTxAttemptFailed ch arb) s = .next s) ∧
  (∀ (ch : Fin 4) (d : Nat) (s : State), (s.canOf ch.val).sending = some 128 →
    s.flag (Reg.CAN_TDC_TDCEN.at ch.val) = false → exec (.canTxSuccess ch d) s =
      .next ((s.fifoDrop.raiseIf ((s.fifoHead 1).testBit 28) (Ev.CAN_TXDONE ch.val)).canFrameEnd ch.val)) ∧
  (∀ (ch : Fin 4) (k d : Nat) (s : State), (s.canOf ch.val).sending = some k → k < 128 →
    s.flag (Reg.CAN_TDC_TDCEN.at ch.val) = false →
    let w := (((s.setObjBit ch.val k 1 0 false).setObjBit ch.val k 1 1 true).setObjWord ch.val k 2
      (s.setObjBit ch.val k 1 0 false |>.setObjBit ch.val k 1 1 true).tick32).setTries ch.val k 0
    let x := if w.isReference ch.val k then
      w.setCan ch.val { w.canOf ch.val with refN := ((w.canOf ch.val).refN + 1) % 256 } else w
    exec (.canTxSuccess ch d) s = .next (((x.connSent ch.val k).raiseIf ((s.objWord ch.val k 1).testBit 28)
      (Ev.CAN_TXDONE ch.val)).canFrameEnd ch.val)) ∧
  (∀ (ch : Fin 4) (k d : Nat) (s : State), (s.canOf ch.val).sending = some k → (s.sendingWord1 ch.val k).testBit 31 = true →
    (s.sendingWord1 ch.val k).testBit 30 = true → s.flag (Reg.CAN_TDC_TDCEN.at ch.val) = true →
    s.get (Reg.CAN_DBT_DBRP.at ch.val) ≤ 1 → 255 < d → exec (.canTxSuccess ch d) s =
      .next (((s.put (Reg.CAN_TDC_TDCV.at ch.val) 255).canService ch.val 5).canAttemptFailed ch.val k false)) ∧
  (∀ (ch : Fin 4) (k : Nat) (arb : Bool) (s : State), (s.canOf ch.val).sending = some k →
    exec (.canTxAttemptFailed ch arb) s = .next (s.canAttemptFailed ch.val k arb)) ∧
  (∀ (ch : Fin 4) (k : Nat) (s : State), (s.tt.cantx.find? fun w => w.1 == ch.val && w.2.1 == k) = none →
    exec (.cantxWindowEnd ch k) s = .next s) ∧
  (∀ (ch : Fin 4) (k : Nat) (w : Nat × Nat × Nat) (s : State),
    (s.tt.cantx.find? fun w => w.1 == ch.val && w.2.1 == k) = some w →
    let u := s.advanceTo w.2.2
    let x : State := { u with tt := { u.tt with cantx := u.tt.cantx.erase w } }
    ((s.canOf ch.val).sending = some k ∨ s.objBit ch.val k 1 0 = false ∨ s.objBit ch.val k 1 29 = false →
      exec (.cantxWindowEnd ch k) s = .next x) ∧
    (s.alive = true → s.sendObj ch.val k = true → s.objBit ch.val k 1 0 = true → s.objBit ch.val k 1 29 = true →
      (s.canOf ch.val).sending ≠ some k → exec (.cantxWindowEnd ch k) s = .next (x.objWithdraw ch.val k true)))

/-- CAN fault confinement, joining the bus, and the wakes -/
def Obligations.CanBusStateCommands : Prop :=
  (∀ (ch : Fin 4) (a b : Nat) (s : State), s.alive = false ∨ s.canRuns ch.val = false ∨
      s.get (Reg.CAN_STAT_ESTATE.at ch.val) = 2 → exec (.canErrorStateChange ch a b) s = .next s) ∧
  (∀ (ch : Fin 4) (a b : Nat) (s : State), s.alive = true → s.canRuns ch.val = true →
    s.get (Reg.CAN_STAT_ESTATE.at ch.val) ≠ 2 → Gives (exec (.canErrorStateChange ch a b) s) fun t =>
      t.get (Reg.CAN_STAT_TEC.at ch.val) = min a (2 ^ (Reg.CAN_STAT_TEC.at ch.val).wid - 1) ∧
      t.get (Reg.CAN_STAT_REC.at ch.val) = min b (2 ^ (Reg.CAN_STAT_REC.at ch.val).wid - 1) ∧
      t.get (Reg.CAN_STAT_ESTATE.at ch.val) = (if 255 < a then 2 else if 127 < a ∨ 127 < b then 1 else 0) ∧
      (255 < a → t.flag (Reg.CAN_STAT_RECOV.at ch.val) = true) ∧
      (t.get (Reg.CAN_STAT_ESTATE.at ch.val) ≠ s.get (Reg.CAN_STAT_ESTATE.at ch.val) →
        t.raised (Ev.CAN_STATE ch.val) = true) ∧
      t.can = (if 255 < a then s.can.set ch.val { s.canOf ch.val with offAt := s.now } else s.can)) ∧
  (∀ (ch : Fin 4) (a b : Nat) (s : State),
    (s.canOnBus ch.val = false → exec (.canReceiveError ch a b) s = .next s) ∧
    (s.canOnBus ch.val = true → exec (.canReceiveError ch a b) s = exec (.canErrorStateChange ch a b) s ∧
      (a ≤ 255 → Gives (exec (.canReceiveError ch a b) s) fun t => t.can = s.can))) ∧
  (∀ (ch : Fin 4) (s : State), s.alive = true → s.get (Reg.CAN_STAT_ESTATE.at ch.val) = 2 →
    Gives (exec (.busOffRecovered ch) s) fun t =>
      t.now = max s.now ((s.canOf ch.val).offAt + s.canBits ch.val 1408) ∧ t.get (Reg.CAN_STAT_ESTATE.at ch.val) = 0 ∧
      t.get (Reg.CAN_STAT_TEC.at ch.val) = 0 ∧ t.get (Reg.CAN_STAT_REC.at ch.val) = 0 ∧
      t.flag (Reg.CAN_STAT_RECOV.at ch.val) = false ∧ t.raised (Ev.CAN_STATE ch.val) = true ∧ t.can = s.can) ∧
  (∀ (ch : Fin 4) (s : State), s.alive = false ∨ s.get (Reg.CAN_STAT_ESTATE.at ch.val) ≠ 2 →
    exec (.busOffRecovered ch) s = .next s) ∧
  (∀ (ch : Fin 4) (s : State), s.alive = true → s.canRuns ch.val = true →
    s.flag (Reg.CAN_CTRL_INIT.at ch.val) = false → s.flag (Reg.CAN_STAT_SLEEP.at ch.val) = false →
    exec (.canBusIntegrated ch) s =
      .next ((s.advanceTo ((s.canOf ch.val).waitAt + s.canBits ch.val 11)).setCan ch.val { s.canOf ch.val with joined := true })) ∧
  (∀ (ch : Fin 4) (s : State), s.alive = false ∨ s.canRuns ch.val = false ∨
    s.flag (Reg.CAN_CTRL_INIT.at ch.val) = true ∨ s.flag (Reg.CAN_STAT_SLEEP.at ch.val) = true →
    exec (.canBusIntegrated ch) s = .next s) ∧
  (∀ (ch : Fin 4) (us : Nat) (s : State), s.alive = true → s.isLead = true →
    s.flag (Reg.CAN_STAT_SLEEP.at ch.val) = true → s.flag (Reg.CAN_WAKE_WEEN.at ch.val) = true →
    1 ≤ us → s.get (Reg.CAN_WAKE_WFLT.at ch.val) ≤ us → exec (.canEdgeWake ch us) s = .next (s.canService ch.val 1).canWake) ∧
  (∀ (ch : Fin 4) (us : Nat) (s : State), s.isLead = false ∨ s.flag (Reg.CAN_WAKE_WEEN.at ch.val) = false ∨
    s.flag (Reg.CAN_STAT_SLEEP.at ch.val) = false ∨ us < max 1 (s.get (Reg.CAN_WAKE_WFLT.at ch.val)) →
    exec (.canEdgeWake ch us) s = .next s) ∧
  (∀ (id : Nat) (x : Bool) (s : State), s.alive = true → s.isLead = true → s.flag Reg.CAN_STAT_SLEEP = true →
    s.flag Reg.CAN_WAKE_WFEN = true → x = s.flag Reg.CAN_WKID_XTD →
    placeId x id &&& s.get Reg.CAN_WKMSK_MASK = s.get Reg.CAN_WKID_ID &&& s.get Reg.CAN_WKMSK_MASK →
    exec (.canWakeFrame x id false true) s = .next (s.canService 0 2).canWake) ∧
  (∀ (id : Nat) (x fd ok : Bool) (s : State), s.isLead = false ∨ s.flag Reg.CAN_WAKE_WFEN = false ∨ fd = true ∨ ok = false →
    exec (.canWakeFrame x id fd ok) s = .next s) ∧
  (∀ s : State, (s.sleeping = true → s.canWake = s.wake.send .wake 8 0 0) ∧
    (s.watching = true → s.canWake.get Reg.SYS_PROFREQ_REQ = 0) ∧
    (s.sleeping = false → s.watching = false → s.canWake = s))

/-- The pages that the AEV4848F does not have: reads and writes -/
def Obligations.DisabledPagesReadZeroAndRefuse : Prop :=
  (∀ (a : Nat) (s : State), s.full = false → pageOf a ∈ [12, 27, 18, 23, 24, 25] → s.regRead a = 0) ∧
  (∀ (ini : Ini) (a : Nat) (v : Word) (s : State), s.full = false → s.alive = true →
    pageOf a ∈ [12, 27, 18, 23, 24, 25] → s.busUp = true → a % 4 = 0 → a < 2 ^ 32 →
    Gives (exec (.registerWrite ini a v) s) fun t =>
      t.raised Ev.ACCESS_DISABLED = true ∧ QuietWordsKept [Reg.SYS_ACCINFO, Reg.SYS_ACCADDR] s t ∧ BytesKept s t ∧
      t.get Reg.SYS_ACCINFO_KIND = 1 ∧ t.flag Reg.SYS_ACCINFO_WRITE = true ∧ t.get Reg.SYS_ACCINFO_INIT = ini.code ∧
      t.get Reg.SYS_ACCADDR_ADDR = a ∧ t.can = s.can ∧ t.pmp = s.pmp ∧ t.hst = s.hst ∧ t.est = s.est ∧
      t.pending = s.pending) ∧
  (∀ (ini : Ini) (ch : Fin 4) (b : Bool) (n : Nat) (s : State), s.full = false → s.alive = true → ch.val ≠ 0 →
    ∀ c, c ∈ [Instr.pumpStart ini, .pumpStop ini, .pumpSetpointWrite ini n, .canInitWrite ini ch b,
        .canLomWrite ini ch b, .canAbdStart ini ch, .objectReq ini ch, .objectCancel ini ch, .objectAck ini ch,
        .fifoPush ini, .fifoClear ini] →
      Gives (exec c s) fun t => t.raised Ev.ACCESS_DISABLED = true ∧
        QuietWordsKept [Reg.SYS_ACCINFO, Reg.SYS_ACCADDR] s t ∧ BytesKept s t ∧ t.can = s.can ∧ t.pmp = s.pmp)

/-- A narrow or unaligned access to a register, and a word write of a plain register -/
def Obligations.UnalignedAccessFaults : Prop :=
  (∀ (ini : Ini) (w : Bool) (a : Nat) (s : State), s.busUp = true → 0x40000000 ≤ a → a < 0x40020000 →
    Gives (exec (.narrowOrUnalignedAccess ini w a) s) fun t => t.raised Ev.ACCESS_FAULT = true ∧
      QuietWordsKept [Reg.SYS_ACCINFO, Reg.SYS_ACCADDR] s t ∧ BytesKept s t ∧ t.pending = s.pending ∧
      t.get Reg.SYS_ACCINFO_KIND = 0 ∧ t.flag Reg.SYS_ACCINFO_WRITE = w ∧ t.get Reg.SYS_ACCADDR_ADDR = a) ∧
  (∀ (ini : Ini) (a : Nat) (v : Word) (s : State), s.busUp = true → 0x40000000 ≤ a → a < 0x40020000 → a % 4 ≠ 0 →
    exec (.registerWrite ini a v) s = exec (.narrowOrUnalignedAccess ini true a) s ∧
    Runs (exec (.registerWrite ini a v) s) ∧
    (s.busRead ini a).2.1 = 0 ∧ (s.busRead ini a).2.2 = false ∧ (s.busRead ini a).1.raised Ev.ACCESS_FAULT = true) ∧
  (∀ (ini : Ini) (w : Bool) (a : Nat) (v : Word) (s : State), s.busUp = false ∨ a < 0x40000000 ∨ 0x40020000 ≤ a →
    exec (.narrowOrUnalignedAccess ini w a) s = .next s ∧ exec (.registerWrite ini a v) s = .next s) ∧
  (∀ (ini : Ini) (a : Nat) (v : Word) (s : State), s.busUp = true → 0x40000000 ≤ a → a < 0x40020000 → a % 4 = 0 →
    s.pageOn (pageOf a) = true → a % 0x1000 = 0x14 →
    exec (.registerWrite ini a v) s = .next (s.setWord a (v &&& eventMask (pageOf a)))) ∧
  (∀ (ini : Ini) (a : Nat) (v : Word) (r : RegRow) (s : State), s.busUp = true → 0x40000000 ≤ a → a < 0x40020000 →
    a % 4 = 0 → s.pageOn (pageOf a) = true → a % 0x1000 < 0x840 → a % 0x1000 ∉ [0x14, 0x18, 0x1C, 0x20] →
    pageOf a < 22 ∨ 26 ≤ pageOf a →
    (pageOf a, a % 0x1000) ∉ ([(0, 0x040), (3, 0x044), (3, 0x048), (4, 0x050), (4, 0x064), (4, 0x068), (5, 0x040), (5, 0x044), (6, 0x008), (8, 0x008), (9, 0x05C), (9, 0x184),
      (10, 0x008), (10, 0x050), (10, 0x054), (11, 0x008), (12, 0x008), (12, 0x094), (12, 0x098), (13, 0x008), (13, 0x074), (14, 0x008), (14, 0x208), (15, 0x008),
      (16, 0x104), (16, 0x108), (17, 0x008), (17, 0x040), (18, 0x008), (18, 0x06C), (19, 0x008), (20, 0x008), (19, 0x044), (20, 0x044), (19, 0x050), (20, 0x050),
      (19, 0x064), (20, 0x064), (21, 0x008), (21, 0x040), (21, 0x054), (21, 0x058), (21, 0x05C), (21, 0x070), (27, 0x048), (27, 0x04C), (28, 0x058), (29, 0x008)] : List (Nat × Nat)) →
    rowAt (pageOf a) (a % 0x1000) = some r → r.rwl = 0 ∨ s.flag (lockField (pageOf a)) = false →
    let mask := BitVec.ofNat 32 (r.rw ||| r.rwl) &&& ~~~(s.fixedBits a)
    Gives (exec (.registerWrite ini a v) s) fun t =>
      t.word a = ((s.word a &&& ~~~mask) ||| (v &&& mask)) &&& ~~~(v &&& BitVec.ofNat 32 r.w1c) ∧
      WordsKept [a] s t ∧ t.mem = s.mem)

/-- Events: a raise, a pending clear, a forced event, LOCK, and the profile request -/
def Obligations.EventRegisterCommands : Prop :=
  (∀ (e : Event) (s : State), s.alive = true → e.bit < 32 →
    (s.raise e).raised e = true ∧ (s.evEnabled e = true → s.raised e = true → s.evPending e = true →
      (s.raise e).regs = s.regs) ∧ (s.evEnabled e = false → s.raised e = true → (s.raise e).regs = s.regs)) ∧
  (∀ (e : Event) (s : State), s.alive = false → (s.raise e).regs = s.regs ∧ (s.raise e).mem = s.mem) ∧
  (∀ (e : Event) (s : State), s.alive = true → e.page < 32 → e.bit < 32 → s.evEnabled e = true →
    (s.raise e).evPending e = true) ∧
  (∀ (ini : Ini) (p : Fin 32) (m : Word) (i : Nat) (s : State), s.pageOn p.val = true → i < 32 →
    m.getLsbD i = true → (s.raisedNow p.val).getLsbD i = false →
    Gives (exec (.eventPendingClear ini p m) s) fun t => t.raised ⟨p.val, i⟩ = false ∧ t.evPending ⟨p.val, i⟩ = false ∧
      WordsKept [evpndAddr p.val, evrawAddr p.val] s t ∧ t.mem = s.mem) ∧
  (∀ (ini : Ini) (p : Fin 32) (m : Word) (i : Nat) (s : State), s.pageOn p.val = true →
    m.getLsbD i = false ∨ (s.raisedNow p.val).getLsbD i = true →
    Gives (exec (.eventPendingClear ini p m) s) fun t => t.raised ⟨p.val, i⟩ = s.raised ⟨p.val, i⟩ ∧
      t.evPending ⟨p.val, i⟩ = s.evPending ⟨p.val, i⟩) ∧
  (∀ (ini : Ini) (p : Fin 32) (m : Word) (s : State), s.pageOn p.val = true →
    ini ≠ .debug ∨ s.flag Reg.NVM_SECCFG_DBGLOCK = true →
    exec (.eventForce ini p m) s = .next (s.accessFault ini true (pageBase p.val + 0x1C))) ∧
  (∀ (p : Fin 32) (m : Word) (s : State), s.pageOn p.val = true → s.flag Reg.NVM_SECCFG_DBGLOCK = false →
    exec (.eventForce .debug p m) s = .next ((List.range (pageEvents p.val)).foldl
      (fun x i => if m.getLsbD i then x.raise ⟨p.val, i⟩ else x) s)) ∧
  (∀ (ini : Ini) (p : Fin 32) (s : State), s.pageOn p.val = true → p.val ≠ 17 →
    Gives (exec (.pageLock ini p) s) fun t => t.flag (lockField p.val) = true ∧
      WordsKept [pageBase p.val + 0x20] s t ∧ t.mem = s.mem) ∧
  (∀ (ini : Ini) (s : State), exec (.pageLock ini 17) s = exec (.lhmLock ini) s) ∧
  (∀ (ini : Ini) (n : Nat) (s : State), s.isLead = true → n < 3 →
    Gives (exec (.profileRequestWrite ini n) s) fun t => t.get Reg.SYS_PROFREQ_REQ = n ∧
      t.get Reg.SYS_PROFSTAT_PROF = s.get Reg.SYS_PROFSTAT_PROF ∧ WordsKept [Reg.SYS_PROFREQ] s t ∧ t.mem = s.mem) ∧
  (∀ (ini : Ini) (n : Nat) (s : State), s.isLead = false ∨ n % 4 = 3 → exec (.profileRequestWrite ini n) s = .next s)

/-- The test port: the instructions, the word access of DBGACC, and the activity of TCK -/
def Obligations.TestPortCommands : Prop :=
  (∀ s : State, Gives (exec .tckActivity s) fun t => t.flag Reg.DBG_STAT_CONN = true ∧ t.jtag = { s.jtag with tckAt := s.now } ∧
    (s.flag Reg.DBG_STAT_CONN = false → s.alive = true → t.raised Ev.DBG_SERVICE = true) ∧
    QuietWordsKept [Reg.DBG_STAT] s t ∧ BytesKept s t) ∧
  (∀ s : State, s.flag Reg.DBG_STAT_CONN = true → Gives (exec .tckIdleTimeout s) fun t =>
    t.flag Reg.DBG_STAT_CONN = false ∧ t.now = max s.now (s.jtag.tckAt + 100000) ∧ WordsKept [Reg.DBG_STAT] s t ∧ t.mem = s.mem) ∧
  (∀ s : State, s.flag Reg.DBG_STAT_CONN = false → exec .tckIdleTimeout s = .next s) ∧
  (∀ (c : Instr) (ir : Nat) (d : Bool) (s : State), (c = .jtagIdcode ∧ ir = 1 ∧ d = false) ∨
    (∃ cap pre, c = .jtagSamplePreload cap pre ∧ ir = 2 ∧ d = false) ∨ (c = .jtagExtest ∧ ir = 3 ∧ d = true) ∨
    (∃ code, c = .jtagBypass code ∧ ir = 0x1F ∧ d = false) →
    Gives (exec c s) fun t => t.jtag.ir = ir ∧ t.jtag.drive = d ∧ t.jtag.tckAt = s.now ∧ t.flag Reg.DBG_STAT_CONN = true ∧
      QuietWordsKept [Reg.DBG_STAT] s t ∧ BytesKept s t) ∧
  (∀ s : State, Gives (exec .jtagIdcode s) fun t => t.jtag.dr / 2 ^ 28 = 2 ∧ t.jtag.dr / 2 ^ 12 % 2 ^ 16 = 0x4848 ∧
    t.jtag.dr / 2 % 2 ^ 11 = Config.manufacturer.toNat ∧ t.jtag.dr % 2 = 1 ∧ t.jtag.chain = s.jtag.chain) ∧
  (∀ (cap l : List Bool) (s : State), (Gives (exec (.jtagSamplePreload cap none) s) fun t => t.jtag.chain = cap) ∧
    Gives (exec (.jtagSamplePreload cap (some l)) s) fun t => t.jtag.chain = l) ∧
  (∀ (w : Bool) (a : Nat) (v : Word) (s : State), s.busUp = false → Gives (exec (.jtagDbgacc w a v) s) fun t =>
    t.jtag.ir = 0x10 ∧ t.jtag.dr = a * 2 ^ 34 + 2 * w.toNat ∧ QuietWordsKept [Reg.DBG_STAT] s t ∧ BytesKept s t) ∧
  (∀ (w : Bool) (a : Nat) (v : Word) (s : State), s.busUp = true → s.flag Reg.NVM_SECCFG_DBGLOCK = true →
    Gives (exec (.jtagDbgacc w a v) s) fun t => t.jtag.ir = 0x10 ∧ t.jtag.dr = a * 2 ^ 34 + 2 * w.toNat ∧
      t.get Reg.DBG_REFCNT_COUNT = min (s.get Reg.DBG_REFCNT_COUNT + 1) 65535 ∧ t.raised Ev.DBG_SERVICE = true ∧
      QuietWordsKept [Reg.DBG_STAT, Reg.DBG_REFCNT] s t ∧ BytesKept s t) ∧
  (∀ (a : Nat) (v : Word) (s : State), s.busUp = true → s.flag Reg.NVM_SECCFG_DBGLOCK = false → 0x40000000 ≤ a →
    a < 0x40020000 → a % 4 = 0 → ∃ u x y, exec .tckActivity s = .next u ∧ exec (.registerWrite .debug a v) u = .next x ∧
      exec .tckActivity x = .next y ∧ Gives (exec (.jtagDbgacc true a v) s) fun t => t.jtag.ir = 0x10 ∧
        t.jtag.dr = a * 2 ^ 34 + v.toNat * 4 + 3 ∧ t = { y with jtag := t.jtag }) ∧
  (∀ (a : Nat) (v : Word) (s : State), s.busUp = true → s.flag Reg.NVM_SECCFG_DBGLOCK = false → a % 4 = 0 →
    dataArea a = true → unlaid a = false → Gives (exec (.jtagDbgacc false a v) s) fun t =>
      t.jtag.dr = a * 2 ^ 34 + (s.tckTouch.memWord a).toNat * 4 + 1 ∧ QuietWordsKept [Reg.DBG_STAT] s t ∧ BytesKept s t)

/-- Access packets that the lead sends to a follower: accesses, the SUSPECT mask, and damaged packets -/
def Obligations.LinkAccessPackets : Prop :=
  (∀ (ok : Bool) (d : Nat) (op : AccessOp) (s : State), s.isLead = true ∨ s.busUp = false →
    exec (.accessPacketReceived ok op d) s = .next s) ∧
  (∀ (d : Nat) (op : AccessOp) (s : State), s.isLead = false → s.busUp = true →
    exec (.accessPacketReceived false op d) s = .next s.linkCrc) ∧
  (∀ (a : Nat) (v : Word) (s : State), s.isLead = false → s.busUp = true → 0x40000000 ≤ a → a < 0x40020000 →
    Gives (exec (.accessPacketReceived true (.write a v) s.devNum) s) fun t =>
      ∃ u, exec (.registerWrite .link a v) s = .next u ∧
        t = { u with csc := { u.csc with txq := u.csc.txq ++ [⟨.reply (.data a v), 0, 0, 0⟩] } }) ∧
  (∀ (a : Nat) (s : State), s.isLead = false → s.busUp = true → 0x40000000 ≤ a → a < 0x40020000 → a % 4 = 0 →
    a ≠ Reg.TMB_TICKLO → exec (.accessPacketReceived true (.read a) s.devNum) s =
      .next { s with csc := { s.csc with txq := s.csc.txq ++ [⟨.reply (.data a (s.regRead a)), 0, 0, 0⟩] } }) ∧
  (∀ (a : Nat) (s : State), s.isLead = false → s.busUp = true → 0x40000000 ≤ a → a < 0x40020000 → a % 4 ≠ 0 →
    Gives (exec (.accessPacketReceived true (.read a) s.devNum) s) fun t =>
      ∃ u, exec (.narrowOrUnalignedAccess .link false a) s = .next u ∧
        t = { u with csc := { u.csc with txq := u.csc.txq ++ [⟨.reply (.data a 0), 0, 0, 0⟩] } }) ∧
  (∀ (a : Nat) (s : State), s.isLead = false → s.busUp = true → a % 4 = 0 → dataArea a = true → unlaid a = false →
    exec (.accessPacketReceived true (.read a) s.devNum) s =
      .next { s with csc := { s.csc with txq := s.csc.txq ++ [⟨.reply (.data a (s.memWord a)), 0, 0, 0⟩] } }) ∧
  (∀ (m : Nat) (s : State), s.isLead = false → s.busUp = true → exec (.accessPacketReceived true (.suspect m) s.devNum) s =
    .next { s with thm := { s.thm with suspectNext := some (m % 2 ^ 24) } }) ∧
  (∀ (re im lo hi : Rat) (fl : Nat) (s : State), s.isLead = false → s.busUp = true →
    exec (.accessPacketReceived true (.phasor re im lo hi fl) s.devNum) s =
      .next ({ s with eis := { s.eis with
        i := { re, im, lre := lo, ure := hi }, gotI := true
        satI := s.eis.satI || fl.testBit 3, unsync := s.eis.unsync || fl.testBit 2,
        gap := s.eis.gap || fl.testBit 0 } } : State).settle) ∧
  (∀ (k : Nat) (s : State), s.isLead = false → s.busUp = true → s.granted k = true →
    exec (.accessPacketReceived true (.request k) s.devNum) s =
      .next ({ s with bal := { s.bal with forLead := bitTo s.bal.forLead k true } } : State).settle) ∧
  (∀ (k h fl : Nat) (s : State), s.isLead = false → s.busUp = true → s.granted k = false → s.isPending k = false →
    k ≠ 4 → s.isoRunning = false → exec (.accessPacketReceived true (.release k h fl) s.devNum) s =
      .next ({ s with bal := { s.bal with forLead := bitTo s.bal.forLead k false } } : State).settle) ∧
  (∀ (d : Nat) (op : AccessOp) (s : State), s.isLead = false → s.busUp = true → d ≠ s.devNum →
    (d ≠ 8 → exec (.accessPacketReceived true op d) s = .next (s.passAway ⟨.access op, d, 0, 0⟩)) ∧
    (d = 8 → exec (.accessPacketReceived true op d) s =
      exec (.accessPacketReceived true op s.devNum) (s.passAway ⟨.access op, 8, 0, 0⟩))) ∧
  (∀ (k h fl : Nat) (s : State), s.isLead = false → s.busUp = true → s.isPending k = true → k ≠ 4 → s.isoRunning = false →
    exec (.accessPacketReceived true (.release k h fl) s.devNum) s = .next ({ s with bal := { s.bal with
      forLead := bitTo s.bal.forLead k false, gone := bitTo s.bal.gone k true } } : State).settle) ∧
  (∀ s : State, s.isLead = false → s.busUp = true →
    (s.csc.stage = 3 → exec (.accessPacketReceived true .member s.devNum) s =
      .next { s with csc := { s.csc with stage := 4 } }) ∧
    (s.csc.stage ≠ 3 → exec (.accessPacketReceived true .member s.devNum) s = .next s))

/-- The software trip, the clear of reactions, and the test of a monitor copy -/
def Obligations.ReactionCommands : Prop :=
  (∀ (ini : Ini) (m : Word) (c : Instr) (s : State), s.alive = true → ini ≠ .pairA →
    c = .swTrip ini ∨ c = .reactionClear ini m → Gives (exec c s) fun t => t.raised Ev.SAF_WRITE_REFUSED = true ∧
      QuietWordsKept [] s t ∧ BytesKept s t ∧ t.saf = s.saf ∧ t.cts = s.cts ∧ t.out = s.out) ∧
  (∀ s : State, s.bit Reg.SAF_RSTAT_LATCH 13 = true →
    exec (.swTrip .pairA) s = .next { s with saf := { s.saf with swAt := s.now + 1 } }) ∧
  (∀ s : State, s.alive = true → s.bit Reg.SAF_RSTAT_LATCH 13 = false →
    Gives (exec (.swTrip .pairA) s) fun t => ∃ w : State,
    t = (((w.ctsReaction s.rolesOn).endIso.eisAbort.eisExc).freeze 1 13).settle ∧ w.saf.swAt = s.now + 1 ∧
    w.bit Reg.SAF_RSTAT_LATCH 13 = true ∧ (∀ j : Fin 15, j.val ≠ 13 → w.bit Reg.SAF_RSTAT_LATCH j = s.bit Reg.SAF_RSTAT_LATCH j) ∧
    w.flag Reg.SAF_STAT_ACTIVE = true ∧ w.raised (Ev.safLatched 13) = true ∧
    (if s.get Reg.SAF_RSTAT_LATCH = 0 ∨ (s.saf.firstAt = s.now + 1 ∧ 13 < s.get Reg.SAF_RFIRST_SRC) then
        w.get Reg.SAF_RFIRST_SRC = 13 ∧ w.get Reg.SAF_RFIRST_INDEX = 0 ∧
        w.get Reg.SAF_RTICK_TICK = s.tick % 2 ^ 32
      else w.get Reg.SAF_RFIRST_SRC = s.get Reg.SAF_RFIRST_SRC ∧ w.get Reg.SAF_RTICK_TICK = s.get Reg.SAF_RTICK_TICK) ∧
    (∀ i : Fin 16, (s.get (Reg.SAF_RM_OUT.at 13)).testBit i = true → w.bit Reg.OUT_CMD_ON i = false) ∧
    (s.drivesTrip 13 = true → w.saf.tripBy.testBit 13 = true) ∧ w.saf.latchedInFrame = true) ∧
  (∀ (m : Word) (s : State), (∀ i < 15, m.getLsbD i = true → s.bit Reg.SAF_RSTAT_LATCH i = false) →
    exec (.reactionClear .pairA m) s = .next s.safShow) ∧
  (∀ (i : Fin 15) (s : State), s.alive = true → s.bit Reg.SAF_RSTAT_LATCH i = true →
    s.causes.testBit i = true ∨ (i.val = 13 ∧ s.saf.swAt = s.now + 1) → Gives (exec (.reactionClear .pairA (1#32 <<< i.val)) s) fun t => t.raised Ev.SAF_CLEAR_REFUSED = true ∧
      t.get Reg.SAF_RSTAT_LATCH = s.get Reg.SAF_RSTAT_LATCH ∧ t.saf = s.saf ∧ t.out = s.out ∧
      QuietWordsKept [Reg.SAF_OVSL, Reg.SAF_OVSH, Reg.SAF_UVSL, Reg.SAF_UVSH, Reg.SAF_TOTS, Reg.SAF_TUTS, Reg.SAF_TSLDS,
        Reg.SAF_STAT, Reg.SAF_RCAUSE] s t ∧ BytesKept s t) ∧
  (∀ (i : Fin 15) (s : State), s.bit Reg.SAF_RSTAT_LATCH i = true → s.causes.testBit i = false →
    ¬ (i.val = 13 ∧ s.saf.swAt = s.now + 1) → Gives (exec (.reactionClear .pairA (1#32 <<< i.val)) s) fun t => t.bit Reg.SAF_RSTAT_LATCH i = false ∧
      (∀ j : Fin 15, j ≠ i → t.bit Reg.SAF_RSTAT_LATCH j = s.bit Reg.SAF_RSTAT_LATCH j) ∧
      t.get Reg.SAF_RFIRST_SRC = s.get Reg.SAF_RFIRST_SRC ∧ t.get Reg.SAF_RTICK_TICK = s.get Reg.SAF_RTICK_TICK ∧
      t.get Reg.OUT_CMD_ON = s.get Reg.OUT_CMD_ON ∧ BytesKept s t) ∧
  (∀ s : State, s.alive = true → s.sleeping = false → Gives (exec .safSelftestStart s) fun t => t.now = max s.now (s.fstart + 5000) ∧
    t.saf = { s.saf with testing := some s.saf.nextTest, nextTest := !s.saf.nextTest } ∧ t.regs = s.regs ∧ t.mem = s.mem) ∧
  (∀ (p : Bool) (s : State), s.saf.testing = none → exec (.safSelftestEnd p) s = .next s) ∧
  (∀ (p y : Bool) (s : State), s.alive = true → s.saf.testing = some y →
    Gives (exec (.safSelftestEnd p) s) fun t => ∃ w : State, t = w.protect ∧
    w.now = max s.now (s.fstart + 8000) ∧ w.saf.testing = none ∧ (if y then w.saf.failY else w.saf.failX) = !p ∧
    (if y then w.saf.failX = s.saf.failX else w.saf.failY = s.saf.failY) ∧
    (p = true → (if y then w.saf.disY else w.saf.disX) = false) ∧ w.flag Reg.SAF_STAT_TESTFAIL = !p ∧
    (p = false → w.raised Ev.SAF_SELFTEST = true) ∧ QuietWordsKept [Reg.SAF_STAT] s w ∧ BytesKept s w) ∧
  (∀ s : State, s.alive = false ∨ s.sleeping = true → exec .safSelftestStart s = .next s)

/-- A thermistor sample, the thermal model run, the overrun of an accelerator, the neighbour map and the cell selection -/
def Obligations.ThermalCommands : Prop :=
  (∀ (i code : Nat) (s : State), s.sampleDue i = false → exec (.thermistorSample i code) s = .next s) ∧
  (∀ (i : Fin 24) (code : Nat) (s : State), s.sampleDue i = true →
    let c := s.sampleClass i code
    Gives (exec (.thermistorSample i code) s) fun t => ∃ w : State, t = w.coverage.protect ∧
      w.now = max s.now (s.fstart + if i.val < 16 then 1500 else 500) ∧ w.thm.sampled.testBit i = true ∧
      w.get (Reg.THM_TEMP_FLT.at i) = c ∧ w.flag (Reg.THM_TEMP_VALID.at i) = classValid c ∧
      (c = 3 → w.getI (Reg.THM_TEMP_TEMP.at i) = 1250) ∧ (c = 4 → w.getI (Reg.THM_TEMP_TEMP.at i) = -550) ∧
      (c = 1 ∨ c = 2 → w.getI (Reg.THM_TEMP_TEMP.at i) = clampI (-32768) 32767 (s.thm.lastGood.getD i 0) ∧ w.saf = s.saf ∧
        (s.get (Reg.THM_TEMP_FLT.at i) ≠ c → w.raised (if c = 1 then Ev.THM_OPEN else Ev.THM_SHORT) = true)) ∧
      QuietWordsKept [(Reg.THM_TEMP_FLT.at i).addr] s w ∧ BytesKept s w) ∧
  (∀ (i code : Nat) (s : State), (s.get Reg.THM_FLTCFG_OPENCODE ≤ code → s.sampleClass i code = 1) ∧
    (code < s.get Reg.THM_FLTCFG_OPENCODE → code ≤ s.get Reg.THM_FLTCFG_SHORTCODE → s.sampleClass i code = 2) ∧
    (code < s.get Reg.THM_FLTCFG_OPENCODE → s.get Reg.THM_FLTCFG_SHORTCODE < code → s.thm.suspect.testBit i = true →
      s.sampleClass i code = 5)) ∧
  (∀ s : State, s.isLead = false ∨ s.accelRuns 7 = false → exec .thermalModelRunDone s = .next s) ∧
  (∀ s : State, s.isLead = true → s.accelRuns 7 = true →
    Gives (exec .thermalModelRunDone s) fun t => ∃ w : State, t = ((w.neighbourCheck.modelCheck.coolDemand false).nextFree) ∧
    w.thm.owed = [] ∧ w.thm.ranFrame = true ∧ w.get Reg.THM_SRCFRAME_FRAME = s.cm.lastFrame % 2 ^ 32 ∧
    w.flag Reg.THM_STAT_STALE = false ∧ w.now = s.now ∧
    WordsKept [Reg.THM_HOTTEST, Reg.THM_SRCFRAME, Reg.THM_STAT] s w ∧ w.mem = s.mem) ∧
  (∀ (e : Nat) (s : State), s.tt.accel.find? (·.entry == e) = none → exec (.acceleratorOverrun e) s = .next s) ∧
  (∀ (e : Nat) (x : AccelRun) (s : State), s.alive = true → s.tt.accel.find? (·.entry == e) = some x →
    Gives (exec (.acceleratorOverrun e) s) fun t => ∃ o : State,
    t = (let v := o.accelStale x.typ x.rel
      if v.ovrLimit ≤ nget x.typ v.tt.accelOver then (v.accelReset x.typ).raise Ev.TT_ESCALATE else v) ∧
    o.now = max s.now x.till ∧ o.tt.accel = s.tt.accel.filter (·.entry != e) ∧
    nget x.typ o.tt.accelOver = nget x.typ s.tt.accelOver + (if nget x.typ s.tt.accelAt = s.fstart + 1 then 0 else 1) ∧
    o.raised Ev.TT_OVERRUN = true ∧ o.get Reg.TT_OVRSTAT_COUNT = min 15 (nget x.typ o.tt.accelOver) ∧
    o.alive = true ∧ o.thm = s.thm ∧ o.eis = s.eis ∧ QuietWordsKept [Reg.TT_OVRSTAT] s o) ∧
  (∀ (rel : Nat) (o : State), o.accelStale 6 rel =
      ((o.putB Reg.EST_STAT_STALE true).putB Reg.EST_SOCREP_STALE true).putB Reg.EST_SOCINT_STALE true ∧
    (∃ y : State, o.accelStale 7 rel = (y.coolDemand true).nextFree ∧ y.flag Reg.THM_STAT_STALE = true ∧
      (o.alive = true → y.raised Ev.THM_MODEL_STALE = true) ∧ y.thm.cand = [] ∧ y.thm.calm = []) ∧
    (o.eis.phase = 4 → o.eis.e + 200000 ≤ rel → o.accelStale 8 rel = { o with eis := { o.eis with phase := 6, new := [] } }) ∧
    (o.eis.phase ≠ 4 ∨ rel < o.eis.e + 200000 → o.accelStale 8 rel = o)) ∧
  (∀ (typ : Nat) (v : State), (v.accelReset typ).tt.accel = v.tt.accel.filter (·.typ != typ) ∧
    nget typ (v.accelReset typ).tt.accelOver = 0 ∧ (v.accelReset typ).regs = v.regs ∧ (v.accelReset typ).mem = v.mem) ∧
  (∀ (ini : Ini) (v : Word) (s : State), s.isLead = true → s.armedPage 9 = false → s.get Reg.THM_NMAPADDR_INDEX < 384 →
    let k := 384 * (1 - s.get Reg.THM_NMAPSEL_BANK) + s.get Reg.THM_NMAPADDR_INDEX
    Gives (exec (.neighbourMapWrite ini v) s) fun t => nget k t.thm.nmap = v.toNat ∧
      (∀ j, j ≠ k → nget j t.thm.nmap = nget j s.thm.nmap) ∧
      t.get Reg.THM_NMAPADDR_INDEX = s.get Reg.THM_NMAPADDR_INDEX + 1 ∧ WordsKept [Reg.THM_NMAPADDR] s t ∧ t.mem = s.mem) ∧
  (∀ (ini : Ini) (v : Word) (s : State), s.isLead = true → s.armedPage 9 = false → 384 ≤ s.get Reg.THM_NMAPADDR_INDEX →
    Gives (exec (.neighbourMapWrite ini v) s) fun t => t.thm = s.thm ∧
      t.get Reg.THM_NMAPADDR_INDEX = (s.get Reg.THM_NMAPADDR_INDEX + 1) % 512 ∧
      WordsKept [Reg.THM_NMAPADDR] s t ∧ t.mem = s.mem) ∧
  (∀ (ini : Ini) (c : Nat) (s : State), c < 512 → s.isLead = true → s.cellOn c = false →
    Gives (exec (.thmCellSelect ini c) s) fun t => t.get Reg.THM_CSEL_INDEX = c ∧ t.get Reg.THM_CTC_TEMP = 0 ∧
      t.get Reg.THM_CTS_TEMP = 0 ∧ t.get Reg.THM_CPWR_MW = 0 ∧
      WordsKept [Reg.THM_CSEL, Reg.THM_CTC, Reg.THM_CTS, Reg.THM_CPWR] s t ∧ t.mem = s.mem) ∧
  (∀ (ini : Ini) (c : Nat) (s : State), c < 512 → s.isLead = true → s.cellOn c = true →
    Gives (exec (.thmCellSelect ini c) s) fun t => t.get Reg.THM_CSEL_INDEX = c ∧
      t.getI Reg.THM_CTC_TEMP = clampI (-32768) 32767 (roundQ (10 * s.thm.tc.getD c 0)) ∧
      t.getI Reg.THM_CTS_TEMP = clampI (-32768) 32767 (roundQ (10 * s.thm.ts.getD c 0)) ∧
      t.getI Reg.THM_CPWR_MW = clampI (-2147483648) 2147483647 (roundQ (1000 * s.thm.p.getD c 0)) ∧
      WordsKept [Reg.THM_CSEL, Reg.THM_CTC, Reg.THM_CTS, Reg.THM_CPWR] s t ∧ t.mem = s.mem) ∧
  (∀ (ini : Ini) (c : Nat) (v : Word) (s : State), s.isLead = false →
    exec (.neighbourMapWrite ini v) s = .next s ∧ exec (.thmCellSelect ini c) s = .next s)

/-- Staged writes, the arm, the disarm and the consistency check -/
def Obligations.StagingCommands : Prop :=
  (∀ (ini : Ini) (a r : Nat) (v : Word) (s : State), s.pageOn (pageOf a) = true → stagedOf a = some r →
    s.armedPage (pageOf a) = false →
    let keep := s.fixedBits a ||| ~~~(BitVec.ofNat 32 ((rowOf (pageOf r) (r % 0x1000)).elim 0 (·.rws)))
    if keep = 0xFFFFFFFF#32 then exec (.stagedWrite ini a v) s = .next s else
    Gives (exec (.stagedWrite ini a v) s) fun t => t.word a = (s.word a &&& keep) ||| (v &&& ~~~keep) ∧
      t.get (stgField (pageOf a)) = (if s.get (stgField (pageOf a)) = 0 then 1 else s.get (stgField (pageOf a))) ∧
      WordsKept [a, stgstatAddr (pageOf a)] s t ∧ t.mem = s.mem ∧ t.stg = s.stg) ∧
  (∀ (ini : Ini) (a : Nat) (v : Word) (s : State), s.pageOn (pageOf a) = true → stagedOf a = none →
    exec (.stagedWrite ini a v) s = .next (if a % 4 ≠ 0 then s.accessFault ini true a else s)) ∧
  (∀ (ini : Ini) (p : Nat) (s : State), s.isLead = false →
    exec (.stgArm ini p true) s = .next (s.accessFault ini true Reg.STG_CMD)) ∧
  (∀ (ini : Ini) (p : Nat) (c : Bool) (s : State), s.alive = true → c = false ∨ s.isLead = true → s.stg.armed = true →
    Gives (exec (.stgArm ini p c) s) fun t => t.raised Ev.STG_BUSY = true ∧ t.stg = s.stg ∧ t.csc = s.csc ∧
      QuietWordsKept [] s t ∧ BytesKept s t) ∧
  (∀ (ini : Ini) (p : Nat) (c : Bool) (s : State), c = false ∨ s.isLead = true → s.stg.armed = false →
    Gives (exec (.stgArm ini p c) s) fun t =>
      t.stg = { digests := s.stg.digests, armed := true, mask := s.stgPages (s.get Reg.STG_MASK_PAGES), point := p % 16,
                armedAt := s.now, cascade := c } ∧
      t.get Reg.STG_STAT_STATE = 1 ∧ t.flag Reg.STG_STAT_CASCADE = c ∧
      (∀ q : Fin 32, t.get (stgField q) = if t.stg.mask.testBit q then 2 else s.get (stgField q)) ∧
      WordsKept (Reg.STG_STAT :: (List.range 32).map stgstatAddr) s t ∧ t.mem = s.mem ∧ (c = false → t.csc = s.csc)) ∧
  (∀ (ini : Ini) (s : State), s.stg.armed = false → exec (.stgDisarm ini) s = .next s) ∧
  (∀ (ini : Ini) (s : State), s.alive = true → s.stg.armed = true →
    Gives (exec (.stgDisarm ini) s) fun t => t.stg = { digests := s.stg.digests } ∧ t.get Reg.STG_STAT_STATE = 0 ∧
      (∀ q : Fin 32, t.get (stgField q) = if s.stg.mask.testBit q then 1 else s.get (stgField q)) ∧
      t.raised Ev.STG_DISARMED = true ∧ BytesKept s t ∧
      QuietWordsKept (Reg.STG_STAT :: (List.range 32).map stgstatAddr) s t ∧ (s.stg.cascade = false → t.csc = s.csc)) ∧
  (∀ s : State, s.stg.armed = false ∨ s.stg.remote = true ∨ s.get Reg.STG_STAT_STATE ≠ 1 →
    exec .consistencyCheckDone s = .next s) ∧
  (∀ s : State, s.alive = true → s.isLead = true → s.stg.armed = true → s.stg.remote = false →
    s.get Reg.STG_STAT_STATE = 1 →
    match s.firstFailure s.stg.mask s.stg.point s.stg.cascade ((s.withStaged s.stg.mask).flag Reg.TT_SCHED_RUNMODE)
        (s.leadSetid (s.withStaged s.stg.mask)) with
    | none => Gives (exec .consistencyCheckDone s) fun t => t.stg = { s.stg with passed := true } ∧
        t.get Reg.STG_STAT_STATE = 2 ∧ t.word Reg.STG_FAIL = 0 ∧
        (∀ q : Fin 32, t.get (stgField q) = if s.stg.mask.testBit q then 3 else s.get (stgField q)) ∧
        WordsKept (Reg.STG_STAT :: Reg.STG_FAIL :: (List.range 32).map stgstatAddr) s t ∧ t.mem = s.mem
    | some f => Gives (exec .consistencyCheckDone s) fun t => t.stg = { digests := s.stg.digests } ∧
        t.get Reg.STG_STAT_STATE = 3 ∧ t.word Reg.STG_FAIL = BitVec.ofNat 32 (s.failWord s.stg.mask f) ∧
        (∀ q : Fin 32, t.get (stgField q) = if s.stg.mask.testBit q then 1 else s.get (stgField q)) ∧
        t.raised Ev.STG_REJECT = true ∧
        QuietWordsKept (Reg.STG_STAT :: Reg.STG_FAIL :: (List.range 32).map stgstatAddr) s t ∧ BytesKept s t) ∧
  (∀ s : State, s.alive = true → s.stg.armed = true → s.stg.remote = true →
    Gives (exec .cascadeDisarmReceived s) fun t => t.stg = { digests := s.stg.digests } ∧ t.get Reg.STG_STAT_STATE = 0 ∧
      (∀ q : Fin 32, t.get (stgField q) = if s.stg.mask.testBit q then 1 else s.get (stgField q)) ∧
      t.raised Ev.STG_DISARMED = true ∧ BytesKept s t ∧
      QuietWordsKept (Reg.STG_STAT :: (List.range 32).map stgstatAddr) s t ∧ (s.stg.cascade = false → t.csc = s.csc)) ∧
  (∀ s : State, s.alive = true → s.stg.armed = true → s.stg.remote = true → 8 ≤ s.stg.waited →
    Gives (exec .cascadeArmTimeout s) fun t => t.stg = { digests := s.stg.digests } ∧ t.get Reg.STG_STAT_STATE = 0 ∧
      (∀ q : Fin 32, t.get (stgField q) = if s.stg.mask.testBit q then 1 else s.get (stgField q)) ∧
      t.raised Ev.STG_DISARMED = true ∧ BytesKept s t ∧
      QuietWordsKept (Reg.STG_STAT :: (List.range 32).map stgstatAddr) s t ∧ (s.stg.cascade = false → t.csc = s.csc))

/-- The commit point, and the commit of a cascade: arm, report, deadline, disarm and timeout -/
def Obligations.CommitCommands : Prop :=
  (∀ (p : Nat) (s : State), s.activeImage = none ∨ s.tt.sched = none ∨ s.alive = false ∨ s.sleeping = true ∨ p = 0 →
    exec (.commitPointReached p) s = .next s) ∧
  (∀ (p r : Nat) (m : Image) (s : State), s.activeImage = some m → s.tt.sched = some r →
    ((m.sched r).find? fun e => e.2.typ == 13 && e.2.target == p && decide (s.now ≤ s.fstart + 1000 * e.2.slot)) = none →
    exec (.commitPointReached p) s = .next s) ∧
  (∀ (p r : Nat) (m : Image) (e : Nat × Entry) (s : State), s.activeImage = some m → s.tt.sched = some r →
    ((m.sched r).find? fun e => e.2.typ == 13 && e.2.target == p && decide (s.now ≤ s.fstart + 1000 * e.2.slot)) = some e →
    s.alive = true → s.sleeping = false → p ≠ 0 →
    let u := (s.advanceTo (s.fstart + 1000 * e.2.slot)).stgOverdue
    exec (.commitPointReached p) s = .next (if u.stgDue p then u.stgCommit else u)) ∧
  (∀ u : State, u.alive = true → ∃ w : State,
    u.stgCommit = State.commitEffects (if u.stg.cascade then w.eisAbort.eisExc else w) u u.stg.mask ∧
    (∀ a ∈ rwsAddrs u.full, u.stg.mask.testBit (pageOf a) = true → w.word a = u.word (a + 0x800)) ∧
    (∀ q : Fin 32, w.get (stgField q) = if u.stg.mask.testBit q then 0 else u.get (stgField q)) ∧
    w.stg = { digests := u.stg.digests } ∧ w.get Reg.STG_STAT_STATE = 4 ∧ w.get Reg.STG_CTICK_TICK = u.tick % 2 ^ 32 ∧
    w.raised Ev.STG_COMMITTED = true) ∧
  (∀ (m : Nat) (f : Bool) (i : Nat) (s : State), s.isLead = true ∨ s.alive = false →
    exec (.cascadeArmReceived m f i) s = .next s) ∧
  (∀ (m : Nat) (f : Bool) (i : Nat) (s : State), s.isLead = false → s.alive = true → s.stg.armed = true →
    Gives (exec (.cascadeArmReceived m f i) s) fun t => t.raised Ev.STG_BUSY = true ∧ t.stg = s.stg ∧ t.csc = s.csc ∧
      QuietWordsKept [] s t ∧ BytesKept s t) ∧
  (∀ (m : Nat) (f : Bool) (i : Nat) (s : State), s.isLead = false → s.alive = true → s.stg.armed = false →
    let mask := s.stgPages m
    let u := { s.stgBegin mask 0 true true with stg := { (s.stgBegin mask 0 true true).stg with setid := i } }
    match u.firstFailure mask 0 true f (some i) with
    | none => Gives (exec (.cascadeArmReceived m f i) s) fun t =>
        t.stg = { digests := s.stg.digests, armed := true, mask := mask, point := 0, armedAt := s.now, cascade := true,
                  remote := true, passed := true, setid := i } ∧
        t.get Reg.STG_STAT_STATE = 2 ∧ t.word Reg.STG_FAIL = 0 ∧
        (∃ d, t.csc.txq = s.csc.txq ++ [⟨.report, 0, 0, d⟩]) ∧
        WordsKept (Reg.STG_STAT :: Reg.STG_FAIL :: (List.range 32).map stgstatAddr) s t
    | some x => Gives (exec (.cascadeArmReceived m f i) s) fun t => t.stg = { digests := s.stg.digests } ∧
        t.get Reg.STG_STAT_STATE = 3 ∧ t.raised Ev.STG_REJECT = true ∧
        (∃ d, t.csc.txq = s.csc.txq ++ [⟨.report, 0, u.failWord mask x, d⟩]) ∧
        QuietWordsKept (Reg.STG_STAT :: Reg.STG_FAIL :: (List.range 32).map stgstatAddr) s t) ∧
  (∀ (d : Nat) (w : Word) (g : Nat) (s : State), s.isLead = false ∨ s.stg.armed = false ∨ s.stg.cascade = false ∨
    s.enumerated.testBit d = false → exec (.checkReportReceived d w g) s = .next s) ∧
  (∀ (d : Nat) (g : Nat) (s : State), s.isLead = true → s.stg.armed = true → s.stg.cascade = true →
    s.enumerated.testBit d = true → Gives (exec (.checkReportReceived d 0 g) s) fun t =>
      t.stg = { s.stg with reports := bitTo s.stg.reports d true, digests := nset d (g + 1) s.stg.digests } ∧
      t.regs = s.regs ∧ t.mem = s.mem) ∧
  (∀ (d : Nat) (w : Word) (g : Nat) (s : State), s.alive = true → s.isLead = true → s.stg.armed = true →
    s.stg.cascade = true → s.enumerated.testBit d = true → w ≠ 0 → Gives (exec (.checkReportReceived d w g) s) fun t =>
      t.stg = { digests := s.stg.digests } ∧ t.get Reg.STG_STAT_STATE = 3 ∧
      t.word Reg.STG_FAIL = Reg.STG_FAIL_DEV.insert w d ∧ t.raised Ev.STG_REJECT = true ∧
      t.csc.txq = s.csc.txq ++ [⟨.disarm, 8, s.stg.mask, 0⟩] ∧
      QuietWordsKept (Reg.STG_STAT :: Reg.STG_FAIL :: (List.range 32).map stgstatAddr) s t ∧ BytesKept s t) ∧
  (∀ s : State, s.isLead = false ∨ s.alive = false ∨ s.stg.armed = false ∨ s.stg.cascade = false ∨ s.stg.flag = true ∨
    s.fstart + 900000 ≤ s.stg.armedAt ∨ s.fstart + 900000 < s.now → exec .cascadeReportDeadline s = .next s) ∧
  (∀ s : State, s.isLead = true → s.alive = true → s.stg.armed = true → s.stg.cascade = true → s.stg.flag = false →
    s.stg.armedAt < s.fstart + 900000 → s.now ≤ s.fstart + 900000 → s.get Reg.STG_STAT_STATE ≠ 1 →
    if s.stg.passed = true ∧ s.enumerated &&& s.stg.reports = s.enumerated then
      exec .cascadeReportDeadline s = .next { s.advanceTo (s.fstart + 900000) with stg := { s.stg with flag := true } }
    else if s.get Reg.STG_STAT_SLIPS < 3 then Gives (exec .cascadeReportDeadline s) fun t => t.stg = s.stg ∧
        t.get Reg.STG_STAT_SLIPS = s.get Reg.STG_STAT_SLIPS + 1 ∧ t.raised Ev.STG_SLIP = true ∧ t.now = s.fstart + 900000 ∧
        QuietWordsKept [Reg.STG_STAT] s t ∧ BytesKept s t
    else s.get Reg.STG_STAT_SLIPS < 15 → Gives (exec .cascadeReportDeadline s) fun t => t.stg = { digests := s.stg.digests } ∧
        t.get Reg.STG_STAT_STATE = 3 ∧ t.raised Ev.STG_REJECT = true ∧
        t.word Reg.STG_FAIL = BitVec.ofNat 32 (15 + s.devNum * 2 ^ 24) ∧
        t.csc.txq = s.csc.txq ++ [⟨.disarm, 8, s.stg.mask, 0⟩]) ∧
  (∀ s : State, exec .cascadeDisarmReceived s = .next (if s.stg.remote = true then s.stgCancel else s)) ∧
  (∀ s : State, exec .cascadeArmTimeout s = .next (if 8 ≤ s.stg.waited ∧ s.stg.remote = true then s.stgCancel else s))

/-- The estimator run, its tables and requests, the journal, and the cell selection -/
def Obligations.EstimatorCommands : Prop :=
  (∀ s : State, s.isLead = false ∨ s.accelRuns 6 = false → exec .estimatorRunDone s = .next s) ∧
  (∀ s : State, s.isLead = true → s.accelRuns 6 = true → Gives (exec .estimatorRunDone s) fun t => ∃ w : State,
    t = w.nextFree.restHold.settle ∧ w.est.ran = true ∧ w.est.ranFrame = true ∧
    w.est.owed = [] ∧ w.est.owedBad = false ∧ w.est.slept = false ∧ w.flag Reg.EST_STAT_STALE = false ∧
    w.flag Reg.EST_SOCREP_STALE = false ∧ w.flag Reg.EST_SOCINT_STALE = false ∧
    w.get Reg.EST_SRCFRAME_FRAME = w.cm.lastFrame % 2 ^ 32) ∧
  (∀ (ini : Ini) (v : Word) (s : State), s.pageOn 12 = true → s.armedPage 12 = false →
    let k := 1024 * (1 - s.get Reg.EST_TBLSEL_BANK) + s.get Reg.EST_TBLADDR_INDEX
    Gives (exec (.tableDataWrite ini v) s) fun t => nget k t.est.tbl = v.toNat ∧
      (∀ j, j ≠ k → nget j t.est.tbl = nget j s.est.tbl) ∧
      t.get Reg.EST_TBLADDR_INDEX = (s.get Reg.EST_TBLADDR_INDEX + 1) % 1024 ∧
      WordsKept [Reg.EST_TBLADDR] s t ∧ t.mem = s.mem) ∧
  (∀ (ini : Ini) (s : State), s.pageOn 12 = true → s.isLead = true →
    exec (.estCaprst ini) s = .next { s with est := { s.est with caprst := true } } ∧
    exec (.estReinit ini) s = .next { s with est := { s.est with reinit := true } } ∧
    exec (.estJwrite ini) s = .next { s with est := { s.est with jPend := true } } ∧
    exec (.estResync ini) s = .next { s with est := { s.est with resync := true } }) ∧
  (∀ (ini : Ini) (c : Instr) (s : State), s.pageOn 12 = true → s.isLead = false →
    c ∈ [.estCaprst ini, .estReinit ini, .estJwrite ini, .estResync ini] → exec c s = .next s) ∧
  (∀ s : State, s.isLead = true → s.power.phase = .run → s.watching = false → s.sleeping = false →
    let u := s.advanceTo (s.est.jAt + (s.jPeriod - s.est.jAcc))
    exec .journalPeriod s = .next { u with est := { s.est with jPend := true, jAt := u.now, jAcc := 0 } }) ∧
  (∀ s : State, s.isLead = false ∨ s.est.jPend = false ∨ s.est.jRun = true ∨
    (s.power.port ≠ 0 ∧ (s.power.port ≠ 3 ∨ s.power.warnAt = none)) → exec .journalWriteStart s = .next s) ∧
  (∀ s : State, s.isLead = true → s.est.jPend = true → s.est.jRun = false →
    s.power.port = 0 ∨ (s.power.port = 3 ∧ s.power.warnAt.isSome = true) →
    if s.get Reg.PWR_HOLDE_UJ < 1200 then Gives (exec .journalWriteStart s) fun t =>
      t.flag Reg.EST_JSTAT_LOWENERGY = true ∧ WordsKept [Reg.EST_JSTAT] s t ∧ t.mem = s.mem ∧ t.est = s.est ∧ t.power = s.power
    else Gives (exec .journalWriteStart s) fun t => t.flag Reg.EST_JSTAT_LOWENERGY = false ∧ t.power.port = 2 ∧
      t.est = { s.est with jPend := false, jCap := false, jCarry := s.est.jCap, jRun := true } ∧
      t.bytes intentAddr 4 = leBytes 4 (intentWord s.est.jCap (1 - s.get Reg.EST_JSTAT_SLOT) (s.get Reg.EST_JSEQ_SEQ + 1)) ∧
      (∀ a, a < intentAddr ∨ intentAddr + 4 ≤ a → t.byte a = s.byte a) ∧ WordsKept [Reg.EST_JSTAT] s t) ∧
  (∀ s : State, s.est.jRun = false → exec .journalWriteDone s = .next s) ∧
  (∀ s : State, s.est.jRun = true →
    let slot := 1 - s.get Reg.EST_JSTAT_SLOT
    let seq := s.get Reg.EST_JSEQ_SEQ + 1
    Gives (exec .journalWriteDone s) fun t => t.est = { s.est with jRun := false, jCarry := false } ∧
      t.get Reg.EST_JSTAT_SLOT = slot ∧ t.get Reg.EST_JSEQ_SEQ = seq % 2 ^ 32 ∧
      (∀ i < 0x3044, (s.journalRecord seq)[i]? = some (t.byte (jSlotAddr slot + i))) ∧
      t.bytes intentAddr 4 = leBytes 4 (if s.est.jCap then intentWord true (1 - slot) (seq + 1) else 0) ∧
      (∀ a, (a < jSlotAddr slot ∨ jSlotAddr slot + 0x3044 ≤ a) → (a < intentAddr ∨ intentAddr + 4 ≤ a) → t.byte a = s.byte a) ∧
      WordsKept [Reg.EST_JSTAT, Reg.EST_JSEQ] s t) ∧
  (∀ (ini : Ini) (c : Nat) (s : State), s.pageOn 12 = true → c < 512 → s.cellOn c = false ∨ s.est.ran = false →
    Gives (exec (.estCellSelect ini c) s) fun t => t.get Reg.EST_CSEL_INDEX = c ∧ t.get Reg.EST_CZ_Z = 0 ∧
      t.getI Reg.EST_CZC_ZC = 0 ∧ t.get Reg.EST_CQ_Q = 0 ∧ t.get Reg.EST_CRHO_RHO = 0 ∧ t.getI Reg.EST_CINNOV_E = 0 ∧
      t.get Reg.EST_CFLAG_FLAGS = 0 ∧
      WordsKept [Reg.EST_CSEL, Reg.EST_CZ, Reg.EST_CZC, Reg.EST_CQ, Reg.EST_CRHO, Reg.EST_CINNOV, Reg.EST_CFLAG] s t ∧
      t.mem = s.mem) ∧
  (∀ (ini : Ini) (c : Nat) (s : State), s.pageOn 12 = true → c < 512 → s.cellOn c = true → s.est.ran = true →
    let x := s.est.cells.getD c {}
    Gives (exec (.estCellSelect ini c) s) fun t => t.get Reg.EST_CSEL_INDEX = c ∧
      t.get Reg.EST_CZ_Z = min (roundQ (x.z * 1000000000)).toNat (2 ^ 30 - 1) ∧
      t.getI Reg.EST_CZC_ZC = clampI (-2147483648) 2147483647 (roundQ (x.zc * 1000000000)) ∧
      t.get Reg.EST_CQ_Q = min (roundQ (x.q * 1000)).toNat (2 ^ 32 - 1) ∧
      t.get Reg.EST_CRHO_RHO = min (roundQ (x.rho * 65536)).toNat (2 ^ 32 - 1) ∧
      t.getI Reg.EST_CINNOV_E = clampI (-8388608) 8388607 (roundQ (x.e * 1000000)) ∧
      t.get Reg.EST_CFLAG_FLAGS = bitsOf [true, x.degr, x.capsus, x.socdis, x.model, decide (0 < x.gaps), x.restValid] % 128 ∧
      WordsKept [Reg.EST_CSEL, Reg.EST_CZ, Reg.EST_CZC, Reg.EST_CQ, Reg.EST_CRHO, Reg.EST_CINNOV, Reg.EST_CFLAG] s t ∧
      t.mem = s.mem) ∧
  (∀ s : State, s.isLead = false ∨ s.power.phase ≠ .run ∨ s.watching = true ∨ s.sleeping = true →
    exec .journalPeriod s = .next s)

/-- The sweep and its points: request, abort, calibration, window end, processing, deadline, stop timeout, and selection -/
def Obligations.ImpedanceCommands : Prop :=
  (∀ (ini : Ini) (s : State), s.isLead = false ∨ s.get Reg.SYS_PROFSTAT_PROF ≠ 0 ∨ s.flag Reg.EIS_STAT_SWEEP = true →
    exec (.eisSweepRequest ini) s = .next s) ∧
  (∀ (ini : Ini) (s : State), s.isLead = true → s.get Reg.SYS_PROFSTAT_PROF = 0 → s.flag Reg.EIS_STAT_SWEEP = false →
    Gives (exec (.eisSweepRequest ini) s) fun t => ∃ w : State, t = State.eisFrom 0 0 s.eisPoints 0 w ∧
      w.flag Reg.EIS_STAT_SWEEP = true ∧ w.get Reg.EIS_STAT_POINT = 0 ∧ w.eis = { s.eis with okPoints := 0, refused := false } ∧
      WordsKept [Reg.EIS_STAT] s w ∧ w.mem = s.mem) ∧
  (∀ (ini : Ini) (s : State), s.isLead = false → exec (.eisAbort ini) s = .next s ∧ exec (.eisTcal ini) s = .next s) ∧
  (∀ (ini : Ini) (s : State), s.isLead = true →
    exec (.eisTcal ini) s = .next { s with eis := { s.eis with tcal := 2 ^ 384 - 1 } }) ∧
  (∀ (ini : Ini) (s : State), s.isLead = true → s.eisActive = false →
    exec (.eisAbort ini) s = .next (s.putB Reg.EIS_STAT_EXC (s.eis.req != 0)).settle) ∧
  (∀ (ini : Ini) (s : State), s.alive = true → s.isLead = true → s.eisActive = true →
    Gives (exec (.eisAbort ini) s) fun t => ∃ w : State, t = w.eisStopRequest.eisSweepOver.eisExc.settle ∧
    w.get Reg.EIS_SWSTAT_SKIP = min (s.get Reg.EIS_SWSTAT_SKIP + 1) (2 ^ Reg.EIS_SWSTAT_SKIP.wid - 1) ∧
    w.get Reg.EIS_SWSTAT_REASON = 4 ∧ w.get Reg.EIS_SWSTAT_LAST = s.get Reg.EIS_STAT_POINT ∧
    w.raised Ev.EIS_POINT_SKIP = true ∧ (s.eis.req = 2 → w.raised Ev.EIS_EXC_FAULT = true) ∧ w.eis = s.eis ∧
    QuietWordsKept [Reg.EIS_SWSTAT] s w ∧ BytesKept s w) ∧
  (∀ s : State, s.eis.phase ≠ 3 → exec .eisWindowEnd s = .next s) ∧
  (∀ s : State, s.eis.phase = 3 → Gives (exec .eisWindowEnd s) fun t => ∃ w : State, w.now = max s.now s.eis.e ∧
    w.eis.phase = 3 ∧ w.bal = s.bal ∧
    w.eis.req = (if s.eis.req = 1 ∨ s.eis.req = 2 then 3 else s.eis.req) ∧ w.mem = s.mem ∧
    (∀ f ∈ [Reg.EIS_STAT_POINT, Reg.EIS_STAT_PASS, Reg.EIS_STAT_SRC, Reg.EIS_STAT_SWEEP], w.get f = s.get f) ∧
    WordsKept [Reg.EIS_STAT, Reg.BAL_ONL, Reg.BAL_ONH] s w ∧
    t = (if s.get Reg.EIS_STAT_SRC = 2 then
        if s.get Reg.EIS_STAT_PASS < 2 then
          let v := { w.eisForm with eis := { w.eisForm.eis with phase := 5 } }
          if s.isLead then ((v.put Reg.EIS_STAT_PASS (s.get Reg.EIS_STAT_PASS + 1)).resubmitAs 4 2 0).settle else v
        else { w.eisForm with eis := { w.eisForm.eis with phase := 4 } }
      else
        let v := { w with eis := { w.eis with phase := 4 } }
        let i := v.eisOwnPhasor
        let g := v.eisGotPhasor i v.eisFlags
        if s.isAnchor = true then
          if s.isLead then g else g.send (.reply (.phasor i.re i.im i.lre i.ure g.eisFlags)) 0 0 0
        else v)) ∧
  (∀ s : State, s.accelRuns 8 = false → exec .eisProcessingDone s = .next s) ∧
  (∀ s : State, s.accelRuns 8 = true → s.eis.phase ≠ 4 ∨ s.eisRunCounts = false ∨ s.eis.done.testBit s.devNum = true ∨
    (s.get Reg.EIS_STAT_SRC ≠ 2 ∧ s.eis.gotI = false) → exec .eisProcessingDone s = .next (s.accelDone 8)) ∧
  (∀ s : State, s.accelRuns 8 = true → s.eis.phase = 4 → s.eisRunCounts = true → s.eis.done.testBit s.devNum = false →
    s.get Reg.EIS_STAT_SRC = 2 ∨ s.eis.gotI = true →
    let u := if s.get Reg.EIS_STAT_SRC = 2 then s.accelDone 8 else (s.accelDone 8).eisForm
    (s.isLead = true → exec .eisProcessingDone s =
      .next { u with eis := { u.eis with done := bitTo s.eis.done s.devNum true } }) ∧
    (s.isLead = false → Gives (exec .eisProcessingDone s) fun t => t.regs = s.regs ∧ t.mem = s.mem ∧
      t.csc.txq = s.csc.txq ++ [⟨.reply (.results u.eisReport), 0, 0, 0⟩] ∧
      t.eis = { u.eis with done := bitTo s.eis.done s.devNum true } ∧ t.eis.res = s.eis.res)) ∧
  (∀ (s : State) (x : AccelRun), s.tt.accel.find? (fun x => x.typ == 8 && decide (s.now < x.till)) = some x →
    (s.accelDone 8).tt.accel = s.tt.accel.filter (·.entry != x.entry) ∧ nget 8 (s.accelDone 8).tt.accelOver = 0 ∧
    (s.accelDone 8).regs = s.regs ∧ (s.accelDone 8).mem = s.mem ∧ (s.accelDone 8).eis = s.eis) ∧
  (∀ s : State, s.isLead = false ∨ (s.eis.phase ≠ 4 ∧ s.eis.phase ≠ 6) → exec .eisResultDeadline s = .next s) ∧
  (∀ s : State, s.isLead = true → s.eis.phase = 4 ∨ s.eis.phase = 6 → s.eis.done.testBit 0 = true →
    (∀ d < 8, s.followers.testBit d = true → s.eis.done.testBit d = true) →
    exec .eisResultDeadline s =
      .next (let u := s.advanceTo (s.eis.e + 2000000)
        (if s.eisNoDrive then u.eisSkip 6 else u.eisComplete).settle)) ∧
  (∀ s : State, s.isLead = true → s.eis.phase = 4 ∨ s.eis.phase = 6 → s.eis.done.testBit 0 = false ∨
    (∃ d < 8, s.followers.testBit d = true ∧ s.eis.done.testBit d = false) →
    let u := s.advanceTo (s.eis.e + 2000000)
    let v := u.eisStopRequest.eisExc
    exec .eisResultDeadline s = .next (if s.eisNoDrive then u.eisSkip 6
      else if v.eis.okPoints = 0 then (v.eisSkipRecord 5).eisSweepOver else v.eisSkip 5).settle) ∧
  (∀ s : State, s.isLead = false ∨ s.eis.req ≠ 3 ∨ s.ackActive = false ∨
    s.framesSince s.eis.stopFrame + 1 < clampN 1 255 (s.get Reg.EIS_EXCCFG_STOPTMO) → exec .excitationStopTimeout s = .next s) ∧
  (∀ s : State, s.alive = true → s.isLead = true → s.eis.req = 3 → s.ackActive = true →
    clampN 1 255 (s.get Reg.EIS_EXCCFG_STOPTMO) ≤ s.framesSince s.eis.stopFrame + 1 →
    Gives (exec .excitationStopTimeout s) fun t => t.eis = { s.eis with req := 0 } ∧ t.flag Reg.EIS_STAT_EXC = false ∧
      t.raised Ev.EIS_EXC_FAULT = true ∧ QuietWordsKept [Reg.EIS_STAT] s t ∧ BytesKept s t) ∧
  (∀ (ini : Ini) (p c : Nat) (r : EisRes) (s : State), p < 8 → c < 512 → s.isLead = true →
    aget (8 * c + p) s.eis.res = some r → Gives (exec (.eisResultSelect ini p c) s) fun t =>
      t.get Reg.EIS_RSEL_POINT = p ∧ t.get Reg.EIS_RSEL_CELL = c ∧ t.flag Reg.EIS_RMAG_VALID = true ∧
      t.get Reg.EIS_RMAG_MAG = r.mag % 2 ^ Reg.EIS_RMAG_MAG.wid ∧ t.get Reg.EIS_RCONF_CONF = r.conf % 2 ^ Reg.EIS_RCONF_CONF.wid ∧
      t.get Reg.EIS_RCONF_FLAGS = r.flags % 2 ^ Reg.EIS_RCONF_FLAGS.wid ∧
      t.get Reg.EIS_RCONF_SRC = r.src % 2 ^ Reg.EIS_RCONF_SRC.wid ∧ t.get Reg.EIS_RFRAME_FRAME = r.frame % 2 ^ 32 ∧
      WordsKept [Reg.EIS_RSEL, Reg.EIS_RMAG, Reg.EIS_RPH, Reg.EIS_RCONF, Reg.EIS_RFRAME, Reg.EIS_RTZ, Reg.EIS_RREF] s t ∧
      t.mem = s.mem ∧ t.eis = s.eis) ∧
  (∀ (ini : Ini) (p c : Nat) (s : State), p < 8 → c < 512 → aget (8 * c + p) s.eis.res = none →
    Gives (exec (.eisResultSelect ini p c) s) fun t =>
      t.get Reg.EIS_RSEL_POINT = p ∧ t.get Reg.EIS_RSEL_CELL = c ∧ t.word Reg.EIS_RMAG = 0 ∧ t.word Reg.EIS_RPH = 0 ∧
      t.word Reg.EIS_RCONF = 0 ∧ t.word Reg.EIS_RFRAME = 0 ∧
      WordsKept [Reg.EIS_RSEL, Reg.EIS_RMAG, Reg.EIS_RPH, Reg.EIS_RCONF, Reg.EIS_RFRAME, Reg.EIS_RTZ, Reg.EIS_RREF] s t ∧
      t.mem = s.mem ∧ t.eis = s.eis)

/-- The frame boundary, the profile that the next frame has, and the expiry of a Ticket connection -/
def Obligations.FrameBoundaryAndTicketExpiry : Prop :=
  (∀ (die : List Int) (s : State), s.busUp = false → exec (.frameBoundary die) s = .next s) ∧
  (∀ (die : List Int) (s : State), s.busUp = true → Gives (exec (.frameBoundary die) s) fun t => ∃ w : State,
    w.now = max s.now ((s.fstart : Int) + 1000000 + s.csc.edge).toNat ∧ w.fstart = w.now ∧ w.frame = s.frameNumber ∧
    w.tt = { s.tt with xfer := [] } ∧ (s.numbered = false → w.csc = s.csc) ∧
    w.csc = { s.csc with txq := w.csc.txq, recDone := w.csc.recDone, localDone := w.csc.localDone } ∧ w.stg = s.stg ∧ w.tick = s.tick + (w.now - s.now) ∧ w.cm.buffer = [] ∧
    w.cm.lastRan = s.cm.running ∧
    (s.actFrame = true → w.cm.lastFast = s.fast ∧ w.cm.lastFrame = s.frame ∧ w.cm.lastBuffer = s.cm.buffer) ∧
    (s.actFrame = false → w.cm.lastFast = s.cm.lastFast ∧ w.cm.lastFrame = s.cm.lastFrame ∧
      w.cm.lastBuffer = s.cm.lastBuffer) ∧
    t = (let v := w.tickBoundary.followMode
       let flag := match v.csc.marker with
         | some m => m.1
         | none => false
       let v : State := if v.isLead then v else { v with stg := { v.stg with flag } }
       let v := v.boundaryCommit.pauseResume.profileStep
       if v.sleeping = true then v
       else (v.selectSched.slotZero s).blocksFrame die (!s.watching || s.tt.watchN == 0))) ∧
  (∀ s : State, s.csc.marker = none → s.frameNumber = (s.frame + 1) % 2 ^ 32) ∧
  (∀ (s : State) (m : Bool × Nat × Nat × Nat), s.csc.marker = some m → m.2.2.2 < 65536 → s.frameNumber % 65536 = m.2.2.2) ∧
  (∀ s : State, s.isLead = true → s.get Reg.SYS_PROFSTAT_PROF ≠ 2 → s.reactionSeen = true → s.nextProfile = 0) ∧
  (∀ s : State, s.isLead = true → s.get Reg.SYS_PROFSTAT_PROF ≠ 2 → s.reactionSeen = false →
    s.nextProfile = if s.get Reg.SYS_PROFREQ_REQ = 3 ∨ s.pairRestarting = true ∨ s.profRefuse = true
      then s.get Reg.SYS_PROFSTAT_PROF else s.get Reg.SYS_PROFREQ_REQ) ∧
  (∀ (s : State) (m : Bool × Nat × Nat × Nat), s.isLead = false → s.csc.marker = some m → m.2.1 ≠ 3 → s.nextProfile = m.2.1) ∧
  (∀ (s : State) (m : Bool × Nat × Nat × Nat), s.isLead = false → s.csc.marker = some m →
    s.followMode.get Reg.TT_SCHED_RUNMODE = m.2.2.1 % 2 ∧ s.followMode.get Reg.TT_SCHED_RUNMODE.staged = m.2.2.1 % 2) ∧
  (∀ s : State, s.alive = true → s.nextProfile = s.get Reg.SYS_PROFSTAT_PROF →
    let t := s.profileStep
    let p := s.get Reg.SYS_PROFSTAT_PROF
    let m := if p = 0 then s.get Reg.TT_SCHED_RUNMODE else if p = 1 then 0 else s.get Reg.SYS_PROFSTAT_MODE
    t.get Reg.SYS_PROFSTAT_PROF = s.get Reg.SYS_PROFSTAT_PROF ∧ t.get Reg.SYS_PROFSTAT_MODE = m ∧
    t.get Reg.CELL_CTRL_MODE = m ∧ (m ≠ s.get Reg.SYS_PROFSTAT_MODE → t.raised Ev.PROFILE_CHANGED = true) ∧
    ((s.isLead && s.profRefuse && !s.pairRestarting) = true →
      t.get Reg.SYS_PROFREQ_REQ = 0 ∧ t.raised Ev.PROFILE_REFUSED = true) ∧
    t.get Reg.TMB_SRC_SOURCE = p ∧
    QuietWordsKept [Reg.SYS_PROFREQ, Reg.SYS_PROFSTAT, Reg.CELL_CTRL, Reg.TMB_SRC, Reg.CLK_STAT, Reg.BAL_ONL, Reg.BAL_ONH] s t ∧
    BytesKept s t) ∧
  (∀ (con : Fin 32) (s : State), s.alive = false ∨ (s.connState con ≠ 1 ∧ s.connState con ≠ 2) ∨ s.tktSuspended = true →
    exec (.ticketExpiry con) s = .next s) ∧
  (∀ (con : Fin 32) (s : State), s.alive = true → s.connState con = 1 ∨ s.connState con = 2 → s.tktSuspended = false →
    Gives (exec (.ticketExpiry con) s) fun t => ∃ w : State, t = w.protect ∧
      w.now = max s.now ((s.connOf con).t + s.connWindow con) ∧ w.connState con = 3 ∧
      w.bit Reg.TKT_EXPD_EXP con = true ∧ w.raised Ev.TKT_EXPIRED = true ∧
      (s.flag (Reg.TKT_CFG_REACT.at con) = true → s.flag (Reg.TKT_CFG_RSEL.at con) = false → w.saf.tka.testBit con = true) ∧
      (s.flag (Reg.TKT_CFG_REACT.at con) = true → s.flag (Reg.TKT_CFG_RSEL.at con) = true → w.saf.tkb.testBit con = true) ∧
      QuietWordsKept [(Reg.TKT_STAT_STATE.at con).addr, Reg.TKT_EXPD] s w ∧ BytesKept s w ∧ w.can = s.can)
end

