-- ==== Sys2Proof/Laws/Canon.lean ====
section
/-!
SUPPORT. Canonical maps: a read after a write, and the canonical form kept by every write and every filter.
-/
namespace Sys2Proof.Machine

variable {α : Type}

theorem kget_filter_ne (d : Nat → α) (k j : Nat) (h : j ≠ k) (m : KMap α) :
    kget d j (m.filter fun p => p.1 != k) = kget d j m := by
  induction m with
  | nil => rfl
  | cons p m ih =>
    obtain ⟨a, b⟩ := p
    by_cases hk : a = k
    · subst hk; simp [kget, ih, Ne.symm h]
    · rw [List.filter_cons_of_pos (by simpa using hk)]
      simp only [kget, ih]

theorem kget_filter_self (d : Nat → α) (k : Nat) (m : KMap α) :
    kget d k (m.filter fun p => p.1 != k) = d k := by
  induction m with
  | nil => rfl
  | cons p m ih =>
    obtain ⟨a, b⟩ := p
    by_cases hk : a = k <;> simp [kget, hk, ih]

theorem kget_kput_self (d : Nat → α) (k : Nat) (v : α) (m : KMap α) : kget d k (kput k v m) = v := by
  induction m with
  | nil => simp [kput, kget]
  | cons p m ih =>
    obtain ⟨a, b⟩ := p
    unfold kput
    split
    · simp [kget]
    · split
      · simp [kget]
      · rename_i h1 h2; simp [kget, ih, Ne.symm h2]

theorem kget_kput_ne (d : Nat → α) (k j : Nat) (h : j ≠ k) (v : α) (m : KMap α) :
    kget d j (kput k v m) = kget d j m := by
  induction m with
  | nil => simp [kput, kget, Ne.symm h]
  | cons p m ih =>
    obtain ⟨a, b⟩ := p
    unfold kput
    split
    · simp [kget, Ne.symm h]
    · split
      · rename_i h2; subst h2; simp [kget, Ne.symm h]
      · simp [kget, ih]

section
variable [DecidableEq α]

/-- A read at the key just written. -/
@[simp] theorem kget_kset_self (d : Nat → α) (k : Nat) (v : α) (m : KMap α) : kget d k (kset d k v m) = v := by
  unfold kset
  split
  · rename_i h; rw [kget_filter_self, h]
  · exact kget_kput_self d k v m

/-- A read at another key. -/
theorem kget_kset_ne (d : Nat → α) (k j : Nat) (h : j ≠ k) (v : α) (m : KMap α) :
    kget d j (kset d k v m) = kget d j m := by
  unfold kset
  split
  · exact kget_filter_ne d k j h m
  · exact kget_kput_ne d k j h v m

omit [DecidableEq α] in
theorem kabove_mono {lo hi : Nat} (h : lo ≤ hi) (m : KMap α) (hm : kabove hi m = true) : kabove lo m = true := by
  induction m with
  | nil => rfl
  | cons p m ih =>
    simp only [kabove, Bool.and_eq_true, decide_eq_true_eq] at hm ⊢
    exact ⟨by omega, ih hm.2⟩

omit [DecidableEq α] in
theorem kabove_filter (lo : Nat) (q : Nat × α → Bool) (m : KMap α) (hm : kabove lo m = true) :
    kabove lo (m.filter q) = true := by
  induction m with
  | nil => rfl
  | cons p m ih =>
    simp only [kabove, Bool.and_eq_true, decide_eq_true_eq] at hm
    rw [List.filter_cons]
    split
    · simp [kabove, hm.1, ih hm.2]
    · exact ih hm.2

/-- Leaving entries out keeps the canonical form. -/
theorem kwf_filter (d : Nat → α) (q : Nat × α → Bool) (m : KMap α) (hm : kwf d m = true) :
    kwf d (m.filter q) = true := by
  induction m with
  | nil => rfl
  | cons p m ih =>
    simp only [kwf, Bool.and_eq_true] at hm
    rw [List.filter_cons]
    split
    · simp only [kwf, Bool.and_eq_true]
      exact ⟨⟨hm.1.1, kabove_filter _ _ _ hm.1.2⟩, ih hm.2⟩
    · exact ih hm.2

omit [DecidableEq α] in
theorem kabove_kput (lo k : Nat) (v : α) (m : KMap α) (hk : lo < k) (hm : kabove lo m = true) :
    kabove lo (kput k v m) = true := by
  induction m with
  | nil => simp [kput, kabove, hk]
  | cons p m ih =>
    obtain ⟨a, b⟩ := p
    simp only [kabove, Bool.and_eq_true, decide_eq_true_eq] at hm
    unfold kput
    split
    · simp [kabove, hk, hm.1, hm.2]
    · split
      · simp [kabove, hk, hm.2]
      · simp [kabove, hm.1, ih hm.2]

theorem kwf_kput (d : Nat → α) (k : Nat) (v : α) (hv : v ≠ d k) (m : KMap α) (hm : kwf d m = true) :
    kwf d (kput k v m) = true := by
  induction m with
  | nil => simp [kput, kwf, kabove, hv]
  | cons p m ih =>
    obtain ⟨a, b⟩ := p
    simp only [kwf, Bool.and_eq_true, decide_eq_true_eq] at hm
    unfold kput
    split
    · rename_i h
      simp only [kwf, kabove, Bool.and_eq_true, decide_eq_true_eq]
      exact ⟨⟨hv, h, kabove_mono (Nat.le_of_lt h) m hm.1.2⟩, hm.1, hm.2⟩
    · split
      · rename_i h; subst h
        simp only [kwf, Bool.and_eq_true, decide_eq_true_eq]
        exact ⟨⟨hv, hm.1.2⟩, hm.2⟩
      · simp only [kwf, Bool.and_eq_true, decide_eq_true_eq]
        exact ⟨⟨hm.1.1, kabove_kput a k v m (by omega) hm.1.2⟩, ih hm.2⟩

/-- A write keeps the canonical form. -/
theorem kwf_kset (d : Nat → α) (k : Nat) (v : α) (m : KMap α) (hm : kwf d m = true) :
    kwf d (kset d k v m) = true := by
  unfold kset
  split
  · exact kwf_filter d _ m hm
  · rename_i h; exact kwf_kput d k v h m hm

end

end Sys2Proof.Machine
end

