-- ==== Sys2Proof/Laws/State.lean ====
section
/-!
SUPPORT. One lemma per field of the state and update: what a named write leaves unchanged, true by definition.
-/
namespace Sys2Proof.Machine

@[simp] theorem State.setWord_full (s : State) (a : Nat) (w : Word) : (s.setWord a w).full = s.full := rfl
@[simp] theorem State.setWord_leadStrap (s : State) (a : Nat) (w : Word) : (s.setWord a w).leadStrap = s.leadStrap := rfl
@[simp] theorem State.setWord_now (s : State) (a : Nat) (w : Word) : (s.setWord a w).now = s.now := rfl
@[simp] theorem State.setWord_tick (s : State) (a : Nat) (w : Word) : (s.setWord a w).tick = s.tick := rfl
@[simp] theorem State.setWord_frame (s : State) (a : Nat) (w : Word) : (s.setWord a w).frame = s.frame := rfl
@[simp] theorem State.setWord_fstart (s : State) (a : Nat) (w : Word) : (s.setWord a w).fstart = s.fstart := rfl
@[simp] theorem State.setWord_mem (s : State) (a : Nat) (w : Word) : (s.setWord a w).mem = s.mem := rfl
@[simp] theorem State.setWord_evAt (s : State) (a : Nat) (w : Word) : (s.setWord a w).evAt = s.evAt := rfl
@[simp] theorem State.setWord_freeCtr (s : State) (a : Nat) (w : Word) : (s.setWord a w).freeCtr = s.freeCtr := rfl
@[simp] theorem State.setWord_power (s : State) (a : Nat) (w : Word) : (s.setWord a w).power = s.power := rfl
@[simp] theorem State.setWord_ret (s : State) (a : Nat) (w : Word) : (s.setWord a w).ret = s.ret := rfl
@[simp] theorem State.setWord_tmb (s : State) (a : Nat) (w : Word) : (s.setWord a w).tmb = s.tmb := rfl
@[simp] theorem State.setWord_bbx (s : State) (a : Nat) (w : Word) : (s.setWord a w).bbx = s.bbx := rfl
@[simp] theorem State.setWord_tt (s : State) (a : Nat) (w : Word) : (s.setWord a w).tt = s.tt := rfl
@[simp] theorem State.setWord_stg (s : State) (a : Nat) (w : Word) : (s.setWord a w).stg = s.stg := rfl
@[simp] theorem State.setWord_cm (s : State) (a : Nat) (w : Word) : (s.setWord a w).cm = s.cm := rfl
@[simp] theorem State.setWord_ipk (s : State) (a : Nat) (w : Word) : (s.setWord a w).ipk = s.ipk := rfl
@[simp] theorem State.setWord_iso (s : State) (a : Nat) (w : Word) : (s.setWord a w).iso = s.iso := rfl
@[simp] theorem State.setWord_bal (s : State) (a : Nat) (w : Word) : (s.setWord a w).bal = s.bal := rfl
@[simp] theorem State.setWord_csc (s : State) (a : Nat) (w : Word) : (s.setWord a w).csc = s.csc := rfl
@[simp] theorem State.setWord_est (s : State) (a : Nat) (w : Word) : (s.setWord a w).est = s.est := rfl
@[simp] theorem State.setWord_eis (s : State) (a : Nat) (w : Word) : (s.setWord a w).eis = s.eis := rfl
@[simp] theorem State.setWord_thm (s : State) (a : Nat) (w : Word) : (s.setWord a w).thm = s.thm := rfl
@[simp] theorem State.setWord_saf (s : State) (a : Nat) (w : Word) : (s.setWord a w).saf = s.saf := rfl
@[simp] theorem State.setWord_cts (s : State) (a : Nat) (w : Word) : (s.setWord a w).cts = s.cts := rfl
@[simp] theorem State.setWord_out (s : State) (a : Nat) (w : Word) : (s.setWord a w).out = s.out := rfl
@[simp] theorem State.setWord_lhm (s : State) (a : Nat) (w : Word) : (s.setWord a w).lhm = s.lhm := rfl
@[simp] theorem State.setWord_pmp (s : State) (a : Nat) (w : Word) : (s.setWord a w).pmp = s.pmp := rfl
@[simp] theorem State.setWord_cpa (s : State) (a : Nat) (w : Word) : (s.setWord a w).cpa = s.cpa := rfl
@[simp] theorem State.setWord_cpb (s : State) (a : Nat) (w : Word) : (s.setWord a w).cpb = s.cpb := rfl
@[simp] theorem State.setWord_nvm (s : State) (a : Nat) (w : Word) : (s.setWord a w).nvm = s.nvm := rfl
@[simp] theorem State.setWord_can (s : State) (a : Nat) (w : Word) : (s.setWord a w).can = s.can := rfl
@[simp] theorem State.setWord_conn (s : State) (a : Nat) (w : Word) : (s.setWord a w).conn = s.conn := rfl
@[simp] theorem State.setWord_hst (s : State) (a : Nat) (w : Word) : (s.setWord a w).hst = s.hst := rfl
@[simp] theorem State.setWord_jtag (s : State) (a : Nat) (w : Word) : (s.setWord a w).jtag = s.jtag := rfl
@[simp] theorem State.setWord_pending (s : State) (a : Nat) (w : Word) : (s.setWord a w).pending = s.pending := rfl

@[simp] theorem State.put_full (s : State) (f : Fld) (v : Nat) : (s.put f v).full = s.full := rfl
@[simp] theorem State.put_leadStrap (s : State) (f : Fld) (v : Nat) : (s.put f v).leadStrap = s.leadStrap := rfl
@[simp] theorem State.put_now (s : State) (f : Fld) (v : Nat) : (s.put f v).now = s.now := rfl
@[simp] theorem State.put_tick (s : State) (f : Fld) (v : Nat) : (s.put f v).tick = s.tick := rfl
@[simp] theorem State.put_frame (s : State) (f : Fld) (v : Nat) : (s.put f v).frame = s.frame := rfl
@[simp] theorem State.put_fstart (s : State) (f : Fld) (v : Nat) : (s.put f v).fstart = s.fstart := rfl
@[simp] theorem State.put_mem (s : State) (f : Fld) (v : Nat) : (s.put f v).mem = s.mem := rfl
@[simp] theorem State.put_evAt (s : State) (f : Fld) (v : Nat) : (s.put f v).evAt = s.evAt := rfl
@[simp] theorem State.put_freeCtr (s : State) (f : Fld) (v : Nat) : (s.put f v).freeCtr = s.freeCtr := rfl
@[simp] theorem State.put_power (s : State) (f : Fld) (v : Nat) : (s.put f v).power = s.power := rfl
@[simp] theorem State.put_ret (s : State) (f : Fld) (v : Nat) : (s.put f v).ret = s.ret := rfl
@[simp] theorem State.put_tmb (s : State) (f : Fld) (v : Nat) : (s.put f v).tmb = s.tmb := rfl
@[simp] theorem State.put_bbx (s : State) (f : Fld) (v : Nat) : (s.put f v).bbx = s.bbx := rfl
@[simp] theorem State.put_tt (s : State) (f : Fld) (v : Nat) : (s.put f v).tt = s.tt := rfl
@[simp] theorem State.put_stg (s : State) (f : Fld) (v : Nat) : (s.put f v).stg = s.stg := rfl
@[simp] theorem State.put_cm (s : State) (f : Fld) (v : Nat) : (s.put f v).cm = s.cm := rfl
@[simp] theorem State.put_ipk (s : State) (f : Fld) (v : Nat) : (s.put f v).ipk = s.ipk := rfl
@[simp] theorem State.put_iso (s : State) (f : Fld) (v : Nat) : (s.put f v).iso = s.iso := rfl
@[simp] theorem State.put_bal (s : State) (f : Fld) (v : Nat) : (s.put f v).bal = s.bal := rfl
@[simp] theorem State.put_csc (s : State) (f : Fld) (v : Nat) : (s.put f v).csc = s.csc := rfl
@[simp] theorem State.put_est (s : State) (f : Fld) (v : Nat) : (s.put f v).est = s.est := rfl
@[simp] theorem State.put_eis (s : State) (f : Fld) (v : Nat) : (s.put f v).eis = s.eis := rfl
@[simp] theorem State.put_thm (s : State) (f : Fld) (v : Nat) : (s.put f v).thm = s.thm := rfl
@[simp] theorem State.put_saf (s : State) (f : Fld) (v : Nat) : (s.put f v).saf = s.saf := rfl
@[simp] theorem State.put_cts (s : State) (f : Fld) (v : Nat) : (s.put f v).cts = s.cts := rfl
@[simp] theorem State.put_out (s : State) (f : Fld) (v : Nat) : (s.put f v).out = s.out := rfl
@[simp] theorem State.put_lhm (s : State) (f : Fld) (v : Nat) : (s.put f v).lhm = s.lhm := rfl
@[simp] theorem State.put_pmp (s : State) (f : Fld) (v : Nat) : (s.put f v).pmp = s.pmp := rfl
@[simp] theorem State.put_cpa (s : State) (f : Fld) (v : Nat) : (s.put f v).cpa = s.cpa := rfl
@[simp] theorem State.put_cpb (s : State) (f : Fld) (v : Nat) : (s.put f v).cpb = s.cpb := rfl
@[simp] theorem State.put_nvm (s : State) (f : Fld) (v : Nat) : (s.put f v).nvm = s.nvm := rfl
@[simp] theorem State.put_can (s : State) (f : Fld) (v : Nat) : (s.put f v).can = s.can := rfl
@[simp] theorem State.put_conn (s : State) (f : Fld) (v : Nat) : (s.put f v).conn = s.conn := rfl
@[simp] theorem State.put_hst (s : State) (f : Fld) (v : Nat) : (s.put f v).hst = s.hst := rfl
@[simp] theorem State.put_jtag (s : State) (f : Fld) (v : Nat) : (s.put f v).jtag = s.jtag := rfl
@[simp] theorem State.put_pending (s : State) (f : Fld) (v : Nat) : (s.put f v).pending = s.pending := rfl

@[simp] theorem State.putB_full (s : State) (f : Fld) (b : Bool) : (s.putB f b).full = s.full := rfl
@[simp] theorem State.putB_leadStrap (s : State) (f : Fld) (b : Bool) : (s.putB f b).leadStrap = s.leadStrap := rfl
@[simp] theorem State.putB_now (s : State) (f : Fld) (b : Bool) : (s.putB f b).now = s.now := rfl
@[simp] theorem State.putB_tick (s : State) (f : Fld) (b : Bool) : (s.putB f b).tick = s.tick := rfl
@[simp] theorem State.putB_frame (s : State) (f : Fld) (b : Bool) : (s.putB f b).frame = s.frame := rfl
@[simp] theorem State.putB_fstart (s : State) (f : Fld) (b : Bool) : (s.putB f b).fstart = s.fstart := rfl
@[simp] theorem State.putB_mem (s : State) (f : Fld) (b : Bool) : (s.putB f b).mem = s.mem := rfl
@[simp] theorem State.putB_evAt (s : State) (f : Fld) (b : Bool) : (s.putB f b).evAt = s.evAt := rfl
@[simp] theorem State.putB_freeCtr (s : State) (f : Fld) (b : Bool) : (s.putB f b).freeCtr = s.freeCtr := rfl
@[simp] theorem State.putB_power (s : State) (f : Fld) (b : Bool) : (s.putB f b).power = s.power := rfl
@[simp] theorem State.putB_ret (s : State) (f : Fld) (b : Bool) : (s.putB f b).ret = s.ret := rfl
@[simp] theorem State.putB_tmb (s : State) (f : Fld) (b : Bool) : (s.putB f b).tmb = s.tmb := rfl
@[simp] theorem State.putB_bbx (s : State) (f : Fld) (b : Bool) : (s.putB f b).bbx = s.bbx := rfl
@[simp] theorem State.putB_tt (s : State) (f : Fld) (b : Bool) : (s.putB f b).tt = s.tt := rfl
@[simp] theorem State.putB_stg (s : State) (f : Fld) (b : Bool) : (s.putB f b).stg = s.stg := rfl
@[simp] theorem State.putB_cm (s : State) (f : Fld) (b : Bool) : (s.putB f b).cm = s.cm := rfl
@[simp] theorem State.putB_ipk (s : State) (f : Fld) (b : Bool) : (s.putB f b).ipk = s.ipk := rfl
@[simp] theorem State.putB_iso (s : State) (f : Fld) (b : Bool) : (s.putB f b).iso = s.iso := rfl
@[simp] theorem State.putB_bal (s : State) (f : Fld) (b : Bool) : (s.putB f b).bal = s.bal := rfl
@[simp] theorem State.putB_csc (s : State) (f : Fld) (b : Bool) : (s.putB f b).csc = s.csc := rfl
@[simp] theorem State.putB_est (s : State) (f : Fld) (b : Bool) : (s.putB f b).est = s.est := rfl
@[simp] theorem State.putB_eis (s : State) (f : Fld) (b : Bool) : (s.putB f b).eis = s.eis := rfl
@[simp] theorem State.putB_thm (s : State) (f : Fld) (b : Bool) : (s.putB f b).thm = s.thm := rfl
@[simp] theorem State.putB_saf (s : State) (f : Fld) (b : Bool) : (s.putB f b).saf = s.saf := rfl
@[simp] theorem State.putB_cts (s : State) (f : Fld) (b : Bool) : (s.putB f b).cts = s.cts := rfl
@[simp] theorem State.putB_out (s : State) (f : Fld) (b : Bool) : (s.putB f b).out = s.out := rfl
@[simp] theorem State.putB_lhm (s : State) (f : Fld) (b : Bool) : (s.putB f b).lhm = s.lhm := rfl
@[simp] theorem State.putB_pmp (s : State) (f : Fld) (b : Bool) : (s.putB f b).pmp = s.pmp := rfl
@[simp] theorem State.putB_cpa (s : State) (f : Fld) (b : Bool) : (s.putB f b).cpa = s.cpa := rfl
@[simp] theorem State.putB_cpb (s : State) (f : Fld) (b : Bool) : (s.putB f b).cpb = s.cpb := rfl
@[simp] theorem State.putB_nvm (s : State) (f : Fld) (b : Bool) : (s.putB f b).nvm = s.nvm := rfl
@[simp] theorem State.putB_can (s : State) (f : Fld) (b : Bool) : (s.putB f b).can = s.can := rfl
@[simp] theorem State.putB_conn (s : State) (f : Fld) (b : Bool) : (s.putB f b).conn = s.conn := rfl
@[simp] theorem State.putB_hst (s : State) (f : Fld) (b : Bool) : (s.putB f b).hst = s.hst := rfl
@[simp] theorem State.putB_jtag (s : State) (f : Fld) (b : Bool) : (s.putB f b).jtag = s.jtag := rfl
@[simp] theorem State.putB_pending (s : State) (f : Fld) (b : Bool) : (s.putB f b).pending = s.pending := rfl

@[simp] theorem State.putI_full (s : State) (f : Fld) (v : Int) : (s.putI f v).full = s.full := rfl
@[simp] theorem State.putI_leadStrap (s : State) (f : Fld) (v : Int) : (s.putI f v).leadStrap = s.leadStrap := rfl
@[simp] theorem State.putI_now (s : State) (f : Fld) (v : Int) : (s.putI f v).now = s.now := rfl
@[simp] theorem State.putI_tick (s : State) (f : Fld) (v : Int) : (s.putI f v).tick = s.tick := rfl
@[simp] theorem State.putI_frame (s : State) (f : Fld) (v : Int) : (s.putI f v).frame = s.frame := rfl
@[simp] theorem State.putI_fstart (s : State) (f : Fld) (v : Int) : (s.putI f v).fstart = s.fstart := rfl
@[simp] theorem State.putI_mem (s : State) (f : Fld) (v : Int) : (s.putI f v).mem = s.mem := rfl
@[simp] theorem State.putI_evAt (s : State) (f : Fld) (v : Int) : (s.putI f v).evAt = s.evAt := rfl
@[simp] theorem State.putI_freeCtr (s : State) (f : Fld) (v : Int) : (s.putI f v).freeCtr = s.freeCtr := rfl
@[simp] theorem State.putI_power (s : State) (f : Fld) (v : Int) : (s.putI f v).power = s.power := rfl
@[simp] theorem State.putI_ret (s : State) (f : Fld) (v : Int) : (s.putI f v).ret = s.ret := rfl
@[simp] theorem State.putI_tmb (s : State) (f : Fld) (v : Int) : (s.putI f v).tmb = s.tmb := rfl
@[simp] theorem State.putI_bbx (s : State) (f : Fld) (v : Int) : (s.putI f v).bbx = s.bbx := rfl
@[simp] theorem State.putI_tt (s : State) (f : Fld) (v : Int) : (s.putI f v).tt = s.tt := rfl
@[simp] theorem State.putI_stg (s : State) (f : Fld) (v : Int) : (s.putI f v).stg = s.stg := rfl
@[simp] theorem State.putI_cm (s : State) (f : Fld) (v : Int) : (s.putI f v).cm = s.cm := rfl
@[simp] theorem State.putI_ipk (s : State) (f : Fld) (v : Int) : (s.putI f v).ipk = s.ipk := rfl
@[simp] theorem State.putI_iso (s : State) (f : Fld) (v : Int) : (s.putI f v).iso = s.iso := rfl
@[simp] theorem State.putI_bal (s : State) (f : Fld) (v : Int) : (s.putI f v).bal = s.bal := rfl
@[simp] theorem State.putI_csc (s : State) (f : Fld) (v : Int) : (s.putI f v).csc = s.csc := rfl
@[simp] theorem State.putI_est (s : State) (f : Fld) (v : Int) : (s.putI f v).est = s.est := rfl
@[simp] theorem State.putI_eis (s : State) (f : Fld) (v : Int) : (s.putI f v).eis = s.eis := rfl
@[simp] theorem State.putI_thm (s : State) (f : Fld) (v : Int) : (s.putI f v).thm = s.thm := rfl
@[simp] theorem State.putI_saf (s : State) (f : Fld) (v : Int) : (s.putI f v).saf = s.saf := rfl
@[simp] theorem State.putI_cts (s : State) (f : Fld) (v : Int) : (s.putI f v).cts = s.cts := rfl
@[simp] theorem State.putI_out (s : State) (f : Fld) (v : Int) : (s.putI f v).out = s.out := rfl
@[simp] theorem State.putI_lhm (s : State) (f : Fld) (v : Int) : (s.putI f v).lhm = s.lhm := rfl
@[simp] theorem State.putI_pmp (s : State) (f : Fld) (v : Int) : (s.putI f v).pmp = s.pmp := rfl
@[simp] theorem State.putI_cpa (s : State) (f : Fld) (v : Int) : (s.putI f v).cpa = s.cpa := rfl
@[simp] theorem State.putI_cpb (s : State) (f : Fld) (v : Int) : (s.putI f v).cpb = s.cpb := rfl
@[simp] theorem State.putI_nvm (s : State) (f : Fld) (v : Int) : (s.putI f v).nvm = s.nvm := rfl
@[simp] theorem State.putI_can (s : State) (f : Fld) (v : Int) : (s.putI f v).can = s.can := rfl
@[simp] theorem State.putI_conn (s : State) (f : Fld) (v : Int) : (s.putI f v).conn = s.conn := rfl
@[simp] theorem State.putI_hst (s : State) (f : Fld) (v : Int) : (s.putI f v).hst = s.hst := rfl
@[simp] theorem State.putI_jtag (s : State) (f : Fld) (v : Int) : (s.putI f v).jtag = s.jtag := rfl
@[simp] theorem State.putI_pending (s : State) (f : Fld) (v : Int) : (s.putI f v).pending = s.pending := rfl

@[simp] theorem State.putSat_full (s : State) (f : Fld) (v : Nat) : (s.putSat f v).full = s.full := rfl
@[simp] theorem State.putSat_leadStrap (s : State) (f : Fld) (v : Nat) : (s.putSat f v).leadStrap = s.leadStrap := rfl
@[simp] theorem State.putSat_now (s : State) (f : Fld) (v : Nat) : (s.putSat f v).now = s.now := rfl
@[simp] theorem State.putSat_tick (s : State) (f : Fld) (v : Nat) : (s.putSat f v).tick = s.tick := rfl
@[simp] theorem State.putSat_frame (s : State) (f : Fld) (v : Nat) : (s.putSat f v).frame = s.frame := rfl
@[simp] theorem State.putSat_fstart (s : State) (f : Fld) (v : Nat) : (s.putSat f v).fstart = s.fstart := rfl
@[simp] theorem State.putSat_mem (s : State) (f : Fld) (v : Nat) : (s.putSat f v).mem = s.mem := rfl
@[simp] theorem State.putSat_evAt (s : State) (f : Fld) (v : Nat) : (s.putSat f v).evAt = s.evAt := rfl
@[simp] theorem State.putSat_freeCtr (s : State) (f : Fld) (v : Nat) : (s.putSat f v).freeCtr = s.freeCtr := rfl
@[simp] theorem State.putSat_power (s : State) (f : Fld) (v : Nat) : (s.putSat f v).power = s.power := rfl
@[simp] theorem State.putSat_ret (s : State) (f : Fld) (v : Nat) : (s.putSat f v).ret = s.ret := rfl
@[simp] theorem State.putSat_tmb (s : State) (f : Fld) (v : Nat) : (s.putSat f v).tmb = s.tmb := rfl
@[simp] theorem State.putSat_bbx (s : State) (f : Fld) (v : Nat) : (s.putSat f v).bbx = s.bbx := rfl
@[simp] theorem State.putSat_tt (s : State) (f : Fld) (v : Nat) : (s.putSat f v).tt = s.tt := rfl
@[simp] theorem State.putSat_stg (s : State) (f : Fld) (v : Nat) : (s.putSat f v).stg = s.stg := rfl
@[simp] theorem State.putSat_cm (s : State) (f : Fld) (v : Nat) : (s.putSat f v).cm = s.cm := rfl
@[simp] theorem State.putSat_ipk (s : State) (f : Fld) (v : Nat) : (s.putSat f v).ipk = s.ipk := rfl
@[simp] theorem State.putSat_iso (s : State) (f : Fld) (v : Nat) : (s.putSat f v).iso = s.iso := rfl
@[simp] theorem State.putSat_bal (s : State) (f : Fld) (v : Nat) : (s.putSat f v).bal = s.bal := rfl
@[simp] theorem State.putSat_csc (s : State) (f : Fld) (v : Nat) : (s.putSat f v).csc = s.csc := rfl
@[simp] theorem State.putSat_est (s : State) (f : Fld) (v : Nat) : (s.putSat f v).est = s.est := rfl
@[simp] theorem State.putSat_eis (s : State) (f : Fld) (v : Nat) : (s.putSat f v).eis = s.eis := rfl
@[simp] theorem State.putSat_thm (s : State) (f : Fld) (v : Nat) : (s.putSat f v).thm = s.thm := rfl
@[simp] theorem State.putSat_saf (s : State) (f : Fld) (v : Nat) : (s.putSat f v).saf = s.saf := rfl
@[simp] theorem State.putSat_cts (s : State) (f : Fld) (v : Nat) : (s.putSat f v).cts = s.cts := rfl
@[simp] theorem State.putSat_out (s : State) (f : Fld) (v : Nat) : (s.putSat f v).out = s.out := rfl
@[simp] theorem State.putSat_lhm (s : State) (f : Fld) (v : Nat) : (s.putSat f v).lhm = s.lhm := rfl
@[simp] theorem State.putSat_pmp (s : State) (f : Fld) (v : Nat) : (s.putSat f v).pmp = s.pmp := rfl
@[simp] theorem State.putSat_cpa (s : State) (f : Fld) (v : Nat) : (s.putSat f v).cpa = s.cpa := rfl
@[simp] theorem State.putSat_cpb (s : State) (f : Fld) (v : Nat) : (s.putSat f v).cpb = s.cpb := rfl
@[simp] theorem State.putSat_nvm (s : State) (f : Fld) (v : Nat) : (s.putSat f v).nvm = s.nvm := rfl
@[simp] theorem State.putSat_can (s : State) (f : Fld) (v : Nat) : (s.putSat f v).can = s.can := rfl
@[simp] theorem State.putSat_conn (s : State) (f : Fld) (v : Nat) : (s.putSat f v).conn = s.conn := rfl
@[simp] theorem State.putSat_hst (s : State) (f : Fld) (v : Nat) : (s.putSat f v).hst = s.hst := rfl
@[simp] theorem State.putSat_jtag (s : State) (f : Fld) (v : Nat) : (s.putSat f v).jtag = s.jtag := rfl
@[simp] theorem State.putSat_pending (s : State) (f : Fld) (v : Nat) : (s.putSat f v).pending = s.pending := rfl

@[simp] theorem State.putSatI_full (s : State) (f : Fld) (v : Int) : (s.putSatI f v).full = s.full := rfl
@[simp] theorem State.putSatI_leadStrap (s : State) (f : Fld) (v : Int) : (s.putSatI f v).leadStrap = s.leadStrap := rfl
@[simp] theorem State.putSatI_now (s : State) (f : Fld) (v : Int) : (s.putSatI f v).now = s.now := rfl
@[simp] theorem State.putSatI_tick (s : State) (f : Fld) (v : Int) : (s.putSatI f v).tick = s.tick := rfl
@[simp] theorem State.putSatI_frame (s : State) (f : Fld) (v : Int) : (s.putSatI f v).frame = s.frame := rfl
@[simp] theorem State.putSatI_fstart (s : State) (f : Fld) (v : Int) : (s.putSatI f v).fstart = s.fstart := rfl
@[simp] theorem State.putSatI_mem (s : State) (f : Fld) (v : Int) : (s.putSatI f v).mem = s.mem := rfl
@[simp] theorem State.putSatI_evAt (s : State) (f : Fld) (v : Int) : (s.putSatI f v).evAt = s.evAt := rfl
@[simp] theorem State.putSatI_freeCtr (s : State) (f : Fld) (v : Int) : (s.putSatI f v).freeCtr = s.freeCtr := rfl
@[simp] theorem State.putSatI_power (s : State) (f : Fld) (v : Int) : (s.putSatI f v).power = s.power := rfl
@[simp] theorem State.putSatI_ret (s : State) (f : Fld) (v : Int) : (s.putSatI f v).ret = s.ret := rfl
@[simp] theorem State.putSatI_tmb (s : State) (f : Fld) (v : Int) : (s.putSatI f v).tmb = s.tmb := rfl
@[simp] theorem State.putSatI_bbx (s : State) (f : Fld) (v : Int) : (s.putSatI f v).bbx = s.bbx := rfl
@[simp] theorem State.putSatI_tt (s : State) (f : Fld) (v : Int) : (s.putSatI f v).tt = s.tt := rfl
@[simp] theorem State.putSatI_stg (s : State) (f : Fld) (v : Int) : (s.putSatI f v).stg = s.stg := rfl
@[simp] theorem State.putSatI_cm (s : State) (f : Fld) (v : Int) : (s.putSatI f v).cm = s.cm := rfl
@[simp] theorem State.putSatI_ipk (s : State) (f : Fld) (v : Int) : (s.putSatI f v).ipk = s.ipk := rfl
@[simp] theorem State.putSatI_iso (s : State) (f : Fld) (v : Int) : (s.putSatI f v).iso = s.iso := rfl
@[simp] theorem State.putSatI_bal (s : State) (f : Fld) (v : Int) : (s.putSatI f v).bal = s.bal := rfl
@[simp] theorem State.putSatI_csc (s : State) (f : Fld) (v : Int) : (s.putSatI f v).csc = s.csc := rfl
@[simp] theorem State.putSatI_est (s : State) (f : Fld) (v : Int) : (s.putSatI f v).est = s.est := rfl
@[simp] theorem State.putSatI_eis (s : State) (f : Fld) (v : Int) : (s.putSatI f v).eis = s.eis := rfl
@[simp] theorem State.putSatI_thm (s : State) (f : Fld) (v : Int) : (s.putSatI f v).thm = s.thm := rfl
@[simp] theorem State.putSatI_saf (s : State) (f : Fld) (v : Int) : (s.putSatI f v).saf = s.saf := rfl
@[simp] theorem State.putSatI_cts (s : State) (f : Fld) (v : Int) : (s.putSatI f v).cts = s.cts := rfl
@[simp] theorem State.putSatI_out (s : State) (f : Fld) (v : Int) : (s.putSatI f v).out = s.out := rfl
@[simp] theorem State.putSatI_lhm (s : State) (f : Fld) (v : Int) : (s.putSatI f v).lhm = s.lhm := rfl
@[simp] theorem State.putSatI_pmp (s : State) (f : Fld) (v : Int) : (s.putSatI f v).pmp = s.pmp := rfl
@[simp] theorem State.putSatI_cpa (s : State) (f : Fld) (v : Int) : (s.putSatI f v).cpa = s.cpa := rfl
@[simp] theorem State.putSatI_cpb (s : State) (f : Fld) (v : Int) : (s.putSatI f v).cpb = s.cpb := rfl
@[simp] theorem State.putSatI_nvm (s : State) (f : Fld) (v : Int) : (s.putSatI f v).nvm = s.nvm := rfl
@[simp] theorem State.putSatI_can (s : State) (f : Fld) (v : Int) : (s.putSatI f v).can = s.can := rfl
@[simp] theorem State.putSatI_conn (s : State) (f : Fld) (v : Int) : (s.putSatI f v).conn = s.conn := rfl
@[simp] theorem State.putSatI_hst (s : State) (f : Fld) (v : Int) : (s.putSatI f v).hst = s.hst := rfl
@[simp] theorem State.putSatI_jtag (s : State) (f : Fld) (v : Int) : (s.putSatI f v).jtag = s.jtag := rfl
@[simp] theorem State.putSatI_pending (s : State) (f : Fld) (v : Int) : (s.putSatI f v).pending = s.pending := rfl

@[simp] theorem State.putBit_full (s : State) (f : Fld) (i : Nat) (b : Bool) : (s.putBit f i b).full = s.full := rfl
@[simp] theorem State.putBit_leadStrap (s : State) (f : Fld) (i : Nat) (b : Bool) : (s.putBit f i b).leadStrap = s.leadStrap := rfl
@[simp] theorem State.putBit_now (s : State) (f : Fld) (i : Nat) (b : Bool) : (s.putBit f i b).now = s.now := rfl
@[simp] theorem State.putBit_tick (s : State) (f : Fld) (i : Nat) (b : Bool) : (s.putBit f i b).tick = s.tick := rfl
@[simp] theorem State.putBit_frame (s : State) (f : Fld) (i : Nat) (b : Bool) : (s.putBit f i b).frame = s.frame := rfl
@[simp] theorem State.putBit_fstart (s : State) (f : Fld) (i : Nat) (b : Bool) : (s.putBit f i b).fstart = s.fstart := rfl
@[simp] theorem State.putBit_mem (s : State) (f : Fld) (i : Nat) (b : Bool) : (s.putBit f i b).mem = s.mem := rfl
@[simp] theorem State.putBit_evAt (s : State) (f : Fld) (i : Nat) (b : Bool) : (s.putBit f i b).evAt = s.evAt := rfl
@[simp] theorem State.putBit_freeCtr (s : State) (f : Fld) (i : Nat) (b : Bool) : (s.putBit f i b).freeCtr = s.freeCtr := rfl
@[simp] theorem State.putBit_power (s : State) (f : Fld) (i : Nat) (b : Bool) : (s.putBit f i b).power = s.power := rfl
@[simp] theorem State.putBit_ret (s : State) (f : Fld) (i : Nat) (b : Bool) : (s.putBit f i b).ret = s.ret := rfl
@[simp] theorem State.putBit_tmb (s : State) (f : Fld) (i : Nat) (b : Bool) : (s.putBit f i b).tmb = s.tmb := rfl
@[simp] theorem State.putBit_bbx (s : State) (f : Fld) (i : Nat) (b : Bool) : (s.putBit f i b).bbx = s.bbx := rfl
@[simp] theorem State.putBit_tt (s : State) (f : Fld) (i : Nat) (b : Bool) : (s.putBit f i b).tt = s.tt := rfl
@[simp] theorem State.putBit_stg (s : State) (f : Fld) (i : Nat) (b : Bool) : (s.putBit f i b).stg = s.stg := rfl
@[simp] theorem State.putBit_cm (s : State) (f : Fld) (i : Nat) (b : Bool) : (s.putBit f i b).cm = s.cm := rfl
@[simp] theorem State.putBit_ipk (s : State) (f : Fld) (i : Nat) (b : Bool) : (s.putBit f i b).ipk = s.ipk := rfl
@[simp] theorem State.putBit_iso (s : State) (f : Fld) (i : Nat) (b : Bool) : (s.putBit f i b).iso = s.iso := rfl
@[simp] theorem State.putBit_bal (s : State) (f : Fld) (i : Nat) (b : Bool) : (s.putBit f i b).bal = s.bal := rfl
@[simp] theorem State.putBit_csc (s : State) (f : Fld) (i : Nat) (b : Bool) : (s.putBit f i b).csc = s.csc := rfl
@[simp] theorem State.putBit_est (s : State) (f : Fld) (i : Nat) (b : Bool) : (s.putBit f i b).est = s.est := rfl
@[simp] theorem State.putBit_eis (s : State) (f : Fld) (i : Nat) (b : Bool) : (s.putBit f i b).eis = s.eis := rfl
@[simp] theorem State.putBit_thm (s : State) (f : Fld) (i : Nat) (b : Bool) : (s.putBit f i b).thm = s.thm := rfl
@[simp] theorem State.putBit_saf (s : State) (f : Fld) (i : Nat) (b : Bool) : (s.putBit f i b).saf = s.saf := rfl
@[simp] theorem State.putBit_cts (s : State) (f : Fld) (i : Nat) (b : Bool) : (s.putBit f i b).cts = s.cts := rfl
@[simp] theorem State.putBit_out (s : State) (f : Fld) (i : Nat) (b : Bool) : (s.putBit f i b).out = s.out := rfl
@[simp] theorem State.putBit_lhm (s : State) (f : Fld) (i : Nat) (b : Bool) : (s.putBit f i b).lhm = s.lhm := rfl
@[simp] theorem State.putBit_pmp (s : State) (f : Fld) (i : Nat) (b : Bool) : (s.putBit f i b).pmp = s.pmp := rfl
@[simp] theorem State.putBit_cpa (s : State) (f : Fld) (i : Nat) (b : Bool) : (s.putBit f i b).cpa = s.cpa := rfl
@[simp] theorem State.putBit_cpb (s : State) (f : Fld) (i : Nat) (b : Bool) : (s.putBit f i b).cpb = s.cpb := rfl
@[simp] theorem State.putBit_nvm (s : State) (f : Fld) (i : Nat) (b : Bool) : (s.putBit f i b).nvm = s.nvm := rfl
@[simp] theorem State.putBit_can (s : State) (f : Fld) (i : Nat) (b : Bool) : (s.putBit f i b).can = s.can := rfl
@[simp] theorem State.putBit_conn (s : State) (f : Fld) (i : Nat) (b : Bool) : (s.putBit f i b).conn = s.conn := rfl
@[simp] theorem State.putBit_hst (s : State) (f : Fld) (i : Nat) (b : Bool) : (s.putBit f i b).hst = s.hst := rfl
@[simp] theorem State.putBit_jtag (s : State) (f : Fld) (i : Nat) (b : Bool) : (s.putBit f i b).jtag = s.jtag := rfl
@[simp] theorem State.putBit_pending (s : State) (f : Fld) (i : Nat) (b : Bool) : (s.putBit f i b).pending = s.pending := rfl

@[simp] theorem State.inc_full (s : State) (f : Fld) : (s.inc f).full = s.full := rfl
@[simp] theorem State.inc_leadStrap (s : State) (f : Fld) : (s.inc f).leadStrap = s.leadStrap := rfl
@[simp] theorem State.inc_now (s : State) (f : Fld) : (s.inc f).now = s.now := rfl
@[simp] theorem State.inc_tick (s : State) (f : Fld) : (s.inc f).tick = s.tick := rfl
@[simp] theorem State.inc_frame (s : State) (f : Fld) : (s.inc f).frame = s.frame := rfl
@[simp] theorem State.inc_fstart (s : State) (f : Fld) : (s.inc f).fstart = s.fstart := rfl
@[simp] theorem State.inc_mem (s : State) (f : Fld) : (s.inc f).mem = s.mem := rfl
@[simp] theorem State.inc_evAt (s : State) (f : Fld) : (s.inc f).evAt = s.evAt := rfl
@[simp] theorem State.inc_freeCtr (s : State) (f : Fld) : (s.inc f).freeCtr = s.freeCtr := rfl
@[simp] theorem State.inc_power (s : State) (f : Fld) : (s.inc f).power = s.power := rfl
@[simp] theorem State.inc_ret (s : State) (f : Fld) : (s.inc f).ret = s.ret := rfl
@[simp] theorem State.inc_tmb (s : State) (f : Fld) : (s.inc f).tmb = s.tmb := rfl
@[simp] theorem State.inc_bbx (s : State) (f : Fld) : (s.inc f).bbx = s.bbx := rfl
@[simp] theorem State.inc_tt (s : State) (f : Fld) : (s.inc f).tt = s.tt := rfl
@[simp] theorem State.inc_stg (s : State) (f : Fld) : (s.inc f).stg = s.stg := rfl
@[simp] theorem State.inc_cm (s : State) (f : Fld) : (s.inc f).cm = s.cm := rfl
@[simp] theorem State.inc_ipk (s : State) (f : Fld) : (s.inc f).ipk = s.ipk := rfl
@[simp] theorem State.inc_iso (s : State) (f : Fld) : (s.inc f).iso = s.iso := rfl
@[simp] theorem State.inc_bal (s : State) (f : Fld) : (s.inc f).bal = s.bal := rfl
@[simp] theorem State.inc_csc (s : State) (f : Fld) : (s.inc f).csc = s.csc := rfl
@[simp] theorem State.inc_est (s : State) (f : Fld) : (s.inc f).est = s.est := rfl
@[simp] theorem State.inc_eis (s : State) (f : Fld) : (s.inc f).eis = s.eis := rfl
@[simp] theorem State.inc_thm (s : State) (f : Fld) : (s.inc f).thm = s.thm := rfl
@[simp] theorem State.inc_saf (s : State) (f : Fld) : (s.inc f).saf = s.saf := rfl
@[simp] theorem State.inc_cts (s : State) (f : Fld) : (s.inc f).cts = s.cts := rfl
@[simp] theorem State.inc_out (s : State) (f : Fld) : (s.inc f).out = s.out := rfl
@[simp] theorem State.inc_lhm (s : State) (f : Fld) : (s.inc f).lhm = s.lhm := rfl
@[simp] theorem State.inc_pmp (s : State) (f : Fld) : (s.inc f).pmp = s.pmp := rfl
@[simp] theorem State.inc_cpa (s : State) (f : Fld) : (s.inc f).cpa = s.cpa := rfl
@[simp] theorem State.inc_cpb (s : State) (f : Fld) : (s.inc f).cpb = s.cpb := rfl
@[simp] theorem State.inc_nvm (s : State) (f : Fld) : (s.inc f).nvm = s.nvm := rfl
@[simp] theorem State.inc_can (s : State) (f : Fld) : (s.inc f).can = s.can := rfl
@[simp] theorem State.inc_conn (s : State) (f : Fld) : (s.inc f).conn = s.conn := rfl
@[simp] theorem State.inc_hst (s : State) (f : Fld) : (s.inc f).hst = s.hst := rfl
@[simp] theorem State.inc_jtag (s : State) (f : Fld) : (s.inc f).jtag = s.jtag := rfl
@[simp] theorem State.inc_pending (s : State) (f : Fld) : (s.inc f).pending = s.pending := rfl

@[simp] theorem State.incSat_full (s : State) (f : Fld) : (s.incSat f).full = s.full := rfl
@[simp] theorem State.incSat_leadStrap (s : State) (f : Fld) : (s.incSat f).leadStrap = s.leadStrap := rfl
@[simp] theorem State.incSat_now (s : State) (f : Fld) : (s.incSat f).now = s.now := rfl
@[simp] theorem State.incSat_tick (s : State) (f : Fld) : (s.incSat f).tick = s.tick := rfl
@[simp] theorem State.incSat_frame (s : State) (f : Fld) : (s.incSat f).frame = s.frame := rfl
@[simp] theorem State.incSat_fstart (s : State) (f : Fld) : (s.incSat f).fstart = s.fstart := rfl
@[simp] theorem State.incSat_mem (s : State) (f : Fld) : (s.incSat f).mem = s.mem := rfl
@[simp] theorem State.incSat_evAt (s : State) (f : Fld) : (s.incSat f).evAt = s.evAt := rfl
@[simp] theorem State.incSat_freeCtr (s : State) (f : Fld) : (s.incSat f).freeCtr = s.freeCtr := rfl
@[simp] theorem State.incSat_power (s : State) (f : Fld) : (s.incSat f).power = s.power := rfl
@[simp] theorem State.incSat_ret (s : State) (f : Fld) : (s.incSat f).ret = s.ret := rfl
@[simp] theorem State.incSat_tmb (s : State) (f : Fld) : (s.incSat f).tmb = s.tmb := rfl
@[simp] theorem State.incSat_bbx (s : State) (f : Fld) : (s.incSat f).bbx = s.bbx := rfl
@[simp] theorem State.incSat_tt (s : State) (f : Fld) : (s.incSat f).tt = s.tt := rfl
@[simp] theorem State.incSat_stg (s : State) (f : Fld) : (s.incSat f).stg = s.stg := rfl
@[simp] theorem State.incSat_cm (s : State) (f : Fld) : (s.incSat f).cm = s.cm := rfl
@[simp] theorem State.incSat_ipk (s : State) (f : Fld) : (s.incSat f).ipk = s.ipk := rfl
@[simp] theorem State.incSat_iso (s : State) (f : Fld) : (s.incSat f).iso = s.iso := rfl
@[simp] theorem State.incSat_bal (s : State) (f : Fld) : (s.incSat f).bal = s.bal := rfl
@[simp] theorem State.incSat_csc (s : State) (f : Fld) : (s.incSat f).csc = s.csc := rfl
@[simp] theorem State.incSat_est (s : State) (f : Fld) : (s.incSat f).est = s.est := rfl
@[simp] theorem State.incSat_eis (s : State) (f : Fld) : (s.incSat f).eis = s.eis := rfl
@[simp] theorem State.incSat_thm (s : State) (f : Fld) : (s.incSat f).thm = s.thm := rfl
@[simp] theorem State.incSat_saf (s : State) (f : Fld) : (s.incSat f).saf = s.saf := rfl
@[simp] theorem State.incSat_cts (s : State) (f : Fld) : (s.incSat f).cts = s.cts := rfl
@[simp] theorem State.incSat_out (s : State) (f : Fld) : (s.incSat f).out = s.out := rfl
@[simp] theorem State.incSat_lhm (s : State) (f : Fld) : (s.incSat f).lhm = s.lhm := rfl
@[simp] theorem State.incSat_pmp (s : State) (f : Fld) : (s.incSat f).pmp = s.pmp := rfl
@[simp] theorem State.incSat_cpa (s : State) (f : Fld) : (s.incSat f).cpa = s.cpa := rfl
@[simp] theorem State.incSat_cpb (s : State) (f : Fld) : (s.incSat f).cpb = s.cpb := rfl
@[simp] theorem State.incSat_nvm (s : State) (f : Fld) : (s.incSat f).nvm = s.nvm := rfl
@[simp] theorem State.incSat_can (s : State) (f : Fld) : (s.incSat f).can = s.can := rfl
@[simp] theorem State.incSat_conn (s : State) (f : Fld) : (s.incSat f).conn = s.conn := rfl
@[simp] theorem State.incSat_hst (s : State) (f : Fld) : (s.incSat f).hst = s.hst := rfl
@[simp] theorem State.incSat_jtag (s : State) (f : Fld) : (s.incSat f).jtag = s.jtag := rfl
@[simp] theorem State.incSat_pending (s : State) (f : Fld) : (s.incSat f).pending = s.pending := rfl

@[simp] theorem State.setByte_full (s : State) (a : Nat) (b : Byte) : (s.setByte a b).full = s.full := rfl
@[simp] theorem State.setByte_leadStrap (s : State) (a : Nat) (b : Byte) : (s.setByte a b).leadStrap = s.leadStrap := rfl
@[simp] theorem State.setByte_now (s : State) (a : Nat) (b : Byte) : (s.setByte a b).now = s.now := rfl
@[simp] theorem State.setByte_tick (s : State) (a : Nat) (b : Byte) : (s.setByte a b).tick = s.tick := rfl
@[simp] theorem State.setByte_frame (s : State) (a : Nat) (b : Byte) : (s.setByte a b).frame = s.frame := rfl
@[simp] theorem State.setByte_fstart (s : State) (a : Nat) (b : Byte) : (s.setByte a b).fstart = s.fstart := rfl
@[simp] theorem State.setByte_regs (s : State) (a : Nat) (b : Byte) : (s.setByte a b).regs = s.regs := rfl
@[simp] theorem State.setByte_evAt (s : State) (a : Nat) (b : Byte) : (s.setByte a b).evAt = s.evAt := rfl
@[simp] theorem State.setByte_freeCtr (s : State) (a : Nat) (b : Byte) : (s.setByte a b).freeCtr = s.freeCtr := rfl
@[simp] theorem State.setByte_power (s : State) (a : Nat) (b : Byte) : (s.setByte a b).power = s.power := rfl
@[simp] theorem State.setByte_ret (s : State) (a : Nat) (b : Byte) : (s.setByte a b).ret = s.ret := rfl
@[simp] theorem State.setByte_tmb (s : State) (a : Nat) (b : Byte) : (s.setByte a b).tmb = s.tmb := rfl
@[simp] theorem State.setByte_bbx (s : State) (a : Nat) (b : Byte) : (s.setByte a b).bbx = s.bbx := rfl
@[simp] theorem State.setByte_tt (s : State) (a : Nat) (b : Byte) : (s.setByte a b).tt = s.tt := rfl
@[simp] theorem State.setByte_stg (s : State) (a : Nat) (b : Byte) : (s.setByte a b).stg = s.stg := rfl
@[simp] theorem State.setByte_cm (s : State) (a : Nat) (b : Byte) : (s.setByte a b).cm = s.cm := rfl
@[simp] theorem State.setByte_ipk (s : State) (a : Nat) (b : Byte) : (s.setByte a b).ipk = s.ipk := rfl
@[simp] theorem State.setByte_iso (s : State) (a : Nat) (b : Byte) : (s.setByte a b).iso = s.iso := rfl
@[simp] theorem State.setByte_bal (s : State) (a : Nat) (b : Byte) : (s.setByte a b).bal = s.bal := rfl
@[simp] theorem State.setByte_csc (s : State) (a : Nat) (b : Byte) : (s.setByte a b).csc = s.csc := rfl
@[simp] theorem State.setByte_est (s : State) (a : Nat) (b : Byte) : (s.setByte a b).est = s.est := rfl
@[simp] theorem State.setByte_eis (s : State) (a : Nat) (b : Byte) : (s.setByte a b).eis = s.eis := rfl
@[simp] theorem State.setByte_thm (s : State) (a : Nat) (b : Byte) : (s.setByte a b).thm = s.thm := rfl
@[simp] theorem State.setByte_saf (s : State) (a : Nat) (b : Byte) : (s.setByte a b).saf = s.saf := rfl
@[simp] theorem State.setByte_cts (s : State) (a : Nat) (b : Byte) : (s.setByte a b).cts = s.cts := rfl
@[simp] theorem State.setByte_out (s : State) (a : Nat) (b : Byte) : (s.setByte a b).out = s.out := rfl
@[simp] theorem State.setByte_lhm (s : State) (a : Nat) (b : Byte) : (s.setByte a b).lhm = s.lhm := rfl
@[simp] theorem State.setByte_pmp (s : State) (a : Nat) (b : Byte) : (s.setByte a b).pmp = s.pmp := rfl
@[simp] theorem State.setByte_cpa (s : State) (a : Nat) (b : Byte) : (s.setByte a b).cpa = s.cpa := rfl
@[simp] theorem State.setByte_cpb (s : State) (a : Nat) (b : Byte) : (s.setByte a b).cpb = s.cpb := rfl
@[simp] theorem State.setByte_nvm (s : State) (a : Nat) (b : Byte) : (s.setByte a b).nvm = s.nvm := rfl
@[simp] theorem State.setByte_can (s : State) (a : Nat) (b : Byte) : (s.setByte a b).can = s.can := rfl
@[simp] theorem State.setByte_conn (s : State) (a : Nat) (b : Byte) : (s.setByte a b).conn = s.conn := rfl
@[simp] theorem State.setByte_hst (s : State) (a : Nat) (b : Byte) : (s.setByte a b).hst = s.hst := rfl
@[simp] theorem State.setByte_jtag (s : State) (a : Nat) (b : Byte) : (s.setByte a b).jtag = s.jtag := rfl
@[simp] theorem State.setByte_pending (s : State) (a : Nat) (b : Byte) : (s.setByte a b).pending = s.pending := rfl

@[simp] theorem State.advanceTo_full (s : State) (u : Nat) : (s.advanceTo u).full = s.full := rfl
@[simp] theorem State.advanceTo_leadStrap (s : State) (u : Nat) : (s.advanceTo u).leadStrap = s.leadStrap := rfl
@[simp] theorem State.advanceTo_frame (s : State) (u : Nat) : (s.advanceTo u).frame = s.frame := rfl
@[simp] theorem State.advanceTo_fstart (s : State) (u : Nat) : (s.advanceTo u).fstart = s.fstart := rfl
@[simp] theorem State.advanceTo_regs (s : State) (u : Nat) : (s.advanceTo u).regs = s.regs := rfl
@[simp] theorem State.advanceTo_mem (s : State) (u : Nat) : (s.advanceTo u).mem = s.mem := rfl
@[simp] theorem State.advanceTo_evAt (s : State) (u : Nat) : (s.advanceTo u).evAt = s.evAt := rfl
@[simp] theorem State.advanceTo_freeCtr (s : State) (u : Nat) : (s.advanceTo u).freeCtr = s.freeCtr := rfl
@[simp] theorem State.advanceTo_power (s : State) (u : Nat) : (s.advanceTo u).power = s.power := rfl
@[simp] theorem State.advanceTo_ret (s : State) (u : Nat) : (s.advanceTo u).ret = s.ret := rfl
@[simp] theorem State.advanceTo_tmb (s : State) (u : Nat) : (s.advanceTo u).tmb = s.tmb := rfl
@[simp] theorem State.advanceTo_bbx (s : State) (u : Nat) : (s.advanceTo u).bbx = s.bbx := rfl
@[simp] theorem State.advanceTo_tt (s : State) (u : Nat) : (s.advanceTo u).tt = s.tt := rfl
@[simp] theorem State.advanceTo_stg (s : State) (u : Nat) : (s.advanceTo u).stg = s.stg := rfl
@[simp] theorem State.advanceTo_cm (s : State) (u : Nat) : (s.advanceTo u).cm = s.cm := rfl
@[simp] theorem State.advanceTo_ipk (s : State) (u : Nat) : (s.advanceTo u).ipk = s.ipk := rfl
@[simp] theorem State.advanceTo_iso (s : State) (u : Nat) : (s.advanceTo u).iso = s.iso := rfl
@[simp] theorem State.advanceTo_bal (s : State) (u : Nat) : (s.advanceTo u).bal = s.bal := rfl
@[simp] theorem State.advanceTo_csc (s : State) (u : Nat) : (s.advanceTo u).csc = s.csc := rfl
@[simp] theorem State.advanceTo_est (s : State) (u : Nat) : (s.advanceTo u).est = s.est := rfl
@[simp] theorem State.advanceTo_eis (s : State) (u : Nat) : (s.advanceTo u).eis = s.eis := rfl
@[simp] theorem State.advanceTo_thm (s : State) (u : Nat) : (s.advanceTo u).thm = s.thm := rfl
@[simp] theorem State.advanceTo_saf (s : State) (u : Nat) : (s.advanceTo u).saf = s.saf := rfl
@[simp] theorem State.advanceTo_cts (s : State) (u : Nat) : (s.advanceTo u).cts = s.cts := rfl
@[simp] theorem State.advanceTo_out (s : State) (u : Nat) : (s.advanceTo u).out = s.out := rfl
@[simp] theorem State.advanceTo_lhm (s : State) (u : Nat) : (s.advanceTo u).lhm = s.lhm := rfl
@[simp] theorem State.advanceTo_pmp (s : State) (u : Nat) : (s.advanceTo u).pmp = s.pmp := rfl
@[simp] theorem State.advanceTo_cpa (s : State) (u : Nat) : (s.advanceTo u).cpa = s.cpa := rfl
@[simp] theorem State.advanceTo_cpb (s : State) (u : Nat) : (s.advanceTo u).cpb = s.cpb := rfl
@[simp] theorem State.advanceTo_nvm (s : State) (u : Nat) : (s.advanceTo u).nvm = s.nvm := rfl
@[simp] theorem State.advanceTo_can (s : State) (u : Nat) : (s.advanceTo u).can = s.can := rfl
@[simp] theorem State.advanceTo_conn (s : State) (u : Nat) : (s.advanceTo u).conn = s.conn := rfl
@[simp] theorem State.advanceTo_hst (s : State) (u : Nat) : (s.advanceTo u).hst = s.hst := rfl
@[simp] theorem State.advanceTo_jtag (s : State) (u : Nat) : (s.advanceTo u).jtag = s.jtag := rfl
@[simp] theorem State.advanceTo_pending (s : State) (u : Nat) : (s.advanceTo u).pending = s.pending := rfl

@[simp] theorem State.nextFree_full (s : State) : (s.nextFree).full = s.full := rfl
@[simp] theorem State.nextFree_leadStrap (s : State) : (s.nextFree).leadStrap = s.leadStrap := rfl
@[simp] theorem State.nextFree_now (s : State) : (s.nextFree).now = s.now := rfl
@[simp] theorem State.nextFree_tick (s : State) : (s.nextFree).tick = s.tick := rfl
@[simp] theorem State.nextFree_frame (s : State) : (s.nextFree).frame = s.frame := rfl
@[simp] theorem State.nextFree_fstart (s : State) : (s.nextFree).fstart = s.fstart := rfl
@[simp] theorem State.nextFree_regs (s : State) : (s.nextFree).regs = s.regs := rfl
@[simp] theorem State.nextFree_mem (s : State) : (s.nextFree).mem = s.mem := rfl
@[simp] theorem State.nextFree_evAt (s : State) : (s.nextFree).evAt = s.evAt := rfl
@[simp] theorem State.nextFree_power (s : State) : (s.nextFree).power = s.power := rfl
@[simp] theorem State.nextFree_ret (s : State) : (s.nextFree).ret = s.ret := rfl
@[simp] theorem State.nextFree_tmb (s : State) : (s.nextFree).tmb = s.tmb := rfl
@[simp] theorem State.nextFree_bbx (s : State) : (s.nextFree).bbx = s.bbx := rfl
@[simp] theorem State.nextFree_tt (s : State) : (s.nextFree).tt = s.tt := rfl
@[simp] theorem State.nextFree_stg (s : State) : (s.nextFree).stg = s.stg := rfl
@[simp] theorem State.nextFree_cm (s : State) : (s.nextFree).cm = s.cm := rfl
@[simp] theorem State.nextFree_ipk (s : State) : (s.nextFree).ipk = s.ipk := rfl
@[simp] theorem State.nextFree_iso (s : State) : (s.nextFree).iso = s.iso := rfl
@[simp] theorem State.nextFree_bal (s : State) : (s.nextFree).bal = s.bal := rfl
@[simp] theorem State.nextFree_csc (s : State) : (s.nextFree).csc = s.csc := rfl
@[simp] theorem State.nextFree_est (s : State) : (s.nextFree).est = s.est := rfl
@[simp] theorem State.nextFree_eis (s : State) : (s.nextFree).eis = s.eis := rfl
@[simp] theorem State.nextFree_thm (s : State) : (s.nextFree).thm = s.thm := rfl
@[simp] theorem State.nextFree_saf (s : State) : (s.nextFree).saf = s.saf := rfl
@[simp] theorem State.nextFree_cts (s : State) : (s.nextFree).cts = s.cts := rfl
@[simp] theorem State.nextFree_out (s : State) : (s.nextFree).out = s.out := rfl
@[simp] theorem State.nextFree_lhm (s : State) : (s.nextFree).lhm = s.lhm := rfl
@[simp] theorem State.nextFree_pmp (s : State) : (s.nextFree).pmp = s.pmp := rfl
@[simp] theorem State.nextFree_cpa (s : State) : (s.nextFree).cpa = s.cpa := rfl
@[simp] theorem State.nextFree_cpb (s : State) : (s.nextFree).cpb = s.cpb := rfl
@[simp] theorem State.nextFree_nvm (s : State) : (s.nextFree).nvm = s.nvm := rfl
@[simp] theorem State.nextFree_can (s : State) : (s.nextFree).can = s.can := rfl
@[simp] theorem State.nextFree_conn (s : State) : (s.nextFree).conn = s.conn := rfl
@[simp] theorem State.nextFree_hst (s : State) : (s.nextFree).hst = s.hst := rfl
@[simp] theorem State.nextFree_jtag (s : State) : (s.nextFree).jtag = s.jtag := rfl
@[simp] theorem State.nextFree_pending (s : State) : (s.nextFree).pending = s.pending := rfl

end Sys2Proof.Machine
end

