-- ==== Sys2Proof/Laws/Fields.lean ====
section
/-!
SUPPORT. Register words and fields: a read after a write of the same field, of another field, and of another word; the
same for bytes of memory; and what the small updates over them do.
-/
namespace Sys2Proof.Machine

/-! ### Fields of a word -/

/-- Bit `i` of a field's mask. -/
theorem Fld.mask_bit (f : Fld) (i : Nat) :
    f.mask.getLsbD i = (decide (i < 32) && decide (f.lo ≤ i) && decide (i < f.lo + f.wid)) := by
  unfold Fld.mask
  simp only [BitVec.getLsbD_shiftLeft, BitVec.getLsbD_ofNat, Nat.testBit_two_pow_sub_one]
  rw [Bool.eq_iff_iff]
  simp only [Bool.and_eq_true, Bool.not_eq_true', decide_eq_true_eq, decide_eq_false_iff_not]
  omega

/-- Two fields share no bit of a word. -/
def Fld.apart (f g : Fld) : Bool :=
  f.addr != g.addr || decide (f.lo + f.wid ≤ g.lo) || decide (g.lo + g.wid ≤ f.lo)

theorem Fld.extract_insert_apart (f g : Fld) (w : Word) (v : Nat)
    (h : f.lo + f.wid ≤ g.lo ∨ g.lo + g.wid ≤ f.lo) : g.extract (f.insert w v) = g.extract w := by
  unfold Fld.extract Fld.insert
  congr 2
  ext i hi
  simp only [BitVec.getElem_and, BitVec.getElem_or, BitVec.getElem_not]
  have hg := g.mask_bit i
  have hf := f.mask_bit i
  rw [BitVec.getLsbD_eq_getElem hi] at hg hf
  rw [hg, hf]
  by_cases h2 : g.lo ≤ i <;> by_cases h3 : i < g.lo + g.wid <;> simp [h2, h3, hi]
  by_cases h4 : f.lo ≤ i <;> by_cases h5 : i < f.lo + f.wid <;> simp [h4, h5]
  omega

theorem Fld.extract_insert_self (f : Fld) (w : Word) (v : Nat) (h : f.lo + f.wid ≤ 32) :
    f.extract (f.insert w v) = v % 2 ^ f.wid := by
  unfold Fld.extract Fld.insert
  have e : (((w &&& ~~~f.mask) ||| ((BitVec.ofNat 32 v <<< f.lo) &&& f.mask)) &&& f.mask) >>> f.lo
      = BitVec.ofNat 32 (v % 2 ^ f.wid) := by
    apply BitVec.eq_of_getLsbD_eq
    intro i hi
    simp only [BitVec.getLsbD_ushiftRight, BitVec.getLsbD_and, BitVec.getLsbD_or, BitVec.getLsbD_not, f.mask_bit,
      BitVec.getLsbD_shiftLeft, BitVec.getLsbD_ofNat, Nat.testBit_mod_two_pow]
    by_cases h3 : i < f.wid
    · have : f.lo + i < 32 := by omega
      simp [h3, this, hi]
    · simp [h3]
  rw [e, BitVec.toNat_ofNat, Nat.mod_eq_of_lt]
  calc v % 2 ^ f.wid < 2 ^ f.wid := Nat.mod_lt _ (by positivity)
    _ ≤ 2 ^ 32 := Nat.pow_le_pow_right (by norm_num) (by omega)

/-- A field's value is below two to its width. -/
theorem Fld.extract_lt (f : Fld) (w : Word) : f.extract w < 2 ^ f.wid := by
  unfold Fld.extract
  apply Nat.lt_pow_two_of_testBit
  intro i hi
  rw [BitVec.testBit_toNat, BitVec.getLsbD_ushiftRight, BitVec.getLsbD_and, f.mask_bit]
  simp; omega

/-! ### Words -/

@[simp] theorem State.word_setWord_self (s : State) (a : Nat) (w : Word) : (s.setWord a w).word a = w := by
  simp [State.word, State.setWord]

theorem State.word_setWord_ne (s : State) (a b : Nat) (w : Word) (h : b ≠ a) : (s.setWord a w).word b = s.word b := by
  simp only [State.word, State.setWord]; exact kget_kset_ne _ _ _ h _ _

theorem State.get_setWord_self (s : State) (f : Fld) (w : Word) : (s.setWord f.addr w).get f = f.extract w := by
  simp [State.get]

theorem State.get_setWord_ne (s : State) (f : Fld) (a : Nat) (w : Word) (h : f.addr ≠ a) :
    (s.setWord a w).get f = s.get f := by
  simp only [State.get, State.word_setWord_ne _ _ _ _ h]

theorem State.word_put_ne (s : State) (f : Fld) (v a : Nat) (h : a ≠ f.addr) : (s.put f v).word a = s.word a :=
  State.word_setWord_ne _ _ _ _ h

/-- A field just written reads what it can hold of the value. -/
theorem State.get_put_self (s : State) (f : Fld) (v : Nat) (h : f.lo + f.wid ≤ 32) :
    (s.put f v).get f = v % 2 ^ f.wid := by
  simp only [State.put, State.get_setWord_self]; exact f.extract_insert_self _ _ h

/-- A write of one field leaves every field that shares no bit with it. -/
theorem State.get_put_apart (s : State) (f g : Fld) (v : Nat) (h : f.apart g = true) :
    (s.put f v).get g = s.get g := by
  by_cases ha : g.addr = f.addr
  · simp only [Fld.apart, Bool.or_eq_true, bne_iff_ne, decide_eq_true_eq] at h
    have hb : f.lo + f.wid ≤ g.lo ∨ g.lo + g.wid ≤ f.lo := by
      rcases h with (h | h) | h
      · exact absurd ha.symm h
      · exact .inl h
      · exact .inr h
    simp only [State.put, State.get, ha, State.word_setWord_self]
    exact Fld.extract_insert_apart f g _ v hb
  · simp only [State.put]; exact State.get_setWord_ne _ _ _ _ ha

theorem State.get_putB_apart (s : State) (f g : Fld) (b : Bool) (h : f.apart g = true) :
    (s.putB f b).get g = s.get g := State.get_put_apart _ _ _ _ h

theorem State.get_putI_apart (s : State) (f g : Fld) (v : Int) (h : f.apart g = true) :
    (s.putI f v).get g = s.get g := State.get_put_apart _ _ _ _ h

theorem State.get_putSat_apart (s : State) (f g : Fld) (v : Nat) (h : f.apart g = true) :
    (s.putSat f v).get g = s.get g := State.get_put_apart _ _ _ _ h

theorem State.get_putSatI_apart (s : State) (f g : Fld) (v : Int) (h : f.apart g = true) :
    (s.putSatI f v).get g = s.get g := State.get_put_apart _ _ _ _ h

theorem State.get_putBit_apart (s : State) (f g : Fld) (i : Nat) (b : Bool) (h : f.apart g = true) :
    (s.putBit f i b).get g = s.get g := State.get_put_apart _ _ _ _ h

theorem State.get_inc_apart (s : State) (f g : Fld) (h : f.apart g = true) : (s.inc f).get g = s.get g :=
  State.get_put_apart _ _ _ _ h

theorem State.get_incSat_apart (s : State) (f g : Fld) (h : f.apart g = true) : (s.incSat f).get g = s.get g :=
  State.get_put_apart _ _ _ _ h

/-- A truth value written to a field reads back. -/
theorem State.flag_putB_self (s : State) (f : Fld) (b : Bool) (h : f.lo + f.wid ≤ 32) (hw : 0 < f.wid) :
    (s.putB f b).flag f = b := by
  simp only [State.flag, State.putB, State.get_put_self _ _ _ h]
  have : 2 ≤ 2 ^ f.wid := by
    calc 2 = 2 ^ 1 := rfl
      _ ≤ 2 ^ f.wid := Nat.pow_le_pow_right (by norm_num) hw
  cases b
  · simp
  · rw [Nat.mod_eq_of_lt (by show 1 < 2 ^ f.wid; omega)]; rfl

/-- A saturating write reads the value or the field's highest. -/
theorem State.get_putSat_self (s : State) (f : Fld) (v : Nat) (h : f.lo + f.wid ≤ 32) :
    (s.putSat f v).get f = min v (2 ^ f.wid - 1) := by
  simp only [State.putSat, State.get_put_self _ _ _ h]
  have : 0 < 2 ^ f.wid := by positivity
  exact Nat.mod_eq_of_lt (by omega)

/-- A saturating count goes up by one, to the field's highest value at most. -/
theorem State.get_incSat_self (s : State) (f : Fld) (h : f.lo + f.wid ≤ 32) :
    (s.incSat f).get f = min (s.get f + 1) (2 ^ f.wid - 1) := State.get_putSat_self _ _ _ h

/-- A wrapping count. -/
theorem State.get_inc_self (s : State) (f : Fld) (h : f.lo + f.wid ≤ 32) :
    (s.inc f).get f = (s.get f + 1) % 2 ^ f.wid := State.get_put_self _ _ _ h

/-! ### Bytes of memory -/

@[simp] theorem State.byte_setByte_self (s : State) (a : Nat) (b : Byte) : (s.setByte a b).byte a = b := by
  simp [State.byte, State.setByte]

theorem State.byte_setByte_ne (s : State) (a c : Nat) (b : Byte) (h : c ≠ a) : (s.setByte a b).byte c = s.byte c := by
  simp only [State.byte, State.setByte]; exact kget_kset_ne _ _ _ h _ _

/-- A store of a byte sequence changes memory alone. -/
theorem State.setBytes_only (l : List Byte) : ∀ (s : State) (a : Nat), ∃ m, s.setBytes a l = { s with mem := m } := by
  induction l with
  | nil => intro s _; exact ⟨s.mem, rfl⟩
  | cons b l ih =>
    intro s a
    obtain ⟨m, hm⟩ := ih (s.setByte a b) (a + 1)
    exact ⟨m, by simp only [State.setBytes, hm]; rfl⟩

/-- A store of a byte sequence leaves every byte outside it. -/
theorem State.byte_setBytes_out (l : List Byte) :
    ∀ (s : State) (a c : Nat), (c < a ∨ a + l.length ≤ c) → (s.setBytes a l).byte c = s.byte c := by
  induction l with
  | nil => intro s a c _; rfl
  | cons b l ih =>
    intro s a c h
    simp only [List.length_cons] at h
    simp only [State.setBytes]
    rw [ih _ _ _ (by omega), State.byte_setByte_ne _ _ _ _ (by omega)]

/-- A stored byte reads back. -/
theorem State.byte_setBytes_in (l : List Byte) :
    ∀ (s : State) (a i : Nat) (hi : i < l.length), (s.setBytes a l).byte (a + i) = l[i] := by
  induction l with
  | nil => intro s a i hi; simp at hi
  | cons b l ih =>
    intro s a i hi
    simp only [State.setBytes]
    cases i with
    | zero => rw [State.byte_setBytes_out _ _ _ _ (by omega)]; simp
    | succ i =>
      rw [show a + (i + 1) = a + 1 + i by omega, ih _ _ _ (by simpa using hi)]; rfl

/-! ### The canonical form -/

theorem State.canon_iff (s : State) : s.canon = true ↔ kwf resetWord s.regs = true ∧ Memory.wf s.mem = true := by
  simp [State.canon]

theorem State.canon_setWord (s : State) (a : Nat) (w : Word) (h : s.canon = true) : (s.setWord a w).canon = true := by
  rw [State.canon_iff] at h ⊢
  exact ⟨kwf_kset _ _ _ _ h.1, h.2⟩

/-- The canonical form looks at the two stores alone. -/
theorem State.canon_congr (s t : State) (hr : t.regs = s.regs) (hm : t.mem = s.mem) (h : s.canon = true) :
    t.canon = true := by
  simp only [State.canon, hr, hm] at h ⊢; exact h

theorem State.canon_put (s : State) (f : Fld) (v : Nat) (h : s.canon = true) : (s.put f v).canon = true :=
  State.canon_setWord _ _ _ h

theorem State.canon_putB (s : State) (f : Fld) (b : Bool) (h : s.canon = true) : (s.putB f b).canon = true :=
  State.canon_put _ _ _ h

theorem State.canon_putI (s : State) (f : Fld) (v : Int) (h : s.canon = true) : (s.putI f v).canon = true :=
  State.canon_put _ _ _ h

theorem State.canon_putSat (s : State) (f : Fld) (v : Nat) (h : s.canon = true) : (s.putSat f v).canon = true :=
  State.canon_put _ _ _ h

theorem State.canon_putSatI (s : State) (f : Fld) (v : Int) (h : s.canon = true) : (s.putSatI f v).canon = true :=
  State.canon_put _ _ _ h

theorem State.canon_putBit (s : State) (f : Fld) (i : Nat) (b : Bool) (h : s.canon = true) :
    (s.putBit f i b).canon = true := State.canon_put _ _ _ h

theorem State.canon_inc (s : State) (f : Fld) (h : s.canon = true) : (s.inc f).canon = true :=
  State.canon_put _ _ _ h

theorem State.canon_incSat (s : State) (f : Fld) (h : s.canon = true) : (s.incSat f).canon = true :=
  State.canon_put _ _ _ h

theorem State.canon_setByte (s : State) (a : Nat) (b : Byte) (h : s.canon = true) : (s.setByte a b).canon = true := by
  rw [State.canon_iff] at h ⊢
  exact ⟨h.1, kwf_kset _ _ _ _ h.2⟩

theorem State.canon_setBytes (l : List Byte) :
    ∀ (s : State) (a : Nat), s.canon = true → (s.setBytes a l).canon = true := by
  induction l with
  | nil => intro s _ h; exact h
  | cons b l ih => intro s a h; exact ih _ _ (s.canon_setByte a b h)

theorem State.canon_setMemWords (l : List Nat) :
    ∀ (s : State) (a : Nat), s.canon = true → (s.setMemWords a l).canon = true := by
  induction l with
  | nil => intro s _ h; exact h
  | cons w l ih => intro s a h; exact ih _ _ (State.canon_setBytes _ _ _ h)

end Sys2Proof.Machine
end

