-- ==== Sys2Proof/Laws/Events.lean ====
section
/-!
SUPPORT. What a record and a raised event can do, said once: they write the ring, the FIFO or the drop count of the black
box, its counters, and the event words of one page; nothing else of the state changes.
-/
namespace Sys2Proof.Machine

theorem quiet_evraw (a p : Nat) (h : quiet a = true) : a ≠ evrawAddr p := by
  simp only [quiet, Bool.and_eq_true, bne_iff_ne, evrawAddr, pageBase] at *
  omega

theorem quiet_evpnd (a p : Nat) (h : quiet a = true) : a ≠ evpndAddr p := by
  simp only [quiet, Bool.and_eq_true, bne_iff_ne, evpndAddr, pageBase] at *
  omega

/-- A record changes register words, memory and the black box alone. -/
theorem State.record_only (s : State) (k c d0 d1 d2 : Nat) :
    ∃ r m x, s.record k c d0 d1 d2 = { s with regs := r, mem := m, bbx := x } := by
  unfold State.record
  split
  · exact ⟨s.regs, s.mem, s.bbx, rfl⟩
  · simp only []
    split
    · split
      · exact ⟨_, s.mem, _, rfl⟩
      · exact ⟨_, s.mem, _, rfl⟩
    · obtain ⟨m, hm⟩ := State.setBytes_only (s.makeRecord k c d0 d1 d2).bytes s (recordAddr (s.get Reg.BBX_RECPTR_NEXT))
      simp only [State.ringPut, hm]
      exact ⟨_, m, _, rfl⟩

theorem State.word_record (s : State) (k c d0 d1 d2 a : Nat) (h : quiet a = true) :
    (s.record k c d0 d1 d2).word a = s.word a := by
  have hb : a ≠ Reg.BBX_RECPTR_NEXT.addr ∧ a ≠ Reg.BBX_RECNUM_NUM.addr ∧ a ≠ Reg.BBX_DROPS_COUNT.addr := by
    simp only [quiet, Bool.and_eq_true, bne_iff_ne] at h
    exact ⟨h.1.1.2, h.1.2, h.2⟩
  unfold State.record
  split
  · rfl
  · simp only []
    split
    · split
      · exact State.word_setWord_ne _ _ _ _ hb.2.1
      · exact State.word_setWord_ne _ _ _ _ hb.2.2
    · obtain ⟨m, hm⟩ := State.setBytes_only (s.makeRecord k c d0 d1 d2).bytes s (recordAddr (s.get Reg.BBX_RECPTR_NEXT))
      simp only [State.inc, State.put, State.word_setWord_ne _ _ _ _ hb.2.1]
      simp only [State.ringPut, hm]
      exact State.word_setWord_ne _ _ _ _ hb.1

/-- A record stores 32 bytes in the slot of the ring that `BBX.RECPTR.NEXT` names, or nothing. -/
theorem State.byte_record (s : State) (k c d0 d1 d2 a : Nat)
    (h : a < recordAddr (s.get Reg.BBX_RECPTR_NEXT) ∨ recordAddr (s.get Reg.BBX_RECPTR_NEXT) + 32 ≤ a) :
    (s.record k c d0 d1 d2).byte a = s.byte a := by
  unfold State.record
  split
  · rfl
  · simp only []
    split
    · split <;> rfl
    · have e := State.byte_setBytes_out (s.makeRecord k c d0 d1 d2).bytes s _ a h
      simp only [State.byte, State.inc_mem, State.ringPut, State.put_mem] at e ⊢
      exact e

theorem State.canon_ringPut (s : State) (r : BbxRec) (h : s.canon = true) : (s.ringPut r).canon = true := by
  have h1 : ((s.setBytes (recordAddr (s.get Reg.BBX_RECPTR_NEXT)) r.bytes).put Reg.BBX_RECPTR_NEXT
      (s.get Reg.BBX_RECPTR_NEXT + 1)).canon = true := State.canon_put _ _ _ (State.canon_setBytes _ _ _ h)
  unfold State.ringPut
  simp only []
  generalize (s.setBytes (recordAddr (s.get Reg.BBX_RECPTR_NEXT)) r.bytes).put Reg.BBX_RECPTR_NEXT
      (s.get Reg.BBX_RECPTR_NEXT + 1) = s1 at h1 ⊢
  exact State.canon_congr s1 _ rfl rfl h1

theorem State.canon_record (s : State) (k c d0 d1 d2 : Nat) (h : s.canon = true) :
    (s.record k c d0 d1 d2).canon = true := by
  unfold State.record
  split
  · exact h
  · simp only []
    generalize s.makeRecord k c d0 d1 d2 = r
    split
    · split
      · refine State.canon_inc _ _ ?_
        exact State.canon_congr s _ rfl rfl h
      · refine State.canon_incSat _ _ ?_
        exact State.canon_congr s _ rfl rfl h
    · exact State.canon_inc _ _ (State.canon_ringPut _ _ h)

/-- A raised event changes register words, memory, the black box and the tick of its last raise alone. -/
theorem State.raise_only (s : State) (e : Event) :
    ∃ r m x v, s.raise e = { s with regs := r, mem := m, bbx := x, evAt := v } := by
  unfold State.raise
  simp only []
  split
  · exact ⟨s.regs, s.mem, s.bbx, _, rfl⟩
  · generalize hw : State.setWord ({ s with evAt := nset e.key (s.now + 1) s.evAt } : State) (evrawAddr e.page) _ = s1
    have h1 : ∃ r v, s1 = { s with regs := r, evAt := v } := ⟨_, _, hw.symm⟩
    generalize hg : (if s1.evEnabled e = true then s1.setWord (evpndAddr e.page) _ else s1) = s2
    have h2 : ∃ r v, s2 = { s with regs := r, evAt := v } := by
      obtain ⟨r, v, rfl⟩ := h1
      rw [← hg]
      split
      · exact ⟨_, v, rfl⟩
      · exact ⟨r, v, rfl⟩
    obtain ⟨r, v, rfl⟩ := h2
    split
    · obtain ⟨r', m, x, hr⟩ := State.record_only { s with regs := r, evAt := v } 1 e.source
        (State.word { s with regs := r, evAt := v } (evrawAddr e.page)).toNat
        (State.word { s with regs := r, evAt := v } Reg.SYS_PROFSTAT).toNat 0
      exact ⟨r', m, x, v, hr⟩
    · exact ⟨r, s.mem, s.bbx, v, rfl⟩

theorem State.word_raise (s : State) (e : Event) (a : Nat) (h : quiet a = true) : (s.raise e).word a = s.word a := by
  have h1 := quiet_evraw a e.page h
  have h2 := quiet_evpnd a e.page h
  unfold State.raise
  simp only []
  split
  · rfl
  · split <;> split <;>
      simp only [State.word_record _ _ _ _ _ _ _ h, State.word_setWord_ne _ _ _ _ h1, State.word_setWord_ne _ _ _ _ h2] <;>
      rfl

theorem State.canon_raise (s : State) (e : Event) (h : s.canon = true) : (s.raise e).canon = true := by
  have h0 : ({ s with evAt := nset e.key (s.now + 1) s.evAt } : State).canon = true := State.canon_congr s _ rfl rfl h
  unfold State.raise
  simp only []
  generalize ({ s with evAt := nset e.key (s.now + 1) s.evAt } : State) = s0 at h0 ⊢
  split
  · exact h0
  · generalize hw : s0.setWord (evrawAddr e.page) (s0.word (evrawAddr e.page) ||| 1#32 <<< e.bit) = s1
    have h1 : s1.canon = true := hw ▸ State.canon_setWord _ _ _ h0
    have h2 : (if s1.evEnabled e = true then s1.setWord (evpndAddr e.page) (s1.word (evpndAddr e.page) ||| 1#32 <<< e.bit)
        else s1).canon = true := by
      split
      · exact State.canon_setWord _ _ _ h1
      · exact h1
    generalize (if s1.evEnabled e = true then _ else s1) = s2 at h2 ⊢
    split
    · exact State.canon_record _ _ _ _ _ _ h2
    · exact h2

/-- A field of a quiet word after a raised event. -/
theorem State.get_raise (s : State) (e : Event) (f : Fld) (h : quiet f.addr = true) : (s.raise e).get f = s.get f := by
  simp only [State.get, State.word_raise _ _ _ h]

theorem State.get_record (s : State) (k c d0 d1 d2 : Nat) (f : Fld) (h : quiet f.addr = true) :
    (s.record k c d0 d1 d2).get f = s.get f := by
  simp only [State.get, State.word_record _ _ _ _ _ _ _ h]

/-- An event word keeps its own bit through the record that follows. -/
theorem quiet_not_bbx (p : Nat) : evrawAddr p ≠ Reg.BBX_RECPTR_NEXT.addr ∧ evrawAddr p ≠ Reg.BBX_RECNUM_NUM.addr ∧
    evrawAddr p ≠ Reg.BBX_DROPS_COUNT.addr := by
  simp only [evrawAddr, pageBase, Reg.BBX_RECPTR_NEXT, Reg.BBX_RECNUM_NUM, Reg.BBX_DROPS_COUNT, Reg.BBX_RECPTR,
    Reg.BBX_RECNUM, Reg.BBX_DROPS]
  omega

end Sys2Proof.Machine
end

