-- ==== Sys2Proof/Laws/EventState.lean ====
section
/-!
SUPPORT. What a record, a raised event and a store of bytes leave unchanged: one lemma per field of the state.
-/
namespace Sys2Proof.Machine

@[simp] theorem State.record_full (s : State) (k c d0 d1 d2 : Nat) : (s.record k c d0 d1 d2).full = s.full := by
  obtain ⟨_, _, _, e⟩ := s.record_only k c d0 d1 d2; rw [e]
@[simp] theorem State.record_leadStrap (s : State) (k c d0 d1 d2 : Nat) : (s.record k c d0 d1 d2).leadStrap = s.leadStrap := by
  obtain ⟨_, _, _, e⟩ := s.record_only k c d0 d1 d2; rw [e]
@[simp] theorem State.record_now (s : State) (k c d0 d1 d2 : Nat) : (s.record k c d0 d1 d2).now = s.now := by
  obtain ⟨_, _, _, e⟩ := s.record_only k c d0 d1 d2; rw [e]
@[simp] theorem State.record_tick (s : State) (k c d0 d1 d2 : Nat) : (s.record k c d0 d1 d2).tick = s.tick := by
  obtain ⟨_, _, _, e⟩ := s.record_only k c d0 d1 d2; rw [e]
@[simp] theorem State.record_frame (s : State) (k c d0 d1 d2 : Nat) : (s.record k c d0 d1 d2).frame = s.frame := by
  obtain ⟨_, _, _, e⟩ := s.record_only k c d0 d1 d2; rw [e]
@[simp] theorem State.record_fstart (s : State) (k c d0 d1 d2 : Nat) : (s.record k c d0 d1 d2).fstart = s.fstart := by
  obtain ⟨_, _, _, e⟩ := s.record_only k c d0 d1 d2; rw [e]
@[simp] theorem State.record_evAt (s : State) (k c d0 d1 d2 : Nat) : (s.record k c d0 d1 d2).evAt = s.evAt := by
  obtain ⟨_, _, _, e⟩ := s.record_only k c d0 d1 d2; rw [e]
@[simp] theorem State.record_freeCtr (s : State) (k c d0 d1 d2 : Nat) : (s.record k c d0 d1 d2).freeCtr = s.freeCtr := by
  obtain ⟨_, _, _, e⟩ := s.record_only k c d0 d1 d2; rw [e]
@[simp] theorem State.record_power (s : State) (k c d0 d1 d2 : Nat) : (s.record k c d0 d1 d2).power = s.power := by
  obtain ⟨_, _, _, e⟩ := s.record_only k c d0 d1 d2; rw [e]
@[simp] theorem State.record_ret (s : State) (k c d0 d1 d2 : Nat) : (s.record k c d0 d1 d2).ret = s.ret := by
  obtain ⟨_, _, _, e⟩ := s.record_only k c d0 d1 d2; rw [e]
@[simp] theorem State.record_tmb (s : State) (k c d0 d1 d2 : Nat) : (s.record k c d0 d1 d2).tmb = s.tmb := by
  obtain ⟨_, _, _, e⟩ := s.record_only k c d0 d1 d2; rw [e]
@[simp] theorem State.record_tt (s : State) (k c d0 d1 d2 : Nat) : (s.record k c d0 d1 d2).tt = s.tt := by
  obtain ⟨_, _, _, e⟩ := s.record_only k c d0 d1 d2; rw [e]
@[simp] theorem State.record_stg (s : State) (k c d0 d1 d2 : Nat) : (s.record k c d0 d1 d2).stg = s.stg := by
  obtain ⟨_, _, _, e⟩ := s.record_only k c d0 d1 d2; rw [e]
@[simp] theorem State.record_cm (s : State) (k c d0 d1 d2 : Nat) : (s.record k c d0 d1 d2).cm = s.cm := by
  obtain ⟨_, _, _, e⟩ := s.record_only k c d0 d1 d2; rw [e]
@[simp] theorem State.record_ipk (s : State) (k c d0 d1 d2 : Nat) : (s.record k c d0 d1 d2).ipk = s.ipk := by
  obtain ⟨_, _, _, e⟩ := s.record_only k c d0 d1 d2; rw [e]
@[simp] theorem State.record_iso (s : State) (k c d0 d1 d2 : Nat) : (s.record k c d0 d1 d2).iso = s.iso := by
  obtain ⟨_, _, _, e⟩ := s.record_only k c d0 d1 d2; rw [e]
@[simp] theorem State.record_bal (s : State) (k c d0 d1 d2 : Nat) : (s.record k c d0 d1 d2).bal = s.bal := by
  obtain ⟨_, _, _, e⟩ := s.record_only k c d0 d1 d2; rw [e]
@[simp] theorem State.record_csc (s : State) (k c d0 d1 d2 : Nat) : (s.record k c d0 d1 d2).csc = s.csc := by
  obtain ⟨_, _, _, e⟩ := s.record_only k c d0 d1 d2; rw [e]
@[simp] theorem State.record_est (s : State) (k c d0 d1 d2 : Nat) : (s.record k c d0 d1 d2).est = s.est := by
  obtain ⟨_, _, _, e⟩ := s.record_only k c d0 d1 d2; rw [e]
@[simp] theorem State.record_eis (s : State) (k c d0 d1 d2 : Nat) : (s.record k c d0 d1 d2).eis = s.eis := by
  obtain ⟨_, _, _, e⟩ := s.record_only k c d0 d1 d2; rw [e]
@[simp] theorem State.record_thm (s : State) (k c d0 d1 d2 : Nat) : (s.record k c d0 d1 d2).thm = s.thm := by
  obtain ⟨_, _, _, e⟩ := s.record_only k c d0 d1 d2; rw [e]
@[simp] theorem State.record_saf (s : State) (k c d0 d1 d2 : Nat) : (s.record k c d0 d1 d2).saf = s.saf := by
  obtain ⟨_, _, _, e⟩ := s.record_only k c d0 d1 d2; rw [e]
@[simp] theorem State.record_cts (s : State) (k c d0 d1 d2 : Nat) : (s.record k c d0 d1 d2).cts = s.cts := by
  obtain ⟨_, _, _, e⟩ := s.record_only k c d0 d1 d2; rw [e]
@[simp] theorem State.record_out (s : State) (k c d0 d1 d2 : Nat) : (s.record k c d0 d1 d2).out = s.out := by
  obtain ⟨_, _, _, e⟩ := s.record_only k c d0 d1 d2; rw [e]
@[simp] theorem State.record_lhm (s : State) (k c d0 d1 d2 : Nat) : (s.record k c d0 d1 d2).lhm = s.lhm := by
  obtain ⟨_, _, _, e⟩ := s.record_only k c d0 d1 d2; rw [e]
@[simp] theorem State.record_pmp (s : State) (k c d0 d1 d2 : Nat) : (s.record k c d0 d1 d2).pmp = s.pmp := by
  obtain ⟨_, _, _, e⟩ := s.record_only k c d0 d1 d2; rw [e]
@[simp] theorem State.record_cpa (s : State) (k c d0 d1 d2 : Nat) : (s.record k c d0 d1 d2).cpa = s.cpa := by
  obtain ⟨_, _, _, e⟩ := s.record_only k c d0 d1 d2; rw [e]
@[simp] theorem State.record_cpb (s : State) (k c d0 d1 d2 : Nat) : (s.record k c d0 d1 d2).cpb = s.cpb := by
  obtain ⟨_, _, _, e⟩ := s.record_only k c d0 d1 d2; rw [e]
@[simp] theorem State.record_nvm (s : State) (k c d0 d1 d2 : Nat) : (s.record k c d0 d1 d2).nvm = s.nvm := by
  obtain ⟨_, _, _, e⟩ := s.record_only k c d0 d1 d2; rw [e]
@[simp] theorem State.record_can (s : State) (k c d0 d1 d2 : Nat) : (s.record k c d0 d1 d2).can = s.can := by
  obtain ⟨_, _, _, e⟩ := s.record_only k c d0 d1 d2; rw [e]
@[simp] theorem State.record_conn (s : State) (k c d0 d1 d2 : Nat) : (s.record k c d0 d1 d2).conn = s.conn := by
  obtain ⟨_, _, _, e⟩ := s.record_only k c d0 d1 d2; rw [e]
@[simp] theorem State.record_hst (s : State) (k c d0 d1 d2 : Nat) : (s.record k c d0 d1 d2).hst = s.hst := by
  obtain ⟨_, _, _, e⟩ := s.record_only k c d0 d1 d2; rw [e]
@[simp] theorem State.record_jtag (s : State) (k c d0 d1 d2 : Nat) : (s.record k c d0 d1 d2).jtag = s.jtag := by
  obtain ⟨_, _, _, e⟩ := s.record_only k c d0 d1 d2; rw [e]
@[simp] theorem State.record_pending (s : State) (k c d0 d1 d2 : Nat) : (s.record k c d0 d1 d2).pending = s.pending := by
  obtain ⟨_, _, _, e⟩ := s.record_only k c d0 d1 d2; rw [e]

@[simp] theorem State.note_full (s : State) (c d0 d1 d2 : Nat) : (s.note c d0 d1 d2).full = s.full := by
  exact s.record_full 5 c d0 d1 d2
@[simp] theorem State.note_leadStrap (s : State) (c d0 d1 d2 : Nat) : (s.note c d0 d1 d2).leadStrap = s.leadStrap := by
  exact s.record_leadStrap 5 c d0 d1 d2
@[simp] theorem State.note_now (s : State) (c d0 d1 d2 : Nat) : (s.note c d0 d1 d2).now = s.now := by
  exact s.record_now 5 c d0 d1 d2
@[simp] theorem State.note_tick (s : State) (c d0 d1 d2 : Nat) : (s.note c d0 d1 d2).tick = s.tick := by
  exact s.record_tick 5 c d0 d1 d2
@[simp] theorem State.note_frame (s : State) (c d0 d1 d2 : Nat) : (s.note c d0 d1 d2).frame = s.frame := by
  exact s.record_frame 5 c d0 d1 d2
@[simp] theorem State.note_fstart (s : State) (c d0 d1 d2 : Nat) : (s.note c d0 d1 d2).fstart = s.fstart := by
  exact s.record_fstart 5 c d0 d1 d2
@[simp] theorem State.note_evAt (s : State) (c d0 d1 d2 : Nat) : (s.note c d0 d1 d2).evAt = s.evAt := by
  exact s.record_evAt 5 c d0 d1 d2
@[simp] theorem State.note_freeCtr (s : State) (c d0 d1 d2 : Nat) : (s.note c d0 d1 d2).freeCtr = s.freeCtr := by
  exact s.record_freeCtr 5 c d0 d1 d2
@[simp] theorem State.note_power (s : State) (c d0 d1 d2 : Nat) : (s.note c d0 d1 d2).power = s.power := by
  exact s.record_power 5 c d0 d1 d2
@[simp] theorem State.note_ret (s : State) (c d0 d1 d2 : Nat) : (s.note c d0 d1 d2).ret = s.ret := by
  exact s.record_ret 5 c d0 d1 d2
@[simp] theorem State.note_tmb (s : State) (c d0 d1 d2 : Nat) : (s.note c d0 d1 d2).tmb = s.tmb := by
  exact s.record_tmb 5 c d0 d1 d2
@[simp] theorem State.note_tt (s : State) (c d0 d1 d2 : Nat) : (s.note c d0 d1 d2).tt = s.tt := by
  exact s.record_tt 5 c d0 d1 d2
@[simp] theorem State.note_stg (s : State) (c d0 d1 d2 : Nat) : (s.note c d0 d1 d2).stg = s.stg := by
  exact s.record_stg 5 c d0 d1 d2
@[simp] theorem State.note_cm (s : State) (c d0 d1 d2 : Nat) : (s.note c d0 d1 d2).cm = s.cm := by
  exact s.record_cm 5 c d0 d1 d2
@[simp] theorem State.note_ipk (s : State) (c d0 d1 d2 : Nat) : (s.note c d0 d1 d2).ipk = s.ipk := by
  exact s.record_ipk 5 c d0 d1 d2
@[simp] theorem State.note_iso (s : State) (c d0 d1 d2 : Nat) : (s.note c d0 d1 d2).iso = s.iso := by
  exact s.record_iso 5 c d0 d1 d2
@[simp] theorem State.note_bal (s : State) (c d0 d1 d2 : Nat) : (s.note c d0 d1 d2).bal = s.bal := by
  exact s.record_bal 5 c d0 d1 d2
@[simp] theorem State.note_csc (s : State) (c d0 d1 d2 : Nat) : (s.note c d0 d1 d2).csc = s.csc := by
  exact s.record_csc 5 c d0 d1 d2
@[simp] theorem State.note_est (s : State) (c d0 d1 d2 : Nat) : (s.note c d0 d1 d2).est = s.est := by
  exact s.record_est 5 c d0 d1 d2
@[simp] theorem State.note_eis (s : State) (c d0 d1 d2 : Nat) : (s.note c d0 d1 d2).eis = s.eis := by
  exact s.record_eis 5 c d0 d1 d2
@[simp] theorem State.note_thm (s : State) (c d0 d1 d2 : Nat) : (s.note c d0 d1 d2).thm = s.thm := by
  exact s.record_thm 5 c d0 d1 d2
@[simp] theorem State.note_saf (s : State) (c d0 d1 d2 : Nat) : (s.note c d0 d1 d2).saf = s.saf := by
  exact s.record_saf 5 c d0 d1 d2
@[simp] theorem State.note_cts (s : State) (c d0 d1 d2 : Nat) : (s.note c d0 d1 d2).cts = s.cts := by
  exact s.record_cts 5 c d0 d1 d2
@[simp] theorem State.note_out (s : State) (c d0 d1 d2 : Nat) : (s.note c d0 d1 d2).out = s.out := by
  exact s.record_out 5 c d0 d1 d2
@[simp] theorem State.note_lhm (s : State) (c d0 d1 d2 : Nat) : (s.note c d0 d1 d2).lhm = s.lhm := by
  exact s.record_lhm 5 c d0 d1 d2
@[simp] theorem State.note_pmp (s : State) (c d0 d1 d2 : Nat) : (s.note c d0 d1 d2).pmp = s.pmp := by
  exact s.record_pmp 5 c d0 d1 d2
@[simp] theorem State.note_cpa (s : State) (c d0 d1 d2 : Nat) : (s.note c d0 d1 d2).cpa = s.cpa := by
  exact s.record_cpa 5 c d0 d1 d2
@[simp] theorem State.note_cpb (s : State) (c d0 d1 d2 : Nat) : (s.note c d0 d1 d2).cpb = s.cpb := by
  exact s.record_cpb 5 c d0 d1 d2
@[simp] theorem State.note_nvm (s : State) (c d0 d1 d2 : Nat) : (s.note c d0 d1 d2).nvm = s.nvm := by
  exact s.record_nvm 5 c d0 d1 d2
@[simp] theorem State.note_can (s : State) (c d0 d1 d2 : Nat) : (s.note c d0 d1 d2).can = s.can := by
  exact s.record_can 5 c d0 d1 d2
@[simp] theorem State.note_conn (s : State) (c d0 d1 d2 : Nat) : (s.note c d0 d1 d2).conn = s.conn := by
  exact s.record_conn 5 c d0 d1 d2
@[simp] theorem State.note_hst (s : State) (c d0 d1 d2 : Nat) : (s.note c d0 d1 d2).hst = s.hst := by
  exact s.record_hst 5 c d0 d1 d2
@[simp] theorem State.note_jtag (s : State) (c d0 d1 d2 : Nat) : (s.note c d0 d1 d2).jtag = s.jtag := by
  exact s.record_jtag 5 c d0 d1 d2
@[simp] theorem State.note_pending (s : State) (c d0 d1 d2 : Nat) : (s.note c d0 d1 d2).pending = s.pending := by
  exact s.record_pending 5 c d0 d1 d2

@[simp] theorem State.raise_full (s : State) (e : Event) : (s.raise e).full = s.full := by
  obtain ⟨_, _, _, _, h⟩ := s.raise_only e; rw [h]
@[simp] theorem State.raise_leadStrap (s : State) (e : Event) : (s.raise e).leadStrap = s.leadStrap := by
  obtain ⟨_, _, _, _, h⟩ := s.raise_only e; rw [h]
@[simp] theorem State.raise_now (s : State) (e : Event) : (s.raise e).now = s.now := by
  obtain ⟨_, _, _, _, h⟩ := s.raise_only e; rw [h]
@[simp] theorem State.raise_tick (s : State) (e : Event) : (s.raise e).tick = s.tick := by
  obtain ⟨_, _, _, _, h⟩ := s.raise_only e; rw [h]
@[simp] theorem State.raise_frame (s : State) (e : Event) : (s.raise e).frame = s.frame := by
  obtain ⟨_, _, _, _, h⟩ := s.raise_only e; rw [h]
@[simp] theorem State.raise_fstart (s : State) (e : Event) : (s.raise e).fstart = s.fstart := by
  obtain ⟨_, _, _, _, h⟩ := s.raise_only e; rw [h]
@[simp] theorem State.raise_freeCtr (s : State) (e : Event) : (s.raise e).freeCtr = s.freeCtr := by
  obtain ⟨_, _, _, _, h⟩ := s.raise_only e; rw [h]
@[simp] theorem State.raise_power (s : State) (e : Event) : (s.raise e).power = s.power := by
  obtain ⟨_, _, _, _, h⟩ := s.raise_only e; rw [h]
@[simp] theorem State.raise_ret (s : State) (e : Event) : (s.raise e).ret = s.ret := by
  obtain ⟨_, _, _, _, h⟩ := s.raise_only e; rw [h]
@[simp] theorem State.raise_tmb (s : State) (e : Event) : (s.raise e).tmb = s.tmb := by
  obtain ⟨_, _, _, _, h⟩ := s.raise_only e; rw [h]
@[simp] theorem State.raise_tt (s : State) (e : Event) : (s.raise e).tt = s.tt := by
  obtain ⟨_, _, _, _, h⟩ := s.raise_only e; rw [h]
@[simp] theorem State.raise_stg (s : State) (e : Event) : (s.raise e).stg = s.stg := by
  obtain ⟨_, _, _, _, h⟩ := s.raise_only e; rw [h]
@[simp] theorem State.raise_cm (s : State) (e : Event) : (s.raise e).cm = s.cm := by
  obtain ⟨_, _, _, _, h⟩ := s.raise_only e; rw [h]
@[simp] theorem State.raise_ipk (s : State) (e : Event) : (s.raise e).ipk = s.ipk := by
  obtain ⟨_, _, _, _, h⟩ := s.raise_only e; rw [h]
@[simp] theorem State.raise_iso (s : State) (e : Event) : (s.raise e).iso = s.iso := by
  obtain ⟨_, _, _, _, h⟩ := s.raise_only e; rw [h]
@[simp] theorem State.raise_bal (s : State) (e : Event) : (s.raise e).bal = s.bal := by
  obtain ⟨_, _, _, _, h⟩ := s.raise_only e; rw [h]
@[simp] theorem State.raise_csc (s : State) (e : Event) : (s.raise e).csc = s.csc := by
  obtain ⟨_, _, _, _, h⟩ := s.raise_only e; rw [h]
@[simp] theorem State.raise_est (s : State) (e : Event) : (s.raise e).est = s.est := by
  obtain ⟨_, _, _, _, h⟩ := s.raise_only e; rw [h]
@[simp] theorem State.raise_eis (s : State) (e : Event) : (s.raise e).eis = s.eis := by
  obtain ⟨_, _, _, _, h⟩ := s.raise_only e; rw [h]
@[simp] theorem State.raise_thm (s : State) (e : Event) : (s.raise e).thm = s.thm := by
  obtain ⟨_, _, _, _, h⟩ := s.raise_only e; rw [h]
@[simp] theorem State.raise_saf (s : State) (e : Event) : (s.raise e).saf = s.saf := by
  obtain ⟨_, _, _, _, h⟩ := s.raise_only e; rw [h]
@[simp] theorem State.raise_cts (s : State) (e : Event) : (s.raise e).cts = s.cts := by
  obtain ⟨_, _, _, _, h⟩ := s.raise_only e; rw [h]
@[simp] theorem State.raise_out (s : State) (e : Event) : (s.raise e).out = s.out := by
  obtain ⟨_, _, _, _, h⟩ := s.raise_only e; rw [h]
@[simp] theorem State.raise_lhm (s : State) (e : Event) : (s.raise e).lhm = s.lhm := by
  obtain ⟨_, _, _, _, h⟩ := s.raise_only e; rw [h]
@[simp] theorem State.raise_pmp (s : State) (e : Event) : (s.raise e).pmp = s.pmp := by
  obtain ⟨_, _, _, _, h⟩ := s.raise_only e; rw [h]
@[simp] theorem State.raise_cpa (s : State) (e : Event) : (s.raise e).cpa = s.cpa := by
  obtain ⟨_, _, _, _, h⟩ := s.raise_only e; rw [h]
@[simp] theorem State.raise_cpb (s : State) (e : Event) : (s.raise e).cpb = s.cpb := by
  obtain ⟨_, _, _, _, h⟩ := s.raise_only e; rw [h]
@[simp] theorem State.raise_nvm (s : State) (e : Event) : (s.raise e).nvm = s.nvm := by
  obtain ⟨_, _, _, _, h⟩ := s.raise_only e; rw [h]
@[simp] theorem State.raise_can (s : State) (e : Event) : (s.raise e).can = s.can := by
  obtain ⟨_, _, _, _, h⟩ := s.raise_only e; rw [h]
@[simp] theorem State.raise_conn (s : State) (e : Event) : (s.raise e).conn = s.conn := by
  obtain ⟨_, _, _, _, h⟩ := s.raise_only e; rw [h]
@[simp] theorem State.raise_hst (s : State) (e : Event) : (s.raise e).hst = s.hst := by
  obtain ⟨_, _, _, _, h⟩ := s.raise_only e; rw [h]
@[simp] theorem State.raise_jtag (s : State) (e : Event) : (s.raise e).jtag = s.jtag := by
  obtain ⟨_, _, _, _, h⟩ := s.raise_only e; rw [h]
@[simp] theorem State.raise_pending (s : State) (e : Event) : (s.raise e).pending = s.pending := by
  obtain ⟨_, _, _, _, h⟩ := s.raise_only e; rw [h]

@[simp] theorem State.raiseIf_full (s : State) (c : Bool) (e : Event) : (s.raiseIf c e).full = s.full := by
  unfold State.raiseIf; split <;> simp
@[simp] theorem State.raiseIf_leadStrap (s : State) (c : Bool) (e : Event) : (s.raiseIf c e).leadStrap = s.leadStrap := by
  unfold State.raiseIf; split <;> simp
@[simp] theorem State.raiseIf_now (s : State) (c : Bool) (e : Event) : (s.raiseIf c e).now = s.now := by
  unfold State.raiseIf; split <;> simp
@[simp] theorem State.raiseIf_tick (s : State) (c : Bool) (e : Event) : (s.raiseIf c e).tick = s.tick := by
  unfold State.raiseIf; split <;> simp
@[simp] theorem State.raiseIf_frame (s : State) (c : Bool) (e : Event) : (s.raiseIf c e).frame = s.frame := by
  unfold State.raiseIf; split <;> simp
@[simp] theorem State.raiseIf_fstart (s : State) (c : Bool) (e : Event) : (s.raiseIf c e).fstart = s.fstart := by
  unfold State.raiseIf; split <;> simp
@[simp] theorem State.raiseIf_freeCtr (s : State) (c : Bool) (e : Event) : (s.raiseIf c e).freeCtr = s.freeCtr := by
  unfold State.raiseIf; split <;> simp
@[simp] theorem State.raiseIf_power (s : State) (c : Bool) (e : Event) : (s.raiseIf c e).power = s.power := by
  unfold State.raiseIf; split <;> simp
@[simp] theorem State.raiseIf_ret (s : State) (c : Bool) (e : Event) : (s.raiseIf c e).ret = s.ret := by
  unfold State.raiseIf; split <;> simp
@[simp] theorem State.raiseIf_tmb (s : State) (c : Bool) (e : Event) : (s.raiseIf c e).tmb = s.tmb := by
  unfold State.raiseIf; split <;> simp
@[simp] theorem State.raiseIf_tt (s : State) (c : Bool) (e : Event) : (s.raiseIf c e).tt = s.tt := by
  unfold State.raiseIf; split <;> simp
@[simp] theorem State.raiseIf_stg (s : State) (c : Bool) (e : Event) : (s.raiseIf c e).stg = s.stg := by
  unfold State.raiseIf; split <;> simp
@[simp] theorem State.raiseIf_cm (s : State) (c : Bool) (e : Event) : (s.raiseIf c e).cm = s.cm := by
  unfold State.raiseIf; split <;> simp
@[simp] theorem State.raiseIf_ipk (s : State) (c : Bool) (e : Event) : (s.raiseIf c e).ipk = s.ipk := by
  unfold State.raiseIf; split <;> simp
@[simp] theorem State.raiseIf_iso (s : State) (c : Bool) (e : Event) : (s.raiseIf c e).iso = s.iso := by
  unfold State.raiseIf; split <;> simp
@[simp] theorem State.raiseIf_bal (s : State) (c : Bool) (e : Event) : (s.raiseIf c e).bal = s.bal := by
  unfold State.raiseIf; split <;> simp
@[simp] theorem State.raiseIf_csc (s : State) (c : Bool) (e : Event) : (s.raiseIf c e).csc = s.csc := by
  unfold State.raiseIf; split <;> simp
@[simp] theorem State.raiseIf_est (s : State) (c : Bool) (e : Event) : (s.raiseIf c e).est = s.est := by
  unfold State.raiseIf; split <;> simp
@[simp] theorem State.raiseIf_eis (s : State) (c : Bool) (e : Event) : (s.raiseIf c e).eis = s.eis := by
  unfold State.raiseIf; split <;> simp
@[simp] theorem State.raiseIf_thm (s : State) (c : Bool) (e : Event) : (s.raiseIf c e).thm = s.thm := by
  unfold State.raiseIf; split <;> simp
@[simp] theorem State.raiseIf_saf (s : State) (c : Bool) (e : Event) : (s.raiseIf c e).saf = s.saf := by
  unfold State.raiseIf; split <;> simp
@[simp] theorem State.raiseIf_cts (s : State) (c : Bool) (e : Event) : (s.raiseIf c e).cts = s.cts := by
  unfold State.raiseIf; split <;> simp
@[simp] theorem State.raiseIf_out (s : State) (c : Bool) (e : Event) : (s.raiseIf c e).out = s.out := by
  unfold State.raiseIf; split <;> simp
@[simp] theorem State.raiseIf_lhm (s : State) (c : Bool) (e : Event) : (s.raiseIf c e).lhm = s.lhm := by
  unfold State.raiseIf; split <;> simp
@[simp] theorem State.raiseIf_pmp (s : State) (c : Bool) (e : Event) : (s.raiseIf c e).pmp = s.pmp := by
  unfold State.raiseIf; split <;> simp
@[simp] theorem State.raiseIf_cpa (s : State) (c : Bool) (e : Event) : (s.raiseIf c e).cpa = s.cpa := by
  unfold State.raiseIf; split <;> simp
@[simp] theorem State.raiseIf_cpb (s : State) (c : Bool) (e : Event) : (s.raiseIf c e).cpb = s.cpb := by
  unfold State.raiseIf; split <;> simp
@[simp] theorem State.raiseIf_nvm (s : State) (c : Bool) (e : Event) : (s.raiseIf c e).nvm = s.nvm := by
  unfold State.raiseIf; split <;> simp
@[simp] theorem State.raiseIf_can (s : State) (c : Bool) (e : Event) : (s.raiseIf c e).can = s.can := by
  unfold State.raiseIf; split <;> simp
@[simp] theorem State.raiseIf_conn (s : State) (c : Bool) (e : Event) : (s.raiseIf c e).conn = s.conn := by
  unfold State.raiseIf; split <;> simp
@[simp] theorem State.raiseIf_hst (s : State) (c : Bool) (e : Event) : (s.raiseIf c e).hst = s.hst := by
  unfold State.raiseIf; split <;> simp
@[simp] theorem State.raiseIf_jtag (s : State) (c : Bool) (e : Event) : (s.raiseIf c e).jtag = s.jtag := by
  unfold State.raiseIf; split <;> simp
@[simp] theorem State.raiseIf_pending (s : State) (c : Bool) (e : Event) : (s.raiseIf c e).pending = s.pending := by
  unfold State.raiseIf; split <;> simp

@[simp] theorem State.setCause_full (s : State) (f : Fld) (e : Event) : (s.setCause f e).full = s.full := by
  unfold State.setCause; split <;> simp
@[simp] theorem State.setCause_leadStrap (s : State) (f : Fld) (e : Event) : (s.setCause f e).leadStrap = s.leadStrap := by
  unfold State.setCause; split <;> simp
@[simp] theorem State.setCause_now (s : State) (f : Fld) (e : Event) : (s.setCause f e).now = s.now := by
  unfold State.setCause; split <;> simp
@[simp] theorem State.setCause_tick (s : State) (f : Fld) (e : Event) : (s.setCause f e).tick = s.tick := by
  unfold State.setCause; split <;> simp
@[simp] theorem State.setCause_frame (s : State) (f : Fld) (e : Event) : (s.setCause f e).frame = s.frame := by
  unfold State.setCause; split <;> simp
@[simp] theorem State.setCause_fstart (s : State) (f : Fld) (e : Event) : (s.setCause f e).fstart = s.fstart := by
  unfold State.setCause; split <;> simp
@[simp] theorem State.setCause_freeCtr (s : State) (f : Fld) (e : Event) : (s.setCause f e).freeCtr = s.freeCtr := by
  unfold State.setCause; split <;> simp
@[simp] theorem State.setCause_power (s : State) (f : Fld) (e : Event) : (s.setCause f e).power = s.power := by
  unfold State.setCause; split <;> simp
@[simp] theorem State.setCause_ret (s : State) (f : Fld) (e : Event) : (s.setCause f e).ret = s.ret := by
  unfold State.setCause; split <;> simp
@[simp] theorem State.setCause_tmb (s : State) (f : Fld) (e : Event) : (s.setCause f e).tmb = s.tmb := by
  unfold State.setCause; split <;> simp
@[simp] theorem State.setCause_tt (s : State) (f : Fld) (e : Event) : (s.setCause f e).tt = s.tt := by
  unfold State.setCause; split <;> simp
@[simp] theorem State.setCause_stg (s : State) (f : Fld) (e : Event) : (s.setCause f e).stg = s.stg := by
  unfold State.setCause; split <;> simp
@[simp] theorem State.setCause_cm (s : State) (f : Fld) (e : Event) : (s.setCause f e).cm = s.cm := by
  unfold State.setCause; split <;> simp
@[simp] theorem State.setCause_ipk (s : State) (f : Fld) (e : Event) : (s.setCause f e).ipk = s.ipk := by
  unfold State.setCause; split <;> simp
@[simp] theorem State.setCause_iso (s : State) (f : Fld) (e : Event) : (s.setCause f e).iso = s.iso := by
  unfold State.setCause; split <;> simp
@[simp] theorem State.setCause_bal (s : State) (f : Fld) (e : Event) : (s.setCause f e).bal = s.bal := by
  unfold State.setCause; split <;> simp
@[simp] theorem State.setCause_csc (s : State) (f : Fld) (e : Event) : (s.setCause f e).csc = s.csc := by
  unfold State.setCause; split <;> simp
@[simp] theorem State.setCause_est (s : State) (f : Fld) (e : Event) : (s.setCause f e).est = s.est := by
  unfold State.setCause; split <;> simp
@[simp] theorem State.setCause_eis (s : State) (f : Fld) (e : Event) : (s.setCause f e).eis = s.eis := by
  unfold State.setCause; split <;> simp
@[simp] theorem State.setCause_thm (s : State) (f : Fld) (e : Event) : (s.setCause f e).thm = s.thm := by
  unfold State.setCause; split <;> simp
@[simp] theorem State.setCause_saf (s : State) (f : Fld) (e : Event) : (s.setCause f e).saf = s.saf := by
  unfold State.setCause; split <;> simp
@[simp] theorem State.setCause_cts (s : State) (f : Fld) (e : Event) : (s.setCause f e).cts = s.cts := by
  unfold State.setCause; split <;> simp
@[simp] theorem State.setCause_out (s : State) (f : Fld) (e : Event) : (s.setCause f e).out = s.out := by
  unfold State.setCause; split <;> simp
@[simp] theorem State.setCause_lhm (s : State) (f : Fld) (e : Event) : (s.setCause f e).lhm = s.lhm := by
  unfold State.setCause; split <;> simp
@[simp] theorem State.setCause_pmp (s : State) (f : Fld) (e : Event) : (s.setCause f e).pmp = s.pmp := by
  unfold State.setCause; split <;> simp
@[simp] theorem State.setCause_cpa (s : State) (f : Fld) (e : Event) : (s.setCause f e).cpa = s.cpa := by
  unfold State.setCause; split <;> simp
@[simp] theorem State.setCause_cpb (s : State) (f : Fld) (e : Event) : (s.setCause f e).cpb = s.cpb := by
  unfold State.setCause; split <;> simp
@[simp] theorem State.setCause_nvm (s : State) (f : Fld) (e : Event) : (s.setCause f e).nvm = s.nvm := by
  unfold State.setCause; split <;> simp
@[simp] theorem State.setCause_can (s : State) (f : Fld) (e : Event) : (s.setCause f e).can = s.can := by
  unfold State.setCause; split <;> simp
@[simp] theorem State.setCause_conn (s : State) (f : Fld) (e : Event) : (s.setCause f e).conn = s.conn := by
  unfold State.setCause; split <;> simp
@[simp] theorem State.setCause_hst (s : State) (f : Fld) (e : Event) : (s.setCause f e).hst = s.hst := by
  unfold State.setCause; split <;> simp
@[simp] theorem State.setCause_jtag (s : State) (f : Fld) (e : Event) : (s.setCause f e).jtag = s.jtag := by
  unfold State.setCause; split <;> simp
@[simp] theorem State.setCause_pending (s : State) (f : Fld) (e : Event) : (s.setCause f e).pending = s.pending := by
  unfold State.setCause; split <;> simp

@[simp] theorem State.setBytes_full (s : State) (a : Nat) (l : List Byte) : (s.setBytes a l).full = s.full := by
  obtain ⟨_, e⟩ := State.setBytes_only l s a; rw [e]
@[simp] theorem State.setBytes_leadStrap (s : State) (a : Nat) (l : List Byte) : (s.setBytes a l).leadStrap = s.leadStrap := by
  obtain ⟨_, e⟩ := State.setBytes_only l s a; rw [e]
@[simp] theorem State.setBytes_now (s : State) (a : Nat) (l : List Byte) : (s.setBytes a l).now = s.now := by
  obtain ⟨_, e⟩ := State.setBytes_only l s a; rw [e]
@[simp] theorem State.setBytes_tick (s : State) (a : Nat) (l : List Byte) : (s.setBytes a l).tick = s.tick := by
  obtain ⟨_, e⟩ := State.setBytes_only l s a; rw [e]
@[simp] theorem State.setBytes_frame (s : State) (a : Nat) (l : List Byte) : (s.setBytes a l).frame = s.frame := by
  obtain ⟨_, e⟩ := State.setBytes_only l s a; rw [e]
@[simp] theorem State.setBytes_fstart (s : State) (a : Nat) (l : List Byte) : (s.setBytes a l).fstart = s.fstart := by
  obtain ⟨_, e⟩ := State.setBytes_only l s a; rw [e]
@[simp] theorem State.setBytes_regs (s : State) (a : Nat) (l : List Byte) : (s.setBytes a l).regs = s.regs := by
  obtain ⟨_, e⟩ := State.setBytes_only l s a; rw [e]
@[simp] theorem State.setBytes_evAt (s : State) (a : Nat) (l : List Byte) : (s.setBytes a l).evAt = s.evAt := by
  obtain ⟨_, e⟩ := State.setBytes_only l s a; rw [e]
@[simp] theorem State.setBytes_freeCtr (s : State) (a : Nat) (l : List Byte) : (s.setBytes a l).freeCtr = s.freeCtr := by
  obtain ⟨_, e⟩ := State.setBytes_only l s a; rw [e]
@[simp] theorem State.setBytes_power (s : State) (a : Nat) (l : List Byte) : (s.setBytes a l).power = s.power := by
  obtain ⟨_, e⟩ := State.setBytes_only l s a; rw [e]
@[simp] theorem State.setBytes_ret (s : State) (a : Nat) (l : List Byte) : (s.setBytes a l).ret = s.ret := by
  obtain ⟨_, e⟩ := State.setBytes_only l s a; rw [e]
@[simp] theorem State.setBytes_tmb (s : State) (a : Nat) (l : List Byte) : (s.setBytes a l).tmb = s.tmb := by
  obtain ⟨_, e⟩ := State.setBytes_only l s a; rw [e]
@[simp] theorem State.setBytes_bbx (s : State) (a : Nat) (l : List Byte) : (s.setBytes a l).bbx = s.bbx := by
  obtain ⟨_, e⟩ := State.setBytes_only l s a; rw [e]
@[simp] theorem State.setBytes_tt (s : State) (a : Nat) (l : List Byte) : (s.setBytes a l).tt = s.tt := by
  obtain ⟨_, e⟩ := State.setBytes_only l s a; rw [e]
@[simp] theorem State.setBytes_stg (s : State) (a : Nat) (l : List Byte) : (s.setBytes a l).stg = s.stg := by
  obtain ⟨_, e⟩ := State.setBytes_only l s a; rw [e]
@[simp] theorem State.setBytes_cm (s : State) (a : Nat) (l : List Byte) : (s.setBytes a l).cm = s.cm := by
  obtain ⟨_, e⟩ := State.setBytes_only l s a; rw [e]
@[simp] theorem State.setBytes_ipk (s : State) (a : Nat) (l : List Byte) : (s.setBytes a l).ipk = s.ipk := by
  obtain ⟨_, e⟩ := State.setBytes_only l s a; rw [e]
@[simp] theorem State.setBytes_iso (s : State) (a : Nat) (l : List Byte) : (s.setBytes a l).iso = s.iso := by
  obtain ⟨_, e⟩ := State.setBytes_only l s a; rw [e]
@[simp] theorem State.setBytes_bal (s : State) (a : Nat) (l : List Byte) : (s.setBytes a l).bal = s.bal := by
  obtain ⟨_, e⟩ := State.setBytes_only l s a; rw [e]
@[simp] theorem State.setBytes_csc (s : State) (a : Nat) (l : List Byte) : (s.setBytes a l).csc = s.csc := by
  obtain ⟨_, e⟩ := State.setBytes_only l s a; rw [e]
@[simp] theorem State.setBytes_est (s : State) (a : Nat) (l : List Byte) : (s.setBytes a l).est = s.est := by
  obtain ⟨_, e⟩ := State.setBytes_only l s a; rw [e]
@[simp] theorem State.setBytes_eis (s : State) (a : Nat) (l : List Byte) : (s.setBytes a l).eis = s.eis := by
  obtain ⟨_, e⟩ := State.setBytes_only l s a; rw [e]
@[simp] theorem State.setBytes_thm (s : State) (a : Nat) (l : List Byte) : (s.setBytes a l).thm = s.thm := by
  obtain ⟨_, e⟩ := State.setBytes_only l s a; rw [e]
@[simp] theorem State.setBytes_saf (s : State) (a : Nat) (l : List Byte) : (s.setBytes a l).saf = s.saf := by
  obtain ⟨_, e⟩ := State.setBytes_only l s a; rw [e]
@[simp] theorem State.setBytes_cts (s : State) (a : Nat) (l : List Byte) : (s.setBytes a l).cts = s.cts := by
  obtain ⟨_, e⟩ := State.setBytes_only l s a; rw [e]
@[simp] theorem State.setBytes_out (s : State) (a : Nat) (l : List Byte) : (s.setBytes a l).out = s.out := by
  obtain ⟨_, e⟩ := State.setBytes_only l s a; rw [e]
@[simp] theorem State.setBytes_lhm (s : State) (a : Nat) (l : List Byte) : (s.setBytes a l).lhm = s.lhm := by
  obtain ⟨_, e⟩ := State.setBytes_only l s a; rw [e]
@[simp] theorem State.setBytes_pmp (s : State) (a : Nat) (l : List Byte) : (s.setBytes a l).pmp = s.pmp := by
  obtain ⟨_, e⟩ := State.setBytes_only l s a; rw [e]
@[simp] theorem State.setBytes_cpa (s : State) (a : Nat) (l : List Byte) : (s.setBytes a l).cpa = s.cpa := by
  obtain ⟨_, e⟩ := State.setBytes_only l s a; rw [e]
@[simp] theorem State.setBytes_cpb (s : State) (a : Nat) (l : List Byte) : (s.setBytes a l).cpb = s.cpb := by
  obtain ⟨_, e⟩ := State.setBytes_only l s a; rw [e]
@[simp] theorem State.setBytes_nvm (s : State) (a : Nat) (l : List Byte) : (s.setBytes a l).nvm = s.nvm := by
  obtain ⟨_, e⟩ := State.setBytes_only l s a; rw [e]
@[simp] theorem State.setBytes_can (s : State) (a : Nat) (l : List Byte) : (s.setBytes a l).can = s.can := by
  obtain ⟨_, e⟩ := State.setBytes_only l s a; rw [e]
@[simp] theorem State.setBytes_conn (s : State) (a : Nat) (l : List Byte) : (s.setBytes a l).conn = s.conn := by
  obtain ⟨_, e⟩ := State.setBytes_only l s a; rw [e]
@[simp] theorem State.setBytes_hst (s : State) (a : Nat) (l : List Byte) : (s.setBytes a l).hst = s.hst := by
  obtain ⟨_, e⟩ := State.setBytes_only l s a; rw [e]
@[simp] theorem State.setBytes_jtag (s : State) (a : Nat) (l : List Byte) : (s.setBytes a l).jtag = s.jtag := by
  obtain ⟨_, e⟩ := State.setBytes_only l s a; rw [e]
@[simp] theorem State.setBytes_pending (s : State) (a : Nat) (l : List Byte) : (s.setBytes a l).pending = s.pending := by
  obtain ⟨_, e⟩ := State.setBytes_only l s a; rw [e]

@[simp] theorem State.setMemWord_full (s : State) (a w : Nat) : (s.setMemWord a w).full = s.full := by
  exact s.setBytes_full a (leBytes 4 w)
@[simp] theorem State.setMemWord_leadStrap (s : State) (a w : Nat) : (s.setMemWord a w).leadStrap = s.leadStrap := by
  exact s.setBytes_leadStrap a (leBytes 4 w)
@[simp] theorem State.setMemWord_now (s : State) (a w : Nat) : (s.setMemWord a w).now = s.now := by
  exact s.setBytes_now a (leBytes 4 w)
@[simp] theorem State.setMemWord_tick (s : State) (a w : Nat) : (s.setMemWord a w).tick = s.tick := by
  exact s.setBytes_tick a (leBytes 4 w)
@[simp] theorem State.setMemWord_frame (s : State) (a w : Nat) : (s.setMemWord a w).frame = s.frame := by
  exact s.setBytes_frame a (leBytes 4 w)
@[simp] theorem State.setMemWord_fstart (s : State) (a w : Nat) : (s.setMemWord a w).fstart = s.fstart := by
  exact s.setBytes_fstart a (leBytes 4 w)
@[simp] theorem State.setMemWord_regs (s : State) (a w : Nat) : (s.setMemWord a w).regs = s.regs := by
  exact s.setBytes_regs a (leBytes 4 w)
@[simp] theorem State.setMemWord_evAt (s : State) (a w : Nat) : (s.setMemWord a w).evAt = s.evAt := by
  exact s.setBytes_evAt a (leBytes 4 w)
@[simp] theorem State.setMemWord_freeCtr (s : State) (a w : Nat) : (s.setMemWord a w).freeCtr = s.freeCtr := by
  exact s.setBytes_freeCtr a (leBytes 4 w)
@[simp] theorem State.setMemWord_power (s : State) (a w : Nat) : (s.setMemWord a w).power = s.power := by
  exact s.setBytes_power a (leBytes 4 w)
@[simp] theorem State.setMemWord_ret (s : State) (a w : Nat) : (s.setMemWord a w).ret = s.ret := by
  exact s.setBytes_ret a (leBytes 4 w)
@[simp] theorem State.setMemWord_tmb (s : State) (a w : Nat) : (s.setMemWord a w).tmb = s.tmb := by
  exact s.setBytes_tmb a (leBytes 4 w)
@[simp] theorem State.setMemWord_bbx (s : State) (a w : Nat) : (s.setMemWord a w).bbx = s.bbx := by
  exact s.setBytes_bbx a (leBytes 4 w)
@[simp] theorem State.setMemWord_tt (s : State) (a w : Nat) : (s.setMemWord a w).tt = s.tt := by
  exact s.setBytes_tt a (leBytes 4 w)
@[simp] theorem State.setMemWord_stg (s : State) (a w : Nat) : (s.setMemWord a w).stg = s.stg := by
  exact s.setBytes_stg a (leBytes 4 w)
@[simp] theorem State.setMemWord_cm (s : State) (a w : Nat) : (s.setMemWord a w).cm = s.cm := by
  exact s.setBytes_cm a (leBytes 4 w)
@[simp] theorem State.setMemWord_ipk (s : State) (a w : Nat) : (s.setMemWord a w).ipk = s.ipk := by
  exact s.setBytes_ipk a (leBytes 4 w)
@[simp] theorem State.setMemWord_iso (s : State) (a w : Nat) : (s.setMemWord a w).iso = s.iso := by
  exact s.setBytes_iso a (leBytes 4 w)
@[simp] theorem State.setMemWord_bal (s : State) (a w : Nat) : (s.setMemWord a w).bal = s.bal := by
  exact s.setBytes_bal a (leBytes 4 w)
@[simp] theorem State.setMemWord_csc (s : State) (a w : Nat) : (s.setMemWord a w).csc = s.csc := by
  exact s.setBytes_csc a (leBytes 4 w)
@[simp] theorem State.setMemWord_est (s : State) (a w : Nat) : (s.setMemWord a w).est = s.est := by
  exact s.setBytes_est a (leBytes 4 w)
@[simp] theorem State.setMemWord_eis (s : State) (a w : Nat) : (s.setMemWord a w).eis = s.eis := by
  exact s.setBytes_eis a (leBytes 4 w)
@[simp] theorem State.setMemWord_thm (s : State) (a w : Nat) : (s.setMemWord a w).thm = s.thm := by
  exact s.setBytes_thm a (leBytes 4 w)
@[simp] theorem State.setMemWord_saf (s : State) (a w : Nat) : (s.setMemWord a w).saf = s.saf := by
  exact s.setBytes_saf a (leBytes 4 w)
@[simp] theorem State.setMemWord_cts (s : State) (a w : Nat) : (s.setMemWord a w).cts = s.cts := by
  exact s.setBytes_cts a (leBytes 4 w)
@[simp] theorem State.setMemWord_out (s : State) (a w : Nat) : (s.setMemWord a w).out = s.out := by
  exact s.setBytes_out a (leBytes 4 w)
@[simp] theorem State.setMemWord_lhm (s : State) (a w : Nat) : (s.setMemWord a w).lhm = s.lhm := by
  exact s.setBytes_lhm a (leBytes 4 w)
@[simp] theorem State.setMemWord_pmp (s : State) (a w : Nat) : (s.setMemWord a w).pmp = s.pmp := by
  exact s.setBytes_pmp a (leBytes 4 w)
@[simp] theorem State.setMemWord_cpa (s : State) (a w : Nat) : (s.setMemWord a w).cpa = s.cpa := by
  exact s.setBytes_cpa a (leBytes 4 w)
@[simp] theorem State.setMemWord_cpb (s : State) (a w : Nat) : (s.setMemWord a w).cpb = s.cpb := by
  exact s.setBytes_cpb a (leBytes 4 w)
@[simp] theorem State.setMemWord_nvm (s : State) (a w : Nat) : (s.setMemWord a w).nvm = s.nvm := by
  exact s.setBytes_nvm a (leBytes 4 w)
@[simp] theorem State.setMemWord_can (s : State) (a w : Nat) : (s.setMemWord a w).can = s.can := by
  exact s.setBytes_can a (leBytes 4 w)
@[simp] theorem State.setMemWord_conn (s : State) (a w : Nat) : (s.setMemWord a w).conn = s.conn := by
  exact s.setBytes_conn a (leBytes 4 w)
@[simp] theorem State.setMemWord_hst (s : State) (a w : Nat) : (s.setMemWord a w).hst = s.hst := by
  exact s.setBytes_hst a (leBytes 4 w)
@[simp] theorem State.setMemWord_jtag (s : State) (a w : Nat) : (s.setMemWord a w).jtag = s.jtag := by
  exact s.setBytes_jtag a (leBytes 4 w)
@[simp] theorem State.setMemWord_pending (s : State) (a w : Nat) : (s.setMemWord a w).pending = s.pending := by
  exact s.setBytes_pending a (leBytes 4 w)

@[simp] theorem State.setMemWords_full (s : State) (a : Nat) (l : List Nat) : (s.setMemWords a l).full = s.full := by
  induction l generalizing s a with
  | nil => rfl
  | cons w l ih => exact (ih _ _).trans (s.setMemWord_full a w)
@[simp] theorem State.setMemWords_leadStrap (s : State) (a : Nat) (l : List Nat) : (s.setMemWords a l).leadStrap = s.leadStrap := by
  induction l generalizing s a with
  | nil => rfl
  | cons w l ih => exact (ih _ _).trans (s.setMemWord_leadStrap a w)
@[simp] theorem State.setMemWords_now (s : State) (a : Nat) (l : List Nat) : (s.setMemWords a l).now = s.now := by
  induction l generalizing s a with
  | nil => rfl
  | cons w l ih => exact (ih _ _).trans (s.setMemWord_now a w)
@[simp] theorem State.setMemWords_tick (s : State) (a : Nat) (l : List Nat) : (s.setMemWords a l).tick = s.tick := by
  induction l generalizing s a with
  | nil => rfl
  | cons w l ih => exact (ih _ _).trans (s.setMemWord_tick a w)
@[simp] theorem State.setMemWords_frame (s : State) (a : Nat) (l : List Nat) : (s.setMemWords a l).frame = s.frame := by
  induction l generalizing s a with
  | nil => rfl
  | cons w l ih => exact (ih _ _).trans (s.setMemWord_frame a w)
@[simp] theorem State.setMemWords_fstart (s : State) (a : Nat) (l : List Nat) : (s.setMemWords a l).fstart = s.fstart := by
  induction l generalizing s a with
  | nil => rfl
  | cons w l ih => exact (ih _ _).trans (s.setMemWord_fstart a w)
@[simp] theorem State.setMemWords_regs (s : State) (a : Nat) (l : List Nat) : (s.setMemWords a l).regs = s.regs := by
  induction l generalizing s a with
  | nil => rfl
  | cons w l ih => exact (ih _ _).trans (s.setMemWord_regs a w)
@[simp] theorem State.setMemWords_evAt (s : State) (a : Nat) (l : List Nat) : (s.setMemWords a l).evAt = s.evAt := by
  induction l generalizing s a with
  | nil => rfl
  | cons w l ih => exact (ih _ _).trans (s.setMemWord_evAt a w)
@[simp] theorem State.setMemWords_freeCtr (s : State) (a : Nat) (l : List Nat) : (s.setMemWords a l).freeCtr = s.freeCtr := by
  induction l generalizing s a with
  | nil => rfl
  | cons w l ih => exact (ih _ _).trans (s.setMemWord_freeCtr a w)
@[simp] theorem State.setMemWords_power (s : State) (a : Nat) (l : List Nat) : (s.setMemWords a l).power = s.power := by
  induction l generalizing s a with
  | nil => rfl
  | cons w l ih => exact (ih _ _).trans (s.setMemWord_power a w)
@[simp] theorem State.setMemWords_ret (s : State) (a : Nat) (l : List Nat) : (s.setMemWords a l).ret = s.ret := by
  induction l generalizing s a with
  | nil => rfl
  | cons w l ih => exact (ih _ _).trans (s.setMemWord_ret a w)
@[simp] theorem State.setMemWords_tmb (s : State) (a : Nat) (l : List Nat) : (s.setMemWords a l).tmb = s.tmb := by
  induction l generalizing s a with
  | nil => rfl
  | cons w l ih => exact (ih _ _).trans (s.setMemWord_tmb a w)
@[simp] theorem State.setMemWords_bbx (s : State) (a : Nat) (l : List Nat) : (s.setMemWords a l).bbx = s.bbx := by
  induction l generalizing s a with
  | nil => rfl
  | cons w l ih => exact (ih _ _).trans (s.setMemWord_bbx a w)
@[simp] theorem State.setMemWords_tt (s : State) (a : Nat) (l : List Nat) : (s.setMemWords a l).tt = s.tt := by
  induction l generalizing s a with
  | nil => rfl
  | cons w l ih => exact (ih _ _).trans (s.setMemWord_tt a w)
@[simp] theorem State.setMemWords_stg (s : State) (a : Nat) (l : List Nat) : (s.setMemWords a l).stg = s.stg := by
  induction l generalizing s a with
  | nil => rfl
  | cons w l ih => exact (ih _ _).trans (s.setMemWord_stg a w)
@[simp] theorem State.setMemWords_cm (s : State) (a : Nat) (l : List Nat) : (s.setMemWords a l).cm = s.cm := by
  induction l generalizing s a with
  | nil => rfl
  | cons w l ih => exact (ih _ _).trans (s.setMemWord_cm a w)
@[simp] theorem State.setMemWords_ipk (s : State) (a : Nat) (l : List Nat) : (s.setMemWords a l).ipk = s.ipk := by
  induction l generalizing s a with
  | nil => rfl
  | cons w l ih => exact (ih _ _).trans (s.setMemWord_ipk a w)
@[simp] theorem State.setMemWords_iso (s : State) (a : Nat) (l : List Nat) : (s.setMemWords a l).iso = s.iso := by
  induction l generalizing s a with
  | nil => rfl
  | cons w l ih => exact (ih _ _).trans (s.setMemWord_iso a w)
@[simp] theorem State.setMemWords_bal (s : State) (a : Nat) (l : List Nat) : (s.setMemWords a l).bal = s.bal := by
  induction l generalizing s a with
  | nil => rfl
  | cons w l ih => exact (ih _ _).trans (s.setMemWord_bal a w)
@[simp] theorem State.setMemWords_csc (s : State) (a : Nat) (l : List Nat) : (s.setMemWords a l).csc = s.csc := by
  induction l generalizing s a with
  | nil => rfl
  | cons w l ih => exact (ih _ _).trans (s.setMemWord_csc a w)
@[simp] theorem State.setMemWords_est (s : State) (a : Nat) (l : List Nat) : (s.setMemWords a l).est = s.est := by
  induction l generalizing s a with
  | nil => rfl
  | cons w l ih => exact (ih _ _).trans (s.setMemWord_est a w)
@[simp] theorem State.setMemWords_eis (s : State) (a : Nat) (l : List Nat) : (s.setMemWords a l).eis = s.eis := by
  induction l generalizing s a with
  | nil => rfl
  | cons w l ih => exact (ih _ _).trans (s.setMemWord_eis a w)
@[simp] theorem State.setMemWords_thm (s : State) (a : Nat) (l : List Nat) : (s.setMemWords a l).thm = s.thm := by
  induction l generalizing s a with
  | nil => rfl
  | cons w l ih => exact (ih _ _).trans (s.setMemWord_thm a w)
@[simp] theorem State.setMemWords_saf (s : State) (a : Nat) (l : List Nat) : (s.setMemWords a l).saf = s.saf := by
  induction l generalizing s a with
  | nil => rfl
  | cons w l ih => exact (ih _ _).trans (s.setMemWord_saf a w)
@[simp] theorem State.setMemWords_cts (s : State) (a : Nat) (l : List Nat) : (s.setMemWords a l).cts = s.cts := by
  induction l generalizing s a with
  | nil => rfl
  | cons w l ih => exact (ih _ _).trans (s.setMemWord_cts a w)
@[simp] theorem State.setMemWords_out (s : State) (a : Nat) (l : List Nat) : (s.setMemWords a l).out = s.out := by
  induction l generalizing s a with
  | nil => rfl
  | cons w l ih => exact (ih _ _).trans (s.setMemWord_out a w)
@[simp] theorem State.setMemWords_lhm (s : State) (a : Nat) (l : List Nat) : (s.setMemWords a l).lhm = s.lhm := by
  induction l generalizing s a with
  | nil => rfl
  | cons w l ih => exact (ih _ _).trans (s.setMemWord_lhm a w)
@[simp] theorem State.setMemWords_pmp (s : State) (a : Nat) (l : List Nat) : (s.setMemWords a l).pmp = s.pmp := by
  induction l generalizing s a with
  | nil => rfl
  | cons w l ih => exact (ih _ _).trans (s.setMemWord_pmp a w)
@[simp] theorem State.setMemWords_cpa (s : State) (a : Nat) (l : List Nat) : (s.setMemWords a l).cpa = s.cpa := by
  induction l generalizing s a with
  | nil => rfl
  | cons w l ih => exact (ih _ _).trans (s.setMemWord_cpa a w)
@[simp] theorem State.setMemWords_cpb (s : State) (a : Nat) (l : List Nat) : (s.setMemWords a l).cpb = s.cpb := by
  induction l generalizing s a with
  | nil => rfl
  | cons w l ih => exact (ih _ _).trans (s.setMemWord_cpb a w)
@[simp] theorem State.setMemWords_nvm (s : State) (a : Nat) (l : List Nat) : (s.setMemWords a l).nvm = s.nvm := by
  induction l generalizing s a with
  | nil => rfl
  | cons w l ih => exact (ih _ _).trans (s.setMemWord_nvm a w)
@[simp] theorem State.setMemWords_can (s : State) (a : Nat) (l : List Nat) : (s.setMemWords a l).can = s.can := by
  induction l generalizing s a with
  | nil => rfl
  | cons w l ih => exact (ih _ _).trans (s.setMemWord_can a w)
@[simp] theorem State.setMemWords_conn (s : State) (a : Nat) (l : List Nat) : (s.setMemWords a l).conn = s.conn := by
  induction l generalizing s a with
  | nil => rfl
  | cons w l ih => exact (ih _ _).trans (s.setMemWord_conn a w)
@[simp] theorem State.setMemWords_hst (s : State) (a : Nat) (l : List Nat) : (s.setMemWords a l).hst = s.hst := by
  induction l generalizing s a with
  | nil => rfl
  | cons w l ih => exact (ih _ _).trans (s.setMemWord_hst a w)
@[simp] theorem State.setMemWords_jtag (s : State) (a : Nat) (l : List Nat) : (s.setMemWords a l).jtag = s.jtag := by
  induction l generalizing s a with
  | nil => rfl
  | cons w l ih => exact (ih _ _).trans (s.setMemWord_jtag a w)
@[simp] theorem State.setMemWords_pending (s : State) (a : Nat) (l : List Nat) : (s.setMemWords a l).pending = s.pending := by
  induction l generalizing s a with
  | nil => rfl
  | cons w l ih => exact (ih _ _).trans (s.setMemWord_pending a w)

end Sys2Proof.Machine
end

