-- ==== Sys2Proof/Laws/Keeps.lean ====
section
/-!
SUPPORT. What every named operation keeps (`Keeps`): the rules that build it, and the small operations.
-/
namespace Sys2Proof.Machine

theorem Keeps.refl (s : State) : Keeps s s := ⟨id, Nat.le_refl _, rfl, rfl⟩

theorem Keeps.trans {s t u : State} (a : Keeps s t) (b : Keeps t u) : Keeps s u :=
  ⟨fun h => b.canon (a.canon h), Nat.le_trans a.time b.time, b.build.trans a.build, b.queue.trans a.queue⟩

/-- A change of fields other than the two stores, the build and the queue. -/
theorem Keeps.upd {s u t : State} (h : Keeps s u) (hr : t.regs = u.regs) (hm : t.mem = u.mem) (hn : u.now ≤ t.now)
    (hf : t.full = u.full) (hp : t.pending = u.pending) : Keeps s t :=
  h.trans ⟨fun c => State.canon_congr u t hr hm c, hn, hf, hp⟩

/-- `Keeps` by the parts of the later state that it looks at. -/
structure KeepsParts (s : State) (regs : KMap Word) (mem : List Host.Cell) (now : Nat) (full : Bool)
    (pending : List Instr) : Prop where
  canon : s.canon = true → kwf resetWord regs = true ∧ Memory.wf mem = true
  time : s.now ≤ now
  build : full = s.full
  queue : pending = s.pending

/-- A state given by its fields. -/
theorem Keeps.mk_iff {s : State}
    {full_ : Bool}
    {leadStrap_ : Bool}
    {now_ : Nat}
    {tick_ : Nat}
    {frame_ : Nat}
    {fstart_ : Nat}
    {regs_ : KMap Word}
    {mem_ : List Host.Cell}
    {evAt_ : KMap Nat}
    {freeCtr_ : Nat}
    {power_ : Power}
    {ret_ : Retained}
    {tmb_ : Tmb}
    {bbx_ : Bbx}
    {tt_ : Tt}
    {stg_ : Stg}
    {cm_ : CellMeas}
    {ipk_ : Ipk}
    {iso_ : Iso}
    {bal_ : Bal}
    {csc_ : Csc}
    {est_ : Est}
    {eis_ : Eis}
    {thm_ : Thm}
    {saf_ : Saf}
    {cts_ : Cts}
    {out_ : Out}
    {lhm_ : Lhm}
    {pmp_ : Pmp}
    {cpa_ : Core}
    {cpb_ : Core}
    {nvm_ : Nvm}
    {can_ : List Can}
    {conn_ : List Conn}
    {hst_ : Hst}
    {jtag_ : Jtag}
    {pending_ : List Instr} :
    Keeps s (State.mk full_ leadStrap_ now_ tick_ frame_ fstart_ regs_ mem_ evAt_ freeCtr_ power_ ret_ tmb_ bbx_ tt_ stg_ cm_ ipk_ iso_ bal_ csc_ est_ eis_ thm_ saf_ cts_ out_ lhm_ pmp_ cpa_ cpb_ nvm_ can_ conn_ hst_ jtag_ pending_) ↔
      KeepsParts s regs_ mem_ now_ full_ pending_ :=
  ⟨fun h => ⟨fun c => (State.canon_iff _).1 (h.canon c), h.time, h.build, h.queue⟩,
   fun h => ⟨fun c => (State.canon_iff _).2 (h.canon c), h.time, h.build, h.queue⟩⟩

/-- A change of fields that `Keeps` does not look at. -/
theorem KeepsParts.of {s u : State} {regs : KMap Word} {mem : List Host.Cell} {now : Nat} {full : Bool}
    {pending : List Instr} (h : Keeps s u) (hr : regs = u.regs) (hm : mem = u.mem) (hn : u.now ≤ now)
    (hf : full = u.full) (hp : pending = u.pending) : KeepsParts s regs mem now full pending := by
  subst hr hm hf hp
  exact ⟨fun c => (State.canon_iff _).1 (h.canon c), Nat.le_trans h.time hn, h.build, h.queue⟩

theorem Keeps.ite {s a b : State} {c : Prop} [Decidable c] (ha : c → Keeps s a) (hb : ¬c → Keeps s b) :
    Keeps s (if c then a else b) := by
  split
  · exact ha ‹_›
  · exact hb ‹_›

theorem Keeps.foldl {α : Type} {s u : State} {f : State → α → State} {l : List α} (h : Keeps s u)
    (hf : ∀ x y, Keeps s x → Keeps s (f x y)) : Keeps s (l.foldl f u) := by
  induction l generalizing u with
  | nil => exact h
  | cons y l ih => exact ih (hf u y h)

/-- The answer of a command, if it is a next state, keeps what `Keeps` says. -/
def KeepsR (s : State) (r : Result) : Prop := ∀ t, r = .next t → Keeps s t

theorem KeepsR.next {s t : State} (h : Keeps s t) : KeepsR s (.next t) := by
  intro u e
  cases e
  exact h

theorem KeepsR.ite {s : State} {a b : Result} {c : Prop} [Decidable c] (ha : c → KeepsR s a) (hb : ¬c → KeepsR s b) :
    KeepsR s (if c then a else b) := by
  split
  · exact ha ‹_›
  · exact hb ‹_›

/-! ### The small operations, after whatever was kept before -/

variable {s0 s : State}

theorem State.setWord_keeps (h : Keeps s0 s) (a : Nat) (w : Word) : Keeps s0 (s.setWord a w) :=
  h.trans ⟨State.canon_setWord s a w, Nat.le_refl _, rfl, rfl⟩

theorem State.setByte_keeps (h : Keeps s0 s) (a : Nat) (b : Byte) : Keeps s0 (s.setByte a b) :=
  h.trans ⟨State.canon_setByte s a b, Nat.le_refl _, rfl, rfl⟩

theorem State.put_keeps (h : Keeps s0 s) (f : Fld) (v : Nat) : Keeps s0 (s.put f v) := State.setWord_keeps h _ _
theorem State.putB_keeps (h : Keeps s0 s) (f : Fld) (b : Bool) : Keeps s0 (s.putB f b) := State.setWord_keeps h _ _
theorem State.putI_keeps (h : Keeps s0 s) (f : Fld) (v : Int) : Keeps s0 (s.putI f v) := State.setWord_keeps h _ _
theorem State.putSat_keeps (h : Keeps s0 s) (f : Fld) (v : Nat) : Keeps s0 (s.putSat f v) := State.setWord_keeps h _ _
theorem State.putSatI_keeps (h : Keeps s0 s) (f : Fld) (v : Int) : Keeps s0 (s.putSatI f v) := State.setWord_keeps h _ _
theorem State.putBit_keeps (h : Keeps s0 s) (f : Fld) (i : Nat) (b : Bool) : Keeps s0 (s.putBit f i b) :=
  State.setWord_keeps h _ _
theorem State.inc_keeps (h : Keeps s0 s) (f : Fld) : Keeps s0 (s.inc f) := State.setWord_keeps h _ _
theorem State.incSat_keeps (h : Keeps s0 s) (f : Fld) : Keeps s0 (s.incSat f) := State.setWord_keeps h _ _

theorem State.setBytes_keeps (h : Keeps s0 s) (a : Nat) (l : List Byte) : Keeps s0 (s.setBytes a l) := by
  obtain ⟨m, e⟩ := State.setBytes_only l s a
  exact h.trans ⟨State.canon_setBytes l s a, by rw [e], by rw [e], by rw [e]⟩

theorem State.setMemWord_keeps (h : Keeps s0 s) (a w : Nat) : Keeps s0 (s.setMemWord a w) := State.setBytes_keeps h _ _

theorem State.setMemWords_keeps (h : Keeps s0 s) (a : Nat) (l : List Nat) : Keeps s0 (s.setMemWords a l) := by
  induction l generalizing s a with
  | nil => exact h
  | cons w l ih => exact ih (State.setMemWord_keeps h a w) _

theorem State.advanceTo_keeps (h : Keeps s0 s) (t : Nat) : Keeps s0 (s.advanceTo t) :=
  h.trans ⟨State.canon_congr s _ rfl rfl, Nat.le_max_left _ _, rfl, rfl⟩

theorem State.nextFree_keeps (h : Keeps s0 s) : Keeps s0 s.nextFree := h.upd rfl rfl (Nat.le_refl _) rfl rfl

theorem State.record_keeps (h : Keeps s0 s) (k c d0 d1 d2 : Nat) : Keeps s0 (s.record k c d0 d1 d2) := by
  obtain ⟨r, m, x, e⟩ := s.record_only k c d0 d1 d2
  exact h.trans ⟨s.canon_record k c d0 d1 d2, by rw [e], by rw [e], by rw [e]⟩

theorem State.note_keeps (h : Keeps s0 s) (c d0 d1 d2 : Nat) : Keeps s0 (s.note c d0 d1 d2) :=
  State.record_keeps h _ _ _ _ _

theorem State.raise_keeps (h : Keeps s0 s) (e : Event) : Keeps s0 (s.raise e) := by
  obtain ⟨r, m, x, v, e'⟩ := s.raise_only e
  exact h.trans ⟨s.canon_raise e, by rw [e'], by rw [e'], by rw [e']⟩

theorem State.ringPut_keeps (h : Keeps s0 s) (r : BbxRec) : Keeps s0 (s.ringPut r) := by
  obtain ⟨m, e⟩ := State.setBytes_only r.bytes s (recordAddr (s.get Reg.BBX_RECPTR_NEXT))
  refine h.trans ⟨s.canon_ringPut r, ?_, ?_, ?_⟩ <;> simp [State.ringPut, e]

end Sys2Proof.Machine
end

