-- ==== Sys2Proof/Laws/KeepsBase.lean ====
section
/-!
SUPPORT. What the operations and commands of Flags, Bbx, TimeBase, Balancing, Outputs, Sideshows, Contactors keep: canonical stores, time, build and queue.
Each lemma peels its operation apart and cites the lemmas of the operations it calls.
-/
namespace Sys2Proof.Machine

theorem State.raiseIf_keeps {s0 : State} (s : State) (c : Bool) (e : Event) (h : Keeps s0 s) : Keeps s0 (State.raiseIf s c e) := by
  unfold State.raiseIf
  repeat' (first
    | with_reducible assumption
    | (simp -zeta only [Keeps.mk_iff]; with_reducible refine KeepsParts.of ?_ rfl rfl (Nat.le_refl _) rfl rfl)
    | ((fail_if_success (conv => arg 2; congr)); extract_lets +onlyGivenNames x; first | (have hx : Keeps s0 x := ?_; (on_goal 2 => dsimp -zeta only [x]); (on_goal 1 => clear_value x)) | (have hx : Keeps s0 x.1 := ?_; (on_goal 2 => dsimp -zeta only [x]); (on_goal 1 => clear_value x)) | clear_value x)
    | with_reducible refine Keeps.ite (fun _ => ?_) (fun _ => ?_)
    | with_reducible apply State.raise_keeps
    | split
    | dsimp -zeta only)

theorem State.clearEvents_keeps {s0 : State} (s : State) (page : Nat) (mask : Word) (h : Keeps s0 s) : Keeps s0 (State.clearEvents s page mask) := by
  unfold State.clearEvents
  repeat' (first
    | with_reducible assumption
    | (simp -zeta only [Keeps.mk_iff]; with_reducible refine KeepsParts.of ?_ rfl rfl (Nat.le_refl _) rfl rfl)
    | ((fail_if_success (conv => arg 2; congr)); extract_lets +onlyGivenNames x; first | (have hx : Keeps s0 x := ?_; (on_goal 2 => dsimp -zeta only [x]); (on_goal 1 => clear_value x)) | (have hx : Keeps s0 x.1 := ?_; (on_goal 2 => dsimp -zeta only [x]); (on_goal 1 => clear_value x)) | clear_value x)
    | with_reducible refine Keeps.ite (fun _ => ?_) (fun _ => ?_)
    | with_reducible apply State.setWord_keeps
    | split
    | dsimp -zeta only)

theorem State.setCause_keeps {s0 : State} (s : State) (f : Fld) (e : Event) (h : Keeps s0 s) : Keeps s0 (State.setCause s f e) := by
  unfold State.setCause
  repeat' (first
    | with_reducible assumption
    | (simp -zeta only [Keeps.mk_iff]; with_reducible refine KeepsParts.of ?_ rfl rfl (Nat.le_refl _) rfl rfl)
    | ((fail_if_success (conv => arg 2; congr)); extract_lets +onlyGivenNames x; first | (have hx : Keeps s0 x := ?_; (on_goal 2 => dsimp -zeta only [x]); (on_goal 1 => clear_value x)) | (have hx : Keeps s0 x.1 := ?_; (on_goal 2 => dsimp -zeta only [x]); (on_goal 1 => clear_value x)) | clear_value x)
    | with_reducible refine Keeps.ite (fun _ => ?_) (fun _ => ?_)
    | with_reducible apply State.putB_keeps
    | with_reducible apply State.raise_keeps
    | split
    | dsimp -zeta only)

theorem State.accessRecord_keeps {s0 : State} (s : State) (ini : Ini) (write : Bool) (addr kind : Nat) (h : Keeps s0 s) : Keeps s0 (State.accessRecord s ini write addr kind) := by
  unfold State.accessRecord
  repeat' (first
    | with_reducible assumption
    | (simp -zeta only [Keeps.mk_iff]; with_reducible refine KeepsParts.of ?_ rfl rfl (Nat.le_refl _) rfl rfl)
    | ((fail_if_success (conv => arg 2; congr)); extract_lets +onlyGivenNames x; first | (have hx : Keeps s0 x := ?_; (on_goal 2 => dsimp -zeta only [x]); (on_goal 1 => clear_value x)) | (have hx : Keeps s0 x.1 := ?_; (on_goal 2 => dsimp -zeta only [x]); (on_goal 1 => clear_value x)) | clear_value x)
    | with_reducible refine Keeps.ite (fun _ => ?_) (fun _ => ?_)
    | with_reducible apply State.put_keeps
    | with_reducible apply State.putB_keeps
    | split
    | dsimp -zeta only)

theorem State.accessFault_keeps {s0 : State} (s : State) (ini : Ini) (write : Bool) (addr : Nat) (h : Keeps s0 s) : Keeps s0 (State.accessFault s ini write addr) := by
  unfold State.accessFault
  repeat' (first
    | with_reducible assumption
    | (simp -zeta only [Keeps.mk_iff]; with_reducible refine KeepsParts.of ?_ rfl rfl (Nat.le_refl _) rfl rfl)
    | ((fail_if_success (conv => arg 2; congr)); extract_lets +onlyGivenNames x; first | (have hx : Keeps s0 x := ?_; (on_goal 2 => dsimp -zeta only [x]); (on_goal 1 => clear_value x)) | (have hx : Keeps s0 x.1 := ?_; (on_goal 2 => dsimp -zeta only [x]); (on_goal 1 => clear_value x)) | clear_value x)
    | with_reducible refine Keeps.ite (fun _ => ?_) (fun _ => ?_)
    | with_reducible apply State.raise_keeps
    | with_reducible apply State.accessRecord_keeps
    | split
    | dsimp -zeta only)

theorem State.accessDisabled_keeps {s0 : State} (s : State) (ini : Ini) (addr : Nat) (h : Keeps s0 s) : Keeps s0 (State.accessDisabled s ini addr) := by
  unfold State.accessDisabled
  repeat' (first
    | with_reducible assumption
    | (simp -zeta only [Keeps.mk_iff]; with_reducible refine KeepsParts.of ?_ rfl rfl (Nat.le_refl _) rfl rfl)
    | ((fail_if_success (conv => arg 2; congr)); extract_lets +onlyGivenNames x; first | (have hx : Keeps s0 x := ?_; (on_goal 2 => dsimp -zeta only [x]); (on_goal 1 => clear_value x)) | (have hx : Keeps s0 x.1 := ?_; (on_goal 2 => dsimp -zeta only [x]); (on_goal 1 => clear_value x)) | clear_value x)
    | with_reducible refine Keeps.ite (fun _ => ?_) (fun _ => ?_)
    | with_reducible apply State.raise_keeps
    | with_reducible apply State.accessRecord_keeps
    | split
    | dsimp -zeta only)

theorem State.configLocked_keeps {s0 : State} (s : State) (ini : Ini) (addr : Nat) (h : Keeps s0 s) : Keeps s0 (State.configLocked s ini addr) := by
  unfold State.configLocked
  repeat' (first
    | with_reducible assumption
    | (simp -zeta only [Keeps.mk_iff]; with_reducible refine KeepsParts.of ?_ rfl rfl (Nat.le_refl _) rfl rfl)
    | ((fail_if_success (conv => arg 2; congr)); extract_lets +onlyGivenNames x; first | (have hx : Keeps s0 x := ?_; (on_goal 2 => dsimp -zeta only [x]); (on_goal 1 => clear_value x)) | (have hx : Keeps s0 x.1 := ?_; (on_goal 2 => dsimp -zeta only [x]); (on_goal 1 => clear_value x)) | clear_value x)
    | with_reducible refine Keeps.ite (fun _ => ?_) (fun _ => ?_)
    | with_reducible apply State.raise_keeps
    | with_reducible apply State.accessRecord_keeps
    | split
    | dsimp -zeta only)

theorem State.onPage_keeps {s0 : State} (s : State) (ini : Ini) (addr : Nat) (act : State → State) (h : Keeps s0 s)
    (hact : ∀ x, Keeps s0 x → Keeps s0 (act x)) : Keeps s0 (State.onPage s ini addr act) := by
  unfold State.onPage
  split
  · exact hact s h
  · exact State.accessDisabled_keeps s ini addr h

theorem State.putSnapshot_keeps {s0 : State} (s : State) (typ : Nat) (h : Keeps s0 s) : Keeps s0 (State.putSnapshot s typ) := by
  unfold State.putSnapshot
  repeat' (first
    | with_reducible assumption
    | (simp -zeta only [Keeps.mk_iff]; with_reducible refine KeepsParts.of ?_ rfl rfl (Nat.le_refl _) rfl rfl)
    | ((fail_if_success (conv => arg 2; congr)); extract_lets +onlyGivenNames x; first | (have hx : Keeps s0 x := ?_; (on_goal 2 => dsimp -zeta only [x]); (on_goal 1 => clear_value x)) | (have hx : Keeps s0 x.1 := ?_; (on_goal 2 => dsimp -zeta only [x]); (on_goal 1 => clear_value x)) | clear_value x)
    | with_reducible refine Keeps.ite (fun _ => ?_) (fun _ => ?_)
    | with_reducible apply State.setBytes_keeps
    | with_reducible apply State.setMemWords_keeps
    | split
    | dsimp -zeta only)

theorem State.freeze_keeps {s0 : State} (s : State) (trig src : Nat) (h : Keeps s0 s) : Keeps s0 (State.freeze s trig src) := by
  unfold State.freeze
  repeat' (first
    | with_reducible assumption
    | (simp -zeta only [Keeps.mk_iff]; with_reducible refine KeepsParts.of ?_ rfl rfl (Nat.le_refl _) rfl rfl)
    | ((fail_if_success (conv => arg 2; congr)); extract_lets +onlyGivenNames x; first | (have hx : Keeps s0 x := ?_; (on_goal 2 => dsimp -zeta only [x]); (on_goal 1 => clear_value x)) | (have hx : Keeps s0 x.1 := ?_; (on_goal 2 => dsimp -zeta only [x]); (on_goal 1 => clear_value x)) | clear_value x)
    | with_reducible refine Keeps.ite (fun _ => ?_) (fun _ => ?_)
    | with_reducible apply State.put_keeps
    | with_reducible apply State.putB_keeps
    | with_reducible apply State.inc_keeps
    | with_reducible apply State.incSat_keeps
    | with_reducible apply State.note_keeps
    | with_reducible apply State.setCause_keeps
    | with_reducible apply State.putSnapshot_keeps
    | split
    | dsimp -zeta only)

theorem State.writeFreezeBlock_keeps {s0 : State} (s : State) (f : Freeze) (n : Nat) (h : Keeps s0 s) : Keeps s0 (State.writeFreezeBlock s f n) := by
  unfold State.writeFreezeBlock
  repeat' (first
    | with_reducible assumption
    | (simp -zeta only [Keeps.mk_iff]; with_reducible refine KeepsParts.of ?_ rfl rfl (Nat.le_refl _) rfl rfl)
    | ((fail_if_success (conv => arg 2; congr)); extract_lets +onlyGivenNames x; first | (have hx : Keeps s0 x := ?_; (on_goal 2 => dsimp -zeta only [x]); (on_goal 1 => clear_value x)) | (have hx : Keeps s0 x.1 := ?_; (on_goal 2 => dsimp -zeta only [x]); (on_goal 1 => clear_value x)) | clear_value x)
    | with_reducible refine Keeps.ite (fun _ => ?_) (fun _ => ?_)
    | with_reducible apply State.setBytes_keeps
    | split
    | dsimp -zeta only)

theorem State.ringsResume_keeps {s0 : State} (s : State) (h : Keeps s0 s) : Keeps s0 (State.ringsResume s) := by
  unfold State.ringsResume
  repeat' (first
    | with_reducible assumption
    | (simp -zeta only [Keeps.mk_iff]; with_reducible refine KeepsParts.of ?_ rfl rfl (Nat.le_refl _) rfl rfl)
    | ((fail_if_success (conv => arg 2; congr)); extract_lets +onlyGivenNames x; first | (have hx : Keeps s0 x := ?_; (on_goal 2 => dsimp -zeta only [x]); (on_goal 1 => clear_value x)) | (have hx : Keeps s0 x.1 := ?_; (on_goal 2 => dsimp -zeta only [x]); (on_goal 1 => clear_value x)) | clear_value x)
    | with_reducible refine Keeps.ite (fun _ => ?_) (fun _ => ?_)
    | with_reducible apply State.note_keeps
    | with_reducible apply State.ringPut_keeps
    | with_reducible apply State.setCause_keeps
    | (with_reducible apply Keeps.foldl; on_goal 2 => (intro x y hx; try dsimp -zeta only))
    | split
    | dsimp -zeta only)

theorem State.freezeEnd_keeps {s0 : State} (s : State) (n : Nat) (h : Keeps s0 s) : Keeps s0 (State.freezeEnd s n) := by
  unfold State.freezeEnd
  repeat' (first
    | with_reducible assumption
    | (simp -zeta only [Keeps.mk_iff]; with_reducible refine KeepsParts.of ?_ rfl rfl (Nat.le_refl _) rfl rfl)
    | ((fail_if_success (conv => arg 2; congr)); extract_lets +onlyGivenNames x; first | (have hx : Keeps s0 x := ?_; (on_goal 2 => dsimp -zeta only [x]); (on_goal 1 => clear_value x)) | (have hx : Keeps s0 x.1 := ?_; (on_goal 2 => dsimp -zeta only [x]); (on_goal 1 => clear_value x)) | clear_value x)
    | with_reducible refine Keeps.ite (fun _ => ?_) (fun _ => ?_)
    | with_reducible apply State.put_keeps
    | with_reducible apply State.putB_keeps
    | with_reducible apply State.setCause_keeps
    | with_reducible apply State.ringsResume_keeps
    | split
    | dsimp -zeta only)

theorem State.bbxRebuild_keeps {s0 : State} (s : State) (h : Keeps s0 s) : Keeps s0 (State.bbxRebuild s) := by
  unfold State.bbxRebuild
  repeat' (first
    | with_reducible assumption
    | (simp -zeta only [Keeps.mk_iff]; with_reducible refine KeepsParts.of ?_ rfl rfl (Nat.le_refl _) rfl rfl)
    | ((fail_if_success (conv => arg 2; congr)); extract_lets +onlyGivenNames x; first | (have hx : Keeps s0 x := ?_; (on_goal 2 => dsimp -zeta only [x]); (on_goal 1 => clear_value x)) | (have hx : Keeps s0 x.1 := ?_; (on_goal 2 => dsimp -zeta only [x]); (on_goal 1 => clear_value x)) | clear_value x)
    | with_reducible refine Keeps.ite (fun _ => ?_) (fun _ => ?_)
    | with_reducible apply State.put_keeps
    | with_reducible apply State.putB_keeps
    | with_reducible apply State.setCause_keeps
    | split
    | dsimp -zeta only)

theorem execBbxSwPush_keeps {s0 : State} (ini : Ini) (s : State) (h : Keeps s0 s) : KeepsR s0 (execBbxSwPush ini s) := by
  unfold execBbxSwPush
  repeat' (first
    | with_reducible assumption
    | (simp -zeta only [Keeps.mk_iff]; with_reducible refine KeepsParts.of ?_ rfl rfl (Nat.le_refl _) rfl rfl)
    | ((fail_if_success (conv => arg 2; congr)); extract_lets +onlyGivenNames x; first | (have hx : Keeps s0 x := ?_; (on_goal 2 => dsimp -zeta only [x]); (on_goal 1 => clear_value x)) | (have hx : Keeps s0 x.1 := ?_; (on_goal 2 => dsimp -zeta only [x]); (on_goal 1 => clear_value x)) | clear_value x)
    | with_reducible refine Keeps.ite (fun _ => ?_) (fun _ => ?_)
    | with_reducible refine KeepsR.ite (fun _ => ?_) (fun _ => ?_)
    | with_reducible apply KeepsR.next
    | with_reducible apply State.nextFree_keeps
    | with_reducible apply State.record_keeps
    | split
    | dsimp -zeta only)

theorem execBbxFreezeCommand_keeps {s0 : State} (ini : Ini) (s : State) (h : Keeps s0 s) : KeepsR s0 (execBbxFreezeCommand ini s) := by
  unfold execBbxFreezeCommand
  repeat' (first
    | with_reducible assumption
    | (simp -zeta only [Keeps.mk_iff]; with_reducible refine KeepsParts.of ?_ rfl rfl (Nat.le_refl _) rfl rfl)
    | ((fail_if_success (conv => arg 2; congr)); extract_lets +onlyGivenNames x; first | (have hx : Keeps s0 x := ?_; (on_goal 2 => dsimp -zeta only [x]); (on_goal 1 => clear_value x)) | (have hx : Keeps s0 x.1 := ?_; (on_goal 2 => dsimp -zeta only [x]); (on_goal 1 => clear_value x)) | clear_value x)
    | with_reducible refine Keeps.ite (fun _ => ?_) (fun _ => ?_)
    | with_reducible refine KeepsR.ite (fun _ => ?_) (fun _ => ?_)
    | with_reducible apply KeepsR.next
    | with_reducible apply State.freeze_keeps
    | split
    | dsimp -zeta only)

theorem execBbxRelease_keeps {s0 : State} (_ini : Ini) (s : State) (h : Keeps s0 s) : KeepsR s0 (execBbxRelease _ini s) := by
  unfold execBbxRelease
  repeat' (first
    | with_reducible assumption
    | (simp -zeta only [Keeps.mk_iff]; with_reducible refine KeepsParts.of ?_ rfl rfl (Nat.le_refl _) rfl rfl)
    | ((fail_if_success (conv => arg 2; congr)); extract_lets +onlyGivenNames x; first | (have hx : Keeps s0 x := ?_; (on_goal 2 => dsimp -zeta only [x]); (on_goal 1 => clear_value x)) | (have hx : Keeps s0 x.1 := ?_; (on_goal 2 => dsimp -zeta only [x]); (on_goal 1 => clear_value x)) | clear_value x)
    | with_reducible refine Keeps.ite (fun _ => ?_) (fun _ => ?_)
    | with_reducible refine KeepsR.ite (fun _ => ?_) (fun _ => ?_)
    | with_reducible apply KeepsR.next
    | with_reducible apply State.putB_keeps
    | split
    | dsimp -zeta only)

theorem execSnapshot_keeps {s0 : State} (s : State) (h : Keeps s0 s) : KeepsR s0 (execSnapshot s) := by
  unfold execSnapshot
  repeat' (first
    | with_reducible assumption
    | (simp -zeta only [Keeps.mk_iff]; with_reducible refine KeepsParts.of ?_ rfl rfl (Nat.le_refl _) rfl rfl)
    | ((fail_if_success (conv => arg 2; congr)); extract_lets +onlyGivenNames x; first | (have hx : Keeps s0 x := ?_; (on_goal 2 => dsimp -zeta only [x]); (on_goal 1 => clear_value x)) | (have hx : Keeps s0 x.1 := ?_; (on_goal 2 => dsimp -zeta only [x]); (on_goal 1 => clear_value x)) | clear_value x)
    | with_reducible refine Keeps.ite (fun _ => ?_) (fun _ => ?_)
    | with_reducible refine KeepsR.ite (fun _ => ?_) (fun _ => ?_)
    | with_reducible apply KeepsR.next
    | with_reducible apply State.inc_keeps
    | with_reducible apply State.advanceTo_keeps
    | with_reducible apply State.putSnapshot_keeps
    | split
    | dsimp -zeta only)

theorem execFreezeCopyStart_keeps {s0 : State} (s : State) (h : Keeps s0 s) : KeepsR s0 (execFreezeCopyStart s) := by
  unfold execFreezeCopyStart
  repeat' (first
    | with_reducible assumption
    | (simp -zeta only [Keeps.mk_iff]; with_reducible refine KeepsParts.of ?_ rfl rfl (Nat.le_refl _) rfl rfl)
    | ((fail_if_success (conv => arg 2; congr)); extract_lets +onlyGivenNames x; first | (have hx : Keeps s0 x := ?_; (on_goal 2 => dsimp -zeta only [x]); (on_goal 1 => clear_value x)) | (have hx : Keeps s0 x.1 := ?_; (on_goal 2 => dsimp -zeta only [x]); (on_goal 1 => clear_value x)) | clear_value x)
    | with_reducible refine Keeps.ite (fun _ => ?_) (fun _ => ?_)
    | with_reducible refine KeepsR.ite (fun _ => ?_) (fun _ => ?_)
    | with_reducible apply KeepsR.next
    | with_reducible apply State.advanceTo_keeps
    | with_reducible apply State.freezeEnd_keeps
    | split
    | dsimp -zeta only)

theorem execFreezeBlockDone_keeps {s0 : State} (s : State) (h : Keeps s0 s) : KeepsR s0 (execFreezeBlockDone s) := by
  unfold execFreezeBlockDone
  repeat' (first
    | with_reducible assumption
    | (simp -zeta only [Keeps.mk_iff]; with_reducible refine KeepsParts.of ?_ rfl rfl (Nat.le_refl _) rfl rfl)
    | ((fail_if_success (conv => arg 2; congr)); extract_lets +onlyGivenNames x; first | (have hx : Keeps s0 x := ?_; (on_goal 2 => dsimp -zeta only [x]); (on_goal 1 => clear_value x)) | (have hx : Keeps s0 x.1 := ?_; (on_goal 2 => dsimp -zeta only [x]); (on_goal 1 => clear_value x)) | clear_value x)
    | with_reducible refine Keeps.ite (fun _ => ?_) (fun _ => ?_)
    | with_reducible refine KeepsR.ite (fun _ => ?_) (fun _ => ?_)
    | with_reducible apply KeepsR.next
    | with_reducible apply State.advanceTo_keeps
    | with_reducible apply State.writeFreezeBlock_keeps
    | with_reducible apply State.freezeEnd_keeps
    | split
    | dsimp -zeta only)

theorem State.saveTick_keeps {s0 : State} (s : State) (warned : Bool) (h : Keeps s0 s) : Keeps s0 (State.saveTick s warned) := by
  unfold State.saveTick
  repeat' (first
    | with_reducible assumption
    | (simp -zeta only [Keeps.mk_iff]; with_reducible refine KeepsParts.of ?_ rfl rfl (Nat.le_refl _) rfl rfl)
    | ((fail_if_success (conv => arg 2; congr)); extract_lets +onlyGivenNames x; first | (have hx : Keeps s0 x := ?_; (on_goal 2 => dsimp -zeta only [x]); (on_goal 1 => clear_value x)) | (have hx : Keeps s0 x.1 := ?_; (on_goal 2 => dsimp -zeta only [x]); (on_goal 1 => clear_value x)) | clear_value x)
    | with_reducible refine Keeps.ite (fun _ => ?_) (fun _ => ?_)
    | split
    | dsimp -zeta only)

theorem State.stepTick_keeps {s0 : State} (s : State) (t : Nat) (h : Keeps s0 s) : Keeps s0 (State.stepTick s t) := by
  unfold State.stepTick
  repeat' (first
    | with_reducible assumption
    | (simp -zeta only [Keeps.mk_iff]; with_reducible refine KeepsParts.of ?_ rfl rfl (Nat.le_refl _) rfl rfl)
    | ((fail_if_success (conv => arg 2; congr)); extract_lets +onlyGivenNames x; first | (have hx : Keeps s0 x := ?_; (on_goal 2 => dsimp -zeta only [x]); (on_goal 1 => clear_value x)) | (have hx : Keeps s0 x.1 := ?_; (on_goal 2 => dsimp -zeta only [x]); (on_goal 1 => clear_value x)) | clear_value x)
    | with_reducible refine Keeps.ite (fun _ => ?_) (fun _ => ?_)
    | with_reducible apply State.note_keeps
    | with_reducible apply State.setCause_keeps
    | split
    | dsimp -zeta only)

theorem execTickRead_keeps {s0 : State} (_ini : Ini) (s : State) (h : Keeps s0 s) : KeepsR s0 (execTickRead _ini s) := by
  unfold execTickRead
  repeat' (first
    | with_reducible assumption
    | (simp -zeta only [Keeps.mk_iff]; with_reducible refine KeepsParts.of ?_ rfl rfl (Nat.le_refl _) rfl rfl)
    | ((fail_if_success (conv => arg 2; congr)); extract_lets +onlyGivenNames x; first | (have hx : Keeps s0 x := ?_; (on_goal 2 => dsimp -zeta only [x]); (on_goal 1 => clear_value x)) | (have hx : Keeps s0 x.1 := ?_; (on_goal 2 => dsimp -zeta only [x]); (on_goal 1 => clear_value x)) | clear_value x)
    | with_reducible refine Keeps.ite (fun _ => ?_) (fun _ => ?_)
    | with_reducible refine KeepsR.ite (fun _ => ?_) (fun _ => ?_)
    | with_reducible apply KeepsR.next
    | with_reducible apply State.put_keeps
    | split
    | dsimp -zeta only)

theorem execTickWrapSave_keeps {s0 : State} (s : State) (h : Keeps s0 s) : KeepsR s0 (execTickWrapSave s) := by
  unfold execTickWrapSave
  repeat' (first
    | with_reducible assumption
    | (simp -zeta only [Keeps.mk_iff]; with_reducible refine KeepsParts.of ?_ rfl rfl (Nat.le_refl _) rfl rfl)
    | ((fail_if_success (conv => arg 2; congr)); extract_lets +onlyGivenNames x; first | (have hx : Keeps s0 x := ?_; (on_goal 2 => dsimp -zeta only [x]); (on_goal 1 => clear_value x)) | (have hx : Keeps s0 x.1 := ?_; (on_goal 2 => dsimp -zeta only [x]); (on_goal 1 => clear_value x)) | clear_value x)
    | with_reducible refine Keeps.ite (fun _ => ?_) (fun _ => ?_)
    | with_reducible refine KeepsR.ite (fun _ => ?_) (fun _ => ?_)
    | with_reducible apply KeepsR.next
    | with_reducible apply State.advanceTo_keeps
    | with_reducible apply State.saveTick_keeps
    | split
    | dsimp -zeta only)

theorem execGapAttest_keeps {s0 : State} (_ini : Ini) (secs : Word) (s : State) (h : Keeps s0 s) : KeepsR s0 (execGapAttest _ini secs s) := by
  unfold execGapAttest
  repeat' (first
    | with_reducible assumption
    | (simp -zeta only [Keeps.mk_iff]; with_reducible refine KeepsParts.of ?_ rfl rfl (Nat.le_refl _) rfl rfl)
    | ((fail_if_success (conv => arg 2; congr)); extract_lets +onlyGivenNames x; first | (have hx : Keeps s0 x := ?_; (on_goal 2 => dsimp -zeta only [x]); (on_goal 1 => clear_value x)) | (have hx : Keeps s0 x.1 := ?_; (on_goal 2 => dsimp -zeta only [x]); (on_goal 1 => clear_value x)) | clear_value x)
    | with_reducible refine Keeps.ite (fun _ => ?_) (fun _ => ?_)
    | with_reducible refine KeepsR.ite (fun _ => ?_) (fun _ => ?_)
    | with_reducible apply KeepsR.next
    | with_reducible apply State.put_keeps
    | with_reducible apply State.putB_keeps
    | with_reducible apply State.note_keeps
    | with_reducible apply State.setCause_keeps
    | split
    | dsimp -zeta only)

theorem State.defer_keeps {s0 : State} (s : State) (k by_ : Nat) (h : Keeps s0 s) : Keeps s0 (State.defer s k by_) := by
  unfold State.defer
  repeat' (first
    | with_reducible assumption
    | (simp -zeta only [Keeps.mk_iff]; with_reducible refine KeepsParts.of ?_ rfl rfl (Nat.le_refl _) rfl rfl)
    | ((fail_if_success (conv => arg 2; congr)); extract_lets +onlyGivenNames x; first | (have hx : Keeps s0 x := ?_; (on_goal 2 => dsimp -zeta only [x]); (on_goal 1 => clear_value x)) | (have hx : Keeps s0 x.1 := ?_; (on_goal 2 => dsimp -zeta only [x]); (on_goal 1 => clear_value x)) | clear_value x)
    | with_reducible refine Keeps.ite (fun _ => ?_) (fun _ => ?_)
    | with_reducible apply State.put_keeps
    | with_reducible apply State.incSat_keeps
    | with_reducible apply State.raise_keeps
    | split
    | dsimp -zeta only)

theorem State.suspendBal_keeps {s0 : State} (s : State) (by_ : Nat) (h : Keeps s0 s) : Keeps s0 (State.suspendBal s by_) := by
  unfold State.suspendBal
  repeat' (first
    | with_reducible assumption
    | (simp -zeta only [Keeps.mk_iff]; with_reducible refine KeepsParts.of ?_ rfl rfl (Nat.le_refl _) rfl rfl)
    | ((fail_if_success (conv => arg 2; congr)); extract_lets +onlyGivenNames x; first | (have hx : Keeps s0 x := ?_; (on_goal 2 => dsimp -zeta only [x]); (on_goal 1 => clear_value x)) | (have hx : Keeps s0 x.1 := ?_; (on_goal 2 => dsimp -zeta only [x]); (on_goal 1 => clear_value x)) | clear_value x)
    | with_reducible refine Keeps.ite (fun _ => ?_) (fun _ => ?_)
    | with_reducible apply State.putB_keeps
    | with_reducible apply State.putBit_keeps
    | with_reducible apply State.defer_keeps
    | split
    | dsimp -zeta only)

theorem State.grantCode_keeps {s0 : State} (s : State) (k : Nat) (h : Keeps s0 s) : Keeps s0 (State.grantCode s k) := by
  unfold State.grantCode
  repeat' (first
    | with_reducible assumption
    | (simp -zeta only [Keeps.mk_iff]; with_reducible refine KeepsParts.of ?_ rfl rfl (Nat.le_refl _) rfl rfl)
    | ((fail_if_success (conv => arg 2; congr)); extract_lets +onlyGivenNames x; first | (have hx : Keeps s0 x := ?_; (on_goal 2 => dsimp -zeta only [x]); (on_goal 1 => clear_value x)) | (have hx : Keeps s0 x.1 := ?_; (on_goal 2 => dsimp -zeta only [x]); (on_goal 1 => clear_value x)) | clear_value x)
    | with_reducible refine Keeps.ite (fun _ => ?_) (fun _ => ?_)
    | with_reducible apply State.putBit_keeps
    | with_reducible apply State.suspendBal_keeps
    | split
    | dsimp -zeta only)

theorem State.resumeBal_keeps {s0 : State} (s : State) (h : Keeps s0 s) : Keeps s0 (State.resumeBal s) := by
  unfold State.resumeBal
  repeat' (first
    | with_reducible assumption
    | (simp -zeta only [Keeps.mk_iff]; with_reducible refine KeepsParts.of ?_ rfl rfl (Nat.le_refl _) rfl rfl)
    | ((fail_if_success (conv => arg 2; congr)); extract_lets +onlyGivenNames x; first | (have hx : Keeps s0 x := ?_; (on_goal 2 => dsimp -zeta only [x]); (on_goal 1 => clear_value x)) | (have hx : Keeps s0 x.1 := ?_; (on_goal 2 => dsimp -zeta only [x]); (on_goal 1 => clear_value x)) | clear_value x)
    | with_reducible refine Keeps.ite (fun _ => ?_) (fun _ => ?_)
    | with_reducible apply State.putB_keeps
    | with_reducible apply State.putBit_keeps
    | split
    | dsimp -zeta only)

theorem State.grantGone_keeps {s0 : State} (s : State) (k : Nat) (h : Keeps s0 s) : Keeps s0 (State.grantGone s k) := by
  unfold State.grantGone
  repeat' (first
    | with_reducible assumption
    | (simp -zeta only [Keeps.mk_iff]; with_reducible refine KeepsParts.of ?_ rfl rfl (Nat.le_refl _) rfl rfl)
    | ((fail_if_success (conv => arg 2; congr)); extract_lets +onlyGivenNames x; first | (have hx : Keeps s0 x := ?_; (on_goal 2 => dsimp -zeta only [x]); (on_goal 1 => clear_value x)) | (have hx : Keeps s0 x.1 := ?_; (on_goal 2 => dsimp -zeta only [x]); (on_goal 1 => clear_value x)) | clear_value x)
    | with_reducible refine Keeps.ite (fun _ => ?_) (fun _ => ?_)
    | with_reducible apply State.putBit_keeps
    | split
    | dsimp -zeta only)

theorem State.matrixRun_keeps {s0 : State} (s : State) (h : Keeps s0 s) : Keeps s0 (State.matrixRun s) := by
  unfold State.matrixRun
  repeat' (first
    | with_reducible assumption
    | (simp -zeta only [Keeps.mk_iff]; with_reducible refine KeepsParts.of ?_ rfl rfl (Nat.le_refl _) rfl rfl)
    | ((fail_if_success (conv => arg 2; congr)); extract_lets +onlyGivenNames x; first | (have hx : Keeps s0 x := ?_; (on_goal 2 => dsimp -zeta only [x]); (on_goal 1 => clear_value x)) | (have hx : Keeps s0 x.1 := ?_; (on_goal 2 => dsimp -zeta only [x]); (on_goal 1 => clear_value x)) | clear_value x)
    | with_reducible refine Keeps.ite (fun _ => ?_) (fun _ => ?_)
    | with_reducible apply State.grantCode_keeps
    | with_reducible apply State.resumeBal_keeps
    | with_reducible apply State.grantGone_keeps
    | (with_reducible apply Keeps.foldl; on_goal 2 => (intro x y hx; try dsimp -zeta only))
    | split
    | dsimp -zeta only)

theorem State.submit_keeps {s0 : State} (s : State) (k : Nat) (h : Keeps s0 s) : Keeps s0 (State.submit s k) := by
  unfold State.submit
  repeat' (first
    | with_reducible assumption
    | (simp -zeta only [Keeps.mk_iff]; with_reducible refine KeepsParts.of ?_ rfl rfl (Nat.le_refl _) rfl rfl)
    | ((fail_if_success (conv => arg 2; congr)); extract_lets +onlyGivenNames x; first | (have hx : Keeps s0 x := ?_; (on_goal 2 => dsimp -zeta only [x]); (on_goal 1 => clear_value x)) | (have hx : Keeps s0 x.1 := ?_; (on_goal 2 => dsimp -zeta only [x]); (on_goal 1 => clear_value x)) | clear_value x)
    | with_reducible refine Keeps.ite (fun _ => ?_) (fun _ => ?_)
    | with_reducible apply State.putBit_keeps
    | with_reducible apply State.defer_keeps
    | with_reducible apply State.grantCode_keeps
    | split
    | dsimp -zeta only)

theorem State.release_keeps {s0 : State} (s : State) (k : Nat) (h : Keeps s0 s) : Keeps s0 (State.release s k) := by
  unfold State.release
  repeat' (first
    | with_reducible assumption
    | (simp -zeta only [Keeps.mk_iff]; with_reducible refine KeepsParts.of ?_ rfl rfl (Nat.le_refl _) rfl rfl)
    | ((fail_if_success (conv => arg 2; congr)); extract_lets +onlyGivenNames x; first | (have hx : Keeps s0 x := ?_; (on_goal 2 => dsimp -zeta only [x]); (on_goal 1 => clear_value x)) | (have hx : Keeps s0 x.1 := ?_; (on_goal 2 => dsimp -zeta only [x]); (on_goal 1 => clear_value x)) | clear_value x)
    | with_reducible refine Keeps.ite (fun _ => ?_) (fun _ => ?_)
    | with_reducible apply State.putBit_keeps
    | with_reducible apply State.matrixRun_keeps
    | split
    | dsimp -zeta only)

theorem State.withdraw_keeps {s0 : State} (s : State) (k : Nat) (h : Keeps s0 s) : Keeps s0 (State.withdraw s k) := by
  unfold State.withdraw
  repeat' (first
    | with_reducible assumption
    | (simp -zeta only [Keeps.mk_iff]; with_reducible refine KeepsParts.of ?_ rfl rfl (Nat.le_refl _) rfl rfl)
    | ((fail_if_success (conv => arg 2; congr)); extract_lets +onlyGivenNames x; first | (have hx : Keeps s0 x := ?_; (on_goal 2 => dsimp -zeta only [x]); (on_goal 1 => clear_value x)) | (have hx : Keeps s0 x.1 := ?_; (on_goal 2 => dsimp -zeta only [x]); (on_goal 1 => clear_value x)) | clear_value x)
    | with_reducible refine Keeps.ite (fun _ => ?_) (fun _ => ?_)
    | with_reducible apply State.raise_keeps
    | with_reducible apply State.grantGone_keeps
    | with_reducible apply State.matrixRun_keeps
    | split
    | dsimp -zeta only)

theorem State.abandon_keeps {s0 : State} (s : State) (k : Nat) (h : Keeps s0 s) : Keeps s0 (State.abandon s k) := by
  unfold State.abandon
  repeat' (first
    | with_reducible assumption
    | (simp -zeta only [Keeps.mk_iff]; with_reducible refine KeepsParts.of ?_ rfl rfl (Nat.le_refl _) rfl rfl)
    | ((fail_if_success (conv => arg 2; congr)); extract_lets +onlyGivenNames x; first | (have hx : Keeps s0 x := ?_; (on_goal 2 => dsimp -zeta only [x]); (on_goal 1 => clear_value x)) | (have hx : Keeps s0 x.1 := ?_; (on_goal 2 => dsimp -zeta only [x]); (on_goal 1 => clear_value x)) | clear_value x)
    | with_reducible refine Keeps.ite (fun _ => ?_) (fun _ => ?_)
    | with_reducible apply State.release_keeps
    | split
    | dsimp -zeta only)

theorem State.send_keeps {s0 : State} (s : State) (kind : LinkKind) (dst a b : Nat) (h : Keeps s0 s) : Keeps s0 (State.send s kind dst a b) := by
  unfold State.send
  repeat' (first
    | with_reducible assumption
    | (simp -zeta only [Keeps.mk_iff]; with_reducible refine KeepsParts.of ?_ rfl rfl (Nat.le_refl _) rfl rfl)
    | ((fail_if_success (conv => arg 2; congr)); extract_lets +onlyGivenNames x; first | (have hx : Keeps s0 x := ?_; (on_goal 2 => dsimp -zeta only [x]); (on_goal 1 => clear_value x)) | (have hx : Keeps s0 x.1 := ?_; (on_goal 2 => dsimp -zeta only [x]); (on_goal 1 => clear_value x)) | clear_value x)
    | with_reducible refine Keeps.ite (fun _ => ?_) (fun _ => ?_)
    | split
    | dsimp -zeta only)

theorem State.setGrantsOf_keeps {s0 : State} (s : State) (k m : Nat) (h : Keeps s0 s) : Keeps s0 (State.setGrantsOf s k m) := by
  unfold State.setGrantsOf
  repeat' (first
    | with_reducible assumption
    | (simp -zeta only [Keeps.mk_iff]; with_reducible refine KeepsParts.of ?_ rfl rfl (Nat.le_refl _) rfl rfl)
    | ((fail_if_success (conv => arg 2; congr)); extract_lets +onlyGivenNames x; first | (have hx : Keeps s0 x := ?_; (on_goal 2 => dsimp -zeta only [x]); (on_goal 1 => clear_value x)) | (have hx : Keeps s0 x.1 := ?_; (on_goal 2 => dsimp -zeta only [x]); (on_goal 1 => clear_value x)) | clear_value x)
    | with_reducible refine Keeps.ite (fun _ => ?_) (fun _ => ?_)
    | split
    | dsimp -zeta only)

theorem State.askAll_keeps {s0 : State} (s : State) (k : Nat) (h : Keeps s0 s) : Keeps s0 (State.askAll s k) := by
  unfold State.askAll
  repeat' (first
    | with_reducible assumption
    | (simp -zeta only [Keeps.mk_iff]; with_reducible refine KeepsParts.of ?_ rfl rfl (Nat.le_refl _) rfl rfl)
    | ((fail_if_success (conv => arg 2; congr)); extract_lets +onlyGivenNames x; first | (have hx : Keeps s0 x := ?_; (on_goal 2 => dsimp -zeta only [x]); (on_goal 1 => clear_value x)) | (have hx : Keeps s0 x.1 := ?_; (on_goal 2 => dsimp -zeta only [x]); (on_goal 1 => clear_value x)) | clear_value x)
    | with_reducible refine Keeps.ite (fun _ => ?_) (fun _ => ?_)
    | with_reducible apply State.submit_keeps
    | with_reducible apply State.send_keeps
    | with_reducible apply State.setGrantsOf_keeps
    | split
    | dsimp -zeta only)

theorem State.releaseAs_keeps {s0 : State} (s : State) (k how flags : Nat) (h : Keeps s0 s) : Keeps s0 (State.releaseAs s k how flags) := by
  unfold State.releaseAs
  repeat' (first
    | with_reducible assumption
    | (simp -zeta only [Keeps.mk_iff]; with_reducible refine KeepsParts.of ?_ rfl rfl (Nat.le_refl _) rfl rfl)
    | ((fail_if_success (conv => arg 2; congr)); extract_lets +onlyGivenNames x; first | (have hx : Keeps s0 x := ?_; (on_goal 2 => dsimp -zeta only [x]); (on_goal 1 => clear_value x)) | (have hx : Keeps s0 x.1 := ?_; (on_goal 2 => dsimp -zeta only [x]); (on_goal 1 => clear_value x)) | clear_value x)
    | with_reducible refine Keeps.ite (fun _ => ?_) (fun _ => ?_)
    | with_reducible apply State.release_keeps
    | with_reducible apply State.abandon_keeps
    | with_reducible apply State.send_keeps
    | with_reducible apply State.setGrantsOf_keeps
    | split
    | dsimp -zeta only)

theorem State.releaseAll_keeps {s0 : State} (s : State) (k : Nat) (h : Keeps s0 s) : Keeps s0 (State.releaseAll s k) := by
  unfold State.releaseAll
  repeat' (first
    | with_reducible assumption
    | (simp -zeta only [Keeps.mk_iff]; with_reducible refine KeepsParts.of ?_ rfl rfl (Nat.le_refl _) rfl rfl)
    | ((fail_if_success (conv => arg 2; congr)); extract_lets +onlyGivenNames x; first | (have hx : Keeps s0 x := ?_; (on_goal 2 => dsimp -zeta only [x]); (on_goal 1 => clear_value x)) | (have hx : Keeps s0 x.1 := ?_; (on_goal 2 => dsimp -zeta only [x]); (on_goal 1 => clear_value x)) | clear_value x)
    | with_reducible refine Keeps.ite (fun _ => ?_) (fun _ => ?_)
    | with_reducible apply State.releaseAs_keeps
    | split
    | dsimp -zeta only)

theorem State.dropCascadeGrants_keeps {s0 : State} (s : State) (h : Keeps s0 s) : Keeps s0 (State.dropCascadeGrants s) := by
  unfold State.dropCascadeGrants
  repeat' (first
    | with_reducible assumption
    | (simp -zeta only [Keeps.mk_iff]; with_reducible refine KeepsParts.of ?_ rfl rfl (Nat.le_refl _) rfl rfl)
    | ((fail_if_success (conv => arg 2; congr)); extract_lets +onlyGivenNames x; first | (have hx : Keeps s0 x := ?_; (on_goal 2 => dsimp -zeta only [x]); (on_goal 1 => clear_value x)) | (have hx : Keeps s0 x.1 := ?_; (on_goal 2 => dsimp -zeta only [x]); (on_goal 1 => clear_value x)) | clear_value x)
    | with_reducible refine Keeps.ite (fun _ => ?_) (fun _ => ?_)
    | with_reducible apply State.putBit_keeps
    | with_reducible apply State.raiseIf_keeps
    | with_reducible apply State.grantGone_keeps
    | with_reducible apply State.matrixRun_keeps
    | (with_reducible apply Keeps.foldl; on_goal 2 => (intro x y hx; try dsimp -zeta only))
    | split
    | dsimp -zeta only)

theorem State.stopModulation_keeps {s0 : State} (s : State) (h : Keeps s0 s) : Keeps s0 (State.stopModulation s) := by
  unfold State.stopModulation
  repeat' (first
    | with_reducible assumption
    | (simp -zeta only [Keeps.mk_iff]; with_reducible refine KeepsParts.of ?_ rfl rfl (Nat.le_refl _) rfl rfl)
    | ((fail_if_success (conv => arg 2; congr)); extract_lets +onlyGivenNames x; first | (have hx : Keeps s0 x := ?_; (on_goal 2 => dsimp -zeta only [x]); (on_goal 1 => clear_value x)) | (have hx : Keeps s0 x.1 := ?_; (on_goal 2 => dsimp -zeta only [x]); (on_goal 1 => clear_value x)) | clear_value x)
    | with_reducible refine Keeps.ite (fun _ => ?_) (fun _ => ?_)
    | split
    | dsimp -zeta only)

theorem State.showSwitches_keeps {s0 : State} (s : State) (h : Keeps s0 s) : Keeps s0 (State.showSwitches s) := by
  unfold State.showSwitches
  repeat' (first
    | with_reducible assumption
    | (simp -zeta only [Keeps.mk_iff]; with_reducible refine KeepsParts.of ?_ rfl rfl (Nat.le_refl _) rfl rfl)
    | ((fail_if_success (conv => arg 2; congr)); extract_lets +onlyGivenNames x; first | (have hx : Keeps s0 x := ?_; (on_goal 2 => dsimp -zeta only [x]); (on_goal 1 => clear_value x)) | (have hx : Keeps s0 x.1 := ?_; (on_goal 2 => dsimp -zeta only [x]); (on_goal 1 => clear_value x)) | clear_value x)
    | with_reducible refine Keeps.ite (fun _ => ?_) (fun _ => ?_)
    | with_reducible apply State.put_keeps
    | split
    | dsimp -zeta only)

theorem State.setSwitches_keeps {s0 : State} (s : State) (m : Nat) (h : Keeps s0 s) : Keeps s0 (State.setSwitches s m) := by
  unfold State.setSwitches
  repeat' (first
    | with_reducible assumption
    | (simp -zeta only [Keeps.mk_iff]; with_reducible refine KeepsParts.of ?_ rfl rfl (Nat.le_refl _) rfl rfl)
    | ((fail_if_success (conv => arg 2; congr)); extract_lets +onlyGivenNames x; first | (have hx : Keeps s0 x := ?_; (on_goal 2 => dsimp -zeta only [x]); (on_goal 1 => clear_value x)) | (have hx : Keeps s0 x.1 := ?_; (on_goal 2 => dsimp -zeta only [x]); (on_goal 1 => clear_value x)) | clear_value x)
    | with_reducible refine Keeps.ite (fun _ => ?_) (fun _ => ?_)
    | with_reducible apply State.showSwitches_keeps
    | split
    | dsimp -zeta only)

theorem State.openSwitches_keeps {s0 : State} (s : State) (h : Keeps s0 s) : Keeps s0 (State.openSwitches s) := by
  unfold State.openSwitches
  repeat' (first
    | with_reducible assumption
    | (simp -zeta only [Keeps.mk_iff]; with_reducible refine KeepsParts.of ?_ rfl rfl (Nat.le_refl _) rfl rfl)
    | ((fail_if_success (conv => arg 2; congr)); extract_lets +onlyGivenNames x; first | (have hx : Keeps s0 x := ?_; (on_goal 2 => dsimp -zeta only [x]); (on_goal 1 => clear_value x)) | (have hx : Keeps s0 x.1 := ?_; (on_goal 2 => dsimp -zeta only [x]); (on_goal 1 => clear_value x)) | clear_value x)
    | with_reducible refine Keeps.ite (fun _ => ?_) (fun _ => ?_)
    | with_reducible apply State.stopModulation_keeps
    | with_reducible apply State.setSwitches_keeps
    | split
    | dsimp -zeta only)

theorem State.refreshSwitches_keeps {s0 : State} (s : State) (h : Keeps s0 s) : Keeps s0 (State.refreshSwitches s) := by
  unfold State.refreshSwitches
  repeat' (first
    | with_reducible assumption
    | (simp -zeta only [Keeps.mk_iff]; with_reducible refine KeepsParts.of ?_ rfl rfl (Nat.le_refl _) rfl rfl)
    | ((fail_if_success (conv => arg 2; congr)); extract_lets +onlyGivenNames x; first | (have hx : Keeps s0 x := ?_; (on_goal 2 => dsimp -zeta only [x]); (on_goal 1 => clear_value x)) | (have hx : Keeps s0 x.1 := ?_; (on_goal 2 => dsimp -zeta only [x]); (on_goal 1 => clear_value x)) | clear_value x)
    | with_reducible refine Keeps.ite (fun _ => ?_) (fun _ => ?_)
    | with_reducible apply State.setSwitches_keeps
    | split
    | dsimp -zeta only)

theorem State.chooseOn_keeps {s0 : State} (s : State) (h : Keeps s0 s) : Keeps s0 (State.chooseOn s) := by
  unfold State.chooseOn
  repeat' (first
    | with_reducible assumption
    | (simp -zeta only [Keeps.mk_iff]; with_reducible refine KeepsParts.of ?_ rfl rfl (Nat.le_refl _) rfl rfl)
    | ((fail_if_success (conv => arg 2; congr)); extract_lets +onlyGivenNames x; first | (have hx : Keeps s0 x := ?_; (on_goal 2 => dsimp -zeta only [x]); (on_goal 1 => clear_value x)) | (have hx : Keeps s0 x.1 := ?_; (on_goal 2 => dsimp -zeta only [x]); (on_goal 1 => clear_value x)) | clear_value x)
    | with_reducible refine Keeps.ite (fun _ => ?_) (fun _ => ?_)
    | with_reducible apply State.putB_keeps
    | with_reducible apply State.raiseIf_keeps
    | (with_reducible apply Keeps.foldl; on_goal 2 => (intro x y hx; try dsimp -zeta only))
    | split
    | dsimp -zeta only)

theorem State.balBoundary_keeps {s0 : State} (s : State) (h : Keeps s0 s) : Keeps s0 (State.balBoundary s) := by
  unfold State.balBoundary
  repeat' (first
    | with_reducible assumption
    | (simp -zeta only [Keeps.mk_iff]; with_reducible refine KeepsParts.of ?_ rfl rfl (Nat.le_refl _) rfl rfl)
    | ((fail_if_success (conv => arg 2; congr)); extract_lets +onlyGivenNames x; first | (have hx : Keeps s0 x := ?_; (on_goal 2 => dsimp -zeta only [x]); (on_goal 1 => clear_value x)) | (have hx : Keeps s0 x.1 := ?_; (on_goal 2 => dsimp -zeta only [x]); (on_goal 1 => clear_value x)) | clear_value x)
    | with_reducible refine Keeps.ite (fun _ => ?_) (fun _ => ?_)
    | with_reducible apply State.raiseIf_keeps
    | with_reducible apply State.refreshSwitches_keeps
    | with_reducible apply State.chooseOn_keeps
    | split
    | dsimp -zeta only)

theorem State.publishOnTimes_keeps {s0 : State} (s : State) (h : Keeps s0 s) : Keeps s0 (State.publishOnTimes s) := by
  unfold State.publishOnTimes
  repeat' (first
    | with_reducible assumption
    | (simp -zeta only [Keeps.mk_iff]; with_reducible refine KeepsParts.of ?_ rfl rfl (Nat.le_refl _) rfl rfl)
    | ((fail_if_success (conv => arg 2; congr)); extract_lets +onlyGivenNames x; first | (have hx : Keeps s0 x := ?_; (on_goal 2 => dsimp -zeta only [x]); (on_goal 1 => clear_value x)) | (have hx : Keeps s0 x.1 := ?_; (on_goal 2 => dsimp -zeta only [x]); (on_goal 1 => clear_value x)) | clear_value x)
    | with_reducible refine Keeps.ite (fun _ => ?_) (fun _ => ?_)
    | with_reducible apply State.put_keeps
    | (with_reducible apply Keeps.foldl; on_goal 2 => (intro x y hx; try dsimp -zeta only))
    | split
    | dsimp -zeta only)

theorem State.clearPattern_keeps {s0 : State} (s : State) (h : Keeps s0 s) : Keeps s0 (State.clearPattern s) := by
  unfold State.clearPattern
  repeat' (first
    | with_reducible assumption
    | (simp -zeta only [Keeps.mk_iff]; with_reducible refine KeepsParts.of ?_ rfl rfl (Nat.le_refl _) rfl rfl)
    | ((fail_if_success (conv => arg 2; congr)); extract_lets +onlyGivenNames x; first | (have hx : Keeps s0 x := ?_; (on_goal 2 => dsimp -zeta only [x]); (on_goal 1 => clear_value x)) | (have hx : Keeps s0 x.1 := ?_; (on_goal 2 => dsimp -zeta only [x]); (on_goal 1 => clear_value x)) | clear_value x)
    | with_reducible refine Keeps.ite (fun _ => ?_) (fun _ => ?_)
    | with_reducible apply State.setWord_keeps
    | with_reducible apply State.putB_keeps
    | with_reducible apply State.putBit_keeps
    | with_reducible apply State.openSwitches_keeps
    | split
    | dsimp -zeta only)

theorem State.standingRequest_keeps {s0 : State} (s : State) (h : Keeps s0 s) : Keeps s0 (State.standingRequest s) := by
  unfold State.standingRequest
  repeat' (first
    | with_reducible assumption
    | (simp -zeta only [Keeps.mk_iff]; with_reducible refine KeepsParts.of ?_ rfl rfl (Nat.le_refl _) rfl rfl)
    | ((fail_if_success (conv => arg 2; congr)); extract_lets +onlyGivenNames x; first | (have hx : Keeps s0 x := ?_; (on_goal 2 => dsimp -zeta only [x]); (on_goal 1 => clear_value x)) | (have hx : Keeps s0 x.1 := ?_; (on_goal 2 => dsimp -zeta only [x]); (on_goal 1 => clear_value x)) | clear_value x)
    | with_reducible refine Keeps.ite (fun _ => ?_) (fun _ => ?_)
    | with_reducible apply State.putB_keeps
    | with_reducible apply State.putBit_keeps
    | with_reducible apply State.suspendBal_keeps
    | split
    | dsimp -zeta only)

theorem execBalancingPatternWrite_keeps {s0 : State} (_ini : Ini) (upper : Bool) (val : Word) (s : State) (h : Keeps s0 s) : KeepsR s0 (execBalancingPatternWrite _ini upper val s) := by
  unfold execBalancingPatternWrite
  repeat' (first
    | with_reducible assumption
    | (simp -zeta only [Keeps.mk_iff]; with_reducible refine KeepsParts.of ?_ rfl rfl (Nat.le_refl _) rfl rfl)
    | ((fail_if_success (conv => arg 2; congr)); extract_lets +onlyGivenNames x; first | (have hx : Keeps s0 x := ?_; (on_goal 2 => dsimp -zeta only [x]); (on_goal 1 => clear_value x)) | (have hx : Keeps s0 x.1 := ?_; (on_goal 2 => dsimp -zeta only [x]); (on_goal 1 => clear_value x)) | clear_value x)
    | with_reducible refine Keeps.ite (fun _ => ?_) (fun _ => ?_)
    | with_reducible refine KeepsR.ite (fun _ => ?_) (fun _ => ?_)
    | with_reducible apply KeepsR.next
    | with_reducible apply State.setWord_keeps
    | with_reducible apply State.standingRequest_keeps
    | split
    | dsimp -zeta only)

theorem execBalancingStop_keeps {s0 : State} (_ini : Ini) (s : State) (h : Keeps s0 s) : KeepsR s0 (execBalancingStop _ini s) := by
  unfold execBalancingStop
  repeat' (first
    | with_reducible assumption
    | (simp -zeta only [Keeps.mk_iff]; with_reducible refine KeepsParts.of ?_ rfl rfl (Nat.le_refl _) rfl rfl)
    | ((fail_if_success (conv => arg 2; congr)); extract_lets +onlyGivenNames x; first | (have hx : Keeps s0 x := ?_; (on_goal 2 => dsimp -zeta only [x]); (on_goal 1 => clear_value x)) | (have hx : Keeps s0 x.1 := ?_; (on_goal 2 => dsimp -zeta only [x]); (on_goal 1 => clear_value x)) | clear_value x)
    | with_reducible refine Keeps.ite (fun _ => ?_) (fun _ => ?_)
    | with_reducible refine KeepsR.ite (fun _ => ?_) (fun _ => ?_)
    | with_reducible apply KeepsR.next
    | with_reducible apply State.clearPattern_keeps
    | split
    | dsimp -zeta only)

theorem execBalHalfPeriod_keeps {s0 : State} (s : State) (h : Keeps s0 s) : KeepsR s0 (execBalHalfPeriod s) := by
  unfold execBalHalfPeriod
  repeat' (first
    | with_reducible assumption
    | (simp -zeta only [Keeps.mk_iff]; with_reducible refine KeepsParts.of ?_ rfl rfl (Nat.le_refl _) rfl rfl)
    | ((fail_if_success (conv => arg 2; congr)); extract_lets +onlyGivenNames x; first | (have hx : Keeps s0 x := ?_; (on_goal 2 => dsimp -zeta only [x]); (on_goal 1 => clear_value x)) | (have hx : Keeps s0 x.1 := ?_; (on_goal 2 => dsimp -zeta only [x]); (on_goal 1 => clear_value x)) | clear_value x)
    | with_reducible refine Keeps.ite (fun _ => ?_) (fun _ => ?_)
    | with_reducible refine KeepsR.ite (fun _ => ?_) (fun _ => ?_)
    | with_reducible apply KeepsR.next
    | with_reducible apply State.advanceTo_keeps
    | with_reducible apply State.refreshSwitches_keeps
    | split
    | dsimp -zeta only)

theorem execBalCmdTimeout_keeps {s0 : State} (s : State) (h : Keeps s0 s) : KeepsR s0 (execBalCmdTimeout s) := by
  unfold execBalCmdTimeout
  repeat' (first
    | with_reducible assumption
    | (simp -zeta only [Keeps.mk_iff]; with_reducible refine KeepsParts.of ?_ rfl rfl (Nat.le_refl _) rfl rfl)
    | ((fail_if_success (conv => arg 2; congr)); extract_lets +onlyGivenNames x; first | (have hx : Keeps s0 x := ?_; (on_goal 2 => dsimp -zeta only [x]); (on_goal 1 => clear_value x)) | (have hx : Keeps s0 x.1 := ?_; (on_goal 2 => dsimp -zeta only [x]); (on_goal 1 => clear_value x)) | clear_value x)
    | with_reducible refine Keeps.ite (fun _ => ?_) (fun _ => ?_)
    | with_reducible refine KeepsR.ite (fun _ => ?_) (fun _ => ?_)
    | with_reducible apply KeepsR.next
    | with_reducible apply State.raise_keeps
    | with_reducible apply State.openSwitches_keeps
    | split
    | dsimp -zeta only)

theorem State.setChan_keeps {s0 : State} (s : State) (i : Nat) (c : Chan) (h : Keeps s0 s) : Keeps s0 (State.setChan s i c) := by
  unfold State.setChan
  repeat' (first
    | with_reducible assumption
    | (simp -zeta only [Keeps.mk_iff]; with_reducible refine KeepsParts.of ?_ rfl rfl (Nat.le_refl _) rfl rfl)
    | ((fail_if_success (conv => arg 2; congr)); extract_lets +onlyGivenNames x; first | (have hx : Keeps s0 x := ?_; (on_goal 2 => dsimp -zeta only [x]); (on_goal 1 => clear_value x)) | (have hx : Keeps s0 x.1 := ?_; (on_goal 2 => dsimp -zeta only [x]); (on_goal 1 => clear_value x)) | clear_value x)
    | with_reducible refine Keeps.ite (fun _ => ?_) (fun _ => ?_)
    | split
    | dsimp -zeta only)

theorem State.startRamp_keeps {s0 : State} (s : State) (i : Nat) (h : Keeps s0 s) : Keeps s0 (State.startRamp s i) := by
  unfold State.startRamp
  repeat' (first
    | with_reducible assumption
    | (simp -zeta only [Keeps.mk_iff]; with_reducible refine KeepsParts.of ?_ rfl rfl (Nat.le_refl _) rfl rfl)
    | ((fail_if_success (conv => arg 2; congr)); extract_lets +onlyGivenNames x; first | (have hx : Keeps s0 x := ?_; (on_goal 2 => dsimp -zeta only [x]); (on_goal 1 => clear_value x)) | (have hx : Keeps s0 x.1 := ?_; (on_goal 2 => dsimp -zeta only [x]); (on_goal 1 => clear_value x)) | clear_value x)
    | with_reducible refine Keeps.ite (fun _ => ?_) (fun _ => ?_)
    | with_reducible apply State.put_keeps
    | with_reducible apply State.putB_keeps
    | with_reducible apply State.putBit_keeps
    | with_reducible apply State.setChan_keeps
    | split
    | dsimp -zeta only)

theorem State.stopChan_keeps {s0 : State} (s : State) (i : Nat) (h : Keeps s0 s) : Keeps s0 (State.stopChan s i) := by
  unfold State.stopChan
  repeat' (first
    | with_reducible assumption
    | (simp -zeta only [Keeps.mk_iff]; with_reducible refine KeepsParts.of ?_ rfl rfl (Nat.le_refl _) rfl rfl)
    | ((fail_if_success (conv => arg 2; congr)); extract_lets +onlyGivenNames x; first | (have hx : Keeps s0 x := ?_; (on_goal 2 => dsimp -zeta only [x]); (on_goal 1 => clear_value x)) | (have hx : Keeps s0 x.1 := ?_; (on_goal 2 => dsimp -zeta only [x]); (on_goal 1 => clear_value x)) | clear_value x)
    | with_reducible refine Keeps.ite (fun _ => ?_) (fun _ => ?_)
    | with_reducible apply State.put_keeps
    | with_reducible apply State.putB_keeps
    | with_reducible apply State.putBit_keeps
    | split
    | dsimp -zeta only)

theorem State.testIncomplete_keeps {s0 : State} (s : State) (i st : Nat) (h : Keeps s0 s) : Keeps s0 (State.testIncomplete s i st) := by
  unfold State.testIncomplete
  repeat' (first
    | with_reducible assumption
    | (simp -zeta only [Keeps.mk_iff]; with_reducible refine KeepsParts.of ?_ rfl rfl (Nat.le_refl _) rfl rfl)
    | ((fail_if_success (conv => arg 2; congr)); extract_lets +onlyGivenNames x; first | (have hx : Keeps s0 x := ?_; (on_goal 2 => dsimp -zeta only [x]); (on_goal 1 => clear_value x)) | (have hx : Keeps s0 x.1 := ?_; (on_goal 2 => dsimp -zeta only [x]); (on_goal 1 => clear_value x)) | clear_value x)
    | with_reducible refine Keeps.ite (fun _ => ?_) (fun _ => ?_)
    | with_reducible apply State.put_keeps
    | with_reducible apply State.putBit_keeps
    | with_reducible apply State.raise_keeps
    | split
    | dsimp -zeta only)

theorem State.abortTest_keeps {s0 : State} (s : State) (h : Keeps s0 s) : Keeps s0 (State.abortTest s) := by
  unfold State.abortTest
  repeat' (first
    | with_reducible assumption
    | (simp -zeta only [Keeps.mk_iff]; with_reducible refine KeepsParts.of ?_ rfl rfl (Nat.le_refl _) rfl rfl)
    | ((fail_if_success (conv => arg 2; congr)); extract_lets +onlyGivenNames x; first | (have hx : Keeps s0 x := ?_; (on_goal 2 => dsimp -zeta only [x]); (on_goal 1 => clear_value x)) | (have hx : Keeps s0 x.1 := ?_; (on_goal 2 => dsimp -zeta only [x]); (on_goal 1 => clear_value x)) | clear_value x)
    | with_reducible refine Keeps.ite (fun _ => ?_) (fun _ => ?_)
    | with_reducible apply State.testIncomplete_keeps
    | split
    | dsimp -zeta only)

theorem State.refreshChan_keeps {s0 : State} (s : State) (i : Nat) (h : Keeps s0 s) : Keeps s0 (State.refreshChan s i) := by
  unfold State.refreshChan
  repeat' (first
    | with_reducible assumption
    | (simp -zeta only [Keeps.mk_iff]; with_reducible refine KeepsParts.of ?_ rfl rfl (Nat.le_refl _) rfl rfl)
    | ((fail_if_success (conv => arg 2; congr)); extract_lets +onlyGivenNames x; first | (have hx : Keeps s0 x := ?_; (on_goal 2 => dsimp -zeta only [x]); (on_goal 1 => clear_value x)) | (have hx : Keeps s0 x.1 := ?_; (on_goal 2 => dsimp -zeta only [x]); (on_goal 1 => clear_value x)) | clear_value x)
    | with_reducible refine Keeps.ite (fun _ => ?_) (fun _ => ?_)
    | with_reducible apply State.putB_keeps
    | with_reducible apply State.startRamp_keeps
    | with_reducible apply State.stopChan_keeps
    | with_reducible apply State.testIncomplete_keeps
    | split
    | dsimp -zeta only)

theorem State.refreshChannels_keeps {s0 : State} (s : State) (h : Keeps s0 s) : Keeps s0 (State.refreshChannels s) := by
  unfold State.refreshChannels
  repeat' (first
    | with_reducible assumption
    | (simp -zeta only [Keeps.mk_iff]; with_reducible refine KeepsParts.of ?_ rfl rfl (Nat.le_refl _) rfl rfl)
    | ((fail_if_success (conv => arg 2; congr)); extract_lets +onlyGivenNames x; first | (have hx : Keeps s0 x := ?_; (on_goal 2 => dsimp -zeta only [x]); (on_goal 1 => clear_value x)) | (have hx : Keeps s0 x.1 := ?_; (on_goal 2 => dsimp -zeta only [x]); (on_goal 1 => clear_value x)) | clear_value x)
    | with_reducible refine Keeps.ite (fun _ => ?_) (fun _ => ?_)
    | with_reducible apply State.put_keeps
    | with_reducible apply State.refreshChan_keeps
    | (with_reducible apply Keeps.foldl; on_goal 2 => (intro x y hx; try dsimp -zeta only))
    | split
    | dsimp -zeta only)

theorem State.setCmd_keeps {s0 : State} (s : State) (i : Nat) (on : Bool) (h : Keeps s0 s) : Keeps s0 (State.setCmd s i on) := by
  unfold State.setCmd
  repeat' (first
    | with_reducible assumption
    | (simp -zeta only [Keeps.mk_iff]; with_reducible refine KeepsParts.of ?_ rfl rfl (Nat.le_refl _) rfl rfl)
    | ((fail_if_success (conv => arg 2; congr)); extract_lets +onlyGivenNames x; first | (have hx : Keeps s0 x := ?_; (on_goal 2 => dsimp -zeta only [x]); (on_goal 1 => clear_value x)) | (have hx : Keeps s0 x.1 := ?_; (on_goal 2 => dsimp -zeta only [x]); (on_goal 1 => clear_value x)) | clear_value x)
    | with_reducible refine Keeps.ite (fun _ => ?_) (fun _ => ?_)
    | with_reducible apply State.putBit_keeps
    | with_reducible apply State.refreshChannels_keeps
    | split
    | dsimp -zeta only)

theorem State.turnOn_keeps {s0 : State} (s : State) (i : Nat) (h : Keeps s0 s) : Keeps s0 (State.turnOn s i) := by
  unfold State.turnOn
  repeat' (first
    | with_reducible assumption
    | (simp -zeta only [Keeps.mk_iff]; with_reducible refine KeepsParts.of ?_ rfl rfl (Nat.le_refl _) rfl rfl)
    | ((fail_if_success (conv => arg 2; congr)); extract_lets +onlyGivenNames x; first | (have hx : Keeps s0 x := ?_; (on_goal 2 => dsimp -zeta only [x]); (on_goal 1 => clear_value x)) | (have hx : Keeps s0 x.1 := ?_; (on_goal 2 => dsimp -zeta only [x]); (on_goal 1 => clear_value x)) | clear_value x)
    | with_reducible refine Keeps.ite (fun _ => ?_) (fun _ => ?_)
    | with_reducible apply State.put_keeps
    | with_reducible apply State.raise_keeps
    | with_reducible apply State.setCmd_keeps
    | split
    | dsimp -zeta only)

theorem State.turnOff_keeps {s0 : State} (s : State) (i : Nat) (h : Keeps s0 s) : Keeps s0 (State.turnOff s i) := by
  unfold State.turnOff
  repeat' (first
    | with_reducible assumption
    | (simp -zeta only [Keeps.mk_iff]; with_reducible refine KeepsParts.of ?_ rfl rfl (Nat.le_refl _) rfl rfl)
    | ((fail_if_success (conv => arg 2; congr)); extract_lets +onlyGivenNames x; first | (have hx : Keeps s0 x := ?_; (on_goal 2 => dsimp -zeta only [x]); (on_goal 1 => clear_value x)) | (have hx : Keeps s0 x.1 := ?_; (on_goal 2 => dsimp -zeta only [x]); (on_goal 1 => clear_value x)) | clear_value x)
    | with_reducible refine Keeps.ite (fun _ => ?_) (fun _ => ?_)
    | with_reducible apply State.testIncomplete_keeps
    | with_reducible apply State.setCmd_keeps
    | split
    | dsimp -zeta only)

theorem State.tripChan_keeps {s0 : State} (s : State) (i fault : Nat) (h : Keeps s0 s) : Keeps s0 (State.tripChan s i fault) := by
  unfold State.tripChan
  repeat' (first
    | with_reducible assumption
    | (simp -zeta only [Keeps.mk_iff]; with_reducible refine KeepsParts.of ?_ rfl rfl (Nat.le_refl _) rfl rfl)
    | ((fail_if_success (conv => arg 2; congr)); extract_lets +onlyGivenNames x; first | (have hx : Keeps s0 x := ?_; (on_goal 2 => dsimp -zeta only [x]); (on_goal 1 => clear_value x)) | (have hx : Keeps s0 x.1 := ?_; (on_goal 2 => dsimp -zeta only [x]); (on_goal 1 => clear_value x)) | clear_value x)
    | with_reducible refine Keeps.ite (fun _ => ?_) (fun _ => ?_)
    | with_reducible apply State.put_keeps
    | with_reducible apply State.setChan_keeps
    | with_reducible apply State.setCmd_keeps
    | split
    | dsimp -zeta only)

theorem State.reactionOff_keeps {s0 : State} (s : State) (m : Nat) (h : Keeps s0 s) : Keeps s0 (State.reactionOff s m) := by
  unfold State.reactionOff
  repeat' (first
    | with_reducible assumption
    | (simp -zeta only [Keeps.mk_iff]; with_reducible refine KeepsParts.of ?_ rfl rfl (Nat.le_refl _) rfl rfl)
    | ((fail_if_success (conv => arg 2; congr)); extract_lets +onlyGivenNames x; first | (have hx : Keeps s0 x := ?_; (on_goal 2 => dsimp -zeta only [x]); (on_goal 1 => clear_value x)) | (have hx : Keeps s0 x.1 := ?_; (on_goal 2 => dsimp -zeta only [x]); (on_goal 1 => clear_value x)) | clear_value x)
    | with_reducible refine Keeps.ite (fun _ => ?_) (fun _ => ?_)
    | with_reducible apply State.put_keeps
    | with_reducible apply State.refreshChannels_keeps
    | (with_reducible apply Keeps.foldl; on_goal 2 => (intro x y hx; try dsimp -zeta only))
    | split
    | dsimp -zeta only)

theorem State.allOff_keeps {s0 : State} (s : State) (h : Keeps s0 s) : Keeps s0 (State.allOff s) := by
  unfold State.allOff
  repeat' (first
    | with_reducible assumption
    | (simp -zeta only [Keeps.mk_iff]; with_reducible refine KeepsParts.of ?_ rfl rfl (Nat.le_refl _) rfl rfl)
    | ((fail_if_success (conv => arg 2; congr)); extract_lets +onlyGivenNames x; first | (have hx : Keeps s0 x := ?_; (on_goal 2 => dsimp -zeta only [x]); (on_goal 1 => clear_value x)) | (have hx : Keeps s0 x.1 := ?_; (on_goal 2 => dsimp -zeta only [x]); (on_goal 1 => clear_value x)) | clear_value x)
    | with_reducible refine Keeps.ite (fun _ => ?_) (fun _ => ?_)
    | with_reducible apply State.put_keeps
    | with_reducible apply State.abortTest_keeps
    | with_reducible apply State.refreshChannels_keeps
    | split
    | dsimp -zeta only)

theorem State.crankBegin_keeps {s0 : State} (s : State) (h : Keeps s0 s) : Keeps s0 (State.crankBegin s) := by
  unfold State.crankBegin
  repeat' (first
    | with_reducible assumption
    | (simp -zeta only [Keeps.mk_iff]; with_reducible refine KeepsParts.of ?_ rfl rfl (Nat.le_refl _) rfl rfl)
    | ((fail_if_success (conv => arg 2; congr)); extract_lets +onlyGivenNames x; first | (have hx : Keeps s0 x := ?_; (on_goal 2 => dsimp -zeta only [x]); (on_goal 1 => clear_value x)) | (have hx : Keeps s0 x.1 := ?_; (on_goal 2 => dsimp -zeta only [x]); (on_goal 1 => clear_value x)) | clear_value x)
    | with_reducible refine Keeps.ite (fun _ => ?_) (fun _ => ?_)
    | with_reducible apply State.putB_keeps
    | with_reducible apply State.raise_keeps
    | with_reducible apply State.setChan_keeps
    | with_reducible apply State.abortTest_keeps
    | (with_reducible apply Keeps.foldl; on_goal 2 => (intro x y hx; try dsimp -zeta only))
    | split
    | dsimp -zeta only)

theorem State.crankEnd_keeps {s0 : State} (s : State) (h : Keeps s0 s) : Keeps s0 (State.crankEnd s) := by
  unfold State.crankEnd
  repeat' (first
    | with_reducible assumption
    | (simp -zeta only [Keeps.mk_iff]; with_reducible refine KeepsParts.of ?_ rfl rfl (Nat.le_refl _) rfl rfl)
    | ((fail_if_success (conv => arg 2; congr)); extract_lets +onlyGivenNames x; first | (have hx : Keeps s0 x := ?_; (on_goal 2 => dsimp -zeta only [x]); (on_goal 1 => clear_value x)) | (have hx : Keeps s0 x.1 := ?_; (on_goal 2 => dsimp -zeta only [x]); (on_goal 1 => clear_value x)) | clear_value x)
    | with_reducible refine Keeps.ite (fun _ => ?_) (fun _ => ?_)
    | with_reducible apply State.putB_keeps
    | with_reducible apply State.raise_keeps
    | with_reducible apply State.setChan_keeps
    | (with_reducible apply Keeps.foldl; on_goal 2 => (intro x y hx; try dsimp -zeta only))
    | split
    | dsimp -zeta only)

theorem State.snBegin_keeps {s0 : State} (s : State) (cause : Nat) (inReset : Bool) (h : Keeps s0 s) : Keeps s0 (State.snBegin s cause inReset) := by
  unfold State.snBegin
  repeat' (first
    | with_reducible assumption
    | (simp -zeta only [Keeps.mk_iff]; with_reducible refine KeepsParts.of ?_ rfl rfl (Nat.le_refl _) rfl rfl)
    | ((fail_if_success (conv => arg 2; congr)); extract_lets +onlyGivenNames x; first | (have hx : Keeps s0 x := ?_; (on_goal 2 => dsimp -zeta only [x]); (on_goal 1 => clear_value x)) | (have hx : Keeps s0 x.1 := ?_; (on_goal 2 => dsimp -zeta only [x]); (on_goal 1 => clear_value x)) | clear_value x)
    | with_reducible refine Keeps.ite (fun _ => ?_) (fun _ => ?_)
    | with_reducible apply State.putB_keeps
    | with_reducible apply State.putBit_keeps
    | with_reducible apply State.abortTest_keeps
    | with_reducible apply State.refreshChannels_keeps
    | split
    | dsimp -zeta only)

theorem State.snEnd_keeps {s0 : State} (s : State) (h : Keeps s0 s) : Keeps s0 (State.snEnd s) := by
  unfold State.snEnd
  repeat' (first
    | with_reducible assumption
    | (simp -zeta only [Keeps.mk_iff]; with_reducible refine KeepsParts.of ?_ rfl rfl (Nat.le_refl _) rfl rfl)
    | ((fail_if_success (conv => arg 2; congr)); extract_lets +onlyGivenNames x; first | (have hx : Keeps s0 x := ?_; (on_goal 2 => dsimp -zeta only [x]); (on_goal 1 => clear_value x)) | (have hx : Keeps s0 x.1 := ?_; (on_goal 2 => dsimp -zeta only [x]); (on_goal 1 => clear_value x)) | clear_value x)
    | with_reducible refine Keeps.ite (fun _ => ?_) (fun _ => ?_)
    | with_reducible apply State.put_keeps
    | with_reducible apply State.putB_keeps
    | with_reducible apply State.raise_keeps
    | with_reducible apply State.refreshChannels_keeps
    | split
    | dsimp -zeta only)

theorem State.hostRequest_keeps {s0 : State} (s : State) (i : Nat) (on : Bool) (h : Keeps s0 s) : Keeps s0 (State.hostRequest s i on) := by
  unfold State.hostRequest
  repeat' (first
    | with_reducible assumption
    | (simp -zeta only [Keeps.mk_iff]; with_reducible refine KeepsParts.of ?_ rfl rfl (Nat.le_refl _) rfl rfl)
    | ((fail_if_success (conv => arg 2; congr)); extract_lets +onlyGivenNames x; first | (have hx : Keeps s0 x := ?_; (on_goal 2 => dsimp -zeta only [x]); (on_goal 1 => clear_value x)) | (have hx : Keeps s0 x.1 := ?_; (on_goal 2 => dsimp -zeta only [x]); (on_goal 1 => clear_value x)) | clear_value x)
    | with_reducible refine Keeps.ite (fun _ => ?_) (fun _ => ?_)
    | with_reducible apply State.snBegin_keeps
    | split
    | dsimp -zeta only)

theorem State.lhmLock_keeps {s0 : State} (s : State) (h : Keeps s0 s) : Keeps s0 (State.lhmLock s) := by
  unfold State.lhmLock
  repeat' (first
    | with_reducible assumption
    | (simp -zeta only [Keeps.mk_iff]; with_reducible refine KeepsParts.of ?_ rfl rfl (Nat.le_refl _) rfl rfl)
    | ((fail_if_success (conv => arg 2; congr)); extract_lets +onlyGivenNames x; first | (have hx : Keeps s0 x := ?_; (on_goal 2 => dsimp -zeta only [x]); (on_goal 1 => clear_value x)) | (have hx : Keeps s0 x.1 := ?_; (on_goal 2 => dsimp -zeta only [x]); (on_goal 1 => clear_value x)) | clear_value x)
    | with_reducible refine Keeps.ite (fun _ => ?_) (fun _ => ?_)
    | with_reducible apply State.putB_keeps
    | with_reducible apply State.raise_keeps
    | with_reducible apply State.refreshChannels_keeps
    | split
    | dsimp -zeta only)

theorem State.shedChan_keeps {s0 : State} (s : State) (c i : Nat) (h : Keeps s0 s) : Keeps s0 (State.shedChan s c i) := by
  unfold State.shedChan
  repeat' (first
    | with_reducible assumption
    | (simp -zeta only [Keeps.mk_iff]; with_reducible refine KeepsParts.of ?_ rfl rfl (Nat.le_refl _) rfl rfl)
    | ((fail_if_success (conv => arg 2; congr)); extract_lets +onlyGivenNames x; first | (have hx : Keeps s0 x := ?_; (on_goal 2 => dsimp -zeta only [x]); (on_goal 1 => clear_value x)) | (have hx : Keeps s0 x.1 := ?_; (on_goal 2 => dsimp -zeta only [x]); (on_goal 1 => clear_value x)) | clear_value x)
    | with_reducible refine Keeps.ite (fun _ => ?_) (fun _ => ?_)
    | with_reducible apply State.putBit_keeps
    | with_reducible apply State.raise_keeps
    | with_reducible apply State.tripChan_keeps
    | split
    | dsimp -zeta only)

theorem State.resubmitAs_keeps {s0 : State} (s : State) (k how flags : Nat) (h : Keeps s0 s) : Keeps s0 (State.resubmitAs s k how flags) := by
  unfold State.resubmitAs
  repeat' (first
    | with_reducible assumption
    | (simp -zeta only [Keeps.mk_iff]; with_reducible refine KeepsParts.of ?_ rfl rfl (Nat.le_refl _) rfl rfl)
    | ((fail_if_success (conv => arg 2; congr)); extract_lets +onlyGivenNames x; first | (have hx : Keeps s0 x := ?_; (on_goal 2 => dsimp -zeta only [x]); (on_goal 1 => clear_value x)) | (have hx : Keeps s0 x.1 := ?_; (on_goal 2 => dsimp -zeta only [x]); (on_goal 1 => clear_value x)) | clear_value x)
    | with_reducible refine Keeps.ite (fun _ => ?_) (fun _ => ?_)
    | with_reducible apply State.putBit_keeps
    | with_reducible apply State.defer_keeps
    | with_reducible apply State.matrixRun_keeps
    | with_reducible apply State.release_keeps
    | with_reducible apply State.send_keeps
    | with_reducible apply State.setGrantsOf_keeps
    | split
    | dsimp -zeta only)

theorem State.resubmit_keeps {s0 : State} (s : State) (k : Nat) (h : Keeps s0 s) : Keeps s0 (State.resubmit s k) := by
  unfold State.resubmit
  repeat' (first
    | with_reducible assumption
    | (simp -zeta only [Keeps.mk_iff]; with_reducible refine KeepsParts.of ?_ rfl rfl (Nat.le_refl _) rfl rfl)
    | ((fail_if_success (conv => arg 2; congr)); extract_lets +onlyGivenNames x; first | (have hx : Keeps s0 x := ?_; (on_goal 2 => dsimp -zeta only [x]); (on_goal 1 => clear_value x)) | (have hx : Keeps s0 x.1 := ?_; (on_goal 2 => dsimp -zeta only [x]); (on_goal 1 => clear_value x)) | clear_value x)
    | with_reducible refine Keeps.ite (fun _ => ?_) (fun _ => ?_)
    | with_reducible apply State.resubmitAs_keeps
    | split
    | dsimp -zeta only)

theorem State.isoSettle_keeps {s0 : State} (s : State) (h : Keeps s0 s) : Keeps s0 (State.isoSettle s) := by
  unfold State.isoSettle
  repeat' (first
    | with_reducible assumption
    | (simp -zeta only [Keeps.mk_iff]; with_reducible refine KeepsParts.of ?_ rfl rfl (Nat.le_refl _) rfl rfl)
    | ((fail_if_success (conv => arg 2; congr)); extract_lets +onlyGivenNames x; first | (have hx : Keeps s0 x := ?_; (on_goal 2 => dsimp -zeta only [x]); (on_goal 1 => clear_value x)) | (have hx : Keeps s0 x.1 := ?_; (on_goal 2 => dsimp -zeta only [x]); (on_goal 1 => clear_value x)) | clear_value x)
    | with_reducible refine Keeps.ite (fun _ => ?_) (fun _ => ?_)
    | with_reducible apply State.send_keeps
    | split
    | dsimp -zeta only)

theorem State.releaseIso_keeps {s0 : State} (s : State) (h : Keeps s0 s) : Keeps s0 (State.releaseIso s) := by
  unfold State.releaseIso
  repeat' (first
    | with_reducible assumption
    | (simp -zeta only [Keeps.mk_iff]; with_reducible refine KeepsParts.of ?_ rfl rfl (Nat.le_refl _) rfl rfl)
    | ((fail_if_success (conv => arg 2; congr)); extract_lets +onlyGivenNames x; first | (have hx : Keeps s0 x := ?_; (on_goal 2 => dsimp -zeta only [x]); (on_goal 1 => clear_value x)) | (have hx : Keeps s0 x.1 := ?_; (on_goal 2 => dsimp -zeta only [x]); (on_goal 1 => clear_value x)) | clear_value x)
    | with_reducible refine Keeps.ite (fun _ => ?_) (fun _ => ?_)
    | with_reducible apply State.release_keeps
    | with_reducible apply State.releaseAll_keeps
    | split
    | dsimp -zeta only)

theorem State.isoIdle_keeps {s0 : State} (s : State) (h : Keeps s0 s) : Keeps s0 (State.isoIdle s) := by
  unfold State.isoIdle
  repeat' (first
    | with_reducible assumption
    | (simp -zeta only [Keeps.mk_iff]; with_reducible refine KeepsParts.of ?_ rfl rfl (Nat.le_refl _) rfl rfl)
    | ((fail_if_success (conv => arg 2; congr)); extract_lets +onlyGivenNames x; first | (have hx : Keeps s0 x := ?_; (on_goal 2 => dsimp -zeta only [x]); (on_goal 1 => clear_value x)) | (have hx : Keeps s0 x.1 := ?_; (on_goal 2 => dsimp -zeta only [x]); (on_goal 1 => clear_value x)) | clear_value x)
    | with_reducible refine Keeps.ite (fun _ => ?_) (fun _ => ?_)
    | with_reducible apply State.put_keeps
    | with_reducible apply State.putB_keeps
    | split
    | dsimp -zeta only)

theorem State.isoIncomplete_keeps {s0 : State} (s : State) (again : Bool) (h : Keeps s0 s) : Keeps s0 (State.isoIncomplete s again) := by
  unfold State.isoIncomplete
  repeat' (first
    | with_reducible assumption
    | (simp -zeta only [Keeps.mk_iff]; with_reducible refine KeepsParts.of ?_ rfl rfl (Nat.le_refl _) rfl rfl)
    | ((fail_if_success (conv => arg 2; congr)); extract_lets +onlyGivenNames x; first | (have hx : Keeps s0 x := ?_; (on_goal 2 => dsimp -zeta only [x]); (on_goal 1 => clear_value x)) | (have hx : Keeps s0 x.1 := ?_; (on_goal 2 => dsimp -zeta only [x]); (on_goal 1 => clear_value x)) | clear_value x)
    | with_reducible refine Keeps.ite (fun _ => ?_) (fun _ => ?_)
    | with_reducible apply State.put_keeps
    | with_reducible apply State.raise_keeps
    | with_reducible apply State.resubmit_keeps
    | with_reducible apply State.releaseIso_keeps
    | with_reducible apply State.isoIdle_keeps
    | split
    | dsimp -zeta only)

theorem State.endIso_keeps {s0 : State} (s : State) (h : Keeps s0 s) : Keeps s0 (State.endIso s) := by
  unfold State.endIso
  repeat' (first
    | with_reducible assumption
    | (simp -zeta only [Keeps.mk_iff]; with_reducible refine KeepsParts.of ?_ rfl rfl (Nat.le_refl _) rfl rfl)
    | ((fail_if_success (conv => arg 2; congr)); extract_lets +onlyGivenNames x; first | (have hx : Keeps s0 x := ?_; (on_goal 2 => dsimp -zeta only [x]); (on_goal 1 => clear_value x)) | (have hx : Keeps s0 x.1 := ?_; (on_goal 2 => dsimp -zeta only [x]); (on_goal 1 => clear_value x)) | clear_value x)
    | with_reducible refine Keeps.ite (fun _ => ?_) (fun _ => ?_)
    | with_reducible apply State.resubmit_keeps
    | with_reducible apply State.isoIncomplete_keeps
    | split
    | dsimp -zeta only)

theorem State.isoOver_keeps {s0 : State} (s : State) (h : Keeps s0 s) : Keeps s0 (State.isoOver s) := by
  unfold State.isoOver
  repeat' (first
    | with_reducible assumption
    | (simp -zeta only [Keeps.mk_iff]; with_reducible refine KeepsParts.of ?_ rfl rfl (Nat.le_refl _) rfl rfl)
    | ((fail_if_success (conv => arg 2; congr)); extract_lets +onlyGivenNames x; first | (have hx : Keeps s0 x := ?_; (on_goal 2 => dsimp -zeta only [x]); (on_goal 1 => clear_value x)) | (have hx : Keeps s0 x.1 := ?_; (on_goal 2 => dsimp -zeta only [x]); (on_goal 1 => clear_value x)) | clear_value x)
    | with_reducible refine Keeps.ite (fun _ => ?_) (fun _ => ?_)
    | with_reducible apply State.releaseAll_keeps
    | split
    | dsimp -zeta only)

theorem State.isoOrphan_keeps {s0 : State} (s : State) (h : Keeps s0 s) : Keeps s0 (State.isoOrphan s) := by
  unfold State.isoOrphan
  repeat' (first
    | with_reducible assumption
    | (simp -zeta only [Keeps.mk_iff]; with_reducible refine KeepsParts.of ?_ rfl rfl (Nat.le_refl _) rfl rfl)
    | ((fail_if_success (conv => arg 2; congr)); extract_lets +onlyGivenNames x; first | (have hx : Keeps s0 x := ?_; (on_goal 2 => dsimp -zeta only [x]); (on_goal 1 => clear_value x)) | (have hx : Keeps s0 x.1 := ?_; (on_goal 2 => dsimp -zeta only [x]); (on_goal 1 => clear_value x)) | clear_value x)
    | with_reducible refine Keeps.ite (fun _ => ?_) (fun _ => ?_)
    | with_reducible apply State.isoIncomplete_keeps
    | split
    | dsimp -zeta only)

theorem State.eisQuiet_keeps {s0 : State} (s : State) (h : Keeps s0 s) : Keeps s0 (State.eisQuiet s) := by
  unfold State.eisQuiet
  repeat' (first
    | with_reducible assumption
    | (simp -zeta only [Keeps.mk_iff]; with_reducible refine KeepsParts.of ?_ rfl rfl (Nat.le_refl _) rfl rfl)
    | ((fail_if_success (conv => arg 2; congr)); extract_lets +onlyGivenNames x; first | (have hx : Keeps s0 x := ?_; (on_goal 2 => dsimp -zeta only [x]); (on_goal 1 => clear_value x)) | (have hx : Keeps s0 x.1 := ?_; (on_goal 2 => dsimp -zeta only [x]); (on_goal 1 => clear_value x)) | clear_value x)
    | with_reducible refine Keeps.ite (fun _ => ?_) (fun _ => ?_)
    | with_reducible apply State.put_keeps
    | with_reducible apply State.stopModulation_keeps
    | split
    | dsimp -zeta only)

theorem State.eisSkipRecord_keeps {s0 : State} (s : State) (reason : Nat) (h : Keeps s0 s) : Keeps s0 (State.eisSkipRecord s reason) := by
  unfold State.eisSkipRecord
  repeat' (first
    | with_reducible assumption
    | (simp -zeta only [Keeps.mk_iff]; with_reducible refine KeepsParts.of ?_ rfl rfl (Nat.le_refl _) rfl rfl)
    | ((fail_if_success (conv => arg 2; congr)); extract_lets +onlyGivenNames x; first | (have hx : Keeps s0 x := ?_; (on_goal 2 => dsimp -zeta only [x]); (on_goal 1 => clear_value x)) | (have hx : Keeps s0 x.1 := ?_; (on_goal 2 => dsimp -zeta only [x]); (on_goal 1 => clear_value x)) | clear_value x)
    | with_reducible refine Keeps.ite (fun _ => ?_) (fun _ => ?_)
    | with_reducible apply State.put_keeps
    | with_reducible apply State.incSat_keeps
    | with_reducible apply State.raise_keeps
    | split
    | dsimp -zeta only)

theorem State.eisStopRequest_keeps {s0 : State} (s : State) (h : Keeps s0 s) : Keeps s0 (State.eisStopRequest s) := by
  unfold State.eisStopRequest
  repeat' (first
    | with_reducible assumption
    | (simp -zeta only [Keeps.mk_iff]; with_reducible refine KeepsParts.of ?_ rfl rfl (Nat.le_refl _) rfl rfl)
    | ((fail_if_success (conv => arg 2; congr)); extract_lets +onlyGivenNames x; first | (have hx : Keeps s0 x := ?_; (on_goal 2 => dsimp -zeta only [x]); (on_goal 1 => clear_value x)) | (have hx : Keeps s0 x.1 := ?_; (on_goal 2 => dsimp -zeta only [x]); (on_goal 1 => clear_value x)) | clear_value x)
    | with_reducible refine Keeps.ite (fun _ => ?_) (fun _ => ?_)
    | split
    | dsimp -zeta only)

theorem State.eisSweepEnd_keeps {s0 : State} (s : State) (how flags : Nat) (h : Keeps s0 s) : Keeps s0 (State.eisSweepEnd s how flags) := by
  unfold State.eisSweepEnd
  repeat' (first
    | with_reducible assumption
    | (simp -zeta only [Keeps.mk_iff]; with_reducible refine KeepsParts.of ?_ rfl rfl (Nat.le_refl _) rfl rfl)
    | ((fail_if_success (conv => arg 2; congr)); extract_lets +onlyGivenNames x; first | (have hx : Keeps s0 x := ?_; (on_goal 2 => dsimp -zeta only [x]); (on_goal 1 => clear_value x)) | (have hx : Keeps s0 x.1 := ?_; (on_goal 2 => dsimp -zeta only [x]); (on_goal 1 => clear_value x)) | clear_value x)
    | with_reducible refine Keeps.ite (fun _ => ?_) (fun _ => ?_)
    | with_reducible apply State.putB_keeps
    | with_reducible apply State.releaseAs_keeps
    | with_reducible apply State.eisQuiet_keeps
    | split
    | dsimp -zeta only)

theorem State.eisSweepOver_keeps {s0 : State} (s : State) (h : Keeps s0 s) : Keeps s0 (State.eisSweepOver s) := by
  unfold State.eisSweepOver
  repeat' (first
    | with_reducible assumption
    | (simp -zeta only [Keeps.mk_iff]; with_reducible refine KeepsParts.of ?_ rfl rfl (Nat.le_refl _) rfl rfl)
    | ((fail_if_success (conv => arg 2; congr)); extract_lets +onlyGivenNames x; first | (have hx : Keeps s0 x := ?_; (on_goal 2 => dsimp -zeta only [x]); (on_goal 1 => clear_value x)) | (have hx : Keeps s0 x.1 := ?_; (on_goal 2 => dsimp -zeta only [x]); (on_goal 1 => clear_value x)) | clear_value x)
    | with_reducible refine Keeps.ite (fun _ => ?_) (fun _ => ?_)
    | with_reducible apply State.eisSweepEnd_keeps
    | split
    | dsimp -zeta only)

theorem State.eisTell_keeps {s0 : State} (s : State) (src : Nat) (h : Keeps s0 s) : Keeps s0 (State.eisTell s src) := by
  unfold State.eisTell
  repeat' (first
    | with_reducible assumption
    | (simp -zeta only [Keeps.mk_iff]; with_reducible refine KeepsParts.of ?_ rfl rfl (Nat.le_refl _) rfl rfl)
    | ((fail_if_success (conv => arg 2; congr)); extract_lets +onlyGivenNames x; first | (have hx : Keeps s0 x := ?_; (on_goal 2 => dsimp -zeta only [x]); (on_goal 1 => clear_value x)) | (have hx : Keeps s0 x.1 := ?_; (on_goal 2 => dsimp -zeta only [x]); (on_goal 1 => clear_value x)) | clear_value x)
    | with_reducible refine Keeps.ite (fun _ => ?_) (fun _ => ?_)
    | with_reducible apply State.send_keeps
    | split
    | dsimp -zeta only)

theorem State.eisPlan_keeps {s0 : State} (s : State) (h : Keeps s0 s) : Keeps s0 (State.eisPlan s) := by
  unfold State.eisPlan
  repeat' (first
    | with_reducible assumption
    | (simp -zeta only [Keeps.mk_iff]; with_reducible refine KeepsParts.of ?_ rfl rfl (Nat.le_refl _) rfl rfl)
    | ((fail_if_success (conv => arg 2; congr)); extract_lets +onlyGivenNames x; first | (have hx : Keeps s0 x := ?_; (on_goal 2 => dsimp -zeta only [x]); (on_goal 1 => clear_value x)) | (have hx : Keeps s0 x.1 := ?_; (on_goal 2 => dsimp -zeta only [x]); (on_goal 1 => clear_value x)) | clear_value x)
    | with_reducible refine Keeps.ite (fun _ => ?_) (fun _ => ?_)
    | with_reducible apply State.eisTell_keeps
    | split
    | dsimp -zeta only)

theorem State.eisFrom_keeps {s0 : State} (how flags n p : Nat) (s : State) (h : Keeps s0 s) :
    Keeps s0 (State.eisFrom how flags n p s) := by
  induction n generalizing p s with
  | zero => exact State.raise_keeps (State.eisSweepEnd_keeps _ _ _ h) _
  | succ n ih =>
    unfold State.eisFrom
    have h1 := State.put_keeps (State.eisQuiet_keeps s h) Reg.EIS_STAT_POINT p
    simp only []
    generalize s.eisQuiet.put Reg.EIS_STAT_POINT p = s1 at h1 ⊢
    split
    · exact ih _ _ (State.eisSkipRecord_keeps s1 2 h1)
    · refine Keeps.ite (fun _ => State.resubmitAs_keeps _ _ _ _ ?_) (fun _ => State.askAll_keeps _ _ ?_)
      all_goals exact h1.upd rfl rfl (Nat.le_refl _) rfl rfl

theorem State.eisNext_keeps {s0 : State} (s : State) (how flags : Nat) (h : Keeps s0 s) : Keeps s0 (State.eisNext s how flags) := by
  unfold State.eisNext
  repeat' (first
    | with_reducible assumption
    | (simp -zeta only [Keeps.mk_iff]; with_reducible refine KeepsParts.of ?_ rfl rfl (Nat.le_refl _) rfl rfl)
    | ((fail_if_success (conv => arg 2; congr)); extract_lets +onlyGivenNames x; first | (have hx : Keeps s0 x := ?_; (on_goal 2 => dsimp -zeta only [x]); (on_goal 1 => clear_value x)) | (have hx : Keeps s0 x.1 := ?_; (on_goal 2 => dsimp -zeta only [x]); (on_goal 1 => clear_value x)) | clear_value x)
    | with_reducible refine Keeps.ite (fun _ => ?_) (fun _ => ?_)
    | with_reducible apply State.eisQuiet_keeps
    | with_reducible apply State.eisFrom_keeps
    | split
    | dsimp -zeta only)

theorem State.eisSkip_keeps {s0 : State} (s : State) (reason : Nat) (h : Keeps s0 s) : Keeps s0 (State.eisSkip s reason) := by
  unfold State.eisSkip
  repeat' (first
    | with_reducible assumption
    | (simp -zeta only [Keeps.mk_iff]; with_reducible refine KeepsParts.of ?_ rfl rfl (Nat.le_refl _) rfl rfl)
    | ((fail_if_success (conv => arg 2; congr)); extract_lets +onlyGivenNames x; first | (have hx : Keeps s0 x := ?_; (on_goal 2 => dsimp -zeta only [x]); (on_goal 1 => clear_value x)) | (have hx : Keeps s0 x.1 := ?_; (on_goal 2 => dsimp -zeta only [x]); (on_goal 1 => clear_value x)) | clear_value x)
    | with_reducible refine Keeps.ite (fun _ => ?_) (fun _ => ?_)
    | with_reducible apply State.eisSkipRecord_keeps
    | with_reducible apply State.eisNext_keeps
    | split
    | dsimp -zeta only)

theorem State.eisAbort_keeps {s0 : State} (s : State) (h : Keeps s0 s) : Keeps s0 (State.eisAbort s) := by
  unfold State.eisAbort
  repeat' (first
    | with_reducible assumption
    | (simp -zeta only [Keeps.mk_iff]; with_reducible refine KeepsParts.of ?_ rfl rfl (Nat.le_refl _) rfl rfl)
    | ((fail_if_success (conv => arg 2; congr)); extract_lets +onlyGivenNames x; first | (have hx : Keeps s0 x := ?_; (on_goal 2 => dsimp -zeta only [x]); (on_goal 1 => clear_value x)) | (have hx : Keeps s0 x.1 := ?_; (on_goal 2 => dsimp -zeta only [x]); (on_goal 1 => clear_value x)) | clear_value x)
    | with_reducible refine Keeps.ite (fun _ => ?_) (fun _ => ?_)
    | with_reducible apply State.raiseIf_keeps
    | with_reducible apply State.eisQuiet_keeps
    | with_reducible apply State.eisSkipRecord_keeps
    | with_reducible apply State.eisStopRequest_keeps
    | with_reducible apply State.eisSweepOver_keeps
    | split
    | dsimp -zeta only)

theorem State.eisExc_keeps {s0 : State} (s : State) (h : Keeps s0 s) : Keeps s0 (State.eisExc s) := by
  unfold State.eisExc
  repeat' (first
    | with_reducible assumption
    | (simp -zeta only [Keeps.mk_iff]; with_reducible refine KeepsParts.of ?_ rfl rfl (Nat.le_refl _) rfl rfl)
    | ((fail_if_success (conv => arg 2; congr)); extract_lets +onlyGivenNames x; first | (have hx : Keeps s0 x := ?_; (on_goal 2 => dsimp -zeta only [x]); (on_goal 1 => clear_value x)) | (have hx : Keeps s0 x.1 := ?_; (on_goal 2 => dsimp -zeta only [x]); (on_goal 1 => clear_value x)) | clear_value x)
    | with_reducible refine Keeps.ite (fun _ => ?_) (fun _ => ?_)
    | with_reducible apply State.putB_keeps
    | split
    | dsimp -zeta only)

theorem State.roleChanged_keeps {s0 : State} (s : State) (h : Keeps s0 s) : Keeps s0 (State.roleChanged s) := by
  unfold State.roleChanged
  repeat' (first
    | with_reducible assumption
    | (simp -zeta only [Keeps.mk_iff]; with_reducible refine KeepsParts.of ?_ rfl rfl (Nat.le_refl _) rfl rfl)
    | ((fail_if_success (conv => arg 2; congr)); extract_lets +onlyGivenNames x; first | (have hx : Keeps s0 x := ?_; (on_goal 2 => dsimp -zeta only [x]); (on_goal 1 => clear_value x)) | (have hx : Keeps s0 x.1 := ?_; (on_goal 2 => dsimp -zeta only [x]); (on_goal 1 => clear_value x)) | clear_value x)
    | with_reducible refine Keeps.ite (fun _ => ?_) (fun _ => ?_)
    | with_reducible apply State.endIso_keeps
    | with_reducible apply State.eisAbort_keeps
    | with_reducible apply State.eisExc_keeps
    | split
    | dsimp -zeta only)

theorem State.mapSync_keeps {s0 : State} (s : State) (h : Keeps s0 s) : Keeps s0 (State.mapSync s) := by
  unfold State.mapSync
  repeat' (first
    | with_reducible assumption
    | (simp -zeta only [Keeps.mk_iff]; with_reducible refine KeepsParts.of ?_ rfl rfl (Nat.le_refl _) rfl rfl)
    | ((fail_if_success (conv => arg 2; congr)); extract_lets +onlyGivenNames x; first | (have hx : Keeps s0 x := ?_; (on_goal 2 => dsimp -zeta only [x]); (on_goal 1 => clear_value x)) | (have hx : Keeps s0 x.1 := ?_; (on_goal 2 => dsimp -zeta only [x]); (on_goal 1 => clear_value x)) | clear_value x)
    | with_reducible refine Keeps.ite (fun _ => ?_) (fun _ => ?_)
    | with_reducible apply State.putB_keeps
    | split
    | dsimp -zeta only)

theorem State.ctsShow_keeps {s0 : State} (s : State) (h : Keeps s0 s) : Keeps s0 (State.ctsShow s) := by
  unfold State.ctsShow
  repeat' (first
    | with_reducible assumption
    | (simp -zeta only [Keeps.mk_iff]; with_reducible refine KeepsParts.of ?_ rfl rfl (Nat.le_refl _) rfl rfl)
    | ((fail_if_success (conv => arg 2; congr)); extract_lets +onlyGivenNames x; first | (have hx : Keeps s0 x := ?_; (on_goal 2 => dsimp -zeta only [x]); (on_goal 1 => clear_value x)) | (have hx : Keeps s0 x.1 := ?_; (on_goal 2 => dsimp -zeta only [x]); (on_goal 1 => clear_value x)) | clear_value x)
    | with_reducible refine Keeps.ite (fun _ => ?_) (fun _ => ?_)
    | with_reducible apply State.putB_keeps
    | split
    | dsimp -zeta only)

theorem State.setRole_keeps {s0 : State} (s : State) (r : Nat) (on : Bool) (h : Keeps s0 s) : Keeps s0 (State.setRole s r on) := by
  unfold State.setRole
  repeat' (first
    | with_reducible assumption
    | (simp -zeta only [Keeps.mk_iff]; with_reducible refine KeepsParts.of ?_ rfl rfl (Nat.le_refl _) rfl rfl)
    | ((fail_if_success (conv => arg 2; congr)); extract_lets +onlyGivenNames x; first | (have hx : Keeps s0 x := ?_; (on_goal 2 => dsimp -zeta only [x]); (on_goal 1 => clear_value x)) | (have hx : Keeps s0 x.1 := ?_; (on_goal 2 => dsimp -zeta only [x]); (on_goal 1 => clear_value x)) | clear_value x)
    | with_reducible refine Keeps.ite (fun _ => ?_) (fun _ => ?_)
    | with_reducible apply State.turnOn_keeps
    | with_reducible apply State.turnOff_keeps
    | with_reducible apply State.roleChanged_keeps
    | with_reducible apply State.ctsShow_keeps
    | split
    | dsimp -zeta only)

theorem State.setRoles_keeps {s0 : State} (s : State) (rs : List Nat) (on : Bool) (h : Keeps s0 s) : Keeps s0 (State.setRoles s rs on) := by
  unfold State.setRoles
  repeat' (first
    | with_reducible assumption
    | (simp -zeta only [Keeps.mk_iff]; with_reducible refine KeepsParts.of ?_ rfl rfl (Nat.le_refl _) rfl rfl)
    | ((fail_if_success (conv => arg 2; congr)); extract_lets +onlyGivenNames x; first | (have hx : Keeps s0 x := ?_; (on_goal 2 => dsimp -zeta only [x]); (on_goal 1 => clear_value x)) | (have hx : Keeps s0 x.1 := ?_; (on_goal 2 => dsimp -zeta only [x]); (on_goal 1 => clear_value x)) | clear_value x)
    | with_reducible refine Keeps.ite (fun _ => ?_) (fun _ => ?_)
    | with_reducible apply State.setRole_keeps
    | (with_reducible apply Keeps.foldl; on_goal 2 => (intro x y hx; try dsimp -zeta only))
    | split
    | dsimp -zeta only)

theorem State.enterD_keeps {s0 : State} (s : State) (st : Nat) (h : Keeps s0 s) : Keeps s0 (State.enterD s st) := by
  unfold State.enterD
  repeat' (first
    | with_reducible assumption
    | (simp -zeta only [Keeps.mk_iff]; with_reducible refine KeepsParts.of ?_ rfl rfl (Nat.le_refl _) rfl rfl)
    | ((fail_if_success (conv => arg 2; congr)); extract_lets +onlyGivenNames x; first | (have hx : Keeps s0 x := ?_; (on_goal 2 => dsimp -zeta only [x]); (on_goal 1 => clear_value x)) | (have hx : Keeps s0 x.1 := ?_; (on_goal 2 => dsimp -zeta only [x]); (on_goal 1 => clear_value x)) | clear_value x)
    | with_reducible refine Keeps.ite (fun _ => ?_) (fun _ => ?_)
    | with_reducible apply State.put_keeps
    | split
    | dsimp -zeta only)

theorem State.enterC_keeps {s0 : State} (s : State) (st : Nat) (h : Keeps s0 s) : Keeps s0 (State.enterC s st) := by
  unfold State.enterC
  repeat' (first
    | with_reducible assumption
    | (simp -zeta only [Keeps.mk_iff]; with_reducible refine KeepsParts.of ?_ rfl rfl (Nat.le_refl _) rfl rfl)
    | ((fail_if_success (conv => arg 2; congr)); extract_lets +onlyGivenNames x; first | (have hx : Keeps s0 x := ?_; (on_goal 2 => dsimp -zeta only [x]); (on_goal 1 => clear_value x)) | (have hx : Keeps s0 x.1 := ?_; (on_goal 2 => dsimp -zeta only [x]); (on_goal 1 => clear_value x)) | clear_value x)
    | with_reducible refine Keeps.ite (fun _ => ?_) (fun _ => ?_)
    | with_reducible apply State.put_keeps
    | split
    | dsimp -zeta only)

theorem State.dropWeld_keeps {s0 : State} (s : State) (h : Keeps s0 s) : Keeps s0 (State.dropWeld s) := by
  unfold State.dropWeld
  repeat' (first
    | with_reducible assumption
    | (simp -zeta only [Keeps.mk_iff]; with_reducible refine KeepsParts.of ?_ rfl rfl (Nat.le_refl _) rfl rfl)
    | ((fail_if_success (conv => arg 2; congr)); extract_lets +onlyGivenNames x; first | (have hx : Keeps s0 x := ?_; (on_goal 2 => dsimp -zeta only [x]); (on_goal 1 => clear_value x)) | (have hx : Keeps s0 x.1 := ?_; (on_goal 2 => dsimp -zeta only [x]); (on_goal 1 => clear_value x)) | clear_value x)
    | with_reducible refine Keeps.ite (fun _ => ?_) (fun _ => ?_)
    | with_reducible apply State.abandon_keeps
    | split
    | dsimp -zeta only)

theorem State.weldResult_keeps {s0 : State} (s : State) (r v : Nat) (h : Keeps s0 s) : Keeps s0 (State.weldResult s r v) := by
  unfold State.weldResult
  repeat' (first
    | with_reducible assumption
    | (simp -zeta only [Keeps.mk_iff]; with_reducible refine KeepsParts.of ?_ rfl rfl (Nat.le_refl _) rfl rfl)
    | ((fail_if_success (conv => arg 2; congr)); extract_lets +onlyGivenNames x; first | (have hx : Keeps s0 x := ?_; (on_goal 2 => dsimp -zeta only [x]); (on_goal 1 => clear_value x)) | (have hx : Keeps s0 x.1 := ?_; (on_goal 2 => dsimp -zeta only [x]); (on_goal 1 => clear_value x)) | clear_value x)
    | with_reducible refine Keeps.ite (fun _ => ?_) (fun _ => ?_)
    | with_reducible apply State.put_keeps
    | with_reducible apply State.raiseIf_keeps
    | split
    | dsimp -zeta only)

theorem State.loadOpened_keeps {s0 : State} (s : State) (tick : Nat) (h : Keeps s0 s) : Keeps s0 (State.loadOpened s tick) := by
  unfold State.loadOpened
  repeat' (first
    | with_reducible assumption
    | (simp -zeta only [Keeps.mk_iff]; with_reducible refine KeepsParts.of ?_ rfl rfl (Nat.le_refl _) rfl rfl)
    | ((fail_if_success (conv => arg 2; congr)); extract_lets +onlyGivenNames x; first | (have hx : Keeps s0 x := ?_; (on_goal 2 => dsimp -zeta only [x]); (on_goal 1 => clear_value x)) | (have hx : Keeps s0 x.1 := ?_; (on_goal 2 => dsimp -zeta only [x]); (on_goal 1 => clear_value x)) | clear_value x)
    | with_reducible refine Keeps.ite (fun _ => ?_) (fun _ => ?_)
    | with_reducible apply State.incSat_keeps
    | with_reducible apply State.raise_keeps
    | (with_reducible apply Keeps.foldl; on_goal 2 => (intro x y hx; try dsimp -zeta only))
    | split
    | dsimp -zeta only)

theorem State.openRecord_keeps {s0 : State} (s : State) (tick all reason : Nat) (h : Keeps s0 s) : Keeps s0 (State.openRecord s tick all reason) := by
  unfold State.openRecord
  repeat' (first
    | with_reducible assumption
    | (simp -zeta only [Keeps.mk_iff]; with_reducible refine KeepsParts.of ?_ rfl rfl (Nat.le_refl _) rfl rfl)
    | ((fail_if_success (conv => arg 2; congr)); extract_lets +onlyGivenNames x; first | (have hx : Keeps s0 x := ?_; (on_goal 2 => dsimp -zeta only [x]); (on_goal 1 => clear_value x)) | (have hx : Keeps s0 x.1 := ?_; (on_goal 2 => dsimp -zeta only [x]); (on_goal 1 => clear_value x)) | clear_value x)
    | with_reducible refine Keeps.ite (fun _ => ?_) (fun _ => ?_)
    | with_reducible apply State.put_keeps
    | with_reducible apply State.putB_keeps
    | with_reducible apply State.putI_keeps
    | with_reducible apply State.record_keeps
    | with_reducible apply State.loadOpened_keeps
    | split
    | dsimp -zeta only)

theorem State.opening_keeps {s0 : State} (s : State) (now_ later : List Nat) (reason lost : Nat) (h : Keeps s0 s) : Keeps s0 (State.opening s now_ later reason lost) := by
  unfold State.opening
  repeat' (first
    | with_reducible assumption
    | (simp -zeta only [Keeps.mk_iff]; with_reducible refine KeepsParts.of ?_ rfl rfl (Nat.le_refl _) rfl rfl)
    | ((fail_if_success (conv => arg 2; congr)); extract_lets +onlyGivenNames x; first | (have hx : Keeps s0 x := ?_; (on_goal 2 => dsimp -zeta only [x]); (on_goal 1 => clear_value x)) | (have hx : Keeps s0 x.1 := ?_; (on_goal 2 => dsimp -zeta only [x]); (on_goal 1 => clear_value x)) | clear_value x)
    | with_reducible refine Keeps.ite (fun _ => ?_) (fun _ => ?_)
    | with_reducible apply State.setRoles_keeps
    | with_reducible apply State.openRecord_keeps
    | split
    | dsimp -zeta only)

theorem State.auxOpen_keeps {s0 : State} (s : State) (reason : Nat) (h : Keeps s0 s) : Keeps s0 (State.auxOpen s reason) := by
  unfold State.auxOpen
  repeat' (first
    | with_reducible assumption
    | (simp -zeta only [Keeps.mk_iff]; with_reducible refine KeepsParts.of ?_ rfl rfl (Nat.le_refl _) rfl rfl)
    | ((fail_if_success (conv => arg 2; congr)); extract_lets +onlyGivenNames x; first | (have hx : Keeps s0 x := ?_; (on_goal 2 => dsimp -zeta only [x]); (on_goal 1 => clear_value x)) | (have hx : Keeps s0 x.1 := ?_; (on_goal 2 => dsimp -zeta only [x]); (on_goal 1 => clear_value x)) | clear_value x)
    | with_reducible refine Keeps.ite (fun _ => ?_) (fun _ => ?_)
    | with_reducible apply State.opening_keeps
    | split
    | dsimp -zeta only)

theorem State.posOpen_keeps {s0 : State} (s : State) (reason lost : Nat) (h : Keeps s0 s) : Keeps s0 (State.posOpen s reason lost) := by
  unfold State.posOpen
  repeat' (first
    | with_reducible assumption
    | (simp -zeta only [Keeps.mk_iff]; with_reducible refine KeepsParts.of ?_ rfl rfl (Nat.le_refl _) rfl rfl)
    | ((fail_if_success (conv => arg 2; congr)); extract_lets +onlyGivenNames x; first | (have hx : Keeps s0 x := ?_; (on_goal 2 => dsimp -zeta only [x]); (on_goal 1 => clear_value x)) | (have hx : Keeps s0 x.1 := ?_; (on_goal 2 => dsimp -zeta only [x]); (on_goal 1 => clear_value x)) | clear_value x)
    | with_reducible refine Keeps.ite (fun _ => ?_) (fun _ => ?_)
    | with_reducible apply State.enterD_keeps
    | with_reducible apply State.dropWeld_keeps
    | with_reducible apply State.opening_keeps
    | split
    | dsimp -zeta only)

theorem State.driveOpen_keeps {s0 : State} (s : State) (h : Keeps s0 s) : Keeps s0 (State.driveOpen s) := by
  unfold State.driveOpen
  repeat' (first
    | with_reducible assumption
    | (simp -zeta only [Keeps.mk_iff]; with_reducible refine KeepsParts.of ?_ rfl rfl (Nat.le_refl _) rfl rfl)
    | ((fail_if_success (conv => arg 2; congr)); extract_lets +onlyGivenNames x; first | (have hx : Keeps s0 x := ?_; (on_goal 2 => dsimp -zeta only [x]); (on_goal 1 => clear_value x)) | (have hx : Keeps s0 x.1 := ?_; (on_goal 2 => dsimp -zeta only [x]); (on_goal 1 => clear_value x)) | clear_value x)
    | with_reducible refine Keeps.ite (fun _ => ?_) (fun _ => ?_)
    | with_reducible apply State.mapSync_keeps
    | with_reducible apply State.enterD_keeps
    | split
    | dsimp -zeta only)

theorem State.pcFail_keeps {s0 : State} (s : State) (code : Nat) (h : Keeps s0 s) : Keeps s0 (State.pcFail s code) := by
  unfold State.pcFail
  repeat' (first
    | with_reducible assumption
    | (simp -zeta only [Keeps.mk_iff]; with_reducible refine KeepsParts.of ?_ rfl rfl (Nat.le_refl _) rfl rfl)
    | ((fail_if_success (conv => arg 2; congr)); extract_lets +onlyGivenNames x; first | (have hx : Keeps s0 x := ?_; (on_goal 2 => dsimp -zeta only [x]); (on_goal 1 => clear_value x)) | (have hx : Keeps s0 x.1 := ?_; (on_goal 2 => dsimp -zeta only [x]); (on_goal 1 => clear_value x)) | clear_value x)
    | with_reducible refine Keeps.ite (fun _ => ?_) (fun _ => ?_)
    | with_reducible apply State.put_keeps
    | with_reducible apply State.putB_keeps
    | with_reducible apply State.raise_keeps
    | with_reducible apply State.posOpen_keeps
    | split
    | dsimp -zeta only)

theorem State.pcOn_keeps {s0 : State} (s : State) (h : Keeps s0 s) : Keeps s0 (State.pcOn s) := by
  unfold State.pcOn
  repeat' (first
    | with_reducible assumption
    | (simp -zeta only [Keeps.mk_iff]; with_reducible refine KeepsParts.of ?_ rfl rfl (Nat.le_refl _) rfl rfl)
    | ((fail_if_success (conv => arg 2; congr)); extract_lets +onlyGivenNames x; first | (have hx : Keeps s0 x := ?_; (on_goal 2 => dsimp -zeta only [x]); (on_goal 1 => clear_value x)) | (have hx : Keeps s0 x.1 := ?_; (on_goal 2 => dsimp -zeta only [x]); (on_goal 1 => clear_value x)) | clear_value x)
    | with_reducible refine Keeps.ite (fun _ => ?_) (fun _ => ?_)
    | with_reducible apply State.setRole_keeps
    | split
    | dsimp -zeta only)

theorem State.ctsSettle_keeps {s0 : State} (s : State) (h : Keeps s0 s) : Keeps s0 (State.ctsSettle s) := by
  unfold State.ctsSettle
  repeat' (first
    | with_reducible assumption
    | (simp -zeta only [Keeps.mk_iff]; with_reducible refine KeepsParts.of ?_ rfl rfl (Nat.le_refl _) rfl rfl)
    | ((fail_if_success (conv => arg 2; congr)); extract_lets +onlyGivenNames x; first | (have hx : Keeps s0 x := ?_; (on_goal 2 => dsimp -zeta only [x]); (on_goal 1 => clear_value x)) | (have hx : Keeps s0 x.1 := ?_; (on_goal 2 => dsimp -zeta only [x]); (on_goal 1 => clear_value x)) | clear_value x)
    | with_reducible refine Keeps.ite (fun _ => ?_) (fun _ => ?_)
    | with_reducible apply State.enterD_keeps
    | with_reducible apply State.enterC_keeps
    | with_reducible apply State.pcOn_keeps
    | split
    | dsimp -zeta only)

theorem State.owSettle_keeps {s0 : State} (s : State) (h : Keeps s0 s) : Keeps s0 (State.owSettle s) := by
  unfold State.owSettle
  repeat' (first
    | with_reducible assumption
    | (simp -zeta only [Keeps.mk_iff]; with_reducible refine KeepsParts.of ?_ rfl rfl (Nat.le_refl _) rfl rfl)
    | ((fail_if_success (conv => arg 2; congr)); extract_lets +onlyGivenNames x; first | (have hx : Keeps s0 x := ?_; (on_goal 2 => dsimp -zeta only [x]); (on_goal 1 => clear_value x)) | (have hx : Keeps s0 x.1 := ?_; (on_goal 2 => dsimp -zeta only [x]); (on_goal 1 => clear_value x)) | clear_value x)
    | with_reducible refine Keeps.ite (fun _ => ?_) (fun _ => ?_)
    | split
    | dsimp -zeta only)

theorem State.settle_keeps {s0 : State} (s : State) (h : Keeps s0 s) : Keeps s0 (State.settle s) := by
  unfold State.settle
  repeat' (first
    | with_reducible assumption
    | (simp -zeta only [Keeps.mk_iff]; with_reducible refine KeepsParts.of ?_ rfl rfl (Nat.le_refl _) rfl rfl)
    | ((fail_if_success (conv => arg 2; congr)); extract_lets +onlyGivenNames x; first | (have hx : Keeps s0 x := ?_; (on_goal 2 => dsimp -zeta only [x]); (on_goal 1 => clear_value x)) | (have hx : Keeps s0 x.1 := ?_; (on_goal 2 => dsimp -zeta only [x]); (on_goal 1 => clear_value x)) | clear_value x)
    | with_reducible refine Keeps.ite (fun _ => ?_) (fun _ => ?_)
    | with_reducible apply State.refreshSwitches_keeps
    | with_reducible apply State.isoSettle_keeps
    | with_reducible apply State.eisPlan_keeps
    | with_reducible apply State.ctsSettle_keeps
    | with_reducible apply State.owSettle_keeps
    | split
    | dsimp -zeta only)

theorem State.pcDone_keeps {s0 : State} (s : State) (ms : Nat) (h : Keeps s0 s) : Keeps s0 (State.pcDone s ms) := by
  unfold State.pcDone
  repeat' (first
    | with_reducible assumption
    | (simp -zeta only [Keeps.mk_iff]; with_reducible refine KeepsParts.of ?_ rfl rfl (Nat.le_refl _) rfl rfl)
    | ((fail_if_success (conv => arg 2; congr)); extract_lets +onlyGivenNames x; first | (have hx : Keeps s0 x := ?_; (on_goal 2 => dsimp -zeta only [x]); (on_goal 1 => clear_value x)) | (have hx : Keeps s0 x.1 := ?_; (on_goal 2 => dsimp -zeta only [x]); (on_goal 1 => clear_value x)) | clear_value x)
    | with_reducible refine Keeps.ite (fun _ => ?_) (fun _ => ?_)
    | with_reducible apply State.put_keeps
    | with_reducible apply State.setRole_keeps
    | with_reducible apply State.enterD_keeps
    | split
    | dsimp -zeta only)

theorem State.precharge_keeps {s0 : State} (s : State) (t : Nat) (h : Keeps s0 s) : Keeps s0 (State.precharge s t) := by
  unfold State.precharge
  repeat' (first
    | with_reducible assumption
    | (simp -zeta only [Keeps.mk_iff]; with_reducible refine KeepsParts.of ?_ rfl rfl (Nat.le_refl _) rfl rfl)
    | ((fail_if_success (conv => arg 2; congr)); extract_lets +onlyGivenNames x; first | (have hx : Keeps s0 x := ?_; (on_goal 2 => dsimp -zeta only [x]); (on_goal 1 => clear_value x)) | (have hx : Keeps s0 x.1 := ?_; (on_goal 2 => dsimp -zeta only [x]); (on_goal 1 => clear_value x)) | clear_value x)
    | with_reducible refine Keeps.ite (fun _ => ?_) (fun _ => ?_)
    | with_reducible apply State.nextFree_keeps
    | with_reducible apply State.pcFail_keeps
    | with_reducible apply State.pcDone_keeps
    | split
    | dsimp -zeta only)

theorem State.cpOpen_keeps {s0 : State} (s : State) (reason : Nat) (h : Keeps s0 s) : Keeps s0 (State.cpOpen s reason) := by
  unfold State.cpOpen
  repeat' (first
    | with_reducible assumption
    | (simp -zeta only [Keeps.mk_iff]; with_reducible refine KeepsParts.of ?_ rfl rfl (Nat.le_refl _) rfl rfl)
    | ((fail_if_success (conv => arg 2; congr)); extract_lets +onlyGivenNames x; first | (have hx : Keeps s0 x := ?_; (on_goal 2 => dsimp -zeta only [x]); (on_goal 1 => clear_value x)) | (have hx : Keeps s0 x.1 := ?_; (on_goal 2 => dsimp -zeta only [x]); (on_goal 1 => clear_value x)) | clear_value x)
    | with_reducible refine Keeps.ite (fun _ => ?_) (fun _ => ?_)
    | with_reducible apply State.enterC_keeps
    | with_reducible apply State.opening_keeps
    | split
    | dsimp -zeta only)

theorem State.chargeOpen_keeps {s0 : State} (s : State) (h : Keeps s0 s) : Keeps s0 (State.chargeOpen s) := by
  unfold State.chargeOpen
  repeat' (first
    | with_reducible assumption
    | (simp -zeta only [Keeps.mk_iff]; with_reducible refine KeepsParts.of ?_ rfl rfl (Nat.le_refl _) rfl rfl)
    | ((fail_if_success (conv => arg 2; congr)); extract_lets +onlyGivenNames x; first | (have hx : Keeps s0 x := ?_; (on_goal 2 => dsimp -zeta only [x]); (on_goal 1 => clear_value x)) | (have hx : Keeps s0 x.1 := ?_; (on_goal 2 => dsimp -zeta only [x]); (on_goal 1 => clear_value x)) | clear_value x)
    | with_reducible refine Keeps.ite (fun _ => ?_) (fun _ => ?_)
    | with_reducible apply State.mapSync_keeps
    | with_reducible apply State.enterC_keeps
    | split
    | dsimp -zeta only)

theorem State.cpCheck_keeps {s0 : State} (s : State) (h : Keeps s0 s) : Keeps s0 (State.cpCheck s) := by
  unfold State.cpCheck
  repeat' (first
    | with_reducible assumption
    | (simp -zeta only [Keeps.mk_iff]; with_reducible refine KeepsParts.of ?_ rfl rfl (Nat.le_refl _) rfl rfl)
    | ((fail_if_success (conv => arg 2; congr)); extract_lets +onlyGivenNames x; first | (have hx : Keeps s0 x := ?_; (on_goal 2 => dsimp -zeta only [x]); (on_goal 1 => clear_value x)) | (have hx : Keeps s0 x.1 := ?_; (on_goal 2 => dsimp -zeta only [x]); (on_goal 1 => clear_value x)) | clear_value x)
    | with_reducible refine Keeps.ite (fun _ => ?_) (fun _ => ?_)
    | with_reducible apply State.setRole_keeps
    | with_reducible apply State.enterC_keeps
    | with_reducible apply State.dropWeld_keeps
    | with_reducible apply State.weldResult_keeps
    | with_reducible apply State.cpOpen_keeps
    | split
    | dsimp -zeta only)

theorem State.dataLost_keeps {s0 : State} (s : State) (h : Keeps s0 s) : Keeps s0 (State.dataLost s) := by
  unfold State.dataLost
  repeat' (first
    | with_reducible assumption
    | (simp -zeta only [Keeps.mk_iff]; with_reducible refine KeepsParts.of ?_ rfl rfl (Nat.le_refl _) rfl rfl)
    | ((fail_if_success (conv => arg 2; congr)); extract_lets +onlyGivenNames x; first | (have hx : Keeps s0 x := ?_; (on_goal 2 => dsimp -zeta only [x]); (on_goal 1 => clear_value x)) | (have hx : Keeps s0 x.1 := ?_; (on_goal 2 => dsimp -zeta only [x]); (on_goal 1 => clear_value x)) | clear_value x)
    | with_reducible refine Keeps.ite (fun _ => ?_) (fun _ => ?_)
    | with_reducible apply State.raise_keeps
    | with_reducible apply State.dropWeld_keeps
    | with_reducible apply State.openRecord_keeps
    | with_reducible apply State.pcFail_keeps
    | with_reducible apply State.cpOpen_keeps
    | with_reducible apply State.chargeOpen_keeps
    | split
    | dsimp -zeta only)

theorem State.ctsReaction_keeps {s0 : State} (s : State) (were : Nat) (h : Keeps s0 s) : Keeps s0 (State.ctsReaction s were) := by
  unfold State.ctsReaction
  repeat' (first
    | with_reducible assumption
    | (simp -zeta only [Keeps.mk_iff]; with_reducible refine KeepsParts.of ?_ rfl rfl (Nat.le_refl _) rfl rfl)
    | ((fail_if_success (conv => arg 2; congr)); extract_lets +onlyGivenNames x; first | (have hx : Keeps s0 x := ?_; (on_goal 2 => dsimp -zeta only [x]); (on_goal 1 => clear_value x)) | (have hx : Keeps s0 x.1 := ?_; (on_goal 2 => dsimp -zeta only [x]); (on_goal 1 => clear_value x)) | clear_value x)
    | with_reducible refine Keeps.ite (fun _ => ?_) (fun _ => ?_)
    | with_reducible apply State.reactionOff_keeps
    | with_reducible apply State.roleChanged_keeps
    | with_reducible apply State.mapSync_keeps
    | with_reducible apply State.ctsShow_keeps
    | with_reducible apply State.enterD_keeps
    | with_reducible apply State.enterC_keeps
    | with_reducible apply State.dropWeld_keeps
    | with_reducible apply State.openRecord_keeps
    | split
    | dsimp -zeta only)

theorem State.roleLost_keeps {s0 : State} (s : State) (i : Nat) (h : Keeps s0 s) : Keeps s0 (State.roleLost s i) := by
  unfold State.roleLost
  repeat' (first
    | with_reducible assumption
    | (simp -zeta only [Keeps.mk_iff]; with_reducible refine KeepsParts.of ?_ rfl rfl (Nat.le_refl _) rfl rfl)
    | ((fail_if_success (conv => arg 2; congr)); extract_lets +onlyGivenNames x; first | (have hx : Keeps s0 x := ?_; (on_goal 2 => dsimp -zeta only [x]); (on_goal 1 => clear_value x)) | (have hx : Keeps s0 x.1 := ?_; (on_goal 2 => dsimp -zeta only [x]); (on_goal 1 => clear_value x)) | clear_value x)
    | with_reducible refine Keeps.ite (fun _ => ?_) (fun _ => ?_)
    | with_reducible apply State.raise_keeps
    | with_reducible apply State.roleChanged_keeps
    | with_reducible apply State.ctsShow_keeps
    | with_reducible apply State.openRecord_keeps
    | with_reducible apply State.posOpen_keeps
    | split
    | dsimp -zeta only)

theorem State.protectOff_keeps {s0 : State} (s : State) (i fault : Nat) (h : Keeps s0 s) : Keeps s0 (State.protectOff s i fault) := by
  unfold State.protectOff
  repeat' (first
    | with_reducible assumption
    | (simp -zeta only [Keeps.mk_iff]; with_reducible refine KeepsParts.of ?_ rfl rfl (Nat.le_refl _) rfl rfl)
    | ((fail_if_success (conv => arg 2; congr)); extract_lets +onlyGivenNames x; first | (have hx : Keeps s0 x := ?_; (on_goal 2 => dsimp -zeta only [x]); (on_goal 1 => clear_value x)) | (have hx : Keeps s0 x.1 := ?_; (on_goal 2 => dsimp -zeta only [x]); (on_goal 1 => clear_value x)) | clear_value x)
    | with_reducible refine Keeps.ite (fun _ => ?_) (fun _ => ?_)
    | with_reducible apply State.tripChan_keeps
    | with_reducible apply State.settle_keeps
    | with_reducible apply State.roleLost_keeps
    | split
    | dsimp -zeta only)

theorem State.stage3Drive_keeps {s0 : State} (s : State) (h : Keeps s0 s) : Keeps s0 (State.stage3Drive s) := by
  unfold State.stage3Drive
  repeat' (first
    | with_reducible assumption
    | (simp -zeta only [Keeps.mk_iff]; with_reducible refine KeepsParts.of ?_ rfl rfl (Nat.le_refl _) rfl rfl)
    | ((fail_if_success (conv => arg 2; congr)); extract_lets +onlyGivenNames x; first | (have hx : Keeps s0 x := ?_; (on_goal 2 => dsimp -zeta only [x]); (on_goal 1 => clear_value x)) | (have hx : Keeps s0 x.1 := ?_; (on_goal 2 => dsimp -zeta only [x]); (on_goal 1 => clear_value x)) | clear_value x)
    | with_reducible refine Keeps.ite (fun _ => ?_) (fun _ => ?_)
    | with_reducible apply State.enterD_keeps
    | with_reducible apply State.dropWeld_keeps
    | with_reducible apply State.auxOpen_keeps
    | with_reducible apply State.posOpen_keeps
    | with_reducible apply State.driveOpen_keeps
    | split
    | dsimp -zeta only)

theorem State.stage3Open_keeps {s0 : State} (s : State) (h : Keeps s0 s) : Keeps s0 (State.stage3Open s) := by
  unfold State.stage3Open
  repeat' (first
    | with_reducible assumption
    | (simp -zeta only [Keeps.mk_iff]; with_reducible refine KeepsParts.of ?_ rfl rfl (Nat.le_refl _) rfl rfl)
    | ((fail_if_success (conv => arg 2; congr)); extract_lets +onlyGivenNames x; first | (have hx : Keeps s0 x := ?_; (on_goal 2 => dsimp -zeta only [x]); (on_goal 1 => clear_value x)) | (have hx : Keeps s0 x.1 := ?_; (on_goal 2 => dsimp -zeta only [x]); (on_goal 1 => clear_value x)) | clear_value x)
    | with_reducible refine Keeps.ite (fun _ => ?_) (fun _ => ?_)
    | with_reducible apply State.stage3Drive_keeps
    | split
    | dsimp -zeta only)

theorem State.ctsHoldEnd_keeps {s0 : State} (s : State) (h : Keeps s0 s) : Keeps s0 (State.ctsHoldEnd s) := by
  unfold State.ctsHoldEnd
  repeat' (first
    | with_reducible assumption
    | (simp -zeta only [Keeps.mk_iff]; with_reducible refine KeepsParts.of ?_ rfl rfl (Nat.le_refl _) rfl rfl)
    | ((fail_if_success (conv => arg 2; congr)); extract_lets +onlyGivenNames x; first | (have hx : Keeps s0 x := ?_; (on_goal 2 => dsimp -zeta only [x]); (on_goal 1 => clear_value x)) | (have hx : Keeps s0 x.1 := ?_; (on_goal 2 => dsimp -zeta only [x]); (on_goal 1 => clear_value x)) | clear_value x)
    | with_reducible refine Keeps.ite (fun _ => ?_) (fun _ => ?_)
    | with_reducible apply State.mapSync_keeps
    | with_reducible apply State.enterD_keeps
    | with_reducible apply State.enterC_keeps
    | with_reducible apply State.loadOpened_keeps
    | split
    | dsimp -zeta only)

theorem State.ctsRefuse_keeps {s0 : State} (s : State) (code : Nat) (h : Keeps s0 s) : Keeps s0 (State.ctsRefuse s code) := by
  unfold State.ctsRefuse
  repeat' (first
    | with_reducible assumption
    | (simp -zeta only [Keeps.mk_iff]; with_reducible refine KeepsParts.of ?_ rfl rfl (Nat.le_refl _) rfl rfl)
    | ((fail_if_success (conv => arg 2; congr)); extract_lets +onlyGivenNames x; first | (have hx : Keeps s0 x := ?_; (on_goal 2 => dsimp -zeta only [x]); (on_goal 1 => clear_value x)) | (have hx : Keeps s0 x.1 := ?_; (on_goal 2 => dsimp -zeta only [x]); (on_goal 1 => clear_value x)) | clear_value x)
    | with_reducible refine Keeps.ite (fun _ => ?_) (fun _ => ?_)
    | with_reducible apply State.put_keeps
    | with_reducible apply State.raise_keeps
    | split
    | dsimp -zeta only)

theorem State.ctsCommand_keeps {s0 : State} (s : State) (ini : Ini) (act : State → State) (h : Keeps s0 s)
    (hact : ∀ x, Keeps s0 x → Keeps s0 (act x)) : Keeps s0 (State.ctsCommand s ini act) := by
  unfold State.ctsCommand
  split
  · exact Keeps.ite (fun _ => hact s h) (fun _ => h)
  · exact State.raise_keeps h _

theorem State.driveCloseCmd_keeps {s0 : State} (s : State) (h : Keeps s0 s) : Keeps s0 (State.driveCloseCmd s) := by
  unfold State.driveCloseCmd
  repeat' (first
    | with_reducible assumption
    | (simp -zeta only [Keeps.mk_iff]; with_reducible refine KeepsParts.of ?_ rfl rfl (Nat.le_refl _) rfl rfl)
    | ((fail_if_success (conv => arg 2; congr)); extract_lets +onlyGivenNames x; first | (have hx : Keeps s0 x := ?_; (on_goal 2 => dsimp -zeta only [x]); (on_goal 1 => clear_value x)) | (have hx : Keeps s0 x.1 := ?_; (on_goal 2 => dsimp -zeta only [x]); (on_goal 1 => clear_value x)) | clear_value x)
    | with_reducible refine Keeps.ite (fun _ => ?_) (fun _ => ?_)
    | with_reducible apply State.submit_keeps
    | with_reducible apply State.enterD_keeps
    | with_reducible apply State.settle_keeps
    | with_reducible apply State.ctsRefuse_keeps
    | split
    | dsimp -zeta only)

theorem State.driveOpenCmd_keeps {s0 : State} (s : State) (h : Keeps s0 s) : Keeps s0 (State.driveOpenCmd s) := by
  unfold State.driveOpenCmd
  repeat' (first
    | with_reducible assumption
    | (simp -zeta only [Keeps.mk_iff]; with_reducible refine KeepsParts.of ?_ rfl rfl (Nat.le_refl _) rfl rfl)
    | ((fail_if_success (conv => arg 2; congr)); extract_lets +onlyGivenNames x; first | (have hx : Keeps s0 x := ?_; (on_goal 2 => dsimp -zeta only [x]); (on_goal 1 => clear_value x)) | (have hx : Keeps s0 x.1 := ?_; (on_goal 2 => dsimp -zeta only [x]); (on_goal 1 => clear_value x)) | clear_value x)
    | with_reducible refine Keeps.ite (fun _ => ?_) (fun _ => ?_)
    | with_reducible apply State.put_keeps
    | with_reducible apply State.enterD_keeps
    | with_reducible apply State.dropWeld_keeps
    | with_reducible apply State.posOpen_keeps
    | with_reducible apply State.driveOpen_keeps
    | with_reducible apply State.settle_keeps
    | split
    | dsimp -zeta only)

theorem State.chargeCloseCmd_keeps {s0 : State} (s : State) (h : Keeps s0 s) : Keeps s0 (State.chargeCloseCmd s) := by
  unfold State.chargeCloseCmd
  repeat' (first
    | with_reducible assumption
    | (simp -zeta only [Keeps.mk_iff]; with_reducible refine KeepsParts.of ?_ rfl rfl (Nat.le_refl _) rfl rfl)
    | ((fail_if_success (conv => arg 2; congr)); extract_lets +onlyGivenNames x; first | (have hx : Keeps s0 x := ?_; (on_goal 2 => dsimp -zeta only [x]); (on_goal 1 => clear_value x)) | (have hx : Keeps s0 x.1 := ?_; (on_goal 2 => dsimp -zeta only [x]); (on_goal 1 => clear_value x)) | clear_value x)
    | with_reducible refine Keeps.ite (fun _ => ?_) (fun _ => ?_)
    | with_reducible apply State.submit_keeps
    | with_reducible apply State.enterC_keeps
    | with_reducible apply State.settle_keeps
    | with_reducible apply State.ctsRefuse_keeps
    | split
    | dsimp -zeta only)

theorem State.chargeOpenCmd_keeps {s0 : State} (s : State) (h : Keeps s0 s) : Keeps s0 (State.chargeOpenCmd s) := by
  unfold State.chargeOpenCmd
  repeat' (first
    | with_reducible assumption
    | (simp -zeta only [Keeps.mk_iff]; with_reducible refine KeepsParts.of ?_ rfl rfl (Nat.le_refl _) rfl rfl)
    | ((fail_if_success (conv => arg 2; congr)); extract_lets +onlyGivenNames x; first | (have hx : Keeps s0 x := ?_; (on_goal 2 => dsimp -zeta only [x]); (on_goal 1 => clear_value x)) | (have hx : Keeps s0 x.1 := ?_; (on_goal 2 => dsimp -zeta only [x]); (on_goal 1 => clear_value x)) | clear_value x)
    | with_reducible refine Keeps.ite (fun _ => ?_) (fun _ => ?_)
    | with_reducible apply State.enterC_keeps
    | with_reducible apply State.dropWeld_keeps
    | with_reducible apply State.settle_keeps
    | with_reducible apply State.cpOpen_keeps
    | with_reducible apply State.chargeOpen_keeps
    | split
    | dsimp -zeta only)

theorem execDriveClose_keeps {s0 : State} (ini : Ini) (s : State) (h : Keeps s0 s) : KeepsR s0 (execDriveClose ini s) := by
  unfold execDriveClose
  repeat' (first
    | with_reducible assumption
    | (simp -zeta only [Keeps.mk_iff]; with_reducible refine KeepsParts.of ?_ rfl rfl (Nat.le_refl _) rfl rfl)
    | ((fail_if_success (conv => arg 2; congr)); extract_lets +onlyGivenNames x; first | (have hx : Keeps s0 x := ?_; (on_goal 2 => dsimp -zeta only [x]); (on_goal 1 => clear_value x)) | (have hx : Keeps s0 x.1 := ?_; (on_goal 2 => dsimp -zeta only [x]); (on_goal 1 => clear_value x)) | clear_value x)
    | with_reducible refine Keeps.ite (fun _ => ?_) (fun _ => ?_)
    | with_reducible refine KeepsR.ite (fun _ => ?_) (fun _ => ?_)
    | with_reducible apply KeepsR.next
    | (with_reducible apply State.ctsCommand_keeps; on_goal 2 => (intro x hx; try dsimp -zeta only))
    | with_reducible apply State.driveCloseCmd_keeps
    | split
    | dsimp -zeta only)

theorem execDriveOpen_keeps {s0 : State} (ini : Ini) (s : State) (h : Keeps s0 s) : KeepsR s0 (execDriveOpen ini s) := by
  unfold execDriveOpen
  repeat' (first
    | with_reducible assumption
    | (simp -zeta only [Keeps.mk_iff]; with_reducible refine KeepsParts.of ?_ rfl rfl (Nat.le_refl _) rfl rfl)
    | ((fail_if_success (conv => arg 2; congr)); extract_lets +onlyGivenNames x; first | (have hx : Keeps s0 x := ?_; (on_goal 2 => dsimp -zeta only [x]); (on_goal 1 => clear_value x)) | (have hx : Keeps s0 x.1 := ?_; (on_goal 2 => dsimp -zeta only [x]); (on_goal 1 => clear_value x)) | clear_value x)
    | with_reducible refine Keeps.ite (fun _ => ?_) (fun _ => ?_)
    | with_reducible refine KeepsR.ite (fun _ => ?_) (fun _ => ?_)
    | with_reducible apply KeepsR.next
    | (with_reducible apply State.ctsCommand_keeps; on_goal 2 => (intro x hx; try dsimp -zeta only))
    | with_reducible apply State.driveOpenCmd_keeps
    | split
    | dsimp -zeta only)

theorem execChargeClose_keeps {s0 : State} (ini : Ini) (s : State) (h : Keeps s0 s) : KeepsR s0 (execChargeClose ini s) := by
  unfold execChargeClose
  repeat' (first
    | with_reducible assumption
    | (simp -zeta only [Keeps.mk_iff]; with_reducible refine KeepsParts.of ?_ rfl rfl (Nat.le_refl _) rfl rfl)
    | ((fail_if_success (conv => arg 2; congr)); extract_lets +onlyGivenNames x; first | (have hx : Keeps s0 x := ?_; (on_goal 2 => dsimp -zeta only [x]); (on_goal 1 => clear_value x)) | (have hx : Keeps s0 x.1 := ?_; (on_goal 2 => dsimp -zeta only [x]); (on_goal 1 => clear_value x)) | clear_value x)
    | with_reducible refine Keeps.ite (fun _ => ?_) (fun _ => ?_)
    | with_reducible refine KeepsR.ite (fun _ => ?_) (fun _ => ?_)
    | with_reducible apply KeepsR.next
    | (with_reducible apply State.ctsCommand_keeps; on_goal 2 => (intro x hx; try dsimp -zeta only))
    | with_reducible apply State.chargeCloseCmd_keeps
    | split
    | dsimp -zeta only)

theorem execChargeOpen_keeps {s0 : State} (ini : Ini) (s : State) (h : Keeps s0 s) : KeepsR s0 (execChargeOpen ini s) := by
  unfold execChargeOpen
  repeat' (first
    | with_reducible assumption
    | (simp -zeta only [Keeps.mk_iff]; with_reducible refine KeepsParts.of ?_ rfl rfl (Nat.le_refl _) rfl rfl)
    | ((fail_if_success (conv => arg 2; congr)); extract_lets +onlyGivenNames x; first | (have hx : Keeps s0 x := ?_; (on_goal 2 => dsimp -zeta only [x]); (on_goal 1 => clear_value x)) | (have hx : Keeps s0 x.1 := ?_; (on_goal 2 => dsimp -zeta only [x]); (on_goal 1 => clear_value x)) | clear_value x)
    | with_reducible refine Keeps.ite (fun _ => ?_) (fun _ => ?_)
    | with_reducible refine KeepsR.ite (fun _ => ?_) (fun _ => ?_)
    | with_reducible apply KeepsR.next
    | (with_reducible apply State.ctsCommand_keeps; on_goal 2 => (intro x hx; try dsimp -zeta only))
    | with_reducible apply State.chargeOpenCmd_keeps
    | split
    | dsimp -zeta only)

theorem execAuxOn_keeps {s0 : State} (ini : Ini) (s : State) (h : Keeps s0 s) : KeepsR s0 (execAuxOn ini s) := by
  unfold execAuxOn
  repeat' (first
    | with_reducible assumption
    | (simp -zeta only [Keeps.mk_iff]; with_reducible refine KeepsParts.of ?_ rfl rfl (Nat.le_refl _) rfl rfl)
    | ((fail_if_success (conv => arg 2; congr)); extract_lets +onlyGivenNames x; first | (have hx : Keeps s0 x := ?_; (on_goal 2 => dsimp -zeta only [x]); (on_goal 1 => clear_value x)) | (have hx : Keeps s0 x.1 := ?_; (on_goal 2 => dsimp -zeta only [x]); (on_goal 1 => clear_value x)) | clear_value x)
    | with_reducible refine Keeps.ite (fun _ => ?_) (fun _ => ?_)
    | with_reducible refine KeepsR.ite (fun _ => ?_) (fun _ => ?_)
    | with_reducible apply KeepsR.next
    | with_reducible apply State.setRole_keeps
    | with_reducible apply State.settle_keeps
    | with_reducible apply State.ctsRefuse_keeps
    | (with_reducible apply State.ctsCommand_keeps; on_goal 2 => (intro x hx; try dsimp -zeta only))
    | split
    | dsimp -zeta only)

theorem execAuxOff_keeps {s0 : State} (ini : Ini) (s : State) (h : Keeps s0 s) : KeepsR s0 (execAuxOff ini s) := by
  unfold execAuxOff
  repeat' (first
    | with_reducible assumption
    | (simp -zeta only [Keeps.mk_iff]; with_reducible refine KeepsParts.of ?_ rfl rfl (Nat.le_refl _) rfl rfl)
    | ((fail_if_success (conv => arg 2; congr)); extract_lets +onlyGivenNames x; first | (have hx : Keeps s0 x := ?_; (on_goal 2 => dsimp -zeta only [x]); (on_goal 1 => clear_value x)) | (have hx : Keeps s0 x.1 := ?_; (on_goal 2 => dsimp -zeta only [x]); (on_goal 1 => clear_value x)) | clear_value x)
    | with_reducible refine Keeps.ite (fun _ => ?_) (fun _ => ?_)
    | with_reducible refine KeepsR.ite (fun _ => ?_) (fun _ => ?_)
    | with_reducible apply KeepsR.next
    | with_reducible apply State.auxOpen_keeps
    | with_reducible apply State.settle_keeps
    | (with_reducible apply State.ctsCommand_keeps; on_goal 2 => (intro x hx; try dsimp -zeta only))
    | split
    | dsimp -zeta only)

theorem execFaultClear_keeps {s0 : State} (ini : Ini) (s : State) (h : Keeps s0 s) : KeepsR s0 (execFaultClear ini s) := by
  unfold execFaultClear
  repeat' (first
    | with_reducible assumption
    | (simp -zeta only [Keeps.mk_iff]; with_reducible refine KeepsParts.of ?_ rfl rfl (Nat.le_refl _) rfl rfl)
    | ((fail_if_success (conv => arg 2; congr)); extract_lets +onlyGivenNames x; first | (have hx : Keeps s0 x := ?_; (on_goal 2 => dsimp -zeta only [x]); (on_goal 1 => clear_value x)) | (have hx : Keeps s0 x.1 := ?_; (on_goal 2 => dsimp -zeta only [x]); (on_goal 1 => clear_value x)) | clear_value x)
    | with_reducible refine Keeps.ite (fun _ => ?_) (fun _ => ?_)
    | with_reducible refine KeepsR.ite (fun _ => ?_) (fun _ => ?_)
    | with_reducible apply KeepsR.next
    | with_reducible apply State.put_keeps
    | with_reducible apply State.putB_keeps
    | (with_reducible apply State.ctsCommand_keeps; on_goal 2 => (intro x hx; try dsimp -zeta only))
    | split
    | dsimp -zeta only)

theorem execCtsGrantTimeout_keeps {s0 : State} (s : State) (h : Keeps s0 s) : KeepsR s0 (execCtsGrantTimeout s) := by
  unfold execCtsGrantTimeout
  repeat' (first
    | with_reducible assumption
    | (simp -zeta only [Keeps.mk_iff]; with_reducible refine KeepsParts.of ?_ rfl rfl (Nat.le_refl _) rfl rfl)
    | ((fail_if_success (conv => arg 2; congr)); extract_lets +onlyGivenNames x; first | (have hx : Keeps s0 x := ?_; (on_goal 2 => dsimp -zeta only [x]); (on_goal 1 => clear_value x)) | (have hx : Keeps s0 x.1 := ?_; (on_goal 2 => dsimp -zeta only [x]); (on_goal 1 => clear_value x)) | clear_value x)
    | with_reducible refine Keeps.ite (fun _ => ?_) (fun _ => ?_)
    | with_reducible refine KeepsR.ite (fun _ => ?_) (fun _ => ?_)
    | with_reducible apply KeepsR.next
    | with_reducible apply State.advanceTo_keeps
    | with_reducible apply State.raise_keeps
    | with_reducible apply State.withdraw_keeps
    | with_reducible apply State.driveOpen_keeps
    | with_reducible apply State.settle_keeps
    | with_reducible apply State.chargeOpen_keeps
    | split
    | dsimp -zeta only)

theorem execProbeTimerEnd_keeps {s0 : State} (s : State) (h : Keeps s0 s) : KeepsR s0 (execProbeTimerEnd s) := by
  unfold execProbeTimerEnd
  repeat' (first
    | with_reducible assumption
    | (simp -zeta only [Keeps.mk_iff]; with_reducible refine KeepsParts.of ?_ rfl rfl (Nat.le_refl _) rfl rfl)
    | ((fail_if_success (conv => arg 2; congr)); extract_lets +onlyGivenNames x; first | (have hx : Keeps s0 x := ?_; (on_goal 2 => dsimp -zeta only [x]); (on_goal 1 => clear_value x)) | (have hx : Keeps s0 x.1 := ?_; (on_goal 2 => dsimp -zeta only [x]); (on_goal 1 => clear_value x)) | clear_value x)
    | with_reducible refine Keeps.ite (fun _ => ?_) (fun _ => ?_)
    | with_reducible refine KeepsR.ite (fun _ => ?_) (fun _ => ?_)
    | with_reducible apply KeepsR.next
    | with_reducible apply State.advanceTo_keeps
    | with_reducible apply State.setRole_keeps
    | with_reducible apply State.enterD_keeps
    | with_reducible apply State.weldResult_keeps
    | with_reducible apply State.posOpen_keeps
    | with_reducible apply State.pcFail_keeps
    | with_reducible apply State.settle_keeps
    | split
    | dsimp -zeta only)

theorem State.negCloseEnd_keeps {s0 : State} (s : State) (h : Keeps s0 s) : Keeps s0 (State.negCloseEnd s) := by
  unfold State.negCloseEnd
  repeat' (first
    | with_reducible assumption
    | (simp -zeta only [Keeps.mk_iff]; with_reducible refine KeepsParts.of ?_ rfl rfl (Nat.le_refl _) rfl rfl)
    | ((fail_if_success (conv => arg 2; congr)); extract_lets +onlyGivenNames x; first | (have hx : Keeps s0 x := ?_; (on_goal 2 => dsimp -zeta only [x]); (on_goal 1 => clear_value x)) | (have hx : Keeps s0 x.1 := ?_; (on_goal 2 => dsimp -zeta only [x]); (on_goal 1 => clear_value x)) | clear_value x)
    | with_reducible refine Keeps.ite (fun _ => ?_) (fun _ => ?_)
    | with_reducible apply State.nextFree_keeps
    | with_reducible apply State.enterD_keeps
    | with_reducible apply State.dropWeld_keeps
    | with_reducible apply State.weldResult_keeps
    | with_reducible apply State.posOpen_keeps
    | with_reducible apply State.pcOn_keeps
    | split
    | dsimp -zeta only)

theorem State.mainCloseEnd_keeps {s0 : State} (s : State) (h : Keeps s0 s) : Keeps s0 (State.mainCloseEnd s) := by
  unfold State.mainCloseEnd
  repeat' (first
    | with_reducible assumption
    | (simp -zeta only [Keeps.mk_iff]; with_reducible refine KeepsParts.of ?_ rfl rfl (Nat.le_refl _) rfl rfl)
    | ((fail_if_success (conv => arg 2; congr)); extract_lets +onlyGivenNames x; first | (have hx : Keeps s0 x := ?_; (on_goal 2 => dsimp -zeta only [x]); (on_goal 1 => clear_value x)) | (have hx : Keeps s0 x.1 := ?_; (on_goal 2 => dsimp -zeta only [x]); (on_goal 1 => clear_value x)) | clear_value x)
    | with_reducible refine Keeps.ite (fun _ => ?_) (fun _ => ?_)
    | with_reducible apply State.raise_keeps
    | with_reducible apply State.setRole_keeps
    | with_reducible apply State.enterD_keeps
    | with_reducible apply State.pcFail_keeps
    | split
    | dsimp -zeta only)

theorem State.cpCloseEnd_keeps {s0 : State} (s : State) (h : Keeps s0 s) : Keeps s0 (State.cpCloseEnd s) := by
  unfold State.cpCloseEnd
  repeat' (first
    | with_reducible assumption
    | (simp -zeta only [Keeps.mk_iff]; with_reducible refine KeepsParts.of ?_ rfl rfl (Nat.le_refl _) rfl rfl)
    | ((fail_if_success (conv => arg 2; congr)); extract_lets +onlyGivenNames x; first | (have hx : Keeps s0 x := ?_; (on_goal 2 => dsimp -zeta only [x]); (on_goal 1 => clear_value x)) | (have hx : Keeps s0 x.1 := ?_; (on_goal 2 => dsimp -zeta only [x]); (on_goal 1 => clear_value x)) | clear_value x)
    | with_reducible refine Keeps.ite (fun _ => ?_) (fun _ => ?_)
    | with_reducible apply State.raise_keeps
    | with_reducible apply State.enterC_keeps
    | with_reducible apply State.cpOpen_keeps
    | split
    | dsimp -zeta only)

theorem execCloseTimerEnd_keeps {s0 : State} (s : State) (h : Keeps s0 s) : KeepsR s0 (execCloseTimerEnd s) := by
  unfold execCloseTimerEnd
  repeat' (first
    | with_reducible assumption
    | (simp -zeta only [Keeps.mk_iff]; with_reducible refine KeepsParts.of ?_ rfl rfl (Nat.le_refl _) rfl rfl)
    | ((fail_if_success (conv => arg 2; congr)); extract_lets +onlyGivenNames x; first | (have hx : Keeps s0 x := ?_; (on_goal 2 => dsimp -zeta only [x]); (on_goal 1 => clear_value x)) | (have hx : Keeps s0 x.1 := ?_; (on_goal 2 => dsimp -zeta only [x]); (on_goal 1 => clear_value x)) | clear_value x)
    | with_reducible refine Keeps.ite (fun _ => ?_) (fun _ => ?_)
    | with_reducible refine KeepsR.ite (fun _ => ?_) (fun _ => ?_)
    | with_reducible apply KeepsR.next
    | with_reducible apply State.advanceTo_keeps
    | with_reducible apply State.enterC_keeps
    | with_reducible apply State.settle_keeps
    | with_reducible apply State.negCloseEnd_keeps
    | with_reducible apply State.mainCloseEnd_keeps
    | with_reducible apply State.cpCloseEnd_keeps
    | split
    | dsimp -zeta only)

theorem State.driveGapEnd_keeps {s0 : State} (s : State) (h : Keeps s0 s) : Keeps s0 (State.driveGapEnd s) := by
  unfold State.driveGapEnd
  repeat' (first
    | with_reducible assumption
    | (simp -zeta only [Keeps.mk_iff]; with_reducible refine KeepsParts.of ?_ rfl rfl (Nat.le_refl _) rfl rfl)
    | ((fail_if_success (conv => arg 2; congr)); extract_lets +onlyGivenNames x; first | (have hx : Keeps s0 x := ?_; (on_goal 2 => dsimp -zeta only [x]); (on_goal 1 => clear_value x)) | (have hx : Keeps s0 x.1 := ?_; (on_goal 2 => dsimp -zeta only [x]); (on_goal 1 => clear_value x)) | clear_value x)
    | with_reducible refine Keeps.ite (fun _ => ?_) (fun _ => ?_)
    | with_reducible apply State.advanceTo_keeps
    | with_reducible apply State.raise_keeps
    | with_reducible apply State.setRoles_keeps
    | with_reducible apply State.enterC_keeps
    | with_reducible apply State.weldResult_keeps
    | with_reducible apply State.driveOpen_keeps
    | with_reducible apply State.settle_keeps
    | split
    | dsimp -zeta only)

theorem State.chargeGapEnd_keeps {s0 : State} (s : State) (h : Keeps s0 s) : Keeps s0 (State.chargeGapEnd s) := by
  unfold State.chargeGapEnd
  repeat' (first
    | with_reducible assumption
    | (simp -zeta only [Keeps.mk_iff]; with_reducible refine KeepsParts.of ?_ rfl rfl (Nat.le_refl _) rfl rfl)
    | ((fail_if_success (conv => arg 2; congr)); extract_lets +onlyGivenNames x; first | (have hx : Keeps s0 x := ?_; (on_goal 2 => dsimp -zeta only [x]); (on_goal 1 => clear_value x)) | (have hx : Keeps s0 x.1 := ?_; (on_goal 2 => dsimp -zeta only [x]); (on_goal 1 => clear_value x)) | clear_value x)
    | with_reducible refine Keeps.ite (fun _ => ?_) (fun _ => ?_)
    | with_reducible apply State.advanceTo_keeps
    | with_reducible apply State.raise_keeps
    | with_reducible apply State.setRole_keeps
    | with_reducible apply State.settle_keeps
    | with_reducible apply State.chargeOpen_keeps
    | split
    | dsimp -zeta only)

theorem execGapTimerEnd_keeps {s0 : State} (s : State) (h : Keeps s0 s) : KeepsR s0 (execGapTimerEnd s) := by
  unfold execGapTimerEnd
  repeat' (first
    | with_reducible assumption
    | (simp -zeta only [Keeps.mk_iff]; with_reducible refine KeepsParts.of ?_ rfl rfl (Nat.le_refl _) rfl rfl)
    | ((fail_if_success (conv => arg 2; congr)); extract_lets +onlyGivenNames x; first | (have hx : Keeps s0 x := ?_; (on_goal 2 => dsimp -zeta only [x]); (on_goal 1 => clear_value x)) | (have hx : Keeps s0 x.1 := ?_; (on_goal 2 => dsimp -zeta only [x]); (on_goal 1 => clear_value x)) | clear_value x)
    | with_reducible refine Keeps.ite (fun _ => ?_) (fun _ => ?_)
    | with_reducible refine KeepsR.ite (fun _ => ?_) (fun _ => ?_)
    | with_reducible apply KeepsR.next
    | with_reducible apply State.driveGapEnd_keeps
    | with_reducible apply State.chargeGapEnd_keeps
    | split
    | dsimp -zeta only)

theorem execRampTimerEnd_keeps {s0 : State} (s : State) (h : Keeps s0 s) : KeepsR s0 (execRampTimerEnd s) := by
  unfold execRampTimerEnd
  repeat' (first
    | with_reducible assumption
    | (simp -zeta only [Keeps.mk_iff]; with_reducible refine KeepsParts.of ?_ rfl rfl (Nat.le_refl _) rfl rfl)
    | ((fail_if_success (conv => arg 2; congr)); extract_lets +onlyGivenNames x; first | (have hx : Keeps s0 x := ?_; (on_goal 2 => dsimp -zeta only [x]); (on_goal 1 => clear_value x)) | (have hx : Keeps s0 x.1 := ?_; (on_goal 2 => dsimp -zeta only [x]); (on_goal 1 => clear_value x)) | clear_value x)
    | with_reducible refine Keeps.ite (fun _ => ?_) (fun _ => ?_)
    | with_reducible refine KeepsR.ite (fun _ => ?_) (fun _ => ?_)
    | with_reducible apply KeepsR.next
    | with_reducible apply State.advanceTo_keeps
    | with_reducible apply State.posOpen_keeps
    | with_reducible apply State.settle_keeps
    | with_reducible apply State.cpOpen_keeps
    | split
    | dsimp -zeta only)

theorem execMatchTimerEnd_keeps {s0 : State} (s : State) (h : Keeps s0 s) : KeepsR s0 (execMatchTimerEnd s) := by
  unfold execMatchTimerEnd
  repeat' (first
    | with_reducible assumption
    | (simp -zeta only [Keeps.mk_iff]; with_reducible refine KeepsParts.of ?_ rfl rfl (Nat.le_refl _) rfl rfl)
    | ((fail_if_success (conv => arg 2; congr)); extract_lets +onlyGivenNames x; first | (have hx : Keeps s0 x := ?_; (on_goal 2 => dsimp -zeta only [x]); (on_goal 1 => clear_value x)) | (have hx : Keeps s0 x.1 := ?_; (on_goal 2 => dsimp -zeta only [x]); (on_goal 1 => clear_value x)) | clear_value x)
    | with_reducible refine Keeps.ite (fun _ => ?_) (fun _ => ?_)
    | with_reducible refine KeepsR.ite (fun _ => ?_) (fun _ => ?_)
    | with_reducible apply KeepsR.next
    | with_reducible apply State.advanceTo_keeps
    | with_reducible apply State.raise_keeps
    | with_reducible apply State.settle_keeps
    | with_reducible apply State.cpOpen_keeps
    | split
    | dsimp -zeta only)

theorem execCooldownEnd_keeps {s0 : State} (s : State) (h : Keeps s0 s) : KeepsR s0 (execCooldownEnd s) := by
  unfold execCooldownEnd
  repeat' (first
    | with_reducible assumption
    | (simp -zeta only [Keeps.mk_iff]; with_reducible refine KeepsParts.of ?_ rfl rfl (Nat.le_refl _) rfl rfl)
    | ((fail_if_success (conv => arg 2; congr)); extract_lets +onlyGivenNames x; first | (have hx : Keeps s0 x := ?_; (on_goal 2 => dsimp -zeta only [x]); (on_goal 1 => clear_value x)) | (have hx : Keeps s0 x.1 := ?_; (on_goal 2 => dsimp -zeta only [x]); (on_goal 1 => clear_value x)) | clear_value x)
    | with_reducible refine Keeps.ite (fun _ => ?_) (fun _ => ?_)
    | with_reducible refine KeepsR.ite (fun _ => ?_) (fun _ => ?_)
    | with_reducible apply KeepsR.next
    | with_reducible apply State.advanceTo_keeps
    | split
    | dsimp -zeta only)

theorem State.driveSample_keeps {s0 : State} (s : State) (t : Nat) (h : Keeps s0 s) : Keeps s0 (State.driveSample s t) := by
  unfold State.driveSample
  repeat' (first
    | with_reducible assumption
    | (simp -zeta only [Keeps.mk_iff]; with_reducible refine KeepsParts.of ?_ rfl rfl (Nat.le_refl _) rfl rfl)
    | ((fail_if_success (conv => arg 2; congr)); extract_lets +onlyGivenNames x; first | (have hx : Keeps s0 x := ?_; (on_goal 2 => dsimp -zeta only [x]); (on_goal 1 => clear_value x)) | (have hx : Keeps s0 x.1 := ?_; (on_goal 2 => dsimp -zeta only [x]); (on_goal 1 => clear_value x)) | clear_value x)
    | with_reducible refine Keeps.ite (fun _ => ?_) (fun _ => ?_)
    | with_reducible apply State.posOpen_keeps
    | with_reducible apply State.precharge_keeps
    | split
    | dsimp -zeta only)

theorem State.chargeSample_keeps {s0 : State} (s : State) (h : Keeps s0 s) : Keeps s0 (State.chargeSample s) := by
  unfold State.chargeSample
  repeat' (first
    | with_reducible assumption
    | (simp -zeta only [Keeps.mk_iff]; with_reducible refine KeepsParts.of ?_ rfl rfl (Nat.le_refl _) rfl rfl)
    | ((fail_if_success (conv => arg 2; congr)); extract_lets +onlyGivenNames x; first | (have hx : Keeps s0 x := ?_; (on_goal 2 => dsimp -zeta only [x]); (on_goal 1 => clear_value x)) | (have hx : Keeps s0 x.1 := ?_; (on_goal 2 => dsimp -zeta only [x]); (on_goal 1 => clear_value x)) | clear_value x)
    | with_reducible refine Keeps.ite (fun _ => ?_) (fun _ => ?_)
    | with_reducible apply State.setRole_keeps
    | with_reducible apply State.enterC_keeps
    | with_reducible apply State.cpOpen_keeps
    | with_reducible apply State.cpCheck_keeps
    | split
    | dsimp -zeta only)

theorem execCtsSample_keeps {s0 : State} (v1 v2 v3 v4 ish1 : Int) (offset : Nat) (s : State) (h : Keeps s0 s) : KeepsR s0 (execCtsSample v1 v2 v3 v4 ish1 offset s) := by
  unfold execCtsSample
  repeat' (first
    | with_reducible assumption
    | (simp -zeta only [Keeps.mk_iff]; with_reducible refine KeepsParts.of ?_ rfl rfl (Nat.le_refl _) rfl rfl)
    | ((fail_if_success (conv => arg 2; congr)); extract_lets +onlyGivenNames x; first | (have hx : Keeps s0 x := ?_; (on_goal 2 => dsimp -zeta only [x]); (on_goal 1 => clear_value x)) | (have hx : Keeps s0 x.1 := ?_; (on_goal 2 => dsimp -zeta only [x]); (on_goal 1 => clear_value x)) | clear_value x)
    | with_reducible refine Keeps.ite (fun _ => ?_) (fun _ => ?_)
    | with_reducible refine KeepsR.ite (fun _ => ?_) (fun _ => ?_)
    | with_reducible apply KeepsR.next
    | with_reducible apply State.advanceTo_keeps
    | with_reducible apply State.settle_keeps
    | with_reducible apply State.driveSample_keeps
    | with_reducible apply State.chargeSample_keeps
    | split
    | dsimp -zeta only)

theorem execCtsSampleMissing_keeps {s0 : State} (s : State) (h : Keeps s0 s) : KeepsR s0 (execCtsSampleMissing s) := by
  unfold execCtsSampleMissing
  repeat' (first
    | with_reducible assumption
    | (simp -zeta only [Keeps.mk_iff]; with_reducible refine KeepsParts.of ?_ rfl rfl (Nat.le_refl _) rfl rfl)
    | ((fail_if_success (conv => arg 2; congr)); extract_lets +onlyGivenNames x; first | (have hx : Keeps s0 x := ?_; (on_goal 2 => dsimp -zeta only [x]); (on_goal 1 => clear_value x)) | (have hx : Keeps s0 x.1 := ?_; (on_goal 2 => dsimp -zeta only [x]); (on_goal 1 => clear_value x)) | clear_value x)
    | with_reducible refine Keeps.ite (fun _ => ?_) (fun _ => ?_)
    | with_reducible refine KeepsR.ite (fun _ => ?_) (fun _ => ?_)
    | with_reducible apply KeepsR.next
    | with_reducible apply State.advanceTo_keeps
    | with_reducible apply State.settle_keeps
    | with_reducible apply State.dataLost_keeps
    | split
    | dsimp -zeta only)

end Sys2Proof.Machine
end

