-- ==== Sys2Proof/Laws/KeepsActivities.lean ====
section
/-!
SUPPORT. What the operations and commands of Isolation, Impedance, Protection, Tickets, OutputCmds, Pump keep: canonical stores, time, build and queue.
Each lemma peels its operation apart and cites the lemmas of the operations it calls.
-/
namespace Sys2Proof.Machine

theorem State.requestIso_keeps {s0 : State} (s : State) (h : Keeps s0 s) : Keeps s0 (State.requestIso s) := by
  unfold State.requestIso
  repeat' (first
    | with_reducible assumption
    | (simp -zeta only [Keeps.mk_iff]; with_reducible refine KeepsParts.of ?_ rfl rfl (Nat.le_refl _) rfl rfl)
    | ((fail_if_success (conv => arg 2; congr)); extract_lets +onlyGivenNames x; first | (have hx : Keeps s0 x := ?_; (on_goal 2 => dsimp -zeta only [x]); (on_goal 1 => clear_value x)) | (have hx : Keeps s0 x.1 := ?_; (on_goal 2 => dsimp -zeta only [x]); (on_goal 1 => clear_value x)) | clear_value x)
    | with_reducible refine Keeps.ite (fun _ => ?_) (fun _ => ?_)
    | with_reducible apply State.submit_keeps
    | with_reducible apply State.askAll_keeps
    | split
    | dsimp -zeta only)

theorem State.isoStateEnd_keeps {s0 : State} (s : State) (h : Keeps s0 s) : Keeps s0 (State.isoStateEnd s) := by
  unfold State.isoStateEnd
  repeat' (first
    | with_reducible assumption
    | (simp -zeta only [Keeps.mk_iff]; with_reducible refine KeepsParts.of ?_ rfl rfl (Nat.le_refl _) rfl rfl)
    | ((fail_if_success (conv => arg 2; congr)); extract_lets +onlyGivenNames x; first | (have hx : Keeps s0 x := ?_; (on_goal 2 => dsimp -zeta only [x]); (on_goal 1 => clear_value x)) | (have hx : Keeps s0 x.1 := ?_; (on_goal 2 => dsimp -zeta only [x]); (on_goal 1 => clear_value x)) | clear_value x)
    | with_reducible refine Keeps.ite (fun _ => ?_) (fun _ => ?_)
    | with_reducible apply State.put_keeps
    | split
    | dsimp -zeta only)

theorem State.isoBoundary_keeps {s0 : State} (s : State) (h : Keeps s0 s) : Keeps s0 (State.isoBoundary s) := by
  unfold State.isoBoundary
  repeat' (first
    | with_reducible assumption
    | (simp -zeta only [Keeps.mk_iff]; with_reducible refine KeepsParts.of ?_ rfl rfl (Nat.le_refl _) rfl rfl)
    | ((fail_if_success (conv => arg 2; congr)); extract_lets +onlyGivenNames x; first | (have hx : Keeps s0 x := ?_; (on_goal 2 => dsimp -zeta only [x]); (on_goal 1 => clear_value x)) | (have hx : Keeps s0 x.1 := ?_; (on_goal 2 => dsimp -zeta only [x]); (on_goal 1 => clear_value x)) | clear_value x)
    | with_reducible refine Keeps.ite (fun _ => ?_) (fun _ => ?_)
    | with_reducible apply State.isoStateEnd_keeps
    | split
    | dsimp -zeta only)

theorem State.isoResult_keeps {s0 : State} (s : State) (h : Keeps s0 s) : Keeps s0 (State.isoResult s) := by
  unfold State.isoResult
  repeat' (first
    | with_reducible assumption
    | (simp -zeta only [Keeps.mk_iff]; with_reducible refine KeepsParts.of ?_ rfl rfl (Nat.le_refl _) rfl rfl)
    | ((fail_if_success (conv => arg 2; congr)); extract_lets +onlyGivenNames x; first | (have hx : Keeps s0 x := ?_; (on_goal 2 => dsimp -zeta only [x]); (on_goal 1 => clear_value x)) | (have hx : Keeps s0 x.1 := ?_; (on_goal 2 => dsimp -zeta only [x]); (on_goal 1 => clear_value x)) | clear_value x)
    | with_reducible refine Keeps.ite (fun _ => ?_) (fun _ => ?_)
    | with_reducible apply State.put_keeps
    | with_reducible apply State.putB_keeps
    | with_reducible apply State.nextFree_keeps
    | with_reducible apply State.raise_keeps
    | with_reducible apply State.raiseIf_keeps
    | split
    | dsimp -zeta only)

theorem execIsolationRequest_keeps {s0 : State} (_ini : Ini) (s : State) (h : Keeps s0 s) : KeepsR s0 (execIsolationRequest _ini s) := by
  unfold execIsolationRequest
  repeat' (first
    | with_reducible assumption
    | (simp -zeta only [Keeps.mk_iff]; with_reducible refine KeepsParts.of ?_ rfl rfl (Nat.le_refl _) rfl rfl)
    | ((fail_if_success (conv => arg 2; congr)); extract_lets +onlyGivenNames x; first | (have hx : Keeps s0 x := ?_; (on_goal 2 => dsimp -zeta only [x]); (on_goal 1 => clear_value x)) | (have hx : Keeps s0 x.1 := ?_; (on_goal 2 => dsimp -zeta only [x]); (on_goal 1 => clear_value x)) | clear_value x)
    | with_reducible refine Keeps.ite (fun _ => ?_) (fun _ => ?_)
    | with_reducible refine KeepsR.ite (fun _ => ?_) (fun _ => ?_)
    | with_reducible apply KeepsR.next
    | with_reducible apply State.settle_keeps
    | with_reducible apply State.requestIso_keeps
    | split
    | dsimp -zeta only)

theorem execIsolationRunStart_keeps {s0 : State} (s : State) (h : Keeps s0 s) : KeepsR s0 (execIsolationRunStart s) := by
  unfold execIsolationRunStart
  split
  · exact KeepsR.next h
  · refine KeepsR.ite (fun _ => ?_) (fun _ => KeepsR.next h)
    extract_lets s1 x s2 s3 s4
    have h1 : Keeps s0 s1 := State.advanceTo_keeps h _
    have h2 : Keeps s0 s2 := h1.upd rfl rfl (Nat.le_refl _) rfl rfl
    have h3 : Keeps s0 s3 := State.putB_keeps (State.put_keeps (State.put_keeps h2 _ _) _ _) _ _
    have h4 : Keeps s0 s4 := State.putB_keeps (State.putB_keeps h3 _ _) _ _
    refine KeepsR.ite (fun _ => ?_) (fun _ => KeepsR.next h4)
    with_reducible apply KeepsR.next
    with_reducible apply State.settle_keeps
    with_reducible apply State.isoIncomplete_keeps
    exact h4

theorem execIsolationStateTimeout_keeps {s0 : State} (s : State) (h : Keeps s0 s) : KeepsR s0 (execIsolationStateTimeout s) := by
  unfold execIsolationStateTimeout
  repeat' (first
    | with_reducible assumption
    | (simp -zeta only [Keeps.mk_iff]; with_reducible refine KeepsParts.of ?_ rfl rfl (Nat.le_refl _) rfl rfl)
    | ((fail_if_success (conv => arg 2; congr)); extract_lets +onlyGivenNames x; first | (have hx : Keeps s0 x := ?_; (on_goal 2 => dsimp -zeta only [x]); (on_goal 1 => clear_value x)) | (have hx : Keeps s0 x.1 := ?_; (on_goal 2 => dsimp -zeta only [x]); (on_goal 1 => clear_value x)) | clear_value x)
    | with_reducible refine Keeps.ite (fun _ => ?_) (fun _ => ?_)
    | with_reducible refine KeepsR.ite (fun _ => ?_) (fun _ => ?_)
    | with_reducible apply KeepsR.next
    | with_reducible apply State.putB_keeps
    | with_reducible apply State.isoStateEnd_keeps
    | split
    | dsimp -zeta only)

theorem execIsoBEngage_keeps {s0 : State} (s : State) (h : Keeps s0 s) : KeepsR s0 (execIsoBEngage s) := by
  unfold execIsoBEngage
  repeat' (first
    | with_reducible assumption
    | (simp -zeta only [Keeps.mk_iff]; with_reducible refine KeepsParts.of ?_ rfl rfl (Nat.le_refl _) rfl rfl)
    | ((fail_if_success (conv => arg 2; congr)); extract_lets +onlyGivenNames x; first | (have hx : Keeps s0 x := ?_; (on_goal 2 => dsimp -zeta only [x]); (on_goal 1 => clear_value x)) | (have hx : Keeps s0 x.1 := ?_; (on_goal 2 => dsimp -zeta only [x]); (on_goal 1 => clear_value x)) | clear_value x)
    | with_reducible refine Keeps.ite (fun _ => ?_) (fun _ => ?_)
    | with_reducible refine KeepsR.ite (fun _ => ?_) (fun _ => ?_)
    | with_reducible apply KeepsR.next
    | with_reducible apply State.put_keeps
    | with_reducible apply State.advanceTo_keeps
    | split
    | dsimp -zeta only)

theorem execIsolationResult_keeps {s0 : State} (s : State) (h : Keeps s0 s) : KeepsR s0 (execIsolationResult s) := by
  unfold execIsolationResult
  repeat' (first
    | with_reducible assumption
    | (simp -zeta only [Keeps.mk_iff]; with_reducible refine KeepsParts.of ?_ rfl rfl (Nat.le_refl _) rfl rfl)
    | ((fail_if_success (conv => arg 2; congr)); extract_lets +onlyGivenNames x; first | (have hx : Keeps s0 x := ?_; (on_goal 2 => dsimp -zeta only [x]); (on_goal 1 => clear_value x)) | (have hx : Keeps s0 x.1 := ?_; (on_goal 2 => dsimp -zeta only [x]); (on_goal 1 => clear_value x)) | clear_value x)
    | with_reducible refine Keeps.ite (fun _ => ?_) (fun _ => ?_)
    | with_reducible refine KeepsR.ite (fun _ => ?_) (fun _ => ?_)
    | with_reducible apply KeepsR.next
    | with_reducible apply State.advanceTo_keeps
    | with_reducible apply State.releaseIso_keeps
    | with_reducible apply State.isoIdle_keeps
    | with_reducible apply State.settle_keeps
    | with_reducible apply State.isoResult_keeps
    | split
    | dsimp -zeta only)

theorem State.eisAccumulate_keeps {s0 : State} (s : State) (t : Nat) (cells : List (Int × Bool)) (curMA : Int) (curSat : Bool) (h : Keeps s0 s) : Keeps s0 (State.eisAccumulate s t cells curMA curSat) := by
  unfold State.eisAccumulate
  repeat' (first
    | with_reducible assumption
    | (simp -zeta only [Keeps.mk_iff]; with_reducible refine KeepsParts.of ?_ rfl rfl (Nat.le_refl _) rfl rfl)
    | ((fail_if_success (conv => arg 2; congr)); extract_lets +onlyGivenNames x; first | (have hx : Keeps s0 x := ?_; (on_goal 2 => dsimp -zeta only [x]); (on_goal 1 => clear_value x)) | (have hx : Keeps s0 x.1 := ?_; (on_goal 2 => dsimp -zeta only [x]); (on_goal 1 => clear_value x)) | clear_value x)
    | with_reducible refine Keeps.ite (fun _ => ?_) (fun _ => ?_)
    | split
    | dsimp -zeta only)

theorem State.eisGap_keeps {s0 : State} (s : State) (h : Keeps s0 s) : Keeps s0 (State.eisGap s) := by
  unfold State.eisGap
  repeat' (first
    | with_reducible assumption
    | (simp -zeta only [Keeps.mk_iff]; with_reducible refine KeepsParts.of ?_ rfl rfl (Nat.le_refl _) rfl rfl)
    | ((fail_if_success (conv => arg 2; congr)); extract_lets +onlyGivenNames x; first | (have hx : Keeps s0 x := ?_; (on_goal 2 => dsimp -zeta only [x]); (on_goal 1 => clear_value x)) | (have hx : Keeps s0 x.1 := ?_; (on_goal 2 => dsimp -zeta only [x]); (on_goal 1 => clear_value x)) | clear_value x)
    | with_reducible refine Keeps.ite (fun _ => ?_) (fun _ => ?_)
    | split
    | dsimp -zeta only)

theorem State.eisOpen_keeps {s0 : State} (s : State) (src b : Nat) (h : Keeps s0 s) : Keeps s0 (State.eisOpen s src b) := by
  unfold State.eisOpen
  repeat' (first
    | with_reducible assumption
    | (simp -zeta only [Keeps.mk_iff]; with_reducible refine KeepsParts.of ?_ rfl rfl (Nat.le_refl _) rfl rfl)
    | ((fail_if_success (conv => arg 2; congr)); extract_lets +onlyGivenNames x; first | (have hx : Keeps s0 x := ?_; (on_goal 2 => dsimp -zeta only [x]); (on_goal 1 => clear_value x)) | (have hx : Keeps s0 x.1 := ?_; (on_goal 2 => dsimp -zeta only [x]); (on_goal 1 => clear_value x)) | clear_value x)
    | with_reducible refine Keeps.ite (fun _ => ?_) (fun _ => ?_)
    | with_reducible apply State.put_keeps
    | with_reducible apply State.showSwitches_keeps
    | split
    | dsimp -zeta only)

theorem State.eisStart_keeps {s0 : State} (s : State) (src : Nat) (h : Keeps s0 s) : Keeps s0 (State.eisStart s src) := by
  unfold State.eisStart
  repeat' (first
    | with_reducible assumption
    | (simp -zeta only [Keeps.mk_iff]; with_reducible refine KeepsParts.of ?_ rfl rfl (Nat.le_refl _) rfl rfl)
    | ((fail_if_success (conv => arg 2; congr)); extract_lets +onlyGivenNames x; first | (have hx : Keeps s0 x := ?_; (on_goal 2 => dsimp -zeta only [x]); (on_goal 1 => clear_value x)) | (have hx : Keeps s0 x.1 := ?_; (on_goal 2 => dsimp -zeta only [x]); (on_goal 1 => clear_value x)) | clear_value x)
    | with_reducible refine Keeps.ite (fun _ => ?_) (fun _ => ?_)
    | with_reducible apply State.eisPlan_keeps
    | with_reducible apply State.eisSkip_keeps
    | with_reducible apply State.eisExc_keeps
    | with_reducible apply State.eisOpen_keeps
    | split
    | dsimp -zeta only)

theorem State.eisAnswer_keeps {s0 : State} (s : State) (h : Keeps s0 s) : Keeps s0 (State.eisAnswer s) := by
  unfold State.eisAnswer
  repeat' (first
    | with_reducible assumption
    | (simp -zeta only [Keeps.mk_iff]; with_reducible refine KeepsParts.of ?_ rfl rfl (Nat.le_refl _) rfl rfl)
    | ((fail_if_success (conv => arg 2; congr)); extract_lets +onlyGivenNames x; first | (have hx : Keeps s0 x := ?_; (on_goal 2 => dsimp -zeta only [x]); (on_goal 1 => clear_value x)) | (have hx : Keeps s0 x.1 := ?_; (on_goal 2 => dsimp -zeta only [x]); (on_goal 1 => clear_value x)) | clear_value x)
    | with_reducible refine Keeps.ite (fun _ => ?_) (fun _ => ?_)
    | with_reducible apply State.raise_keeps
    | with_reducible apply State.eisTell_keeps
    | with_reducible apply State.eisPlan_keeps
    | with_reducible apply State.eisSkip_keeps
    | with_reducible apply State.eisExc_keeps
    | split
    | dsimp -zeta only)

theorem State.eisLeadBoundary_keeps {s0 : State} (s : State) (h : Keeps s0 s) : Keeps s0 (State.eisLeadBoundary s) := by
  unfold State.eisLeadBoundary
  repeat' (first
    | with_reducible assumption
    | (simp -zeta only [Keeps.mk_iff]; with_reducible refine KeepsParts.of ?_ rfl rfl (Nat.le_refl _) rfl rfl)
    | ((fail_if_success (conv => arg 2; congr)); extract_lets +onlyGivenNames x; first | (have hx : Keeps s0 x := ?_; (on_goal 2 => dsimp -zeta only [x]); (on_goal 1 => clear_value x)) | (have hx : Keeps s0 x.1 := ?_; (on_goal 2 => dsimp -zeta only [x]); (on_goal 1 => clear_value x)) | clear_value x)
    | with_reducible refine Keeps.ite (fun _ => ?_) (fun _ => ?_)
    | with_reducible apply State.eisPlan_keeps
    | with_reducible apply State.eisAbort_keeps
    | with_reducible apply State.eisExc_keeps
    | with_reducible apply State.eisOpen_keeps
    | with_reducible apply State.eisStart_keeps
    | with_reducible apply State.eisAnswer_keeps
    | split
    | dsimp -zeta only)

theorem State.eisFollow_keeps {s0 : State} (s : State) (h : Keeps s0 s) : Keeps s0 (State.eisFollow s) := by
  unfold State.eisFollow
  repeat' (first
    | with_reducible assumption
    | (simp -zeta only [Keeps.mk_iff]; with_reducible refine KeepsParts.of ?_ rfl rfl (Nat.le_refl _) rfl rfl)
    | ((fail_if_success (conv => arg 2; congr)); extract_lets +onlyGivenNames x; first | (have hx : Keeps s0 x := ?_; (on_goal 2 => dsimp -zeta only [x]); (on_goal 1 => clear_value x)) | (have hx : Keeps s0 x.1 := ?_; (on_goal 2 => dsimp -zeta only [x]); (on_goal 1 => clear_value x)) | clear_value x)
    | with_reducible refine Keeps.ite (fun _ => ?_) (fun _ => ?_)
    | with_reducible apply State.put_keeps
    | with_reducible apply State.eisOpen_keeps
    | split
    | dsimp -zeta only)

theorem State.eisBoundary_keeps {s0 : State} (s : State) (h : Keeps s0 s) : Keeps s0 (State.eisBoundary s) := by
  unfold State.eisBoundary
  repeat' (first
    | with_reducible assumption
    | (simp -zeta only [Keeps.mk_iff]; with_reducible refine KeepsParts.of ?_ rfl rfl (Nat.le_refl _) rfl rfl)
    | ((fail_if_success (conv => arg 2; congr)); extract_lets +onlyGivenNames x; first | (have hx : Keeps s0 x := ?_; (on_goal 2 => dsimp -zeta only [x]); (on_goal 1 => clear_value x)) | (have hx : Keeps s0 x.1 := ?_; (on_goal 2 => dsimp -zeta only [x]); (on_goal 1 => clear_value x)) | clear_value x)
    | with_reducible refine Keeps.ite (fun _ => ?_) (fun _ => ?_)
    | with_reducible apply State.eisLeadBoundary_keeps
    | with_reducible apply State.eisFollow_keeps
    | split
    | dsimp -zeta only)

theorem State.eisForm_keeps {s0 : State} (s : State) (h : Keeps s0 s) : Keeps s0 (State.eisForm s) := by
  unfold State.eisForm
  repeat' (first
    | with_reducible assumption
    | (simp -zeta only [Keeps.mk_iff]; with_reducible refine KeepsParts.of ?_ rfl rfl (Nat.le_refl _) rfl rfl)
    | ((fail_if_success (conv => arg 2; congr)); extract_lets +onlyGivenNames x; first | (have hx : Keeps s0 x := ?_; (on_goal 2 => dsimp -zeta only [x]); (on_goal 1 => clear_value x)) | (have hx : Keeps s0 x.1 := ?_; (on_goal 2 => dsimp -zeta only [x]); (on_goal 1 => clear_value x)) | clear_value x)
    | with_reducible refine Keeps.ite (fun _ => ?_) (fun _ => ?_)
    | with_reducible apply State.nextFree_keeps
    | (with_reducible apply Keeps.foldl; on_goal 2 => (intro x y hx; try dsimp -zeta only))
    | split
    | dsimp -zeta only)

theorem State.eisGotPhasor_keeps {s0 : State} (s : State) (i : Phasor) (flags : Nat) (h : Keeps s0 s) : Keeps s0 (State.eisGotPhasor s i flags) := by
  unfold State.eisGotPhasor
  extract_lets +onlyGivenNames x s1
  have h1 : Keeps s0 s1 := h.upd rfl rfl (Nat.le_refl _) rfl rfl
  exact Keeps.ite (fun _ => State.send_keeps _ _ _ _ _ h1) (fun _ => h1)

theorem State.eisIncomplete_keeps {s0 : State} (s : State) (h : Keeps s0 s) : Keeps s0 (State.eisIncomplete s) := by
  unfold State.eisIncomplete
  repeat' (first
    | with_reducible assumption
    | (simp -zeta only [Keeps.mk_iff]; with_reducible refine KeepsParts.of ?_ rfl rfl (Nat.le_refl _) rfl rfl)
    | ((fail_if_success (conv => arg 2; congr)); extract_lets +onlyGivenNames x; first | (have hx : Keeps s0 x := ?_; (on_goal 2 => dsimp -zeta only [x]); (on_goal 1 => clear_value x)) | (have hx : Keeps s0 x.1 := ?_; (on_goal 2 => dsimp -zeta only [x]); (on_goal 1 => clear_value x)) | clear_value x)
    | with_reducible refine Keeps.ite (fun _ => ?_) (fun _ => ?_)
    | with_reducible apply State.eisSkipRecord_keeps
    | with_reducible apply State.eisStopRequest_keeps
    | with_reducible apply State.eisSweepOver_keeps
    | with_reducible apply State.eisSkip_keeps
    | with_reducible apply State.eisExc_keeps
    | split
    | dsimp -zeta only)

theorem State.eisStore_keeps {s0 : State} (s : State) (l : List (Nat × EisRes)) (h : Keeps s0 s) : Keeps s0 (State.eisStore s l) := by
  unfold State.eisStore
  repeat' (first
    | with_reducible assumption
    | (simp -zeta only [Keeps.mk_iff]; with_reducible refine KeepsParts.of ?_ rfl rfl (Nat.le_refl _) rfl rfl)
    | ((fail_if_success (conv => arg 2; congr)); extract_lets +onlyGivenNames x; first | (have hx : Keeps s0 x := ?_; (on_goal 2 => dsimp -zeta only [x]); (on_goal 1 => clear_value x)) | (have hx : Keeps s0 x.1 := ?_; (on_goal 2 => dsimp -zeta only [x]); (on_goal 1 => clear_value x)) | clear_value x)
    | with_reducible refine Keeps.ite (fun _ => ?_) (fun _ => ?_)
    | (with_reducible apply Keeps.foldl; on_goal 2 => (intro x y hx; try dsimp -zeta only))
    | split
    | dsimp -zeta only)

theorem State.eisTemp_keeps {s0 : State} (s : State) (cell : Nat) (r : EisRes) (h : Keeps s0 s) : Keeps s0 (State.eisTemp s cell r) := by
  unfold State.eisTemp
  repeat' (first
    | with_reducible assumption
    | (simp -zeta only [Keeps.mk_iff]; with_reducible refine KeepsParts.of ?_ rfl rfl (Nat.le_refl _) rfl rfl)
    | ((fail_if_success (conv => arg 2; congr)); extract_lets +onlyGivenNames x; first | (have hx : Keeps s0 x := ?_; (on_goal 2 => dsimp -zeta only [x]); (on_goal 1 => clear_value x)) | (have hx : Keeps s0 x.1 := ?_; (on_goal 2 => dsimp -zeta only [x]); (on_goal 1 => clear_value x)) | clear_value x)
    | with_reducible refine Keeps.ite (fun _ => ?_) (fun _ => ?_)
    | with_reducible apply State.nextFree_keeps
    | split
    | dsimp -zeta only)

theorem State.refSave_keeps {s0 : State} (s : State) (h : Keeps s0 s) : Keeps s0 (State.refSave s) := by
  unfold State.refSave
  repeat' (first
    | with_reducible assumption
    | (simp -zeta only [Keeps.mk_iff]; with_reducible refine KeepsParts.of ?_ rfl rfl (Nat.le_refl _) rfl rfl)
    | ((fail_if_success (conv => arg 2; congr)); extract_lets +onlyGivenNames x; first | (have hx : Keeps s0 x := ?_; (on_goal 2 => dsimp -zeta only [x]); (on_goal 1 => clear_value x)) | (have hx : Keeps s0 x.1 := ?_; (on_goal 2 => dsimp -zeta only [x]); (on_goal 1 => clear_value x)) | clear_value x)
    | with_reducible refine Keeps.ite (fun _ => ?_) (fun _ => ?_)
    | split
    | dsimp -zeta only)

theorem State.eisComplete_keeps {s0 : State} (s : State) (h : Keeps s0 s) : Keeps s0 (State.eisComplete s) := by
  unfold State.eisComplete
  repeat' (first
    | with_reducible assumption
    | (simp -zeta only [Keeps.mk_iff]; with_reducible refine KeepsParts.of ?_ rfl rfl (Nat.le_refl _) rfl rfl)
    | ((fail_if_success (conv => arg 2; congr)); extract_lets +onlyGivenNames x; first | (have hx : Keeps s0 x := ?_; (on_goal 2 => dsimp -zeta only [x]); (on_goal 1 => clear_value x)) | (have hx : Keeps s0 x.1 := ?_; (on_goal 2 => dsimp -zeta only [x]); (on_goal 1 => clear_value x)) | clear_value x)
    | with_reducible refine Keeps.ite (fun _ => ?_) (fun _ => ?_)
    | with_reducible apply State.incSat_keeps
    | with_reducible apply State.raise_keeps
    | with_reducible apply State.raiseIf_keeps
    | with_reducible apply State.eisNext_keeps
    | with_reducible apply State.eisStore_keeps
    | with_reducible apply State.eisTemp_keeps
    | with_reducible apply State.refSave_keeps
    | (with_reducible apply Keeps.foldl; on_goal 2 => (intro x y hx; try dsimp -zeta only))
    | split
    | dsimp -zeta only)

theorem State.eisShow_keeps {s0 : State} (s : State) (point cell : Nat) (h : Keeps s0 s) : Keeps s0 (State.eisShow s point cell) := by
  unfold State.eisShow
  repeat' (first
    | with_reducible assumption
    | (simp -zeta only [Keeps.mk_iff]; with_reducible refine KeepsParts.of ?_ rfl rfl (Nat.le_refl _) rfl rfl)
    | ((fail_if_success (conv => arg 2; congr)); extract_lets +onlyGivenNames x; first | (have hx : Keeps s0 x := ?_; (on_goal 2 => dsimp -zeta only [x]); (on_goal 1 => clear_value x)) | (have hx : Keeps s0 x.1 := ?_; (on_goal 2 => dsimp -zeta only [x]); (on_goal 1 => clear_value x)) | clear_value x)
    | with_reducible refine Keeps.ite (fun _ => ?_) (fun _ => ?_)
    | with_reducible apply State.setWord_keeps
    | with_reducible apply State.put_keeps
    | with_reducible apply State.putB_keeps
    | with_reducible apply State.putI_keeps
    | with_reducible apply State.putSat_keeps
    | with_reducible apply State.putSatI_keeps
    | split
    | dsimp -zeta only)

theorem State.eisSweepStart_keeps {s0 : State} (s : State) (h : Keeps s0 s) : Keeps s0 (State.eisSweepStart s) := by
  unfold State.eisSweepStart
  repeat' (first
    | with_reducible assumption
    | (simp -zeta only [Keeps.mk_iff]; with_reducible refine KeepsParts.of ?_ rfl rfl (Nat.le_refl _) rfl rfl)
    | ((fail_if_success (conv => arg 2; congr)); extract_lets +onlyGivenNames x; first | (have hx : Keeps s0 x := ?_; (on_goal 2 => dsimp -zeta only [x]); (on_goal 1 => clear_value x)) | (have hx : Keeps s0 x.1 := ?_; (on_goal 2 => dsimp -zeta only [x]); (on_goal 1 => clear_value x)) | clear_value x)
    | with_reducible refine Keeps.ite (fun _ => ?_) (fun _ => ?_)
    | with_reducible apply State.put_keeps
    | with_reducible apply State.putB_keeps
    | with_reducible apply State.eisFrom_keeps
    | split
    | dsimp -zeta only)

theorem execEisSweepRequest_keeps {s0 : State} (_ini : Ini) (s : State) (h : Keeps s0 s) : KeepsR s0 (execEisSweepRequest _ini s) := by
  unfold execEisSweepRequest
  repeat' (first
    | with_reducible assumption
    | (simp -zeta only [Keeps.mk_iff]; with_reducible refine KeepsParts.of ?_ rfl rfl (Nat.le_refl _) rfl rfl)
    | ((fail_if_success (conv => arg 2; congr)); extract_lets +onlyGivenNames x; first | (have hx : Keeps s0 x := ?_; (on_goal 2 => dsimp -zeta only [x]); (on_goal 1 => clear_value x)) | (have hx : Keeps s0 x.1 := ?_; (on_goal 2 => dsimp -zeta only [x]); (on_goal 1 => clear_value x)) | clear_value x)
    | with_reducible refine Keeps.ite (fun _ => ?_) (fun _ => ?_)
    | with_reducible refine KeepsR.ite (fun _ => ?_) (fun _ => ?_)
    | with_reducible apply KeepsR.next
    | with_reducible apply State.eisSweepStart_keeps
    | split
    | dsimp -zeta only)

theorem execEisAbort_keeps {s0 : State} (_ini : Ini) (s : State) (h : Keeps s0 s) : KeepsR s0 (execEisAbort _ini s) := by
  unfold execEisAbort
  repeat' (first
    | with_reducible assumption
    | (simp -zeta only [Keeps.mk_iff]; with_reducible refine KeepsParts.of ?_ rfl rfl (Nat.le_refl _) rfl rfl)
    | ((fail_if_success (conv => arg 2; congr)); extract_lets +onlyGivenNames x; first | (have hx : Keeps s0 x := ?_; (on_goal 2 => dsimp -zeta only [x]); (on_goal 1 => clear_value x)) | (have hx : Keeps s0 x.1 := ?_; (on_goal 2 => dsimp -zeta only [x]); (on_goal 1 => clear_value x)) | clear_value x)
    | with_reducible refine Keeps.ite (fun _ => ?_) (fun _ => ?_)
    | with_reducible refine KeepsR.ite (fun _ => ?_) (fun _ => ?_)
    | with_reducible apply KeepsR.next
    | with_reducible apply State.eisAbort_keeps
    | with_reducible apply State.eisExc_keeps
    | with_reducible apply State.settle_keeps
    | split
    | dsimp -zeta only)

theorem execEisTcal_keeps {s0 : State} (_ini : Ini) (s : State) (h : Keeps s0 s) : KeepsR s0 (execEisTcal _ini s) := by
  unfold execEisTcal
  repeat' (first
    | with_reducible assumption
    | (simp -zeta only [Keeps.mk_iff]; with_reducible refine KeepsParts.of ?_ rfl rfl (Nat.le_refl _) rfl rfl)
    | ((fail_if_success (conv => arg 2; congr)); extract_lets +onlyGivenNames x; first | (have hx : Keeps s0 x := ?_; (on_goal 2 => dsimp -zeta only [x]); (on_goal 1 => clear_value x)) | (have hx : Keeps s0 x.1 := ?_; (on_goal 2 => dsimp -zeta only [x]); (on_goal 1 => clear_value x)) | clear_value x)
    | with_reducible refine Keeps.ite (fun _ => ?_) (fun _ => ?_)
    | with_reducible refine KeepsR.ite (fun _ => ?_) (fun _ => ?_)
    | with_reducible apply KeepsR.next
    | split
    | dsimp -zeta only)

theorem execEisResultSelect_keeps {s0 : State} (_ini : Ini) (point cell : Nat) (s : State) (h : Keeps s0 s) : KeepsR s0 (execEisResultSelect _ini point cell s) := by
  unfold execEisResultSelect
  repeat' (first
    | with_reducible assumption
    | (simp -zeta only [Keeps.mk_iff]; with_reducible refine KeepsParts.of ?_ rfl rfl (Nat.le_refl _) rfl rfl)
    | ((fail_if_success (conv => arg 2; congr)); extract_lets +onlyGivenNames x; first | (have hx : Keeps s0 x := ?_; (on_goal 2 => dsimp -zeta only [x]); (on_goal 1 => clear_value x)) | (have hx : Keeps s0 x.1 := ?_; (on_goal 2 => dsimp -zeta only [x]); (on_goal 1 => clear_value x)) | clear_value x)
    | with_reducible refine Keeps.ite (fun _ => ?_) (fun _ => ?_)
    | with_reducible refine KeepsR.ite (fun _ => ?_) (fun _ => ?_)
    | with_reducible apply KeepsR.next
    | with_reducible apply State.put_keeps
    | with_reducible apply State.eisShow_keeps
    | split
    | dsimp -zeta only)

theorem execEisWindowEnd_keeps {s0 : State} (s : State) (h : Keeps s0 s) : KeepsR s0 (execEisWindowEnd s) := by
  unfold execEisWindowEnd
  repeat' (first
    | with_reducible assumption
    | (simp -zeta only [Keeps.mk_iff]; with_reducible refine KeepsParts.of ?_ rfl rfl (Nat.le_refl _) rfl rfl)
    | ((fail_if_success (conv => arg 2; congr)); extract_lets +onlyGivenNames x; first | (have hx : Keeps s0 x := ?_; (on_goal 2 => dsimp -zeta only [x]); (on_goal 1 => clear_value x)) | (have hx : Keeps s0 x.1 := ?_; (on_goal 2 => dsimp -zeta only [x]); (on_goal 1 => clear_value x)) | clear_value x)
    | with_reducible refine Keeps.ite (fun _ => ?_) (fun _ => ?_)
    | with_reducible refine KeepsR.ite (fun _ => ?_) (fun _ => ?_)
    | with_reducible apply KeepsR.next
    | with_reducible apply State.put_keeps
    | with_reducible apply State.advanceTo_keeps
    | with_reducible apply State.send_keeps
    | with_reducible apply State.showSwitches_keeps
    | with_reducible apply State.resubmitAs_keeps
    | with_reducible apply State.eisStopRequest_keeps
    | with_reducible apply State.eisExc_keeps
    | with_reducible apply State.settle_keeps
    | with_reducible apply State.eisForm_keeps
    | with_reducible apply State.eisGotPhasor_keeps
    | split
    | dsimp -zeta only)

theorem State.accelDone_keeps {s0 : State} (s : State) (typ : Nat) (h : Keeps s0 s) : Keeps s0 (State.accelDone s typ) := by
  unfold State.accelDone
  repeat' (first
    | with_reducible assumption
    | (simp -zeta only [Keeps.mk_iff]; with_reducible refine KeepsParts.of ?_ rfl rfl (Nat.le_refl _) rfl rfl)
    | ((fail_if_success (conv => arg 2; congr)); extract_lets +onlyGivenNames x; first | (have hx : Keeps s0 x := ?_; (on_goal 2 => dsimp -zeta only [x]); (on_goal 1 => clear_value x)) | (have hx : Keeps s0 x.1 := ?_; (on_goal 2 => dsimp -zeta only [x]); (on_goal 1 => clear_value x)) | clear_value x)
    | with_reducible refine Keeps.ite (fun _ => ?_) (fun _ => ?_)
    | split
    | dsimp -zeta only)

theorem execEisProcessingDone_keeps {s0 : State} (s : State) (h : Keeps s0 s) : KeepsR s0 (execEisProcessingDone s) := by
  unfold execEisProcessingDone
  repeat' (first
    | with_reducible assumption
    | (simp -zeta only [Keeps.mk_iff]; with_reducible refine KeepsParts.of ?_ rfl rfl (Nat.le_refl _) rfl rfl)
    | ((fail_if_success (conv => arg 2; congr)); extract_lets +onlyGivenNames x; first | (have hx : Keeps s0 x := ?_; (on_goal 2 => dsimp -zeta only [x]); (on_goal 1 => clear_value x)) | (have hx : Keeps s0 x.1 := ?_; (on_goal 2 => dsimp -zeta only [x]); (on_goal 1 => clear_value x)) | clear_value x)
    | with_reducible refine Keeps.ite (fun _ => ?_) (fun _ => ?_)
    | with_reducible refine KeepsR.ite (fun _ => ?_) (fun _ => ?_)
    | with_reducible apply KeepsR.next
    | with_reducible apply State.send_keeps
    | with_reducible apply State.eisForm_keeps
    | with_reducible apply State.accelDone_keeps
    | split
    | dsimp -zeta only)

theorem State.eisOutcome_keeps {s0 : State} (s : State) (how flags : Nat) (h : Keeps s0 s) : Keeps s0 (State.eisOutcome s how flags) := by
  unfold State.eisOutcome
  repeat' (first
    | with_reducible assumption
    | (simp -zeta only [Keeps.mk_iff]; with_reducible refine KeepsParts.of ?_ rfl rfl (Nat.le_refl _) rfl rfl)
    | ((fail_if_success (conv => arg 2; congr)); extract_lets +onlyGivenNames x; first | (have hx : Keeps s0 x := ?_; (on_goal 2 => dsimp -zeta only [x]); (on_goal 1 => clear_value x)) | (have hx : Keeps s0 x.1 := ?_; (on_goal 2 => dsimp -zeta only [x]); (on_goal 1 => clear_value x)) | clear_value x)
    | with_reducible refine Keeps.ite (fun _ => ?_) (fun _ => ?_)
    | with_reducible apply State.eisQuiet_keeps
    | with_reducible apply State.eisStore_keeps
    | split
    | dsimp -zeta only)

theorem execEisResultDeadline_keeps {s0 : State} (s : State) (h : Keeps s0 s) : KeepsR s0 (execEisResultDeadline s) := by
  unfold execEisResultDeadline
  repeat' (first
    | with_reducible assumption
    | (simp -zeta only [Keeps.mk_iff]; with_reducible refine KeepsParts.of ?_ rfl rfl (Nat.le_refl _) rfl rfl)
    | ((fail_if_success (conv => arg 2; congr)); extract_lets +onlyGivenNames x; first | (have hx : Keeps s0 x := ?_; (on_goal 2 => dsimp -zeta only [x]); (on_goal 1 => clear_value x)) | (have hx : Keeps s0 x.1 := ?_; (on_goal 2 => dsimp -zeta only [x]); (on_goal 1 => clear_value x)) | clear_value x)
    | with_reducible refine Keeps.ite (fun _ => ?_) (fun _ => ?_)
    | with_reducible refine KeepsR.ite (fun _ => ?_) (fun _ => ?_)
    | with_reducible apply KeepsR.next
    | with_reducible apply State.advanceTo_keeps
    | with_reducible apply State.eisSkip_keeps
    | with_reducible apply State.settle_keeps
    | with_reducible apply State.eisIncomplete_keeps
    | with_reducible apply State.eisComplete_keeps
    | split
    | dsimp -zeta only)

theorem execExcitationStopTimeout_keeps {s0 : State} (s : State) (h : Keeps s0 s) : KeepsR s0 (execExcitationStopTimeout s) := by
  unfold execExcitationStopTimeout
  repeat' (first
    | with_reducible assumption
    | (simp -zeta only [Keeps.mk_iff]; with_reducible refine KeepsParts.of ?_ rfl rfl (Nat.le_refl _) rfl rfl)
    | ((fail_if_success (conv => arg 2; congr)); extract_lets +onlyGivenNames x; first | (have hx : Keeps s0 x := ?_; (on_goal 2 => dsimp -zeta only [x]); (on_goal 1 => clear_value x)) | (have hx : Keeps s0 x.1 := ?_; (on_goal 2 => dsimp -zeta only [x]); (on_goal 1 => clear_value x)) | clear_value x)
    | with_reducible refine Keeps.ite (fun _ => ?_) (fun _ => ?_)
    | with_reducible refine KeepsR.ite (fun _ => ?_) (fun _ => ?_)
    | with_reducible apply KeepsR.next
    | with_reducible apply State.raise_keeps
    | with_reducible apply State.eisExc_keeps
    | split
    | dsimp -zeta only)

theorem State.onCopies_keeps {s0 : State} (s : State) (f : Bool → Monitor → Monitor) (h : Keeps s0 s) : Keeps s0 (State.onCopies s f) := by
  unfold State.onCopies
  repeat' (first
    | with_reducible assumption
    | (simp -zeta only [Keeps.mk_iff]; with_reducible refine KeepsParts.of ?_ rfl rfl (Nat.le_refl _) rfl rfl)
    | ((fail_if_success (conv => arg 2; congr)); extract_lets +onlyGivenNames x; first | (have hx : Keeps s0 x := ?_; (on_goal 2 => dsimp -zeta only [x]); (on_goal 1 => clear_value x)) | (have hx : Keeps s0 x.1 := ?_; (on_goal 2 => dsimp -zeta only [x]); (on_goal 1 => clear_value x)) | clear_value x)
    | with_reducible refine Keeps.ite (fun _ => ?_) (fun _ => ?_)
    | split
    | dsimp -zeta only)

theorem State.compareDecisions_keeps {s0 : State} (s : State) (k : Nat) (agree : Bool) (h : Keeps s0 s) : Keeps s0 (State.compareDecisions s k agree) := by
  unfold State.compareDecisions
  repeat' (first
    | with_reducible assumption
    | (simp -zeta only [Keeps.mk_iff]; with_reducible refine KeepsParts.of ?_ rfl rfl (Nat.le_refl _) rfl rfl)
    | ((fail_if_success (conv => arg 2; congr)); extract_lets +onlyGivenNames x; first | (have hx : Keeps s0 x := ?_; (on_goal 2 => dsimp -zeta only [x]); (on_goal 1 => clear_value x)) | (have hx : Keeps s0 x.1 := ?_; (on_goal 2 => dsimp -zeta only [x]); (on_goal 1 => clear_value x)) | clear_value x)
    | with_reducible refine Keeps.ite (fun _ => ?_) (fun _ => ?_)
    | with_reducible apply State.raise_keeps
    | split
    | dsimp -zeta only)

theorem State.compareCopies_keeps {s0 : State} (s : State) (h : Keeps s0 s) : Keeps s0 (State.compareCopies s) := by
  unfold State.compareCopies
  repeat' (first
    | with_reducible assumption
    | (simp -zeta only [Keeps.mk_iff]; with_reducible refine KeepsParts.of ?_ rfl rfl (Nat.le_refl _) rfl rfl)
    | ((fail_if_success (conv => arg 2; congr)); extract_lets +onlyGivenNames x; first | (have hx : Keeps s0 x := ?_; (on_goal 2 => dsimp -zeta only [x]); (on_goal 1 => clear_value x)) | (have hx : Keeps s0 x.1 := ?_; (on_goal 2 => dsimp -zeta only [x]); (on_goal 1 => clear_value x)) | clear_value x)
    | with_reducible refine Keeps.ite (fun _ => ?_) (fun _ => ?_)
    | split
    | dsimp -zeta only)

theorem State.safShow_keeps {s0 : State} (s : State) (h : Keeps s0 s) : Keeps s0 (State.safShow s) := by
  unfold State.safShow
  repeat' (first
    | with_reducible assumption
    | (simp -zeta only [Keeps.mk_iff]; with_reducible refine KeepsParts.of ?_ rfl rfl (Nat.le_refl _) rfl rfl)
    | ((fail_if_success (conv => arg 2; congr)); extract_lets +onlyGivenNames x; first | (have hx : Keeps s0 x := ?_; (on_goal 2 => dsimp -zeta only [x]); (on_goal 1 => clear_value x)) | (have hx : Keeps s0 x.1 := ?_; (on_goal 2 => dsimp -zeta only [x]); (on_goal 1 => clear_value x)) | clear_value x)
    | with_reducible refine Keeps.ite (fun _ => ?_) (fun _ => ?_)
    | with_reducible apply State.put_keeps
    | with_reducible apply State.putB_keeps
    | with_reducible apply State.raiseIf_keeps
    | split
    | dsimp -zeta only)

theorem State.tripNow_keeps {s0 : State} (s : State) (d : Nat) (on : Bool) (h : Keeps s0 s) : Keeps s0 (State.tripNow s d on) := by
  unfold State.tripNow
  repeat' (first
    | with_reducible assumption
    | (simp -zeta only [Keeps.mk_iff]; with_reducible refine KeepsParts.of ?_ rfl rfl (Nat.le_refl _) rfl rfl)
    | ((fail_if_success (conv => arg 2; congr)); extract_lets +onlyGivenNames x; first | (have hx : Keeps s0 x := ?_; (on_goal 2 => dsimp -zeta only [x]); (on_goal 1 => clear_value x)) | (have hx : Keeps s0 x.1 := ?_; (on_goal 2 => dsimp -zeta only [x]); (on_goal 1 => clear_value x)) | clear_value x)
    | with_reducible refine Keeps.ite (fun _ => ?_) (fun _ => ?_)
    | with_reducible apply State.putBit_keeps
    | split
    | dsimp -zeta only)

theorem State.holdShow_keeps {s0 : State} (s : State) (h : Keeps s0 s) : Keeps s0 (State.holdShow s) := by
  unfold State.holdShow
  repeat' (first
    | with_reducible assumption
    | (simp -zeta only [Keeps.mk_iff]; with_reducible refine KeepsParts.of ?_ rfl rfl (Nat.le_refl _) rfl rfl)
    | ((fail_if_success (conv => arg 2; congr)); extract_lets +onlyGivenNames x; first | (have hx : Keeps s0 x := ?_; (on_goal 2 => dsimp -zeta only [x]); (on_goal 1 => clear_value x)) | (have hx : Keeps s0 x.1 := ?_; (on_goal 2 => dsimp -zeta only [x]); (on_goal 1 => clear_value x)) | clear_value x)
    | with_reducible refine Keeps.ite (fun _ => ?_) (fun _ => ?_)
    | with_reducible apply State.put_keeps
    | with_reducible apply State.putB_keeps
    | with_reducible apply State.tripNow_keeps
    | split
    | dsimp -zeta only)

theorem State.driveTrip_keeps {s0 : State} (s : State) (src : Nat) (h : Keeps s0 s) : Keeps s0 (State.driveTrip s src) := by
  unfold State.driveTrip
  repeat' (first
    | with_reducible assumption
    | (simp -zeta only [Keeps.mk_iff]; with_reducible refine KeepsParts.of ?_ rfl rfl (Nat.le_refl _) rfl rfl)
    | ((fail_if_success (conv => arg 2; congr)); extract_lets +onlyGivenNames x; first | (have hx : Keeps s0 x := ?_; (on_goal 2 => dsimp -zeta only [x]); (on_goal 1 => clear_value x)) | (have hx : Keeps s0 x.1 := ?_; (on_goal 2 => dsimp -zeta only [x]); (on_goal 1 => clear_value x)) | clear_value x)
    | with_reducible refine Keeps.ite (fun _ => ?_) (fun _ => ?_)
    | split
    | dsimp -zeta only)

theorem State.latch_keeps {s0 : State} (s : State) (src : Nat) (h : Keeps s0 s) : Keeps s0 (State.latch s src) := by
  unfold State.latch
  repeat' (first
    | with_reducible assumption
    | (simp -zeta only [Keeps.mk_iff]; with_reducible refine KeepsParts.of ?_ rfl rfl (Nat.le_refl _) rfl rfl)
    | ((fail_if_success (conv => arg 2; congr)); extract_lets +onlyGivenNames x; first | (have hx : Keeps s0 x := ?_; (on_goal 2 => dsimp -zeta only [x]); (on_goal 1 => clear_value x)) | (have hx : Keeps s0 x.1 := ?_; (on_goal 2 => dsimp -zeta only [x]); (on_goal 1 => clear_value x)) | clear_value x)
    | with_reducible refine Keeps.ite (fun _ => ?_) (fun _ => ?_)
    | with_reducible apply State.put_keeps
    | with_reducible apply State.putBit_keeps
    | with_reducible apply State.record_keeps
    | with_reducible apply State.raise_keeps
    | with_reducible apply State.freeze_keeps
    | with_reducible apply State.reactionOff_keeps
    | with_reducible apply State.endIso_keeps
    | with_reducible apply State.eisAbort_keeps
    | with_reducible apply State.eisExc_keeps
    | with_reducible apply State.settle_keeps
    | with_reducible apply State.ctsReaction_keeps
    | with_reducible apply State.holdShow_keeps
    | with_reducible apply State.driveTrip_keeps
    | split
    | dsimp -zeta only)

theorem State.protect_keeps {s0 : State} (s : State) (h : Keeps s0 s) : Keeps s0 (State.protect s) := by
  unfold State.protect
  repeat' (first
    | with_reducible assumption
    | (simp -zeta only [Keeps.mk_iff]; with_reducible refine KeepsParts.of ?_ rfl rfl (Nat.le_refl _) rfl rfl)
    | ((fail_if_success (conv => arg 2; congr)); extract_lets +onlyGivenNames x; first | (have hx : Keeps s0 x := ?_; (on_goal 2 => dsimp -zeta only [x]); (on_goal 1 => clear_value x)) | (have hx : Keeps s0 x.1 := ?_; (on_goal 2 => dsimp -zeta only [x]); (on_goal 1 => clear_value x)) | clear_value x)
    | with_reducible refine Keeps.ite (fun _ => ?_) (fun _ => ?_)
    | with_reducible apply State.safShow_keeps
    | with_reducible apply State.latch_keeps
    | (with_reducible apply Keeps.foldl; on_goal 2 => (intro x y hx; try dsimp -zeta only))
    | split
    | dsimp -zeta only)

theorem State.clearSource_keeps {s0 : State} (s : State) (src : Nat) (h : Keeps s0 s) : Keeps s0 (State.clearSource s src) := by
  unfold State.clearSource
  repeat' (first
    | with_reducible assumption
    | (simp -zeta only [Keeps.mk_iff]; with_reducible refine KeepsParts.of ?_ rfl rfl (Nat.le_refl _) rfl rfl)
    | ((fail_if_success (conv => arg 2; congr)); extract_lets +onlyGivenNames x; first | (have hx : Keeps s0 x := ?_; (on_goal 2 => dsimp -zeta only [x]); (on_goal 1 => clear_value x)) | (have hx : Keeps s0 x.1 := ?_; (on_goal 2 => dsimp -zeta only [x]); (on_goal 1 => clear_value x)) | clear_value x)
    | with_reducible refine Keeps.ite (fun _ => ?_) (fun _ => ?_)
    | with_reducible apply State.putBit_keeps
    | with_reducible apply State.raise_keeps
    | with_reducible apply State.refreshSwitches_keeps
    | with_reducible apply State.refreshChannels_keeps
    | with_reducible apply State.holdShow_keeps
    | split
    | dsimp -zeta only)

theorem State.remask_keeps {s0 : State} (s : State) (h : Keeps s0 s) : Keeps s0 (State.remask s) := by
  unfold State.remask
  repeat' (first
    | with_reducible assumption
    | (simp -zeta only [Keeps.mk_iff]; with_reducible refine KeepsParts.of ?_ rfl rfl (Nat.le_refl _) rfl rfl)
    | ((fail_if_success (conv => arg 2; congr)); extract_lets +onlyGivenNames x; first | (have hx : Keeps s0 x := ?_; (on_goal 2 => dsimp -zeta only [x]); (on_goal 1 => clear_value x)) | (have hx : Keeps s0 x.1 := ?_; (on_goal 2 => dsimp -zeta only [x]); (on_goal 1 => clear_value x)) | clear_value x)
    | with_reducible refine Keeps.ite (fun _ => ?_) (fun _ => ?_)
    | with_reducible apply State.reactionOff_keeps
    | with_reducible apply State.ctsReaction_keeps
    | with_reducible apply State.holdShow_keeps
    | split
    | dsimp -zeta only)

theorem State.monitorFault_keeps {s0 : State} (s : State) (h : Keeps s0 s) : Keeps s0 (State.monitorFault s) := by
  unfold State.monitorFault
  repeat' (first
    | with_reducible assumption
    | (simp -zeta only [Keeps.mk_iff]; with_reducible refine KeepsParts.of ?_ rfl rfl (Nat.le_refl _) rfl rfl)
    | ((fail_if_success (conv => arg 2; congr)); extract_lets +onlyGivenNames x; first | (have hx : Keeps s0 x := ?_; (on_goal 2 => dsimp -zeta only [x]); (on_goal 1 => clear_value x)) | (have hx : Keeps s0 x.1 := ?_; (on_goal 2 => dsimp -zeta only [x]); (on_goal 1 => clear_value x)) | clear_value x)
    | with_reducible refine Keeps.ite (fun _ => ?_) (fun _ => ?_)
    | split
    | dsimp -zeta only)

theorem State.monitorSet_keeps {s0 : State} (s : State) (cells : List (Int × Bool)) (cur : Int × Bool) (h : Keeps s0 s) : Keeps s0 (State.monitorSet s cells cur) := by
  unfold State.monitorSet
  repeat' (first
    | with_reducible assumption
    | (simp -zeta only [Keeps.mk_iff]; with_reducible refine KeepsParts.of ?_ rfl rfl (Nat.le_refl _) rfl rfl)
    | ((fail_if_success (conv => arg 2; congr)); extract_lets +onlyGivenNames x; first | (have hx : Keeps s0 x := ?_; (on_goal 2 => dsimp -zeta only [x]); (on_goal 1 => clear_value x)) | (have hx : Keeps s0 x.1 := ?_; (on_goal 2 => dsimp -zeta only [x]); (on_goal 1 => clear_value x)) | clear_value x)
    | with_reducible refine Keeps.ite (fun _ => ?_) (fun _ => ?_)
    | with_reducible apply State.onCopies_keeps
    | with_reducible apply State.compareDecisions_keeps
    | with_reducible apply State.monitorFault_keeps
    | split
    | dsimp -zeta only)

theorem State.monitorBlock_keeps {s0 : State} (s : State) (h : Keeps s0 s) : Keeps s0 (State.monitorBlock s) := by
  unfold State.monitorBlock
  repeat' (first
    | with_reducible assumption
    | (simp -zeta only [Keeps.mk_iff]; with_reducible refine KeepsParts.of ?_ rfl rfl (Nat.le_refl _) rfl rfl)
    | ((fail_if_success (conv => arg 2; congr)); extract_lets +onlyGivenNames x; first | (have hx : Keeps s0 x := ?_; (on_goal 2 => dsimp -zeta only [x]); (on_goal 1 => clear_value x)) | (have hx : Keeps s0 x.1 := ?_; (on_goal 2 => dsimp -zeta only [x]); (on_goal 1 => clear_value x)) | clear_value x)
    | with_reducible refine Keeps.ite (fun _ => ?_) (fun _ => ?_)
    | with_reducible apply State.put_keeps
    | with_reducible apply State.nextFree_keeps
    | with_reducible apply State.compareDecisions_keeps
    | split
    | dsimp -zeta only)

theorem State.blockSample_keeps {s0 : State} (s : State) (o : Nat) (mA : Int) (h : Keeps s0 s) : Keeps s0 (State.blockSample s o mA) := by
  unfold State.blockSample
  repeat' (first
    | with_reducible assumption
    | (simp -zeta only [Keeps.mk_iff]; with_reducible refine KeepsParts.of ?_ rfl rfl (Nat.le_refl _) rfl rfl)
    | ((fail_if_success (conv => arg 2; congr)); extract_lets +onlyGivenNames x; first | (have hx : Keeps s0 x := ?_; (on_goal 2 => dsimp -zeta only [x]); (on_goal 1 => clear_value x)) | (have hx : Keeps s0 x.1 := ?_; (on_goal 2 => dsimp -zeta only [x]); (on_goal 1 => clear_value x)) | clear_value x)
    | with_reducible refine Keeps.ite (fun _ => ?_) (fun _ => ?_)
    | with_reducible apply State.monitorBlock_keeps
    | split
    | dsimp -zeta only)

theorem State.monitorTemp_keeps {s0 : State} (s : State) (i : Nat) (t : Int) (h : Keeps s0 s) : Keeps s0 (State.monitorTemp s i t) := by
  unfold State.monitorTemp
  repeat' (first
    | with_reducible assumption
    | (simp -zeta only [Keeps.mk_iff]; with_reducible refine KeepsParts.of ?_ rfl rfl (Nat.le_refl _) rfl rfl)
    | ((fail_if_success (conv => arg 2; congr)); extract_lets +onlyGivenNames x; first | (have hx : Keeps s0 x := ?_; (on_goal 2 => dsimp -zeta only [x]); (on_goal 1 => clear_value x)) | (have hx : Keeps s0 x.1 := ?_; (on_goal 2 => dsimp -zeta only [x]); (on_goal 1 => clear_value x)) | clear_value x)
    | with_reducible refine Keeps.ite (fun _ => ?_) (fun _ => ?_)
    | with_reducible apply State.onCopies_keeps
    | with_reducible apply State.compareDecisions_keeps
    | split
    | dsimp -zeta only)

theorem execSwTrip_keeps {s0 : State} (ini : Ini) (s : State) (h : Keeps s0 s) : KeepsR s0 (execSwTrip ini s) := by
  unfold execSwTrip
  repeat' (first
    | with_reducible assumption
    | (simp -zeta only [Keeps.mk_iff]; with_reducible refine KeepsParts.of ?_ rfl rfl (Nat.le_refl _) rfl rfl)
    | ((fail_if_success (conv => arg 2; congr)); extract_lets +onlyGivenNames x; first | (have hx : Keeps s0 x := ?_; (on_goal 2 => dsimp -zeta only [x]); (on_goal 1 => clear_value x)) | (have hx : Keeps s0 x.1 := ?_; (on_goal 2 => dsimp -zeta only [x]); (on_goal 1 => clear_value x)) | clear_value x)
    | with_reducible refine Keeps.ite (fun _ => ?_) (fun _ => ?_)
    | with_reducible refine KeepsR.ite (fun _ => ?_) (fun _ => ?_)
    | with_reducible apply KeepsR.next
    | with_reducible apply State.raise_keeps
    | with_reducible apply State.latch_keeps
    | split
    | dsimp -zeta only)

theorem execReactionClear_keeps {s0 : State} (ini : Ini) (mask : Word) (s : State) (h : Keeps s0 s) : KeepsR s0 (execReactionClear ini mask s) := by
  unfold execReactionClear
  repeat' (first
    | with_reducible assumption
    | (simp -zeta only [Keeps.mk_iff]; with_reducible refine KeepsParts.of ?_ rfl rfl (Nat.le_refl _) rfl rfl)
    | ((fail_if_success (conv => arg 2; congr)); extract_lets +onlyGivenNames x; first | (have hx : Keeps s0 x := ?_; (on_goal 2 => dsimp -zeta only [x]); (on_goal 1 => clear_value x)) | (have hx : Keeps s0 x.1 := ?_; (on_goal 2 => dsimp -zeta only [x]); (on_goal 1 => clear_value x)) | clear_value x)
    | with_reducible refine Keeps.ite (fun _ => ?_) (fun _ => ?_)
    | with_reducible refine KeepsR.ite (fun _ => ?_) (fun _ => ?_)
    | with_reducible apply KeepsR.next
    | with_reducible apply State.raise_keeps
    | with_reducible apply State.safShow_keeps
    | with_reducible apply State.clearSource_keeps
    | (with_reducible apply Keeps.foldl; on_goal 2 => (intro x y hx; try dsimp -zeta only))
    | split
    | dsimp -zeta only)

theorem execSafSelftestStart_keeps {s0 : State} (s : State) (h : Keeps s0 s) : KeepsR s0 (execSafSelftestStart s) := by
  unfold execSafSelftestStart
  repeat' (first
    | with_reducible assumption
    | (simp -zeta only [Keeps.mk_iff]; with_reducible refine KeepsParts.of ?_ rfl rfl (Nat.le_refl _) rfl rfl)
    | ((fail_if_success (conv => arg 2; congr)); extract_lets +onlyGivenNames x; first | (have hx : Keeps s0 x := ?_; (on_goal 2 => dsimp -zeta only [x]); (on_goal 1 => clear_value x)) | (have hx : Keeps s0 x.1 := ?_; (on_goal 2 => dsimp -zeta only [x]); (on_goal 1 => clear_value x)) | clear_value x)
    | with_reducible refine Keeps.ite (fun _ => ?_) (fun _ => ?_)
    | with_reducible refine KeepsR.ite (fun _ => ?_) (fun _ => ?_)
    | with_reducible apply KeepsR.next
    | with_reducible apply State.advanceTo_keeps
    | split
    | dsimp -zeta only)

theorem State.testOutcome_keeps {s0 : State} (s : State) (y passed : Bool) (h : Keeps s0 s) : Keeps s0 (State.testOutcome s y passed) := by
  unfold State.testOutcome
  repeat' (first
    | with_reducible assumption
    | (simp -zeta only [Keeps.mk_iff]; with_reducible refine KeepsParts.of ?_ rfl rfl (Nat.le_refl _) rfl rfl)
    | ((fail_if_success (conv => arg 2; congr)); extract_lets +onlyGivenNames x; first | (have hx : Keeps s0 x := ?_; (on_goal 2 => dsimp -zeta only [x]); (on_goal 1 => clear_value x)) | (have hx : Keeps s0 x.1 := ?_; (on_goal 2 => dsimp -zeta only [x]); (on_goal 1 => clear_value x)) | clear_value x)
    | with_reducible refine Keeps.ite (fun _ => ?_) (fun _ => ?_)
    | with_reducible apply State.putB_keeps
    | with_reducible apply State.raiseIf_keeps
    | split
    | dsimp -zeta only)

theorem execSafSelftestEnd_keeps {s0 : State} (passed : Bool) (s : State) (h : Keeps s0 s) : KeepsR s0 (execSafSelftestEnd passed s) := by
  unfold execSafSelftestEnd
  repeat' (first
    | with_reducible assumption
    | (simp -zeta only [Keeps.mk_iff]; with_reducible refine KeepsParts.of ?_ rfl rfl (Nat.le_refl _) rfl rfl)
    | ((fail_if_success (conv => arg 2; congr)); extract_lets +onlyGivenNames x; first | (have hx : Keeps s0 x := ?_; (on_goal 2 => dsimp -zeta only [x]); (on_goal 1 => clear_value x)) | (have hx : Keeps s0 x.1 := ?_; (on_goal 2 => dsimp -zeta only [x]); (on_goal 1 => clear_value x)) | clear_value x)
    | with_reducible refine Keeps.ite (fun _ => ?_) (fun _ => ?_)
    | with_reducible refine KeepsR.ite (fun _ => ?_) (fun _ => ?_)
    | with_reducible apply KeepsR.next
    | with_reducible apply State.advanceTo_keeps
    | with_reducible apply State.protect_keeps
    | with_reducible apply State.testOutcome_keeps
    | split
    | dsimp -zeta only)

theorem State.setCan_keeps {s0 : State} (s : State) (ch : Nat) (c : Can) (h : Keeps s0 s) : Keeps s0 (State.setCan s ch c) := by
  unfold State.setCan
  repeat' (first
    | with_reducible assumption
    | (simp -zeta only [Keeps.mk_iff]; with_reducible refine KeepsParts.of ?_ rfl rfl (Nat.le_refl _) rfl rfl)
    | ((fail_if_success (conv => arg 2; congr)); extract_lets +onlyGivenNames x; first | (have hx : Keeps s0 x := ?_; (on_goal 2 => dsimp -zeta only [x]); (on_goal 1 => clear_value x)) | (have hx : Keeps s0 x.1 := ?_; (on_goal 2 => dsimp -zeta only [x]); (on_goal 1 => clear_value x)) | clear_value x)
    | with_reducible refine Keeps.ite (fun _ => ?_) (fun _ => ?_)
    | split
    | dsimp -zeta only)

theorem State.setObjWord_keeps {s0 : State} (s : State) (ch k w v : Nat) (h : Keeps s0 s) : Keeps s0 (State.setObjWord s ch k w v) := by
  unfold State.setObjWord
  repeat' (first
    | with_reducible assumption
    | (simp -zeta only [Keeps.mk_iff]; with_reducible refine KeepsParts.of ?_ rfl rfl (Nat.le_refl _) rfl rfl)
    | ((fail_if_success (conv => arg 2; congr)); extract_lets +onlyGivenNames x; first | (have hx : Keeps s0 x := ?_; (on_goal 2 => dsimp -zeta only [x]); (on_goal 1 => clear_value x)) | (have hx : Keeps s0 x.1 := ?_; (on_goal 2 => dsimp -zeta only [x]); (on_goal 1 => clear_value x)) | clear_value x)
    | with_reducible refine Keeps.ite (fun _ => ?_) (fun _ => ?_)
    | with_reducible apply State.setCan_keeps
    | split
    | dsimp -zeta only)

theorem State.setObjBit_keeps {s0 : State} (s : State) (ch k w i : Nat) (b : Bool) (h : Keeps s0 s) : Keeps s0 (State.setObjBit s ch k w i b) := by
  unfold State.setObjBit
  repeat' (first
    | with_reducible assumption
    | (simp -zeta only [Keeps.mk_iff]; with_reducible refine KeepsParts.of ?_ rfl rfl (Nat.le_refl _) rfl rfl)
    | ((fail_if_success (conv => arg 2; congr)); extract_lets +onlyGivenNames x; first | (have hx : Keeps s0 x := ?_; (on_goal 2 => dsimp -zeta only [x]); (on_goal 1 => clear_value x)) | (have hx : Keeps s0 x.1 := ?_; (on_goal 2 => dsimp -zeta only [x]); (on_goal 1 => clear_value x)) | clear_value x)
    | with_reducible refine Keeps.ite (fun _ => ?_) (fun _ => ?_)
    | with_reducible apply State.setObjWord_keeps
    | split
    | dsimp -zeta only)

theorem State.setObjByte_keeps {s0 : State} (s : State) (ch k i b : Nat) (h : Keeps s0 s) : Keeps s0 (State.setObjByte s ch k i b) := by
  unfold State.setObjByte
  repeat' (first
    | with_reducible assumption
    | (simp -zeta only [Keeps.mk_iff]; with_reducible refine KeepsParts.of ?_ rfl rfl (Nat.le_refl _) rfl rfl)
    | ((fail_if_success (conv => arg 2; congr)); extract_lets +onlyGivenNames x; first | (have hx : Keeps s0 x := ?_; (on_goal 2 => dsimp -zeta only [x]); (on_goal 1 => clear_value x)) | (have hx : Keeps s0 x.1 := ?_; (on_goal 2 => dsimp -zeta only [x]); (on_goal 1 => clear_value x)) | clear_value x)
    | with_reducible refine Keeps.ite (fun _ => ?_) (fun _ => ?_)
    | with_reducible apply State.setObjWord_keeps
    | split
    | dsimp -zeta only)

theorem State.setObjBytes_keeps {s0 : State} (s : State) (ch k i : Nat) (l : List Nat) (h : Keeps s0 s) :
    Keeps s0 (s.setObjBytes ch k i l) := by
  induction l generalizing s i with
  | nil => exact h
  | cons b l ih => exact ih _ _ (State.setObjByte_keeps s ch k i b h)

theorem State.setConn_keeps {s0 : State} (s : State) (n : Nat) (c : Conn) (h : Keeps s0 s) : Keeps s0 (State.setConn s n c) := by
  unfold State.setConn
  repeat' (first
    | with_reducible assumption
    | (simp -zeta only [Keeps.mk_iff]; with_reducible refine KeepsParts.of ?_ rfl rfl (Nat.le_refl _) rfl rfl)
    | ((fail_if_success (conv => arg 2; congr)); extract_lets +onlyGivenNames x; first | (have hx : Keeps s0 x := ?_; (on_goal 2 => dsimp -zeta only [x]); (on_goal 1 => clear_value x)) | (have hx : Keeps s0 x.1 := ?_; (on_goal 2 => dsimp -zeta only [x]); (on_goal 1 => clear_value x)) | clear_value x)
    | with_reducible refine Keeps.ite (fun _ => ?_) (fun _ => ?_)
    | split
    | dsimp -zeta only)

theorem State.tktCauses_keeps {s0 : State} (s : State) (h : Keeps s0 s) : Keeps s0 (State.tktCauses s) := by
  unfold State.tktCauses
  repeat' (first
    | with_reducible assumption
    | (simp -zeta only [Keeps.mk_iff]; with_reducible refine KeepsParts.of ?_ rfl rfl (Nat.le_refl _) rfl rfl)
    | ((fail_if_success (conv => arg 2; congr)); extract_lets +onlyGivenNames x; first | (have hx : Keeps s0 x := ?_; (on_goal 2 => dsimp -zeta only [x]); (on_goal 1 => clear_value x)) | (have hx : Keeps s0 x.1 := ?_; (on_goal 2 => dsimp -zeta only [x]); (on_goal 1 => clear_value x)) | clear_value x)
    | with_reducible refine Keeps.ite (fun _ => ?_) (fun _ => ?_)
    | split
    | dsimp -zeta only)

theorem State.connTo_keeps {s0 : State} (s : State) (n st : Nat) (h : Keeps s0 s) : Keeps s0 (State.connTo s n st) := by
  unfold State.connTo
  repeat' (first
    | with_reducible assumption
    | (simp -zeta only [Keeps.mk_iff]; with_reducible refine KeepsParts.of ?_ rfl rfl (Nat.le_refl _) rfl rfl)
    | ((fail_if_success (conv => arg 2; congr)); extract_lets +onlyGivenNames x; first | (have hx : Keeps s0 x := ?_; (on_goal 2 => dsimp -zeta only [x]); (on_goal 1 => clear_value x)) | (have hx : Keeps s0 x.1 := ?_; (on_goal 2 => dsimp -zeta only [x]); (on_goal 1 => clear_value x)) | clear_value x)
    | with_reducible refine Keeps.ite (fun _ => ?_) (fun _ => ?_)
    | with_reducible apply State.put_keeps
    | with_reducible apply State.putBit_keeps
    | split
    | dsimp -zeta only)

theorem State.connStart_keeps {s0 : State} (s : State) (n : Nat) (h : Keeps s0 s) : Keeps s0 (State.connStart s n) := by
  unfold State.connStart
  repeat' (first
    | with_reducible assumption
    | (simp -zeta only [Keeps.mk_iff]; with_reducible refine KeepsParts.of ?_ rfl rfl (Nat.le_refl _) rfl rfl)
    | ((fail_if_success (conv => arg 2; congr)); extract_lets +onlyGivenNames x; first | (have hx : Keeps s0 x := ?_; (on_goal 2 => dsimp -zeta only [x]); (on_goal 1 => clear_value x)) | (have hx : Keeps s0 x.1 := ?_; (on_goal 2 => dsimp -zeta only [x]); (on_goal 1 => clear_value x)) | clear_value x)
    | with_reducible refine Keeps.ite (fun _ => ?_) (fun _ => ?_)
    | with_reducible apply State.setConn_keeps
    | with_reducible apply State.connTo_keeps
    | split
    | dsimp -zeta only)

theorem State.connBind_keeps {s0 : State} (s : State) (n : Nat) (h : Keeps s0 s) : Keeps s0 (State.connBind s n) := by
  unfold State.connBind
  repeat' (first
    | with_reducible assumption
    | (simp -zeta only [Keeps.mk_iff]; with_reducible refine KeepsParts.of ?_ rfl rfl (Nat.le_refl _) rfl rfl)
    | ((fail_if_success (conv => arg 2; congr)); extract_lets +onlyGivenNames x; first | (have hx : Keeps s0 x := ?_; (on_goal 2 => dsimp -zeta only [x]); (on_goal 1 => clear_value x)) | (have hx : Keeps s0 x.1 := ?_; (on_goal 2 => dsimp -zeta only [x]); (on_goal 1 => clear_value x)) | clear_value x)
    | with_reducible refine Keeps.ite (fun _ => ?_) (fun _ => ?_)
    | with_reducible apply State.setConn_keeps
    | with_reducible apply State.connTo_keeps
    | with_reducible apply State.connStart_keeps
    | split
    | dsimp -zeta only)

theorem State.tktBits_keeps {s0 : State} (s : State) (old : List (Nat × Nat × Bool)) (h : Keeps s0 s) : Keeps s0 (State.tktBits s old) := by
  unfold State.tktBits
  repeat' (first
    | with_reducible assumption
    | (simp -zeta only [Keeps.mk_iff]; with_reducible refine KeepsParts.of ?_ rfl rfl (Nat.le_refl _) rfl rfl)
    | ((fail_if_success (conv => arg 2; congr)); extract_lets +onlyGivenNames x; first | (have hx : Keeps s0 x := ?_; (on_goal 2 => dsimp -zeta only [x]); (on_goal 1 => clear_value x)) | (have hx : Keeps s0 x.1 := ?_; (on_goal 2 => dsimp -zeta only [x]); (on_goal 1 => clear_value x)) | clear_value x)
    | with_reducible refine Keeps.ite (fun _ => ?_) (fun _ => ?_)
    | with_reducible apply State.setObjBit_keeps
    | (with_reducible apply Keeps.foldl; on_goal 2 => (intro x y hx; try dsimp -zeta only))
    | split
    | dsimp -zeta only)

theorem State.tktRebind_keeps {s0 : State} (s : State) (h : Keeps s0 s) : Keeps s0 (State.tktRebind s) := by
  unfold State.tktRebind
  repeat' (first
    | with_reducible assumption
    | (simp -zeta only [Keeps.mk_iff]; with_reducible refine KeepsParts.of ?_ rfl rfl (Nat.le_refl _) rfl rfl)
    | ((fail_if_success (conv => arg 2; congr)); extract_lets +onlyGivenNames x; first | (have hx : Keeps s0 x := ?_; (on_goal 2 => dsimp -zeta only [x]); (on_goal 1 => clear_value x)) | (have hx : Keeps s0 x.1 := ?_; (on_goal 2 => dsimp -zeta only [x]); (on_goal 1 => clear_value x)) | clear_value x)
    | with_reducible refine Keeps.ite (fun _ => ?_) (fun _ => ?_)
    | with_reducible apply State.protect_keeps
    | with_reducible apply State.tktCauses_keeps
    | with_reducible apply State.connBind_keeps
    | with_reducible apply State.tktBits_keeps
    | (with_reducible apply Keeps.foldl; on_goal 2 => (intro x y hx; try dsimp -zeta only))
    | split
    | dsimp -zeta only)

theorem State.connExpire_keeps {s0 : State} (s : State) (n : Nat) (h : Keeps s0 s) : Keeps s0 (State.connExpire s n) := by
  unfold State.connExpire
  repeat' (first
    | with_reducible assumption
    | (simp -zeta only [Keeps.mk_iff]; with_reducible refine KeepsParts.of ?_ rfl rfl (Nat.le_refl _) rfl rfl)
    | ((fail_if_success (conv => arg 2; congr)); extract_lets +onlyGivenNames x; first | (have hx : Keeps s0 x := ?_; (on_goal 2 => dsimp -zeta only [x]); (on_goal 1 => clear_value x)) | (have hx : Keeps s0 x.1 := ?_; (on_goal 2 => dsimp -zeta only [x]); (on_goal 1 => clear_value x)) | clear_value x)
    | with_reducible refine Keeps.ite (fun _ => ?_) (fun _ => ?_)
    | with_reducible apply State.raise_keeps
    | with_reducible apply State.protect_keeps
    | with_reducible apply State.setConn_keeps
    | with_reducible apply State.tktCauses_keeps
    | with_reducible apply State.connTo_keeps
    | split
    | dsimp -zeta only)

theorem State.connExpireIfDue_keeps {s0 : State} (s : State) (n : Nat) (h : Keeps s0 s) : Keeps s0 (State.connExpireIfDue s n) := by
  unfold State.connExpireIfDue
  repeat' (first
    | with_reducible assumption
    | (simp -zeta only [Keeps.mk_iff]; with_reducible refine KeepsParts.of ?_ rfl rfl (Nat.le_refl _) rfl rfl)
    | ((fail_if_success (conv => arg 2; congr)); extract_lets +onlyGivenNames x; first | (have hx : Keeps s0 x := ?_; (on_goal 2 => dsimp -zeta only [x]); (on_goal 1 => clear_value x)) | (have hx : Keeps s0 x.1 := ?_; (on_goal 2 => dsimp -zeta only [x]); (on_goal 1 => clear_value x)) | clear_value x)
    | with_reducible refine Keeps.ite (fun _ => ?_) (fun _ => ?_)
    | with_reducible apply State.connExpire_keeps
    | split
    | dsimp -zeta only)

theorem State.connProgress_keeps {s0 : State} (s : State) (n : Nat) (h : Keeps s0 s) : Keeps s0 (State.connProgress s n) := by
  unfold State.connProgress
  repeat' (first
    | with_reducible assumption
    | (simp -zeta only [Keeps.mk_iff]; with_reducible refine KeepsParts.of ?_ rfl rfl (Nat.le_refl _) rfl rfl)
    | ((fail_if_success (conv => arg 2; congr)); extract_lets +onlyGivenNames x; first | (have hx : Keeps s0 x := ?_; (on_goal 2 => dsimp -zeta only [x]); (on_goal 1 => clear_value x)) | (have hx : Keeps s0 x.1 := ?_; (on_goal 2 => dsimp -zeta only [x]); (on_goal 1 => clear_value x)) | clear_value x)
    | with_reducible refine Keeps.ite (fun _ => ?_) (fun _ => ?_)
    | with_reducible apply State.raise_keeps
    | with_reducible apply State.protect_keeps
    | with_reducible apply State.setConn_keeps
    | with_reducible apply State.tktCauses_keeps
    | with_reducible apply State.connTo_keeps
    | split
    | dsimp -zeta only)

theorem State.connReject_keeps {s0 : State} (s : State) (n reason : Nat) (h : Keeps s0 s) : Keeps s0 (State.connReject s n reason) := by
  unfold State.connReject
  repeat' (first
    | with_reducible assumption
    | (simp -zeta only [Keeps.mk_iff]; with_reducible refine KeepsParts.of ?_ rfl rfl (Nat.le_refl _) rfl rfl)
    | ((fail_if_success (conv => arg 2; congr)); extract_lets +onlyGivenNames x; first | (have hx : Keeps s0 x := ?_; (on_goal 2 => dsimp -zeta only [x]); (on_goal 1 => clear_value x)) | (have hx : Keeps s0 x.1 := ?_; (on_goal 2 => dsimp -zeta only [x]); (on_goal 1 => clear_value x)) | clear_value x)
    | with_reducible refine Keeps.ite (fun _ => ?_) (fun _ => ?_)
    | with_reducible apply State.put_keeps
    | with_reducible apply State.incSat_keeps
    | with_reducible apply State.raise_keeps
    | with_reducible apply State.setConn_keeps
    | split
    | dsimp -zeta only)

theorem State.connCheck_keeps {s0 : State} (s : State) (n ch k len : Nat) (xtd : Bool) (h : Keeps s0 s) : Keeps s0 (State.connCheck s n ch k len xtd) := by
  unfold State.connCheck
  repeat' (first
    | with_reducible assumption
    | (simp -zeta only [Keeps.mk_iff]; with_reducible refine KeepsParts.of ?_ rfl rfl (Nat.le_refl _) rfl rfl)
    | ((fail_if_success (conv => arg 2; congr)); extract_lets +onlyGivenNames x; first | (have hx : Keeps s0 x := ?_; (on_goal 2 => dsimp -zeta only [x]); (on_goal 1 => clear_value x)) | (have hx : Keeps s0 x.1 := ?_; (on_goal 2 => dsimp -zeta only [x]); (on_goal 1 => clear_value x)) | clear_value x)
    | with_reducible refine Keeps.ite (fun _ => ?_) (fun _ => ?_)
    | with_reducible apply State.put_keeps
    | with_reducible apply State.raiseIf_keeps
    | with_reducible apply State.setConn_keeps
    | with_reducible apply State.connExpireIfDue_keeps
    | with_reducible apply State.connProgress_keeps
    | with_reducible apply State.connReject_keeps
    | split
    | dsimp -zeta only)

theorem State.connSeal_keeps {s0 : State} (s : State) (n ch k : Nat) (h : Keeps s0 s) : Keeps s0 (State.connSeal s n ch k) := by
  unfold State.connSeal
  repeat' (first
    | with_reducible assumption
    | (simp -zeta only [Keeps.mk_iff]; with_reducible refine KeepsParts.of ?_ rfl rfl (Nat.le_refl _) rfl rfl)
    | ((fail_if_success (conv => arg 2; congr)); extract_lets +onlyGivenNames x; first | (have hx : Keeps s0 x := ?_; (on_goal 2 => dsimp -zeta only [x]); (on_goal 1 => clear_value x)) | (have hx : Keeps s0 x.1 := ?_; (on_goal 2 => dsimp -zeta only [x]); (on_goal 1 => clear_value x)) | clear_value x)
    | with_reducible refine Keeps.ite (fun _ => ?_) (fun _ => ?_)
    | with_reducible apply State.setObjWord_keeps
    | with_reducible apply State.setObjBytes_keeps
    | split
    | dsimp -zeta only)

theorem State.sealObj_keeps {s0 : State} (s : State) (ch k : Nat) (h : Keeps s0 s) : Keeps s0 (State.sealObj s ch k) := by
  unfold State.sealObj
  repeat' (first
    | with_reducible assumption
    | (simp -zeta only [Keeps.mk_iff]; with_reducible refine KeepsParts.of ?_ rfl rfl (Nat.le_refl _) rfl rfl)
    | ((fail_if_success (conv => arg 2; congr)); extract_lets +onlyGivenNames x; first | (have hx : Keeps s0 x := ?_; (on_goal 2 => dsimp -zeta only [x]); (on_goal 1 => clear_value x)) | (have hx : Keeps s0 x.1 := ?_; (on_goal 2 => dsimp -zeta only [x]); (on_goal 1 => clear_value x)) | clear_value x)
    | with_reducible refine Keeps.ite (fun _ => ?_) (fun _ => ?_)
    | with_reducible apply State.connSeal_keeps
    | split
    | dsimp -zeta only)

theorem State.cantxOpens_keeps {s0 : State} (s : State) (ch k : Nat) (h : Keeps s0 s) : Keeps s0 (State.cantxOpens s ch k) := by
  unfold State.cantxOpens
  repeat' (first
    | with_reducible assumption
    | (simp -zeta only [Keeps.mk_iff]; with_reducible refine KeepsParts.of ?_ rfl rfl (Nat.le_refl _) rfl rfl)
    | ((fail_if_success (conv => arg 2; congr)); extract_lets +onlyGivenNames x; first | (have hx : Keeps s0 x := ?_; (on_goal 2 => dsimp -zeta only [x]); (on_goal 1 => clear_value x)) | (have hx : Keeps s0 x.1 := ?_; (on_goal 2 => dsimp -zeta only [x]); (on_goal 1 => clear_value x)) | clear_value x)
    | with_reducible refine Keeps.ite (fun _ => ?_) (fun _ => ?_)
    | with_reducible apply State.sealObj_keeps
    | split
    | dsimp -zeta only)

theorem State.connSent_keeps {s0 : State} (s : State) (ch k : Nat) (h : Keeps s0 s) : Keeps s0 (State.connSent s ch k) := by
  unfold State.connSent
  repeat' (first
    | with_reducible assumption
    | (simp -zeta only [Keeps.mk_iff]; with_reducible refine KeepsParts.of ?_ rfl rfl (Nat.le_refl _) rfl rfl)
    | ((fail_if_success (conv => arg 2; congr)); extract_lets +onlyGivenNames x; first | (have hx : Keeps s0 x := ?_; (on_goal 2 => dsimp -zeta only [x]); (on_goal 1 => clear_value x)) | (have hx : Keeps s0 x.1 := ?_; (on_goal 2 => dsimp -zeta only [x]); (on_goal 1 => clear_value x)) | clear_value x)
    | with_reducible refine Keeps.ite (fun _ => ?_) (fun _ => ?_)
    | with_reducible apply State.put_keeps
    | with_reducible apply State.setConn_keeps
    | with_reducible apply State.connExpireIfDue_keeps
    | with_reducible apply State.connProgress_keeps
    | split
    | dsimp -zeta only)

theorem State.tktResume_keeps {s0 : State} (s : State) (h : Keeps s0 s) : Keeps s0 (State.tktResume s) := by
  unfold State.tktResume
  repeat' (first
    | with_reducible assumption
    | (simp -zeta only [Keeps.mk_iff]; with_reducible refine KeepsParts.of ?_ rfl rfl (Nat.le_refl _) rfl rfl)
    | ((fail_if_success (conv => arg 2; congr)); extract_lets +onlyGivenNames x; first | (have hx : Keeps s0 x := ?_; (on_goal 2 => dsimp -zeta only [x]); (on_goal 1 => clear_value x)) | (have hx : Keeps s0 x.1 := ?_; (on_goal 2 => dsimp -zeta only [x]); (on_goal 1 => clear_value x)) | clear_value x)
    | with_reducible refine Keeps.ite (fun _ => ?_) (fun _ => ?_)
    | with_reducible apply State.protect_keeps
    | with_reducible apply State.tktCauses_keeps
    | with_reducible apply State.connStart_keeps
    | (with_reducible apply Keeps.foldl; on_goal 2 => (intro x y hx; try dsimp -zeta only))
    | split
    | dsimp -zeta only)

theorem execTicketExpiry_keeps {s0 : State} (con : Fin 32) (s : State) (h : Keeps s0 s) : KeepsR s0 (execTicketExpiry con s) := by
  unfold execTicketExpiry
  repeat' (first
    | with_reducible assumption
    | (simp -zeta only [Keeps.mk_iff]; with_reducible refine KeepsParts.of ?_ rfl rfl (Nat.le_refl _) rfl rfl)
    | ((fail_if_success (conv => arg 2; congr)); extract_lets +onlyGivenNames x; first | (have hx : Keeps s0 x := ?_; (on_goal 2 => dsimp -zeta only [x]); (on_goal 1 => clear_value x)) | (have hx : Keeps s0 x.1 := ?_; (on_goal 2 => dsimp -zeta only [x]); (on_goal 1 => clear_value x)) | clear_value x)
    | with_reducible refine Keeps.ite (fun _ => ?_) (fun _ => ?_)
    | with_reducible refine KeepsR.ite (fun _ => ?_) (fun _ => ?_)
    | with_reducible apply KeepsR.next
    | with_reducible apply State.advanceTo_keeps
    | with_reducible apply State.connExpire_keeps
    | split
    | dsimp -zeta only)

theorem State.cmdOn_keeps {s0 : State} (s : State) (i : Nat) (h : Keeps s0 s) : Keeps s0 (State.cmdOn s i) := by
  unfold State.cmdOn
  repeat' (first
    | with_reducible assumption
    | (simp -zeta only [Keeps.mk_iff]; with_reducible refine KeepsParts.of ?_ rfl rfl (Nat.le_refl _) rfl rfl)
    | ((fail_if_success (conv => arg 2; congr)); extract_lets +onlyGivenNames x; first | (have hx : Keeps s0 x := ?_; (on_goal 2 => dsimp -zeta only [x]); (on_goal 1 => clear_value x)) | (have hx : Keeps s0 x.1 := ?_; (on_goal 2 => dsimp -zeta only [x]); (on_goal 1 => clear_value x)) | clear_value x)
    | with_reducible refine Keeps.ite (fun _ => ?_) (fun _ => ?_)
    | with_reducible apply State.raise_keeps
    | with_reducible apply State.turnOn_keeps
    | split
    | dsimp -zeta only)

theorem State.cmdOff_keeps {s0 : State} (s : State) (i : Nat) (h : Keeps s0 s) : Keeps s0 (State.cmdOff s i) := by
  unfold State.cmdOff
  repeat' (first
    | with_reducible assumption
    | (simp -zeta only [Keeps.mk_iff]; with_reducible refine KeepsParts.of ?_ rfl rfl (Nat.le_refl _) rfl rfl)
    | ((fail_if_success (conv => arg 2; congr)); extract_lets +onlyGivenNames x; first | (have hx : Keeps s0 x := ?_; (on_goal 2 => dsimp -zeta only [x]); (on_goal 1 => clear_value x)) | (have hx : Keeps s0 x.1 := ?_; (on_goal 2 => dsimp -zeta only [x]); (on_goal 1 => clear_value x)) | clear_value x)
    | with_reducible refine Keeps.ite (fun _ => ?_) (fun _ => ?_)
    | with_reducible apply State.raise_keeps
    | with_reducible apply State.turnOff_keeps
    | split
    | dsimp -zeta only)

theorem execCmdSet_keeps {s0 : State} (_ini : Ini) (mask : Word) (s : State) (h : Keeps s0 s) : KeepsR s0 (execCmdSet _ini mask s) := by
  unfold execCmdSet
  repeat' (first
    | with_reducible assumption
    | (simp -zeta only [Keeps.mk_iff]; with_reducible refine KeepsParts.of ?_ rfl rfl (Nat.le_refl _) rfl rfl)
    | ((fail_if_success (conv => arg 2; congr)); extract_lets +onlyGivenNames x; first | (have hx : Keeps s0 x := ?_; (on_goal 2 => dsimp -zeta only [x]); (on_goal 1 => clear_value x)) | (have hx : Keeps s0 x.1 := ?_; (on_goal 2 => dsimp -zeta only [x]); (on_goal 1 => clear_value x)) | clear_value x)
    | with_reducible refine Keeps.ite (fun _ => ?_) (fun _ => ?_)
    | with_reducible refine KeepsR.ite (fun _ => ?_) (fun _ => ?_)
    | with_reducible apply KeepsR.next
    | with_reducible apply State.cmdOn_keeps
    | (with_reducible apply Keeps.foldl; on_goal 2 => (intro x y hx; try dsimp -zeta only))
    | split
    | dsimp -zeta only)

theorem execCmdClear_keeps {s0 : State} (_ini : Ini) (mask : Word) (s : State) (h : Keeps s0 s) : KeepsR s0 (execCmdClear _ini mask s) := by
  unfold execCmdClear
  repeat' (first
    | with_reducible assumption
    | (simp -zeta only [Keeps.mk_iff]; with_reducible refine KeepsParts.of ?_ rfl rfl (Nat.le_refl _) rfl rfl)
    | ((fail_if_success (conv => arg 2; congr)); extract_lets +onlyGivenNames x; first | (have hx : Keeps s0 x := ?_; (on_goal 2 => dsimp -zeta only [x]); (on_goal 1 => clear_value x)) | (have hx : Keeps s0 x.1 := ?_; (on_goal 2 => dsimp -zeta only [x]); (on_goal 1 => clear_value x)) | clear_value x)
    | with_reducible refine Keeps.ite (fun _ => ?_) (fun _ => ?_)
    | with_reducible refine KeepsR.ite (fun _ => ?_) (fun _ => ?_)
    | with_reducible apply KeepsR.next
    | with_reducible apply State.cmdOff_keeps
    | (with_reducible apply Keeps.foldl; on_goal 2 => (intro x y hx; try dsimp -zeta only))
    | split
    | dsimp -zeta only)

theorem execRampComplete_keeps {s0 : State} (ch : Fin 16) (s : State) (h : Keeps s0 s) : KeepsR s0 (execRampComplete ch s) := by
  unfold execRampComplete
  repeat' (first
    | with_reducible assumption
    | (simp -zeta only [Keeps.mk_iff]; with_reducible refine KeepsParts.of ?_ rfl rfl (Nat.le_refl _) rfl rfl)
    | ((fail_if_success (conv => arg 2; congr)); extract_lets +onlyGivenNames x; first | (have hx : Keeps s0 x := ?_; (on_goal 2 => dsimp -zeta only [x]); (on_goal 1 => clear_value x)) | (have hx : Keeps s0 x.1 := ?_; (on_goal 2 => dsimp -zeta only [x]); (on_goal 1 => clear_value x)) | clear_value x)
    | with_reducible refine Keeps.ite (fun _ => ?_) (fun _ => ?_)
    | with_reducible refine KeepsR.ite (fun _ => ?_) (fun _ => ?_)
    | with_reducible apply KeepsR.next
    | with_reducible apply State.put_keeps
    | split
    | dsimp -zeta only)

theorem execInrushExpiry_keeps {s0 : State} (ch : Fin 16) (s : State) (h : Keeps s0 s) : KeepsR s0 (execInrushExpiry ch s) := by
  unfold execInrushExpiry
  repeat' (first
    | with_reducible assumption
    | (simp -zeta only [Keeps.mk_iff]; with_reducible refine KeepsParts.of ?_ rfl rfl (Nat.le_refl _) rfl rfl)
    | ((fail_if_success (conv => arg 2; congr)); extract_lets +onlyGivenNames x; first | (have hx : Keeps s0 x := ?_; (on_goal 2 => dsimp -zeta only [x]); (on_goal 1 => clear_value x)) | (have hx : Keeps s0 x.1 := ?_; (on_goal 2 => dsimp -zeta only [x]); (on_goal 1 => clear_value x)) | clear_value x)
    | with_reducible refine Keeps.ite (fun _ => ?_) (fun _ => ?_)
    | with_reducible refine KeepsR.ite (fun _ => ?_) (fun _ => ?_)
    | with_reducible apply KeepsR.next
    | with_reducible apply State.advanceTo_keeps
    | with_reducible apply State.raise_keeps
    | with_reducible apply State.protectOff_keeps
    | split
    | dsimp -zeta only)

theorem State.testFails_keeps {s0 : State} (s : State) (i : Nat) (h : Keeps s0 s) : Keeps s0 (State.testFails s i) := by
  unfold State.testFails
  repeat' (first
    | with_reducible assumption
    | (simp -zeta only [Keeps.mk_iff]; with_reducible refine KeepsParts.of ?_ rfl rfl (Nat.le_refl _) rfl rfl)
    | ((fail_if_success (conv => arg 2; congr)); extract_lets +onlyGivenNames x; first | (have hx : Keeps s0 x := ?_; (on_goal 2 => dsimp -zeta only [x]); (on_goal 1 => clear_value x)) | (have hx : Keeps s0 x.1 := ?_; (on_goal 2 => dsimp -zeta only [x]); (on_goal 1 => clear_value x)) | clear_value x)
    | with_reducible refine Keeps.ite (fun _ => ?_) (fun _ => ?_)
    | with_reducible apply State.put_keeps
    | with_reducible apply State.putBit_keeps
    | with_reducible apply State.raise_keeps
    | split
    | dsimp -zeta only)

theorem State.testOver_keeps {s0 : State} (s : State) (i st : Nat) (h : Keeps s0 s) : Keeps s0 (State.testOver s i st) := by
  unfold State.testOver
  repeat' (first
    | with_reducible assumption
    | (simp -zeta only [Keeps.mk_iff]; with_reducible refine KeepsParts.of ?_ rfl rfl (Nat.le_refl _) rfl rfl)
    | ((fail_if_success (conv => arg 2; congr)); extract_lets +onlyGivenNames x; first | (have hx : Keeps s0 x := ?_; (on_goal 2 => dsimp -zeta only [x]); (on_goal 1 => clear_value x)) | (have hx : Keeps s0 x.1 := ?_; (on_goal 2 => dsimp -zeta only [x]); (on_goal 1 => clear_value x)) | clear_value x)
    | with_reducible refine Keeps.ite (fun _ => ?_) (fun _ => ?_)
    | with_reducible apply State.put_keeps
    | with_reducible apply State.putBit_keeps
    | split
    | dsimp -zeta only)

theorem execChannelShort_keeps {s0 : State} (ch : Fin 16) (s : State) (h : Keeps s0 s) : KeepsR s0 (execChannelShort ch s) := by
  unfold execChannelShort
  repeat' (first
    | with_reducible assumption
    | (simp -zeta only [Keeps.mk_iff]; with_reducible refine KeepsParts.of ?_ rfl rfl (Nat.le_refl _) rfl rfl)
    | ((fail_if_success (conv => arg 2; congr)); extract_lets +onlyGivenNames x; first | (have hx : Keeps s0 x := ?_; (on_goal 2 => dsimp -zeta only [x]); (on_goal 1 => clear_value x)) | (have hx : Keeps s0 x.1 := ?_; (on_goal 2 => dsimp -zeta only [x]); (on_goal 1 => clear_value x)) | clear_value x)
    | with_reducible refine Keeps.ite (fun _ => ?_) (fun _ => ?_)
    | with_reducible refine KeepsR.ite (fun _ => ?_) (fun _ => ?_)
    | with_reducible apply KeepsR.next
    | with_reducible apply State.raise_keeps
    | with_reducible apply State.protectOff_keeps
    | with_reducible apply State.testFails_keeps
    | with_reducible apply State.testOver_keeps
    | split
    | dsimp -zeta only)

theorem execJunctionOvertemp_keeps {s0 : State} (ch : Fin 16) (s : State) (h : Keeps s0 s) : KeepsR s0 (execJunctionOvertemp ch s) := by
  unfold execJunctionOvertemp
  repeat' (first
    | with_reducible assumption
    | (simp -zeta only [Keeps.mk_iff]; with_reducible refine KeepsParts.of ?_ rfl rfl (Nat.le_refl _) rfl rfl)
    | ((fail_if_success (conv => arg 2; congr)); extract_lets +onlyGivenNames x; first | (have hx : Keeps s0 x := ?_; (on_goal 2 => dsimp -zeta only [x]); (on_goal 1 => clear_value x)) | (have hx : Keeps s0 x.1 := ?_; (on_goal 2 => dsimp -zeta only [x]); (on_goal 1 => clear_value x)) | clear_value x)
    | with_reducible refine Keeps.ite (fun _ => ?_) (fun _ => ?_)
    | with_reducible refine KeepsR.ite (fun _ => ?_) (fun _ => ?_)
    | with_reducible apply KeepsR.next
    | with_reducible apply State.putB_keeps
    | with_reducible apply State.raise_keeps
    | with_reducible apply State.testIncomplete_keeps
    | with_reducible apply State.protectOff_keeps
    | split
    | dsimp -zeta only)

theorem execClampConducted_keeps {s0 : State} (ch : Fin 16) (s : State) (h : Keeps s0 s) : KeepsR s0 (execClampConducted ch s) := by
  unfold execClampConducted
  repeat' (first
    | with_reducible assumption
    | (simp -zeta only [Keeps.mk_iff]; with_reducible refine KeepsParts.of ?_ rfl rfl (Nat.le_refl _) rfl rfl)
    | ((fail_if_success (conv => arg 2; congr)); extract_lets +onlyGivenNames x; first | (have hx : Keeps s0 x := ?_; (on_goal 2 => dsimp -zeta only [x]); (on_goal 1 => clear_value x)) | (have hx : Keeps s0 x.1 := ?_; (on_goal 2 => dsimp -zeta only [x]); (on_goal 1 => clear_value x)) | clear_value x)
    | with_reducible refine Keeps.ite (fun _ => ?_) (fun _ => ?_)
    | with_reducible refine KeepsR.ite (fun _ => ?_) (fun _ => ?_)
    | with_reducible apply KeepsR.next
    | with_reducible apply State.raise_keeps
    | split
    | dsimp -zeta only)

theorem State.openLoad_keeps {s0 : State} (s : State) (i mA : Nat) (h : Keeps s0 s) : Keeps s0 (State.openLoad s i mA) := by
  unfold State.openLoad
  repeat' (first
    | with_reducible assumption
    | (simp -zeta only [Keeps.mk_iff]; with_reducible refine KeepsParts.of ?_ rfl rfl (Nat.le_refl _) rfl rfl)
    | ((fail_if_success (conv => arg 2; congr)); extract_lets +onlyGivenNames x; first | (have hx : Keeps s0 x := ?_; (on_goal 2 => dsimp -zeta only [x]); (on_goal 1 => clear_value x)) | (have hx : Keeps s0 x.1 := ?_; (on_goal 2 => dsimp -zeta only [x]); (on_goal 1 => clear_value x)) | clear_value x)
    | with_reducible refine Keeps.ite (fun _ => ?_) (fun _ => ?_)
    | with_reducible apply State.putBit_keeps
    | with_reducible apply State.raise_keeps
    | with_reducible apply State.setChan_keeps
    | split
    | dsimp -zeta only)

theorem State.readChan_keeps {s0 : State} (s : State) (i mA : Nat) (hot counts : Bool) (h : Keeps s0 s) : Keeps s0 (State.readChan s i mA hot counts) := by
  unfold State.readChan
  repeat' (first
    | with_reducible assumption
    | (simp -zeta only [Keeps.mk_iff]; with_reducible refine KeepsParts.of ?_ rfl rfl (Nat.le_refl _) rfl rfl)
    | ((fail_if_success (conv => arg 2; congr)); extract_lets +onlyGivenNames x; first | (have hx : Keeps s0 x := ?_; (on_goal 2 => dsimp -zeta only [x]); (on_goal 1 => clear_value x)) | (have hx : Keeps s0 x.1 := ?_; (on_goal 2 => dsimp -zeta only [x]); (on_goal 1 => clear_value x)) | clear_value x)
    | with_reducible refine Keeps.ite (fun _ => ?_) (fun _ => ?_)
    | with_reducible apply State.putB_keeps
    | with_reducible apply State.putSat_keeps
    | with_reducible apply State.openLoad_keeps
    | split
    | dsimp -zeta only)

theorem execChannelCurrentReading_keeps {s0 : State} (mA : List Nat) (hot : Nat) (clusters : List Int) (s : State) (h : Keeps s0 s) : KeepsR s0 (execChannelCurrentReading mA hot clusters s) := by
  unfold execChannelCurrentReading
  repeat' (first
    | with_reducible assumption
    | (simp -zeta only [Keeps.mk_iff]; with_reducible refine KeepsParts.of ?_ rfl rfl (Nat.le_refl _) rfl rfl)
    | ((fail_if_success (conv => arg 2; congr)); extract_lets +onlyGivenNames x; first | (have hx : Keeps s0 x := ?_; (on_goal 2 => dsimp -zeta only [x]); (on_goal 1 => clear_value x)) | (have hx : Keeps s0 x.1 := ?_; (on_goal 2 => dsimp -zeta only [x]); (on_goal 1 => clear_value x)) | clear_value x)
    | with_reducible refine Keeps.ite (fun _ => ?_) (fun _ => ?_)
    | with_reducible refine KeepsR.ite (fun _ => ?_) (fun _ => ?_)
    | with_reducible apply KeepsR.next
    | with_reducible apply State.put_keeps
    | with_reducible apply State.putSatI_keeps
    | with_reducible apply State.advanceTo_keeps
    | with_reducible apply State.readChan_keeps
    | (with_reducible apply Keeps.foldl; on_goal 2 => (intro x y hx; try dsimp -zeta only))
    | split
    | dsimp -zeta only)

theorem execCrankDiagResume_keeps {s0 : State} (s : State) (h : Keeps s0 s) : KeepsR s0 (execCrankDiagResume s) := by
  unfold execCrankDiagResume
  repeat' (first
    | with_reducible assumption
    | (simp -zeta only [Keeps.mk_iff]; with_reducible refine KeepsParts.of ?_ rfl rfl (Nat.le_refl _) rfl rfl)
    | ((fail_if_success (conv => arg 2; congr)); extract_lets +onlyGivenNames x; first | (have hx : Keeps s0 x := ?_; (on_goal 2 => dsimp -zeta only [x]); (on_goal 1 => clear_value x)) | (have hx : Keeps s0 x.1 := ?_; (on_goal 2 => dsimp -zeta only [x]); (on_goal 1 => clear_value x)) | clear_value x)
    | with_reducible refine Keeps.ite (fun _ => ?_) (fun _ => ?_)
    | with_reducible refine KeepsR.ite (fun _ => ?_) (fun _ => ?_)
    | with_reducible apply KeepsR.next
    | with_reducible apply State.advanceTo_keeps
    | split
    | dsimp -zeta only)

theorem State.shedOne_keeps {s0 : State} (s : State) (c : Nat) (h : Keeps s0 s) : Keeps s0 (State.shedOne s c) := by
  unfold State.shedOne
  repeat' (first
    | with_reducible assumption
    | (simp -zeta only [Keeps.mk_iff]; with_reducible refine KeepsParts.of ?_ rfl rfl (Nat.le_refl _) rfl rfl)
    | ((fail_if_success (conv => arg 2; congr)); extract_lets +onlyGivenNames x; first | (have hx : Keeps s0 x := ?_; (on_goal 2 => dsimp -zeta only [x]); (on_goal 1 => clear_value x)) | (have hx : Keeps s0 x.1 := ?_; (on_goal 2 => dsimp -zeta only [x]); (on_goal 1 => clear_value x)) | clear_value x)
    | with_reducible refine Keeps.ite (fun _ => ?_) (fun _ => ?_)
    | with_reducible apply State.putBit_keeps
    | with_reducible apply State.raise_keeps
    | with_reducible apply State.protectOff_keeps
    | split
    | dsimp -zeta only)

theorem execClusterOvertemp_keeps {s0 : State} (c : Fin 4) (s : State) (h : Keeps s0 s) : KeepsR s0 (execClusterOvertemp c s) := by
  unfold execClusterOvertemp
  repeat' (first
    | with_reducible assumption
    | (simp -zeta only [Keeps.mk_iff]; with_reducible refine KeepsParts.of ?_ rfl rfl (Nat.le_refl _) rfl rfl)
    | ((fail_if_success (conv => arg 2; congr)); extract_lets +onlyGivenNames x; first | (have hx : Keeps s0 x := ?_; (on_goal 2 => dsimp -zeta only [x]); (on_goal 1 => clear_value x)) | (have hx : Keeps s0 x.1 := ?_; (on_goal 2 => dsimp -zeta only [x]); (on_goal 1 => clear_value x)) | clear_value x)
    | with_reducible refine Keeps.ite (fun _ => ?_) (fun _ => ?_)
    | with_reducible refine KeepsR.ite (fun _ => ?_) (fun _ => ?_)
    | with_reducible apply KeepsR.next
    | with_reducible apply State.putBit_keeps
    | with_reducible apply State.shedOne_keeps
    | split
    | dsimp -zeta only)

theorem execClusterShedStep_keeps {s0 : State} (c : Fin 4) (s : State) (hot : Bool) (h : Keeps s0 s) : KeepsR s0 (execClusterShedStep c s hot) := by
  unfold execClusterShedStep
  repeat' (first
    | with_reducible assumption
    | (simp -zeta only [Keeps.mk_iff]; with_reducible refine KeepsParts.of ?_ rfl rfl (Nat.le_refl _) rfl rfl)
    | ((fail_if_success (conv => arg 2; congr)); extract_lets +onlyGivenNames x; first | (have hx : Keeps s0 x := ?_; (on_goal 2 => dsimp -zeta only [x]); (on_goal 1 => clear_value x)) | (have hx : Keeps s0 x.1 := ?_; (on_goal 2 => dsimp -zeta only [x]); (on_goal 1 => clear_value x)) | clear_value x)
    | with_reducible refine Keeps.ite (fun _ => ?_) (fun _ => ?_)
    | with_reducible refine KeepsR.ite (fun _ => ?_) (fun _ => ?_)
    | with_reducible apply KeepsR.next
    | with_reducible apply State.advanceTo_keeps
    | with_reducible apply State.shedOne_keeps
    | split
    | dsimp -zeta only)

theorem execClusterCooled_keeps {s0 : State} (c : Fin 4) (s : State) (h : Keeps s0 s) : KeepsR s0 (execClusterCooled c s) := by
  unfold execClusterCooled
  repeat' (first
    | with_reducible assumption
    | (simp -zeta only [Keeps.mk_iff]; with_reducible refine KeepsParts.of ?_ rfl rfl (Nat.le_refl _) rfl rfl)
    | ((fail_if_success (conv => arg 2; congr)); extract_lets +onlyGivenNames x; first | (have hx : Keeps s0 x := ?_; (on_goal 2 => dsimp -zeta only [x]); (on_goal 1 => clear_value x)) | (have hx : Keeps s0 x.1 := ?_; (on_goal 2 => dsimp -zeta only [x]); (on_goal 1 => clear_value x)) | clear_value x)
    | with_reducible refine Keeps.ite (fun _ => ?_) (fun _ => ?_)
    | with_reducible refine KeepsR.ite (fun _ => ?_) (fun _ => ?_)
    | with_reducible apply KeepsR.next
    | with_reducible apply State.put_keeps
    | with_reducible apply State.putBit_keeps
    | with_reducible apply State.raise_keeps
    | split
    | dsimp -zeta only)

theorem execTestPulseStart_keeps {s0 : State} (s : State) (h : Keeps s0 s) : KeepsR s0 (execTestPulseStart s) := by
  unfold execTestPulseStart
  repeat' (first
    | with_reducible assumption
    | (simp -zeta only [Keeps.mk_iff]; with_reducible refine KeepsParts.of ?_ rfl rfl (Nat.le_refl _) rfl rfl)
    | ((fail_if_success (conv => arg 2; congr)); extract_lets +onlyGivenNames x; first | (have hx : Keeps s0 x := ?_; (on_goal 2 => dsimp -zeta only [x]); (on_goal 1 => clear_value x)) | (have hx : Keeps s0 x.1 := ?_; (on_goal 2 => dsimp -zeta only [x]); (on_goal 1 => clear_value x)) | clear_value x)
    | with_reducible refine Keeps.ite (fun _ => ?_) (fun _ => ?_)
    | with_reducible refine KeepsR.ite (fun _ => ?_) (fun _ => ?_)
    | with_reducible apply KeepsR.next
    | with_reducible apply State.put_keeps
    | with_reducible apply State.putBit_keeps
    | with_reducible apply State.advanceTo_keeps
    | split
    | dsimp -zeta only)

theorem execTestPulseEnd_keeps {s0 : State} (mA : Nat) (reached : Bool) (s : State) (h : Keeps s0 s) : KeepsR s0 (execTestPulseEnd mA reached s) := by
  unfold execTestPulseEnd
  repeat' (first
    | with_reducible assumption
    | (simp -zeta only [Keeps.mk_iff]; with_reducible refine KeepsParts.of ?_ rfl rfl (Nat.le_refl _) rfl rfl)
    | ((fail_if_success (conv => arg 2; congr)); extract_lets +onlyGivenNames x; first | (have hx : Keeps s0 x := ?_; (on_goal 2 => dsimp -zeta only [x]); (on_goal 1 => clear_value x)) | (have hx : Keeps s0 x.1 := ?_; (on_goal 2 => dsimp -zeta only [x]); (on_goal 1 => clear_value x)) | clear_value x)
    | with_reducible refine Keeps.ite (fun _ => ?_) (fun _ => ?_)
    | with_reducible refine KeepsR.ite (fun _ => ?_) (fun _ => ?_)
    | with_reducible apply KeepsR.next
    | with_reducible apply State.advanceTo_keeps
    | with_reducible apply State.testFails_keeps
    | with_reducible apply State.testOver_keeps
    | split
    | dsimp -zeta only)

theorem execLhInputChange_keeps {s0 : State} (i : Fin 4) (high : Bool) (s : State) (h : Keeps s0 s) : KeepsR s0 (execLhInputChange i high s) := by
  unfold execLhInputChange
  repeat' (first
    | with_reducible assumption
    | (simp -zeta only [Keeps.mk_iff]; with_reducible refine KeepsParts.of ?_ rfl rfl (Nat.le_refl _) rfl rfl)
    | ((fail_if_success (conv => arg 2; congr)); extract_lets +onlyGivenNames x; first | (have hx : Keeps s0 x := ?_; (on_goal 2 => dsimp -zeta only [x]); (on_goal 1 => clear_value x)) | (have hx : Keeps s0 x.1 := ?_; (on_goal 2 => dsimp -zeta only [x]); (on_goal 1 => clear_value x)) | clear_value x)
    | with_reducible refine Keeps.ite (fun _ => ?_) (fun _ => ?_)
    | with_reducible refine KeepsR.ite (fun _ => ?_) (fun _ => ?_)
    | with_reducible apply KeepsR.next
    | with_reducible apply State.putBit_keeps
    | with_reducible apply State.setChan_keeps
    | with_reducible apply State.refreshChannels_keeps
    | (with_reducible apply Keeps.foldl; on_goal 2 => (intro x y hx; try dsimp -zeta only))
    | split
    | dsimp -zeta only)

theorem execHostRequestWrite_keeps {s0 : State} (_ini : Ini) (req : Bool) (s : State) (h : Keeps s0 s) : KeepsR s0 (execHostRequestWrite _ini req s) := by
  unfold execHostRequestWrite
  repeat' (first
    | with_reducible assumption
    | (simp -zeta only [Keeps.mk_iff]; with_reducible refine KeepsParts.of ?_ rfl rfl (Nat.le_refl _) rfl rfl)
    | ((fail_if_success (conv => arg 2; congr)); extract_lets +onlyGivenNames x; first | (have hx : Keeps s0 x := ?_; (on_goal 2 => dsimp -zeta only [x]); (on_goal 1 => clear_value x)) | (have hx : Keeps s0 x.1 := ?_; (on_goal 2 => dsimp -zeta only [x]); (on_goal 1 => clear_value x)) | clear_value x)
    | with_reducible refine Keeps.ite (fun _ => ?_) (fun _ => ?_)
    | with_reducible refine KeepsR.ite (fun _ => ?_) (fun _ => ?_)
    | with_reducible apply KeepsR.next
    | with_reducible apply State.putB_keeps
    | with_reducible apply State.hostRequest_keeps
    | split
    | dsimp -zeta only)

theorem execSafetyNetRelease_keeps {s0 : State} (ini : Ini) (s : State) (h : Keeps s0 s) : KeepsR s0 (execSafetyNetRelease ini s) := by
  unfold execSafetyNetRelease
  repeat' (first
    | with_reducible assumption
    | (simp -zeta only [Keeps.mk_iff]; with_reducible refine KeepsParts.of ?_ rfl rfl (Nat.le_refl _) rfl rfl)
    | ((fail_if_success (conv => arg 2; congr)); extract_lets +onlyGivenNames x; first | (have hx : Keeps s0 x := ?_; (on_goal 2 => dsimp -zeta only [x]); (on_goal 1 => clear_value x)) | (have hx : Keeps s0 x.1 := ?_; (on_goal 2 => dsimp -zeta only [x]); (on_goal 1 => clear_value x)) | clear_value x)
    | with_reducible refine Keeps.ite (fun _ => ?_) (fun _ => ?_)
    | with_reducible refine KeepsR.ite (fun _ => ?_) (fun _ => ?_)
    | with_reducible apply KeepsR.next
    | with_reducible apply State.raise_keeps
    | with_reducible apply State.accessFault_keeps
    | with_reducible apply State.snEnd_keeps
    | split
    | dsimp -zeta only)

theorem execLhmLock_keeps {s0 : State} (_ini : Ini) (s : State) (h : Keeps s0 s) : KeepsR s0 (execLhmLock _ini s) := by
  unfold execLhmLock
  repeat' (first
    | with_reducible assumption
    | (simp -zeta only [Keeps.mk_iff]; with_reducible refine KeepsParts.of ?_ rfl rfl (Nat.le_refl _) rfl rfl)
    | ((fail_if_success (conv => arg 2; congr)); extract_lets +onlyGivenNames x; first | (have hx : Keeps s0 x := ?_; (on_goal 2 => dsimp -zeta only [x]); (on_goal 1 => clear_value x)) | (have hx : Keeps s0 x.1 := ?_; (on_goal 2 => dsimp -zeta only [x]); (on_goal 1 => clear_value x)) | clear_value x)
    | with_reducible refine Keeps.ite (fun _ => ?_) (fun _ => ?_)
    | with_reducible refine KeepsR.ite (fun _ => ?_) (fun _ => ?_)
    | with_reducible apply KeepsR.next
    | with_reducible apply State.lhmLock_keeps
    | split
    | dsimp -zeta only)

theorem State.pmpEnter_keeps {s0 : State} (s : State) (st : Nat) (h : Keeps s0 s) : Keeps s0 (State.pmpEnter s st) := by
  unfold State.pmpEnter
  repeat' (first
    | with_reducible assumption
    | (simp -zeta only [Keeps.mk_iff]; with_reducible refine KeepsParts.of ?_ rfl rfl (Nat.le_refl _) rfl rfl)
    | ((fail_if_success (conv => arg 2; congr)); extract_lets +onlyGivenNames x; first | (have hx : Keeps s0 x := ?_; (on_goal 2 => dsimp -zeta only [x]); (on_goal 1 => clear_value x)) | (have hx : Keeps s0 x.1 := ?_; (on_goal 2 => dsimp -zeta only [x]); (on_goal 1 => clear_value x)) | clear_value x)
    | with_reducible refine Keeps.ite (fun _ => ?_) (fun _ => ?_)
    | with_reducible apply State.put_keeps
    | split
    | dsimp -zeta only)

theorem State.pmpSetId_keeps {s0 : State} (s : State) (i : Rat) (h : Keeps s0 s) : Keeps s0 (State.pmpSetId s i) := by
  unfold State.pmpSetId
  repeat' (first
    | with_reducible assumption
    | (simp -zeta only [Keeps.mk_iff]; with_reducible refine KeepsParts.of ?_ rfl rfl (Nat.le_refl _) rfl rfl)
    | ((fail_if_success (conv => arg 2; congr)); extract_lets +onlyGivenNames x; first | (have hx : Keeps s0 x := ?_; (on_goal 2 => dsimp -zeta only [x]); (on_goal 1 => clear_value x)) | (have hx : Keeps s0 x.1 := ?_; (on_goal 2 => dsimp -zeta only [x]); (on_goal 1 => clear_value x)) | clear_value x)
    | with_reducible refine Keeps.ite (fun _ => ?_) (fun _ => ?_)
    | with_reducible apply State.putB_keeps
    | split
    | dsimp -zeta only)

theorem State.pmpSettle_keeps {s0 : State} (s : State) (h : Keeps s0 s) : Keeps s0 (State.pmpSettle s) := by
  unfold State.pmpSettle
  repeat' (first
    | with_reducible assumption
    | (simp -zeta only [Keeps.mk_iff]; with_reducible refine KeepsParts.of ?_ rfl rfl (Nat.le_refl _) rfl rfl)
    | ((fail_if_success (conv => arg 2; congr)); extract_lets +onlyGivenNames x; first | (have hx : Keeps s0 x := ?_; (on_goal 2 => dsimp -zeta only [x]); (on_goal 1 => clear_value x)) | (have hx : Keeps s0 x.1 := ?_; (on_goal 2 => dsimp -zeta only [x]); (on_goal 1 => clear_value x)) | clear_value x)
    | with_reducible refine Keeps.ite (fun _ => ?_) (fun _ => ?_)
    | with_reducible apply State.pmpEnter_keeps
    | split
    | dsimp -zeta only)

theorem State.pmpStart_keeps {s0 : State} (s : State) (h : Keeps s0 s) : Keeps s0 (State.pmpStart s) := by
  unfold State.pmpStart
  repeat' (first
    | with_reducible assumption
    | (simp -zeta only [Keeps.mk_iff]; with_reducible refine KeepsParts.of ?_ rfl rfl (Nat.le_refl _) rfl rfl)
    | ((fail_if_success (conv => arg 2; congr)); extract_lets +onlyGivenNames x; first | (have hx : Keeps s0 x := ?_; (on_goal 2 => dsimp -zeta only [x]); (on_goal 1 => clear_value x)) | (have hx : Keeps s0 x.1 := ?_; (on_goal 2 => dsimp -zeta only [x]); (on_goal 1 => clear_value x)) | clear_value x)
    | with_reducible refine Keeps.ite (fun _ => ?_) (fun _ => ?_)
    | with_reducible apply State.putB_keeps
    | with_reducible apply State.pmpEnter_keeps
    | with_reducible apply State.pmpSettle_keeps
    | split
    | dsimp -zeta only)

theorem State.pmpStop_keeps {s0 : State} (s : State) (h : Keeps s0 s) : Keeps s0 (State.pmpStop s) := by
  unfold State.pmpStop
  repeat' (first
    | with_reducible assumption
    | (simp -zeta only [Keeps.mk_iff]; with_reducible refine KeepsParts.of ?_ rfl rfl (Nat.le_refl _) rfl rfl)
    | ((fail_if_success (conv => arg 2; congr)); extract_lets +onlyGivenNames x; first | (have hx : Keeps s0 x := ?_; (on_goal 2 => dsimp -zeta only [x]); (on_goal 1 => clear_value x)) | (have hx : Keeps s0 x.1 := ?_; (on_goal 2 => dsimp -zeta only [x]); (on_goal 1 => clear_value x)) | clear_value x)
    | with_reducible refine Keeps.ite (fun _ => ?_) (fun _ => ?_)
    | with_reducible apply State.putB_keeps
    | with_reducible apply State.pmpSettle_keeps
    | split
    | dsimp -zeta only)

theorem State.pmpOpen_keeps {s0 : State} (s : State) (st : Nat) (h : Keeps s0 s) : Keeps s0 (State.pmpOpen s st) := by
  unfold State.pmpOpen
  repeat' (first
    | with_reducible assumption
    | (simp -zeta only [Keeps.mk_iff]; with_reducible refine KeepsParts.of ?_ rfl rfl (Nat.le_refl _) rfl rfl)
    | ((fail_if_success (conv => arg 2; congr)); extract_lets +onlyGivenNames x; first | (have hx : Keeps s0 x := ?_; (on_goal 2 => dsimp -zeta only [x]); (on_goal 1 => clear_value x)) | (have hx : Keeps s0 x.1 := ?_; (on_goal 2 => dsimp -zeta only [x]); (on_goal 1 => clear_value x)) | clear_value x)
    | with_reducible refine Keeps.ite (fun _ => ?_) (fun _ => ?_)
    | with_reducible apply State.putB_keeps
    | with_reducible apply State.pmpEnter_keeps
    | with_reducible apply State.pmpSetId_keeps
    | split
    | dsimp -zeta only)

theorem State.pmpRun_keeps {s0 : State} (s : State) (rpm : Int) (h : Keeps s0 s) : Keeps s0 (State.pmpRun s rpm) := by
  unfold State.pmpRun
  repeat' (first
    | with_reducible assumption
    | (simp -zeta only [Keeps.mk_iff]; with_reducible refine KeepsParts.of ?_ rfl rfl (Nat.le_refl _) rfl rfl)
    | ((fail_if_success (conv => arg 2; congr)); extract_lets +onlyGivenNames x; first | (have hx : Keeps s0 x := ?_; (on_goal 2 => dsimp -zeta only [x]); (on_goal 1 => clear_value x)) | (have hx : Keeps s0 x.1 := ?_; (on_goal 2 => dsimp -zeta only [x]); (on_goal 1 => clear_value x)) | clear_value x)
    | with_reducible refine Keeps.ite (fun _ => ?_) (fun _ => ?_)
    | with_reducible apply State.putB_keeps
    | with_reducible apply State.raise_keeps
    | with_reducible apply State.pmpEnter_keeps
    | with_reducible apply State.pmpSettle_keeps
    | split
    | dsimp -zeta only)

theorem State.pmpZero_keeps {s0 : State} (s : State) (toOff : Bool) (h : Keeps s0 s) : Keeps s0 (State.pmpZero s toOff) := by
  unfold State.pmpZero
  repeat' (first
    | with_reducible assumption
    | (simp -zeta only [Keeps.mk_iff]; with_reducible refine KeepsParts.of ?_ rfl rfl (Nat.le_refl _) rfl rfl)
    | ((fail_if_success (conv => arg 2; congr)); extract_lets +onlyGivenNames x; first | (have hx : Keeps s0 x := ?_; (on_goal 2 => dsimp -zeta only [x]); (on_goal 1 => clear_value x)) | (have hx : Keeps s0 x.1 := ?_; (on_goal 2 => dsimp -zeta only [x]); (on_goal 1 => clear_value x)) | clear_value x)
    | with_reducible refine Keeps.ite (fun _ => ?_) (fun _ => ?_)
    | with_reducible apply State.pmpEnter_keeps
    | split
    | dsimp -zeta only)

theorem State.pmpFail_keeps {s0 : State} (s : State) (e : Event) (h : Keeps s0 s) : Keeps s0 (State.pmpFail s e) := by
  unfold State.pmpFail
  repeat' (first
    | with_reducible assumption
    | (simp -zeta only [Keeps.mk_iff]; with_reducible refine KeepsParts.of ?_ rfl rfl (Nat.le_refl _) rfl rfl)
    | ((fail_if_success (conv => arg 2; congr)); extract_lets +onlyGivenNames x; first | (have hx : Keeps s0 x := ?_; (on_goal 2 => dsimp -zeta only [x]); (on_goal 1 => clear_value x)) | (have hx : Keeps s0 x.1 := ?_; (on_goal 2 => dsimp -zeta only [x]); (on_goal 1 => clear_value x)) | clear_value x)
    | with_reducible refine Keeps.ite (fun _ => ?_) (fun _ => ?_)
    | with_reducible apply State.incSat_keeps
    | with_reducible apply State.raise_keeps
    | with_reducible apply State.pmpOpen_keeps
    | split
    | dsimp -zeta only)

theorem State.pmpRotorLost_keeps {s0 : State} (s : State) (h : Keeps s0 s) : Keeps s0 (State.pmpRotorLost s) := by
  unfold State.pmpRotorLost
  repeat' (first
    | with_reducible assumption
    | (simp -zeta only [Keeps.mk_iff]; with_reducible refine KeepsParts.of ?_ rfl rfl (Nat.le_refl _) rfl rfl)
    | ((fail_if_success (conv => arg 2; congr)); extract_lets +onlyGivenNames x; first | (have hx : Keeps s0 x := ?_; (on_goal 2 => dsimp -zeta only [x]); (on_goal 1 => clear_value x)) | (have hx : Keeps s0 x.1 := ?_; (on_goal 2 => dsimp -zeta only [x]); (on_goal 1 => clear_value x)) | clear_value x)
    | with_reducible refine Keeps.ite (fun _ => ?_) (fun _ => ?_)
    | with_reducible apply State.incSat_keeps
    | with_reducible apply State.raise_keeps
    | with_reducible apply State.pmpOpen_keeps
    | with_reducible apply State.pmpZero_keeps
    | split
    | dsimp -zeta only)

theorem State.pmpStopped_keeps {s0 : State} (s : State) (h : Keeps s0 s) : Keeps s0 (State.pmpStopped s) := by
  unfold State.pmpStopped
  repeat' (first
    | with_reducible assumption
    | (simp -zeta only [Keeps.mk_iff]; with_reducible refine KeepsParts.of ?_ rfl rfl (Nat.le_refl _) rfl rfl)
    | ((fail_if_success (conv => arg 2; congr)); extract_lets +onlyGivenNames x; first | (have hx : Keeps s0 x := ?_; (on_goal 2 => dsimp -zeta only [x]); (on_goal 1 => clear_value x)) | (have hx : Keeps s0 x.1 := ?_; (on_goal 2 => dsimp -zeta only [x]); (on_goal 1 => clear_value x)) | clear_value x)
    | with_reducible refine Keeps.ite (fun _ => ?_) (fun _ => ?_)
    | with_reducible apply State.raise_keeps
    | with_reducible apply State.pmpOpen_keeps
    | split
    | dsimp -zeta only)

theorem State.pmpWeaken_keeps {s0 : State} (s : State) (v vbatMV : Rat) (h : Keeps s0 s) : Keeps s0 (State.pmpWeaken s v vbatMV) := by
  unfold State.pmpWeaken
  repeat' (first
    | with_reducible assumption
    | (simp -zeta only [Keeps.mk_iff]; with_reducible refine KeepsParts.of ?_ rfl rfl (Nat.le_refl _) rfl rfl)
    | ((fail_if_success (conv => arg 2; congr)); extract_lets +onlyGivenNames x; first | (have hx : Keeps s0 x := ?_; (on_goal 2 => dsimp -zeta only [x]); (on_goal 1 => clear_value x)) | (have hx : Keeps s0 x.1 := ?_; (on_goal 2 => dsimp -zeta only [x]); (on_goal 1 => clear_value x)) | clear_value x)
    | with_reducible refine Keeps.ite (fun _ => ?_) (fun _ => ?_)
    | with_reducible apply State.pmpSetId_keeps
    | split
    | dsimp -zeta only)

theorem State.pmpCurrents_keeps {s0 : State} (s : State) (idq : Int × Int) (h : Keeps s0 s) : Keeps s0 (State.pmpCurrents s idq) := by
  unfold State.pmpCurrents
  repeat' (first
    | with_reducible assumption
    | (simp -zeta only [Keeps.mk_iff]; with_reducible refine KeepsParts.of ?_ rfl rfl (Nat.le_refl _) rfl rfl)
    | ((fail_if_success (conv => arg 2; congr)); extract_lets +onlyGivenNames x; first | (have hx : Keeps s0 x := ?_; (on_goal 2 => dsimp -zeta only [x]); (on_goal 1 => clear_value x)) | (have hx : Keeps s0 x.1 := ?_; (on_goal 2 => dsimp -zeta only [x]); (on_goal 1 => clear_value x)) | clear_value x)
    | with_reducible refine Keeps.ite (fun _ => ?_) (fun _ => ?_)
    | with_reducible apply State.putSatI_keeps
    | with_reducible apply State.incSat_keeps
    | split
    | dsimp -zeta only)

theorem State.pmpSpeedLoop_keeps {s0 : State} (s : State) (h : Keeps s0 s) : Keeps s0 (State.pmpSpeedLoop s) := by
  unfold State.pmpSpeedLoop
  repeat' (first
    | with_reducible assumption
    | (simp -zeta only [Keeps.mk_iff]; with_reducible refine KeepsParts.of ?_ rfl rfl (Nat.le_refl _) rfl rfl)
    | ((fail_if_success (conv => arg 2; congr)); extract_lets +onlyGivenNames x; first | (have hx : Keeps s0 x := ?_; (on_goal 2 => dsimp -zeta only [x]); (on_goal 1 => clear_value x)) | (have hx : Keeps s0 x.1 := ?_; (on_goal 2 => dsimp -zeta only [x]); (on_goal 1 => clear_value x)) | clear_value x)
    | with_reducible refine Keeps.ite (fun _ => ?_) (fun _ => ?_)
    | with_reducible apply State.nextFree_keeps
    | split
    | dsimp -zeta only)

theorem State.pmpLoop_keeps {s0 : State} (s : State) (vbatMV : Nat) (idq : Int × Int) (h : Keeps s0 s) : Keeps s0 (State.pmpLoop s vbatMV idq) := by
  unfold State.pmpLoop
  repeat' (first
    | with_reducible assumption
    | (simp -zeta only [Keeps.mk_iff]; with_reducible refine KeepsParts.of ?_ rfl rfl (Nat.le_refl _) rfl rfl)
    | ((fail_if_success (conv => arg 2; congr)); extract_lets +onlyGivenNames x; first | (have hx : Keeps s0 x := ?_; (on_goal 2 => dsimp -zeta only [x]); (on_goal 1 => clear_value x)) | (have hx : Keeps s0 x.1 := ?_; (on_goal 2 => dsimp -zeta only [x]); (on_goal 1 => clear_value x)) | clear_value x)
    | with_reducible refine Keeps.ite (fun _ => ?_) (fun _ => ?_)
    | with_reducible apply State.nextFree_keeps
    | with_reducible apply State.pmpWeaken_keeps
    | with_reducible apply State.pmpCurrents_keeps
    | with_reducible apply State.pmpSpeedLoop_keeps
    | split
    | dsimp -zeta only)

theorem State.pmpAdvance_keeps {s0 : State} (s : State) (rpm : Int) (angleErr : Nat) (emfBad locked : Bool) (h : Keeps s0 s) : Keeps s0 (State.pmpAdvance s rpm angleErr emfBad locked) := by
  unfold State.pmpAdvance
  repeat' (first
    | with_reducible assumption
    | (simp -zeta only [Keeps.mk_iff]; with_reducible refine KeepsParts.of ?_ rfl rfl (Nat.le_refl _) rfl rfl)
    | ((fail_if_success (conv => arg 2; congr)); extract_lets +onlyGivenNames x; first | (have hx : Keeps s0 x := ?_; (on_goal 2 => dsimp -zeta only [x]); (on_goal 1 => clear_value x)) | (have hx : Keeps s0 x.1 := ?_; (on_goal 2 => dsimp -zeta only [x]); (on_goal 1 => clear_value x)) | clear_value x)
    | with_reducible refine Keeps.ite (fun _ => ?_) (fun _ => ?_)
    | with_reducible apply State.pmpEnter_keeps
    | with_reducible apply State.pmpSettle_keeps
    | with_reducible apply State.pmpRun_keeps
    | with_reducible apply State.pmpZero_keeps
    | with_reducible apply State.pmpFail_keeps
    | with_reducible apply State.pmpRotorLost_keeps
    | with_reducible apply State.pmpStopped_keeps
    | split
    | dsimp -zeta only)

theorem execPumpStart_keeps {s0 : State} (ini : Ini) (s : State) (h : Keeps s0 s) : KeepsR s0 (execPumpStart ini s) := by
  unfold execPumpStart
  repeat' (first
    | with_reducible assumption
    | (simp -zeta only [Keeps.mk_iff]; with_reducible refine KeepsParts.of ?_ rfl rfl (Nat.le_refl _) rfl rfl)
    | ((fail_if_success (conv => arg 2; congr)); extract_lets +onlyGivenNames x; first | (have hx : Keeps s0 x := ?_; (on_goal 2 => dsimp -zeta only [x]); (on_goal 1 => clear_value x)) | (have hx : Keeps s0 x.1 := ?_; (on_goal 2 => dsimp -zeta only [x]); (on_goal 1 => clear_value x)) | clear_value x)
    | with_reducible refine Keeps.ite (fun _ => ?_) (fun _ => ?_)
    | with_reducible refine KeepsR.ite (fun _ => ?_) (fun _ => ?_)
    | with_reducible apply KeepsR.next
    | (with_reducible apply State.onPage_keeps; on_goal 2 => (intro x hx; try dsimp -zeta only))
    | with_reducible apply State.pmpStart_keeps
    | split
    | dsimp -zeta only)

theorem execPumpStop_keeps {s0 : State} (ini : Ini) (s : State) (h : Keeps s0 s) : KeepsR s0 (execPumpStop ini s) := by
  unfold execPumpStop
  repeat' (first
    | with_reducible assumption
    | (simp -zeta only [Keeps.mk_iff]; with_reducible refine KeepsParts.of ?_ rfl rfl (Nat.le_refl _) rfl rfl)
    | ((fail_if_success (conv => arg 2; congr)); extract_lets +onlyGivenNames x; first | (have hx : Keeps s0 x := ?_; (on_goal 2 => dsimp -zeta only [x]); (on_goal 1 => clear_value x)) | (have hx : Keeps s0 x.1 := ?_; (on_goal 2 => dsimp -zeta only [x]); (on_goal 1 => clear_value x)) | clear_value x)
    | with_reducible refine Keeps.ite (fun _ => ?_) (fun _ => ?_)
    | with_reducible refine KeepsR.ite (fun _ => ?_) (fun _ => ?_)
    | with_reducible apply KeepsR.next
    | (with_reducible apply State.onPage_keeps; on_goal 2 => (intro x hx; try dsimp -zeta only))
    | with_reducible apply State.pmpStop_keeps
    | split
    | dsimp -zeta only)

theorem execPumpSetpointWrite_keeps {s0 : State} (ini : Ini) (demand : Nat) (s : State) (h : Keeps s0 s) : KeepsR s0 (execPumpSetpointWrite ini demand s) := by
  unfold execPumpSetpointWrite
  repeat' (first
    | with_reducible assumption
    | (simp -zeta only [Keeps.mk_iff]; with_reducible refine KeepsParts.of ?_ rfl rfl (Nat.le_refl _) rfl rfl)
    | ((fail_if_success (conv => arg 2; congr)); extract_lets +onlyGivenNames x; first | (have hx : Keeps s0 x := ?_; (on_goal 2 => dsimp -zeta only [x]); (on_goal 1 => clear_value x)) | (have hx : Keeps s0 x.1 := ?_; (on_goal 2 => dsimp -zeta only [x]); (on_goal 1 => clear_value x)) | clear_value x)
    | with_reducible refine Keeps.ite (fun _ => ?_) (fun _ => ?_)
    | with_reducible refine KeepsR.ite (fun _ => ?_) (fun _ => ?_)
    | with_reducible apply KeepsR.next
    | with_reducible apply State.put_keeps
    | (with_reducible apply State.onPage_keeps; on_goal 2 => (intro x hx; try dsimp -zeta only))
    | with_reducible apply State.pmpSettle_keeps
    | split
    | dsimp -zeta only)

theorem execPumpCurrentLoop_keeps {s0 : State} (vbatMV : Nat) (rpm : Int) (angleErrDeg emfUV : Nat) (locked : Bool) (idq : Int × Int) (s : State) (h : Keeps s0 s) : KeepsR s0 (execPumpCurrentLoop vbatMV rpm angleErrDeg emfUV locked idq s) := by
  unfold execPumpCurrentLoop
  repeat' (first
    | with_reducible assumption
    | (simp -zeta only [Keeps.mk_iff]; with_reducible refine KeepsParts.of ?_ rfl rfl (Nat.le_refl _) rfl rfl)
    | ((fail_if_success (conv => arg 2; congr)); extract_lets +onlyGivenNames x; first | (have hx : Keeps s0 x := ?_; (on_goal 2 => dsimp -zeta only [x]); (on_goal 1 => clear_value x)) | (have hx : Keeps s0 x.1 := ?_; (on_goal 2 => dsimp -zeta only [x]); (on_goal 1 => clear_value x)) | clear_value x)
    | with_reducible refine Keeps.ite (fun _ => ?_) (fun _ => ?_)
    | with_reducible refine KeepsR.ite (fun _ => ?_) (fun _ => ?_)
    | with_reducible apply KeepsR.next
    | with_reducible apply State.putB_keeps
    | with_reducible apply State.putSat_keeps
    | with_reducible apply State.putSatI_keeps
    | with_reducible apply State.advanceTo_keeps
    | with_reducible apply State.pmpLoop_keeps
    | with_reducible apply State.pmpAdvance_keeps
    | split
    | dsimp -zeta only)

theorem execPumpShuntOvercurrent_keeps {s0 : State} (s : State) (shuntUV : Nat) (h : Keeps s0 s) : KeepsR s0 (execPumpShuntOvercurrent s shuntUV) := by
  unfold execPumpShuntOvercurrent
  repeat' (first
    | with_reducible assumption
    | (simp -zeta only [Keeps.mk_iff]; with_reducible refine KeepsParts.of ?_ rfl rfl (Nat.le_refl _) rfl rfl)
    | ((fail_if_success (conv => arg 2; congr)); extract_lets +onlyGivenNames x; first | (have hx : Keeps s0 x := ?_; (on_goal 2 => dsimp -zeta only [x]); (on_goal 1 => clear_value x)) | (have hx : Keeps s0 x.1 := ?_; (on_goal 2 => dsimp -zeta only [x]); (on_goal 1 => clear_value x)) | clear_value x)
    | with_reducible refine Keeps.ite (fun _ => ?_) (fun _ => ?_)
    | with_reducible refine KeepsR.ite (fun _ => ?_) (fun _ => ?_)
    | with_reducible apply KeepsR.next
    | with_reducible apply State.raise_keeps
    | with_reducible apply State.pmpRotorLost_keeps
    | split
    | dsimp -zeta only)

theorem execPwmPeriodStart_keeps {s0 : State} (s : State) (h : Keeps s0 s) : KeepsR s0 (execPwmPeriodStart s) := by
  unfold execPwmPeriodStart
  repeat' (first
    | with_reducible assumption
    | (simp -zeta only [Keeps.mk_iff]; with_reducible refine KeepsParts.of ?_ rfl rfl (Nat.le_refl _) rfl rfl)
    | ((fail_if_success (conv => arg 2; congr)); extract_lets +onlyGivenNames x; first | (have hx : Keeps s0 x := ?_; (on_goal 2 => dsimp -zeta only [x]); (on_goal 1 => clear_value x)) | (have hx : Keeps s0 x.1 := ?_; (on_goal 2 => dsimp -zeta only [x]); (on_goal 1 => clear_value x)) | clear_value x)
    | with_reducible refine Keeps.ite (fun _ => ?_) (fun _ => ?_)
    | with_reducible refine KeepsR.ite (fun _ => ?_) (fun _ => ?_)
    | with_reducible apply KeepsR.next
    | split
    | dsimp -zeta only)

theorem execVdsLimitReached_keeps {s0 : State} (s : State) (phMV : Int) (h : Keeps s0 s) : KeepsR s0 (execVdsLimitReached s phMV) := by
  unfold execVdsLimitReached
  repeat' (first
    | with_reducible assumption
    | (simp -zeta only [Keeps.mk_iff]; with_reducible refine KeepsParts.of ?_ rfl rfl (Nat.le_refl _) rfl rfl)
    | ((fail_if_success (conv => arg 2; congr)); extract_lets +onlyGivenNames x; first | (have hx : Keeps s0 x := ?_; (on_goal 2 => dsimp -zeta only [x]); (on_goal 1 => clear_value x)) | (have hx : Keeps s0 x.1 := ?_; (on_goal 2 => dsimp -zeta only [x]); (on_goal 1 => clear_value x)) | clear_value x)
    | with_reducible refine Keeps.ite (fun _ => ?_) (fun _ => ?_)
    | with_reducible refine KeepsR.ite (fun _ => ?_) (fun _ => ?_)
    | with_reducible apply KeepsR.next
    | split
    | dsimp -zeta only)

theorem execListenEnd_keeps {s0 : State} (rpm : Int) (s : State) (h : Keeps s0 s) : KeepsR s0 (execListenEnd rpm s) := by
  unfold execListenEnd
  repeat' (first
    | with_reducible assumption
    | (simp -zeta only [Keeps.mk_iff]; with_reducible refine KeepsParts.of ?_ rfl rfl (Nat.le_refl _) rfl rfl)
    | ((fail_if_success (conv => arg 2; congr)); extract_lets +onlyGivenNames x; first | (have hx : Keeps s0 x := ?_; (on_goal 2 => dsimp -zeta only [x]); (on_goal 1 => clear_value x)) | (have hx : Keeps s0 x.1 := ?_; (on_goal 2 => dsimp -zeta only [x]); (on_goal 1 => clear_value x)) | clear_value x)
    | with_reducible refine Keeps.ite (fun _ => ?_) (fun _ => ?_)
    | with_reducible refine KeepsR.ite (fun _ => ?_) (fun _ => ?_)
    | with_reducible apply KeepsR.next
    | with_reducible apply State.putSatI_keeps
    | with_reducible apply State.advanceTo_keeps
    | with_reducible apply State.pmpEnter_keeps
    | with_reducible apply State.pmpRun_keeps
    | with_reducible apply State.pmpZero_keeps
    | with_reducible apply State.pmpFail_keeps
    | split
    | dsimp -zeta only)

theorem execPhaseNodeOvervoltage_keeps {s0 : State} (s : State) (phMV : Nat) (vbatMV : Nat) (h : Keeps s0 s) : KeepsR s0 (execPhaseNodeOvervoltage s phMV vbatMV) := by
  unfold execPhaseNodeOvervoltage
  repeat' (first
    | with_reducible assumption
    | (simp -zeta only [Keeps.mk_iff]; with_reducible refine KeepsParts.of ?_ rfl rfl (Nat.le_refl _) rfl rfl)
    | ((fail_if_success (conv => arg 2; congr)); extract_lets +onlyGivenNames x; first | (have hx : Keeps s0 x := ?_; (on_goal 2 => dsimp -zeta only [x]); (on_goal 1 => clear_value x)) | (have hx : Keeps s0 x.1 := ?_; (on_goal 2 => dsimp -zeta only [x]); (on_goal 1 => clear_value x)) | clear_value x)
    | with_reducible refine Keeps.ite (fun _ => ?_) (fun _ => ?_)
    | with_reducible refine KeepsR.ite (fun _ => ?_) (fun _ => ?_)
    | with_reducible apply KeepsR.next
    | with_reducible apply State.pmpZero_keeps
    | split
    | dsimp -zeta only)

theorem execBrakeTimeout_keeps {s0 : State} (rpm : Int) (s : State) (h : Keeps s0 s) : KeepsR s0 (execBrakeTimeout rpm s) := by
  unfold execBrakeTimeout
  repeat' (first
    | with_reducible assumption
    | (simp -zeta only [Keeps.mk_iff]; with_reducible refine KeepsParts.of ?_ rfl rfl (Nat.le_refl _) rfl rfl)
    | ((fail_if_success (conv => arg 2; congr)); extract_lets +onlyGivenNames x; first | (have hx : Keeps s0 x := ?_; (on_goal 2 => dsimp -zeta only [x]); (on_goal 1 => clear_value x)) | (have hx : Keeps s0 x.1 := ?_; (on_goal 2 => dsimp -zeta only [x]); (on_goal 1 => clear_value x)) | clear_value x)
    | with_reducible refine Keeps.ite (fun _ => ?_) (fun _ => ?_)
    | with_reducible refine KeepsR.ite (fun _ => ?_) (fun _ => ?_)
    | with_reducible apply KeepsR.next
    | with_reducible apply State.advanceTo_keeps
    | with_reducible apply State.pmpEnter_keeps
    | with_reducible apply State.pmpFail_keeps
    | split
    | dsimp -zeta only)

theorem execAlignEnd_keeps {s0 : State} (s : State) (h : Keeps s0 s) : KeepsR s0 (execAlignEnd s) := by
  unfold execAlignEnd
  repeat' (first
    | with_reducible assumption
    | (simp -zeta only [Keeps.mk_iff]; with_reducible refine KeepsParts.of ?_ rfl rfl (Nat.le_refl _) rfl rfl)
    | ((fail_if_success (conv => arg 2; congr)); extract_lets +onlyGivenNames x; first | (have hx : Keeps s0 x := ?_; (on_goal 2 => dsimp -zeta only [x]); (on_goal 1 => clear_value x)) | (have hx : Keeps s0 x.1 := ?_; (on_goal 2 => dsimp -zeta only [x]); (on_goal 1 => clear_value x)) | clear_value x)
    | with_reducible refine Keeps.ite (fun _ => ?_) (fun _ => ?_)
    | with_reducible refine KeepsR.ite (fun _ => ?_) (fun _ => ?_)
    | with_reducible apply KeepsR.next
    | with_reducible apply State.advanceTo_keeps
    | with_reducible apply State.pmpEnter_keeps
    | split
    | dsimp -zeta only)

theorem execZeroVectorEnd_keeps {s0 : State} (s : State) (h : Keeps s0 s) : KeepsR s0 (execZeroVectorEnd s) := by
  unfold execZeroVectorEnd
  repeat' (first
    | with_reducible assumption
    | (simp -zeta only [Keeps.mk_iff]; with_reducible refine KeepsParts.of ?_ rfl rfl (Nat.le_refl _) rfl rfl)
    | ((fail_if_success (conv => arg 2; congr)); extract_lets +onlyGivenNames x; first | (have hx : Keeps s0 x := ?_; (on_goal 2 => dsimp -zeta only [x]); (on_goal 1 => clear_value x)) | (have hx : Keeps s0 x.1 := ?_; (on_goal 2 => dsimp -zeta only [x]); (on_goal 1 => clear_value x)) | clear_value x)
    | with_reducible refine Keeps.ite (fun _ => ?_) (fun _ => ?_)
    | with_reducible refine KeepsR.ite (fun _ => ?_) (fun _ => ?_)
    | with_reducible apply KeepsR.next
    | with_reducible apply State.advanceTo_keeps
    | with_reducible apply State.pmpOpen_keeps
    | with_reducible apply State.pmpStopped_keeps
    | split
    | dsimp -zeta only)

theorem execRetryDelayEnd_keeps {s0 : State} (s : State) (h : Keeps s0 s) : KeepsR s0 (execRetryDelayEnd s) := by
  unfold execRetryDelayEnd
  repeat' (first
    | with_reducible assumption
    | (simp -zeta only [Keeps.mk_iff]; with_reducible refine KeepsParts.of ?_ rfl rfl (Nat.le_refl _) rfl rfl)
    | ((fail_if_success (conv => arg 2; congr)); extract_lets +onlyGivenNames x; first | (have hx : Keeps s0 x := ?_; (on_goal 2 => dsimp -zeta only [x]); (on_goal 1 => clear_value x)) | (have hx : Keeps s0 x.1 := ?_; (on_goal 2 => dsimp -zeta only [x]); (on_goal 1 => clear_value x)) | clear_value x)
    | with_reducible refine Keeps.ite (fun _ => ?_) (fun _ => ?_)
    | with_reducible refine KeepsR.ite (fun _ => ?_) (fun _ => ?_)
    | with_reducible apply KeepsR.next
    | with_reducible apply State.advanceTo_keeps
    | with_reducible apply State.raise_keeps
    | with_reducible apply State.pmpEnter_keeps
    | split
    | dsimp -zeta only)

theorem execRunAttemptReset_keeps {s0 : State} (s : State) (h : Keeps s0 s) : KeepsR s0 (execRunAttemptReset s) := by
  unfold execRunAttemptReset
  repeat' (first
    | with_reducible assumption
    | (simp -zeta only [Keeps.mk_iff]; with_reducible refine KeepsParts.of ?_ rfl rfl (Nat.le_refl _) rfl rfl)
    | ((fail_if_success (conv => arg 2; congr)); extract_lets +onlyGivenNames x; first | (have hx : Keeps s0 x := ?_; (on_goal 2 => dsimp -zeta only [x]); (on_goal 1 => clear_value x)) | (have hx : Keeps s0 x.1 := ?_; (on_goal 2 => dsimp -zeta only [x]); (on_goal 1 => clear_value x)) | clear_value x)
    | with_reducible refine Keeps.ite (fun _ => ?_) (fun _ => ?_)
    | with_reducible refine KeepsR.ite (fun _ => ?_) (fun _ => ?_)
    | with_reducible apply KeepsR.next
    | with_reducible apply State.put_keeps
    | with_reducible apply State.advanceTo_keeps
    | split
    | dsimp -zeta only)

theorem execGateSupplyFault_keeps {s0 : State} (vgdMV : Nat) (s : State) (bootMV : Nat) (h : Keeps s0 s) : KeepsR s0 (execGateSupplyFault vgdMV s bootMV) := by
  unfold execGateSupplyFault
  refine KeepsR.ite (fun _ => KeepsR.next h) (fun _ => ?_)
  extract_lets s1 x s2
  have h1 : Keeps s0 s1 := State.raiseIf_keeps _ _ _ h
  have h2 : Keeps s0 s2 := h1.upd rfl rfl (Nat.le_refl _) rfl rfl
  refine KeepsR.ite (fun _ => KeepsR.next h2) (fun _ => KeepsR.ite (fun _ => ?_) (fun _ => ?_))
  · with_reducible apply KeepsR.next
    with_reducible apply State.pmpZero_keeps
    exact h2
  · with_reducible apply KeepsR.next
    with_reducible apply State.pmpOpen_keeps
    exact h2

theorem execGateSupplyReturn_keeps {s0 : State} (s : State) (vgdMV : Nat) (bootMV : Nat) (h : Keeps s0 s) : KeepsR s0 (execGateSupplyReturn s vgdMV bootMV) := by
  unfold execGateSupplyReturn
  repeat' (first
    | with_reducible assumption
    | (simp -zeta only [Keeps.mk_iff]; with_reducible refine KeepsParts.of ?_ rfl rfl (Nat.le_refl _) rfl rfl)
    | ((fail_if_success (conv => arg 2; congr)); extract_lets +onlyGivenNames x; first | (have hx : Keeps s0 x := ?_; (on_goal 2 => dsimp -zeta only [x]); (on_goal 1 => clear_value x)) | (have hx : Keeps s0 x.1 := ?_; (on_goal 2 => dsimp -zeta only [x]); (on_goal 1 => clear_value x)) | clear_value x)
    | with_reducible refine Keeps.ite (fun _ => ?_) (fun _ => ?_)
    | with_reducible refine KeepsR.ite (fun _ => ?_) (fun _ => ?_)
    | with_reducible apply KeepsR.next
    | split
    | dsimp -zeta only)

theorem execGateSupplyRecovery_keeps {s0 : State} (s : State) (h : Keeps s0 s) : KeepsR s0 (execGateSupplyRecovery s) := by
  unfold execGateSupplyRecovery
  split
  · exact KeepsR.next h
  · extract_lets s1 x s2
    have h1 : Keeps s0 s1 := State.advanceTo_keeps h _
    have h2 : Keeps s0 s2 := h1.upd rfl rfl (Nat.le_refl _) rfl rfl
    refine KeepsR.ite (fun _ => ?_) (fun _ => ?_)
    · with_reducible apply KeepsR.next
      with_reducible apply State.pmpSettle_keeps
      exact h2
    · with_reducible apply KeepsR.next
      with_reducible apply State.pmpOpen_keeps
      exact h2

end Sys2Proof.Machine
end

