-- ==== Sys2Proof/Laws/KeepsCores.lean ====
section
/-!
SUPPORT. What the operations and commands of Engine, Cores, Timetable, CurrentHv, CellMeas, Nvm, Cascade keep: canonical stores, time, build and queue.
Each lemma peels its operation apart and cites the lemmas of the operations it calls.
-/
namespace Sys2Proof.Machine

theorem State.putLoad_keeps {s0 : State} (s : State) (buf st reason : Nat) (h : Keeps s0 s) : Keeps s0 (State.putLoad s buf st reason) := by
  unfold State.putLoad
  repeat' (first
    | with_reducible assumption
    | (simp -zeta only [Keeps.mk_iff]; with_reducible refine KeepsParts.of ?_ rfl rfl (Nat.le_refl _) rfl rfl)
    | ((fail_if_success (conv => arg 2; congr)); extract_lets +onlyGivenNames x; first | (have hx : Keeps s0 x := ?_; (on_goal 2 => dsimp -zeta only [x]); (on_goal 1 => clear_value x)) | (have hx : Keeps s0 x.1 := ?_; (on_goal 2 => dsimp -zeta only [x]); (on_goal 1 => clear_value x)) | clear_value x)
    | with_reducible refine Keeps.ite (fun _ => ?_) (fun _ => ?_)
    | with_reducible apply State.put_keeps
    | split
    | dsimp -zeta only)

theorem State.selectSched_keeps {s0 : State} (s : State) (h : Keeps s0 s) : Keeps s0 (State.selectSched s) := by
  unfold State.selectSched
  repeat' (first
    | with_reducible assumption
    | (simp -zeta only [Keeps.mk_iff]; with_reducible refine KeepsParts.of ?_ rfl rfl (Nat.le_refl _) rfl rfl)
    | ((fail_if_success (conv => arg 2; congr)); extract_lets +onlyGivenNames x; first | (have hx : Keeps s0 x := ?_; (on_goal 2 => dsimp -zeta only [x]); (on_goal 1 => clear_value x)) | (have hx : Keeps s0 x.1 := ?_; (on_goal 2 => dsimp -zeta only [x]); (on_goal 1 => clear_value x)) | clear_value x)
    | with_reducible refine Keeps.ite (fun _ => ?_) (fun _ => ?_)
    | split
    | dsimp -zeta only)

theorem State.setCore_keeps {s0 : State} (s : State) (p : Pair) (c : Core) (h : Keeps s0 s) : Keeps s0 (State.setCore s p c) := by
  unfold State.setCore
  repeat' (first
    | with_reducible assumption
    | (simp -zeta only [Keeps.mk_iff]; with_reducible refine KeepsParts.of ?_ rfl rfl (Nat.le_refl _) rfl rfl)
    | ((fail_if_success (conv => arg 2; congr)); extract_lets +onlyGivenNames x; first | (have hx : Keeps s0 x := ?_; (on_goal 2 => dsimp -zeta only [x]); (on_goal 1 => clear_value x)) | (have hx : Keeps s0 x.1 := ?_; (on_goal 2 => dsimp -zeta only [x]); (on_goal 1 => clear_value x)) | clear_value x)
    | with_reducible refine Keeps.ite (fun _ => ?_) (fun _ => ?_)
    | split
    | dsimp -zeta only)

theorem State.skipEntry_keeps {s0 : State} (s : State) (h : Keeps s0 s) : Keeps s0 (State.skipEntry s) := by
  unfold State.skipEntry
  repeat' (first
    | with_reducible assumption
    | (simp -zeta only [Keeps.mk_iff]; with_reducible refine KeepsParts.of ?_ rfl rfl (Nat.le_refl _) rfl rfl)
    | ((fail_if_success (conv => arg 2; congr)); extract_lets +onlyGivenNames x; first | (have hx : Keeps s0 x := ?_; (on_goal 2 => dsimp -zeta only [x]); (on_goal 1 => clear_value x)) | (have hx : Keeps s0 x.1 := ?_; (on_goal 2 => dsimp -zeta only [x]); (on_goal 1 => clear_value x)) | clear_value x)
    | with_reducible refine Keeps.ite (fun _ => ?_) (fun _ => ?_)
    | with_reducible apply State.incSat_keeps
    | with_reducible apply State.raise_keeps
    | split
    | dsimp -zeta only)

theorem State.dropTasks_keeps {s0 : State} (s : State) (p : Pair) (h : Keeps s0 s) : Keeps s0 (State.dropTasks s p) := by
  unfold State.dropTasks
  repeat' (first
    | with_reducible assumption
    | (simp -zeta only [Keeps.mk_iff]; with_reducible refine KeepsParts.of ?_ rfl rfl (Nat.le_refl _) rfl rfl)
    | ((fail_if_success (conv => arg 2; congr)); extract_lets +onlyGivenNames x; first | (have hx : Keeps s0 x := ?_; (on_goal 2 => dsimp -zeta only [x]); (on_goal 1 => clear_value x)) | (have hx : Keeps s0 x.1 := ?_; (on_goal 2 => dsimp -zeta only [x]); (on_goal 1 => clear_value x)) | clear_value x)
    | with_reducible refine Keeps.ite (fun _ => ?_) (fun _ => ?_)
    | with_reducible apply State.setCore_keeps
    | with_reducible apply State.skipEntry_keeps
    | (with_reducible apply Keeps.foldl; on_goal 2 => (intro x y hx; try dsimp -zeta only))
    | split
    | dsimp -zeta only)

theorem State.putBank_keeps {s0 : State} (s : State) (p : Pair) (b : Nat) (h : Keeps s0 s) : Keeps s0 (State.putBank s p b) := by
  unfold State.putBank
  repeat' (first
    | with_reducible assumption
    | (simp -zeta only [Keeps.mk_iff]; with_reducible refine KeepsParts.of ?_ rfl rfl (Nat.le_refl _) rfl rfl)
    | ((fail_if_success (conv => arg 2; congr)); extract_lets +onlyGivenNames x; first | (have hx : Keeps s0 x := ?_; (on_goal 2 => dsimp -zeta only [x]); (on_goal 1 => clear_value x)) | (have hx : Keeps s0 x.1 := ?_; (on_goal 2 => dsimp -zeta only [x]); (on_goal 1 => clear_value x)) | clear_value x)
    | with_reducible refine Keeps.ite (fun _ => ?_) (fun _ => ?_)
    | with_reducible apply State.put_keeps
    | split
    | dsimp -zeta only)

theorem State.beginRestart_keeps {s0 : State} (s : State) (p : Pair) (cause : Nat) (h : Keeps s0 s) : Keeps s0 (State.beginRestart s p cause) := by
  unfold State.beginRestart
  repeat' (first
    | with_reducible assumption
    | (simp -zeta only [Keeps.mk_iff]; with_reducible refine KeepsParts.of ?_ rfl rfl (Nat.le_refl _) rfl rfl)
    | ((fail_if_success (conv => arg 2; congr)); extract_lets +onlyGivenNames x; first | (have hx : Keeps s0 x := ?_; (on_goal 2 => dsimp -zeta only [x]); (on_goal 1 => clear_value x)) | (have hx : Keeps s0 x.1 := ?_; (on_goal 2 => dsimp -zeta only [x]); (on_goal 1 => clear_value x)) | clear_value x)
    | with_reducible refine Keeps.ite (fun _ => ?_) (fun _ => ?_)
    | with_reducible apply State.put_keeps
    | with_reducible apply State.putB_keeps
    | with_reducible apply State.incSat_keeps
    | with_reducible apply State.raise_keeps
    | with_reducible apply State.abortTest_keeps
    | with_reducible apply State.setCore_keeps
    | with_reducible apply State.dropTasks_keeps
    | split
    | dsimp -zeta only)

theorem State.swapHold_keeps {s0 : State} (s : State) (p : Pair) (on : Bool) (h : Keeps s0 s) : Keeps s0 (State.swapHold s p on) := by
  unfold State.swapHold
  repeat' (first
    | with_reducible assumption
    | (simp -zeta only [Keeps.mk_iff]; with_reducible refine KeepsParts.of ?_ rfl rfl (Nat.le_refl _) rfl rfl)
    | ((fail_if_success (conv => arg 2; congr)); extract_lets +onlyGivenNames x; first | (have hx : Keeps s0 x := ?_; (on_goal 2 => dsimp -zeta only [x]); (on_goal 1 => clear_value x)) | (have hx : Keeps s0 x.1 := ?_; (on_goal 2 => dsimp -zeta only [x]); (on_goal 1 => clear_value x)) | clear_value x)
    | with_reducible refine Keeps.ite (fun _ => ?_) (fun _ => ?_)
    | with_reducible apply State.putB_keeps
    | split
    | dsimp -zeta only)

theorem State.trapezeAbort_keeps {s0 : State} (s : State) (p : Pair) (old : Nat) (h : Keeps s0 s) : Keeps s0 (State.trapezeAbort s p old) := by
  unfold State.trapezeAbort
  repeat' (first
    | with_reducible assumption
    | (simp -zeta only [Keeps.mk_iff]; with_reducible refine KeepsParts.of ?_ rfl rfl (Nat.le_refl _) rfl rfl)
    | ((fail_if_success (conv => arg 2; congr)); extract_lets +onlyGivenNames x; first | (have hx : Keeps s0 x := ?_; (on_goal 2 => dsimp -zeta only [x]); (on_goal 1 => clear_value x)) | (have hx : Keeps s0 x.1 := ?_; (on_goal 2 => dsimp -zeta only [x]); (on_goal 1 => clear_value x)) | clear_value x)
    | with_reducible refine Keeps.ite (fun _ => ?_) (fun _ => ?_)
    | with_reducible apply State.putB_keeps
    | with_reducible apply State.raise_keeps
    | with_reducible apply State.setCore_keeps
    | with_reducible apply State.putBank_keeps
    | with_reducible apply State.beginRestart_keeps
    | with_reducible apply State.swapHold_keeps
    | split
    | dsimp -zeta only)

theorem State.mismatchFreeze_keeps {s0 : State} (s : State) (p : Pair) (h : Keeps s0 s) : Keeps s0 (State.mismatchFreeze s p) := by
  unfold State.mismatchFreeze
  repeat' (first
    | with_reducible assumption
    | (simp -zeta only [Keeps.mk_iff]; with_reducible refine KeepsParts.of ?_ rfl rfl (Nat.le_refl _) rfl rfl)
    | ((fail_if_success (conv => arg 2; congr)); extract_lets +onlyGivenNames x; first | (have hx : Keeps s0 x := ?_; (on_goal 2 => dsimp -zeta only [x]); (on_goal 1 => clear_value x)) | (have hx : Keeps s0 x.1 := ?_; (on_goal 2 => dsimp -zeta only [x]); (on_goal 1 => clear_value x)) | clear_value x)
    | with_reducible refine Keeps.ite (fun _ => ?_) (fun _ => ?_)
    | with_reducible apply State.freeze_keeps
    | split
    | dsimp -zeta only)

theorem State.restartPair_keeps {s0 : State} (s : State) (p : Pair) (cause : Nat) (h : Keeps s0 s) : Keeps s0 (State.restartPair s p cause) := by
  unfold State.restartPair
  repeat' (first
    | with_reducible assumption
    | (simp -zeta only [Keeps.mk_iff]; with_reducible refine KeepsParts.of ?_ rfl rfl (Nat.le_refl _) rfl rfl)
    | ((fail_if_success (conv => arg 2; congr)); extract_lets +onlyGivenNames x; first | (have hx : Keeps s0 x := ?_; (on_goal 2 => dsimp -zeta only [x]); (on_goal 1 => clear_value x)) | (have hx : Keeps s0 x.1 := ?_; (on_goal 2 => dsimp -zeta only [x]); (on_goal 1 => clear_value x)) | clear_value x)
    | with_reducible refine Keeps.ite (fun _ => ?_) (fun _ => ?_)
    | with_reducible apply State.beginRestart_keeps
    | with_reducible apply State.trapezeAbort_keeps
    | split
    | dsimp -zeta only)

theorem State.writeSlot_keeps {s0 : State} (s : State) (p : Pair) (arch : List Byte) (h : Keeps s0 s) : Keeps s0 (State.writeSlot s p arch) := by
  unfold State.writeSlot
  repeat' (first
    | with_reducible assumption
    | (simp -zeta only [Keeps.mk_iff]; with_reducible refine KeepsParts.of ?_ rfl rfl (Nat.le_refl _) rfl rfl)
    | ((fail_if_success (conv => arg 2; congr)); extract_lets +onlyGivenNames x; first | (have hx : Keeps s0 x := ?_; (on_goal 2 => dsimp -zeta only [x]); (on_goal 1 => clear_value x)) | (have hx : Keeps s0 x.1 := ?_; (on_goal 2 => dsimp -zeta only [x]); (on_goal 1 => clear_value x)) | clear_value x)
    | with_reducible refine Keeps.ite (fun _ => ?_) (fun _ => ?_)
    | with_reducible apply State.put_keeps
    | with_reducible apply State.putBit_keeps
    | with_reducible apply State.setBytes_keeps
    | with_reducible apply State.setMemWord_keeps
    | with_reducible apply State.setCore_keeps
    | split
    | dsimp -zeta only)

theorem State.startCheckpoint_keeps {s0 : State} (s : State) (h : Keeps s0 s) : Keeps s0 (State.startCheckpoint s) := by
  unfold State.startCheckpoint
  repeat' (first
    | with_reducible assumption
    | (simp -zeta only [Keeps.mk_iff]; with_reducible refine KeepsParts.of ?_ rfl rfl (Nat.le_refl _) rfl rfl)
    | ((fail_if_success (conv => arg 2; congr)); extract_lets +onlyGivenNames x; first | (have hx : Keeps s0 x := ?_; (on_goal 2 => dsimp -zeta only [x]); (on_goal 1 => clear_value x)) | (have hx : Keeps s0 x.1 := ?_; (on_goal 2 => dsimp -zeta only [x]); (on_goal 1 => clear_value x)) | clear_value x)
    | with_reducible refine Keeps.ite (fun _ => ?_) (fun _ => ?_)
    | with_reducible apply State.setCore_keeps
    | (with_reducible apply Keeps.foldl; on_goal 2 => (intro x y hx; try dsimp -zeta only))
    | split
    | dsimp -zeta only)

theorem State.noCheckpoint_keeps {s0 : State} (s : State) (h : Keeps s0 s) : Keeps s0 (State.noCheckpoint s) := by
  unfold State.noCheckpoint
  repeat' (first
    | with_reducible assumption
    | (simp -zeta only [Keeps.mk_iff]; with_reducible refine KeepsParts.of ?_ rfl rfl (Nat.le_refl _) rfl rfl)
    | ((fail_if_success (conv => arg 2; congr)); extract_lets +onlyGivenNames x; first | (have hx : Keeps s0 x := ?_; (on_goal 2 => dsimp -zeta only [x]); (on_goal 1 => clear_value x)) | (have hx : Keeps s0 x.1 := ?_; (on_goal 2 => dsimp -zeta only [x]); (on_goal 1 => clear_value x)) | clear_value x)
    | with_reducible refine Keeps.ite (fun _ => ?_) (fun _ => ?_)
    | with_reducible apply State.setCore_keeps
    | split
    | dsimp -zeta only)

theorem State.startEntry_keeps {s0 : State} (s : State) (p : Pair) (h : Keeps s0 s) : Keeps s0 (State.startEntry s p) := by
  unfold State.startEntry
  repeat' (first
    | with_reducible assumption
    | (simp -zeta only [Keeps.mk_iff]; with_reducible refine KeepsParts.of ?_ rfl rfl (Nat.le_refl _) rfl rfl)
    | ((fail_if_success (conv => arg 2; congr)); extract_lets +onlyGivenNames x; first | (have hx : Keeps s0 x := ?_; (on_goal 2 => dsimp -zeta only [x]); (on_goal 1 => clear_value x)) | (have hx : Keeps s0 x.1 := ?_; (on_goal 2 => dsimp -zeta only [x]); (on_goal 1 => clear_value x)) | clear_value x)
    | with_reducible refine Keeps.ite (fun _ => ?_) (fun _ => ?_)
    | with_reducible apply State.setCore_keeps
    | split
    | dsimp -zeta only)

theorem State.restorePair_keeps {s0 : State} (s : State) (p : Pair) (h : Keeps s0 s) : Keeps s0 (State.restorePair s p) := by
  unfold State.restorePair
  repeat' (first
    | with_reducible assumption
    | (simp -zeta only [Keeps.mk_iff]; with_reducible refine KeepsParts.of ?_ rfl rfl (Nat.le_refl _) rfl rfl)
    | ((fail_if_success (conv => arg 2; congr)); extract_lets +onlyGivenNames x; first | (have hx : Keeps s0 x := ?_; (on_goal 2 => dsimp -zeta only [x]); (on_goal 1 => clear_value x)) | (have hx : Keeps s0 x.1 := ?_; (on_goal 2 => dsimp -zeta only [x]); (on_goal 1 => clear_value x)) | clear_value x)
    | with_reducible refine Keeps.ite (fun _ => ?_) (fun _ => ?_)
    | with_reducible apply State.put_keeps
    | with_reducible apply State.putB_keeps
    | with_reducible apply State.setBytes_keeps
    | with_reducible apply State.setCore_keeps
    | with_reducible apply State.startEntry_keeps
    | split
    | dsimp -zeta only)

theorem State.writeBoot_keeps {s0 : State} (s : State) (a b : Nat) (h : Keeps s0 s) : Keeps s0 (State.writeBoot s a b) := by
  unfold State.writeBoot
  repeat' (first
    | with_reducible assumption
    | (simp -zeta only [Keeps.mk_iff]; with_reducible refine KeepsParts.of ?_ rfl rfl (Nat.le_refl _) rfl rfl)
    | ((fail_if_success (conv => arg 2; congr)); extract_lets +onlyGivenNames x; first | (have hx : Keeps s0 x := ?_; (on_goal 2 => dsimp -zeta only [x]); (on_goal 1 => clear_value x)) | (have hx : Keeps s0 x.1 := ?_; (on_goal 2 => dsimp -zeta only [x]); (on_goal 1 => clear_value x)) | clear_value x)
    | with_reducible refine Keeps.ite (fun _ => ?_) (fun _ => ?_)
    | split
    | dsimp -zeta only)

theorem State.beginSwap_keeps {s0 : State} (s : State) (p : Pair) (old new : Nat) (h : Keeps s0 s) : Keeps s0 (State.beginSwap s p old new) := by
  unfold State.beginSwap
  repeat' (first
    | with_reducible assumption
    | (simp -zeta only [Keeps.mk_iff]; with_reducible refine KeepsParts.of ?_ rfl rfl (Nat.le_refl _) rfl rfl)
    | ((fail_if_success (conv => arg 2; congr)); extract_lets +onlyGivenNames x; first | (have hx : Keeps s0 x := ?_; (on_goal 2 => dsimp -zeta only [x]); (on_goal 1 => clear_value x)) | (have hx : Keeps s0 x.1 := ?_; (on_goal 2 => dsimp -zeta only [x]); (on_goal 1 => clear_value x)) | clear_value x)
    | with_reducible refine Keeps.ite (fun _ => ?_) (fun _ => ?_)
    | with_reducible apply State.put_keeps
    | with_reducible apply State.putB_keeps
    | with_reducible apply State.abortTest_keeps
    | with_reducible apply State.setCore_keeps
    | with_reducible apply State.dropTasks_keeps
    | with_reducible apply State.swapHold_keeps
    | with_reducible apply State.startEntry_keeps
    | split
    | dsimp -zeta only)

theorem execPairMismatch_keeps {s0 : State} (pair : Pair) (addr : Nat) (s : State) (h : Keeps s0 s) : KeepsR s0 (execPairMismatch pair addr s) := by
  unfold execPairMismatch
  repeat' (first
    | with_reducible assumption
    | (simp -zeta only [Keeps.mk_iff]; with_reducible refine KeepsParts.of ?_ rfl rfl (Nat.le_refl _) rfl rfl)
    | ((fail_if_success (conv => arg 2; congr)); extract_lets +onlyGivenNames x; first | (have hx : Keeps s0 x := ?_; (on_goal 2 => dsimp -zeta only [x]); (on_goal 1 => clear_value x)) | (have hx : Keeps s0 x.1 := ?_; (on_goal 2 => dsimp -zeta only [x]); (on_goal 1 => clear_value x)) | clear_value x)
    | with_reducible refine Keeps.ite (fun _ => ?_) (fun _ => ?_)
    | with_reducible refine KeepsR.ite (fun _ => ?_) (fun _ => ?_)
    | with_reducible apply KeepsR.next
    | with_reducible apply State.put_keeps
    | with_reducible apply State.raise_keeps
    | with_reducible apply State.mismatchFreeze_keeps
    | with_reducible apply State.restartPair_keeps
    | split
    | dsimp -zeta only)

theorem State.compareFault_keeps {s0 : State} (s : State) (p : Pair) (dis c1 c2 par : Bool) (h : Keeps s0 s) : Keeps s0 (State.compareFault s p dis c1 c2 par) := by
  unfold State.compareFault
  repeat' (first
    | with_reducible assumption
    | (simp -zeta only [Keeps.mk_iff]; with_reducible refine KeepsParts.of ?_ rfl rfl (Nat.le_refl _) rfl rfl)
    | ((fail_if_success (conv => arg 2; congr)); extract_lets +onlyGivenNames x; first | (have hx : Keeps s0 x := ?_; (on_goal 2 => dsimp -zeta only [x]); (on_goal 1 => clear_value x)) | (have hx : Keeps s0 x.1 := ?_; (on_goal 2 => dsimp -zeta only [x]); (on_goal 1 => clear_value x)) | clear_value x)
    | with_reducible refine Keeps.ite (fun _ => ?_) (fun _ => ?_)
    | with_reducible apply State.putB_keeps
    | with_reducible apply State.raise_keeps
    | with_reducible apply State.mismatchFreeze_keeps
    | with_reducible apply State.restartPair_keeps
    | split
    | dsimp -zeta only)

theorem execCompareUnitFault_keeps {s0 : State} (pair : Pair) (parity : Bool) (s : State) (addr : Nat) (h : Keeps s0 s) : KeepsR s0 (execCompareUnitFault pair parity s addr) := by
  unfold execCompareUnitFault
  repeat' (first
    | with_reducible assumption
    | (simp -zeta only [Keeps.mk_iff]; with_reducible refine KeepsParts.of ?_ rfl rfl (Nat.le_refl _) rfl rfl)
    | ((fail_if_success (conv => arg 2; congr)); extract_lets +onlyGivenNames x; first | (have hx : Keeps s0 x := ?_; (on_goal 2 => dsimp -zeta only [x]); (on_goal 1 => clear_value x)) | (have hx : Keeps s0 x.1 := ?_; (on_goal 2 => dsimp -zeta only [x]); (on_goal 1 => clear_value x)) | clear_value x)
    | with_reducible refine Keeps.ite (fun _ => ?_) (fun _ => ?_)
    | with_reducible refine KeepsR.ite (fun _ => ?_) (fun _ => ?_)
    | with_reducible apply KeepsR.next
    | with_reducible apply State.put_keeps
    | with_reducible apply State.raise_keeps
    | with_reducible apply State.compareFault_keeps
    | split
    | dsimp -zeta only)

theorem execComparatorFrameTest_keeps {s0 : State} (pair : Pair) (c1 c2 parity : Bool) (s : State) (h : Keeps s0 s) : KeepsR s0 (execComparatorFrameTest pair c1 c2 parity s) := by
  unfold execComparatorFrameTest
  repeat' (first
    | with_reducible assumption
    | (simp -zeta only [Keeps.mk_iff]; with_reducible refine KeepsParts.of ?_ rfl rfl (Nat.le_refl _) rfl rfl)
    | ((fail_if_success (conv => arg 2; congr)); extract_lets +onlyGivenNames x; first | (have hx : Keeps s0 x := ?_; (on_goal 2 => dsimp -zeta only [x]); (on_goal 1 => clear_value x)) | (have hx : Keeps s0 x.1 := ?_; (on_goal 2 => dsimp -zeta only [x]); (on_goal 1 => clear_value x)) | clear_value x)
    | with_reducible refine Keeps.ite (fun _ => ?_) (fun _ => ?_)
    | with_reducible refine KeepsR.ite (fun _ => ?_) (fun _ => ?_)
    | with_reducible apply KeepsR.next
    | with_reducible apply State.put_keeps
    | with_reducible apply State.advanceTo_keeps
    | with_reducible apply State.compareFault_keeps
    | split
    | dsimp -zeta only)

theorem execCheckpointComplete_keeps {s0 : State} (archA archB : List Byte) (s : State) (h : Keeps s0 s) : KeepsR s0 (execCheckpointComplete archA archB s) := by
  unfold execCheckpointComplete
  repeat' (first
    | with_reducible assumption
    | (simp -zeta only [Keeps.mk_iff]; with_reducible refine KeepsParts.of ?_ rfl rfl (Nat.le_refl _) rfl rfl)
    | ((fail_if_success (conv => arg 2; congr)); extract_lets +onlyGivenNames x; first | (have hx : Keeps s0 x := ?_; (on_goal 2 => dsimp -zeta only [x]); (on_goal 1 => clear_value x)) | (have hx : Keeps s0 x.1 := ?_; (on_goal 2 => dsimp -zeta only [x]); (on_goal 1 => clear_value x)) | clear_value x)
    | with_reducible refine Keeps.ite (fun _ => ?_) (fun _ => ?_)
    | with_reducible refine KeepsR.ite (fun _ => ?_) (fun _ => ?_)
    | with_reducible apply KeepsR.next
    | with_reducible apply State.advanceTo_keeps
    | with_reducible apply State.writeSlot_keeps
    | split
    | dsimp -zeta only)

theorem execPairHaltEnd_keeps {s0 : State} (s : State) (h : Keeps s0 s) : KeepsR s0 (execPairHaltEnd s) := by
  unfold execPairHaltEnd
  repeat' (first
    | with_reducible assumption
    | (simp -zeta only [Keeps.mk_iff]; with_reducible refine KeepsParts.of ?_ rfl rfl (Nat.le_refl _) rfl rfl)
    | ((fail_if_success (conv => arg 2; congr)); extract_lets +onlyGivenNames x; first | (have hx : Keeps s0 x := ?_; (on_goal 2 => dsimp -zeta only [x]); (on_goal 1 => clear_value x)) | (have hx : Keeps s0 x.1 := ?_; (on_goal 2 => dsimp -zeta only [x]); (on_goal 1 => clear_value x)) | clear_value x)
    | with_reducible refine Keeps.ite (fun _ => ?_) (fun _ => ?_)
    | with_reducible refine KeepsR.ite (fun _ => ?_) (fun _ => ?_)
    | with_reducible apply KeepsR.next
    | with_reducible apply State.advanceTo_keeps
    | with_reducible apply State.setCore_keeps
    | split
    | dsimp -zeta only)

theorem execPairRestartRequest_keeps {s0 : State} (ini : Ini) (pair : Pair) (s : State) (h : Keeps s0 s) : KeepsR s0 (execPairRestartRequest ini pair s) := by
  unfold execPairRestartRequest
  repeat' (first
    | with_reducible assumption
    | (simp -zeta only [Keeps.mk_iff]; with_reducible refine KeepsParts.of ?_ rfl rfl (Nat.le_refl _) rfl rfl)
    | ((fail_if_success (conv => arg 2; congr)); extract_lets +onlyGivenNames x; first | (have hx : Keeps s0 x := ?_; (on_goal 2 => dsimp -zeta only [x]); (on_goal 1 => clear_value x)) | (have hx : Keeps s0 x.1 := ?_; (on_goal 2 => dsimp -zeta only [x]); (on_goal 1 => clear_value x)) | clear_value x)
    | with_reducible refine Keeps.ite (fun _ => ?_) (fun _ => ?_)
    | with_reducible refine KeepsR.ite (fun _ => ?_) (fun _ => ?_)
    | with_reducible apply KeepsR.next
    | with_reducible apply State.accessFault_keeps
    | with_reducible apply State.restartPair_keeps
    | split
    | dsimp -zeta only)

theorem execRestoreComplete_keeps {s0 : State} (pair : Pair) (s : State) (h : Keeps s0 s) : KeepsR s0 (execRestoreComplete pair s) := by
  unfold execRestoreComplete
  repeat' (first
    | with_reducible assumption
    | (simp -zeta only [Keeps.mk_iff]; with_reducible refine KeepsParts.of ?_ rfl rfl (Nat.le_refl _) rfl rfl)
    | ((fail_if_success (conv => arg 2; congr)); extract_lets +onlyGivenNames x; first | (have hx : Keeps s0 x := ?_; (on_goal 2 => dsimp -zeta only [x]); (on_goal 1 => clear_value x)) | (have hx : Keeps s0 x.1 := ?_; (on_goal 2 => dsimp -zeta only [x]); (on_goal 1 => clear_value x)) | clear_value x)
    | with_reducible refine Keeps.ite (fun _ => ?_) (fun _ => ?_)
    | with_reducible refine KeepsR.ite (fun _ => ?_) (fun _ => ?_)
    | with_reducible apply KeepsR.next
    | with_reducible apply State.restorePair_keeps
    | split
    | dsimp -zeta only)

theorem execRestartTimeout_keeps {s0 : State} (pair : Pair) (s : State) (h : Keeps s0 s) : KeepsR s0 (execRestartTimeout pair s) := by
  unfold execRestartTimeout
  repeat' (first
    | with_reducible assumption
    | (simp -zeta only [Keeps.mk_iff]; with_reducible refine KeepsParts.of ?_ rfl rfl (Nat.le_refl _) rfl rfl)
    | ((fail_if_success (conv => arg 2; congr)); extract_lets +onlyGivenNames x; first | (have hx : Keeps s0 x := ?_; (on_goal 2 => dsimp -zeta only [x]); (on_goal 1 => clear_value x)) | (have hx : Keeps s0 x.1 := ?_; (on_goal 2 => dsimp -zeta only [x]); (on_goal 1 => clear_value x)) | clear_value x)
    | with_reducible refine Keeps.ite (fun _ => ?_) (fun _ => ?_)
    | with_reducible refine KeepsR.ite (fun _ => ?_) (fun _ => ?_)
    | with_reducible apply KeepsR.next
    | with_reducible apply State.putB_keeps
    | with_reducible apply State.advanceTo_keeps
    | split
    | dsimp -zeta only)

theorem execPairReady_keeps {s0 : State} (ini : Ini) (pair : Pair) (s : State) (h : Keeps s0 s) : KeepsR s0 (execPairReady ini pair s) := by
  unfold execPairReady
  repeat' (first
    | with_reducible assumption
    | (simp -zeta only [Keeps.mk_iff]; with_reducible refine KeepsParts.of ?_ rfl rfl (Nat.le_refl _) rfl rfl)
    | ((fail_if_success (conv => arg 2; congr)); extract_lets +onlyGivenNames x; first | (have hx : Keeps s0 x := ?_; (on_goal 2 => dsimp -zeta only [x]); (on_goal 1 => clear_value x)) | (have hx : Keeps s0 x.1 := ?_; (on_goal 2 => dsimp -zeta only [x]); (on_goal 1 => clear_value x)) | clear_value x)
    | with_reducible refine Keeps.ite (fun _ => ?_) (fun _ => ?_)
    | with_reducible refine KeepsR.ite (fun _ => ?_) (fun _ => ?_)
    | with_reducible apply KeepsR.next
    | with_reducible apply State.putB_keeps
    | with_reducible apply State.accessFault_keeps
    | with_reducible apply State.setCore_keeps
    | with_reducible apply State.swapHold_keeps
    | with_reducible apply State.writeBoot_keeps
    | split
    | dsimp -zeta only)

theorem execTrapezeReadyTimeout_keeps {s0 : State} (pair : Pair) (s : State) (h : Keeps s0 s) : KeepsR s0 (execTrapezeReadyTimeout pair s) := by
  unfold execTrapezeReadyTimeout
  repeat' (first
    | with_reducible assumption
    | (simp -zeta only [Keeps.mk_iff]; with_reducible refine KeepsParts.of ?_ rfl rfl (Nat.le_refl _) rfl rfl)
    | ((fail_if_success (conv => arg 2; congr)); extract_lets +onlyGivenNames x; first | (have hx : Keeps s0 x := ?_; (on_goal 2 => dsimp -zeta only [x]); (on_goal 1 => clear_value x)) | (have hx : Keeps s0 x.1 := ?_; (on_goal 2 => dsimp -zeta only [x]); (on_goal 1 => clear_value x)) | clear_value x)
    | with_reducible refine Keeps.ite (fun _ => ?_) (fun _ => ?_)
    | with_reducible refine KeepsR.ite (fun _ => ?_) (fun _ => ?_)
    | with_reducible apply KeepsR.next
    | with_reducible apply State.advanceTo_keeps
    | with_reducible apply State.trapezeAbort_keeps
    | split
    | dsimp -zeta only)

theorem execDebugHalt_keeps {s0 : State} (ini : Ini) (pair : Pair) (s : State) (h : Keeps s0 s) : KeepsR s0 (execDebugHalt ini pair s) := by
  unfold execDebugHalt
  repeat' (first
    | with_reducible assumption
    | (simp -zeta only [Keeps.mk_iff]; with_reducible refine KeepsParts.of ?_ rfl rfl (Nat.le_refl _) rfl rfl)
    | ((fail_if_success (conv => arg 2; congr)); extract_lets +onlyGivenNames x; first | (have hx : Keeps s0 x := ?_; (on_goal 2 => dsimp -zeta only [x]); (on_goal 1 => clear_value x)) | (have hx : Keeps s0 x.1 := ?_; (on_goal 2 => dsimp -zeta only [x]); (on_goal 1 => clear_value x)) | clear_value x)
    | with_reducible refine Keeps.ite (fun _ => ?_) (fun _ => ?_)
    | with_reducible refine KeepsR.ite (fun _ => ?_) (fun _ => ?_)
    | with_reducible apply KeepsR.next
    | with_reducible apply State.putB_keeps
    | with_reducible apply State.raise_keeps
    | with_reducible apply State.dropTasks_keeps
    | split
    | dsimp -zeta only)

theorem execDebugResume_keeps {s0 : State} (ini : Ini) (pair : Pair) (s : State) (h : Keeps s0 s) : KeepsR s0 (execDebugResume ini pair s) := by
  unfold execDebugResume
  repeat' (first
    | with_reducible assumption
    | (simp -zeta only [Keeps.mk_iff]; with_reducible refine KeepsParts.of ?_ rfl rfl (Nat.le_refl _) rfl rfl)
    | ((fail_if_success (conv => arg 2; congr)); extract_lets +onlyGivenNames x; first | (have hx : Keeps s0 x := ?_; (on_goal 2 => dsimp -zeta only [x]); (on_goal 1 => clear_value x)) | (have hx : Keeps s0 x.1 := ?_; (on_goal 2 => dsimp -zeta only [x]); (on_goal 1 => clear_value x)) | clear_value x)
    | with_reducible refine Keeps.ite (fun _ => ?_) (fun _ => ?_)
    | with_reducible refine KeepsR.ite (fun _ => ?_) (fun _ => ?_)
    | with_reducible apply KeepsR.next
    | with_reducible apply State.putB_keeps
    | split
    | dsimp -zeta only)

theorem execDebugStep_keeps {s0 : State} (ini : Ini) (pair : Pair) (s : State) (h : Keeps s0 s) : KeepsR s0 (execDebugStep ini pair s) := by
  unfold execDebugStep
  repeat' (first
    | with_reducible assumption
    | (simp -zeta only [Keeps.mk_iff]; with_reducible refine KeepsParts.of ?_ rfl rfl (Nat.le_refl _) rfl rfl)
    | ((fail_if_success (conv => arg 2; congr)); extract_lets +onlyGivenNames x; first | (have hx : Keeps s0 x := ?_; (on_goal 2 => dsimp -zeta only [x]); (on_goal 1 => clear_value x)) | (have hx : Keeps s0 x.1 := ?_; (on_goal 2 => dsimp -zeta only [x]); (on_goal 1 => clear_value x)) | clear_value x)
    | with_reducible refine Keeps.ite (fun _ => ?_) (fun _ => ?_)
    | with_reducible refine KeepsR.ite (fun _ => ?_) (fun _ => ?_)
    | with_reducible apply KeepsR.next
    | with_reducible apply State.setCore_keeps
    | split
    | dsimp -zeta only)

theorem State.pairFault_keeps {s0 : State} (s : State) (p : Pair) (write : Bool) (h : Keeps s0 s) : Keeps s0 (State.pairFault s p write) := by
  unfold State.pairFault
  repeat' (first
    | with_reducible assumption
    | (simp -zeta only [Keeps.mk_iff]; with_reducible refine KeepsParts.of ?_ rfl rfl (Nat.le_refl _) rfl rfl)
    | ((fail_if_success (conv => arg 2; congr)); extract_lets +onlyGivenNames x; first | (have hx : Keeps s0 x := ?_; (on_goal 2 => dsimp -zeta only [x]); (on_goal 1 => clear_value x)) | (have hx : Keeps s0 x.1 := ?_; (on_goal 2 => dsimp -zeta only [x]); (on_goal 1 => clear_value x)) | clear_value x)
    | with_reducible refine Keeps.ite (fun _ => ?_) (fun _ => ?_)
    | with_reducible apply State.setCore_keeps
    | split
    | dsimp -zeta only)

theorem execMemoryAccessFault_keeps {s0 : State} (pair : Pair) (write : Bool) (addr : Nat) (s : State) (h : Keeps s0 s) : KeepsR s0 (execMemoryAccessFault pair write addr s) := by
  unfold execMemoryAccessFault
  repeat' (first
    | with_reducible assumption
    | (simp -zeta only [Keeps.mk_iff]; with_reducible refine KeepsParts.of ?_ rfl rfl (Nat.le_refl _) rfl rfl)
    | ((fail_if_success (conv => arg 2; congr)); extract_lets +onlyGivenNames x; first | (have hx : Keeps s0 x := ?_; (on_goal 2 => dsimp -zeta only [x]); (on_goal 1 => clear_value x)) | (have hx : Keeps s0 x.1 := ?_; (on_goal 2 => dsimp -zeta only [x]); (on_goal 1 => clear_value x)) | clear_value x)
    | with_reducible refine Keeps.ite (fun _ => ?_) (fun _ => ?_)
    | with_reducible refine KeepsR.ite (fun _ => ?_) (fun _ => ?_)
    | with_reducible apply KeepsR.next
    | with_reducible apply State.pairFault_keeps
    | split
    | dsimp -zeta only)

theorem execEccError_keeps {s0 : State} (pair : Pair) (mram corrected : Bool) (addr : Nat) (s : State) (h : Keeps s0 s) : KeepsR s0 (execEccError pair mram corrected addr s) := by
  unfold execEccError
  repeat' (first
    | with_reducible assumption
    | (simp -zeta only [Keeps.mk_iff]; with_reducible refine KeepsParts.of ?_ rfl rfl (Nat.le_refl _) rfl rfl)
    | ((fail_if_success (conv => arg 2; congr)); extract_lets +onlyGivenNames x; first | (have hx : Keeps s0 x := ?_; (on_goal 2 => dsimp -zeta only [x]); (on_goal 1 => clear_value x)) | (have hx : Keeps s0 x.1 := ?_; (on_goal 2 => dsimp -zeta only [x]); (on_goal 1 => clear_value x)) | clear_value x)
    | with_reducible refine Keeps.ite (fun _ => ?_) (fun _ => ?_)
    | with_reducible refine KeepsR.ite (fun _ => ?_) (fun _ => ?_)
    | with_reducible apply KeepsR.next
    | with_reducible apply State.put_keeps
    | with_reducible apply State.incSat_keeps
    | with_reducible apply State.raise_keeps
    | with_reducible apply State.pairFault_keeps
    | split
    | dsimp -zeta only)

theorem State.stageMask_keeps {s0 : State} (s : State) (mask st : Nat) (h : Keeps s0 s) : Keeps s0 (State.stageMask s mask st) := by
  unfold State.stageMask
  repeat' (first
    | with_reducible assumption
    | (simp -zeta only [Keeps.mk_iff]; with_reducible refine KeepsParts.of ?_ rfl rfl (Nat.le_refl _) rfl rfl)
    | ((fail_if_success (conv => arg 2; congr)); extract_lets +onlyGivenNames x; first | (have hx : Keeps s0 x := ?_; (on_goal 2 => dsimp -zeta only [x]); (on_goal 1 => clear_value x)) | (have hx : Keeps s0 x.1 := ?_; (on_goal 2 => dsimp -zeta only [x]); (on_goal 1 => clear_value x)) | clear_value x)
    | with_reducible refine Keeps.ite (fun _ => ?_) (fun _ => ?_)
    | with_reducible apply State.put_keeps
    | (with_reducible apply Keeps.foldl; on_goal 2 => (intro x y hx; try dsimp -zeta only))
    | split
    | dsimp -zeta only)

theorem State.stgEnd_keeps {s0 : State} (s : State) (st : Nat) (h : Keeps s0 s) : Keeps s0 (State.stgEnd s st) := by
  unfold State.stgEnd
  repeat' (first
    | with_reducible assumption
    | (simp -zeta only [Keeps.mk_iff]; with_reducible refine KeepsParts.of ?_ rfl rfl (Nat.le_refl _) rfl rfl)
    | ((fail_if_success (conv => arg 2; congr)); extract_lets +onlyGivenNames x; first | (have hx : Keeps s0 x := ?_; (on_goal 2 => dsimp -zeta only [x]); (on_goal 1 => clear_value x)) | (have hx : Keeps s0 x.1 := ?_; (on_goal 2 => dsimp -zeta only [x]); (on_goal 1 => clear_value x)) | clear_value x)
    | with_reducible refine Keeps.ite (fun _ => ?_) (fun _ => ?_)
    | with_reducible apply State.put_keeps
    | with_reducible apply State.putB_keeps
    | split
    | dsimp -zeta only)

theorem State.stgCancel_keeps {s0 : State} (s : State) (h : Keeps s0 s) : Keeps s0 (State.stgCancel s) := by
  unfold State.stgCancel
  repeat' (first
    | with_reducible assumption
    | (simp -zeta only [Keeps.mk_iff]; with_reducible refine KeepsParts.of ?_ rfl rfl (Nat.le_refl _) rfl rfl)
    | ((fail_if_success (conv => arg 2; congr)); extract_lets +onlyGivenNames x; first | (have hx : Keeps s0 x := ?_; (on_goal 2 => dsimp -zeta only [x]); (on_goal 1 => clear_value x)) | (have hx : Keeps s0 x.1 := ?_; (on_goal 2 => dsimp -zeta only [x]); (on_goal 1 => clear_value x)) | clear_value x)
    | with_reducible refine Keeps.ite (fun _ => ?_) (fun _ => ?_)
    | with_reducible apply State.raise_keeps
    | with_reducible apply State.send_keeps
    | with_reducible apply State.stageMask_keeps
    | with_reducible apply State.stgEnd_keeps
    | split
    | dsimp -zeta only)

theorem execImageLoad_keeps {s0 : State} (_ini : Ini) (buf go : Bool) (s : State) (h : Keeps s0 s) : KeepsR s0 (execImageLoad _ini buf go s) := by
  unfold execImageLoad
  repeat' (first
    | with_reducible assumption
    | (simp -zeta only [Keeps.mk_iff]; with_reducible refine KeepsParts.of ?_ rfl rfl (Nat.le_refl _) rfl rfl)
    | ((fail_if_success (conv => arg 2; congr)); extract_lets +onlyGivenNames x; first | (have hx : Keeps s0 x := ?_; (on_goal 2 => dsimp -zeta only [x]); (on_goal 1 => clear_value x)) | (have hx : Keeps s0 x.1 := ?_; (on_goal 2 => dsimp -zeta only [x]); (on_goal 1 => clear_value x)) | clear_value x)
    | with_reducible refine Keeps.ite (fun _ => ?_) (fun _ => ?_)
    | with_reducible refine KeepsR.ite (fun _ => ?_) (fun _ => ?_)
    | with_reducible apply KeepsR.next
    | with_reducible apply State.putLoad_keeps
    | with_reducible apply State.stgCancel_keeps
    | split
    | dsimp -zeta only)

theorem execImageLoadDone_keeps {s0 : State} (s : State) (h : Keeps s0 s) : KeepsR s0 (execImageLoadDone s) := by
  unfold execImageLoadDone
  repeat' (first
    | with_reducible assumption
    | (simp -zeta only [Keeps.mk_iff]; with_reducible refine KeepsParts.of ?_ rfl rfl (Nat.le_refl _) rfl rfl)
    | ((fail_if_success (conv => arg 2; congr)); extract_lets +onlyGivenNames x; first | (have hx : Keeps s0 x := ?_; (on_goal 2 => dsimp -zeta only [x]); (on_goal 1 => clear_value x)) | (have hx : Keeps s0 x.1 := ?_; (on_goal 2 => dsimp -zeta only [x]); (on_goal 1 => clear_value x)) | clear_value x)
    | with_reducible refine Keeps.ite (fun _ => ?_) (fun _ => ?_)
    | with_reducible refine KeepsR.ite (fun _ => ?_) (fun _ => ?_)
    | with_reducible apply KeepsR.next
    | with_reducible apply State.raise_keeps
    | with_reducible apply State.putLoad_keeps
    | split
    | dsimp -zeta only)

theorem State.endTask_keeps {s0 : State} (s : State) (entry : Nat) (h : Keeps s0 s) : Keeps s0 (State.endTask s entry) := by
  unfold State.endTask
  repeat' (first
    | with_reducible assumption
    | (simp -zeta only [Keeps.mk_iff]; with_reducible refine KeepsParts.of ?_ rfl rfl (Nat.le_refl _) rfl rfl)
    | ((fail_if_success (conv => arg 2; congr)); extract_lets +onlyGivenNames x; first | (have hx : Keeps s0 x := ?_; (on_goal 2 => dsimp -zeta only [x]); (on_goal 1 => clear_value x)) | (have hx : Keeps s0 x.1 := ?_; (on_goal 2 => dsimp -zeta only [x]); (on_goal 1 => clear_value x)) | clear_value x)
    | with_reducible refine Keeps.ite (fun _ => ?_) (fun _ => ?_)
    | split
    | dsimp -zeta only)

theorem State.setOver_keeps {s0 : State} (s : State) (entry n : Nat) (h : Keeps s0 s) : Keeps s0 (State.setOver s entry n) := by
  unfold State.setOver
  repeat' (first
    | with_reducible assumption
    | (simp -zeta only [Keeps.mk_iff]; with_reducible refine KeepsParts.of ?_ rfl rfl (Nat.le_refl _) rfl rfl)
    | ((fail_if_success (conv => arg 2; congr)); extract_lets +onlyGivenNames x; first | (have hx : Keeps s0 x := ?_; (on_goal 2 => dsimp -zeta only [x]); (on_goal 1 => clear_value x)) | (have hx : Keeps s0 x.1 := ?_; (on_goal 2 => dsimp -zeta only [x]); (on_goal 1 => clear_value x)) | clear_value x)
    | with_reducible refine Keeps.ite (fun _ => ?_) (fun _ => ?_)
    | split
    | dsimp -zeta only)

theorem State.noteOverrun_keeps {s0 : State} (s : State) (entry typ n : Nat) (h : Keeps s0 s) : Keeps s0 (State.noteOverrun s entry typ n) := by
  unfold State.noteOverrun
  repeat' (first
    | with_reducible assumption
    | (simp -zeta only [Keeps.mk_iff]; with_reducible refine KeepsParts.of ?_ rfl rfl (Nat.le_refl _) rfl rfl)
    | ((fail_if_success (conv => arg 2; congr)); extract_lets +onlyGivenNames x; first | (have hx : Keeps s0 x := ?_; (on_goal 2 => dsimp -zeta only [x]); (on_goal 1 => clear_value x)) | (have hx : Keeps s0 x.1 := ?_; (on_goal 2 => dsimp -zeta only [x]); (on_goal 1 => clear_value x)) | clear_value x)
    | with_reducible refine Keeps.ite (fun _ => ?_) (fun _ => ?_)
    | with_reducible apply State.put_keeps
    | with_reducible apply State.raise_keeps
    | split
    | dsimp -zeta only)

theorem State.overrun_keeps {s0 : State} (s : State) (entry typ : Nat) (h : Keeps s0 s) : Keeps s0 (State.overrun s entry typ) := by
  unfold State.overrun
  repeat' (first
    | with_reducible assumption
    | (simp -zeta only [Keeps.mk_iff]; with_reducible refine KeepsParts.of ?_ rfl rfl (Nat.le_refl _) rfl rfl)
    | ((fail_if_success (conv => arg 2; congr)); extract_lets +onlyGivenNames x; first | (have hx : Keeps s0 x := ?_; (on_goal 2 => dsimp -zeta only [x]); (on_goal 1 => clear_value x)) | (have hx : Keeps s0 x.1 := ?_; (on_goal 2 => dsimp -zeta only [x]); (on_goal 1 => clear_value x)) | clear_value x)
    | with_reducible refine Keeps.ite (fun _ => ?_) (fun _ => ?_)
    | with_reducible apply State.setOver_keeps
    | with_reducible apply State.noteOverrun_keeps
    | split
    | dsimp -zeta only)

theorem State.accelOverrun_keeps {s0 : State} (s : State) (entry typ : Nat) (h : Keeps s0 s) : Keeps s0 (State.accelOverrun s entry typ) := by
  unfold State.accelOverrun
  repeat' (first
    | with_reducible assumption
    | (simp -zeta only [Keeps.mk_iff]; with_reducible refine KeepsParts.of ?_ rfl rfl (Nat.le_refl _) rfl rfl)
    | ((fail_if_success (conv => arg 2; congr)); extract_lets +onlyGivenNames x; first | (have hx : Keeps s0 x := ?_; (on_goal 2 => dsimp -zeta only [x]); (on_goal 1 => clear_value x)) | (have hx : Keeps s0 x.1 := ?_; (on_goal 2 => dsimp -zeta only [x]); (on_goal 1 => clear_value x)) | clear_value x)
    | with_reducible refine Keeps.ite (fun _ => ?_) (fun _ => ?_)
    | with_reducible apply State.noteOverrun_keeps
    | split
    | dsimp -zeta only)

theorem State.accelReset_keeps {s0 : State} (s : State) (typ : Nat) (h : Keeps s0 s) : Keeps s0 (State.accelReset s typ) := by
  unfold State.accelReset
  repeat' (first
    | with_reducible assumption
    | (simp -zeta only [Keeps.mk_iff]; with_reducible refine KeepsParts.of ?_ rfl rfl (Nat.le_refl _) rfl rfl)
    | ((fail_if_success (conv => arg 2; congr)); extract_lets +onlyGivenNames x; first | (have hx : Keeps s0 x := ?_; (on_goal 2 => dsimp -zeta only [x]); (on_goal 1 => clear_value x)) | (have hx : Keeps s0 x.1 := ?_; (on_goal 2 => dsimp -zeta only [x]); (on_goal 1 => clear_value x)) | clear_value x)
    | with_reducible refine Keeps.ite (fun _ => ?_) (fun _ => ?_)
    | split
    | dsimp -zeta only)

theorem State.escalate_keeps {s0 : State} (s : State) (t : Task) (h : Keeps s0 s) : Keeps s0 (State.escalate s t) := by
  unfold State.escalate
  repeat' (first
    | with_reducible assumption
    | (simp -zeta only [Keeps.mk_iff]; with_reducible refine KeepsParts.of ?_ rfl rfl (Nat.le_refl _) rfl rfl)
    | ((fail_if_success (conv => arg 2; congr)); extract_lets +onlyGivenNames x; first | (have hx : Keeps s0 x := ?_; (on_goal 2 => dsimp -zeta only [x]); (on_goal 1 => clear_value x)) | (have hx : Keeps s0 x.1 := ?_; (on_goal 2 => dsimp -zeta only [x]); (on_goal 1 => clear_value x)) | clear_value x)
    | with_reducible refine Keeps.ite (fun _ => ?_) (fun _ => ?_)
    | with_reducible apply State.raise_keeps
    | with_reducible apply State.restartPair_keeps
    | with_reducible apply State.endTask_keeps
    | with_reducible apply State.setOver_keeps
    | split
    | dsimp -zeta only)

theorem execTaskDone_keeps {s0 : State} (ini : Ini) (pair : Pair) (entry : Nat) (s : State) (h : Keeps s0 s) : KeepsR s0 (execTaskDone ini pair entry s) := by
  unfold execTaskDone
  repeat' (first
    | with_reducible assumption
    | (simp -zeta only [Keeps.mk_iff]; with_reducible refine KeepsParts.of ?_ rfl rfl (Nat.le_refl _) rfl rfl)
    | ((fail_if_success (conv => arg 2; congr)); extract_lets +onlyGivenNames x; first | (have hx : Keeps s0 x := ?_; (on_goal 2 => dsimp -zeta only [x]); (on_goal 1 => clear_value x)) | (have hx : Keeps s0 x.1 := ?_; (on_goal 2 => dsimp -zeta only [x]); (on_goal 1 => clear_value x)) | clear_value x)
    | with_reducible refine Keeps.ite (fun _ => ?_) (fun _ => ?_)
    | with_reducible refine KeepsR.ite (fun _ => ?_) (fun _ => ?_)
    | with_reducible apply KeepsR.next
    | with_reducible apply State.endTask_keeps
    | with_reducible apply State.setOver_keeps
    | split
    | dsimp -zeta only)

theorem execKillAck_keeps {s0 : State} (ini : Ini) (pair : Pair) (entry : Nat) (s : State) (h : Keeps s0 s) : KeepsR s0 (execKillAck ini pair entry s) := by
  unfold execKillAck
  repeat' (first
    | with_reducible assumption
    | (simp -zeta only [Keeps.mk_iff]; with_reducible refine KeepsParts.of ?_ rfl rfl (Nat.le_refl _) rfl rfl)
    | ((fail_if_success (conv => arg 2; congr)); extract_lets +onlyGivenNames x; first | (have hx : Keeps s0 x := ?_; (on_goal 2 => dsimp -zeta only [x]); (on_goal 1 => clear_value x)) | (have hx : Keeps s0 x.1 := ?_; (on_goal 2 => dsimp -zeta only [x]); (on_goal 1 => clear_value x)) | clear_value x)
    | with_reducible refine Keeps.ite (fun _ => ?_) (fun _ => ?_)
    | with_reducible refine KeepsR.ite (fun _ => ?_) (fun _ => ?_)
    | with_reducible apply KeepsR.next
    | with_reducible apply State.setCore_keeps
    | with_reducible apply State.endTask_keeps
    | split
    | dsimp -zeta only)

theorem execTaskOverrun_keeps {s0 : State} (entry : Nat) (s : State) (h : Keeps s0 s) : KeepsR s0 (execTaskOverrun entry s) := by
  unfold execTaskOverrun
  repeat' (first
    | with_reducible assumption
    | (simp -zeta only [Keeps.mk_iff]; with_reducible refine KeepsParts.of ?_ rfl rfl (Nat.le_refl _) rfl rfl)
    | ((fail_if_success (conv => arg 2; congr)); extract_lets +onlyGivenNames x; first | (have hx : Keeps s0 x := ?_; (on_goal 2 => dsimp -zeta only [x]); (on_goal 1 => clear_value x)) | (have hx : Keeps s0 x.1 := ?_; (on_goal 2 => dsimp -zeta only [x]); (on_goal 1 => clear_value x)) | clear_value x)
    | with_reducible refine Keeps.ite (fun _ => ?_) (fun _ => ?_)
    | with_reducible refine KeepsR.ite (fun _ => ?_) (fun _ => ?_)
    | with_reducible apply KeepsR.next
    | with_reducible apply State.advanceTo_keeps
    | with_reducible apply State.setCore_keeps
    | with_reducible apply State.overrun_keeps
    | with_reducible apply State.escalate_keeps
    | split
    | dsimp -zeta only)

theorem execKillAckTimeout_keeps {s0 : State} (entry : Nat) (s : State) (h : Keeps s0 s) : KeepsR s0 (execKillAckTimeout entry s) := by
  unfold execKillAckTimeout
  repeat' (first
    | with_reducible assumption
    | (simp -zeta only [Keeps.mk_iff]; with_reducible refine KeepsParts.of ?_ rfl rfl (Nat.le_refl _) rfl rfl)
    | ((fail_if_success (conv => arg 2; congr)); extract_lets +onlyGivenNames x; first | (have hx : Keeps s0 x := ?_; (on_goal 2 => dsimp -zeta only [x]); (on_goal 1 => clear_value x)) | (have hx : Keeps s0 x.1 := ?_; (on_goal 2 => dsimp -zeta only [x]); (on_goal 1 => clear_value x)) | clear_value x)
    | with_reducible refine Keeps.ite (fun _ => ?_) (fun _ => ?_)
    | with_reducible refine KeepsR.ite (fun _ => ?_) (fun _ => ?_)
    | with_reducible apply KeepsR.next
    | with_reducible apply State.advanceTo_keeps
    | with_reducible apply State.escalate_keeps
    | split
    | dsimp -zeta only)

theorem State.openTask_keeps {s0 : State} (s : State) (e : Nat × Entry) (p : Pair) (h : Keeps s0 s) : Keeps s0 (State.openTask s e p) := by
  unfold State.openTask
  repeat' (first
    | with_reducible assumption
    | (simp -zeta only [Keeps.mk_iff]; with_reducible refine KeepsParts.of ?_ rfl rfl (Nat.le_refl _) rfl rfl)
    | ((fail_if_success (conv => arg 2; congr)); extract_lets +onlyGivenNames x; first | (have hx : Keeps s0 x := ?_; (on_goal 2 => dsimp -zeta only [x]); (on_goal 1 => clear_value x)) | (have hx : Keeps s0 x.1 := ?_; (on_goal 2 => dsimp -zeta only [x]); (on_goal 1 => clear_value x)) | clear_value x)
    | with_reducible refine Keeps.ite (fun _ => ?_) (fun _ => ?_)
    | with_reducible apply State.skipEntry_keeps
    | split
    | dsimp -zeta only)

theorem State.openAccel_keeps {s0 : State} (s : State) (e : Nat × Entry) (fin : Nat) (h : Keeps s0 s) : Keeps s0 (State.openAccel s e fin) := by
  unfold State.openAccel
  repeat' (first
    | with_reducible assumption
    | (simp -zeta only [Keeps.mk_iff]; with_reducible refine KeepsParts.of ?_ rfl rfl (Nat.le_refl _) rfl rfl)
    | ((fail_if_success (conv => arg 2; congr)); extract_lets +onlyGivenNames x; first | (have hx : Keeps s0 x := ?_; (on_goal 2 => dsimp -zeta only [x]); (on_goal 1 => clear_value x)) | (have hx : Keeps s0 x.1 := ?_; (on_goal 2 => dsimp -zeta only [x]); (on_goal 1 => clear_value x)) | clear_value x)
    | with_reducible refine Keeps.ite (fun _ => ?_) (fun _ => ?_)
    | split
    | dsimp -zeta only)

theorem State.releaseEntry_keeps {s0 : State} (s : State) (e : Nat × Entry) (h : Keeps s0 s) : Keeps s0 (State.releaseEntry s e) := by
  unfold State.releaseEntry
  repeat' (first
    | with_reducible assumption
    | (simp -zeta only [Keeps.mk_iff]; with_reducible refine KeepsParts.of ?_ rfl rfl (Nat.le_refl _) rfl rfl)
    | ((fail_if_success (conv => arg 2; congr)); extract_lets +onlyGivenNames x; first | (have hx : Keeps s0 x := ?_; (on_goal 2 => dsimp -zeta only [x]); (on_goal 1 => clear_value x)) | (have hx : Keeps s0 x.1 := ?_; (on_goal 2 => dsimp -zeta only [x]); (on_goal 1 => clear_value x)) | clear_value x)
    | with_reducible refine Keeps.ite (fun _ => ?_) (fun _ => ?_)
    | with_reducible apply State.submit_keeps
    | with_reducible apply State.requestIso_keeps
    | with_reducible apply State.eisSweepStart_keeps
    | with_reducible apply State.cantxOpens_keeps
    | with_reducible apply State.skipEntry_keeps
    | with_reducible apply State.openTask_keeps
    | with_reducible apply State.openAccel_keeps
    | split
    | dsimp -zeta only)

theorem State.releaseSlot_keeps {s0 : State} (s : State) (slot : Nat) (h : Keeps s0 s) : Keeps s0 (State.releaseSlot s slot) := by
  unfold State.releaseSlot
  repeat' (first
    | with_reducible assumption
    | (simp -zeta only [Keeps.mk_iff]; with_reducible refine KeepsParts.of ?_ rfl rfl (Nat.le_refl _) rfl rfl)
    | ((fail_if_success (conv => arg 2; congr)); extract_lets +onlyGivenNames x; first | (have hx : Keeps s0 x := ?_; (on_goal 2 => dsimp -zeta only [x]); (on_goal 1 => clear_value x)) | (have hx : Keeps s0 x.1 := ?_; (on_goal 2 => dsimp -zeta only [x]); (on_goal 1 => clear_value x)) | clear_value x)
    | with_reducible refine Keeps.ite (fun _ => ?_) (fun _ => ?_)
    | with_reducible apply State.put_keeps
    | with_reducible apply State.settle_keeps
    | with_reducible apply State.releaseEntry_keeps
    | (with_reducible apply Keeps.foldl; on_goal 2 => (intro x y hx; try dsimp -zeta only))
    | split
    | dsimp -zeta only)

theorem execSlotRelease_keeps {s0 : State} (slot : Nat) (s : State) (h : Keeps s0 s) : KeepsR s0 (execSlotRelease slot s) := by
  unfold execSlotRelease
  repeat' (first
    | with_reducible assumption
    | (simp -zeta only [Keeps.mk_iff]; with_reducible refine KeepsParts.of ?_ rfl rfl (Nat.le_refl _) rfl rfl)
    | ((fail_if_success (conv => arg 2; congr)); extract_lets +onlyGivenNames x; first | (have hx : Keeps s0 x := ?_; (on_goal 2 => dsimp -zeta only [x]); (on_goal 1 => clear_value x)) | (have hx : Keeps s0 x.1 := ?_; (on_goal 2 => dsimp -zeta only [x]); (on_goal 1 => clear_value x)) | clear_value x)
    | with_reducible refine Keeps.ite (fun _ => ?_) (fun _ => ?_)
    | with_reducible refine KeepsR.ite (fun _ => ?_) (fun _ => ?_)
    | with_reducible apply KeepsR.next
    | with_reducible apply State.advanceTo_keeps
    | with_reducible apply State.releaseSlot_keeps
    | split
    | dsimp -zeta only)

theorem State.shuntShow_keeps {s0 : State} (s : State) (i1 i2 : Int × Bool) (c1 c2 : Int) (h : Keeps s0 s) : Keeps s0 (State.shuntShow s i1 i2 c1 c2) := by
  unfold State.shuntShow
  repeat' (first
    | with_reducible assumption
    | (simp -zeta only [Keeps.mk_iff]; with_reducible refine KeepsParts.of ?_ rfl rfl (Nat.le_refl _) rfl rfl)
    | ((fail_if_success (conv => arg 2; congr)); extract_lets +onlyGivenNames x; first | (have hx : Keeps s0 x := ?_; (on_goal 2 => dsimp -zeta only [x]); (on_goal 1 => clear_value x)) | (have hx : Keeps s0 x.1 := ?_; (on_goal 2 => dsimp -zeta only [x]); (on_goal 1 => clear_value x)) | clear_value x)
    | with_reducible refine Keeps.ite (fun _ => ?_) (fun _ => ?_)
    | with_reducible apply State.putB_keeps
    | with_reducible apply State.putI_keeps
    | split
    | dsimp -zeta only)

theorem State.hallShow_keeps {s0 : State} (s : State) (t : Nat) (h : Keeps s0 s) : Keeps s0 (State.hallShow s t) := by
  unfold State.hallShow
  repeat' (first
    | with_reducible assumption
    | (simp -zeta only [Keeps.mk_iff]; with_reducible refine KeepsParts.of ?_ rfl rfl (Nat.le_refl _) rfl rfl)
    | ((fail_if_success (conv => arg 2; congr)); extract_lets +onlyGivenNames x; first | (have hx : Keeps s0 x := ?_; (on_goal 2 => dsimp -zeta only [x]); (on_goal 1 => clear_value x)) | (have hx : Keeps s0 x.1 := ?_; (on_goal 2 => dsimp -zeta only [x]); (on_goal 1 => clear_value x)) | clear_value x)
    | with_reducible refine Keeps.ite (fun _ => ?_) (fun _ => ?_)
    | with_reducible apply State.put_keeps
    | with_reducible apply State.putI_keeps
    | split
    | dsimp -zeta only)

theorem State.fineSums_keeps {s0 : State} (s : State) (c1 c2 chMV : Int) (volts : List Int) (h : Keeps s0 s) : Keeps s0 (State.fineSums s c1 c2 chMV volts) := by
  unfold State.fineSums
  repeat' (first
    | with_reducible assumption
    | (simp -zeta only [Keeps.mk_iff]; with_reducible refine KeepsParts.of ?_ rfl rfl (Nat.le_refl _) rfl rfl)
    | ((fail_if_success (conv => arg 2; congr)); extract_lets +onlyGivenNames x; first | (have hx : Keeps s0 x := ?_; (on_goal 2 => dsimp -zeta only [x]); (on_goal 1 => clear_value x)) | (have hx : Keeps s0 x.1 := ?_; (on_goal 2 => dsimp -zeta only [x]); (on_goal 1 => clear_value x)) | clear_value x)
    | with_reducible refine Keeps.ite (fun _ => ?_) (fun _ => ?_)
    | split
    | dsimp -zeta only)

theorem State.hvDeliver_keeps {s0 : State} (s : State) (t : Nat) (set : SampleSet) (isFine show_ : Bool) (h : Keeps s0 s) :
    Keeps s0 (State.hvDeliver s t set isFine show_).1 := by
  unfold State.hvDeliver
  dsimp only
  repeat' (first
    | with_reducible assumption
    | with_reducible refine Keeps.ite (fun _ => ?_) (fun _ => ?_)
    | (simp only [Keeps.mk_iff]; with_reducible refine KeepsParts.of ?_ rfl rfl (Nat.le_refl _) rfl rfl)
    | with_reducible apply State.raiseIf_keeps
    | with_reducible apply State.hallShow_keeps
    | with_reducible apply State.shuntShow_keeps
    | with_reducible apply State.fineSums_keeps
    | with_reducible apply State.put_keeps
    | with_reducible apply State.putB_keeps
    | with_reducible apply State.putI_keeps
    | with_reducible apply State.putSatI_keeps
    | (with_reducible apply Keeps.foldl; on_goal 2 => (intro x y hx; try dsimp only)))

theorem State.hallSample_keeps {s0 : State} (s : State) (code : Nat) (h : Keeps s0 s) : Keeps s0 (State.hallSample s code) := by
  unfold State.hallSample
  repeat' (first
    | with_reducible assumption
    | (simp -zeta only [Keeps.mk_iff]; with_reducible refine KeepsParts.of ?_ rfl rfl (Nat.le_refl _) rfl rfl)
    | ((fail_if_success (conv => arg 2; congr)); extract_lets +onlyGivenNames x; first | (have hx : Keeps s0 x := ?_; (on_goal 2 => dsimp -zeta only [x]); (on_goal 1 => clear_value x)) | (have hx : Keeps s0 x.1 := ?_; (on_goal 2 => dsimp -zeta only [x]); (on_goal 1 => clear_value x)) | clear_value x)
    | with_reducible refine Keeps.ite (fun _ => ?_) (fun _ => ?_)
    | split
    | dsimp -zeta only)

theorem State.ishCheck_keeps {s0 : State} (s : State) (run : Nat) (h : Keeps s0 s) : Keeps s0 (State.ishCheck s run) := by
  unfold State.ishCheck
  repeat' (first
    | with_reducible assumption
    | (simp -zeta only [Keeps.mk_iff]; with_reducible refine KeepsParts.of ?_ rfl rfl (Nat.le_refl _) rfl rfl)
    | ((fail_if_success (conv => arg 2; congr)); extract_lets +onlyGivenNames x; first | (have hx : Keeps s0 x := ?_; (on_goal 2 => dsimp -zeta only [x]); (on_goal 1 => clear_value x)) | (have hx : Keeps s0 x.1 := ?_; (on_goal 2 => dsimp -zeta only [x]); (on_goal 1 => clear_value x)) | clear_value x)
    | with_reducible refine Keeps.ite (fun _ => ?_) (fun _ => ?_)
    | with_reducible apply State.putB_keeps
    | with_reducible apply State.raise_keeps
    | split
    | dsimp -zeta only)

theorem State.hallCheck_keeps {s0 : State} (s : State) (k : Ipk) (h : Keeps s0 s) : Keeps s0 (State.hallCheck s k) := by
  unfold State.hallCheck
  repeat' (first
    | with_reducible assumption
    | (simp -zeta only [Keeps.mk_iff]; with_reducible refine KeepsParts.of ?_ rfl rfl (Nat.le_refl _) rfl rfl)
    | ((fail_if_success (conv => arg 2; congr)); extract_lets +onlyGivenNames x; first | (have hx : Keeps s0 x := ?_; (on_goal 2 => dsimp -zeta only [x]); (on_goal 1 => clear_value x)) | (have hx : Keeps s0 x.1 := ?_; (on_goal 2 => dsimp -zeta only [x]); (on_goal 1 => clear_value x)) | clear_value x)
    | with_reducible refine Keeps.ite (fun _ => ?_) (fun _ => ?_)
    | with_reducible apply State.putB_keeps
    | with_reducible apply State.raise_keeps
    | with_reducible apply State.raiseIf_keeps
    | split
    | dsimp -zeta only)

theorem State.ipkFrame_keeps {s0 : State} (s : State) (h : Keeps s0 s) : Keeps s0 (State.ipkFrame s) := by
  unfold State.ipkFrame
  repeat' (first
    | with_reducible assumption
    | (simp -zeta only [Keeps.mk_iff]; with_reducible refine KeepsParts.of ?_ rfl rfl (Nat.le_refl _) rfl rfl)
    | ((fail_if_success (conv => arg 2; congr)); extract_lets +onlyGivenNames x; first | (have hx : Keeps s0 x := ?_; (on_goal 2 => dsimp -zeta only [x]); (on_goal 1 => clear_value x)) | (have hx : Keeps s0 x.1 := ?_; (on_goal 2 => dsimp -zeta only [x]); (on_goal 1 => clear_value x)) | clear_value x)
    | with_reducible refine Keeps.ite (fun _ => ?_) (fun _ => ?_)
    | with_reducible apply State.putI_keeps
    | with_reducible apply State.ishCheck_keeps
    | with_reducible apply State.hallCheck_keeps
    | split
    | dsimp -zeta only)

theorem State.chassisFrame_keeps {s0 : State} (s : State) (h : Keeps s0 s) : Keeps s0 (State.chassisFrame s) := by
  unfold State.chassisFrame
  repeat' (first
    | with_reducible assumption
    | (simp -zeta only [Keeps.mk_iff]; with_reducible refine KeepsParts.of ?_ rfl rfl (Nat.le_refl _) rfl rfl)
    | ((fail_if_success (conv => arg 2; congr)); extract_lets +onlyGivenNames x; first | (have hx : Keeps s0 x := ?_; (on_goal 2 => dsimp -zeta only [x]); (on_goal 1 => clear_value x)) | (have hx : Keeps s0 x.1 := ?_; (on_goal 2 => dsimp -zeta only [x]); (on_goal 1 => clear_value x)) | clear_value x)
    | with_reducible refine Keeps.ite (fun _ => ?_) (fun _ => ?_)
    | with_reducible apply State.putB_keeps
    | with_reducible apply State.putSatI_keeps
    | with_reducible apply State.nextFree_keeps
    | with_reducible apply State.raise_keeps
    | split
    | dsimp -zeta only)

theorem State.ocShow_keeps {s0 : State} (s : State) (h : Keeps s0 s) : Keeps s0 (State.ocShow s) := by
  unfold State.ocShow
  repeat' (first
    | with_reducible assumption
    | (simp -zeta only [Keeps.mk_iff]; with_reducible refine KeepsParts.of ?_ rfl rfl (Nat.le_refl _) rfl rfl)
    | ((fail_if_success (conv => arg 2; congr)); extract_lets +onlyGivenNames x; first | (have hx : Keeps s0 x := ?_; (on_goal 2 => dsimp -zeta only [x]); (on_goal 1 => clear_value x)) | (have hx : Keeps s0 x.1 := ?_; (on_goal 2 => dsimp -zeta only [x]); (on_goal 1 => clear_value x)) | clear_value x)
    | with_reducible refine Keeps.ite (fun _ => ?_) (fun _ => ?_)
    | with_reducible apply State.putB_keeps
    | split
    | dsimp -zeta only)

theorem execOcComparatorCrossing_keeps {s0 : State} (discharge copyY : Bool) (uv : Int) (s : State) (h : Keeps s0 s) : KeepsR s0 (execOcComparatorCrossing discharge copyY uv s) := by
  unfold execOcComparatorCrossing
  repeat' (first
    | with_reducible assumption
    | (simp -zeta only [Keeps.mk_iff]; with_reducible refine KeepsParts.of ?_ rfl rfl (Nat.le_refl _) rfl rfl)
    | ((fail_if_success (conv => arg 2; congr)); extract_lets +onlyGivenNames x; first | (have hx : Keeps s0 x := ?_; (on_goal 2 => dsimp -zeta only [x]); (on_goal 1 => clear_value x)) | (have hx : Keeps s0 x.1 := ?_; (on_goal 2 => dsimp -zeta only [x]); (on_goal 1 => clear_value x)) | clear_value x)
    | with_reducible refine Keeps.ite (fun _ => ?_) (fun _ => ?_)
    | with_reducible refine KeepsR.ite (fun _ => ?_) (fun _ => ?_)
    | with_reducible apply KeepsR.next
    | with_reducible apply State.ocShow_keeps
    | split
    | dsimp -zeta only)

theorem State.ocOff_keeps {s0 : State} (s : State) (h : Keeps s0 s) : Keeps s0 (State.ocOff s) := by
  unfold State.ocOff
  repeat' (first
    | with_reducible assumption
    | (simp -zeta only [Keeps.mk_iff]; with_reducible refine KeepsParts.of ?_ rfl rfl (Nat.le_refl _) rfl rfl)
    | ((fail_if_success (conv => arg 2; congr)); extract_lets +onlyGivenNames x; first | (have hx : Keeps s0 x := ?_; (on_goal 2 => dsimp -zeta only [x]); (on_goal 1 => clear_value x)) | (have hx : Keeps s0 x.1 := ?_; (on_goal 2 => dsimp -zeta only [x]); (on_goal 1 => clear_value x)) | clear_value x)
    | with_reducible refine Keeps.ite (fun _ => ?_) (fun _ => ?_)
    | with_reducible apply State.ocShow_keeps
    | split
    | dsimp -zeta only)

theorem execOcGlitchFilterExpiry_keeps {s0 : State} (discharge copyY : Bool) (s : State) (h : Keeps s0 s) : KeepsR s0 (execOcGlitchFilterExpiry discharge copyY s) := by
  unfold execOcGlitchFilterExpiry
  repeat' (first
    | with_reducible assumption
    | (simp -zeta only [Keeps.mk_iff]; with_reducible refine KeepsParts.of ?_ rfl rfl (Nat.le_refl _) rfl rfl)
    | ((fail_if_success (conv => arg 2; congr)); extract_lets +onlyGivenNames x; first | (have hx : Keeps s0 x := ?_; (on_goal 2 => dsimp -zeta only [x]); (on_goal 1 => clear_value x)) | (have hx : Keeps s0 x.1 := ?_; (on_goal 2 => dsimp -zeta only [x]); (on_goal 1 => clear_value x)) | clear_value x)
    | with_reducible refine Keeps.ite (fun _ => ?_) (fun _ => ?_)
    | with_reducible refine KeepsR.ite (fun _ => ?_) (fun _ => ?_)
    | with_reducible apply KeepsR.next
    | with_reducible apply State.advanceTo_keeps
    | with_reducible apply State.raiseIf_keeps
    | with_reducible apply State.protect_keeps
    | split
    | dsimp -zeta only)

theorem execOcSelftestStart_keeps {s0 : State} (s : State) (h : Keeps s0 s) : KeepsR s0 (execOcSelftestStart s) := by
  unfold execOcSelftestStart
  repeat' (first
    | with_reducible assumption
    | (simp -zeta only [Keeps.mk_iff]; with_reducible refine KeepsParts.of ?_ rfl rfl (Nat.le_refl _) rfl rfl)
    | ((fail_if_success (conv => arg 2; congr)); extract_lets +onlyGivenNames x; first | (have hx : Keeps s0 x := ?_; (on_goal 2 => dsimp -zeta only [x]); (on_goal 1 => clear_value x)) | (have hx : Keeps s0 x.1 := ?_; (on_goal 2 => dsimp -zeta only [x]); (on_goal 1 => clear_value x)) | clear_value x)
    | with_reducible refine Keeps.ite (fun _ => ?_) (fun _ => ?_)
    | with_reducible refine KeepsR.ite (fun _ => ?_) (fun _ => ?_)
    | with_reducible apply KeepsR.next
    | with_reducible apply State.advanceTo_keeps
    | split
    | dsimp -zeta only)

theorem execOcSelftestEnd_keeps {s0 : State} (trippedChg trippedDis : Bool) (s : State) (h : Keeps s0 s) : KeepsR s0 (execOcSelftestEnd trippedChg trippedDis s) := by
  unfold execOcSelftestEnd
  repeat' (first
    | with_reducible assumption
    | (simp -zeta only [Keeps.mk_iff]; with_reducible refine KeepsParts.of ?_ rfl rfl (Nat.le_refl _) rfl rfl)
    | ((fail_if_success (conv => arg 2; congr)); extract_lets +onlyGivenNames x; first | (have hx : Keeps s0 x := ?_; (on_goal 2 => dsimp -zeta only [x]); (on_goal 1 => clear_value x)) | (have hx : Keeps s0 x.1 := ?_; (on_goal 2 => dsimp -zeta only [x]); (on_goal 1 => clear_value x)) | clear_value x)
    | with_reducible refine Keeps.ite (fun _ => ?_) (fun _ => ?_)
    | with_reducible refine KeepsR.ite (fun _ => ?_) (fun _ => ?_)
    | with_reducible apply KeepsR.next
    | with_reducible apply State.advanceTo_keeps
    | with_reducible apply State.raiseIf_keeps
    | split
    | dsimp -zeta only)

theorem State.cellStat_keeps {s0 : State} (s : State) (h : Keeps s0 s) : Keeps s0 (State.cellStat s) := by
  unfold State.cellStat
  repeat' (first
    | with_reducible assumption
    | (simp -zeta only [Keeps.mk_iff]; with_reducible refine KeepsParts.of ?_ rfl rfl (Nat.le_refl _) rfl rfl)
    | ((fail_if_success (conv => arg 2; congr)); extract_lets +onlyGivenNames x; first | (have hx : Keeps s0 x := ?_; (on_goal 2 => dsimp -zeta only [x]); (on_goal 1 => clear_value x)) | (have hx : Keeps s0 x.1 := ?_; (on_goal 2 => dsimp -zeta only [x]); (on_goal 1 => clear_value x)) | clear_value x)
    | with_reducible refine Keeps.ite (fun _ => ?_) (fun _ => ?_)
    | with_reducible apply State.putB_keeps
    | split
    | dsimp -zeta only)

theorem State.barrierFault_keeps {s0 : State} (s : State) (byPause : Bool) (h : Keeps s0 s) : Keeps s0 (State.barrierFault s byPause) := by
  unfold State.barrierFault
  repeat' (first
    | with_reducible assumption
    | (simp -zeta only [Keeps.mk_iff]; with_reducible refine KeepsParts.of ?_ rfl rfl (Nat.le_refl _) rfl rfl)
    | ((fail_if_success (conv => arg 2; congr)); extract_lets +onlyGivenNames x; first | (have hx : Keeps s0 x := ?_; (on_goal 2 => dsimp -zeta only [x]); (on_goal 1 => clear_value x)) | (have hx : Keeps s0 x.1 := ?_; (on_goal 2 => dsimp -zeta only [x]); (on_goal 1 => clear_value x)) | clear_value x)
    | with_reducible refine Keeps.ite (fun _ => ?_) (fun _ => ?_)
    | with_reducible apply State.raise_keeps
    | with_reducible apply State.protect_keeps
    | with_reducible apply State.monitorFault_keeps
    | with_reducible apply State.cellStat_keeps
    | split
    | dsimp -zeta only)

theorem State.setLost_keeps {s0 : State} (s : State) (t : Nat) (h : Keeps s0 s) : Keeps s0 (State.setLost s t) := by
  unfold State.setLost
  extract_lets inOw atTs e1 e2 u v
  have hu : Keeps s0 u := h.upd rfl rfl (Nat.le_refl _) rfl rfl
  have hv : Keeps s0 v := State.eisGap_keeps _ (State.raise_keeps hu _)
  exact Keeps.ite (fun _ => State.barrierFault_keeps _ _ hv) (fun _ => hv)

theorem State.setGood_keeps {s0 : State} (s : State) (h : Keeps s0 s) : Keeps s0 (State.setGood s) := by
  unfold State.setGood
  repeat' (first
    | with_reducible assumption
    | (simp -zeta only [Keeps.mk_iff]; with_reducible refine KeepsParts.of ?_ rfl rfl (Nat.le_refl _) rfl rfl)
    | ((fail_if_success (conv => arg 2; congr)); extract_lets +onlyGivenNames x; first | (have hx : Keeps s0 x := ?_; (on_goal 2 => dsimp -zeta only [x]); (on_goal 1 => clear_value x)) | (have hx : Keeps s0 x.1 := ?_; (on_goal 2 => dsimp -zeta only [x]); (on_goal 1 => clear_value x)) | clear_value x)
    | with_reducible refine Keeps.ite (fun _ => ?_) (fun _ => ?_)
    | with_reducible apply State.cellStat_keeps
    | split
    | dsimp -zeta only)

theorem State.refCheck_keeps {s0 : State} (s : State) (ppm : Int) (h : Keeps s0 s) : Keeps s0 (State.refCheck s ppm) := by
  unfold State.refCheck
  repeat' (first
    | with_reducible assumption
    | (simp -zeta only [Keeps.mk_iff]; with_reducible refine KeepsParts.of ?_ rfl rfl (Nat.le_refl _) rfl rfl)
    | ((fail_if_success (conv => arg 2; congr)); extract_lets +onlyGivenNames x; first | (have hx : Keeps s0 x := ?_; (on_goal 2 => dsimp -zeta only [x]); (on_goal 1 => clear_value x)) | (have hx : Keeps s0 x.1 := ?_; (on_goal 2 => dsimp -zeta only [x]); (on_goal 1 => clear_value x)) | clear_value x)
    | with_reducible refine Keeps.ite (fun _ => ?_) (fun _ => ?_)
    | with_reducible apply State.putSatI_keeps
    | with_reducible apply State.raise_keeps
    | with_reducible apply State.monitorFault_keeps
    | with_reducible apply State.cellStat_keeps
    | split
    | dsimp -zeta only)

theorem State.segCheck_keeps {s0 : State} (s : State) (mv : Int) (h : Keeps s0 s) : Keeps s0 (State.segCheck s mv) := by
  unfold State.segCheck
  repeat' (first
    | with_reducible assumption
    | (simp -zeta only [Keeps.mk_iff]; with_reducible refine KeepsParts.of ?_ rfl rfl (Nat.le_refl _) rfl rfl)
    | ((fail_if_success (conv => arg 2; congr)); extract_lets +onlyGivenNames x; first | (have hx : Keeps s0 x := ?_; (on_goal 2 => dsimp -zeta only [x]); (on_goal 1 => clear_value x)) | (have hx : Keeps s0 x.1 := ?_; (on_goal 2 => dsimp -zeta only [x]); (on_goal 1 => clear_value x)) | clear_value x)
    | with_reducible refine Keeps.ite (fun _ => ?_) (fun _ => ?_)
    | with_reducible apply State.putSatI_keeps
    | with_reducible apply State.raiseIf_keeps
    | with_reducible apply State.cellStat_keeps
    | (with_reducible apply Keeps.foldl; on_goal 2 => (intro x y hx; try dsimp -zeta only))
    | split
    | dsimp -zeta only)

theorem State.unpopCheck_keeps {s0 : State} (s : State) (h : Keeps s0 s) : Keeps s0 (State.unpopCheck s) := by
  unfold State.unpopCheck
  repeat' (first
    | with_reducible assumption
    | (simp -zeta only [Keeps.mk_iff]; with_reducible refine KeepsParts.of ?_ rfl rfl (Nat.le_refl _) rfl rfl)
    | ((fail_if_success (conv => arg 2; congr)); extract_lets +onlyGivenNames x; first | (have hx : Keeps s0 x := ?_; (on_goal 2 => dsimp -zeta only [x]); (on_goal 1 => clear_value x)) | (have hx : Keeps s0 x.1 := ?_; (on_goal 2 => dsimp -zeta only [x]); (on_goal 1 => clear_value x)) | clear_value x)
    | with_reducible refine Keeps.ite (fun _ => ?_) (fun _ => ?_)
    | with_reducible apply State.raise_keeps
    | split
    | dsimp -zeta only)

theorem State.owSample_keeps {s0 : State} (s : State) (t : Nat) (h : Keeps s0 s) : Keeps s0 (State.owSample s t) := by
  unfold State.owSample
  repeat' (first
    | with_reducible assumption
    | (simp -zeta only [Keeps.mk_iff]; with_reducible refine KeepsParts.of ?_ rfl rfl (Nat.le_refl _) rfl rfl)
    | ((fail_if_success (conv => arg 2; congr)); extract_lets +onlyGivenNames x; first | (have hx : Keeps s0 x := ?_; (on_goal 2 => dsimp -zeta only [x]); (on_goal 1 => clear_value x)) | (have hx : Keeps s0 x.1 := ?_; (on_goal 2 => dsimp -zeta only [x]); (on_goal 1 => clear_value x)) | clear_value x)
    | with_reducible refine Keeps.ite (fun _ => ?_) (fun _ => ?_)
    | split
    | dsimp -zeta only)

theorem State.satSeen_keeps {s0 : State} (s : State) (cells : List (Int × Bool)) (h : Keeps s0 s) : Keeps s0 (State.satSeen s cells) := by
  unfold State.satSeen
  repeat' (first
    | with_reducible assumption
    | (simp -zeta only [Keeps.mk_iff]; with_reducible refine KeepsParts.of ?_ rfl rfl (Nat.le_refl _) rfl rfl)
    | ((fail_if_success (conv => arg 2; congr)); extract_lets +onlyGivenNames x; first | (have hx : Keeps s0 x := ?_; (on_goal 2 => dsimp -zeta only [x]); (on_goal 1 => clear_value x)) | (have hx : Keeps s0 x.1 := ?_; (on_goal 2 => dsimp -zeta only [x]); (on_goal 1 => clear_value x)) | clear_value x)
    | with_reducible refine Keeps.ite (fun _ => ?_) (fun _ => ?_)
    | with_reducible apply State.put_keeps
    | with_reducible apply State.raiseIf_keeps
    | split
    | dsimp -zeta only)

theorem State.showCells_keeps {s0 : State} (s : State) (t : Nat) (cells : List (Int × Bool)) (flags : List Nat) (h : Keeps s0 s) : Keeps s0 (State.showCells s t cells flags) := by
  unfold State.showCells
  repeat' (first
    | with_reducible assumption
    | (simp -zeta only [Keeps.mk_iff]; with_reducible refine KeepsParts.of ?_ rfl rfl (Nat.le_refl _) rfl rfl)
    | ((fail_if_success (conv => arg 2; congr)); extract_lets +onlyGivenNames x; first | (have hx : Keeps s0 x := ?_; (on_goal 2 => dsimp -zeta only [x]); (on_goal 1 => clear_value x)) | (have hx : Keeps s0 x.1 := ?_; (on_goal 2 => dsimp -zeta only [x]); (on_goal 1 => clear_value x)) | clear_value x)
    | with_reducible refine Keeps.ite (fun _ => ?_) (fun _ => ?_)
    | with_reducible apply State.setWord_keeps
    | with_reducible apply State.put_keeps
    | with_reducible apply State.satSeen_keeps
    | (with_reducible apply Keeps.foldl; on_goal 2 => (intro x y hx; try dsimp -zeta only))
    | split
    | dsimp -zeta only)

theorem State.bufferSet_keeps {s0 : State} (s : State) (p : SetPacket) (h : Keeps s0 s) : Keeps s0 (State.bufferSet s p) := by
  unfold State.bufferSet
  repeat' (first
    | with_reducible assumption
    | (simp -zeta only [Keeps.mk_iff]; with_reducible refine KeepsParts.of ?_ rfl rfl (Nat.le_refl _) rfl rfl)
    | ((fail_if_success (conv => arg 2; congr)); extract_lets +onlyGivenNames x; first | (have hx : Keeps s0 x := ?_; (on_goal 2 => dsimp -zeta only [x]); (on_goal 1 => clear_value x)) | (have hx : Keeps s0 x.1 := ?_; (on_goal 2 => dsimp -zeta only [x]); (on_goal 1 => clear_value x)) | clear_value x)
    | with_reducible refine Keeps.ite (fun _ => ?_) (fun _ => ?_)
    | with_reducible apply State.send_keeps
    | split
    | dsimp -zeta only)

theorem State.fineChecks_keeps {s0 : State} (s : State) (t : Nat) (x : SampleSet) (h : Keeps s0 s) : Keeps s0 (State.fineChecks s t x) := by
  unfold State.fineChecks
  repeat' (first
    | with_reducible assumption
    | (simp -zeta only [Keeps.mk_iff]; with_reducible refine KeepsParts.of ?_ rfl rfl (Nat.le_refl _) rfl rfl)
    | ((fail_if_success (conv => arg 2; congr)); extract_lets +onlyGivenNames x; first | (have hx : Keeps s0 x := ?_; (on_goal 2 => dsimp -zeta only [x]); (on_goal 1 => clear_value x)) | (have hx : Keeps s0 x.1 := ?_; (on_goal 2 => dsimp -zeta only [x]); (on_goal 1 => clear_value x)) | clear_value x)
    | with_reducible refine Keeps.ite (fun _ => ?_) (fun _ => ?_)
    | with_reducible apply State.refCheck_keeps
    | with_reducible apply State.segCheck_keeps
    | with_reducible apply State.unpopCheck_keeps
    | with_reducible apply State.owSample_keeps
    | with_reducible apply State.satSeen_keeps
    | split
    | dsimp -zeta only)

theorem State.deliverMode_keeps {s0 : State} (s : State) (x : SampleSet) (h : Keeps s0 s) : Keeps s0 (State.deliverMode s x) := by
  unfold State.deliverMode
  repeat' (first
    | with_reducible assumption
    | (simp -zeta only [Keeps.mk_iff]; with_reducible refine KeepsParts.of ?_ rfl rfl (Nat.le_refl _) rfl rfl)
    | ((fail_if_success (conv => arg 2; congr)); extract_lets +onlyGivenNames x; first | (have hx : Keeps s0 x := ?_; (on_goal 2 => dsimp -zeta only [x]); (on_goal 1 => clear_value x)) | (have hx : Keeps s0 x.1 := ?_; (on_goal 2 => dsimp -zeta only [x]); (on_goal 1 => clear_value x)) | clear_value x)
    | with_reducible refine Keeps.ite (fun _ => ?_) (fun _ => ?_)
    | with_reducible apply State.isoIncomplete_keeps
    | with_reducible apply State.settle_keeps
    | with_reducible apply State.eisAccumulate_keeps
    | with_reducible apply State.protect_keeps
    | with_reducible apply State.monitorSet_keeps
    | with_reducible apply State.blockSample_keeps
    | with_reducible apply State.showCells_keeps
    | with_reducible apply State.bufferSet_keeps
    | with_reducible apply State.fineChecks_keeps
    | with_reducible apply State.hvDeliver_keeps
    | split
    | dsimp -zeta only)

theorem State.deliverSet_keeps {s0 : State} (s : State) (x : SampleSet) (h : Keeps s0 s) : Keeps s0 (State.deliverSet s x) := by
  unfold State.deliverSet
  repeat' (first
    | with_reducible assumption
    | (simp -zeta only [Keeps.mk_iff]; with_reducible refine KeepsParts.of ?_ rfl rfl (Nat.le_refl _) rfl rfl)
    | ((fail_if_success (conv => arg 2; congr)); extract_lets +onlyGivenNames x; first | (have hx : Keeps s0 x := ?_; (on_goal 2 => dsimp -zeta only [x]); (on_goal 1 => clear_value x)) | (have hx : Keeps s0 x.1 := ?_; (on_goal 2 => dsimp -zeta only [x]); (on_goal 1 => clear_value x)) | clear_value x)
    | with_reducible refine Keeps.ite (fun _ => ?_) (fun _ => ?_)
    | with_reducible apply State.settle_keeps
    | with_reducible apply State.protect_keeps
    | with_reducible apply State.fineChecks_keeps
    | with_reducible apply State.deliverMode_keeps
    | with_reducible apply State.hvDeliver_keeps
    | split
    | dsimp -zeta only)

theorem execSampleSetArrival_keeps {s0 : State} (set : SampleSet) (s : State) (h : Keeps s0 s) : KeepsR s0 (execSampleSetArrival set s) := by
  unfold execSampleSetArrival
  repeat' (first
    | with_reducible assumption
    | (simp -zeta only [Keeps.mk_iff]; with_reducible refine KeepsParts.of ?_ rfl rfl (Nat.le_refl _) rfl rfl)
    | ((fail_if_success (conv => arg 2; congr)); extract_lets +onlyGivenNames x; first | (have hx : Keeps s0 x := ?_; (on_goal 2 => dsimp -zeta only [x]); (on_goal 1 => clear_value x)) | (have hx : Keeps s0 x.1 := ?_; (on_goal 2 => dsimp -zeta only [x]); (on_goal 1 => clear_value x)) | clear_value x)
    | with_reducible refine Keeps.ite (fun _ => ?_) (fun _ => ?_)
    | with_reducible refine KeepsR.ite (fun _ => ?_) (fun _ => ?_)
    | with_reducible apply KeepsR.next
    | with_reducible apply State.advanceTo_keeps
    | with_reducible apply State.setLost_keeps
    | with_reducible apply State.setGood_keeps
    | with_reducible apply State.deliverSet_keeps
    | split
    | dsimp -zeta only)

theorem execSampleSetMissing_keeps {s0 : State} (instant : Nat) (s : State) (h : Keeps s0 s) : KeepsR s0 (execSampleSetMissing instant s) := by
  unfold execSampleSetMissing
  repeat' (first
    | with_reducible assumption
    | (simp -zeta only [Keeps.mk_iff]; with_reducible refine KeepsParts.of ?_ rfl rfl (Nat.le_refl _) rfl rfl)
    | ((fail_if_success (conv => arg 2; congr)); extract_lets +onlyGivenNames x; first | (have hx : Keeps s0 x := ?_; (on_goal 2 => dsimp -zeta only [x]); (on_goal 1 => clear_value x)) | (have hx : Keeps s0 x.1 := ?_; (on_goal 2 => dsimp -zeta only [x]); (on_goal 1 => clear_value x)) | clear_value x)
    | with_reducible refine Keeps.ite (fun _ => ?_) (fun _ => ?_)
    | with_reducible refine KeepsR.ite (fun _ => ?_) (fun _ => ?_)
    | with_reducible apply KeepsR.next
    | with_reducible apply State.advanceTo_keeps
    | with_reducible apply State.setLost_keeps
    | split
    | dsimp -zeta only)

theorem execTransformerSupplyFailure_keeps {s0 : State} (s : State) (h : Keeps s0 s) : KeepsR s0 (execTransformerSupplyFailure s) := by
  unfold execTransformerSupplyFailure
  repeat' (first
    | with_reducible assumption
    | (simp -zeta only [Keeps.mk_iff]; with_reducible refine KeepsParts.of ?_ rfl rfl (Nat.le_refl _) rfl rfl)
    | ((fail_if_success (conv => arg 2; congr)); extract_lets +onlyGivenNames x; first | (have hx : Keeps s0 x := ?_; (on_goal 2 => dsimp -zeta only [x]); (on_goal 1 => clear_value x)) | (have hx : Keeps s0 x.1 := ?_; (on_goal 2 => dsimp -zeta only [x]); (on_goal 1 => clear_value x)) | clear_value x)
    | with_reducible refine Keeps.ite (fun _ => ?_) (fun _ => ?_)
    | with_reducible refine KeepsR.ite (fun _ => ?_) (fun _ => ?_)
    | with_reducible apply KeepsR.next
    | with_reducible apply State.openSwitches_keeps
    | with_reducible apply State.barrierFault_keeps
    | split
    | dsimp -zeta only)

theorem State.isoDriveCheck_keeps {s0 : State} (s : State) (driveUA driveMV : Nat) (h : Keeps s0 s) : Keeps s0 (State.isoDriveCheck s driveUA driveMV) := by
  unfold State.isoDriveCheck
  repeat' (first
    | with_reducible assumption
    | (simp -zeta only [Keeps.mk_iff]; with_reducible refine KeepsParts.of ?_ rfl rfl (Nat.le_refl _) rfl rfl)
    | ((fail_if_success (conv => arg 2; congr)); extract_lets +onlyGivenNames x; first | (have hx : Keeps s0 x := ?_; (on_goal 2 => dsimp -zeta only [x]); (on_goal 1 => clear_value x)) | (have hx : Keeps s0 x.1 := ?_; (on_goal 2 => dsimp -zeta only [x]); (on_goal 1 => clear_value x)) | clear_value x)
    | with_reducible refine Keeps.ite (fun _ => ?_) (fun _ => ?_)
    | with_reducible apply State.raise_keeps
    | with_reducible apply State.isoIncomplete_keeps
    | split
    | dsimp -zeta only)

theorem execSampleInstant_keeps {s0 : State} (offset hall driveUA driveMV : Nat) (s : State) (h : Keeps s0 s) : KeepsR s0 (execSampleInstant offset hall driveUA driveMV s) := by
  unfold execSampleInstant
  repeat' (first
    | with_reducible assumption
    | (simp -zeta only [Keeps.mk_iff]; with_reducible refine KeepsParts.of ?_ rfl rfl (Nat.le_refl _) rfl rfl)
    | ((fail_if_success (conv => arg 2; congr)); extract_lets +onlyGivenNames x; first | (have hx : Keeps s0 x := ?_; (on_goal 2 => dsimp -zeta only [x]); (on_goal 1 => clear_value x)) | (have hx : Keeps s0 x.1 := ?_; (on_goal 2 => dsimp -zeta only [x]); (on_goal 1 => clear_value x)) | clear_value x)
    | with_reducible refine Keeps.ite (fun _ => ?_) (fun _ => ?_)
    | with_reducible refine KeepsR.ite (fun _ => ?_) (fun _ => ?_)
    | with_reducible apply KeepsR.next
    | with_reducible apply State.advanceTo_keeps
    | with_reducible apply State.chooseOn_keeps
    | with_reducible apply State.settle_keeps
    | with_reducible apply State.hallSample_keeps
    | with_reducible apply State.isoDriveCheck_keeps
    | split
    | dsimp -zeta only)

theorem execOpenWireRequest_keeps {s0 : State} (_ini : Ini) (s : State) (h : Keeps s0 s) : KeepsR s0 (execOpenWireRequest _ini s) := by
  unfold execOpenWireRequest
  repeat' (first
    | with_reducible assumption
    | (simp -zeta only [Keeps.mk_iff]; with_reducible refine KeepsParts.of ?_ rfl rfl (Nat.le_refl _) rfl rfl)
    | ((fail_if_success (conv => arg 2; congr)); extract_lets +onlyGivenNames x; first | (have hx : Keeps s0 x := ?_; (on_goal 2 => dsimp -zeta only [x]); (on_goal 1 => clear_value x)) | (have hx : Keeps s0 x.1 := ?_; (on_goal 2 => dsimp -zeta only [x]); (on_goal 1 => clear_value x)) | clear_value x)
    | with_reducible refine Keeps.ite (fun _ => ?_) (fun _ => ?_)
    | with_reducible refine KeepsR.ite (fun _ => ?_) (fun _ => ?_)
    | with_reducible apply KeepsR.next
    | with_reducible apply State.submit_keeps
    | with_reducible apply State.settle_keeps
    | split
    | dsimp -zeta only)

theorem execOpenWireStart_keeps {s0 : State} (s : State) (h : Keeps s0 s) : KeepsR s0 (execOpenWireStart s) := by
  unfold execOpenWireStart
  repeat' (first
    | with_reducible assumption
    | (simp -zeta only [Keeps.mk_iff]; with_reducible refine KeepsParts.of ?_ rfl rfl (Nat.le_refl _) rfl rfl)
    | ((fail_if_success (conv => arg 2; congr)); extract_lets +onlyGivenNames x; first | (have hx : Keeps s0 x := ?_; (on_goal 2 => dsimp -zeta only [x]); (on_goal 1 => clear_value x)) | (have hx : Keeps s0 x.1 := ?_; (on_goal 2 => dsimp -zeta only [x]); (on_goal 1 => clear_value x)) | clear_value x)
    | with_reducible refine Keeps.ite (fun _ => ?_) (fun _ => ?_)
    | with_reducible refine KeepsR.ite (fun _ => ?_) (fun _ => ?_)
    | with_reducible apply KeepsR.next
    | with_reducible apply State.put_keeps
    | with_reducible apply State.advanceTo_keeps
    | split
    | dsimp -zeta only)

theorem execOpenWirePhase_keeps {s0 : State} (s : State) (h : Keeps s0 s) : KeepsR s0 (execOpenWirePhase s) := by
  unfold execOpenWirePhase
  repeat' (first
    | with_reducible assumption
    | (simp -zeta only [Keeps.mk_iff]; with_reducible refine KeepsParts.of ?_ rfl rfl (Nat.le_refl _) rfl rfl)
    | ((fail_if_success (conv => arg 2; congr)); extract_lets +onlyGivenNames x; first | (have hx : Keeps s0 x := ?_; (on_goal 2 => dsimp -zeta only [x]); (on_goal 1 => clear_value x)) | (have hx : Keeps s0 x.1 := ?_; (on_goal 2 => dsimp -zeta only [x]); (on_goal 1 => clear_value x)) | clear_value x)
    | with_reducible refine Keeps.ite (fun _ => ?_) (fun _ => ?_)
    | with_reducible refine KeepsR.ite (fun _ => ?_) (fun _ => ?_)
    | with_reducible apply KeepsR.next
    | with_reducible apply State.advanceTo_keeps
    | split
    | dsimp -zeta only)

theorem execOpenWireEnd_keeps {s0 : State} (s : State) (h : Keeps s0 s) : KeepsR s0 (execOpenWireEnd s) := by
  unfold execOpenWireEnd
  repeat' (first
    | with_reducible assumption
    | (simp -zeta only [Keeps.mk_iff]; with_reducible refine KeepsParts.of ?_ rfl rfl (Nat.le_refl _) rfl rfl)
    | ((fail_if_success (conv => arg 2; congr)); extract_lets +onlyGivenNames x; first | (have hx : Keeps s0 x := ?_; (on_goal 2 => dsimp -zeta only [x]); (on_goal 1 => clear_value x)) | (have hx : Keeps s0 x.1 := ?_; (on_goal 2 => dsimp -zeta only [x]); (on_goal 1 => clear_value x)) | clear_value x)
    | with_reducible refine Keeps.ite (fun _ => ?_) (fun _ => ?_)
    | with_reducible refine KeepsR.ite (fun _ => ?_) (fun _ => ?_)
    | with_reducible apply KeepsR.next
    | with_reducible apply State.advanceTo_keeps
    | with_reducible apply State.release_keeps
    | with_reducible apply State.resubmit_keeps
    | with_reducible apply State.settle_keeps
    | split
    | dsimp -zeta only)

theorem execOpenWireResult_keeps {s0 : State} (s : State) (h : Keeps s0 s) : KeepsR s0 (execOpenWireResult s) := by
  unfold execOpenWireResult
  repeat' (first
    | with_reducible assumption
    | (simp -zeta only [Keeps.mk_iff]; with_reducible refine KeepsParts.of ?_ rfl rfl (Nat.le_refl _) rfl rfl)
    | ((fail_if_success (conv => arg 2; congr)); extract_lets +onlyGivenNames x; first | (have hx : Keeps s0 x := ?_; (on_goal 2 => dsimp -zeta only [x]); (on_goal 1 => clear_value x)) | (have hx : Keeps s0 x.1 := ?_; (on_goal 2 => dsimp -zeta only [x]); (on_goal 1 => clear_value x)) | clear_value x)
    | with_reducible refine Keeps.ite (fun _ => ?_) (fun _ => ?_)
    | with_reducible refine KeepsR.ite (fun _ => ?_) (fun _ => ?_)
    | with_reducible apply KeepsR.next
    | with_reducible apply State.put_keeps
    | with_reducible apply State.advanceTo_keeps
    | with_reducible apply State.raise_keeps
    | with_reducible apply State.raiseIf_keeps
    | with_reducible apply State.settle_keeps
    | split
    | dsimp -zeta only)

theorem State.owAbort_keeps {s0 : State} (s : State) (h : Keeps s0 s) : Keeps s0 (State.owAbort s) := by
  unfold State.owAbort
  repeat' (first
    | with_reducible assumption
    | (simp -zeta only [Keeps.mk_iff]; with_reducible refine KeepsParts.of ?_ rfl rfl (Nat.le_refl _) rfl rfl)
    | ((fail_if_success (conv => arg 2; congr)); extract_lets +onlyGivenNames x; first | (have hx : Keeps s0 x := ?_; (on_goal 2 => dsimp -zeta only [x]); (on_goal 1 => clear_value x)) | (have hx : Keeps s0 x.1 := ?_; (on_goal 2 => dsimp -zeta only [x]); (on_goal 1 => clear_value x)) | clear_value x)
    | with_reducible refine Keeps.ite (fun _ => ?_) (fun _ => ?_)
    | with_reducible apply State.put_keeps
    | with_reducible apply State.raise_keeps
    | with_reducible apply State.release_keeps
    | split
    | dsimp -zeta only)

theorem execQuietPauseStart_keeps {s0 : State} (s : State) (h : Keeps s0 s) : KeepsR s0 (execQuietPauseStart s) := by
  unfold execQuietPauseStart
  repeat' (first
    | with_reducible assumption
    | (simp -zeta only [Keeps.mk_iff]; with_reducible refine KeepsParts.of ?_ rfl rfl (Nat.le_refl _) rfl rfl)
    | ((fail_if_success (conv => arg 2; congr)); extract_lets +onlyGivenNames x; first | (have hx : Keeps s0 x := ?_; (on_goal 2 => dsimp -zeta only [x]); (on_goal 1 => clear_value x)) | (have hx : Keeps s0 x.1 := ?_; (on_goal 2 => dsimp -zeta only [x]); (on_goal 1 => clear_value x)) | clear_value x)
    | with_reducible refine Keeps.ite (fun _ => ?_) (fun _ => ?_)
    | with_reducible refine KeepsR.ite (fun _ => ?_) (fun _ => ?_)
    | with_reducible apply KeepsR.next
    | with_reducible apply State.advanceTo_keeps
    | with_reducible apply State.stopModulation_keeps
    | with_reducible apply State.refreshSwitches_keeps
    | split
    | dsimp -zeta only)

theorem execQuietInstant_keeps {s0 : State} (codes : List Int) (s : State) (h : Keeps s0 s) : KeepsR s0 (execQuietInstant codes s) := by
  unfold execQuietInstant
  repeat' (first
    | with_reducible assumption
    | (simp -zeta only [Keeps.mk_iff]; with_reducible refine KeepsParts.of ?_ rfl rfl (Nat.le_refl _) rfl rfl)
    | ((fail_if_success (conv => arg 2; congr)); extract_lets +onlyGivenNames x; first | (have hx : Keeps s0 x := ?_; (on_goal 2 => dsimp -zeta only [x]); (on_goal 1 => clear_value x)) | (have hx : Keeps s0 x.1 := ?_; (on_goal 2 => dsimp -zeta only [x]); (on_goal 1 => clear_value x)) | clear_value x)
    | with_reducible refine Keeps.ite (fun _ => ?_) (fun _ => ?_)
    | with_reducible refine KeepsR.ite (fun _ => ?_) (fun _ => ?_)
    | with_reducible apply KeepsR.next
    | with_reducible apply State.setWord_keeps
    | with_reducible apply State.put_keeps
    | with_reducible apply State.putB_keeps
    | with_reducible apply State.advanceTo_keeps
    | with_reducible apply State.raise_keeps
    | with_reducible apply State.refreshSwitches_keeps
    | with_reducible apply State.satSeen_keeps
    | (with_reducible apply Keeps.foldl; on_goal 2 => (intro x y hx; try dsimp -zeta only))
    | split
    | dsimp -zeta only)

theorem execProgramRegionWrite_keeps {s0 : State} (ini : Ini) (addr : Nat) (val : Word) (s : State) (h : Keeps s0 s) : KeepsR s0 (execProgramRegionWrite ini addr val s) := by
  unfold execProgramRegionWrite
  repeat' (first
    | with_reducible assumption
    | (simp -zeta only [Keeps.mk_iff]; with_reducible refine KeepsParts.of ?_ rfl rfl (Nat.le_refl _) rfl rfl)
    | ((fail_if_success (conv => arg 2; congr)); extract_lets +onlyGivenNames x; first | (have hx : Keeps s0 x := ?_; (on_goal 2 => dsimp -zeta only [x]); (on_goal 1 => clear_value x)) | (have hx : Keeps s0 x.1 := ?_; (on_goal 2 => dsimp -zeta only [x]); (on_goal 1 => clear_value x)) | clear_value x)
    | with_reducible refine Keeps.ite (fun _ => ?_) (fun _ => ?_)
    | with_reducible refine KeepsR.ite (fun _ => ?_) (fun _ => ?_)
    | with_reducible apply KeepsR.next
    | with_reducible apply State.put_keeps
    | with_reducible apply State.setMemWord_keeps
    | with_reducible apply State.accessFault_keeps
    | with_reducible apply State.stgCancel_keeps
    | split
    | dsimp -zeta only)

theorem execDataMramStore_keeps {s0 : State} (pair : Pair) (addr : Nat) (val : Word) (s : State) (h : Keeps s0 s) : KeepsR s0 (execDataMramStore pair addr val s) := by
  unfold execDataMramStore
  repeat' (first
    | with_reducible assumption
    | (simp -zeta only [Keeps.mk_iff]; with_reducible refine KeepsParts.of ?_ rfl rfl (Nat.le_refl _) rfl rfl)
    | ((fail_if_success (conv => arg 2; congr)); extract_lets +onlyGivenNames x; first | (have hx : Keeps s0 x := ?_; (on_goal 2 => dsimp -zeta only [x]); (on_goal 1 => clear_value x)) | (have hx : Keeps s0 x.1 := ?_; (on_goal 2 => dsimp -zeta only [x]); (on_goal 1 => clear_value x)) | clear_value x)
    | with_reducible refine Keeps.ite (fun _ => ?_) (fun _ => ?_)
    | with_reducible refine KeepsR.ite (fun _ => ?_) (fun _ => ?_)
    | with_reducible apply KeepsR.next
    | with_reducible apply State.incSat_keeps
    | with_reducible apply State.setMemWord_keeps
    | with_reducible apply State.pairFault_keeps
    | split
    | dsimp -zeta only)

theorem State.regionResult_keeps {s0 : State} (s : State) (r : Nat) (ok : Bool) (h : Keeps s0 s) : Keeps s0 (State.regionResult s r ok) := by
  unfold State.regionResult
  repeat' (first
    | with_reducible assumption
    | (simp -zeta only [Keeps.mk_iff]; with_reducible refine KeepsParts.of ?_ rfl rfl (Nat.le_refl _) rfl rfl)
    | ((fail_if_success (conv => arg 2; congr)); extract_lets +onlyGivenNames x; first | (have hx : Keeps s0 x := ?_; (on_goal 2 => dsimp -zeta only [x]); (on_goal 1 => clear_value x)) | (have hx : Keeps s0 x.1 := ?_; (on_goal 2 => dsimp -zeta only [x]); (on_goal 1 => clear_value x)) | clear_value x)
    | with_reducible refine Keeps.ite (fun _ => ?_) (fun _ => ?_)
    | with_reducible apply State.put_keeps
    | split
    | dsimp -zeta only)

theorem execRegionVerify_keeps {s0 : State} (_ini : Ini) (s : State) (h : Keeps s0 s) : KeepsR s0 (execRegionVerify _ini s) := by
  unfold execRegionVerify
  repeat' (first
    | with_reducible assumption
    | (simp -zeta only [Keeps.mk_iff]; with_reducible refine KeepsParts.of ?_ rfl rfl (Nat.le_refl _) rfl rfl)
    | ((fail_if_success (conv => arg 2; congr)); extract_lets +onlyGivenNames x; first | (have hx : Keeps s0 x := ?_; (on_goal 2 => dsimp -zeta only [x]); (on_goal 1 => clear_value x)) | (have hx : Keeps s0 x.1 := ?_; (on_goal 2 => dsimp -zeta only [x]); (on_goal 1 => clear_value x)) | clear_value x)
    | with_reducible refine Keeps.ite (fun _ => ?_) (fun _ => ?_)
    | with_reducible refine KeepsR.ite (fun _ => ?_) (fun _ => ?_)
    | with_reducible apply KeepsR.next
    | with_reducible apply State.put_keeps
    | with_reducible apply State.putB_keeps
    | split
    | dsimp -zeta only)

theorem execRegionVerifyDone_keeps {s0 : State} (s : State) (h : Keeps s0 s) : KeepsR s0 (execRegionVerifyDone s) := by
  unfold execRegionVerifyDone
  repeat' (first
    | with_reducible assumption
    | (simp -zeta only [Keeps.mk_iff]; with_reducible refine KeepsParts.of ?_ rfl rfl (Nat.le_refl _) rfl rfl)
    | ((fail_if_success (conv => arg 2; congr)); extract_lets +onlyGivenNames x; first | (have hx : Keeps s0 x := ?_; (on_goal 2 => dsimp -zeta only [x]); (on_goal 1 => clear_value x)) | (have hx : Keeps s0 x.1 := ?_; (on_goal 2 => dsimp -zeta only [x]); (on_goal 1 => clear_value x)) | clear_value x)
    | with_reducible refine Keeps.ite (fun _ => ?_) (fun _ => ?_)
    | with_reducible refine KeepsR.ite (fun _ => ?_) (fun _ => ?_)
    | with_reducible apply KeepsR.next
    | with_reducible apply State.putB_keeps
    | with_reducible apply State.regionResult_keeps
    | split
    | dsimp -zeta only)

theorem execSvnminWrite_keeps {s0 : State} (ini : Ini) (min : Nat) (s : State) (h : Keeps s0 s) : KeepsR s0 (execSvnminWrite ini min s) := by
  unfold execSvnminWrite
  repeat' (first
    | with_reducible assumption
    | (simp -zeta only [Keeps.mk_iff]; with_reducible refine KeepsParts.of ?_ rfl rfl (Nat.le_refl _) rfl rfl)
    | ((fail_if_success (conv => arg 2; congr)); extract_lets +onlyGivenNames x; first | (have hx : Keeps s0 x := ?_; (on_goal 2 => dsimp -zeta only [x]); (on_goal 1 => clear_value x)) | (have hx : Keeps s0 x.1 := ?_; (on_goal 2 => dsimp -zeta only [x]); (on_goal 1 => clear_value x)) | clear_value x)
    | with_reducible refine Keeps.ite (fun _ => ?_) (fun _ => ?_)
    | with_reducible refine KeepsR.ite (fun _ => ?_) (fun _ => ?_)
    | with_reducible apply KeepsR.next
    | with_reducible apply State.put_keeps
    | with_reducible apply State.accessFault_keeps
    | split
    | dsimp -zeta only)

theorem execKeyRevoke_keeps {s0 : State} (ini : Ini) (mask : Nat) (s : State) (h : Keeps s0 s) : KeepsR s0 (execKeyRevoke ini mask s) := by
  unfold execKeyRevoke
  repeat' (first
    | with_reducible assumption
    | (simp -zeta only [Keeps.mk_iff]; with_reducible refine KeepsParts.of ?_ rfl rfl (Nat.le_refl _) rfl rfl)
    | ((fail_if_success (conv => arg 2; congr)); extract_lets +onlyGivenNames x; first | (have hx : Keeps s0 x := ?_; (on_goal 2 => dsimp -zeta only [x]); (on_goal 1 => clear_value x)) | (have hx : Keeps s0 x.1 := ?_; (on_goal 2 => dsimp -zeta only [x]); (on_goal 1 => clear_value x)) | clear_value x)
    | with_reducible refine Keeps.ite (fun _ => ?_) (fun _ => ?_)
    | with_reducible refine KeepsR.ite (fun _ => ?_) (fun _ => ?_)
    | with_reducible apply KeepsR.next
    | with_reducible apply State.put_keeps
    | with_reducible apply State.accessFault_keeps
    | split
    | dsimp -zeta only)

theorem execDbglockSet_keeps {s0 : State} (_ini : Ini) (s : State) (h : Keeps s0 s) : KeepsR s0 (execDbglockSet _ini s) := by
  unfold execDbglockSet
  repeat' (first
    | with_reducible assumption
    | (simp -zeta only [Keeps.mk_iff]; with_reducible refine KeepsParts.of ?_ rfl rfl (Nat.le_refl _) rfl rfl)
    | ((fail_if_success (conv => arg 2; congr)); extract_lets +onlyGivenNames x; first | (have hx : Keeps s0 x := ?_; (on_goal 2 => dsimp -zeta only [x]); (on_goal 1 => clear_value x)) | (have hx : Keeps s0 x.1 := ?_; (on_goal 2 => dsimp -zeta only [x]); (on_goal 1 => clear_value x)) | clear_value x)
    | with_reducible refine Keeps.ite (fun _ => ?_) (fun _ => ?_)
    | with_reducible refine KeepsR.ite (fun _ => ?_) (fun _ => ?_)
    | with_reducible apply KeepsR.next
    | with_reducible apply State.putB_keeps
    | split
    | dsimp -zeta only)

theorem execOtpKeyWrite_keeps {s0 : State} (_ini : Ini) (val : Word) (s : State) (h : Keeps s0 s) : KeepsR s0 (execOtpKeyWrite _ini val s) := by
  unfold execOtpKeyWrite
  repeat' (first
    | with_reducible assumption
    | (simp -zeta only [Keeps.mk_iff]; with_reducible refine KeepsParts.of ?_ rfl rfl (Nat.le_refl _) rfl rfl)
    | ((fail_if_success (conv => arg 2; congr)); extract_lets +onlyGivenNames x; first | (have hx : Keeps s0 x := ?_; (on_goal 2 => dsimp -zeta only [x]); (on_goal 1 => clear_value x)) | (have hx : Keeps s0 x.1 := ?_; (on_goal 2 => dsimp -zeta only [x]); (on_goal 1 => clear_value x)) | clear_value x)
    | with_reducible refine Keeps.ite (fun _ => ?_) (fun _ => ?_)
    | with_reducible refine KeepsR.ite (fun _ => ?_) (fun _ => ?_)
    | with_reducible apply KeepsR.next
    | split
    | dsimp -zeta only)

theorem State.linkCrc_keeps {s0 : State} (s : State) (h : Keeps s0 s) : Keeps s0 (State.linkCrc s) := by
  unfold State.linkCrc
  repeat' (first
    | with_reducible assumption
    | (simp -zeta only [Keeps.mk_iff]; with_reducible refine KeepsParts.of ?_ rfl rfl (Nat.le_refl _) rfl rfl)
    | ((fail_if_success (conv => arg 2; congr)); extract_lets +onlyGivenNames x; first | (have hx : Keeps s0 x := ?_; (on_goal 2 => dsimp -zeta only [x]); (on_goal 1 => clear_value x)) | (have hx : Keeps s0 x.1 := ?_; (on_goal 2 => dsimp -zeta only [x]); (on_goal 1 => clear_value x)) | clear_value x)
    | with_reducible refine Keeps.ite (fun _ => ?_) (fun _ => ?_)
    | with_reducible apply State.incSat_keeps
    | with_reducible apply State.raise_keeps
    | split
    | dsimp -zeta only)

theorem State.showDigest_keeps {s0 : State} (s : State) (h : Keeps s0 s) : Keeps s0 (State.showDigest s) := by
  unfold State.showDigest
  repeat' (first
    | with_reducible assumption
    | (simp -zeta only [Keeps.mk_iff]; with_reducible refine KeepsParts.of ?_ rfl rfl (Nat.le_refl _) rfl rfl)
    | ((fail_if_success (conv => arg 2; congr)); extract_lets +onlyGivenNames x; first | (have hx : Keeps s0 x := ?_; (on_goal 2 => dsimp -zeta only [x]); (on_goal 1 => clear_value x)) | (have hx : Keeps s0 x.1 := ?_; (on_goal 2 => dsimp -zeta only [x]); (on_goal 1 => clear_value x)) | clear_value x)
    | with_reducible refine Keeps.ite (fun _ => ?_) (fun _ => ?_)
    | with_reducible apply State.put_keeps
    | split
    | dsimp -zeta only)

theorem State.wake_keeps {s0 : State} (s : State) (h : Keeps s0 s) : Keeps s0 (State.wake s) := by
  unfold State.wake
  repeat' (first
    | with_reducible assumption
    | (simp -zeta only [Keeps.mk_iff]; with_reducible refine KeepsParts.of ?_ rfl rfl (Nat.le_refl _) rfl rfl)
    | ((fail_if_success (conv => arg 2; congr)); extract_lets +onlyGivenNames x; first | (have hx : Keeps s0 x := ?_; (on_goal 2 => dsimp -zeta only [x]); (on_goal 1 => clear_value x)) | (have hx : Keeps s0 x.1 := ?_; (on_goal 2 => dsimp -zeta only [x]); (on_goal 1 => clear_value x)) | clear_value x)
    | with_reducible refine Keeps.ite (fun _ => ?_) (fun _ => ?_)
    | split
    | dsimp -zeta only)

theorem State.lossBegin_keeps {s0 : State} (s : State) (dev : Nat) (h : Keeps s0 s) : Keeps s0 (State.lossBegin s dev) := by
  unfold State.lossBegin
  repeat' (first
    | with_reducible assumption
    | (simp -zeta only [Keeps.mk_iff]; with_reducible refine KeepsParts.of ?_ rfl rfl (Nat.le_refl _) rfl rfl)
    | ((fail_if_success (conv => arg 2; congr)); extract_lets +onlyGivenNames x; first | (have hx : Keeps s0 x := ?_; (on_goal 2 => dsimp -zeta only [x]); (on_goal 1 => clear_value x)) | (have hx : Keeps s0 x.1 := ?_; (on_goal 2 => dsimp -zeta only [x]); (on_goal 1 => clear_value x)) | clear_value x)
    | with_reducible refine Keeps.ite (fun _ => ?_) (fun _ => ?_)
    | with_reducible apply State.safShow_keeps
    | with_reducible apply State.holdShow_keeps
    | with_reducible apply State.driveTrip_keeps
    | with_reducible apply State.protect_keeps
    | split
    | dsimp -zeta only)

theorem State.lossEnd_keeps {s0 : State} (s : State) (h : Keeps s0 s) : Keeps s0 (State.lossEnd s) := by
  unfold State.lossEnd
  repeat' (first
    | with_reducible assumption
    | (simp -zeta only [Keeps.mk_iff]; with_reducible refine KeepsParts.of ?_ rfl rfl (Nat.le_refl _) rfl rfl)
    | ((fail_if_success (conv => arg 2; congr)); extract_lets +onlyGivenNames x; first | (have hx : Keeps s0 x := ?_; (on_goal 2 => dsimp -zeta only [x]); (on_goal 1 => clear_value x)) | (have hx : Keeps s0 x.1 := ?_; (on_goal 2 => dsimp -zeta only [x]); (on_goal 1 => clear_value x)) | clear_value x)
    | with_reducible refine Keeps.ite (fun _ => ?_) (fun _ => ?_)
    | with_reducible apply State.safShow_keeps
    | with_reducible apply State.holdShow_keeps
    | split
    | dsimp -zeta only)

theorem State.passAway_keeps {s0 : State} (s : State) (m : LinkMsg) (h : Keeps s0 s) : Keeps s0 (State.passAway s m) := by
  unfold State.passAway
  repeat' (first
    | with_reducible assumption
    | (simp -zeta only [Keeps.mk_iff]; with_reducible refine KeepsParts.of ?_ rfl rfl (Nat.le_refl _) rfl rfl)
    | ((fail_if_success (conv => arg 2; congr)); extract_lets +onlyGivenNames x; first | (have hx : Keeps s0 x := ?_; (on_goal 2 => dsimp -zeta only [x]); (on_goal 1 => clear_value x)) | (have hx : Keeps s0 x.1 := ?_; (on_goal 2 => dsimp -zeta only [x]); (on_goal 1 => clear_value x)) | clear_value x)
    | with_reducible refine Keeps.ite (fun _ => ?_) (fun _ => ?_)
    | split
    | dsimp -zeta only)

theorem State.recordQueue_keeps {s0 : State} (s : State) (h : Keeps s0 s) : Keeps s0 (State.recordQueue s) := by
  unfold State.recordQueue
  repeat' (first
    | with_reducible assumption
    | (simp -zeta only [Keeps.mk_iff]; with_reducible refine KeepsParts.of ?_ rfl rfl (Nat.le_refl _) rfl rfl)
    | ((fail_if_success (conv => arg 2; congr)); extract_lets +onlyGivenNames x; first | (have hx : Keeps s0 x := ?_; (on_goal 2 => dsimp -zeta only [x]); (on_goal 1 => clear_value x)) | (have hx : Keeps s0 x.1 := ?_; (on_goal 2 => dsimp -zeta only [x]); (on_goal 1 => clear_value x)) | clear_value x)
    | with_reducible refine Keeps.ite (fun _ => ?_) (fun _ => ?_)
    | with_reducible apply State.record_keeps
    | with_reducible apply State.send_keeps
    | split
    | dsimp -zeta only)

theorem State.transmit_keeps {s0 : State} (s : State) (f : LinkMsg → Bool) (h : Keeps s0 s) : Keeps s0 (State.transmit s f) := by
  unfold State.transmit
  repeat' (first
    | with_reducible assumption
    | (simp -zeta only [Keeps.mk_iff]; with_reducible refine KeepsParts.of ?_ rfl rfl (Nat.le_refl _) rfl rfl)
    | ((fail_if_success (conv => arg 2; congr)); extract_lets +onlyGivenNames x; first | (have hx : Keeps s0 x := ?_; (on_goal 2 => dsimp -zeta only [x]); (on_goal 1 => clear_value x)) | (have hx : Keeps s0 x.1 := ?_; (on_goal 2 => dsimp -zeta only [x]); (on_goal 1 => clear_value x)) | clear_value x)
    | with_reducible refine Keeps.ite (fun _ => ?_) (fun _ => ?_)
    | split
    | dsimp -zeta only)

theorem execLane0Transmit_keeps {s0 : State} (s : State) (h : Keeps s0 s) : KeepsR s0 (execLane0Transmit s) := by
  unfold execLane0Transmit
  repeat' (first
    | with_reducible assumption
    | (simp -zeta only [Keeps.mk_iff]; with_reducible refine KeepsParts.of ?_ rfl rfl (Nat.le_refl _) rfl rfl)
    | ((fail_if_success (conv => arg 2; congr)); extract_lets +onlyGivenNames x; first | (have hx : Keeps s0 x := ?_; (on_goal 2 => dsimp -zeta only [x]); (on_goal 1 => clear_value x)) | (have hx : Keeps s0 x.1 := ?_; (on_goal 2 => dsimp -zeta only [x]); (on_goal 1 => clear_value x)) | clear_value x)
    | with_reducible refine Keeps.ite (fun _ => ?_) (fun _ => ?_)
    | with_reducible refine KeepsR.ite (fun _ => ?_) (fun _ => ?_)
    | with_reducible apply KeepsR.next
    | with_reducible apply State.recordQueue_keeps
    | with_reducible apply State.transmit_keeps
    | split
    | dsimp -zeta only)

theorem State.alignTick_keeps {s0 : State} (s : State) (leadTick : Nat) (h : Keeps s0 s) : Keeps s0 (State.alignTick s leadTick) := by
  unfold State.alignTick
  repeat' (first
    | with_reducible assumption
    | (simp -zeta only [Keeps.mk_iff]; with_reducible refine KeepsParts.of ?_ rfl rfl (Nat.le_refl _) rfl rfl)
    | ((fail_if_success (conv => arg 2; congr)); extract_lets +onlyGivenNames x; first | (have hx : Keeps s0 x := ?_; (on_goal 2 => dsimp -zeta only [x]); (on_goal 1 => clear_value x)) | (have hx : Keeps s0 x.1 := ?_; (on_goal 2 => dsimp -zeta only [x]); (on_goal 1 => clear_value x)) | clear_value x)
    | with_reducible refine Keeps.ite (fun _ => ?_) (fun _ => ?_)
    | with_reducible apply State.putB_keeps
    | split
    | dsimp -zeta only)

theorem execHeartbeatReceived_keeps {s0 : State} (crcOk : Bool) (leadTick : Nat) (chgforb : Bool) (s : State) (h : Keeps s0 s) : KeepsR s0 (execHeartbeatReceived crcOk leadTick chgforb s) := by
  unfold execHeartbeatReceived
  repeat' (first
    | with_reducible assumption
    | (simp -zeta only [Keeps.mk_iff]; with_reducible refine KeepsParts.of ?_ rfl rfl (Nat.le_refl _) rfl rfl)
    | ((fail_if_success (conv => arg 2; congr)); extract_lets +onlyGivenNames x; first | (have hx : Keeps s0 x := ?_; (on_goal 2 => dsimp -zeta only [x]); (on_goal 1 => clear_value x)) | (have hx : Keeps s0 x.1 := ?_; (on_goal 2 => dsimp -zeta only [x]); (on_goal 1 => clear_value x)) | clear_value x)
    | with_reducible refine Keeps.ite (fun _ => ?_) (fun _ => ?_)
    | with_reducible refine KeepsR.ite (fun _ => ?_) (fun _ => ?_)
    | with_reducible apply KeepsR.next
    | with_reducible apply State.protect_keeps
    | with_reducible apply State.linkCrc_keeps
    | with_reducible apply State.passAway_keeps
    | with_reducible apply State.alignTick_keeps
    | split
    | dsimp -zeta only)

theorem execSetPacketReceived_keeps {s0 : State} (p : SetPacket) (s : State) (h : Keeps s0 s) : KeepsR s0 (execSetPacketReceived p s) := by
  unfold execSetPacketReceived
  repeat' (first
    | with_reducible assumption
    | (simp -zeta only [Keeps.mk_iff]; with_reducible refine KeepsParts.of ?_ rfl rfl (Nat.le_refl _) rfl rfl)
    | ((fail_if_success (conv => arg 2; congr)); extract_lets +onlyGivenNames x; first | (have hx : Keeps s0 x := ?_; (on_goal 2 => dsimp -zeta only [x]); (on_goal 1 => clear_value x)) | (have hx : Keeps s0 x.1 := ?_; (on_goal 2 => dsimp -zeta only [x]); (on_goal 1 => clear_value x)) | clear_value x)
    | with_reducible refine Keeps.ite (fun _ => ?_) (fun _ => ?_)
    | with_reducible refine KeepsR.ite (fun _ => ?_) (fun _ => ?_)
    | with_reducible apply KeepsR.next
    | with_reducible apply State.linkCrc_keeps
    | with_reducible apply State.passAway_keeps
    | split
    | dsimp -zeta only)

theorem State.checkDigest_keeps {s0 : State} (s : State) (r : FrameRecord) (h : Keeps s0 s) : Keeps s0 (State.checkDigest s r) := by
  unfold State.checkDigest
  repeat' (first
    | with_reducible assumption
    | (simp -zeta only [Keeps.mk_iff]; with_reducible refine KeepsParts.of ?_ rfl rfl (Nat.le_refl _) rfl rfl)
    | ((fail_if_success (conv => arg 2; congr)); extract_lets +onlyGivenNames x; first | (have hx : Keeps s0 x := ?_; (on_goal 2 => dsimp -zeta only [x]); (on_goal 1 => clear_value x)) | (have hx : Keeps s0 x.1 := ?_; (on_goal 2 => dsimp -zeta only [x]); (on_goal 1 => clear_value x)) | clear_value x)
    | with_reducible refine Keeps.ite (fun _ => ?_) (fun _ => ?_)
    | with_reducible apply State.raiseIf_keeps
    | split
    | dsimp -zeta only)

theorem State.readmit_keeps {s0 : State} (s : State) (r : FrameRecord) (h : Keeps s0 s) : Keeps s0 (State.readmit s r) := by
  unfold State.readmit
  repeat' (first
    | with_reducible assumption
    | (simp -zeta only [Keeps.mk_iff]; with_reducible refine KeepsParts.of ?_ rfl rfl (Nat.le_refl _) rfl rfl)
    | ((fail_if_success (conv => arg 2; congr)); extract_lets +onlyGivenNames x; first | (have hx : Keeps s0 x := ?_; (on_goal 2 => dsimp -zeta only [x]); (on_goal 1 => clear_value x)) | (have hx : Keeps s0 x.1 := ?_; (on_goal 2 => dsimp -zeta only [x]); (on_goal 1 => clear_value x)) | clear_value x)
    | with_reducible refine Keeps.ite (fun _ => ?_) (fun _ => ?_)
    | with_reducible apply State.raise_keeps
    | with_reducible apply State.send_keeps
    | split
    | dsimp -zeta only)

theorem State.takeRecord_keeps {s0 : State} (s : State) (r : FrameRecord) (h : Keeps s0 s) : Keeps s0 (State.takeRecord s r) := by
  unfold State.takeRecord
  repeat' (first
    | with_reducible assumption
    | (simp -zeta only [Keeps.mk_iff]; with_reducible refine KeepsParts.of ?_ rfl rfl (Nat.le_refl _) rfl rfl)
    | ((fail_if_success (conv => arg 2; congr)); extract_lets +onlyGivenNames x; first | (have hx : Keeps s0 x := ?_; (on_goal 2 => dsimp -zeta only [x]); (on_goal 1 => clear_value x)) | (have hx : Keeps s0 x.1 := ?_; (on_goal 2 => dsimp -zeta only [x]); (on_goal 1 => clear_value x)) | clear_value x)
    | with_reducible refine Keeps.ite (fun _ => ?_) (fun _ => ?_)
    | with_reducible apply State.send_keeps
    | split
    | dsimp -zeta only)

theorem State.takeGrants_keeps {s0 : State} (s : State) (r : FrameRecord) (h : Keeps s0 s) : Keeps s0 (State.takeGrants s r) := by
  unfold State.takeGrants
  repeat' (first
    | with_reducible assumption
    | (simp -zeta only [Keeps.mk_iff]; with_reducible refine KeepsParts.of ?_ rfl rfl (Nat.le_refl _) rfl rfl)
    | ((fail_if_success (conv => arg 2; congr)); extract_lets +onlyGivenNames x; first | (have hx : Keeps s0 x := ?_; (on_goal 2 => dsimp -zeta only [x]); (on_goal 1 => clear_value x)) | (have hx : Keeps s0 x.1 := ?_; (on_goal 2 => dsimp -zeta only [x]); (on_goal 1 => clear_value x)) | clear_value x)
    | with_reducible refine Keeps.ite (fun _ => ?_) (fun _ => ?_)
    | with_reducible apply State.setGrantsOf_keeps
    | (with_reducible apply Keeps.foldl; on_goal 2 => (intro x y hx; try dsimp -zeta only))
    | split
    | dsimp -zeta only)

theorem State.followAnchor_keeps {s0 : State} (s : State) (r : FrameRecord) (h : Keeps s0 s) : Keeps s0 (State.followAnchor s r) := by
  unfold State.followAnchor
  repeat' (first
    | with_reducible assumption
    | (simp -zeta only [Keeps.mk_iff]; with_reducible refine KeepsParts.of ?_ rfl rfl (Nat.le_refl _) rfl rfl)
    | ((fail_if_success (conv => arg 2; congr)); extract_lets +onlyGivenNames x; first | (have hx : Keeps s0 x := ?_; (on_goal 2 => dsimp -zeta only [x]); (on_goal 1 => clear_value x)) | (have hx : Keeps s0 x.1 := ?_; (on_goal 2 => dsimp -zeta only [x]); (on_goal 1 => clear_value x)) | clear_value x)
    | with_reducible refine Keeps.ite (fun _ => ?_) (fun _ => ?_)
    | with_reducible apply State.askAll_keeps
    | with_reducible apply State.isoOver_keeps
    | split
    | dsimp -zeta only)

theorem execFrameRecordReceived_keeps {s0 : State} (r : FrameRecord) (s : State) (h : Keeps s0 s) : KeepsR s0 (execFrameRecordReceived r s) := by
  unfold execFrameRecordReceived
  repeat' (first
    | with_reducible assumption
    | (simp -zeta only [Keeps.mk_iff]; with_reducible refine KeepsParts.of ?_ rfl rfl (Nat.le_refl _) rfl rfl)
    | ((fail_if_success (conv => arg 2; congr)); extract_lets +onlyGivenNames x; first | (have hx : Keeps s0 x := ?_; (on_goal 2 => dsimp -zeta only [x]); (on_goal 1 => clear_value x)) | (have hx : Keeps s0 x.1 := ?_; (on_goal 2 => dsimp -zeta only [x]); (on_goal 1 => clear_value x)) | clear_value x)
    | with_reducible refine Keeps.ite (fun _ => ?_) (fun _ => ?_)
    | with_reducible refine KeepsR.ite (fun _ => ?_) (fun _ => ?_)
    | with_reducible apply KeepsR.next
    | with_reducible apply State.record_keeps
    | with_reducible apply State.eisAbort_keeps
    | with_reducible apply State.eisExc_keeps
    | with_reducible apply State.settle_keeps
    | with_reducible apply State.tripNow_keeps
    | with_reducible apply State.protect_keeps
    | with_reducible apply State.linkCrc_keeps
    | with_reducible apply State.passAway_keeps
    | with_reducible apply State.checkDigest_keeps
    | with_reducible apply State.readmit_keeps
    | with_reducible apply State.takeRecord_keeps
    | with_reducible apply State.takeGrants_keeps
    | with_reducible apply State.followAnchor_keeps
    | split
    | dsimp -zeta only)

theorem State.takeResults_keeps {s0 : State} (s : State) (dev : Nat) (zs : List (Nat × Rat × Rat × Nat × Nat)) (h : Keeps s0 s) : Keeps s0 (State.takeResults s dev zs) := by
  unfold State.takeResults
  repeat' (first
    | with_reducible assumption
    | (simp -zeta only [Keeps.mk_iff]; with_reducible refine KeepsParts.of ?_ rfl rfl (Nat.le_refl _) rfl rfl)
    | ((fail_if_success (conv => arg 2; congr)); extract_lets +onlyGivenNames x; first | (have hx : Keeps s0 x := ?_; (on_goal 2 => dsimp -zeta only [x]); (on_goal 1 => clear_value x)) | (have hx : Keeps s0 x.1 := ?_; (on_goal 2 => dsimp -zeta only [x]); (on_goal 1 => clear_value x)) | clear_value x)
    | with_reducible refine Keeps.ite (fun _ => ?_) (fun _ => ?_)
    | (with_reducible apply Keeps.foldl; on_goal 2 => (intro x y hx; try dsimp -zeta only))
    | split
    | dsimp -zeta only)

theorem execAccessReplyReceived_keeps {s0 : State} (dev : Nat) (crcOk : Bool) (op : ReplyOp) (s : State) (h : Keeps s0 s) : KeepsR s0 (execAccessReplyReceived dev crcOk op s) := by
  unfold execAccessReplyReceived
  repeat' (first
    | with_reducible assumption
    | (simp -zeta only [Keeps.mk_iff]; with_reducible refine KeepsParts.of ?_ rfl rfl (Nat.le_refl _) rfl rfl)
    | ((fail_if_success (conv => arg 2; congr)); extract_lets +onlyGivenNames x; first | (have hx : Keeps s0 x := ?_; (on_goal 2 => dsimp -zeta only [x]); (on_goal 1 => clear_value x)) | (have hx : Keeps s0 x.1 := ?_; (on_goal 2 => dsimp -zeta only [x]); (on_goal 1 => clear_value x)) | clear_value x)
    | with_reducible refine Keeps.ite (fun _ => ?_) (fun _ => ?_)
    | with_reducible refine KeepsR.ite (fun _ => ?_) (fun _ => ?_)
    | with_reducible apply KeepsR.next
    | with_reducible apply State.settle_keeps
    | with_reducible apply State.eisGotPhasor_keeps
    | with_reducible apply State.linkCrc_keeps
    | with_reducible apply State.passAway_keeps
    | with_reducible apply State.takeResults_keeps
    | split
    | dsimp -zeta only)

theorem State.judgeAnchor_keeps {s0 : State} (s : State) (n : Nat) (h : Keeps s0 s) : Keeps s0 (State.judgeAnchor s n) := by
  unfold State.judgeAnchor
  repeat' (first
    | with_reducible assumption
    | (simp -zeta only [Keeps.mk_iff]; with_reducible refine KeepsParts.of ?_ rfl rfl (Nat.le_refl _) rfl rfl)
    | ((fail_if_success (conv => arg 2; congr)); extract_lets +onlyGivenNames x; first | (have hx : Keeps s0 x := ?_; (on_goal 2 => dsimp -zeta only [x]); (on_goal 1 => clear_value x)) | (have hx : Keeps s0 x.1 := ?_; (on_goal 2 => dsimp -zeta only [x]); (on_goal 1 => clear_value x)) | clear_value x)
    | with_reducible refine Keeps.ite (fun _ => ?_) (fun _ => ?_)
    | with_reducible apply State.raise_keeps
    | with_reducible apply State.raiseIf_keeps
    | split
    | dsimp -zeta only)

theorem State.eisMissing_keeps {s0 : State} (s : State) (n gap : Nat) (h : Keeps s0 s) : Keeps s0 (State.eisMissing s n gap) := by
  unfold State.eisMissing
  repeat' (first
    | with_reducible assumption
    | (simp -zeta only [Keeps.mk_iff]; with_reducible refine KeepsParts.of ?_ rfl rfl (Nat.le_refl _) rfl rfl)
    | ((fail_if_success (conv => arg 2; congr)); extract_lets +onlyGivenNames x; first | (have hx : Keeps s0 x := ?_; (on_goal 2 => dsimp -zeta only [x]); (on_goal 1 => clear_value x)) | (have hx : Keeps s0 x.1 := ?_; (on_goal 2 => dsimp -zeta only [x]); (on_goal 1 => clear_value x)) | clear_value x)
    | with_reducible refine Keeps.ite (fun _ => ?_) (fun _ => ?_)
    | split
    | dsimp -zeta only)

theorem execXferCompletionWindowEnd_keeps {s0 : State} (s : State) (h : Keeps s0 s) : KeepsR s0 (execXferCompletionWindowEnd s) := by
  unfold execXferCompletionWindowEnd
  repeat' (first
    | with_reducible assumption
    | (simp -zeta only [Keeps.mk_iff]; with_reducible refine KeepsParts.of ?_ rfl rfl (Nat.le_refl _) rfl rfl)
    | ((fail_if_success (conv => arg 2; congr)); extract_lets +onlyGivenNames x; first | (have hx : Keeps s0 x := ?_; (on_goal 2 => dsimp -zeta only [x]); (on_goal 1 => clear_value x)) | (have hx : Keeps s0 x.1 := ?_; (on_goal 2 => dsimp -zeta only [x]); (on_goal 1 => clear_value x)) | clear_value x)
    | with_reducible refine Keeps.ite (fun _ => ?_) (fun _ => ?_)
    | with_reducible refine KeepsR.ite (fun _ => ?_) (fun _ => ?_)
    | with_reducible apply KeepsR.next
    | with_reducible apply State.put_keeps
    | with_reducible apply State.incSat_keeps
    | with_reducible apply State.advanceTo_keeps
    | with_reducible apply State.raise_keeps
    | with_reducible apply State.judgeAnchor_keeps
    | with_reducible apply State.eisMissing_keeps
    | split
    | dsimp -zeta only)

theorem execFrameMarkerSend_keeps {s0 : State} (s : State) (h : Keeps s0 s) : KeepsR s0 (execFrameMarkerSend s) := by
  unfold execFrameMarkerSend
  repeat' (first
    | with_reducible assumption
    | (simp -zeta only [Keeps.mk_iff]; with_reducible refine KeepsParts.of ?_ rfl rfl (Nat.le_refl _) rfl rfl)
    | ((fail_if_success (conv => arg 2; congr)); extract_lets +onlyGivenNames x; first | (have hx : Keeps s0 x := ?_; (on_goal 2 => dsimp -zeta only [x]); (on_goal 1 => clear_value x)) | (have hx : Keeps s0 x.1 := ?_; (on_goal 2 => dsimp -zeta only [x]); (on_goal 1 => clear_value x)) | clear_value x)
    | with_reducible refine Keeps.ite (fun _ => ?_) (fun _ => ?_)
    | with_reducible refine KeepsR.ite (fun _ => ?_) (fun _ => ?_)
    | with_reducible apply KeepsR.next
    | with_reducible apply State.advanceTo_keeps
    | with_reducible apply State.send_keeps
    | split
    | dsimp -zeta only)

theorem execFrameMarkerReceived_keeps {s0 : State} (word : Word) (s : State) (h : Keeps s0 s) : KeepsR s0 (execFrameMarkerReceived word s) := by
  unfold execFrameMarkerReceived
  repeat' (first
    | with_reducible assumption
    | (simp -zeta only [Keeps.mk_iff]; with_reducible refine KeepsParts.of ?_ rfl rfl (Nat.le_refl _) rfl rfl)
    | ((fail_if_success (conv => arg 2; congr)); extract_lets +onlyGivenNames x; first | (have hx : Keeps s0 x := ?_; (on_goal 2 => dsimp -zeta only [x]); (on_goal 1 => clear_value x)) | (have hx : Keeps s0 x.1 := ?_; (on_goal 2 => dsimp -zeta only [x]); (on_goal 1 => clear_value x)) | clear_value x)
    | with_reducible refine Keeps.ite (fun _ => ?_) (fun _ => ?_)
    | with_reducible refine KeepsR.ite (fun _ => ?_) (fun _ => ?_)
    | with_reducible apply KeepsR.next
    | split
    | dsimp -zeta only)

theorem execSyncEdge_keeps {s0 : State} (offset : Int) (s : State) (h : Keeps s0 s) : KeepsR s0 (execSyncEdge offset s) := by
  unfold execSyncEdge
  repeat' (first
    | with_reducible assumption
    | (simp -zeta only [Keeps.mk_iff]; with_reducible refine KeepsParts.of ?_ rfl rfl (Nat.le_refl _) rfl rfl)
    | ((fail_if_success (conv => arg 2; congr)); extract_lets +onlyGivenNames x; first | (have hx : Keeps s0 x := ?_; (on_goal 2 => dsimp -zeta only [x]); (on_goal 1 => clear_value x)) | (have hx : Keeps s0 x.1 := ?_; (on_goal 2 => dsimp -zeta only [x]); (on_goal 1 => clear_value x)) | clear_value x)
    | with_reducible refine Keeps.ite (fun _ => ?_) (fun _ => ?_)
    | with_reducible refine KeepsR.ite (fun _ => ?_) (fun _ => ?_)
    | with_reducible apply KeepsR.next
    | with_reducible apply State.putB_keeps
    | with_reducible apply State.raiseIf_keeps
    | split
    | dsimp -zeta only)

theorem State.dropRemote_keeps {s0 : State} (s : State) (h : Keeps s0 s) : Keeps s0 (State.dropRemote s) := by
  unfold State.dropRemote
  repeat' (first
    | with_reducible assumption
    | (simp -zeta only [Keeps.mk_iff]; with_reducible refine KeepsParts.of ?_ rfl rfl (Nat.le_refl _) rfl rfl)
    | ((fail_if_success (conv => arg 2; congr)); extract_lets +onlyGivenNames x; first | (have hx : Keeps s0 x := ?_; (on_goal 2 => dsimp -zeta only [x]); (on_goal 1 => clear_value x)) | (have hx : Keeps s0 x.1 := ?_; (on_goal 2 => dsimp -zeta only [x]); (on_goal 1 => clear_value x)) | clear_value x)
    | with_reducible refine Keeps.ite (fun _ => ?_) (fun _ => ?_)
    | with_reducible apply State.stgCancel_keeps
    | split
    | dsimp -zeta only)

theorem execMissedFrame_keeps {s0 : State} (s : State) (h : Keeps s0 s) : KeepsR s0 (execMissedFrame s) := by
  unfold execMissedFrame
  repeat' (first
    | with_reducible assumption
    | (simp -zeta only [Keeps.mk_iff]; with_reducible refine KeepsParts.of ?_ rfl rfl (Nat.le_refl _) rfl rfl)
    | ((fail_if_success (conv => arg 2; congr)); extract_lets +onlyGivenNames x; first | (have hx : Keeps s0 x := ?_; (on_goal 2 => dsimp -zeta only [x]); (on_goal 1 => clear_value x)) | (have hx : Keeps s0 x.1 := ?_; (on_goal 2 => dsimp -zeta only [x]); (on_goal 1 => clear_value x)) | clear_value x)
    | with_reducible refine Keeps.ite (fun _ => ?_) (fun _ => ?_)
    | with_reducible refine KeepsR.ite (fun _ => ?_) (fun _ => ?_)
    | with_reducible apply KeepsR.next
    | with_reducible apply State.putB_keeps
    | with_reducible apply State.raise_keeps
    | with_reducible apply State.dropRemote_keeps
    | split
    | dsimp -zeta only)

theorem execSyncWakePattern_keeps {s0 : State} (s : State) (h : Keeps s0 s) : KeepsR s0 (execSyncWakePattern s) := by
  unfold execSyncWakePattern
  repeat' (first
    | with_reducible assumption
    | (simp -zeta only [Keeps.mk_iff]; with_reducible refine KeepsParts.of ?_ rfl rfl (Nat.le_refl _) rfl rfl)
    | ((fail_if_success (conv => arg 2; congr)); extract_lets +onlyGivenNames x; first | (have hx : Keeps s0 x := ?_; (on_goal 2 => dsimp -zeta only [x]); (on_goal 1 => clear_value x)) | (have hx : Keeps s0 x.1 := ?_; (on_goal 2 => dsimp -zeta only [x]); (on_goal 1 => clear_value x)) | clear_value x)
    | with_reducible refine Keeps.ite (fun _ => ?_) (fun _ => ?_)
    | with_reducible refine KeepsR.ite (fun _ => ?_) (fun _ => ?_)
    | with_reducible apply KeepsR.next
    | with_reducible apply State.wake_keeps
    | split
    | dsimp -zeta only)

theorem State.sendToken_keeps {s0 : State} (s : State) (h : Keeps s0 s) : Keeps s0 (State.sendToken s) := by
  unfold State.sendToken
  repeat' (first
    | with_reducible assumption
    | (simp -zeta only [Keeps.mk_iff]; with_reducible refine KeepsParts.of ?_ rfl rfl (Nat.le_refl _) rfl rfl)
    | ((fail_if_success (conv => arg 2; congr)); extract_lets +onlyGivenNames x; first | (have hx : Keeps s0 x := ?_; (on_goal 2 => dsimp -zeta only [x]); (on_goal 1 => clear_value x)) | (have hx : Keeps s0 x.1 := ?_; (on_goal 2 => dsimp -zeta only [x]); (on_goal 1 => clear_value x)) | clear_value x)
    | with_reducible refine Keeps.ite (fun _ => ?_) (fun _ => ?_)
    | with_reducible apply State.send_keeps
    | split
    | dsimp -zeta only)

theorem execEnumerationStart_keeps {s0 : State} (s : State) (h : Keeps s0 s) : KeepsR s0 (execEnumerationStart s) := by
  unfold execEnumerationStart
  repeat' (first
    | with_reducible assumption
    | (simp -zeta only [Keeps.mk_iff]; with_reducible refine KeepsParts.of ?_ rfl rfl (Nat.le_refl _) rfl rfl)
    | ((fail_if_success (conv => arg 2; congr)); extract_lets +onlyGivenNames x; first | (have hx : Keeps s0 x := ?_; (on_goal 2 => dsimp -zeta only [x]); (on_goal 1 => clear_value x)) | (have hx : Keeps s0 x.1 := ?_; (on_goal 2 => dsimp -zeta only [x]); (on_goal 1 => clear_value x)) | clear_value x)
    | with_reducible refine Keeps.ite (fun _ => ?_) (fun _ => ?_)
    | with_reducible refine KeepsR.ite (fun _ => ?_) (fun _ => ?_)
    | with_reducible apply KeepsR.next
    | with_reducible apply State.advanceTo_keeps
    | with_reducible apply State.sendToken_keeps
    | split
    | dsimp -zeta only)

theorem State.multiLead_keeps {s0 : State} (s : State) (h : Keeps s0 s) : Keeps s0 (State.multiLead s) := by
  unfold State.multiLead
  repeat' (first
    | with_reducible assumption
    | (simp -zeta only [Keeps.mk_iff]; with_reducible refine KeepsParts.of ?_ rfl rfl (Nat.le_refl _) rfl rfl)
    | ((fail_if_success (conv => arg 2; congr)); extract_lets +onlyGivenNames x; first | (have hx : Keeps s0 x := ?_; (on_goal 2 => dsimp -zeta only [x]); (on_goal 1 => clear_value x)) | (have hx : Keeps s0 x.1 := ?_; (on_goal 2 => dsimp -zeta only [x]); (on_goal 1 => clear_value x)) | clear_value x)
    | with_reducible refine Keeps.ite (fun _ => ?_) (fun _ => ?_)
    | with_reducible apply State.put_keeps
    | with_reducible apply State.putB_keeps
    | with_reducible apply State.raise_keeps
    | with_reducible apply State.lossBegin_keeps
    | split
    | dsimp -zeta only)

theorem State.tokenBack_keeps {s0 : State} (s : State) (reverse : Bool) (count : Nat) (h : Keeps s0 s) : Keeps s0 (State.tokenBack s reverse count) := by
  unfold State.tokenBack
  repeat' (first
    | with_reducible assumption
    | (simp -zeta only [Keeps.mk_iff]; with_reducible refine KeepsParts.of ?_ rfl rfl (Nat.le_refl _) rfl rfl)
    | ((fail_if_success (conv => arg 2; congr)); extract_lets +onlyGivenNames x; first | (have hx : Keeps s0 x := ?_; (on_goal 2 => dsimp -zeta only [x]); (on_goal 1 => clear_value x)) | (have hx : Keeps s0 x.1 := ?_; (on_goal 2 => dsimp -zeta only [x]); (on_goal 1 => clear_value x)) | clear_value x)
    | with_reducible refine Keeps.ite (fun _ => ?_) (fun _ => ?_)
    | with_reducible apply State.put_keeps
    | with_reducible apply State.raise_keeps
    | with_reducible apply State.send_keeps
    | with_reducible apply State.multiLead_keeps
    | split
    | dsimp -zeta only)

theorem State.tokenTake_keeps {s0 : State} (s : State) (reverse : Bool) (count : Nat) (h : Keeps s0 s) : Keeps s0 (State.tokenTake s reverse count) := by
  unfold State.tokenTake
  repeat' (first
    | with_reducible assumption
    | (simp -zeta only [Keeps.mk_iff]; with_reducible refine KeepsParts.of ?_ rfl rfl (Nat.le_refl _) rfl rfl)
    | ((fail_if_success (conv => arg 2; congr)); extract_lets +onlyGivenNames x; first | (have hx : Keeps s0 x := ?_; (on_goal 2 => dsimp -zeta only [x]); (on_goal 1 => clear_value x)) | (have hx : Keeps s0 x.1 := ?_; (on_goal 2 => dsimp -zeta only [x]); (on_goal 1 => clear_value x)) | clear_value x)
    | with_reducible refine Keeps.ite (fun _ => ?_) (fun _ => ?_)
    | with_reducible apply State.put_keeps
    | with_reducible apply State.send_keeps
    | split
    | dsimp -zeta only)

theorem execEnumTokenReceived_keeps {s0 : State} (reverse : Bool) (count : Nat) (crcOk : Bool) (s : State) (h : Keeps s0 s) : KeepsR s0 (execEnumTokenReceived reverse count crcOk s) := by
  unfold execEnumTokenReceived
  repeat' (first
    | with_reducible assumption
    | (simp -zeta only [Keeps.mk_iff]; with_reducible refine KeepsParts.of ?_ rfl rfl (Nat.le_refl _) rfl rfl)
    | ((fail_if_success (conv => arg 2; congr)); extract_lets +onlyGivenNames x; first | (have hx : Keeps s0 x := ?_; (on_goal 2 => dsimp -zeta only [x]); (on_goal 1 => clear_value x)) | (have hx : Keeps s0 x.1 := ?_; (on_goal 2 => dsimp -zeta only [x]); (on_goal 1 => clear_value x)) | clear_value x)
    | with_reducible refine Keeps.ite (fun _ => ?_) (fun _ => ?_)
    | with_reducible refine KeepsR.ite (fun _ => ?_) (fun _ => ?_)
    | with_reducible apply KeepsR.next
    | with_reducible apply State.linkCrc_keeps
    | with_reducible apply State.tokenBack_keeps
    | with_reducible apply State.tokenTake_keeps
    | split
    | dsimp -zeta only)

theorem execEnumTokenTimeout_keeps {s0 : State} (s : State) (h : Keeps s0 s) : KeepsR s0 (execEnumTokenTimeout s) := by
  unfold execEnumTokenTimeout
  repeat' (first
    | with_reducible assumption
    | (simp -zeta only [Keeps.mk_iff]; with_reducible refine KeepsParts.of ?_ rfl rfl (Nat.le_refl _) rfl rfl)
    | ((fail_if_success (conv => arg 2; congr)); extract_lets +onlyGivenNames x; first | (have hx : Keeps s0 x := ?_; (on_goal 2 => dsimp -zeta only [x]); (on_goal 1 => clear_value x)) | (have hx : Keeps s0 x.1 := ?_; (on_goal 2 => dsimp -zeta only [x]); (on_goal 1 => clear_value x)) | clear_value x)
    | with_reducible refine Keeps.ite (fun _ => ?_) (fun _ => ?_)
    | with_reducible refine KeepsR.ite (fun _ => ?_) (fun _ => ?_)
    | with_reducible apply KeepsR.next
    | with_reducible apply State.advanceTo_keeps
    | with_reducible apply State.raise_keeps
    | split
    | dsimp -zeta only)

theorem execEnumRetry_keeps {s0 : State} (s : State) (h : Keeps s0 s) : KeepsR s0 (execEnumRetry s) := by
  unfold execEnumRetry
  repeat' (first
    | with_reducible assumption
    | (simp -zeta only [Keeps.mk_iff]; with_reducible refine KeepsParts.of ?_ rfl rfl (Nat.le_refl _) rfl rfl)
    | ((fail_if_success (conv => arg 2; congr)); extract_lets +onlyGivenNames x; first | (have hx : Keeps s0 x := ?_; (on_goal 2 => dsimp -zeta only [x]); (on_goal 1 => clear_value x)) | (have hx : Keeps s0 x.1 := ?_; (on_goal 2 => dsimp -zeta only [x]); (on_goal 1 => clear_value x)) | clear_value x)
    | with_reducible refine Keeps.ite (fun _ => ?_) (fun _ => ?_)
    | with_reducible refine KeepsR.ite (fun _ => ?_) (fun _ => ?_)
    | with_reducible apply KeepsR.next
    | with_reducible apply State.advanceTo_keeps
    | with_reducible apply State.sendToken_keeps
    | split
    | dsimp -zeta only)

theorem execSingleDeviceEnumTimeout_keeps {s0 : State} (s : State) (h : Keeps s0 s) : KeepsR s0 (execSingleDeviceEnumTimeout s) := by
  unfold execSingleDeviceEnumTimeout
  repeat' (first
    | with_reducible assumption
    | (simp -zeta only [Keeps.mk_iff]; with_reducible refine KeepsParts.of ?_ rfl rfl (Nat.le_refl _) rfl rfl)
    | ((fail_if_success (conv => arg 2; congr)); extract_lets +onlyGivenNames x; first | (have hx : Keeps s0 x := ?_; (on_goal 2 => dsimp -zeta only [x]); (on_goal 1 => clear_value x)) | (have hx : Keeps s0 x.1 := ?_; (on_goal 2 => dsimp -zeta only [x]); (on_goal 1 => clear_value x)) | clear_value x)
    | with_reducible refine Keeps.ite (fun _ => ?_) (fun _ => ?_)
    | with_reducible refine KeepsR.ite (fun _ => ?_) (fun _ => ?_)
    | with_reducible apply KeepsR.next
    | with_reducible apply State.put_keeps
    | with_reducible apply State.advanceTo_keeps
    | split
    | dsimp -zeta only)

theorem execEnumRequest_keeps {s0 : State} (_ini : Ini) (s : State) (h : Keeps s0 s) : KeepsR s0 (execEnumRequest _ini s) := by
  unfold execEnumRequest
  repeat' (first
    | with_reducible assumption
    | (simp -zeta only [Keeps.mk_iff]; with_reducible refine KeepsParts.of ?_ rfl rfl (Nat.le_refl _) rfl rfl)
    | ((fail_if_success (conv => arg 2; congr)); extract_lets +onlyGivenNames x; first | (have hx : Keeps s0 x := ?_; (on_goal 2 => dsimp -zeta only [x]); (on_goal 1 => clear_value x)) | (have hx : Keeps s0 x.1 := ?_; (on_goal 2 => dsimp -zeta only [x]); (on_goal 1 => clear_value x)) | clear_value x)
    | with_reducible refine Keeps.ite (fun _ => ?_) (fun _ => ?_)
    | with_reducible refine KeepsR.ite (fun _ => ?_) (fun _ => ?_)
    | with_reducible apply KeepsR.next
    | with_reducible apply State.put_keeps
    | with_reducible apply State.putB_keeps
    | with_reducible apply State.sendToken_keeps
    | split
    | dsimp -zeta only)

theorem execNoLeadTimeout_keeps {s0 : State} (s : State) (h : Keeps s0 s) : KeepsR s0 (execNoLeadTimeout s) := by
  unfold execNoLeadTimeout
  repeat' (first
    | with_reducible assumption
    | (simp -zeta only [Keeps.mk_iff]; with_reducible refine KeepsParts.of ?_ rfl rfl (Nat.le_refl _) rfl rfl)
    | ((fail_if_success (conv => arg 2; congr)); extract_lets +onlyGivenNames x; first | (have hx : Keeps s0 x := ?_; (on_goal 2 => dsimp -zeta only [x]); (on_goal 1 => clear_value x)) | (have hx : Keeps s0 x.1 := ?_; (on_goal 2 => dsimp -zeta only [x]); (on_goal 1 => clear_value x)) | clear_value x)
    | with_reducible refine Keeps.ite (fun _ => ?_) (fun _ => ?_)
    | with_reducible refine KeepsR.ite (fun _ => ?_) (fun _ => ?_)
    | with_reducible apply KeepsR.next
    | with_reducible apply State.raise_keeps
    | with_reducible apply State.lossBegin_keeps
    | split
    | dsimp -zeta only)

theorem execForeignSyncDetected_keeps {s0 : State} (s : State) (h : Keeps s0 s) : KeepsR s0 (execForeignSyncDetected s) := by
  unfold execForeignSyncDetected
  repeat' (first
    | with_reducible assumption
    | (simp -zeta only [Keeps.mk_iff]; with_reducible refine KeepsParts.of ?_ rfl rfl (Nat.le_refl _) rfl rfl)
    | ((fail_if_success (conv => arg 2; congr)); extract_lets +onlyGivenNames x; first | (have hx : Keeps s0 x := ?_; (on_goal 2 => dsimp -zeta only [x]); (on_goal 1 => clear_value x)) | (have hx : Keeps s0 x.1 := ?_; (on_goal 2 => dsimp -zeta only [x]); (on_goal 1 => clear_value x)) | clear_value x)
    | with_reducible refine Keeps.ite (fun _ => ?_) (fun _ => ?_)
    | with_reducible refine KeepsR.ite (fun _ => ?_) (fun _ => ?_)
    | with_reducible apply KeepsR.next
    | with_reducible apply State.multiLead_keeps
    | split
    | dsimp -zeta only)

theorem State.enumBoundary_keeps {s0 : State} (s : State) (h : Keeps s0 s) : Keeps s0 (State.enumBoundary s) := by
  unfold State.enumBoundary
  repeat' (first
    | with_reducible assumption
    | (simp -zeta only [Keeps.mk_iff]; with_reducible refine KeepsParts.of ?_ rfl rfl (Nat.le_refl _) rfl rfl)
    | ((fail_if_success (conv => arg 2; congr)); extract_lets +onlyGivenNames x; first | (have hx : Keeps s0 x := ?_; (on_goal 2 => dsimp -zeta only [x]); (on_goal 1 => clear_value x)) | (have hx : Keeps s0 x.1 := ?_; (on_goal 2 => dsimp -zeta only [x]); (on_goal 1 => clear_value x)) | clear_value x)
    | with_reducible refine Keeps.ite (fun _ => ?_) (fun _ => ?_)
    | with_reducible apply State.put_keeps
    | with_reducible apply State.putB_keeps
    | with_reducible apply State.raise_keeps
    | with_reducible apply State.lossEnd_keeps
    | split
    | dsimp -zeta only)

theorem State.gapShow_keeps {s0 : State} (s : State) (g : Gap) (h : Keeps s0 s) : Keeps s0 (State.gapShow s g) := by
  unfold State.gapShow
  repeat' (first
    | with_reducible assumption
    | (simp -zeta only [Keeps.mk_iff]; with_reducible refine KeepsParts.of ?_ rfl rfl (Nat.le_refl _) rfl rfl)
    | ((fail_if_success (conv => arg 2; congr)); extract_lets +onlyGivenNames x; first | (have hx : Keeps s0 x := ?_; (on_goal 2 => dsimp -zeta only [x]); (on_goal 1 => clear_value x)) | (have hx : Keeps s0 x.1 := ?_; (on_goal 2 => dsimp -zeta only [x]); (on_goal 1 => clear_value x)) | clear_value x)
    | with_reducible refine Keeps.ite (fun _ => ?_) (fun _ => ?_)
    | with_reducible apply State.put_keeps
    | split
    | dsimp -zeta only)

theorem State.hopDown_keeps {s0 : State} (s : State) (hop : Nat) (h : Keeps s0 s) : Keeps s0 (State.hopDown s hop) := by
  unfold State.hopDown
  repeat' (first
    | with_reducible assumption
    | (simp -zeta only [Keeps.mk_iff]; with_reducible refine KeepsParts.of ?_ rfl rfl (Nat.le_refl _) rfl rfl)
    | ((fail_if_success (conv => arg 2; congr)); extract_lets +onlyGivenNames x; first | (have hx : Keeps s0 x := ?_; (on_goal 2 => dsimp -zeta only [x]); (on_goal 1 => clear_value x)) | (have hx : Keeps s0 x.1 := ?_; (on_goal 2 => dsimp -zeta only [x]); (on_goal 1 => clear_value x)) | clear_value x)
    | with_reducible refine Keeps.ite (fun _ => ?_) (fun _ => ?_)
    | split
    | dsimp -zeta only)

theorem State.gapJoin_keeps {s0 : State} (s : State) (hop : Nat) (gap : Gap) (h : Keeps s0 s) : Keeps s0 (State.gapJoin s hop gap) := by
  unfold State.gapJoin
  repeat' (first
    | with_reducible assumption
    | (simp -zeta only [Keeps.mk_iff]; with_reducible refine KeepsParts.of ?_ rfl rfl (Nat.le_refl _) rfl rfl)
    | ((fail_if_success (conv => arg 2; congr)); extract_lets +onlyGivenNames x; first | (have hx : Keeps s0 x := ?_; (on_goal 2 => dsimp -zeta only [x]); (on_goal 1 => clear_value x)) | (have hx : Keeps s0 x.1 := ?_; (on_goal 2 => dsimp -zeta only [x]); (on_goal 1 => clear_value x)) | clear_value x)
    | with_reducible refine Keeps.ite (fun _ => ?_) (fun _ => ?_)
    | split
    | dsimp -zeta only)

theorem execHopLockLost_keeps {s0 : State} (hop : Nat) (s : State) (h : Keeps s0 s) : KeepsR s0 (execHopLockLost hop s) := by
  unfold execHopLockLost
  repeat' (first
    | with_reducible assumption
    | (simp -zeta only [Keeps.mk_iff]; with_reducible refine KeepsParts.of ?_ rfl rfl (Nat.le_refl _) rfl rfl)
    | ((fail_if_success (conv => arg 2; congr)); extract_lets +onlyGivenNames x; first | (have hx : Keeps s0 x := ?_; (on_goal 2 => dsimp -zeta only [x]); (on_goal 1 => clear_value x)) | (have hx : Keeps s0 x.1 := ?_; (on_goal 2 => dsimp -zeta only [x]); (on_goal 1 => clear_value x)) | clear_value x)
    | with_reducible refine Keeps.ite (fun _ => ?_) (fun _ => ?_)
    | with_reducible refine KeepsR.ite (fun _ => ?_) (fun _ => ?_)
    | with_reducible apply KeepsR.next
    | with_reducible apply State.putB_keeps
    | with_reducible apply State.incSat_keeps
    | with_reducible apply State.raise_keeps
    | with_reducible apply State.gapShow_keeps
    | with_reducible apply State.hopDown_keeps
    | with_reducible apply State.gapJoin_keeps
    | (with_reducible apply Keeps.foldl; on_goal 2 => (intro x y hx; try dsimp -zeta only))
    | split
    | dsimp -zeta only)

theorem execHopLockGained_keeps {s0 : State} (hop : Nat) (s : State) (h : Keeps s0 s) : KeepsR s0 (execHopLockGained hop s) := by
  unfold execHopLockGained
  repeat' (first
    | with_reducible assumption
    | (simp -zeta only [Keeps.mk_iff]; with_reducible refine KeepsParts.of ?_ rfl rfl (Nat.le_refl _) rfl rfl)
    | ((fail_if_success (conv => arg 2; congr)); extract_lets +onlyGivenNames x; first | (have hx : Keeps s0 x := ?_; (on_goal 2 => dsimp -zeta only [x]); (on_goal 1 => clear_value x)) | (have hx : Keeps s0 x.1 := ?_; (on_goal 2 => dsimp -zeta only [x]); (on_goal 1 => clear_value x)) | clear_value x)
    | with_reducible refine Keeps.ite (fun _ => ?_) (fun _ => ?_)
    | with_reducible refine KeepsR.ite (fun _ => ?_) (fun _ => ?_)
    | with_reducible apply KeepsR.next
    | split
    | dsimp -zeta only)

theorem execRingGapClosed_keeps {s0 : State} (s : State) (h : Keeps s0 s) : KeepsR s0 (execRingGapClosed s) := by
  unfold execRingGapClosed
  repeat' (first
    | with_reducible assumption
    | (simp -zeta only [Keeps.mk_iff]; with_reducible refine KeepsParts.of ?_ rfl rfl (Nat.le_refl _) rfl rfl)
    | ((fail_if_success (conv => arg 2; congr)); extract_lets +onlyGivenNames x; first | (have hx : Keeps s0 x := ?_; (on_goal 2 => dsimp -zeta only [x]); (on_goal 1 => clear_value x)) | (have hx : Keeps s0 x.1 := ?_; (on_goal 2 => dsimp -zeta only [x]); (on_goal 1 => clear_value x)) | clear_value x)
    | with_reducible refine Keeps.ite (fun _ => ?_) (fun _ => ?_)
    | with_reducible refine KeepsR.ite (fun _ => ?_) (fun _ => ?_)
    | with_reducible apply KeepsR.next
    | (with_reducible apply Keeps.foldl; on_goal 2 => (intro x y hx; try dsimp -zeta only))
    | split
    | dsimp -zeta only)

theorem State.ringBoundary_keeps {s0 : State} (s : State) (h : Keeps s0 s) : Keeps s0 (State.ringBoundary s) := by
  unfold State.ringBoundary
  repeat' (first
    | with_reducible assumption
    | (simp -zeta only [Keeps.mk_iff]; with_reducible refine KeepsParts.of ?_ rfl rfl (Nat.le_refl _) rfl rfl)
    | ((fail_if_success (conv => arg 2; congr)); extract_lets +onlyGivenNames x; first | (have hx : Keeps s0 x := ?_; (on_goal 2 => dsimp -zeta only [x]); (on_goal 1 => clear_value x)) | (have hx : Keeps s0 x.1 := ?_; (on_goal 2 => dsimp -zeta only [x]); (on_goal 1 => clear_value x)) | clear_value x)
    | with_reducible refine Keeps.ite (fun _ => ?_) (fun _ => ?_)
    | with_reducible apply State.putB_keeps
    | with_reducible apply State.raise_keeps
    | with_reducible apply State.gapShow_keeps
    | split
    | dsimp -zeta only)

theorem execFollowerLost_keeps {s0 : State} (dev : Nat) (s : State) (h : Keeps s0 s) : KeepsR s0 (execFollowerLost dev s) := by
  unfold execFollowerLost
  repeat' (first
    | with_reducible assumption
    | (simp -zeta only [Keeps.mk_iff]; with_reducible refine KeepsParts.of ?_ rfl rfl (Nat.le_refl _) rfl rfl)
    | ((fail_if_success (conv => arg 2; congr)); extract_lets +onlyGivenNames x; first | (have hx : Keeps s0 x := ?_; (on_goal 2 => dsimp -zeta only [x]); (on_goal 1 => clear_value x)) | (have hx : Keeps s0 x.1 := ?_; (on_goal 2 => dsimp -zeta only [x]); (on_goal 1 => clear_value x)) | clear_value x)
    | with_reducible refine Keeps.ite (fun _ => ?_) (fun _ => ?_)
    | with_reducible refine KeepsR.ite (fun _ => ?_) (fun _ => ?_)
    | with_reducible apply KeepsR.next
    | with_reducible apply State.putBit_keeps
    | with_reducible apply State.raise_keeps
    | with_reducible apply State.isoOver_keeps
    | with_reducible apply State.settle_keeps
    | with_reducible apply State.eisIncomplete_keeps
    | with_reducible apply State.protect_keeps
    | split
    | dsimp -zeta only)

theorem execFollowerLossTrip_keeps {s0 : State} (dev : Nat) (s : State) (h : Keeps s0 s) : KeepsR s0 (execFollowerLossTrip dev s) := by
  unfold execFollowerLossTrip
  repeat' (first
    | with_reducible assumption
    | (simp -zeta only [Keeps.mk_iff]; with_reducible refine KeepsParts.of ?_ rfl rfl (Nat.le_refl _) rfl rfl)
    | ((fail_if_success (conv => arg 2; congr)); extract_lets +onlyGivenNames x; first | (have hx : Keeps s0 x := ?_; (on_goal 2 => dsimp -zeta only [x]); (on_goal 1 => clear_value x)) | (have hx : Keeps s0 x.1 := ?_; (on_goal 2 => dsimp -zeta only [x]); (on_goal 1 => clear_value x)) | clear_value x)
    | with_reducible refine Keeps.ite (fun _ => ?_) (fun _ => ?_)
    | with_reducible refine KeepsR.ite (fun _ => ?_) (fun _ => ?_)
    | with_reducible apply KeepsR.next
    | with_reducible apply State.putBit_keeps
    | with_reducible apply State.lossBegin_keeps
    | split
    | dsimp -zeta only)

theorem State.askAgain_keeps {s0 : State} (s : State) (d : Nat) (h : Keeps s0 s) : Keeps s0 (State.askAgain s d) := by
  unfold State.askAgain
  repeat' (first
    | with_reducible assumption
    | (simp -zeta only [Keeps.mk_iff]; with_reducible refine KeepsParts.of ?_ rfl rfl (Nat.le_refl _) rfl rfl)
    | ((fail_if_success (conv => arg 2; congr)); extract_lets +onlyGivenNames x; first | (have hx : Keeps s0 x := ?_; (on_goal 2 => dsimp -zeta only [x]); (on_goal 1 => clear_value x)) | (have hx : Keeps s0 x.1 := ?_; (on_goal 2 => dsimp -zeta only [x]); (on_goal 1 => clear_value x)) | clear_value x)
    | with_reducible refine Keeps.ite (fun _ => ?_) (fun _ => ?_)
    | with_reducible apply State.send_keeps
    | with_reducible apply State.setGrantsOf_keeps
    | (with_reducible apply Keeps.foldl; on_goal 2 => (intro x y hx; try dsimp -zeta only))
    | split
    | dsimp -zeta only)

theorem State.rejoinDev_keeps {s0 : State} (s : State) (d : Nat) (h : Keeps s0 s) : Keeps s0 (State.rejoinDev s d) := by
  unfold State.rejoinDev
  repeat' (first
    | with_reducible assumption
    | (simp -zeta only [Keeps.mk_iff]; with_reducible refine KeepsParts.of ?_ rfl rfl (Nat.le_refl _) rfl rfl)
    | ((fail_if_success (conv => arg 2; congr)); extract_lets +onlyGivenNames x; first | (have hx : Keeps s0 x := ?_; (on_goal 2 => dsimp -zeta only [x]); (on_goal 1 => clear_value x)) | (have hx : Keeps s0 x.1 := ?_; (on_goal 2 => dsimp -zeta only [x]); (on_goal 1 => clear_value x)) | clear_value x)
    | with_reducible refine Keeps.ite (fun _ => ?_) (fun _ => ?_)
    | with_reducible apply State.putBit_keeps
    | with_reducible apply State.raise_keeps
    | with_reducible apply State.lossEnd_keeps
    | with_reducible apply State.askAgain_keeps
    | split
    | dsimp -zeta only)

theorem State.rejoinBoundary_keeps {s0 : State} (s : State) (h : Keeps s0 s) : Keeps s0 (State.rejoinBoundary s) := by
  unfold State.rejoinBoundary
  repeat' (first
    | with_reducible assumption
    | (simp -zeta only [Keeps.mk_iff]; with_reducible refine KeepsParts.of ?_ rfl rfl (Nat.le_refl _) rfl rfl)
    | ((fail_if_success (conv => arg 2; congr)); extract_lets +onlyGivenNames x; first | (have hx : Keeps s0 x := ?_; (on_goal 2 => dsimp -zeta only [x]); (on_goal 1 => clear_value x)) | (have hx : Keeps s0 x.1 := ?_; (on_goal 2 => dsimp -zeta only [x]); (on_goal 1 => clear_value x)) | clear_value x)
    | with_reducible refine Keeps.ite (fun _ => ?_) (fun _ => ?_)
    | with_reducible apply State.rejoinDev_keeps
    | (with_reducible apply Keeps.foldl; on_goal 2 => (intro x y hx; try dsimp -zeta only))
    | split
    | dsimp -zeta only)

theorem execLeadLost_keeps {s0 : State} (s : State) (h : Keeps s0 s) : KeepsR s0 (execLeadLost s) := by
  unfold execLeadLost
  repeat' (first
    | with_reducible assumption
    | (simp -zeta only [Keeps.mk_iff]; with_reducible refine KeepsParts.of ?_ rfl rfl (Nat.le_refl _) rfl rfl)
    | ((fail_if_success (conv => arg 2; congr)); extract_lets +onlyGivenNames x; first | (have hx : Keeps s0 x := ?_; (on_goal 2 => dsimp -zeta only [x]); (on_goal 1 => clear_value x)) | (have hx : Keeps s0 x.1 := ?_; (on_goal 2 => dsimp -zeta only [x]); (on_goal 1 => clear_value x)) | clear_value x)
    | with_reducible refine Keeps.ite (fun _ => ?_) (fun _ => ?_)
    | with_reducible refine KeepsR.ite (fun _ => ?_) (fun _ => ?_)
    | with_reducible apply KeepsR.next
    | with_reducible apply State.putB_keeps
    | with_reducible apply State.raise_keeps
    | with_reducible apply State.dropCascadeGrants_keeps
    | with_reducible apply State.isoOrphan_keeps
    | with_reducible apply State.eisAbort_keeps
    | with_reducible apply State.settle_keeps
    | split
    | dsimp -zeta only)

theorem execLeadLossTrip_keeps {s0 : State} (s : State) (h : Keeps s0 s) : KeepsR s0 (execLeadLossTrip s) := by
  unfold execLeadLossTrip
  repeat' (first
    | with_reducible assumption
    | (simp -zeta only [Keeps.mk_iff]; with_reducible refine KeepsParts.of ?_ rfl rfl (Nat.le_refl _) rfl rfl)
    | ((fail_if_success (conv => arg 2; congr)); extract_lets +onlyGivenNames x; first | (have hx : Keeps s0 x := ?_; (on_goal 2 => dsimp -zeta only [x]); (on_goal 1 => clear_value x)) | (have hx : Keeps s0 x.1 := ?_; (on_goal 2 => dsimp -zeta only [x]); (on_goal 1 => clear_value x)) | clear_value x)
    | with_reducible refine Keeps.ite (fun _ => ?_) (fun _ => ?_)
    | with_reducible refine KeepsR.ite (fun _ => ?_) (fun _ => ?_)
    | with_reducible apply KeepsR.next
    | with_reducible apply State.advanceTo_keeps
    | with_reducible apply State.lossBegin_keeps
    | split
    | dsimp -zeta only)

theorem execTripRecognised_keeps {s0 : State} (s : State) (h : Keeps s0 s) : KeepsR s0 (execTripRecognised s) := by
  unfold execTripRecognised
  repeat' (first
    | with_reducible assumption
    | (simp -zeta only [Keeps.mk_iff]; with_reducible refine KeepsParts.of ?_ rfl rfl (Nat.le_refl _) rfl rfl)
    | ((fail_if_success (conv => arg 2; congr)); extract_lets +onlyGivenNames x; first | (have hx : Keeps s0 x := ?_; (on_goal 2 => dsimp -zeta only [x]); (on_goal 1 => clear_value x)) | (have hx : Keeps s0 x.1 := ?_; (on_goal 2 => dsimp -zeta only [x]); (on_goal 1 => clear_value x)) | clear_value x)
    | with_reducible refine Keeps.ite (fun _ => ?_) (fun _ => ?_)
    | with_reducible refine KeepsR.ite (fun _ => ?_) (fun _ => ?_)
    | with_reducible apply KeepsR.next
    | with_reducible apply State.putB_keeps
    | with_reducible apply State.raiseIf_keeps
    | with_reducible apply State.protect_keeps
    | split
    | dsimp -zeta only)

theorem execTripReadbackCheck_keeps {s0 : State} (released : Bool) (s : State) (h : Keeps s0 s) : KeepsR s0 (execTripReadbackCheck released s) := by
  unfold execTripReadbackCheck
  repeat' (first
    | with_reducible assumption
    | (simp -zeta only [Keeps.mk_iff]; with_reducible refine KeepsParts.of ?_ rfl rfl (Nat.le_refl _) rfl rfl)
    | ((fail_if_success (conv => arg 2; congr)); extract_lets +onlyGivenNames x; first | (have hx : Keeps s0 x := ?_; (on_goal 2 => dsimp -zeta only [x]); (on_goal 1 => clear_value x)) | (have hx : Keeps s0 x.1 := ?_; (on_goal 2 => dsimp -zeta only [x]); (on_goal 1 => clear_value x)) | clear_value x)
    | with_reducible refine Keeps.ite (fun _ => ?_) (fun _ => ?_)
    | with_reducible refine KeepsR.ite (fun _ => ?_) (fun _ => ?_)
    | with_reducible apply KeepsR.next
    | with_reducible apply State.advanceTo_keeps
    | with_reducible apply State.raiseIf_keeps
    | split
    | dsimp -zeta only)

theorem execTripReleased_keeps {s0 : State} (s : State) (h : Keeps s0 s) : KeepsR s0 (execTripReleased s) := by
  unfold execTripReleased
  repeat' (first
    | with_reducible assumption
    | (simp -zeta only [Keeps.mk_iff]; with_reducible refine KeepsParts.of ?_ rfl rfl (Nat.le_refl _) rfl rfl)
    | ((fail_if_success (conv => arg 2; congr)); extract_lets +onlyGivenNames x; first | (have hx : Keeps s0 x := ?_; (on_goal 2 => dsimp -zeta only [x]); (on_goal 1 => clear_value x)) | (have hx : Keeps s0 x.1 := ?_; (on_goal 2 => dsimp -zeta only [x]); (on_goal 1 => clear_value x)) | clear_value x)
    | with_reducible refine Keeps.ite (fun _ => ?_) (fun _ => ?_)
    | with_reducible refine KeepsR.ite (fun _ => ?_) (fun _ => ?_)
    | with_reducible apply KeepsR.next
    | with_reducible apply State.putB_keeps
    | with_reducible apply State.safShow_keeps
    | split
    | dsimp -zeta only)

theorem State.tickBoundary_keeps {s0 : State} (s : State) (h : Keeps s0 s) : Keeps s0 (State.tickBoundary s) := by
  unfold State.tickBoundary
  repeat' (first
    | with_reducible assumption
    | (simp -zeta only [Keeps.mk_iff]; with_reducible refine KeepsParts.of ?_ rfl rfl (Nat.le_refl _) rfl rfl)
    | ((fail_if_success (conv => arg 2; congr)); extract_lets +onlyGivenNames x; first | (have hx : Keeps s0 x := ?_; (on_goal 2 => dsimp -zeta only [x]); (on_goal 1 => clear_value x)) | (have hx : Keeps s0 x.1 := ?_; (on_goal 2 => dsimp -zeta only [x]); (on_goal 1 => clear_value x)) | clear_value x)
    | with_reducible refine Keeps.ite (fun _ => ?_) (fun _ => ?_)
    | with_reducible apply State.putB_keeps
    | with_reducible apply State.stepTick_keeps
    | split
    | dsimp -zeta only)

theorem State.cscBoundary_keeps {s0 : State} (s : State) (expected : Bool) (h : Keeps s0 s) :
    Keeps s0 (State.cscBoundary s expected) := by
  have h1 := State.ringBoundary_keeps _ (State.rejoinBoundary_keeps _ (State.enumBoundary_keeps s h))
  unfold State.cscBoundary
  generalize s.enumBoundary.rejoinBoundary.ringBoundary = t at h1 ⊢
  refine Keeps.ite (fun _ => ?_) (fun _ => ?_)
  · extract_lets c u v
    have hu : Keeps s0 u := h1.upd rfl rfl (Nat.le_refl _) rfl rfl
    have hv : Keeps s0 v := Keeps.ite (fun _ => State.send_keeps _ _ _ _ _ hu) (fun _ => hu)
    exact Keeps.foldl hv fun x y hx => Keeps.ite (fun _ => State.send_keeps _ _ _ _ _ hx) (fun _ => hx)
  · exact h1.upd rfl rfl (Nat.le_refl _) rfl rfl

end Sys2Proof.Machine
end

