-- ==== Sys2Proof/Laws/KeepsModels.lean ====
section
/-!
SUPPORT. What the operations and commands of Estimator, Thermal, Can, HostPort, Staging keep: canonical stores, time, build and queue.
Each lemma peels its operation apart and cites the lemmas of the operations it calls.
-/
namespace Sys2Proof.Machine

theorem State.learnPop_keeps {s0 : State} (s : State) (h : Keeps s0 s) : Keeps s0 (State.learnPop s) := by
  unfold State.learnPop
  repeat' (first
    | with_reducible assumption
    | (simp -zeta only [Keeps.mk_iff]; with_reducible refine KeepsParts.of ?_ rfl rfl (Nat.le_refl _) rfl rfl)
    | ((fail_if_success (conv => arg 2; congr)); extract_lets +onlyGivenNames x; first | (have hx : Keeps s0 x := ?_; (on_goal 2 => dsimp -zeta only [x]); (on_goal 1 => clear_value x)) | (have hx : Keeps s0 x.1 := ?_; (on_goal 2 => dsimp -zeta only [x]); (on_goal 1 => clear_value x)) | clear_value x)
    | with_reducible refine Keeps.ite (fun _ => ?_) (fun _ => ?_)
    | split
    | dsimp -zeta only)

theorem State.noteInvalid_keeps {s0 : State} (s : State) (h : Keeps s0 s) : Keeps s0 (State.noteInvalid s) := by
  unfold State.noteInvalid
  repeat' (first
    | with_reducible assumption
    | (simp -zeta only [Keeps.mk_iff]; with_reducible refine KeepsParts.of ?_ rfl rfl (Nat.le_refl _) rfl rfl)
    | ((fail_if_success (conv => arg 2; congr)); extract_lets +onlyGivenNames x; first | (have hx : Keeps s0 x := ?_; (on_goal 2 => dsimp -zeta only [x]); (on_goal 1 => clear_value x)) | (have hx : Keeps s0 x.1 := ?_; (on_goal 2 => dsimp -zeta only [x]); (on_goal 1 => clear_value x)) | clear_value x)
    | with_reducible refine Keeps.ite (fun _ => ?_) (fun _ => ?_)
    | split
    | dsimp -zeta only)

theorem State.estOwe_keeps {s0 : State} (s : State) (h : Keeps s0 s) : Keeps s0 (State.estOwe s) := by
  unfold State.estOwe
  repeat' (first
    | with_reducible assumption
    | (simp -zeta only [Keeps.mk_iff]; with_reducible refine KeepsParts.of ?_ rfl rfl (Nat.le_refl _) rfl rfl)
    | ((fail_if_success (conv => arg 2; congr)); extract_lets +onlyGivenNames x; first | (have hx : Keeps s0 x := ?_; (on_goal 2 => dsimp -zeta only [x]); (on_goal 1 => clear_value x)) | (have hx : Keeps s0 x.1 := ?_; (on_goal 2 => dsimp -zeta only [x]); (on_goal 1 => clear_value x)) | clear_value x)
    | with_reducible refine Keeps.ite (fun _ => ?_) (fun _ => ?_)
    | with_reducible apply State.noteInvalid_keeps
    | split
    | dsimp -zeta only)

theorem State.mapCells_keeps {s0 : State} (s : State) (f : Nat → EstCell → EstCell) (h : Keeps s0 s) : Keeps s0 (State.mapCells s f) := by
  unfold State.mapCells
  repeat' (first
    | with_reducible assumption
    | (simp -zeta only [Keeps.mk_iff]; with_reducible refine KeepsParts.of ?_ rfl rfl (Nat.le_refl _) rfl rfl)
    | ((fail_if_success (conv => arg 2; congr)); extract_lets +onlyGivenNames x; first | (have hx : Keeps s0 x := ?_; (on_goal 2 => dsimp -zeta only [x]); (on_goal 1 => clear_value x)) | (have hx : Keeps s0 x.1 := ?_; (on_goal 2 => dsimp -zeta only [x]); (on_goal 1 => clear_value x)) | clear_value x)
    | with_reducible refine Keeps.ite (fun _ => ?_) (fun _ => ?_)
    | split
    | dsimp -zeta only)

theorem State.moveSRep_keeps {s0 : State} (s : State) (dt : Rat) (h : Keeps s0 s) : Keeps s0 (State.moveSRep s dt) := by
  unfold State.moveSRep
  repeat' (first
    | with_reducible assumption
    | (simp -zeta only [Keeps.mk_iff]; with_reducible refine KeepsParts.of ?_ rfl rfl (Nat.le_refl _) rfl rfl)
    | ((fail_if_success (conv => arg 2; congr)); extract_lets +onlyGivenNames x; first | (have hx : Keeps s0 x := ?_; (on_goal 2 => dsimp -zeta only [x]); (on_goal 1 => clear_value x)) | (have hx : Keeps s0 x.1 := ?_; (on_goal 2 => dsimp -zeta only [x]); (on_goal 1 => clear_value x)) | clear_value x)
    | with_reducible refine Keeps.ite (fun _ => ?_) (fun _ => ?_)
    | split
    | dsimp -zeta only)

theorem State.resetDetectors_keeps {s0 : State} (s : State) (h : Keeps s0 s) : Keeps s0 (State.resetDetectors s) := by
  unfold State.resetDetectors
  repeat' (first
    | with_reducible assumption
    | (simp -zeta only [Keeps.mk_iff]; with_reducible refine KeepsParts.of ?_ rfl rfl (Nat.le_refl _) rfl rfl)
    | ((fail_if_success (conv => arg 2; congr)); extract_lets +onlyGivenNames x; first | (have hx : Keeps s0 x := ?_; (on_goal 2 => dsimp -zeta only [x]); (on_goal 1 => clear_value x)) | (have hx : Keeps s0 x.1 := ?_; (on_goal 2 => dsimp -zeta only [x]); (on_goal 1 => clear_value x)) | clear_value x)
    | with_reducible refine Keeps.ite (fun _ => ?_) (fun _ => ?_)
    | with_reducible apply State.putB_keeps
    | split
    | dsimp -zeta only)

theorem State.calibrate_keeps {s0 : State} (s : State) (j : Nat) (z : Rat) (h : Keeps s0 s) : Keeps s0 (State.calibrate s j z) := by
  unfold State.calibrate
  repeat' (first
    | with_reducible assumption
    | (simp -zeta only [Keeps.mk_iff]; with_reducible refine KeepsParts.of ?_ rfl rfl (Nat.le_refl _) rfl rfl)
    | ((fail_if_success (conv => arg 2; congr)); extract_lets +onlyGivenNames x; first | (have hx : Keeps s0 x := ?_; (on_goal 2 => dsimp -zeta only [x]); (on_goal 1 => clear_value x)) | (have hx : Keeps s0 x.1 := ?_; (on_goal 2 => dsimp -zeta only [x]); (on_goal 1 => clear_value x)) | clear_value x)
    | with_reducible refine Keeps.ite (fun _ => ?_) (fun _ => ?_)
    | split
    | dsimp -zeta only)

theorem State.detector_keeps {s0 : State} (s : State) (dis : Bool) (i dt : Rat) (means : List (Nat × Rat)) (h : Keeps s0 s) : Keeps s0 (State.detector s dis i dt means) := by
  unfold State.detector
  repeat' (first
    | with_reducible assumption
    | (simp -zeta only [Keeps.mk_iff]; with_reducible refine KeepsParts.of ?_ rfl rfl (Nat.le_refl _) rfl rfl)
    | ((fail_if_success (conv => arg 2; congr)); extract_lets +onlyGivenNames x; first | (have hx : Keeps s0 x := ?_; (on_goal 2 => dsimp -zeta only [x]); (on_goal 1 => clear_value x)) | (have hx : Keeps s0 x.1 := ?_; (on_goal 2 => dsimp -zeta only [x]); (on_goal 1 => clear_value x)) | clear_value x)
    | with_reducible refine Keeps.ite (fun _ => ?_) (fun _ => ?_)
    | with_reducible apply State.putB_keeps
    | with_reducible apply State.raise_keeps
    | with_reducible apply State.calibrate_keeps
    | split
    | dsimp -zeta only)

theorem State.capAccepted_keeps {s0 : State} (s : State) (h : Keeps s0 s) : Keeps s0 (State.capAccepted s) := by
  unfold State.capAccepted
  repeat' (first
    | with_reducible assumption
    | (simp -zeta only [Keeps.mk_iff]; with_reducible refine KeepsParts.of ?_ rfl rfl (Nat.le_refl _) rfl rfl)
    | ((fail_if_success (conv => arg 2; congr)); extract_lets +onlyGivenNames x; first | (have hx : Keeps s0 x := ?_; (on_goal 2 => dsimp -zeta only [x]); (on_goal 1 => clear_value x)) | (have hx : Keeps s0 x.1 := ?_; (on_goal 2 => dsimp -zeta only [x]); (on_goal 1 => clear_value x)) | clear_value x)
    | with_reducible refine Keeps.ite (fun _ => ?_) (fun _ => ?_)
    | with_reducible apply State.putB_keeps
    | with_reducible apply State.setMemWord_keeps
    | split
    | dsimp -zeta only)

theorem State.restPoint_keeps {s0 : State} (s : State) (bank j : Nat) (z t : Rat) (h : Keeps s0 s) :
    Keeps s0 (State.restPoint s bank j z t) := by
  unfold State.restPoint
  extract_lets c sd base fresh put
  have hput : ∀ x y, Keeps s0 x → Keeps s0 (put x y) := fun x y hx => hx.upd rfl rfl (Nat.le_refl _) rfl rfl
  clear_value put fresh base sd c
  repeat' (first
    | with_reducible assumption
    | with_reducible refine Keeps.ite (fun _ => ?_) (fun _ => ?_)
    | with_reducible apply hput
    | with_reducible apply State.capAccepted_keeps
    | with_reducible apply State.raise_keeps
    | with_reducible apply State.put_keeps
    | dsimp only
    | with_reducible apply State.incSat_keeps)

theorem State.restPoints_keeps {s0 : State} (s : State) (bank : Nat) (h : Keeps s0 s) : Keeps s0 (State.restPoints s bank) := by
  unfold State.restPoints
  repeat' (first
    | with_reducible assumption
    | (simp -zeta only [Keeps.mk_iff]; with_reducible refine KeepsParts.of ?_ rfl rfl (Nat.le_refl _) rfl rfl)
    | ((fail_if_success (conv => arg 2; congr)); extract_lets +onlyGivenNames x; first | (have hx : Keeps s0 x := ?_; (on_goal 2 => dsimp -zeta only [x]); (on_goal 1 => clear_value x)) | (have hx : Keeps s0 x.1 := ?_; (on_goal 2 => dsimp -zeta only [x]); (on_goal 1 => clear_value x)) | clear_value x)
    | with_reducible refine Keeps.ite (fun _ => ?_) (fun _ => ?_)
    | with_reducible apply State.raise_keeps
    | with_reducible apply State.restPoint_keeps
    | (with_reducible apply Keeps.foldl; on_goal 2 => (intro x y hx; try dsimp -zeta only))
    | split
    | dsimp -zeta only)

theorem State.restWatch_keeps {s0 : State} (s : State) (restT : Rat) (detected : Bool) (h : Keeps s0 s) : Keeps s0 (State.restWatch s restT detected) := by
  unfold State.restWatch
  repeat' (first
    | with_reducible assumption
    | (simp -zeta only [Keeps.mk_iff]; with_reducible refine KeepsParts.of ?_ rfl rfl (Nat.le_refl _) rfl rfl)
    | ((fail_if_success (conv => arg 2; congr)); extract_lets +onlyGivenNames x; first | (have hx : Keeps s0 x := ?_; (on_goal 2 => dsimp -zeta only [x]); (on_goal 1 => clear_value x)) | (have hx : Keeps s0 x.1 := ?_; (on_goal 2 => dsimp -zeta only [x]); (on_goal 1 => clear_value x)) | clear_value x)
    | with_reducible refine Keeps.ite (fun _ => ?_) (fun _ => ?_)
    | with_reducible apply State.raiseIf_keeps
    | with_reducible apply State.askAll_keeps
    | with_reducible apply State.releaseAll_keeps
    | split
    | dsimp -zeta only)

theorem State.restHold_keeps {s0 : State} (s : State) (h : Keeps s0 s) : Keeps s0 (State.restHold s) := by
  unfold State.restHold
  repeat' (first
    | with_reducible assumption
    | (simp -zeta only [Keeps.mk_iff]; with_reducible refine KeepsParts.of ?_ rfl rfl (Nat.le_refl _) rfl rfl)
    | ((fail_if_success (conv => arg 2; congr)); extract_lets +onlyGivenNames x; first | (have hx : Keeps s0 x := ?_; (on_goal 2 => dsimp -zeta only [x]); (on_goal 1 => clear_value x)) | (have hx : Keeps s0 x.1 := ?_; (on_goal 2 => dsimp -zeta only [x]); (on_goal 1 => clear_value x)) | clear_value x)
    | with_reducible refine Keeps.ite (fun _ => ?_) (fun _ => ?_)
    | with_reducible apply State.raise_keeps
    | with_reducible apply State.restWatch_keeps
    | split
    | dsimp -zeta only)

theorem State.restClear_keeps {s0 : State} (s : State) (h : Keeps s0 s) : Keeps s0 (State.restClear s) := by
  unfold State.restClear
  repeat' (first
    | with_reducible assumption
    | (simp -zeta only [Keeps.mk_iff]; with_reducible refine KeepsParts.of ?_ rfl rfl (Nat.le_refl _) rfl rfl)
    | ((fail_if_success (conv => arg 2; congr)); extract_lets +onlyGivenNames x; first | (have hx : Keeps s0 x := ?_; (on_goal 2 => dsimp -zeta only [x]); (on_goal 1 => clear_value x)) | (have hx : Keeps s0 x.1 := ?_; (on_goal 2 => dsimp -zeta only [x]); (on_goal 1 => clear_value x)) | clear_value x)
    | with_reducible refine Keeps.ite (fun _ => ?_) (fun _ => ?_)
    | with_reducible apply State.restWatch_keeps
    | split
    | dsimp -zeta only)

theorem State.restRun_keeps {s0 : State} (s : State) (bank : Nat) (i dt : Rat) (ys : List (Nat × Rat × Rat)) (h : Keeps s0 s) : Keeps s0 (State.restRun s bank i dt ys) := by
  unfold State.restRun
  repeat' (first
    | with_reducible assumption
    | (simp -zeta only [Keeps.mk_iff]; with_reducible refine KeepsParts.of ?_ rfl rfl (Nat.le_refl _) rfl rfl)
    | ((fail_if_success (conv => arg 2; congr)); extract_lets +onlyGivenNames x; first | (have hx : Keeps s0 x := ?_; (on_goal 2 => dsimp -zeta only [x]); (on_goal 1 => clear_value x)) | (have hx : Keeps s0 x.1 := ?_; (on_goal 2 => dsimp -zeta only [x]); (on_goal 1 => clear_value x)) | clear_value x)
    | with_reducible refine Keeps.ite (fun _ => ?_) (fun _ => ?_)
    | with_reducible apply State.mapCells_keeps
    | with_reducible apply State.restPoints_keeps
    | with_reducible apply State.restWatch_keeps
    | with_reducible apply State.restClear_keeps
    | split
    | dsimp -zeta only)

theorem State.putLimit_keeps {s0 : State} (s : State) (f : Fld) (q : Rat) (h : Keeps s0 s) : Keeps s0 (State.putLimit s f q) := by
  unfold State.putLimit
  repeat' (first
    | with_reducible assumption
    | (simp -zeta only [Keeps.mk_iff]; with_reducible refine KeepsParts.of ?_ rfl rfl (Nat.le_refl _) rfl rfl)
    | ((fail_if_success (conv => arg 2; congr)); extract_lets +onlyGivenNames x; first | (have hx : Keeps s0 x := ?_; (on_goal 2 => dsimp -zeta only [x]); (on_goal 1 => clear_value x)) | (have hx : Keeps s0 x.1 := ?_; (on_goal 2 => dsimp -zeta only [x]); (on_goal 1 => clear_value x)) | clear_value x)
    | with_reducible refine Keeps.ite (fun _ => ?_) (fun _ => ?_)
    | with_reducible apply State.putSat_keeps
    | split
    | dsimp -zeta only)

theorem State.showLimits_keeps {s0 : State} (s : State) (bank : Nat) (h : Keeps s0 s) : Keeps s0 (State.showLimits s bank) := by
  unfold State.showLimits
  repeat' (first
    | with_reducible assumption
    | (simp -zeta only [Keeps.mk_iff]; with_reducible refine KeepsParts.of ?_ rfl rfl (Nat.le_refl _) rfl rfl)
    | ((fail_if_success (conv => arg 2; congr)); extract_lets +onlyGivenNames x; first | (have hx : Keeps s0 x := ?_; (on_goal 2 => dsimp -zeta only [x]); (on_goal 1 => clear_value x)) | (have hx : Keeps s0 x.1 := ?_; (on_goal 2 => dsimp -zeta only [x]); (on_goal 1 => clear_value x)) | clear_value x)
    | with_reducible refine Keeps.ite (fun _ => ?_) (fun _ => ?_)
    | with_reducible apply State.putLimit_keeps
    | (with_reducible apply Keeps.foldl; on_goal 2 => (intro x y hx; try dsimp -zeta only))
    | split
    | dsimp -zeta only)

theorem State.invalidLimits_keeps {s0 : State} (s : State) (h : Keeps s0 s) : Keeps s0 (State.invalidLimits s) := by
  unfold State.invalidLimits
  repeat' (first
    | with_reducible assumption
    | (simp -zeta only [Keeps.mk_iff]; with_reducible refine KeepsParts.of ?_ rfl rfl (Nat.le_refl _) rfl rfl)
    | ((fail_if_success (conv => arg 2; congr)); extract_lets +onlyGivenNames x; first | (have hx : Keeps s0 x := ?_; (on_goal 2 => dsimp -zeta only [x]); (on_goal 1 => clear_value x)) | (have hx : Keeps s0 x.1 := ?_; (on_goal 2 => dsimp -zeta only [x]); (on_goal 1 => clear_value x)) | clear_value x)
    | with_reducible refine Keeps.ite (fun _ => ?_) (fun _ => ?_)
    | with_reducible apply State.put_keeps
    | with_reducible apply State.putLimit_keeps
    | (with_reducible apply Keeps.foldl; on_goal 2 => (intro x y hx; try dsimp -zeta only))
    | split
    | dsimp -zeta only)

theorem State.checkBank_keeps {s0 : State} (s : State) (bank : Nat) (h : Keeps s0 s) : Keeps s0 (State.checkBank s bank) := by
  unfold State.checkBank
  repeat' (first
    | with_reducible assumption
    | (simp -zeta only [Keeps.mk_iff]; with_reducible refine KeepsParts.of ?_ rfl rfl (Nat.le_refl _) rfl rfl)
    | ((fail_if_success (conv => arg 2; congr)); extract_lets +onlyGivenNames x; first | (have hx : Keeps s0 x := ?_; (on_goal 2 => dsimp -zeta only [x]); (on_goal 1 => clear_value x)) | (have hx : Keeps s0 x.1 := ?_; (on_goal 2 => dsimp -zeta only [x]); (on_goal 1 => clear_value x)) | clear_value x)
    | with_reducible refine Keeps.ite (fun _ => ?_) (fun _ => ?_)
    | split
    | dsimp -zeta only)

theorem State.runRequests_keeps {s0 : State} (s : State) (bank : Nat) (h : Keeps s0 s) : Keeps s0 (State.runRequests s bank) := by
  unfold State.runRequests
  repeat' (first
    | with_reducible assumption
    | (simp -zeta only [Keeps.mk_iff]; with_reducible refine KeepsParts.of ?_ rfl rfl (Nat.le_refl _) rfl rfl)
    | ((fail_if_success (conv => arg 2; congr)); extract_lets +onlyGivenNames x; first | (have hx : Keeps s0 x := ?_; (on_goal 2 => dsimp -zeta only [x]); (on_goal 1 => clear_value x)) | (have hx : Keeps s0 x.1 := ?_; (on_goal 2 => dsimp -zeta only [x]); (on_goal 1 => clear_value x)) | clear_value x)
    | with_reducible refine Keeps.ite (fun _ => ?_) (fun _ => ?_)
    | with_reducible apply State.putB_keeps
    | with_reducible apply State.mapCells_keeps
    | split
    | dsimp -zeta only)

theorem State.runInvalid_keeps {s0 : State} (s : State) (h : Keeps s0 s) : Keeps s0 (State.runInvalid s) := by
  unfold State.runInvalid
  repeat' (first
    | with_reducible assumption
    | (simp -zeta only [Keeps.mk_iff]; with_reducible refine KeepsParts.of ?_ rfl rfl (Nat.le_refl _) rfl rfl)
    | ((fail_if_success (conv => arg 2; congr)); extract_lets +onlyGivenNames x; first | (have hx : Keeps s0 x := ?_; (on_goal 2 => dsimp -zeta only [x]); (on_goal 1 => clear_value x)) | (have hx : Keeps s0 x.1 := ?_; (on_goal 2 => dsimp -zeta only [x]); (on_goal 1 => clear_value x)) | clear_value x)
    | with_reducible refine Keeps.ite (fun _ => ?_) (fun _ => ?_)
    | with_reducible apply State.putB_keeps
    | with_reducible apply State.raise_keeps
    | with_reducible apply State.noteInvalid_keeps
    | with_reducible apply State.mapCells_keeps
    | with_reducible apply State.resetDetectors_keeps
    | with_reducible apply State.restClear_keeps
    | with_reducible apply State.invalidLimits_keeps
    | split
    | dsimp -zeta only)

theorem State.runFlags_keeps {s0 : State} (s : State) (dt : Rat) (h : Keeps s0 s) : Keeps s0 (State.runFlags s dt) := by
  unfold State.runFlags
  repeat' (first
    | with_reducible assumption
    | (simp -zeta only [Keeps.mk_iff]; with_reducible refine KeepsParts.of ?_ rfl rfl (Nat.le_refl _) rfl rfl)
    | ((fail_if_success (conv => arg 2; congr)); extract_lets +onlyGivenNames x; first | (have hx : Keeps s0 x := ?_; (on_goal 2 => dsimp -zeta only [x]); (on_goal 1 => clear_value x)) | (have hx : Keeps s0 x.1 := ?_; (on_goal 2 => dsimp -zeta only [x]); (on_goal 1 => clear_value x)) | clear_value x)
    | with_reducible refine Keeps.ite (fun _ => ?_) (fun _ => ?_)
    | with_reducible apply State.putB_keeps
    | with_reducible apply State.raiseIf_keeps
    | with_reducible apply State.mapCells_keeps
    | split
    | dsimp -zeta only)

theorem State.runCells_keeps {s0 : State} (s : State) (bank : Nat) (dt : Rat) (ys : List (Nat × Rat × Rat)) (h : Keeps s0 s) : Keeps s0 (State.runCells s bank dt ys) := by
  unfold State.runCells
  repeat' (first
    | with_reducible assumption
    | (simp -zeta only [Keeps.mk_iff]; with_reducible refine KeepsParts.of ?_ rfl rfl (Nat.le_refl _) rfl rfl)
    | ((fail_if_success (conv => arg 2; congr)); extract_lets +onlyGivenNames x; first | (have hx : Keeps s0 x := ?_; (on_goal 2 => dsimp -zeta only [x]); (on_goal 1 => clear_value x)) | (have hx : Keeps s0 x.1 := ?_; (on_goal 2 => dsimp -zeta only [x]); (on_goal 1 => clear_value x)) | clear_value x)
    | with_reducible refine Keeps.ite (fun _ => ?_) (fun _ => ?_)
    | with_reducible apply State.mapCells_keeps
    | split
    | dsimp -zeta only)

theorem State.runValid_keeps {s0 : State} (s : State) (bank : Nat) (dt : Rat) (h : Keeps s0 s) : Keeps s0 (State.runValid s bank dt) := by
  unfold State.runValid
  repeat' (first
    | with_reducible assumption
    | (simp -zeta only [Keeps.mk_iff]; with_reducible refine KeepsParts.of ?_ rfl rfl (Nat.le_refl _) rfl rfl)
    | ((fail_if_success (conv => arg 2; congr)); extract_lets +onlyGivenNames x; first | (have hx : Keeps s0 x := ?_; (on_goal 2 => dsimp -zeta only [x]); (on_goal 1 => clear_value x)) | (have hx : Keeps s0 x.1 := ?_; (on_goal 2 => dsimp -zeta only [x]); (on_goal 1 => clear_value x)) | clear_value x)
    | with_reducible refine Keeps.ite (fun _ => ?_) (fun _ => ?_)
    | with_reducible apply State.putB_keeps
    | with_reducible apply State.raise_keeps
    | with_reducible apply State.mapCells_keeps
    | with_reducible apply State.detector_keeps
    | with_reducible apply State.restRun_keeps
    | with_reducible apply State.showLimits_keeps
    | with_reducible apply State.runFlags_keeps
    | with_reducible apply State.runCells_keeps
    | split
    | dsimp -zeta only)

theorem State.runSoc_keeps {s0 : State} (s : State) (dt : Rat) (h : Keeps s0 s) : Keeps s0 (State.runSoc s dt) := by
  unfold State.runSoc
  repeat' (first
    | with_reducible assumption
    | (simp -zeta only [Keeps.mk_iff]; with_reducible refine KeepsParts.of ?_ rfl rfl (Nat.le_refl _) rfl rfl)
    | ((fail_if_success (conv => arg 2; congr)); extract_lets +onlyGivenNames x; first | (have hx : Keeps s0 x := ?_; (on_goal 2 => dsimp -zeta only [x]); (on_goal 1 => clear_value x)) | (have hx : Keeps s0 x.1 := ?_; (on_goal 2 => dsimp -zeta only [x]); (on_goal 1 => clear_value x)) | clear_value x)
    | with_reducible refine Keeps.ite (fun _ => ?_) (fun _ => ?_)
    | with_reducible apply State.putB_keeps
    | with_reducible apply State.raiseIf_keeps
    | with_reducible apply State.moveSRep_keeps
    | split
    | dsimp -zeta only)

theorem State.showSoc_keeps {s0 : State} (s : State) (h : Keeps s0 s) : Keeps s0 (State.showSoc s) := by
  unfold State.showSoc
  repeat' (first
    | with_reducible assumption
    | (simp -zeta only [Keeps.mk_iff]; with_reducible refine KeepsParts.of ?_ rfl rfl (Nat.le_refl _) rfl rfl)
    | ((fail_if_success (conv => arg 2; congr)); extract_lets +onlyGivenNames x; first | (have hx : Keeps s0 x := ?_; (on_goal 2 => dsimp -zeta only [x]); (on_goal 1 => clear_value x)) | (have hx : Keeps s0 x.1 := ?_; (on_goal 2 => dsimp -zeta only [x]); (on_goal 1 => clear_value x)) | clear_value x)
    | with_reducible refine Keeps.ite (fun _ => ?_) (fun _ => ?_)
    | with_reducible apply State.put_keeps
    | with_reducible apply State.putB_keeps
    | with_reducible apply State.putSat_keeps
    | split
    | dsimp -zeta only)

theorem State.runShow_keeps {s0 : State} (s : State) (h : Keeps s0 s) : Keeps s0 (State.runShow s) := by
  unfold State.runShow
  repeat' (first
    | with_reducible assumption
    | (simp -zeta only [Keeps.mk_iff]; with_reducible refine KeepsParts.of ?_ rfl rfl (Nat.le_refl _) rfl rfl)
    | ((fail_if_success (conv => arg 2; congr)); extract_lets +onlyGivenNames x; first | (have hx : Keeps s0 x := ?_; (on_goal 2 => dsimp -zeta only [x]); (on_goal 1 => clear_value x)) | (have hx : Keeps s0 x.1 := ?_; (on_goal 2 => dsimp -zeta only [x]); (on_goal 1 => clear_value x)) | clear_value x)
    | with_reducible refine Keeps.ite (fun _ => ?_) (fun _ => ?_)
    | with_reducible apply State.put_keeps
    | with_reducible apply State.putB_keeps
    | with_reducible apply State.putSat_keeps
    | with_reducible apply State.showSoc_keeps
    | split
    | dsimp -zeta only)

theorem execEstimatorRunDone_keeps {s0 : State} (s : State) (h : Keeps s0 s) : KeepsR s0 (execEstimatorRunDone s) := by
  unfold execEstimatorRunDone
  repeat' (first
    | with_reducible assumption
    | (simp -zeta only [Keeps.mk_iff]; with_reducible refine KeepsParts.of ?_ rfl rfl (Nat.le_refl _) rfl rfl)
    | ((fail_if_success (conv => arg 2; congr)); extract_lets +onlyGivenNames x; first | (have hx : Keeps s0 x := ?_; (on_goal 2 => dsimp -zeta only [x]); (on_goal 1 => clear_value x)) | (have hx : Keeps s0 x.1 := ?_; (on_goal 2 => dsimp -zeta only [x]); (on_goal 1 => clear_value x)) | clear_value x)
    | with_reducible refine Keeps.ite (fun _ => ?_) (fun _ => ?_)
    | with_reducible refine KeepsR.ite (fun _ => ?_) (fun _ => ?_)
    | with_reducible apply KeepsR.next
    | with_reducible apply State.nextFree_keeps
    | with_reducible apply State.settle_keeps
    | with_reducible apply State.accelDone_keeps
    | with_reducible apply State.learnPop_keeps
    | with_reducible apply State.restHold_keeps
    | with_reducible apply State.checkBank_keeps
    | with_reducible apply State.runRequests_keeps
    | with_reducible apply State.runInvalid_keeps
    | with_reducible apply State.runValid_keeps
    | with_reducible apply State.runSoc_keeps
    | with_reducible apply State.runShow_keeps
    | split
    | dsimp -zeta only)

theorem execTableDataWrite_keeps {s0 : State} (ini : Ini) (val : Word) (s : State) (h : Keeps s0 s) : KeepsR s0 (execTableDataWrite ini val s) := by
  unfold execTableDataWrite
  repeat' (first
    | with_reducible assumption
    | (simp -zeta only [Keeps.mk_iff]; with_reducible refine KeepsParts.of ?_ rfl rfl (Nat.le_refl _) rfl rfl)
    | ((fail_if_success (conv => arg 2; congr)); extract_lets +onlyGivenNames x; first | (have hx : Keeps s0 x := ?_; (on_goal 2 => dsimp -zeta only [x]); (on_goal 1 => clear_value x)) | (have hx : Keeps s0 x.1 := ?_; (on_goal 2 => dsimp -zeta only [x]); (on_goal 1 => clear_value x)) | clear_value x)
    | with_reducible refine Keeps.ite (fun _ => ?_) (fun _ => ?_)
    | with_reducible refine KeepsR.ite (fun _ => ?_) (fun _ => ?_)
    | with_reducible apply KeepsR.next
    | with_reducible apply State.put_keeps
    | (with_reducible apply State.onPage_keeps; on_goal 2 => (intro x hx; try dsimp -zeta only))
    | with_reducible apply State.stgCancel_keeps
    | split
    | dsimp -zeta only)

theorem execEstCellSelect_keeps {s0 : State} (ini : Ini) (cell : Nat) (s : State) (h : Keeps s0 s) : KeepsR s0 (execEstCellSelect ini cell s) := by
  unfold execEstCellSelect
  repeat' (first
    | with_reducible assumption
    | (simp -zeta only [Keeps.mk_iff]; with_reducible refine KeepsParts.of ?_ rfl rfl (Nat.le_refl _) rfl rfl)
    | ((fail_if_success (conv => arg 2; congr)); extract_lets +onlyGivenNames x; first | (have hx : Keeps s0 x := ?_; (on_goal 2 => dsimp -zeta only [x]); (on_goal 1 => clear_value x)) | (have hx : Keeps s0 x.1 := ?_; (on_goal 2 => dsimp -zeta only [x]); (on_goal 1 => clear_value x)) | clear_value x)
    | with_reducible refine Keeps.ite (fun _ => ?_) (fun _ => ?_)
    | with_reducible refine KeepsR.ite (fun _ => ?_) (fun _ => ?_)
    | with_reducible apply KeepsR.next
    | with_reducible apply State.put_keeps
    | with_reducible apply State.putSat_keeps
    | with_reducible apply State.putSatI_keeps
    | (with_reducible apply State.onPage_keeps; on_goal 2 => (intro x hx; try dsimp -zeta only))
    | split
    | dsimp -zeta only)

theorem State.estRequest_keeps {s0 : State} (s : State) (ini : Ini) (f : State → State) (h : Keeps s0 s)
    (hact : ∀ x, Keeps s0 x → Keeps s0 (f x)) : Keeps s0 (State.estRequest s ini f) := by
  unfold State.estRequest
  apply State.onPage_keeps _ _ _ _ h
  intro x hx
  exact Keeps.ite (fun _ => hact x hx) (fun _ => hx)

theorem execEstCaprst_keeps {s0 : State} (ini : Ini) (s : State) (h : Keeps s0 s) : KeepsR s0 (execEstCaprst ini s) := by
  unfold execEstCaprst
  repeat' (first
    | with_reducible assumption
    | (simp -zeta only [Keeps.mk_iff]; with_reducible refine KeepsParts.of ?_ rfl rfl (Nat.le_refl _) rfl rfl)
    | ((fail_if_success (conv => arg 2; congr)); extract_lets +onlyGivenNames x; first | (have hx : Keeps s0 x := ?_; (on_goal 2 => dsimp -zeta only [x]); (on_goal 1 => clear_value x)) | (have hx : Keeps s0 x.1 := ?_; (on_goal 2 => dsimp -zeta only [x]); (on_goal 1 => clear_value x)) | clear_value x)
    | with_reducible refine Keeps.ite (fun _ => ?_) (fun _ => ?_)
    | with_reducible refine KeepsR.ite (fun _ => ?_) (fun _ => ?_)
    | with_reducible apply KeepsR.next
    | (with_reducible apply State.estRequest_keeps; on_goal 2 => (intro x hx; try dsimp -zeta only))
    | split
    | dsimp -zeta only)

theorem execEstReinit_keeps {s0 : State} (ini : Ini) (s : State) (h : Keeps s0 s) : KeepsR s0 (execEstReinit ini s) := by
  unfold execEstReinit
  repeat' (first
    | with_reducible assumption
    | (simp -zeta only [Keeps.mk_iff]; with_reducible refine KeepsParts.of ?_ rfl rfl (Nat.le_refl _) rfl rfl)
    | ((fail_if_success (conv => arg 2; congr)); extract_lets +onlyGivenNames x; first | (have hx : Keeps s0 x := ?_; (on_goal 2 => dsimp -zeta only [x]); (on_goal 1 => clear_value x)) | (have hx : Keeps s0 x.1 := ?_; (on_goal 2 => dsimp -zeta only [x]); (on_goal 1 => clear_value x)) | clear_value x)
    | with_reducible refine Keeps.ite (fun _ => ?_) (fun _ => ?_)
    | with_reducible refine KeepsR.ite (fun _ => ?_) (fun _ => ?_)
    | with_reducible apply KeepsR.next
    | (with_reducible apply State.estRequest_keeps; on_goal 2 => (intro x hx; try dsimp -zeta only))
    | split
    | dsimp -zeta only)

theorem execEstJwrite_keeps {s0 : State} (ini : Ini) (s : State) (h : Keeps s0 s) : KeepsR s0 (execEstJwrite ini s) := by
  unfold execEstJwrite
  repeat' (first
    | with_reducible assumption
    | (simp -zeta only [Keeps.mk_iff]; with_reducible refine KeepsParts.of ?_ rfl rfl (Nat.le_refl _) rfl rfl)
    | ((fail_if_success (conv => arg 2; congr)); extract_lets +onlyGivenNames x; first | (have hx : Keeps s0 x := ?_; (on_goal 2 => dsimp -zeta only [x]); (on_goal 1 => clear_value x)) | (have hx : Keeps s0 x.1 := ?_; (on_goal 2 => dsimp -zeta only [x]); (on_goal 1 => clear_value x)) | clear_value x)
    | with_reducible refine Keeps.ite (fun _ => ?_) (fun _ => ?_)
    | with_reducible refine KeepsR.ite (fun _ => ?_) (fun _ => ?_)
    | with_reducible apply KeepsR.next
    | (with_reducible apply State.estRequest_keeps; on_goal 2 => (intro x hx; try dsimp -zeta only))
    | split
    | dsimp -zeta only)

theorem execEstResync_keeps {s0 : State} (ini : Ini) (s : State) (h : Keeps s0 s) : KeepsR s0 (execEstResync ini s) := by
  unfold execEstResync
  repeat' (first
    | with_reducible assumption
    | (simp -zeta only [Keeps.mk_iff]; with_reducible refine KeepsParts.of ?_ rfl rfl (Nat.le_refl _) rfl rfl)
    | ((fail_if_success (conv => arg 2; congr)); extract_lets +onlyGivenNames x; first | (have hx : Keeps s0 x := ?_; (on_goal 2 => dsimp -zeta only [x]); (on_goal 1 => clear_value x)) | (have hx : Keeps s0 x.1 := ?_; (on_goal 2 => dsimp -zeta only [x]); (on_goal 1 => clear_value x)) | clear_value x)
    | with_reducible refine Keeps.ite (fun _ => ?_) (fun _ => ?_)
    | with_reducible refine KeepsR.ite (fun _ => ?_) (fun _ => ?_)
    | with_reducible apply KeepsR.next
    | (with_reducible apply State.estRequest_keeps; on_goal 2 => (intro x hx; try dsimp -zeta only))
    | split
    | dsimp -zeta only)

theorem execJournalPeriod_keeps {s0 : State} (s : State) (h : Keeps s0 s) : KeepsR s0 (execJournalPeriod s) := by
  unfold execJournalPeriod
  repeat' (first
    | with_reducible assumption
    | (simp -zeta only [Keeps.mk_iff]; with_reducible refine KeepsParts.of ?_ rfl rfl (Nat.le_refl _) rfl rfl)
    | ((fail_if_success (conv => arg 2; congr)); extract_lets +onlyGivenNames x; first | (have hx : Keeps s0 x := ?_; (on_goal 2 => dsimp -zeta only [x]); (on_goal 1 => clear_value x)) | (have hx : Keeps s0 x.1 := ?_; (on_goal 2 => dsimp -zeta only [x]); (on_goal 1 => clear_value x)) | clear_value x)
    | with_reducible refine Keeps.ite (fun _ => ?_) (fun _ => ?_)
    | with_reducible refine KeepsR.ite (fun _ => ?_) (fun _ => ?_)
    | with_reducible apply KeepsR.next
    | with_reducible apply State.advanceTo_keeps
    | split
    | dsimp -zeta only)

theorem State.journalStart_keeps {s0 : State} (s : State) (h : Keeps s0 s) : Keeps s0 (State.journalStart s) := by
  unfold State.journalStart
  repeat' (first
    | with_reducible assumption
    | (simp -zeta only [Keeps.mk_iff]; with_reducible refine KeepsParts.of ?_ rfl rfl (Nat.le_refl _) rfl rfl)
    | ((fail_if_success (conv => arg 2; congr)); extract_lets +onlyGivenNames x; first | (have hx : Keeps s0 x := ?_; (on_goal 2 => dsimp -zeta only [x]); (on_goal 1 => clear_value x)) | (have hx : Keeps s0 x.1 := ?_; (on_goal 2 => dsimp -zeta only [x]); (on_goal 1 => clear_value x)) | clear_value x)
    | with_reducible refine Keeps.ite (fun _ => ?_) (fun _ => ?_)
    | with_reducible apply State.putB_keeps
    | with_reducible apply State.setMemWord_keeps
    | split
    | dsimp -zeta only)

theorem State.journalDone_keeps {s0 : State} (s : State) (h : Keeps s0 s) : Keeps s0 (State.journalDone s) := by
  unfold State.journalDone
  repeat' (first
    | with_reducible assumption
    | (simp -zeta only [Keeps.mk_iff]; with_reducible refine KeepsParts.of ?_ rfl rfl (Nat.le_refl _) rfl rfl)
    | ((fail_if_success (conv => arg 2; congr)); extract_lets +onlyGivenNames x; first | (have hx : Keeps s0 x := ?_; (on_goal 2 => dsimp -zeta only [x]); (on_goal 1 => clear_value x)) | (have hx : Keeps s0 x.1 := ?_; (on_goal 2 => dsimp -zeta only [x]); (on_goal 1 => clear_value x)) | clear_value x)
    | with_reducible refine Keeps.ite (fun _ => ?_) (fun _ => ?_)
    | with_reducible apply State.put_keeps
    | with_reducible apply State.putB_keeps
    | with_reducible apply State.setBytes_keeps
    | with_reducible apply State.setMemWord_keeps
    | split
    | dsimp -zeta only)

theorem execJournalWriteStart_keeps {s0 : State} (s : State) (h : Keeps s0 s) : KeepsR s0 (execJournalWriteStart s) := by
  unfold execJournalWriteStart
  repeat' (first
    | with_reducible assumption
    | (simp -zeta only [Keeps.mk_iff]; with_reducible refine KeepsParts.of ?_ rfl rfl (Nat.le_refl _) rfl rfl)
    | ((fail_if_success (conv => arg 2; congr)); extract_lets +onlyGivenNames x; first | (have hx : Keeps s0 x := ?_; (on_goal 2 => dsimp -zeta only [x]); (on_goal 1 => clear_value x)) | (have hx : Keeps s0 x.1 := ?_; (on_goal 2 => dsimp -zeta only [x]); (on_goal 1 => clear_value x)) | clear_value x)
    | with_reducible refine Keeps.ite (fun _ => ?_) (fun _ => ?_)
    | with_reducible refine KeepsR.ite (fun _ => ?_) (fun _ => ?_)
    | with_reducible apply KeepsR.next
    | with_reducible apply State.journalStart_keeps
    | split
    | dsimp -zeta only)

theorem execJournalWriteDone_keeps {s0 : State} (s : State) (h : Keeps s0 s) : KeepsR s0 (execJournalWriteDone s) := by
  unfold execJournalWriteDone
  repeat' (first
    | with_reducible assumption
    | (simp -zeta only [Keeps.mk_iff]; with_reducible refine KeepsParts.of ?_ rfl rfl (Nat.le_refl _) rfl rfl)
    | ((fail_if_success (conv => arg 2; congr)); extract_lets +onlyGivenNames x; first | (have hx : Keeps s0 x := ?_; (on_goal 2 => dsimp -zeta only [x]); (on_goal 1 => clear_value x)) | (have hx : Keeps s0 x.1 := ?_; (on_goal 2 => dsimp -zeta only [x]); (on_goal 1 => clear_value x)) | clear_value x)
    | with_reducible refine Keeps.ite (fun _ => ?_) (fun _ => ?_)
    | with_reducible refine KeepsR.ite (fun _ => ?_) (fun _ => ?_)
    | with_reducible apply KeepsR.next
    | with_reducible apply State.journalDone_keeps
    | split
    | dsimp -zeta only)

theorem State.estBoot_keeps {s0 : State} (s : State) (h : Keeps s0 s) : Keeps s0 (State.estBoot s) := by
  unfold State.estBoot
  repeat' (first
    | with_reducible assumption
    | (simp -zeta only [Keeps.mk_iff]; with_reducible refine KeepsParts.of ?_ rfl rfl (Nat.le_refl _) rfl rfl)
    | ((fail_if_success (conv => arg 2; congr)); extract_lets +onlyGivenNames x; first | (have hx : Keeps s0 x := ?_; (on_goal 2 => dsimp -zeta only [x]); (on_goal 1 => clear_value x)) | (have hx : Keeps s0 x.1 := ?_; (on_goal 2 => dsimp -zeta only [x]); (on_goal 1 => clear_value x)) | clear_value x)
    | with_reducible refine Keeps.ite (fun _ => ?_) (fun _ => ?_)
    | with_reducible apply State.put_keeps
    | with_reducible apply State.putB_keeps
    | with_reducible apply State.setMemWord_keeps
    | with_reducible apply State.raiseIf_keeps
    | split
    | dsimp -zeta only)

theorem State.estProfile_keeps {s0 : State} (s : State) (fromRun fromSleep : Bool) (h : Keeps s0 s) : Keeps s0 (State.estProfile s fromRun fromSleep) := by
  unfold State.estProfile
  repeat' (first
    | with_reducible assumption
    | (simp -zeta only [Keeps.mk_iff]; with_reducible refine KeepsParts.of ?_ rfl rfl (Nat.le_refl _) rfl rfl)
    | ((fail_if_success (conv => arg 2; congr)); extract_lets +onlyGivenNames x; first | (have hx : Keeps s0 x := ?_; (on_goal 2 => dsimp -zeta only [x]); (on_goal 1 => clear_value x)) | (have hx : Keeps s0 x.1 := ?_; (on_goal 2 => dsimp -zeta only [x]); (on_goal 1 => clear_value x)) | clear_value x)
    | with_reducible refine Keeps.ite (fun _ => ?_) (fun _ => ?_)
    | with_reducible apply State.resetDetectors_keeps
    | with_reducible apply State.restClear_keeps
    | split
    | dsimp -zeta only)

theorem State.coverage_keeps {s0 : State} (s : State) (h : Keeps s0 s) : Keeps s0 (State.coverage s) := by
  unfold State.coverage
  repeat' (first
    | with_reducible assumption
    | (simp -zeta only [Keeps.mk_iff]; with_reducible refine KeepsParts.of ?_ rfl rfl (Nat.le_refl _) rfl rfl)
    | ((fail_if_success (conv => arg 2; congr)); extract_lets +onlyGivenNames x; first | (have hx : Keeps s0 x := ?_; (on_goal 2 => dsimp -zeta only [x]); (on_goal 1 => clear_value x)) | (have hx : Keeps s0 x.1 := ?_; (on_goal 2 => dsimp -zeta only [x]); (on_goal 1 => clear_value x)) | clear_value x)
    | with_reducible refine Keeps.ite (fun _ => ?_) (fun _ => ?_)
    | with_reducible apply State.putB_keeps
    | with_reducible apply State.raiseIf_keeps
    | split
    | dsimp -zeta only)

theorem State.dropUnused_keeps {s0 : State} (s : State) (h : Keeps s0 s) : Keeps s0 (State.dropUnused s) := by
  unfold State.dropUnused
  repeat' (first
    | with_reducible assumption
    | (simp -zeta only [Keeps.mk_iff]; with_reducible refine KeepsParts.of ?_ rfl rfl (Nat.le_refl _) rfl rfl)
    | ((fail_if_success (conv => arg 2; congr)); extract_lets +onlyGivenNames x; first | (have hx : Keeps s0 x := ?_; (on_goal 2 => dsimp -zeta only [x]); (on_goal 1 => clear_value x)) | (have hx : Keeps s0 x.1 := ?_; (on_goal 2 => dsimp -zeta only [x]); (on_goal 1 => clear_value x)) | clear_value x)
    | with_reducible refine Keeps.ite (fun _ => ?_) (fun _ => ?_)
    | with_reducible apply State.setWord_keeps
    | (with_reducible apply Keeps.foldl; on_goal 2 => (intro x y hx; try dsimp -zeta only))
    | split
    | dsimp -zeta only)

theorem State.nearStep_keeps {s0 : State} (s : State) (i : Nat) (t : Option Int) (h : Keeps s0 s) : Keeps s0 (State.nearStep s i t) := by
  unfold State.nearStep
  repeat' (first
    | with_reducible assumption
    | (simp -zeta only [Keeps.mk_iff]; with_reducible refine KeepsParts.of ?_ rfl rfl (Nat.le_refl _) rfl rfl)
    | ((fail_if_success (conv => arg 2; congr)); extract_lets +onlyGivenNames x; first | (have hx : Keeps s0 x := ?_; (on_goal 2 => dsimp -zeta only [x]); (on_goal 1 => clear_value x)) | (have hx : Keeps s0 x.1 := ?_; (on_goal 2 => dsimp -zeta only [x]); (on_goal 1 => clear_value x)) | clear_value x)
    | with_reducible refine Keeps.ite (fun _ => ?_) (fun _ => ?_)
    | with_reducible apply State.putB_keeps
    | split
    | dsimp -zeta only)

theorem State.showTemp_keeps {s0 : State} (s : State) (i c : Nat) (t : Int) (h : Keeps s0 s) : Keeps s0 (State.showTemp s i c t) := by
  unfold State.showTemp
  repeat' (first
    | with_reducible assumption
    | (simp -zeta only [Keeps.mk_iff]; with_reducible refine KeepsParts.of ?_ rfl rfl (Nat.le_refl _) rfl rfl)
    | ((fail_if_success (conv => arg 2; congr)); extract_lets +onlyGivenNames x; first | (have hx : Keeps s0 x := ?_; (on_goal 2 => dsimp -zeta only [x]); (on_goal 1 => clear_value x)) | (have hx : Keeps s0 x.1 := ?_; (on_goal 2 => dsimp -zeta only [x]); (on_goal 1 => clear_value x)) | clear_value x)
    | with_reducible refine Keeps.ite (fun _ => ?_) (fun _ => ?_)
    | with_reducible apply State.put_keeps
    | with_reducible apply State.putB_keeps
    | with_reducible apply State.putSatI_keeps
    | split
    | dsimp -zeta only)

theorem execThermistorSample_keeps {s0 : State} (input code : Nat) (s : State) (h : Keeps s0 s) : KeepsR s0 (execThermistorSample input code s) := by
  unfold execThermistorSample
  repeat' (first
    | with_reducible assumption
    | (simp -zeta only [Keeps.mk_iff]; with_reducible refine KeepsParts.of ?_ rfl rfl (Nat.le_refl _) rfl rfl)
    | ((fail_if_success (conv => arg 2; congr)); extract_lets +onlyGivenNames x; first | (have hx : Keeps s0 x := ?_; (on_goal 2 => dsimp -zeta only [x]); (on_goal 1 => clear_value x)) | (have hx : Keeps s0 x.1 := ?_; (on_goal 2 => dsimp -zeta only [x]); (on_goal 1 => clear_value x)) | clear_value x)
    | with_reducible refine Keeps.ite (fun _ => ?_) (fun _ => ?_)
    | with_reducible refine KeepsR.ite (fun _ => ?_) (fun _ => ?_)
    | with_reducible apply KeepsR.next
    | with_reducible apply State.advanceTo_keeps
    | with_reducible apply State.raiseIf_keeps
    | with_reducible apply State.protect_keeps
    | with_reducible apply State.monitorTemp_keeps
    | with_reducible apply State.coverage_keeps
    | with_reducible apply State.nearStep_keeps
    | with_reducible apply State.showTemp_keeps
    | split
    | dsimp -zeta only)

theorem State.suspectBoundary_keeps {s0 : State} (s : State) (h : Keeps s0 s) : Keeps s0 (State.suspectBoundary s) := by
  unfold State.suspectBoundary
  repeat' (first
    | with_reducible assumption
    | (simp -zeta only [Keeps.mk_iff]; with_reducible refine KeepsParts.of ?_ rfl rfl (Nat.le_refl _) rfl rfl)
    | ((fail_if_success (conv => arg 2; congr)); extract_lets +onlyGivenNames x; first | (have hx : Keeps s0 x := ?_; (on_goal 2 => dsimp -zeta only [x]); (on_goal 1 => clear_value x)) | (have hx : Keeps s0 x.1 := ?_; (on_goal 2 => dsimp -zeta only [x]); (on_goal 1 => clear_value x)) | clear_value x)
    | with_reducible refine Keeps.ite (fun _ => ?_) (fun _ => ?_)
    | split
    | dsimp -zeta only)

theorem execNeighbourMapWrite_keeps {s0 : State} (_ini : Ini) (val : Word) (s : State) (h : Keeps s0 s) : KeepsR s0 (execNeighbourMapWrite _ini val s) := by
  unfold execNeighbourMapWrite
  repeat' (first
    | with_reducible assumption
    | (simp -zeta only [Keeps.mk_iff]; with_reducible refine KeepsParts.of ?_ rfl rfl (Nat.le_refl _) rfl rfl)
    | ((fail_if_success (conv => arg 2; congr)); extract_lets +onlyGivenNames x; first | (have hx : Keeps s0 x := ?_; (on_goal 2 => dsimp -zeta only [x]); (on_goal 1 => clear_value x)) | (have hx : Keeps s0 x.1 := ?_; (on_goal 2 => dsimp -zeta only [x]); (on_goal 1 => clear_value x)) | clear_value x)
    | with_reducible refine Keeps.ite (fun _ => ?_) (fun _ => ?_)
    | with_reducible refine KeepsR.ite (fun _ => ?_) (fun _ => ?_)
    | with_reducible apply KeepsR.next
    | with_reducible apply State.put_keeps
    | with_reducible apply State.stgCancel_keeps
    | split
    | dsimp -zeta only)

theorem State.checkSensor_keeps {s0 : State} (s : State) (g : Nat) (h : Keeps s0 s) : Keeps s0 (State.checkSensor s g) := by
  unfold State.checkSensor
  repeat' (first
    | with_reducible assumption
    | (simp -zeta only [Keeps.mk_iff]; with_reducible refine KeepsParts.of ?_ rfl rfl (Nat.le_refl _) rfl rfl)
    | ((fail_if_success (conv => arg 2; congr)); extract_lets +onlyGivenNames x; first | (have hx : Keeps s0 x := ?_; (on_goal 2 => dsimp -zeta only [x]); (on_goal 1 => clear_value x)) | (have hx : Keeps s0 x.1 := ?_; (on_goal 2 => dsimp -zeta only [x]); (on_goal 1 => clear_value x)) | clear_value x)
    | with_reducible refine Keeps.ite (fun _ => ?_) (fun _ => ?_)
    | with_reducible apply State.raise_keeps
    | split
    | dsimp -zeta only)

theorem State.neighbourCheck_keeps {s0 : State} (s : State) (h : Keeps s0 s) : Keeps s0 (State.neighbourCheck s) := by
  unfold State.neighbourCheck
  repeat' (first
    | with_reducible assumption
    | (simp -zeta only [Keeps.mk_iff]; with_reducible refine KeepsParts.of ?_ rfl rfl (Nat.le_refl _) rfl rfl)
    | ((fail_if_success (conv => arg 2; congr)); extract_lets +onlyGivenNames x; first | (have hx : Keeps s0 x := ?_; (on_goal 2 => dsimp -zeta only [x]); (on_goal 1 => clear_value x)) | (have hx : Keeps s0 x.1 := ?_; (on_goal 2 => dsimp -zeta only [x]); (on_goal 1 => clear_value x)) | clear_value x)
    | with_reducible refine Keeps.ite (fun _ => ?_) (fun _ => ?_)
    | with_reducible apply State.send_keeps
    | with_reducible apply State.checkSensor_keeps
    | (with_reducible apply Keeps.foldl; on_goal 2 => (intro x y hx; try dsimp -zeta only))
    | split
    | dsimp -zeta only)

theorem State.thmOwe_keeps {s0 : State} (s : State) (h : Keeps s0 s) : Keeps s0 (State.thmOwe s) := by
  unfold State.thmOwe
  repeat' (first
    | with_reducible assumption
    | (simp -zeta only [Keeps.mk_iff]; with_reducible refine KeepsParts.of ?_ rfl rfl (Nat.le_refl _) rfl rfl)
    | ((fail_if_success (conv => arg 2; congr)); extract_lets +onlyGivenNames x; first | (have hx : Keeps s0 x := ?_; (on_goal 2 => dsimp -zeta only [x]); (on_goal 1 => clear_value x)) | (have hx : Keeps s0 x.1 := ?_; (on_goal 2 => dsimp -zeta only [x]); (on_goal 1 => clear_value x)) | clear_value x)
    | with_reducible refine Keeps.ite (fun _ => ?_) (fun _ => ?_)
    | split
    | dsimp -zeta only)

theorem State.modelRun_keeps {s0 : State} (s : State) (h : Keeps s0 s) : Keeps s0 (State.modelRun s) := by
  unfold State.modelRun
  repeat' (first
    | with_reducible assumption
    | (simp -zeta only [Keeps.mk_iff]; with_reducible refine KeepsParts.of ?_ rfl rfl (Nat.le_refl _) rfl rfl)
    | ((fail_if_success (conv => arg 2; congr)); extract_lets +onlyGivenNames x; first | (have hx : Keeps s0 x := ?_; (on_goal 2 => dsimp -zeta only [x]); (on_goal 1 => clear_value x)) | (have hx : Keeps s0 x.1 := ?_; (on_goal 2 => dsimp -zeta only [x]); (on_goal 1 => clear_value x)) | clear_value x)
    | with_reducible refine Keeps.ite (fun _ => ?_) (fun _ => ?_)
    | (with_reducible apply Keeps.foldl; on_goal 2 => (intro x y hx; try dsimp -zeta only))
    | split
    | dsimp -zeta only)

theorem State.modelCheck_keeps {s0 : State} (s : State) (h : Keeps s0 s) : Keeps s0 (State.modelCheck s) := by
  unfold State.modelCheck
  repeat' (first
    | with_reducible assumption
    | (simp -zeta only [Keeps.mk_iff]; with_reducible refine KeepsParts.of ?_ rfl rfl (Nat.le_refl _) rfl rfl)
    | ((fail_if_success (conv => arg 2; congr)); extract_lets +onlyGivenNames x; first | (have hx : Keeps s0 x := ?_; (on_goal 2 => dsimp -zeta only [x]); (on_goal 1 => clear_value x)) | (have hx : Keeps s0 x.1 := ?_; (on_goal 2 => dsimp -zeta only [x]); (on_goal 1 => clear_value x)) | clear_value x)
    | with_reducible refine Keeps.ite (fun _ => ?_) (fun _ => ?_)
    | with_reducible apply State.raiseIf_keeps
    | (with_reducible apply Keeps.foldl; on_goal 2 => (intro x y hx; try dsimp -zeta only))
    | split
    | dsimp -zeta only)

theorem State.coolDemand_keeps {s0 : State} (s : State) (stale : Bool) (h : Keeps s0 s) : Keeps s0 (State.coolDemand s stale) := by
  unfold State.coolDemand
  repeat' (first
    | with_reducible assumption
    | (simp -zeta only [Keeps.mk_iff]; with_reducible refine KeepsParts.of ?_ rfl rfl (Nat.le_refl _) rfl rfl)
    | ((fail_if_success (conv => arg 2; congr)); extract_lets +onlyGivenNames x; first | (have hx : Keeps s0 x := ?_; (on_goal 2 => dsimp -zeta only [x]); (on_goal 1 => clear_value x)) | (have hx : Keeps s0 x.1 := ?_; (on_goal 2 => dsimp -zeta only [x]); (on_goal 1 => clear_value x)) | clear_value x)
    | with_reducible refine Keeps.ite (fun _ => ?_) (fun _ => ?_)
    | with_reducible apply State.putSat_keeps
    | with_reducible apply State.pmpSettle_keeps
    | split
    | dsimp -zeta only)

theorem State.modelShow_keeps {s0 : State} (s : State) (h : Keeps s0 s) : Keeps s0 (State.modelShow s) := by
  unfold State.modelShow
  repeat' (first
    | with_reducible assumption
    | (simp -zeta only [Keeps.mk_iff]; with_reducible refine KeepsParts.of ?_ rfl rfl (Nat.le_refl _) rfl rfl)
    | ((fail_if_success (conv => arg 2; congr)); extract_lets +onlyGivenNames x; first | (have hx : Keeps s0 x := ?_; (on_goal 2 => dsimp -zeta only [x]); (on_goal 1 => clear_value x)) | (have hx : Keeps s0 x.1 := ?_; (on_goal 2 => dsimp -zeta only [x]); (on_goal 1 => clear_value x)) | clear_value x)
    | with_reducible refine Keeps.ite (fun _ => ?_) (fun _ => ?_)
    | with_reducible apply State.put_keeps
    | with_reducible apply State.putB_keeps
    | with_reducible apply State.putSatI_keeps
    | split
    | dsimp -zeta only)

theorem execThermalModelRunDone_keeps {s0 : State} (s : State) (h : Keeps s0 s) : KeepsR s0 (execThermalModelRunDone s) := by
  unfold execThermalModelRunDone
  repeat' (first
    | with_reducible assumption
    | (simp -zeta only [Keeps.mk_iff]; with_reducible refine KeepsParts.of ?_ rfl rfl (Nat.le_refl _) rfl rfl)
    | ((fail_if_success (conv => arg 2; congr)); extract_lets +onlyGivenNames x; first | (have hx : Keeps s0 x := ?_; (on_goal 2 => dsimp -zeta only [x]); (on_goal 1 => clear_value x)) | (have hx : Keeps s0 x.1 := ?_; (on_goal 2 => dsimp -zeta only [x]); (on_goal 1 => clear_value x)) | clear_value x)
    | with_reducible refine Keeps.ite (fun _ => ?_) (fun _ => ?_)
    | with_reducible refine KeepsR.ite (fun _ => ?_) (fun _ => ?_)
    | with_reducible apply KeepsR.next
    | with_reducible apply State.nextFree_keeps
    | with_reducible apply State.accelDone_keeps
    | with_reducible apply State.neighbourCheck_keeps
    | with_reducible apply State.modelRun_keeps
    | with_reducible apply State.modelCheck_keeps
    | with_reducible apply State.coolDemand_keeps
    | with_reducible apply State.modelShow_keeps
    | split
    | dsimp -zeta only)

theorem State.accelStale_keeps {s0 : State} (s : State) (typ rel : Nat) (h : Keeps s0 s) : Keeps s0 (State.accelStale s typ rel) := by
  unfold State.accelStale
  repeat' (first
    | with_reducible assumption
    | (simp -zeta only [Keeps.mk_iff]; with_reducible refine KeepsParts.of ?_ rfl rfl (Nat.le_refl _) rfl rfl)
    | ((fail_if_success (conv => arg 2; congr)); extract_lets +onlyGivenNames x; first | (have hx : Keeps s0 x := ?_; (on_goal 2 => dsimp -zeta only [x]); (on_goal 1 => clear_value x)) | (have hx : Keeps s0 x.1 := ?_; (on_goal 2 => dsimp -zeta only [x]); (on_goal 1 => clear_value x)) | clear_value x)
    | with_reducible refine Keeps.ite (fun _ => ?_) (fun _ => ?_)
    | with_reducible apply State.putB_keeps
    | with_reducible apply State.nextFree_keeps
    | with_reducible apply State.raise_keeps
    | with_reducible apply State.coolDemand_keeps
    | split
    | dsimp -zeta only)

theorem execAcceleratorOverrun_keeps {s0 : State} (entry : Nat) (s : State) (h : Keeps s0 s) : KeepsR s0 (execAcceleratorOverrun entry s) := by
  unfold execAcceleratorOverrun
  repeat' (first
    | with_reducible assumption
    | (simp -zeta only [Keeps.mk_iff]; with_reducible refine KeepsParts.of ?_ rfl rfl (Nat.le_refl _) rfl rfl)
    | ((fail_if_success (conv => arg 2; congr)); extract_lets +onlyGivenNames x; first | (have hx : Keeps s0 x := ?_; (on_goal 2 => dsimp -zeta only [x]); (on_goal 1 => clear_value x)) | (have hx : Keeps s0 x.1 := ?_; (on_goal 2 => dsimp -zeta only [x]); (on_goal 1 => clear_value x)) | clear_value x)
    | with_reducible refine Keeps.ite (fun _ => ?_) (fun _ => ?_)
    | with_reducible refine KeepsR.ite (fun _ => ?_) (fun _ => ?_)
    | with_reducible apply KeepsR.next
    | with_reducible apply State.advanceTo_keeps
    | with_reducible apply State.raise_keeps
    | with_reducible apply State.accelOverrun_keeps
    | with_reducible apply State.accelReset_keeps
    | with_reducible apply State.accelStale_keeps
    | split
    | dsimp -zeta only)

theorem execThmCellSelect_keeps {s0 : State} (_ini : Ini) (cell : Nat) (s : State) (h : Keeps s0 s) : KeepsR s0 (execThmCellSelect _ini cell s) := by
  unfold execThmCellSelect
  repeat' (first
    | with_reducible assumption
    | (simp -zeta only [Keeps.mk_iff]; with_reducible refine KeepsParts.of ?_ rfl rfl (Nat.le_refl _) rfl rfl)
    | ((fail_if_success (conv => arg 2; congr)); extract_lets +onlyGivenNames x; first | (have hx : Keeps s0 x := ?_; (on_goal 2 => dsimp -zeta only [x]); (on_goal 1 => clear_value x)) | (have hx : Keeps s0 x.1 := ?_; (on_goal 2 => dsimp -zeta only [x]); (on_goal 1 => clear_value x)) | clear_value x)
    | with_reducible refine Keeps.ite (fun _ => ?_) (fun _ => ?_)
    | with_reducible refine KeepsR.ite (fun _ => ?_) (fun _ => ?_)
    | with_reducible apply KeepsR.next
    | with_reducible apply State.put_keeps
    | with_reducible apply State.putSatI_keeps
    | split
    | dsimp -zeta only)

theorem State.dieSample_keeps {s0 : State} (s : State) (die : List Int) (powered : Bool) (h : Keeps s0 s) : Keeps s0 (State.dieSample s die powered) := by
  unfold State.dieSample
  repeat' (first
    | with_reducible assumption
    | (simp -zeta only [Keeps.mk_iff]; with_reducible refine KeepsParts.of ?_ rfl rfl (Nat.le_refl _) rfl rfl)
    | ((fail_if_success (conv => arg 2; congr)); extract_lets +onlyGivenNames x; first | (have hx : Keeps s0 x := ?_; (on_goal 2 => dsimp -zeta only [x]); (on_goal 1 => clear_value x)) | (have hx : Keeps s0 x.1 := ?_; (on_goal 2 => dsimp -zeta only [x]); (on_goal 1 => clear_value x)) | clear_value x)
    | with_reducible refine Keeps.ite (fun _ => ?_) (fun _ => ?_)
    | with_reducible apply State.putB_keeps
    | with_reducible apply State.putSatI_keeps
    | with_reducible apply State.raiseIf_keeps
    | (with_reducible apply Keeps.foldl; on_goal 2 => (intro x y hx; try dsimp -zeta only))
    | split
    | dsimp -zeta only)

theorem State.stage3Enter_keeps {s0 : State} (s : State) (h : Keeps s0 s) : Keeps s0 (State.stage3Enter s) := by
  unfold State.stage3Enter
  repeat' (first
    | with_reducible assumption
    | (simp -zeta only [Keeps.mk_iff]; with_reducible refine KeepsParts.of ?_ rfl rfl (Nat.le_refl _) rfl rfl)
    | ((fail_if_success (conv => arg 2; congr)); extract_lets +onlyGivenNames x; first | (have hx : Keeps s0 x := ?_; (on_goal 2 => dsimp -zeta only [x]); (on_goal 1 => clear_value x)) | (have hx : Keeps s0 x.1 := ?_; (on_goal 2 => dsimp -zeta only [x]); (on_goal 1 => clear_value x)) | clear_value x)
    | with_reducible refine Keeps.ite (fun _ => ?_) (fun _ => ?_)
    | with_reducible apply State.raise_keeps
    | with_reducible apply State.freeze_keeps
    | with_reducible apply State.stage3Open_keeps
    | with_reducible apply State.holdShow_keeps
    | with_reducible apply State.pmpStop_keeps
    | split
    | dsimp -zeta only)

theorem State.dieStages_keeps {s0 : State} (s : State) (h : Keeps s0 s) : Keeps s0 (State.dieStages s) := by
  unfold State.dieStages
  repeat' (first
    | with_reducible assumption
    | (simp -zeta only [Keeps.mk_iff]; with_reducible refine KeepsParts.of ?_ rfl rfl (Nat.le_refl _) rfl rfl)
    | ((fail_if_success (conv => arg 2; congr)); extract_lets +onlyGivenNames x; first | (have hx : Keeps s0 x := ?_; (on_goal 2 => dsimp -zeta only [x]); (on_goal 1 => clear_value x)) | (have hx : Keeps s0 x.1 := ?_; (on_goal 2 => dsimp -zeta only [x]); (on_goal 1 => clear_value x)) | clear_value x)
    | with_reducible refine Keeps.ite (fun _ => ?_) (fun _ => ?_)
    | with_reducible apply State.put_keeps
    | with_reducible apply State.raiseIf_keeps
    | with_reducible apply State.matrixRun_keeps
    | with_reducible apply State.eisAbort_keeps
    | with_reducible apply State.eisExc_keeps
    | with_reducible apply State.settle_keeps
    | with_reducible apply State.stage3Enter_keeps
    | split
    | dsimp -zeta only)

theorem State.canService_keeps {s0 : State} (s : State) (ch svc : Nat) (h : Keeps s0 s) : Keeps s0 (State.canService s ch svc) := by
  unfold State.canService
  repeat' (first
    | with_reducible assumption
    | (simp -zeta only [Keeps.mk_iff]; with_reducible refine KeepsParts.of ?_ rfl rfl (Nat.le_refl _) rfl rfl)
    | ((fail_if_success (conv => arg 2; congr)); extract_lets +onlyGivenNames x; first | (have hx : Keeps s0 x := ?_; (on_goal 2 => dsimp -zeta only [x]); (on_goal 1 => clear_value x)) | (have hx : Keeps s0 x.1 := ?_; (on_goal 2 => dsimp -zeta only [x]); (on_goal 1 => clear_value x)) | clear_value x)
    | with_reducible refine Keeps.ite (fun _ => ?_) (fun _ => ?_)
    | with_reducible apply State.put_keeps
    | with_reducible apply State.raise_keeps
    | split
    | dsimp -zeta only)

theorem State.setTries_keeps {s0 : State} (s : State) (ch k n : Nat) (h : Keeps s0 s) : Keeps s0 (State.setTries s ch k n) := by
  unfold State.setTries
  repeat' (first
    | with_reducible assumption
    | (simp -zeta only [Keeps.mk_iff]; with_reducible refine KeepsParts.of ?_ rfl rfl (Nat.le_refl _) rfl rfl)
    | ((fail_if_success (conv => arg 2; congr)); extract_lets +onlyGivenNames x; first | (have hx : Keeps s0 x := ?_; (on_goal 2 => dsimp -zeta only [x]); (on_goal 1 => clear_value x)) | (have hx : Keeps s0 x.1 := ?_; (on_goal 2 => dsimp -zeta only [x]); (on_goal 1 => clear_value x)) | clear_value x)
    | with_reducible refine Keeps.ite (fun _ => ?_) (fun _ => ?_)
    | with_reducible apply State.setCan_keeps
    | split
    | dsimp -zeta only)

theorem State.objRequest_keeps {s0 : State} (s : State) (ch k : Nat) (h : Keeps s0 s) : Keeps s0 (State.objRequest s ch k) := by
  unfold State.objRequest
  repeat' (first
    | with_reducible assumption
    | (simp -zeta only [Keeps.mk_iff]; with_reducible refine KeepsParts.of ?_ rfl rfl (Nat.le_refl _) rfl rfl)
    | ((fail_if_success (conv => arg 2; congr)); extract_lets +onlyGivenNames x; first | (have hx : Keeps s0 x := ?_; (on_goal 2 => dsimp -zeta only [x]); (on_goal 1 => clear_value x)) | (have hx : Keeps s0 x.1 := ?_; (on_goal 2 => dsimp -zeta only [x]); (on_goal 1 => clear_value x)) | clear_value x)
    | with_reducible refine Keeps.ite (fun _ => ?_) (fun _ => ?_)
    | with_reducible apply State.setObjBit_keeps
    | with_reducible apply State.sealObj_keeps
    | with_reducible apply State.setTries_keeps
    | split
    | dsimp -zeta only)

theorem State.objWithdraw_keeps {s0 : State} (s : State) (ch k : Nat) (keep : Bool) (h : Keeps s0 s) : Keeps s0 (State.objWithdraw s ch k keep) := by
  unfold State.objWithdraw
  repeat' (first
    | with_reducible assumption
    | (simp -zeta only [Keeps.mk_iff]; with_reducible refine KeepsParts.of ?_ rfl rfl (Nat.le_refl _) rfl rfl)
    | ((fail_if_success (conv => arg 2; congr)); extract_lets +onlyGivenNames x; first | (have hx : Keeps s0 x := ?_; (on_goal 2 => dsimp -zeta only [x]); (on_goal 1 => clear_value x)) | (have hx : Keeps s0 x.1 := ?_; (on_goal 2 => dsimp -zeta only [x]); (on_goal 1 => clear_value x)) | clear_value x)
    | with_reducible refine Keeps.ite (fun _ => ?_) (fun _ => ?_)
    | with_reducible apply State.raise_keeps
    | with_reducible apply State.setObjBit_keeps
    | with_reducible apply State.setTries_keeps
    | split
    | dsimp -zeta only)

theorem State.canStop_keeps {s0 : State} (s : State) (ch : Nat) (h : Keeps s0 s) : Keeps s0 (State.canStop s ch) := by
  unfold State.canStop
  repeat' (first
    | with_reducible assumption
    | (simp -zeta only [Keeps.mk_iff]; with_reducible refine KeepsParts.of ?_ rfl rfl (Nat.le_refl _) rfl rfl)
    | ((fail_if_success (conv => arg 2; congr)); extract_lets +onlyGivenNames x; first | (have hx : Keeps s0 x := ?_; (on_goal 2 => dsimp -zeta only [x]); (on_goal 1 => clear_value x)) | (have hx : Keeps s0 x.1 := ?_; (on_goal 2 => dsimp -zeta only [x]); (on_goal 1 => clear_value x)) | clear_value x)
    | with_reducible refine Keeps.ite (fun _ => ?_) (fun _ => ?_)
    | with_reducible apply State.putB_keeps
    | with_reducible apply State.setCan_keeps
    | split
    | dsimp -zeta only)

theorem State.canSleep_keeps {s0 : State} (s : State) (ch : Nat) (h : Keeps s0 s) : Keeps s0 (State.canSleep s ch) := by
  unfold State.canSleep
  repeat' (first
    | with_reducible assumption
    | (simp -zeta only [Keeps.mk_iff]; with_reducible refine KeepsParts.of ?_ rfl rfl (Nat.le_refl _) rfl rfl)
    | ((fail_if_success (conv => arg 2; congr)); extract_lets +onlyGivenNames x; first | (have hx : Keeps s0 x := ?_; (on_goal 2 => dsimp -zeta only [x]); (on_goal 1 => clear_value x)) | (have hx : Keeps s0 x.1 := ?_; (on_goal 2 => dsimp -zeta only [x]); (on_goal 1 => clear_value x)) | clear_value x)
    | with_reducible refine Keeps.ite (fun _ => ?_) (fun _ => ?_)
    | with_reducible apply State.setCan_keeps
    | with_reducible apply State.objWithdraw_keeps
    | with_reducible apply State.canStop_keeps
    | (with_reducible apply Keeps.foldl; on_goal 2 => (intro x y hx; try dsimp -zeta only))
    | split
    | dsimp -zeta only)

theorem State.canResume_keeps {s0 : State} (s : State) (ch : Nat) (h : Keeps s0 s) : Keeps s0 (State.canResume s ch) := by
  unfold State.canResume
  repeat' (first
    | with_reducible assumption
    | (simp -zeta only [Keeps.mk_iff]; with_reducible refine KeepsParts.of ?_ rfl rfl (Nat.le_refl _) rfl rfl)
    | ((fail_if_success (conv => arg 2; congr)); extract_lets +onlyGivenNames x; first | (have hx : Keeps s0 x := ?_; (on_goal 2 => dsimp -zeta only [x]); (on_goal 1 => clear_value x)) | (have hx : Keeps s0 x.1 := ?_; (on_goal 2 => dsimp -zeta only [x]); (on_goal 1 => clear_value x)) | clear_value x)
    | with_reducible refine Keeps.ite (fun _ => ?_) (fun _ => ?_)
    | with_reducible apply State.putB_keeps
    | with_reducible apply State.setCan_keeps
    | split
    | dsimp -zeta only)

theorem State.canReference_keeps {s0 : State} (s : State) (h : Keeps s0 s) : Keeps s0 (State.canReference s) := by
  unfold State.canReference
  repeat' (first
    | with_reducible assumption
    | (simp -zeta only [Keeps.mk_iff]; with_reducible refine KeepsParts.of ?_ rfl rfl (Nat.le_refl _) rfl rfl)
    | ((fail_if_success (conv => arg 2; congr)); extract_lets +onlyGivenNames x; first | (have hx : Keeps s0 x := ?_; (on_goal 2 => dsimp -zeta only [x]); (on_goal 1 => clear_value x)) | (have hx : Keeps s0 x.1 := ?_; (on_goal 2 => dsimp -zeta only [x]); (on_goal 1 => clear_value x)) | clear_value x)
    | with_reducible refine Keeps.ite (fun _ => ?_) (fun _ => ?_)
    | with_reducible apply State.objRequest_keeps
    | (with_reducible apply Keeps.foldl; on_goal 2 => (intro x y hx; try dsimp -zeta only))
    | split
    | dsimp -zeta only)

theorem State.canInit_keeps {s0 : State} (s : State) (ch : Nat) (init : Bool) (h : Keeps s0 s) : Keeps s0 (State.canInit s ch init) := by
  unfold State.canInit
  repeat' (first
    | with_reducible assumption
    | (simp -zeta only [Keeps.mk_iff]; with_reducible refine KeepsParts.of ?_ rfl rfl (Nat.le_refl _) rfl rfl)
    | ((fail_if_success (conv => arg 2; congr)); extract_lets +onlyGivenNames x; first | (have hx : Keeps s0 x := ?_; (on_goal 2 => dsimp -zeta only [x]); (on_goal 1 => clear_value x)) | (have hx : Keeps s0 x.1 := ?_; (on_goal 2 => dsimp -zeta only [x]); (on_goal 1 => clear_value x)) | clear_value x)
    | with_reducible refine Keeps.ite (fun _ => ?_) (fun _ => ?_)
    | with_reducible apply State.putB_keeps
    | with_reducible apply State.setCan_keeps
    | with_reducible apply State.tktRebind_keeps
    | split
    | dsimp -zeta only)

theorem execCanInitWrite_keeps {s0 : State} (ini : Ini) (ch : Fin 4) (init : Bool) (s : State) (h : Keeps s0 s) : KeepsR s0 (execCanInitWrite ini ch init s) := by
  unfold execCanInitWrite
  repeat' (first
    | with_reducible assumption
    | (simp -zeta only [Keeps.mk_iff]; with_reducible refine KeepsParts.of ?_ rfl rfl (Nat.le_refl _) rfl rfl)
    | ((fail_if_success (conv => arg 2; congr)); extract_lets +onlyGivenNames x; first | (have hx : Keeps s0 x := ?_; (on_goal 2 => dsimp -zeta only [x]); (on_goal 1 => clear_value x)) | (have hx : Keeps s0 x.1 := ?_; (on_goal 2 => dsimp -zeta only [x]); (on_goal 1 => clear_value x)) | clear_value x)
    | with_reducible refine Keeps.ite (fun _ => ?_) (fun _ => ?_)
    | with_reducible refine KeepsR.ite (fun _ => ?_) (fun _ => ?_)
    | with_reducible apply KeepsR.next
    | (with_reducible apply State.onPage_keeps; on_goal 2 => (intro x hx; try dsimp -zeta only))
    | with_reducible apply State.canInit_keeps
    | split
    | dsimp -zeta only)

theorem State.canLom_keeps {s0 : State} (s : State) (ch : Nat) (lom : Bool) (h : Keeps s0 s) : Keeps s0 (State.canLom s ch lom) := by
  unfold State.canLom
  repeat' (first
    | with_reducible assumption
    | (simp -zeta only [Keeps.mk_iff]; with_reducible refine KeepsParts.of ?_ rfl rfl (Nat.le_refl _) rfl rfl)
    | ((fail_if_success (conv => arg 2; congr)); extract_lets +onlyGivenNames x; first | (have hx : Keeps s0 x := ?_; (on_goal 2 => dsimp -zeta only [x]); (on_goal 1 => clear_value x)) | (have hx : Keeps s0 x.1 := ?_; (on_goal 2 => dsimp -zeta only [x]); (on_goal 1 => clear_value x)) | clear_value x)
    | with_reducible refine Keeps.ite (fun _ => ?_) (fun _ => ?_)
    | with_reducible apply State.putB_keeps
    | with_reducible apply State.setCan_keeps
    | split
    | dsimp -zeta only)

theorem execCanLomWrite_keeps {s0 : State} (ini : Ini) (ch : Fin 4) (lom : Bool) (s : State) (h : Keeps s0 s) : KeepsR s0 (execCanLomWrite ini ch lom s) := by
  unfold execCanLomWrite
  repeat' (first
    | with_reducible assumption
    | (simp -zeta only [Keeps.mk_iff]; with_reducible refine KeepsParts.of ?_ rfl rfl (Nat.le_refl _) rfl rfl)
    | ((fail_if_success (conv => arg 2; congr)); extract_lets +onlyGivenNames x; first | (have hx : Keeps s0 x := ?_; (on_goal 2 => dsimp -zeta only [x]); (on_goal 1 => clear_value x)) | (have hx : Keeps s0 x.1 := ?_; (on_goal 2 => dsimp -zeta only [x]); (on_goal 1 => clear_value x)) | clear_value x)
    | with_reducible refine Keeps.ite (fun _ => ?_) (fun _ => ?_)
    | with_reducible refine KeepsR.ite (fun _ => ?_) (fun _ => ?_)
    | with_reducible apply KeepsR.next
    | (with_reducible apply State.onPage_keeps; on_goal 2 => (intro x hx; try dsimp -zeta only))
    | with_reducible apply State.canLom_keeps
    | split
    | dsimp -zeta only)

theorem State.canAbd_keeps {s0 : State} (s : State) (ch : Nat) (h : Keeps s0 s) : Keeps s0 (State.canAbd s ch) := by
  unfold State.canAbd
  repeat' (first
    | with_reducible assumption
    | (simp -zeta only [Keeps.mk_iff]; with_reducible refine KeepsParts.of ?_ rfl rfl (Nat.le_refl _) rfl rfl)
    | ((fail_if_success (conv => arg 2; congr)); extract_lets +onlyGivenNames x; first | (have hx : Keeps s0 x := ?_; (on_goal 2 => dsimp -zeta only [x]); (on_goal 1 => clear_value x)) | (have hx : Keeps s0 x.1 := ?_; (on_goal 2 => dsimp -zeta only [x]); (on_goal 1 => clear_value x)) | clear_value x)
    | with_reducible refine Keeps.ite (fun _ => ?_) (fun _ => ?_)
    | with_reducible apply State.setCan_keeps
    | split
    | dsimp -zeta only)

theorem execCanAbdStart_keeps {s0 : State} (ini : Ini) (ch : Fin 4) (s : State) (h : Keeps s0 s) : KeepsR s0 (execCanAbdStart ini ch s) := by
  unfold execCanAbdStart
  repeat' (first
    | with_reducible assumption
    | (simp -zeta only [Keeps.mk_iff]; with_reducible refine KeepsParts.of ?_ rfl rfl (Nat.le_refl _) rfl rfl)
    | ((fail_if_success (conv => arg 2; congr)); extract_lets +onlyGivenNames x; first | (have hx : Keeps s0 x := ?_; (on_goal 2 => dsimp -zeta only [x]); (on_goal 1 => clear_value x)) | (have hx : Keeps s0 x.1 := ?_; (on_goal 2 => dsimp -zeta only [x]); (on_goal 1 => clear_value x)) | clear_value x)
    | with_reducible refine Keeps.ite (fun _ => ?_) (fun _ => ?_)
    | with_reducible refine KeepsR.ite (fun _ => ?_) (fun _ => ?_)
    | with_reducible apply KeepsR.next
    | (with_reducible apply State.onPage_keeps; on_goal 2 => (intro x hx; try dsimp -zeta only))
    | with_reducible apply State.canAbd_keeps
    | split
    | dsimp -zeta only)

theorem execCanAbdDone_keeps {s0 : State} (ch : Fin 4) (nrate drate : Nat) (s : State) (h : Keeps s0 s) : KeepsR s0 (execCanAbdDone ch nrate drate s) := by
  unfold execCanAbdDone
  repeat' (first
    | with_reducible assumption
    | (simp -zeta only [Keeps.mk_iff]; with_reducible refine KeepsParts.of ?_ rfl rfl (Nat.le_refl _) rfl rfl)
    | ((fail_if_success (conv => arg 2; congr)); extract_lets +onlyGivenNames x; first | (have hx : Keeps s0 x := ?_; (on_goal 2 => dsimp -zeta only [x]); (on_goal 1 => clear_value x)) | (have hx : Keeps s0 x.1 := ?_; (on_goal 2 => dsimp -zeta only [x]); (on_goal 1 => clear_value x)) | clear_value x)
    | with_reducible refine Keeps.ite (fun _ => ?_) (fun _ => ?_)
    | with_reducible refine KeepsR.ite (fun _ => ?_) (fun _ => ?_)
    | with_reducible apply KeepsR.next
    | with_reducible apply State.setWord_keeps
    | with_reducible apply State.put_keeps
    | with_reducible apply State.putB_keeps
    | with_reducible apply State.nextFree_keeps
    | with_reducible apply State.setCan_keeps
    | with_reducible apply State.canService_keeps
    | split
    | dsimp -zeta only)

theorem execCanAbdTimeout_keeps {s0 : State} (ch : Fin 4) (s : State) (h : Keeps s0 s) : KeepsR s0 (execCanAbdTimeout ch s) := by
  unfold execCanAbdTimeout
  repeat' (first
    | with_reducible assumption
    | (simp -zeta only [Keeps.mk_iff]; with_reducible refine KeepsParts.of ?_ rfl rfl (Nat.le_refl _) rfl rfl)
    | ((fail_if_success (conv => arg 2; congr)); extract_lets +onlyGivenNames x; first | (have hx : Keeps s0 x := ?_; (on_goal 2 => dsimp -zeta only [x]); (on_goal 1 => clear_value x)) | (have hx : Keeps s0 x.1 := ?_; (on_goal 2 => dsimp -zeta only [x]); (on_goal 1 => clear_value x)) | clear_value x)
    | with_reducible refine Keeps.ite (fun _ => ?_) (fun _ => ?_)
    | with_reducible refine KeepsR.ite (fun _ => ?_) (fun _ => ?_)
    | with_reducible apply KeepsR.next
    | with_reducible apply State.advanceTo_keeps
    | with_reducible apply State.setCan_keeps
    | with_reducible apply State.canService_keeps
    | split
    | dsimp -zeta only)

theorem execObjectReq_keeps {s0 : State} (ini : Ini) (ch : Fin 4) (s : State) (h : Keeps s0 s) : KeepsR s0 (execObjectReq ini ch s) := by
  unfold execObjectReq
  repeat' (first
    | with_reducible assumption
    | (simp -zeta only [Keeps.mk_iff]; with_reducible refine KeepsParts.of ?_ rfl rfl (Nat.le_refl _) rfl rfl)
    | ((fail_if_success (conv => arg 2; congr)); extract_lets +onlyGivenNames x; first | (have hx : Keeps s0 x := ?_; (on_goal 2 => dsimp -zeta only [x]); (on_goal 1 => clear_value x)) | (have hx : Keeps s0 x.1 := ?_; (on_goal 2 => dsimp -zeta only [x]); (on_goal 1 => clear_value x)) | clear_value x)
    | with_reducible refine Keeps.ite (fun _ => ?_) (fun _ => ?_)
    | with_reducible refine KeepsR.ite (fun _ => ?_) (fun _ => ?_)
    | with_reducible apply KeepsR.next
    | (with_reducible apply State.onPage_keeps; on_goal 2 => (intro x hx; try dsimp -zeta only))
    | with_reducible apply State.objRequest_keeps
    | split
    | dsimp -zeta only)

theorem State.objCancel_keeps {s0 : State} (s : State) (ch k : Nat) (h : Keeps s0 s) : Keeps s0 (State.objCancel s ch k) := by
  unfold State.objCancel
  repeat' (first
    | with_reducible assumption
    | (simp -zeta only [Keeps.mk_iff]; with_reducible refine KeepsParts.of ?_ rfl rfl (Nat.le_refl _) rfl rfl)
    | ((fail_if_success (conv => arg 2; congr)); extract_lets +onlyGivenNames x; first | (have hx : Keeps s0 x := ?_; (on_goal 2 => dsimp -zeta only [x]); (on_goal 1 => clear_value x)) | (have hx : Keeps s0 x.1 := ?_; (on_goal 2 => dsimp -zeta only [x]); (on_goal 1 => clear_value x)) | clear_value x)
    | with_reducible refine Keeps.ite (fun _ => ?_) (fun _ => ?_)
    | with_reducible apply State.setCan_keeps
    | with_reducible apply State.objWithdraw_keeps
    | split
    | dsimp -zeta only)

theorem execObjectCancel_keeps {s0 : State} (ini : Ini) (ch : Fin 4) (s : State) (h : Keeps s0 s) : KeepsR s0 (execObjectCancel ini ch s) := by
  unfold execObjectCancel
  repeat' (first
    | with_reducible assumption
    | (simp -zeta only [Keeps.mk_iff]; with_reducible refine KeepsParts.of ?_ rfl rfl (Nat.le_refl _) rfl rfl)
    | ((fail_if_success (conv => arg 2; congr)); extract_lets +onlyGivenNames x; first | (have hx : Keeps s0 x := ?_; (on_goal 2 => dsimp -zeta only [x]); (on_goal 1 => clear_value x)) | (have hx : Keeps s0 x.1 := ?_; (on_goal 2 => dsimp -zeta only [x]); (on_goal 1 => clear_value x)) | clear_value x)
    | with_reducible refine Keeps.ite (fun _ => ?_) (fun _ => ?_)
    | with_reducible refine KeepsR.ite (fun _ => ?_) (fun _ => ?_)
    | with_reducible apply KeepsR.next
    | (with_reducible apply State.onPage_keeps; on_goal 2 => (intro x hx; try dsimp -zeta only))
    | with_reducible apply State.objCancel_keeps
    | split
    | dsimp -zeta only)

theorem State.objAck_keeps {s0 : State} (s : State) (ch k : Nat) (h : Keeps s0 s) : Keeps s0 (State.objAck s ch k) := by
  unfold State.objAck
  repeat' (first
    | with_reducible assumption
    | (simp -zeta only [Keeps.mk_iff]; with_reducible refine KeepsParts.of ?_ rfl rfl (Nat.le_refl _) rfl rfl)
    | ((fail_if_success (conv => arg 2; congr)); extract_lets +onlyGivenNames x; first | (have hx : Keeps s0 x := ?_; (on_goal 2 => dsimp -zeta only [x]); (on_goal 1 => clear_value x)) | (have hx : Keeps s0 x.1 := ?_; (on_goal 2 => dsimp -zeta only [x]); (on_goal 1 => clear_value x)) | clear_value x)
    | with_reducible refine Keeps.ite (fun _ => ?_) (fun _ => ?_)
    | with_reducible apply State.setObjBit_keeps
    | split
    | dsimp -zeta only)

theorem execObjectAck_keeps {s0 : State} (ini : Ini) (ch : Fin 4) (s : State) (h : Keeps s0 s) : KeepsR s0 (execObjectAck ini ch s) := by
  unfold execObjectAck
  repeat' (first
    | with_reducible assumption
    | (simp -zeta only [Keeps.mk_iff]; with_reducible refine KeepsParts.of ?_ rfl rfl (Nat.le_refl _) rfl rfl)
    | ((fail_if_success (conv => arg 2; congr)); extract_lets +onlyGivenNames x; first | (have hx : Keeps s0 x := ?_; (on_goal 2 => dsimp -zeta only [x]); (on_goal 1 => clear_value x)) | (have hx : Keeps s0 x.1 := ?_; (on_goal 2 => dsimp -zeta only [x]); (on_goal 1 => clear_value x)) | clear_value x)
    | with_reducible refine Keeps.ite (fun _ => ?_) (fun _ => ?_)
    | with_reducible refine KeepsR.ite (fun _ => ?_) (fun _ => ?_)
    | with_reducible apply KeepsR.next
    | (with_reducible apply State.onPage_keeps; on_goal 2 => (intro x hx; try dsimp -zeta only))
    | with_reducible apply State.objAck_keeps
    | split
    | dsimp -zeta only)

theorem State.objWord0_keeps {s0 : State} (s : State) (ch : Nat) (val : Word) (h : Keeps s0 s) : Keeps s0 (State.objWord0 s ch val) := by
  unfold State.objWord0
  repeat' (first
    | with_reducible assumption
    | (simp -zeta only [Keeps.mk_iff]; with_reducible refine KeepsParts.of ?_ rfl rfl (Nat.le_refl _) rfl rfl)
    | ((fail_if_success (conv => arg 2; congr)); extract_lets +onlyGivenNames x; first | (have hx : Keeps s0 x := ?_; (on_goal 2 => dsimp -zeta only [x]); (on_goal 1 => clear_value x)) | (have hx : Keeps s0 x.1 := ?_; (on_goal 2 => dsimp -zeta only [x]); (on_goal 1 => clear_value x)) | clear_value x)
    | with_reducible refine Keeps.ite (fun _ => ?_) (fun _ => ?_)
    | with_reducible apply State.setObjWord_keeps
    | with_reducible apply State.tktRebind_keeps
    | split
    | dsimp -zeta only)

theorem execObjectWord0Write_keeps {s0 : State} (ini : Ini) (ch : Fin 4) (val : Word) (s : State) (h : Keeps s0 s) : KeepsR s0 (execObjectWord0Write ini ch val s) := by
  unfold execObjectWord0Write
  repeat' (first
    | with_reducible assumption
    | (simp -zeta only [Keeps.mk_iff]; with_reducible refine KeepsParts.of ?_ rfl rfl (Nat.le_refl _) rfl rfl)
    | ((fail_if_success (conv => arg 2; congr)); extract_lets +onlyGivenNames x; first | (have hx : Keeps s0 x := ?_; (on_goal 2 => dsimp -zeta only [x]); (on_goal 1 => clear_value x)) | (have hx : Keeps s0 x.1 := ?_; (on_goal 2 => dsimp -zeta only [x]); (on_goal 1 => clear_value x)) | clear_value x)
    | with_reducible refine Keeps.ite (fun _ => ?_) (fun _ => ?_)
    | with_reducible refine KeepsR.ite (fun _ => ?_) (fun _ => ?_)
    | with_reducible apply KeepsR.next
    | (with_reducible apply State.onPage_keeps; on_goal 2 => (intro x hx; try dsimp -zeta only))
    | with_reducible apply State.objWord0_keeps
    | split
    | dsimp -zeta only)

theorem State.objWordWrite_keeps {s0 : State} (s : State) (ch w : Nat) (val : Word) (h : Keeps s0 s) : Keeps s0 (State.objWordWrite s ch w val) := by
  unfold State.objWordWrite
  repeat' (first
    | with_reducible assumption
    | (simp -zeta only [Keeps.mk_iff]; with_reducible refine KeepsParts.of ?_ rfl rfl (Nat.le_refl _) rfl rfl)
    | ((fail_if_success (conv => arg 2; congr)); extract_lets +onlyGivenNames x; first | (have hx : Keeps s0 x := ?_; (on_goal 2 => dsimp -zeta only [x]); (on_goal 1 => clear_value x)) | (have hx : Keeps s0 x.1 := ?_; (on_goal 2 => dsimp -zeta only [x]); (on_goal 1 => clear_value x)) | clear_value x)
    | with_reducible refine Keeps.ite (fun _ => ?_) (fun _ => ?_)
    | with_reducible apply State.setObjWord_keeps
    | with_reducible apply State.objWord0_keeps
    | split
    | dsimp -zeta only)

theorem State.fifoPush_keeps {s0 : State} (s : State) (h : Keeps s0 s) : Keeps s0 (State.fifoPush s) := by
  unfold State.fifoPush
  repeat' (first
    | with_reducible assumption
    | (simp -zeta only [Keeps.mk_iff]; with_reducible refine KeepsParts.of ?_ rfl rfl (Nat.le_refl _) rfl rfl)
    | ((fail_if_success (conv => arg 2; congr)); extract_lets +onlyGivenNames x; first | (have hx : Keeps s0 x := ?_; (on_goal 2 => dsimp -zeta only [x]); (on_goal 1 => clear_value x)) | (have hx : Keeps s0 x.1 := ?_; (on_goal 2 => dsimp -zeta only [x]); (on_goal 1 => clear_value x)) | clear_value x)
    | with_reducible refine Keeps.ite (fun _ => ?_) (fun _ => ?_)
    | with_reducible apply State.raise_keeps
    | with_reducible apply State.setCan_keeps
    | with_reducible apply State.canService_keeps
    | split
    | dsimp -zeta only)

theorem execFifoPush_keeps {s0 : State} (ini : Ini) (s : State) (h : Keeps s0 s) : KeepsR s0 (execFifoPush ini s) := by
  unfold execFifoPush
  repeat' (first
    | with_reducible assumption
    | (simp -zeta only [Keeps.mk_iff]; with_reducible refine KeepsParts.of ?_ rfl rfl (Nat.le_refl _) rfl rfl)
    | ((fail_if_success (conv => arg 2; congr)); extract_lets +onlyGivenNames x; first | (have hx : Keeps s0 x := ?_; (on_goal 2 => dsimp -zeta only [x]); (on_goal 1 => clear_value x)) | (have hx : Keeps s0 x.1 := ?_; (on_goal 2 => dsimp -zeta only [x]); (on_goal 1 => clear_value x)) | clear_value x)
    | with_reducible refine Keeps.ite (fun _ => ?_) (fun _ => ?_)
    | with_reducible refine KeepsR.ite (fun _ => ?_) (fun _ => ?_)
    | with_reducible apply KeepsR.next
    | (with_reducible apply State.onPage_keeps; on_goal 2 => (intro x hx; try dsimp -zeta only))
    | with_reducible apply State.fifoPush_keeps
    | split
    | dsimp -zeta only)

theorem State.fifoClear_keeps {s0 : State} (s : State) (h : Keeps s0 s) : Keeps s0 (State.fifoClear s) := by
  unfold State.fifoClear
  repeat' (first
    | with_reducible assumption
    | (simp -zeta only [Keeps.mk_iff]; with_reducible refine KeepsParts.of ?_ rfl rfl (Nat.le_refl _) rfl rfl)
    | ((fail_if_success (conv => arg 2; congr)); extract_lets +onlyGivenNames x; first | (have hx : Keeps s0 x := ?_; (on_goal 2 => dsimp -zeta only [x]); (on_goal 1 => clear_value x)) | (have hx : Keeps s0 x.1 := ?_; (on_goal 2 => dsimp -zeta only [x]); (on_goal 1 => clear_value x)) | clear_value x)
    | with_reducible refine Keeps.ite (fun _ => ?_) (fun _ => ?_)
    | with_reducible apply State.setCan_keeps
    | split
    | dsimp -zeta only)

theorem execFifoClear_keeps {s0 : State} (ini : Ini) (s : State) (h : Keeps s0 s) : KeepsR s0 (execFifoClear ini s) := by
  unfold execFifoClear
  repeat' (first
    | with_reducible assumption
    | (simp -zeta only [Keeps.mk_iff]; with_reducible refine KeepsParts.of ?_ rfl rfl (Nat.le_refl _) rfl rfl)
    | ((fail_if_success (conv => arg 2; congr)); extract_lets +onlyGivenNames x; first | (have hx : Keeps s0 x := ?_; (on_goal 2 => dsimp -zeta only [x]); (on_goal 1 => clear_value x)) | (have hx : Keeps s0 x.1 := ?_; (on_goal 2 => dsimp -zeta only [x]); (on_goal 1 => clear_value x)) | clear_value x)
    | with_reducible refine Keeps.ite (fun _ => ?_) (fun _ => ?_)
    | with_reducible refine KeepsR.ite (fun _ => ?_) (fun _ => ?_)
    | with_reducible apply KeepsR.next
    | (with_reducible apply State.onPage_keeps; on_goal 2 => (intro x hx; try dsimp -zeta only))
    | with_reducible apply State.fifoClear_keeps
    | split
    | dsimp -zeta only)

theorem State.fifoDrop_keeps {s0 : State} (s : State) (h : Keeps s0 s) : Keeps s0 (State.fifoDrop s) := by
  unfold State.fifoDrop
  repeat' (first
    | with_reducible assumption
    | (simp -zeta only [Keeps.mk_iff]; with_reducible refine KeepsParts.of ?_ rfl rfl (Nat.le_refl _) rfl rfl)
    | ((fail_if_success (conv => arg 2; congr)); extract_lets +onlyGivenNames x; first | (have hx : Keeps s0 x := ?_; (on_goal 2 => dsimp -zeta only [x]); (on_goal 1 => clear_value x)) | (have hx : Keeps s0 x.1 := ?_; (on_goal 2 => dsimp -zeta only [x]); (on_goal 1 => clear_value x)) | clear_value x)
    | with_reducible refine Keeps.ite (fun _ => ?_) (fun _ => ?_)
    | with_reducible apply State.setCan_keeps
    | split
    | dsimp -zeta only)

theorem State.objStore_keeps {s0 : State} (s : State) (ch k : Nat) (f : BusFrame) (h : Keeps s0 s) : Keeps s0 (State.objStore s ch k f) := by
  unfold State.objStore
  repeat' (first
    | with_reducible assumption
    | (simp -zeta only [Keeps.mk_iff]; with_reducible refine KeepsParts.of ?_ rfl rfl (Nat.le_refl _) rfl rfl)
    | ((fail_if_success (conv => arg 2; congr)); extract_lets +onlyGivenNames x; first | (have hx : Keeps s0 x := ?_; (on_goal 2 => dsimp -zeta only [x]); (on_goal 1 => clear_value x)) | (have hx : Keeps s0 x.1 := ?_; (on_goal 2 => dsimp -zeta only [x]); (on_goal 1 => clear_value x)) | clear_value x)
    | with_reducible refine Keeps.ite (fun _ => ?_) (fun _ => ?_)
    | with_reducible apply State.raiseIf_keeps
    | with_reducible apply State.setObjWord_keeps
    | with_reducible apply State.setObjBytes_keeps
    | split
    | dsimp -zeta only)

theorem execCanFrameReceived_keeps {s0 : State} (ch : Fin 4) (f : BusFrame) (s : State) (h : Keeps s0 s) : KeepsR s0 (execCanFrameReceived ch f s) := by
  unfold execCanFrameReceived
  repeat' (first
    | with_reducible assumption
    | (simp -zeta only [Keeps.mk_iff]; with_reducible refine KeepsParts.of ?_ rfl rfl (Nat.le_refl _) rfl rfl)
    | ((fail_if_success (conv => arg 2; congr)); extract_lets +onlyGivenNames x; first | (have hx : Keeps s0 x := ?_; (on_goal 2 => dsimp -zeta only [x]); (on_goal 1 => clear_value x)) | (have hx : Keeps s0 x.1 := ?_; (on_goal 2 => dsimp -zeta only [x]); (on_goal 1 => clear_value x)) | clear_value x)
    | with_reducible refine Keeps.ite (fun _ => ?_) (fun _ => ?_)
    | with_reducible refine KeepsR.ite (fun _ => ?_) (fun _ => ?_)
    | with_reducible apply KeepsR.next
    | with_reducible apply State.connCheck_keeps
    | with_reducible apply State.objStore_keeps
    | split
    | dsimp -zeta only)

theorem State.referenceData_keeps {s0 : State} (s : State) (ch k : Nat) (h : Keeps s0 s) : Keeps s0 (State.referenceData s ch k) := by
  unfold State.referenceData
  repeat' (first
    | with_reducible assumption
    | (simp -zeta only [Keeps.mk_iff]; with_reducible refine KeepsParts.of ?_ rfl rfl (Nat.le_refl _) rfl rfl)
    | ((fail_if_success (conv => arg 2; congr)); extract_lets +onlyGivenNames x; first | (have hx : Keeps s0 x := ?_; (on_goal 2 => dsimp -zeta only [x]); (on_goal 1 => clear_value x)) | (have hx : Keeps s0 x.1 := ?_; (on_goal 2 => dsimp -zeta only [x]); (on_goal 1 => clear_value x)) | clear_value x)
    | with_reducible refine Keeps.ite (fun _ => ?_) (fun _ => ?_)
    | with_reducible apply State.setObjBytes_keeps
    | split
    | dsimp -zeta only)

theorem execCanStartOfFrame_keeps {s0 : State} (ch : Fin 4) (s : State) (h : Keeps s0 s) : KeepsR s0 (execCanStartOfFrame ch s) := by
  unfold execCanStartOfFrame
  repeat' (first
    | with_reducible assumption
    | (simp -zeta only [Keeps.mk_iff]; with_reducible refine KeepsParts.of ?_ rfl rfl (Nat.le_refl _) rfl rfl)
    | ((fail_if_success (conv => arg 2; congr)); extract_lets +onlyGivenNames x; first | (have hx : Keeps s0 x := ?_; (on_goal 2 => dsimp -zeta only [x]); (on_goal 1 => clear_value x)) | (have hx : Keeps s0 x.1 := ?_; (on_goal 2 => dsimp -zeta only [x]); (on_goal 1 => clear_value x)) | clear_value x)
    | with_reducible refine Keeps.ite (fun _ => ?_) (fun _ => ?_)
    | with_reducible refine KeepsR.ite (fun _ => ?_) (fun _ => ?_)
    | with_reducible apply KeepsR.next
    | with_reducible apply State.setCan_keeps
    | with_reducible apply State.referenceData_keeps
    | split
    | dsimp -zeta only)

theorem State.canFrameEnd_keeps {s0 : State} (s : State) (ch : Nat) (h : Keeps s0 s) : Keeps s0 (State.canFrameEnd s ch) := by
  unfold State.canFrameEnd
  repeat' (first
    | with_reducible assumption
    | (simp -zeta only [Keeps.mk_iff]; with_reducible refine KeepsParts.of ?_ rfl rfl (Nat.le_refl _) rfl rfl)
    | ((fail_if_success (conv => arg 2; congr)); extract_lets +onlyGivenNames x; first | (have hx : Keeps s0 x := ?_; (on_goal 2 => dsimp -zeta only [x]); (on_goal 1 => clear_value x)) | (have hx : Keeps s0 x.1 := ?_; (on_goal 2 => dsimp -zeta only [x]); (on_goal 1 => clear_value x)) | clear_value x)
    | with_reducible refine Keeps.ite (fun _ => ?_) (fun _ => ?_)
    | with_reducible apply State.setCan_keeps
    | with_reducible apply State.canStop_keeps
    | split
    | dsimp -zeta only)

theorem State.canAttemptFailed_keeps {s0 : State} (s : State) (ch k : Nat) (arbitration : Bool) (h : Keeps s0 s) : Keeps s0 (State.canAttemptFailed s ch k arbitration) := by
  unfold State.canAttemptFailed
  repeat' (first
    | with_reducible assumption
    | (simp -zeta only [Keeps.mk_iff]; with_reducible refine KeepsParts.of ?_ rfl rfl (Nat.le_refl _) rfl rfl)
    | ((fail_if_success (conv => arg 2; congr)); extract_lets +onlyGivenNames x; first | (have hx : Keeps s0 x := ?_; (on_goal 2 => dsimp -zeta only [x]); (on_goal 1 => clear_value x)) | (have hx : Keeps s0 x.1 := ?_; (on_goal 2 => dsimp -zeta only [x]); (on_goal 1 => clear_value x)) | clear_value x)
    | with_reducible refine Keeps.ite (fun _ => ?_) (fun _ => ?_)
    | with_reducible apply State.raise_keeps
    | with_reducible apply State.setTries_keeps
    | with_reducible apply State.objWithdraw_keeps
    | with_reducible apply State.fifoDrop_keeps
    | with_reducible apply State.canFrameEnd_keeps
    | split
    | dsimp -zeta only)

theorem execCanTxSuccess_keeps {s0 : State} (ch : Fin 4) (tdcv : Nat) (s : State) (h : Keeps s0 s) : KeepsR s0 (execCanTxSuccess ch tdcv s) := by
  unfold execCanTxSuccess
  repeat' (first
    | with_reducible assumption
    | (simp -zeta only [Keeps.mk_iff]; with_reducible refine KeepsParts.of ?_ rfl rfl (Nat.le_refl _) rfl rfl)
    | ((fail_if_success (conv => arg 2; congr)); extract_lets +onlyGivenNames x; first | (have hx : Keeps s0 x := ?_; (on_goal 2 => dsimp -zeta only [x]); (on_goal 1 => clear_value x)) | (have hx : Keeps s0 x.1 := ?_; (on_goal 2 => dsimp -zeta only [x]); (on_goal 1 => clear_value x)) | clear_value x)
    | with_reducible refine Keeps.ite (fun _ => ?_) (fun _ => ?_)
    | with_reducible refine KeepsR.ite (fun _ => ?_) (fun _ => ?_)
    | with_reducible apply KeepsR.next
    | with_reducible apply State.put_keeps
    | with_reducible apply State.raiseIf_keeps
    | with_reducible apply State.setCan_keeps
    | with_reducible apply State.setObjWord_keeps
    | with_reducible apply State.setObjBit_keeps
    | with_reducible apply State.connSent_keeps
    | with_reducible apply State.canService_keeps
    | with_reducible apply State.setTries_keeps
    | with_reducible apply State.fifoDrop_keeps
    | with_reducible apply State.canFrameEnd_keeps
    | with_reducible apply State.canAttemptFailed_keeps
    | split
    | dsimp -zeta only)

theorem execCanTxAttemptFailed_keeps {s0 : State} (ch : Fin 4) (arbitration : Bool) (s : State) (h : Keeps s0 s) : KeepsR s0 (execCanTxAttemptFailed ch arbitration s) := by
  unfold execCanTxAttemptFailed
  repeat' (first
    | with_reducible assumption
    | (simp -zeta only [Keeps.mk_iff]; with_reducible refine KeepsParts.of ?_ rfl rfl (Nat.le_refl _) rfl rfl)
    | ((fail_if_success (conv => arg 2; congr)); extract_lets +onlyGivenNames x; first | (have hx : Keeps s0 x := ?_; (on_goal 2 => dsimp -zeta only [x]); (on_goal 1 => clear_value x)) | (have hx : Keeps s0 x.1 := ?_; (on_goal 2 => dsimp -zeta only [x]); (on_goal 1 => clear_value x)) | clear_value x)
    | with_reducible refine Keeps.ite (fun _ => ?_) (fun _ => ?_)
    | with_reducible refine KeepsR.ite (fun _ => ?_) (fun _ => ?_)
    | with_reducible apply KeepsR.next
    | with_reducible apply State.canAttemptFailed_keeps
    | split
    | dsimp -zeta only)

theorem execCantxWindowEnd_keeps {s0 : State} (ch : Fin 4) (obj : Nat) (s : State) (h : Keeps s0 s) : KeepsR s0 (execCantxWindowEnd ch obj s) := by
  unfold execCantxWindowEnd
  repeat' (first
    | with_reducible assumption
    | (simp -zeta only [Keeps.mk_iff]; with_reducible refine KeepsParts.of ?_ rfl rfl (Nat.le_refl _) rfl rfl)
    | ((fail_if_success (conv => arg 2; congr)); extract_lets +onlyGivenNames x; first | (have hx : Keeps s0 x := ?_; (on_goal 2 => dsimp -zeta only [x]); (on_goal 1 => clear_value x)) | (have hx : Keeps s0 x.1 := ?_; (on_goal 2 => dsimp -zeta only [x]); (on_goal 1 => clear_value x)) | clear_value x)
    | with_reducible refine Keeps.ite (fun _ => ?_) (fun _ => ?_)
    | with_reducible refine KeepsR.ite (fun _ => ?_) (fun _ => ?_)
    | with_reducible apply KeepsR.next
    | with_reducible apply State.advanceTo_keeps
    | with_reducible apply State.objWithdraw_keeps
    | split
    | dsimp -zeta only)

theorem State.canCounters_keeps {s0 : State} (s : State) (ch tec rec_ : Nat) (h : Keeps s0 s) : Keeps s0 (State.canCounters s ch tec rec_) := by
  unfold State.canCounters
  repeat' (first
    | with_reducible assumption
    | (simp -zeta only [Keeps.mk_iff]; with_reducible refine KeepsParts.of ?_ rfl rfl (Nat.le_refl _) rfl rfl)
    | ((fail_if_success (conv => arg 2; congr)); extract_lets +onlyGivenNames x; first | (have hx : Keeps s0 x := ?_; (on_goal 2 => dsimp -zeta only [x]); (on_goal 1 => clear_value x)) | (have hx : Keeps s0 x.1 := ?_; (on_goal 2 => dsimp -zeta only [x]); (on_goal 1 => clear_value x)) | clear_value x)
    | with_reducible refine Keeps.ite (fun _ => ?_) (fun _ => ?_)
    | with_reducible apply State.put_keeps
    | with_reducible apply State.putB_keeps
    | with_reducible apply State.putSat_keeps
    | with_reducible apply State.incSat_keeps
    | with_reducible apply State.raiseIf_keeps
    | with_reducible apply State.setCan_keeps
    | split
    | dsimp -zeta only)

theorem execCanErrorStateChange_keeps {s0 : State} (ch : Fin 4) (tec rec_ : Nat) (s : State) (h : Keeps s0 s) : KeepsR s0 (execCanErrorStateChange ch tec rec_ s) := by
  unfold execCanErrorStateChange
  repeat' (first
    | with_reducible assumption
    | (simp -zeta only [Keeps.mk_iff]; with_reducible refine KeepsParts.of ?_ rfl rfl (Nat.le_refl _) rfl rfl)
    | ((fail_if_success (conv => arg 2; congr)); extract_lets +onlyGivenNames x; first | (have hx : Keeps s0 x := ?_; (on_goal 2 => dsimp -zeta only [x]); (on_goal 1 => clear_value x)) | (have hx : Keeps s0 x.1 := ?_; (on_goal 2 => dsimp -zeta only [x]); (on_goal 1 => clear_value x)) | clear_value x)
    | with_reducible refine Keeps.ite (fun _ => ?_) (fun _ => ?_)
    | with_reducible refine KeepsR.ite (fun _ => ?_) (fun _ => ?_)
    | with_reducible apply KeepsR.next
    | with_reducible apply State.canCounters_keeps
    | split
    | dsimp -zeta only)

theorem execCanReceiveError_keeps {s0 : State} (ch : Fin 4) (tec rec_ : Nat) (s : State) (h : Keeps s0 s) : KeepsR s0 (execCanReceiveError ch tec rec_ s) := by
  unfold execCanReceiveError
  repeat' (first
    | with_reducible assumption
    | (simp -zeta only [Keeps.mk_iff]; with_reducible refine KeepsParts.of ?_ rfl rfl (Nat.le_refl _) rfl rfl)
    | ((fail_if_success (conv => arg 2; congr)); extract_lets +onlyGivenNames x; first | (have hx : Keeps s0 x := ?_; (on_goal 2 => dsimp -zeta only [x]); (on_goal 1 => clear_value x)) | (have hx : Keeps s0 x.1 := ?_; (on_goal 2 => dsimp -zeta only [x]); (on_goal 1 => clear_value x)) | clear_value x)
    | with_reducible refine Keeps.ite (fun _ => ?_) (fun _ => ?_)
    | with_reducible refine KeepsR.ite (fun _ => ?_) (fun _ => ?_)
    | with_reducible apply KeepsR.next
    | with_reducible apply State.canCounters_keeps
    | split
    | dsimp -zeta only)

theorem execBusOffRecovered_keeps {s0 : State} (ch : Fin 4) (s : State) (h : Keeps s0 s) : KeepsR s0 (execBusOffRecovered ch s) := by
  unfold execBusOffRecovered
  repeat' (first
    | with_reducible assumption
    | (simp -zeta only [Keeps.mk_iff]; with_reducible refine KeepsParts.of ?_ rfl rfl (Nat.le_refl _) rfl rfl)
    | ((fail_if_success (conv => arg 2; congr)); extract_lets +onlyGivenNames x; first | (have hx : Keeps s0 x := ?_; (on_goal 2 => dsimp -zeta only [x]); (on_goal 1 => clear_value x)) | (have hx : Keeps s0 x.1 := ?_; (on_goal 2 => dsimp -zeta only [x]); (on_goal 1 => clear_value x)) | clear_value x)
    | with_reducible refine Keeps.ite (fun _ => ?_) (fun _ => ?_)
    | with_reducible refine KeepsR.ite (fun _ => ?_) (fun _ => ?_)
    | with_reducible apply KeepsR.next
    | with_reducible apply State.put_keeps
    | with_reducible apply State.putB_keeps
    | with_reducible apply State.advanceTo_keeps
    | with_reducible apply State.raise_keeps
    | split
    | dsimp -zeta only)

theorem execCanBusIntegrated_keeps {s0 : State} (ch : Fin 4) (s : State) (h : Keeps s0 s) : KeepsR s0 (execCanBusIntegrated ch s) := by
  unfold execCanBusIntegrated
  repeat' (first
    | with_reducible assumption
    | (simp -zeta only [Keeps.mk_iff]; with_reducible refine KeepsParts.of ?_ rfl rfl (Nat.le_refl _) rfl rfl)
    | ((fail_if_success (conv => arg 2; congr)); extract_lets +onlyGivenNames x; first | (have hx : Keeps s0 x := ?_; (on_goal 2 => dsimp -zeta only [x]); (on_goal 1 => clear_value x)) | (have hx : Keeps s0 x.1 := ?_; (on_goal 2 => dsimp -zeta only [x]); (on_goal 1 => clear_value x)) | clear_value x)
    | with_reducible refine Keeps.ite (fun _ => ?_) (fun _ => ?_)
    | with_reducible refine KeepsR.ite (fun _ => ?_) (fun _ => ?_)
    | with_reducible apply KeepsR.next
    | with_reducible apply State.advanceTo_keeps
    | with_reducible apply State.setCan_keeps
    | split
    | dsimp -zeta only)

theorem State.canWake_keeps {s0 : State} (s : State) (h : Keeps s0 s) : Keeps s0 (State.canWake s) := by
  unfold State.canWake
  repeat' (first
    | with_reducible assumption
    | (simp -zeta only [Keeps.mk_iff]; with_reducible refine KeepsParts.of ?_ rfl rfl (Nat.le_refl _) rfl rfl)
    | ((fail_if_success (conv => arg 2; congr)); extract_lets +onlyGivenNames x; first | (have hx : Keeps s0 x := ?_; (on_goal 2 => dsimp -zeta only [x]); (on_goal 1 => clear_value x)) | (have hx : Keeps s0 x.1 := ?_; (on_goal 2 => dsimp -zeta only [x]); (on_goal 1 => clear_value x)) | clear_value x)
    | with_reducible refine Keeps.ite (fun _ => ?_) (fun _ => ?_)
    | with_reducible apply State.put_keeps
    | with_reducible apply State.send_keeps
    | with_reducible apply State.wake_keeps
    | split
    | dsimp -zeta only)

theorem execCanEdgeWake_keeps {s0 : State} (ch : Fin 4) (s : State) (lowUS : Nat) (h : Keeps s0 s) : KeepsR s0 (execCanEdgeWake ch s lowUS) := by
  unfold execCanEdgeWake
  repeat' (first
    | with_reducible assumption
    | (simp -zeta only [Keeps.mk_iff]; with_reducible refine KeepsParts.of ?_ rfl rfl (Nat.le_refl _) rfl rfl)
    | ((fail_if_success (conv => arg 2; congr)); extract_lets +onlyGivenNames x; first | (have hx : Keeps s0 x := ?_; (on_goal 2 => dsimp -zeta only [x]); (on_goal 1 => clear_value x)) | (have hx : Keeps s0 x.1 := ?_; (on_goal 2 => dsimp -zeta only [x]); (on_goal 1 => clear_value x)) | clear_value x)
    | with_reducible refine Keeps.ite (fun _ => ?_) (fun _ => ?_)
    | with_reducible refine KeepsR.ite (fun _ => ?_) (fun _ => ?_)
    | with_reducible apply KeepsR.next
    | with_reducible apply State.canService_keeps
    | with_reducible apply State.canWake_keeps
    | split
    | dsimp -zeta only)

theorem execCanWakeFrame_keeps {s0 : State} (xtd : Bool) (id : Nat) (fd crcOk : Bool) (s : State) (h : Keeps s0 s) : KeepsR s0 (execCanWakeFrame xtd id fd crcOk s) := by
  unfold execCanWakeFrame
  repeat' (first
    | with_reducible assumption
    | (simp -zeta only [Keeps.mk_iff]; with_reducible refine KeepsParts.of ?_ rfl rfl (Nat.le_refl _) rfl rfl)
    | ((fail_if_success (conv => arg 2; congr)); extract_lets +onlyGivenNames x; first | (have hx : Keeps s0 x := ?_; (on_goal 2 => dsimp -zeta only [x]); (on_goal 1 => clear_value x)) | (have hx : Keeps s0 x.1 := ?_; (on_goal 2 => dsimp -zeta only [x]); (on_goal 1 => clear_value x)) | clear_value x)
    | with_reducible refine Keeps.ite (fun _ => ?_) (fun _ => ?_)
    | with_reducible refine KeepsR.ite (fun _ => ?_) (fun _ => ?_)
    | with_reducible apply KeepsR.next
    | with_reducible apply State.canService_keeps
    | with_reducible apply State.canWake_keeps
    | split
    | dsimp -zeta only)

theorem State.canCtrlWrite_keeps {s0 : State} (s : State) (ch : Nat) (val : Word) (h : Keeps s0 s) : Keeps s0 (State.canCtrlWrite s ch val) := by
  unfold State.canCtrlWrite
  repeat' (first
    | with_reducible assumption
    | (simp -zeta only [Keeps.mk_iff]; with_reducible refine KeepsParts.of ?_ rfl rfl (Nat.le_refl _) rfl rfl)
    | ((fail_if_success (conv => arg 2; congr)); extract_lets +onlyGivenNames x; first | (have hx : Keeps s0 x := ?_; (on_goal 2 => dsimp -zeta only [x]); (on_goal 1 => clear_value x)) | (have hx : Keeps s0 x.1 := ?_; (on_goal 2 => dsimp -zeta only [x]); (on_goal 1 => clear_value x)) | clear_value x)
    | with_reducible refine Keeps.ite (fun _ => ?_) (fun _ => ?_)
    | with_reducible apply State.canInit_keeps
    | with_reducible apply State.canLom_keeps
    | with_reducible apply State.canAbd_keeps
    | with_reducible apply State.fifoPush_keeps
    | with_reducible apply State.fifoClear_keeps
    | split
    | dsimp -zeta only)

theorem State.canObjCmd_keeps {s0 : State} (s : State) (ch : Nat) (val : Word) (h : Keeps s0 s) : Keeps s0 (State.canObjCmd s ch val) := by
  unfold State.canObjCmd
  repeat' (first
    | with_reducible assumption
    | (simp -zeta only [Keeps.mk_iff]; with_reducible refine KeepsParts.of ?_ rfl rfl (Nat.le_refl _) rfl rfl)
    | ((fail_if_success (conv => arg 2; congr)); extract_lets +onlyGivenNames x; first | (have hx : Keeps s0 x := ?_; (on_goal 2 => dsimp -zeta only [x]); (on_goal 1 => clear_value x)) | (have hx : Keeps s0 x.1 := ?_; (on_goal 2 => dsimp -zeta only [x]); (on_goal 1 => clear_value x)) | clear_value x)
    | with_reducible refine Keeps.ite (fun _ => ?_) (fun _ => ?_)
    | with_reducible apply State.objRequest_keeps
    | with_reducible apply State.objCancel_keeps
    | with_reducible apply State.objAck_keeps
    | split
    | dsimp -zeta only)

theorem State.fifoWordWrite_keeps {s0 : State} (s : State) (ch w : Nat) (val : Word) (h : Keeps s0 s) : Keeps s0 (State.fifoWordWrite s ch w val) := by
  unfold State.fifoWordWrite
  repeat' (first
    | with_reducible assumption
    | (simp -zeta only [Keeps.mk_iff]; with_reducible refine KeepsParts.of ?_ rfl rfl (Nat.le_refl _) rfl rfl)
    | ((fail_if_success (conv => arg 2; congr)); extract_lets +onlyGivenNames x; first | (have hx : Keeps s0 x := ?_; (on_goal 2 => dsimp -zeta only [x]); (on_goal 1 => clear_value x)) | (have hx : Keeps s0 x.1 := ?_; (on_goal 2 => dsimp -zeta only [x]); (on_goal 1 => clear_value x)) | clear_value x)
    | with_reducible refine Keeps.ite (fun _ => ?_) (fun _ => ?_)
    | with_reducible apply State.setCan_keeps
    | split
    | dsimp -zeta only)

theorem State.hostShow_keeps {s0 : State} (s : State) (h : Keeps s0 s) : Keeps s0 (State.hostShow s) := by
  unfold State.hostShow
  repeat' (first
    | with_reducible assumption
    | (simp -zeta only [Keeps.mk_iff]; with_reducible refine KeepsParts.of ?_ rfl rfl (Nat.le_refl _) rfl rfl)
    | ((fail_if_success (conv => arg 2; congr)); extract_lets +onlyGivenNames x; first | (have hx : Keeps s0 x := ?_; (on_goal 2 => dsimp -zeta only [x]); (on_goal 1 => clear_value x)) | (have hx : Keeps s0 x.1 := ?_; (on_goal 2 => dsimp -zeta only [x]); (on_goal 1 => clear_value x)) | clear_value x)
    | with_reducible refine Keeps.ite (fun _ => ?_) (fun _ => ?_)
    | with_reducible apply State.put_keeps
    | split
    | dsimp -zeta only)

theorem State.hostCause_keeps {s0 : State} (s : State) (f : Fld) (h : Keeps s0 s) : Keeps s0 (State.hostCause s f) := by
  unfold State.hostCause
  repeat' (first
    | with_reducible assumption
    | (simp -zeta only [Keeps.mk_iff]; with_reducible refine KeepsParts.of ?_ rfl rfl (Nat.le_refl _) rfl rfl)
    | ((fail_if_success (conv => arg 2; congr)); extract_lets +onlyGivenNames x; first | (have hx : Keeps s0 x := ?_; (on_goal 2 => dsimp -zeta only [x]); (on_goal 1 => clear_value x)) | (have hx : Keeps s0 x.1 := ?_; (on_goal 2 => dsimp -zeta only [x]); (on_goal 1 => clear_value x)) | clear_value x)
    | with_reducible refine Keeps.ite (fun _ => ?_) (fun _ => ?_)
    | with_reducible apply State.setCause_keeps
    | split
    | dsimp -zeta only)

theorem State.hostSeqRead_keeps {s0 : State} (s : State) (h : Keeps s0 s) : Keeps s0 (State.hostSeqRead s) := by
  unfold State.hostSeqRead
  repeat' (first
    | with_reducible assumption
    | (simp -zeta only [Keeps.mk_iff]; with_reducible refine KeepsParts.of ?_ rfl rfl (Nat.le_refl _) rfl rfl)
    | ((fail_if_success (conv => arg 2; congr)); extract_lets +onlyGivenNames x; first | (have hx : Keeps s0 x := ?_; (on_goal 2 => dsimp -zeta only [x]); (on_goal 1 => clear_value x)) | (have hx : Keeps s0 x.1 := ?_; (on_goal 2 => dsimp -zeta only [x]); (on_goal 1 => clear_value x)) | clear_value x)
    | with_reducible refine Keeps.ite (fun _ => ?_) (fun _ => ?_)
    | split
    | dsimp -zeta only)

theorem State.mailboxWrite_keeps {s0 : State} (s : State) (addr v : Nat) (h : Keeps s0 s) : Keeps s0 (State.mailboxWrite s addr v) := by
  unfold State.mailboxWrite
  repeat' (first
    | with_reducible assumption
    | (simp -zeta only [Keeps.mk_iff]; with_reducible refine KeepsParts.of ?_ rfl rfl (Nat.le_refl _) rfl rfl)
    | ((fail_if_success (conv => arg 2; congr)); extract_lets +onlyGivenNames x; first | (have hx : Keeps s0 x := ?_; (on_goal 2 => dsimp -zeta only [x]); (on_goal 1 => clear_value x)) | (have hx : Keeps s0 x.1 := ?_; (on_goal 2 => dsimp -zeta only [x]); (on_goal 1 => clear_value x)) | clear_value x)
    | with_reducible refine Keeps.ite (fun _ => ?_) (fun _ => ?_)
    | with_reducible apply State.hostCause_keeps
    | split
    | dsimp -zeta only)

theorem execHostReadSeq_keeps {s0 : State} (s : State) (h : Keeps s0 s) : KeepsR s0 (execHostReadSeq s) := by
  unfold execHostReadSeq
  repeat' (first
    | with_reducible assumption
    | (simp -zeta only [Keeps.mk_iff]; with_reducible refine KeepsParts.of ?_ rfl rfl (Nat.le_refl _) rfl rfl)
    | ((fail_if_success (conv => arg 2; congr)); extract_lets +onlyGivenNames x; first | (have hx : Keeps s0 x := ?_; (on_goal 2 => dsimp -zeta only [x]); (on_goal 1 => clear_value x)) | (have hx : Keeps s0 x.1 := ?_; (on_goal 2 => dsimp -zeta only [x]); (on_goal 1 => clear_value x)) | clear_value x)
    | with_reducible refine Keeps.ite (fun _ => ?_) (fun _ => ?_)
    | with_reducible refine KeepsR.ite (fun _ => ?_) (fun _ => ?_)
    | with_reducible apply KeepsR.next
    | with_reducible apply State.hostSeqRead_keeps
    | split
    | dsimp -zeta only)

theorem execHostWrite_keeps {s0 : State} (addr : Nat) (data : BitVec 16) (s : State) (h : Keeps s0 s) : KeepsR s0 (execHostWrite addr data s) := by
  unfold execHostWrite
  repeat' (first
    | with_reducible assumption
    | (simp -zeta only [Keeps.mk_iff]; with_reducible refine KeepsParts.of ?_ rfl rfl (Nat.le_refl _) rfl rfl)
    | ((fail_if_success (conv => arg 2; congr)); extract_lets +onlyGivenNames x; first | (have hx : Keeps s0 x := ?_; (on_goal 2 => dsimp -zeta only [x]); (on_goal 1 => clear_value x)) | (have hx : Keeps s0 x.1 := ?_; (on_goal 2 => dsimp -zeta only [x]); (on_goal 1 => clear_value x)) | clear_value x)
    | with_reducible refine Keeps.ite (fun _ => ?_) (fun _ => ?_)
    | with_reducible refine KeepsR.ite (fun _ => ?_) (fun _ => ?_)
    | with_reducible apply KeepsR.next
    | with_reducible apply State.mailboxWrite_keeps
    | split
    | dsimp -zeta only)

theorem execSpiWordComplete_keeps {s0 : State} (mosi : BitVec 16) (s : State) (h : Keeps s0 s) : KeepsR s0 (execSpiWordComplete mosi s) := by
  unfold execSpiWordComplete
  repeat' (first
    | with_reducible assumption
    | (simp -zeta only [Keeps.mk_iff]; with_reducible refine KeepsParts.of ?_ rfl rfl (Nat.le_refl _) rfl rfl)
    | ((fail_if_success (conv => arg 2; congr)); extract_lets +onlyGivenNames x; first | (have hx : Keeps s0 x := ?_; (on_goal 2 => dsimp -zeta only [x]); (on_goal 1 => clear_value x)) | (have hx : Keeps s0 x.1 := ?_; (on_goal 2 => dsimp -zeta only [x]); (on_goal 1 => clear_value x)) | clear_value x)
    | with_reducible refine Keeps.ite (fun _ => ?_) (fun _ => ?_)
    | with_reducible refine KeepsR.ite (fun _ => ?_) (fun _ => ?_)
    | with_reducible apply KeepsR.next
    | with_reducible apply State.hostSeqRead_keeps
    | with_reducible apply State.mailboxWrite_keeps
    | split
    | dsimp -zeta only)

theorem execSpiDeselect_keeps {s0 : State} (bits : Nat) (s : State) (h : Keeps s0 s) : KeepsR s0 (execSpiDeselect bits s) := by
  unfold execSpiDeselect
  repeat' (first
    | with_reducible assumption
    | (simp -zeta only [Keeps.mk_iff]; with_reducible refine KeepsParts.of ?_ rfl rfl (Nat.le_refl _) rfl rfl)
    | ((fail_if_success (conv => arg 2; congr)); extract_lets +onlyGivenNames x; first | (have hx : Keeps s0 x := ?_; (on_goal 2 => dsimp -zeta only [x]); (on_goal 1 => clear_value x)) | (have hx : Keeps s0 x.1 := ?_; (on_goal 2 => dsimp -zeta only [x]); (on_goal 1 => clear_value x)) | clear_value x)
    | with_reducible refine Keeps.ite (fun _ => ?_) (fun _ => ?_)
    | with_reducible refine KeepsR.ite (fun _ => ?_) (fun _ => ?_)
    | with_reducible apply KeepsR.next
    | with_reducible apply State.hostCause_keeps
    | split
    | dsimp -zeta only)

theorem execHirqTimeout_keeps {s0 : State} (s : State) (h : Keeps s0 s) : KeepsR s0 (execHirqTimeout s) := by
  unfold execHirqTimeout
  repeat' (first
    | with_reducible assumption
    | (simp -zeta only [Keeps.mk_iff]; with_reducible refine KeepsParts.of ?_ rfl rfl (Nat.le_refl _) rfl rfl)
    | ((fail_if_success (conv => arg 2; congr)); extract_lets +onlyGivenNames x; first | (have hx : Keeps s0 x := ?_; (on_goal 2 => dsimp -zeta only [x]); (on_goal 1 => clear_value x)) | (have hx : Keeps s0 x.1 := ?_; (on_goal 2 => dsimp -zeta only [x]); (on_goal 1 => clear_value x)) | clear_value x)
    | with_reducible refine Keeps.ite (fun _ => ?_) (fun _ => ?_)
    | with_reducible refine KeepsR.ite (fun _ => ?_) (fun _ => ?_)
    | with_reducible apply KeepsR.next
    | with_reducible apply State.advanceTo_keeps
    | with_reducible apply State.hostSeqRead_keeps
    | split
    | dsimp -zeta only)

theorem State.backWrite_keeps {s0 : State} (s : State) (ini : Ini) (val : Word) (h : Keeps s0 s) : Keeps s0 (State.backWrite s ini val) := by
  unfold State.backWrite
  repeat' (first
    | with_reducible assumption
    | (simp -zeta only [Keeps.mk_iff]; with_reducible refine KeepsParts.of ?_ rfl rfl (Nat.le_refl _) rfl rfl)
    | ((fail_if_success (conv => arg 2; congr)); extract_lets +onlyGivenNames x; first | (have hx : Keeps s0 x := ?_; (on_goal 2 => dsimp -zeta only [x]); (on_goal 1 => clear_value x)) | (have hx : Keeps s0 x.1 := ?_; (on_goal 2 => dsimp -zeta only [x]); (on_goal 1 => clear_value x)) | clear_value x)
    | with_reducible refine Keeps.ite (fun _ => ?_) (fun _ => ?_)
    | with_reducible apply State.put_keeps
    | with_reducible apply State.accessFault_keeps
    | split
    | dsimp -zeta only)

theorem execBackBufferWrite_keeps {s0 : State} (ini : Ini) (val : Word) (s : State) (h : Keeps s0 s) : KeepsR s0 (execBackBufferWrite ini val s) := by
  unfold execBackBufferWrite
  repeat' (first
    | with_reducible assumption
    | (simp -zeta only [Keeps.mk_iff]; with_reducible refine KeepsParts.of ?_ rfl rfl (Nat.le_refl _) rfl rfl)
    | ((fail_if_success (conv => arg 2; congr)); extract_lets +onlyGivenNames x; first | (have hx : Keeps s0 x := ?_; (on_goal 2 => dsimp -zeta only [x]); (on_goal 1 => clear_value x)) | (have hx : Keeps s0 x.1 := ?_; (on_goal 2 => dsimp -zeta only [x]); (on_goal 1 => clear_value x)) | clear_value x)
    | with_reducible refine Keeps.ite (fun _ => ?_) (fun _ => ?_)
    | with_reducible refine KeepsR.ite (fun _ => ?_) (fun _ => ?_)
    | with_reducible apply KeepsR.next
    | (with_reducible apply State.onPage_keeps; on_goal 2 => (intro x hx; try dsimp -zeta only))
    | with_reducible apply State.backWrite_keeps
    | split
    | dsimp -zeta only)

theorem State.backDone_keeps {s0 : State} (s : State) (ini : Ini) (h : Keeps s0 s) : Keeps s0 (State.backDone s ini) := by
  unfold State.backDone
  repeat' (first
    | with_reducible assumption
    | (simp -zeta only [Keeps.mk_iff]; with_reducible refine KeepsParts.of ?_ rfl rfl (Nat.le_refl _) rfl rfl)
    | ((fail_if_success (conv => arg 2; congr)); extract_lets +onlyGivenNames x; first | (have hx : Keeps s0 x := ?_; (on_goal 2 => dsimp -zeta only [x]); (on_goal 1 => clear_value x)) | (have hx : Keeps s0 x.1 := ?_; (on_goal 2 => dsimp -zeta only [x]); (on_goal 1 => clear_value x)) | clear_value x)
    | with_reducible refine Keeps.ite (fun _ => ?_) (fun _ => ?_)
    | split
    | dsimp -zeta only)

theorem execBackBufferDone_keeps {s0 : State} (ini : Ini) (s : State) (h : Keeps s0 s) : KeepsR s0 (execBackBufferDone ini s) := by
  unfold execBackBufferDone
  repeat' (first
    | with_reducible assumption
    | (simp -zeta only [Keeps.mk_iff]; with_reducible refine KeepsParts.of ?_ rfl rfl (Nat.le_refl _) rfl rfl)
    | ((fail_if_success (conv => arg 2; congr)); extract_lets +onlyGivenNames x; first | (have hx : Keeps s0 x := ?_; (on_goal 2 => dsimp -zeta only [x]); (on_goal 1 => clear_value x)) | (have hx : Keeps s0 x.1 := ?_; (on_goal 2 => dsimp -zeta only [x]); (on_goal 1 => clear_value x)) | clear_value x)
    | with_reducible refine Keeps.ite (fun _ => ?_) (fun _ => ?_)
    | with_reducible refine KeepsR.ite (fun _ => ?_) (fun _ => ?_)
    | with_reducible apply KeepsR.next
    | (with_reducible apply State.onPage_keeps; on_goal 2 => (intro x hx; try dsimp -zeta only))
    | with_reducible apply State.backDone_keeps
    | split
    | dsimp -zeta only)

theorem State.liveFlip_keeps {s0 : State} (s pre : State) (h : Keeps s0 s) : Keeps s0 (State.liveFlip s pre) := by
  unfold State.liveFlip
  repeat' (first
    | with_reducible assumption
    | (simp -zeta only [Keeps.mk_iff]; with_reducible refine KeepsParts.of ?_ rfl rfl (Nat.le_refl _) rfl rfl)
    | ((fail_if_success (conv => arg 2; congr)); extract_lets +onlyGivenNames x; first | (have hx : Keeps s0 x := ?_; (on_goal 2 => dsimp -zeta only [x]); (on_goal 1 => clear_value x)) | (have hx : Keeps s0 x.1 := ?_; (on_goal 2 => dsimp -zeta only [x]); (on_goal 1 => clear_value x)) | clear_value x)
    | with_reducible refine Keeps.ite (fun _ => ?_) (fun _ => ?_)
    | with_reducible apply State.put_keeps
    | with_reducible apply State.putB_keeps
    | with_reducible apply State.nextFree_keeps
    | (with_reducible apply Keeps.foldl; on_goal 2 => (intro x y hx; try dsimp -zeta only))
    | split
    | dsimp -zeta only)

theorem State.limpHome_keeps {s0 : State} (s : State) (on : Bool) (h : Keeps s0 s) : Keeps s0 (State.limpHome s on) := by
  unfold State.limpHome
  repeat' (first
    | with_reducible assumption
    | (simp -zeta only [Keeps.mk_iff]; with_reducible refine KeepsParts.of ?_ rfl rfl (Nat.le_refl _) rfl rfl)
    | ((fail_if_success (conv => arg 2; congr)); extract_lets +onlyGivenNames x; first | (have hx : Keeps s0 x := ?_; (on_goal 2 => dsimp -zeta only [x]); (on_goal 1 => clear_value x)) | (have hx : Keeps s0 x.1 := ?_; (on_goal 2 => dsimp -zeta only [x]); (on_goal 1 => clear_value x)) | clear_value x)
    | with_reducible refine Keeps.ite (fun _ => ?_) (fun _ => ?_)
    | with_reducible apply State.putB_keeps
    | with_reducible apply State.hostRequest_keeps
    | split
    | dsimp -zeta only)

theorem State.mailboxTake_keeps {s0 : State} (s : State) (h : Keeps s0 s) : Keeps s0 (State.mailboxTake s) := by
  unfold State.mailboxTake
  repeat' (first
    | with_reducible assumption
    | (simp -zeta only [Keeps.mk_iff]; with_reducible refine KeepsParts.of ?_ rfl rfl (Nat.le_refl _) rfl rfl)
    | ((fail_if_success (conv => arg 2; congr)); extract_lets +onlyGivenNames x; first | (have hx : Keeps s0 x := ?_; (on_goal 2 => dsimp -zeta only [x]); (on_goal 1 => clear_value x)) | (have hx : Keeps s0 x.1 := ?_; (on_goal 2 => dsimp -zeta only [x]); (on_goal 1 => clear_value x)) | clear_value x)
    | with_reducible refine Keeps.ite (fun _ => ?_) (fun _ => ?_)
    | with_reducible apply State.put_keeps
    | with_reducible apply State.hostCause_keeps
    | with_reducible apply State.limpHome_keeps
    | (with_reducible apply Keeps.foldl; on_goal 2 => (intro x y hx; try dsimp -zeta only))
    | split
    | dsimp -zeta only)

theorem State.stagedEdit_keeps {s0 : State} (s : State) (page : Nat) (h : Keeps s0 s) : Keeps s0 (State.stagedEdit s page) := by
  unfold State.stagedEdit
  repeat' (first
    | with_reducible assumption
    | (simp -zeta only [Keeps.mk_iff]; with_reducible refine KeepsParts.of ?_ rfl rfl (Nat.le_refl _) rfl rfl)
    | ((fail_if_success (conv => arg 2; congr)); extract_lets +onlyGivenNames x; first | (have hx : Keeps s0 x := ?_; (on_goal 2 => dsimp -zeta only [x]); (on_goal 1 => clear_value x)) | (have hx : Keeps s0 x.1 := ?_; (on_goal 2 => dsimp -zeta only [x]); (on_goal 1 => clear_value x)) | clear_value x)
    | with_reducible refine Keeps.ite (fun _ => ?_) (fun _ => ?_)
    | with_reducible apply State.put_keeps
    | with_reducible apply State.stgCancel_keeps
    | split
    | dsimp -zeta only)

theorem State.stagedWrite_keeps {s0 : State} (s : State) (ini : Ini) (a : Nat) (val : Word) (h : Keeps s0 s) : Keeps s0 (State.stagedWrite s ini a val) := by
  unfold State.stagedWrite
  repeat' (first
    | with_reducible assumption
    | (simp -zeta only [Keeps.mk_iff]; with_reducible refine KeepsParts.of ?_ rfl rfl (Nat.le_refl _) rfl rfl)
    | ((fail_if_success (conv => arg 2; congr)); extract_lets +onlyGivenNames x; first | (have hx : Keeps s0 x := ?_; (on_goal 2 => dsimp -zeta only [x]); (on_goal 1 => clear_value x)) | (have hx : Keeps s0 x.1 := ?_; (on_goal 2 => dsimp -zeta only [x]); (on_goal 1 => clear_value x)) | clear_value x)
    | with_reducible refine Keeps.ite (fun _ => ?_) (fun _ => ?_)
    | with_reducible apply State.setWord_keeps
    | with_reducible apply State.accessFault_keeps
    | with_reducible apply State.stagedEdit_keeps
    | split
    | dsimp -zeta only)

theorem execStagedWrite_keeps {s0 : State} (ini : Ini) (addr : Nat) (val : Word) (s : State) (h : Keeps s0 s) : KeepsR s0 (execStagedWrite ini addr val s) := by
  unfold execStagedWrite
  repeat' (first
    | with_reducible assumption
    | (simp -zeta only [Keeps.mk_iff]; with_reducible refine KeepsParts.of ?_ rfl rfl (Nat.le_refl _) rfl rfl)
    | ((fail_if_success (conv => arg 2; congr)); extract_lets +onlyGivenNames x; first | (have hx : Keeps s0 x := ?_; (on_goal 2 => dsimp -zeta only [x]); (on_goal 1 => clear_value x)) | (have hx : Keeps s0 x.1 := ?_; (on_goal 2 => dsimp -zeta only [x]); (on_goal 1 => clear_value x)) | clear_value x)
    | with_reducible refine Keeps.ite (fun _ => ?_) (fun _ => ?_)
    | with_reducible refine KeepsR.ite (fun _ => ?_) (fun _ => ?_)
    | with_reducible apply KeepsR.next
    | (with_reducible apply State.onPage_keeps; on_goal 2 => (intro x hx; try dsimp -zeta only))
    | with_reducible apply State.stagedWrite_keeps
    | split
    | dsimp -zeta only)

theorem State.withStaged_keeps {s0 : State} (s : State) (mask : Nat) (h : Keeps s0 s) : Keeps s0 (State.withStaged s mask) := by
  unfold State.withStaged
  repeat' (first
    | with_reducible assumption
    | (simp -zeta only [Keeps.mk_iff]; with_reducible refine KeepsParts.of ?_ rfl rfl (Nat.le_refl _) rfl rfl)
    | ((fail_if_success (conv => arg 2; congr)); extract_lets +onlyGivenNames x; first | (have hx : Keeps s0 x := ?_; (on_goal 2 => dsimp -zeta only [x]); (on_goal 1 => clear_value x)) | (have hx : Keeps s0 x.1 := ?_; (on_goal 2 => dsimp -zeta only [x]); (on_goal 1 => clear_value x)) | clear_value x)
    | with_reducible refine Keeps.ite (fun _ => ?_) (fun _ => ?_)
    | with_reducible apply State.setWord_keeps
    | (with_reducible apply Keeps.foldl; on_goal 2 => (intro x y hx; try dsimp -zeta only))
    | split
    | dsimp -zeta only)

theorem State.anchorOff_keeps {s0 : State} (s : State) (h : Keeps s0 s) : Keeps s0 (State.anchorOff s) := by
  unfold State.anchorOff
  repeat' (first
    | with_reducible assumption
    | (simp -zeta only [Keeps.mk_iff]; with_reducible refine KeepsParts.of ?_ rfl rfl (Nat.le_refl _) rfl rfl)
    | ((fail_if_success (conv => arg 2; congr)); extract_lets +onlyGivenNames x; first | (have hx : Keeps s0 x := ?_; (on_goal 2 => dsimp -zeta only [x]); (on_goal 1 => clear_value x)) | (have hx : Keeps s0 x.1 := ?_; (on_goal 2 => dsimp -zeta only [x]); (on_goal 1 => clear_value x)) | clear_value x)
    | with_reducible refine Keeps.ite (fun _ => ?_) (fun _ => ?_)
    | with_reducible apply State.isoIncomplete_keeps
    | with_reducible apply State.ocOff_keeps
    | split
    | dsimp -zeta only)

theorem State.commitEffects_keeps {s0 : State} (s old : State) (mask : Nat) (h : Keeps s0 s) : Keeps s0 (State.commitEffects s old mask) := by
  unfold State.commitEffects
  repeat' (first
    | with_reducible assumption
    | (simp -zeta only [Keeps.mk_iff]; with_reducible refine KeepsParts.of ?_ rfl rfl (Nat.le_refl _) rfl rfl)
    | ((fail_if_success (conv => arg 2; congr)); extract_lets +onlyGivenNames x; first | (have hx : Keeps s0 x := ?_; (on_goal 2 => dsimp -zeta only [x]); (on_goal 1 => clear_value x)) | (have hx : Keeps s0 x.1 := ?_; (on_goal 2 => dsimp -zeta only [x]); (on_goal 1 => clear_value x)) | (have hfun : ∀ (y : State) (z : Pair), Keeps s0 y → Keeps s0 ((x : State → Pair → State) y z) := ?_; (on_goal 2 => (intro y z hy; dsimp -zeta only [x])); (on_goal 1 => clear_value x)) | clear_value x)
    | with_reducible refine Keeps.ite (fun _ => ?_) (fun _ => ?_)
    | with_reducible apply hfun
    | with_reducible apply State.put_keeps
    | with_reducible apply State.mapSync_keeps
    | with_reducible apply State.settle_keeps
    | with_reducible apply State.protect_keeps
    | with_reducible apply State.remask_keeps
    | with_reducible apply State.tktRebind_keeps
    | with_reducible apply State.beginSwap_keeps
    | with_reducible apply State.showDigest_keeps
    | with_reducible apply State.coverage_keeps
    | with_reducible apply State.dropUnused_keeps
    | with_reducible apply State.hostShow_keeps
    | with_reducible apply State.anchorOff_keeps
    | split
    | dsimp -zeta only)

theorem State.stgCommit_keeps {s0 : State} (s : State) (h : Keeps s0 s) : Keeps s0 (State.stgCommit s) := by
  unfold State.stgCommit
  repeat' (first
    | with_reducible assumption
    | (simp -zeta only [Keeps.mk_iff]; with_reducible refine KeepsParts.of ?_ rfl rfl (Nat.le_refl _) rfl rfl)
    | ((fail_if_success (conv => arg 2; congr)); extract_lets +onlyGivenNames x; first | (have hx : Keeps s0 x := ?_; (on_goal 2 => dsimp -zeta only [x]); (on_goal 1 => clear_value x)) | (have hx : Keeps s0 x.1 := ?_; (on_goal 2 => dsimp -zeta only [x]); (on_goal 1 => clear_value x)) | clear_value x)
    | with_reducible refine Keeps.ite (fun _ => ?_) (fun _ => ?_)
    | with_reducible apply State.put_keeps
    | with_reducible apply State.putB_keeps
    | with_reducible apply State.raise_keeps
    | with_reducible apply State.eisAbort_keeps
    | with_reducible apply State.eisExc_keeps
    | with_reducible apply State.stgEnd_keeps
    | with_reducible apply State.withStaged_keeps
    | with_reducible apply State.commitEffects_keeps
    | (with_reducible apply Keeps.foldl; on_goal 2 => (intro x y hx; try dsimp -zeta only))
    | split
    | dsimp -zeta only)

theorem State.stgBegin_keeps {s0 : State} (s : State) (mask point : Nat) (cascade remote : Bool) (h : Keeps s0 s) : Keeps s0 (State.stgBegin s mask point cascade remote) := by
  unfold State.stgBegin
  repeat' (first
    | with_reducible assumption
    | (simp -zeta only [Keeps.mk_iff]; with_reducible refine KeepsParts.of ?_ rfl rfl (Nat.le_refl _) rfl rfl)
    | ((fail_if_success (conv => arg 2; congr)); extract_lets +onlyGivenNames x; first | (have hx : Keeps s0 x := ?_; (on_goal 2 => dsimp -zeta only [x]); (on_goal 1 => clear_value x)) | (have hx : Keeps s0 x.1 := ?_; (on_goal 2 => dsimp -zeta only [x]); (on_goal 1 => clear_value x)) | clear_value x)
    | with_reducible refine Keeps.ite (fun _ => ?_) (fun _ => ?_)
    | with_reducible apply State.put_keeps
    | with_reducible apply State.putB_keeps
    | with_reducible apply State.stageMask_keeps
    | split
    | dsimp -zeta only)

theorem State.stgArm_keeps {s0 : State} (s : State) (ini : Ini) (point : Nat) (cascade : Bool) (h : Keeps s0 s) : Keeps s0 (State.stgArm s ini point cascade) := by
  unfold State.stgArm
  repeat' (first
    | with_reducible assumption
    | (simp -zeta only [Keeps.mk_iff]; with_reducible refine KeepsParts.of ?_ rfl rfl (Nat.le_refl _) rfl rfl)
    | ((fail_if_success (conv => arg 2; congr)); extract_lets +onlyGivenNames x; first | (have hx : Keeps s0 x := ?_; (on_goal 2 => dsimp -zeta only [x]); (on_goal 1 => clear_value x)) | (have hx : Keeps s0 x.1 := ?_; (on_goal 2 => dsimp -zeta only [x]); (on_goal 1 => clear_value x)) | clear_value x)
    | with_reducible refine Keeps.ite (fun _ => ?_) (fun _ => ?_)
    | with_reducible apply State.raise_keeps
    | with_reducible apply State.accessFault_keeps
    | with_reducible apply State.send_keeps
    | with_reducible apply State.stgBegin_keeps
    | (with_reducible apply Keeps.foldl; on_goal 2 => (intro x y hx; try dsimp -zeta only))
    | split
    | dsimp -zeta only)

theorem execStgArm_keeps {s0 : State} (ini : Ini) (point : Nat) (cascade : Bool) (s : State) (h : Keeps s0 s) : KeepsR s0 (execStgArm ini point cascade s) := by
  unfold execStgArm
  repeat' (first
    | with_reducible assumption
    | (simp -zeta only [Keeps.mk_iff]; with_reducible refine KeepsParts.of ?_ rfl rfl (Nat.le_refl _) rfl rfl)
    | ((fail_if_success (conv => arg 2; congr)); extract_lets +onlyGivenNames x; first | (have hx : Keeps s0 x := ?_; (on_goal 2 => dsimp -zeta only [x]); (on_goal 1 => clear_value x)) | (have hx : Keeps s0 x.1 := ?_; (on_goal 2 => dsimp -zeta only [x]); (on_goal 1 => clear_value x)) | clear_value x)
    | with_reducible refine Keeps.ite (fun _ => ?_) (fun _ => ?_)
    | with_reducible refine KeepsR.ite (fun _ => ?_) (fun _ => ?_)
    | with_reducible apply KeepsR.next
    | with_reducible apply State.stgArm_keeps
    | split
    | dsimp -zeta only)

theorem execStgDisarm_keeps {s0 : State} (_ini : Ini) (s : State) (h : Keeps s0 s) : KeepsR s0 (execStgDisarm _ini s) := by
  unfold execStgDisarm
  repeat' (first
    | with_reducible assumption
    | (simp -zeta only [Keeps.mk_iff]; with_reducible refine KeepsParts.of ?_ rfl rfl (Nat.le_refl _) rfl rfl)
    | ((fail_if_success (conv => arg 2; congr)); extract_lets +onlyGivenNames x; first | (have hx : Keeps s0 x := ?_; (on_goal 2 => dsimp -zeta only [x]); (on_goal 1 => clear_value x)) | (have hx : Keeps s0 x.1 := ?_; (on_goal 2 => dsimp -zeta only [x]); (on_goal 1 => clear_value x)) | clear_value x)
    | with_reducible refine Keeps.ite (fun _ => ?_) (fun _ => ?_)
    | with_reducible refine KeepsR.ite (fun _ => ?_) (fun _ => ?_)
    | with_reducible apply KeepsR.next
    | with_reducible apply State.stgCancel_keeps
    | split
    | dsimp -zeta only)

theorem State.stgCmd_keeps {s0 : State} (s : State) (ini : Ini) (val : Word) (h : Keeps s0 s) : Keeps s0 (State.stgCmd s ini val) := by
  unfold State.stgCmd
  repeat' (first
    | with_reducible assumption
    | (simp -zeta only [Keeps.mk_iff]; with_reducible refine KeepsParts.of ?_ rfl rfl (Nat.le_refl _) rfl rfl)
    | ((fail_if_success (conv => arg 2; congr)); extract_lets +onlyGivenNames x; first | (have hx : Keeps s0 x := ?_; (on_goal 2 => dsimp -zeta only [x]); (on_goal 1 => clear_value x)) | (have hx : Keeps s0 x.1 := ?_; (on_goal 2 => dsimp -zeta only [x]); (on_goal 1 => clear_value x)) | clear_value x)
    | with_reducible refine Keeps.ite (fun _ => ?_) (fun _ => ?_)
    | with_reducible apply State.accessFault_keeps
    | with_reducible apply State.stgCancel_keeps
    | with_reducible apply State.stgArm_keeps
    | split
    | dsimp -zeta only)

theorem State.stgReject_keeps {s0 : State} (s : State) (fail : Nat) (h : Keeps s0 s) : Keeps s0 (State.stgReject s fail) := by
  unfold State.stgReject
  repeat' (first
    | with_reducible assumption
    | (simp -zeta only [Keeps.mk_iff]; with_reducible refine KeepsParts.of ?_ rfl rfl (Nat.le_refl _) rfl rfl)
    | ((fail_if_success (conv => arg 2; congr)); extract_lets +onlyGivenNames x; first | (have hx : Keeps s0 x := ?_; (on_goal 2 => dsimp -zeta only [x]); (on_goal 1 => clear_value x)) | (have hx : Keeps s0 x.1 := ?_; (on_goal 2 => dsimp -zeta only [x]); (on_goal 1 => clear_value x)) | clear_value x)
    | with_reducible refine Keeps.ite (fun _ => ?_) (fun _ => ?_)
    | with_reducible apply State.setWord_keeps
    | with_reducible apply State.raise_keeps
    | with_reducible apply State.send_keeps
    | with_reducible apply State.stageMask_keeps
    | with_reducible apply State.stgEnd_keeps
    | split
    | dsimp -zeta only)

theorem State.stgPass_keeps {s0 : State} (s : State) (h : Keeps s0 s) : Keeps s0 (State.stgPass s) := by
  unfold State.stgPass
  repeat' (first
    | with_reducible assumption
    | (simp -zeta only [Keeps.mk_iff]; with_reducible refine KeepsParts.of ?_ rfl rfl (Nat.le_refl _) rfl rfl)
    | ((fail_if_success (conv => arg 2; congr)); extract_lets +onlyGivenNames x; first | (have hx : Keeps s0 x := ?_; (on_goal 2 => dsimp -zeta only [x]); (on_goal 1 => clear_value x)) | (have hx : Keeps s0 x.1 := ?_; (on_goal 2 => dsimp -zeta only [x]); (on_goal 1 => clear_value x)) | clear_value x)
    | with_reducible refine Keeps.ite (fun _ => ?_) (fun _ => ?_)
    | with_reducible apply State.setWord_keeps
    | with_reducible apply State.put_keeps
    | with_reducible apply State.stageMask_keeps
    | split
    | dsimp -zeta only)

theorem State.stgCheck_keeps {s0 : State} (s : State) (h : Keeps s0 s) : Keeps s0 (State.stgCheck s) := by
  unfold State.stgCheck
  repeat' (first
    | with_reducible assumption
    | (simp -zeta only [Keeps.mk_iff]; with_reducible refine KeepsParts.of ?_ rfl rfl (Nat.le_refl _) rfl rfl)
    | ((fail_if_success (conv => arg 2; congr)); extract_lets +onlyGivenNames x; first | (have hx : Keeps s0 x := ?_; (on_goal 2 => dsimp -zeta only [x]); (on_goal 1 => clear_value x)) | (have hx : Keeps s0 x.1 := ?_; (on_goal 2 => dsimp -zeta only [x]); (on_goal 1 => clear_value x)) | clear_value x)
    | with_reducible refine Keeps.ite (fun _ => ?_) (fun _ => ?_)
    | with_reducible apply State.nextFree_keeps
    | with_reducible apply State.withStaged_keeps
    | with_reducible apply State.stgReject_keeps
    | with_reducible apply State.stgPass_keeps
    | split
    | dsimp -zeta only)

theorem execConsistencyCheckDone_keeps {s0 : State} (s : State) (h : Keeps s0 s) : KeepsR s0 (execConsistencyCheckDone s) := by
  unfold execConsistencyCheckDone
  repeat' (first
    | with_reducible assumption
    | (simp -zeta only [Keeps.mk_iff]; with_reducible refine KeepsParts.of ?_ rfl rfl (Nat.le_refl _) rfl rfl)
    | ((fail_if_success (conv => arg 2; congr)); extract_lets +onlyGivenNames x; first | (have hx : Keeps s0 x := ?_; (on_goal 2 => dsimp -zeta only [x]); (on_goal 1 => clear_value x)) | (have hx : Keeps s0 x.1 := ?_; (on_goal 2 => dsimp -zeta only [x]); (on_goal 1 => clear_value x)) | clear_value x)
    | with_reducible refine Keeps.ite (fun _ => ?_) (fun _ => ?_)
    | with_reducible refine KeepsR.ite (fun _ => ?_) (fun _ => ?_)
    | with_reducible apply KeepsR.next
    | with_reducible apply State.stgCheck_keeps
    | split
    | dsimp -zeta only)

theorem State.stgOverdue_keeps {s0 : State} (s : State) (h : Keeps s0 s) : Keeps s0 (State.stgOverdue s) := by
  unfold State.stgOverdue
  repeat' (first
    | with_reducible assumption
    | (simp -zeta only [Keeps.mk_iff]; with_reducible refine KeepsParts.of ?_ rfl rfl (Nat.le_refl _) rfl rfl)
    | ((fail_if_success (conv => arg 2; congr)); extract_lets +onlyGivenNames x; first | (have hx : Keeps s0 x := ?_; (on_goal 2 => dsimp -zeta only [x]); (on_goal 1 => clear_value x)) | (have hx : Keeps s0 x.1 := ?_; (on_goal 2 => dsimp -zeta only [x]); (on_goal 1 => clear_value x)) | clear_value x)
    | with_reducible refine Keeps.ite (fun _ => ?_) (fun _ => ?_)
    | with_reducible apply State.stgCheck_keeps
    | split
    | dsimp -zeta only)

theorem execCommitPointReached_keeps {s0 : State} (point : Nat) (s : State) (h : Keeps s0 s) : KeepsR s0 (execCommitPointReached point s) := by
  unfold execCommitPointReached
  repeat' (first
    | with_reducible assumption
    | (simp -zeta only [Keeps.mk_iff]; with_reducible refine KeepsParts.of ?_ rfl rfl (Nat.le_refl _) rfl rfl)
    | ((fail_if_success (conv => arg 2; congr)); extract_lets +onlyGivenNames x; first | (have hx : Keeps s0 x := ?_; (on_goal 2 => dsimp -zeta only [x]); (on_goal 1 => clear_value x)) | (have hx : Keeps s0 x.1 := ?_; (on_goal 2 => dsimp -zeta only [x]); (on_goal 1 => clear_value x)) | clear_value x)
    | with_reducible refine Keeps.ite (fun _ => ?_) (fun _ => ?_)
    | with_reducible refine KeepsR.ite (fun _ => ?_) (fun _ => ?_)
    | with_reducible apply KeepsR.next
    | with_reducible apply State.advanceTo_keeps
    | with_reducible apply State.stgCommit_keeps
    | with_reducible apply State.stgOverdue_keeps
    | split
    | dsimp -zeta only)

theorem execCascadeArmReceived_keeps {s0 : State} (mask : Nat) (fast : Bool) (setid : Nat) (s : State) (h : Keeps s0 s) : KeepsR s0 (execCascadeArmReceived mask fast setid s) := by
  unfold execCascadeArmReceived
  repeat' (first
    | with_reducible assumption
    | (simp -zeta only [Keeps.mk_iff]; with_reducible refine KeepsParts.of ?_ rfl rfl (Nat.le_refl _) rfl rfl)
    | ((fail_if_success (conv => arg 2; congr)); extract_lets +onlyGivenNames x; first | (have hx : Keeps s0 x := ?_; (on_goal 2 => dsimp -zeta only [x]); (on_goal 1 => clear_value x)) | (have hx : Keeps s0 x.1 := ?_; (on_goal 2 => dsimp -zeta only [x]); (on_goal 1 => clear_value x)) | clear_value x)
    | with_reducible refine Keeps.ite (fun _ => ?_) (fun _ => ?_)
    | with_reducible refine KeepsR.ite (fun _ => ?_) (fun _ => ?_)
    | with_reducible apply KeepsR.next
    | with_reducible apply State.put_keeps
    | with_reducible apply State.raise_keeps
    | with_reducible apply State.send_keeps
    | with_reducible apply State.withStaged_keeps
    | with_reducible apply State.stgBegin_keeps
    | with_reducible apply State.stgReject_keeps
    | with_reducible apply State.stgPass_keeps
    | split
    | dsimp -zeta only)

theorem execCheckReportReceived_keeps {s0 : State} (dev : Nat) (fail : Word) (digest : Nat) (s : State) (h : Keeps s0 s) : KeepsR s0 (execCheckReportReceived dev fail digest s) := by
  unfold execCheckReportReceived
  repeat' (first
    | with_reducible assumption
    | (simp -zeta only [Keeps.mk_iff]; with_reducible refine KeepsParts.of ?_ rfl rfl (Nat.le_refl _) rfl rfl)
    | ((fail_if_success (conv => arg 2; congr)); extract_lets +onlyGivenNames x; first | (have hx : Keeps s0 x := ?_; (on_goal 2 => dsimp -zeta only [x]); (on_goal 1 => clear_value x)) | (have hx : Keeps s0 x.1 := ?_; (on_goal 2 => dsimp -zeta only [x]); (on_goal 1 => clear_value x)) | clear_value x)
    | with_reducible refine Keeps.ite (fun _ => ?_) (fun _ => ?_)
    | with_reducible refine KeepsR.ite (fun _ => ?_) (fun _ => ?_)
    | with_reducible apply KeepsR.next
    | with_reducible apply State.stgReject_keeps
    | split
    | dsimp -zeta only)

theorem execCascadeReportDeadline_keeps {s0 : State} (s : State) (h : Keeps s0 s) : KeepsR s0 (execCascadeReportDeadline s) := by
  unfold execCascadeReportDeadline
  repeat' (first
    | with_reducible assumption
    | (simp -zeta only [Keeps.mk_iff]; with_reducible refine KeepsParts.of ?_ rfl rfl (Nat.le_refl _) rfl rfl)
    | ((fail_if_success (conv => arg 2; congr)); extract_lets +onlyGivenNames x; first | (have hx : Keeps s0 x := ?_; (on_goal 2 => dsimp -zeta only [x]); (on_goal 1 => clear_value x)) | (have hx : Keeps s0 x.1 := ?_; (on_goal 2 => dsimp -zeta only [x]); (on_goal 1 => clear_value x)) | clear_value x)
    | with_reducible refine Keeps.ite (fun _ => ?_) (fun _ => ?_)
    | with_reducible refine KeepsR.ite (fun _ => ?_) (fun _ => ?_)
    | with_reducible apply KeepsR.next
    | with_reducible apply State.put_keeps
    | with_reducible apply State.advanceTo_keeps
    | with_reducible apply State.raise_keeps
    | with_reducible apply State.stgReject_keeps
    | with_reducible apply State.stgOverdue_keeps
    | split
    | dsimp -zeta only)

theorem execCascadeDisarmReceived_keeps {s0 : State} (s : State) (h : Keeps s0 s) : KeepsR s0 (execCascadeDisarmReceived s) := by
  unfold execCascadeDisarmReceived
  repeat' (first
    | with_reducible assumption
    | (simp -zeta only [Keeps.mk_iff]; with_reducible refine KeepsParts.of ?_ rfl rfl (Nat.le_refl _) rfl rfl)
    | ((fail_if_success (conv => arg 2; congr)); extract_lets +onlyGivenNames x; first | (have hx : Keeps s0 x := ?_; (on_goal 2 => dsimp -zeta only [x]); (on_goal 1 => clear_value x)) | (have hx : Keeps s0 x.1 := ?_; (on_goal 2 => dsimp -zeta only [x]); (on_goal 1 => clear_value x)) | clear_value x)
    | with_reducible refine Keeps.ite (fun _ => ?_) (fun _ => ?_)
    | with_reducible refine KeepsR.ite (fun _ => ?_) (fun _ => ?_)
    | with_reducible apply KeepsR.next
    | with_reducible apply State.dropRemote_keeps
    | split
    | dsimp -zeta only)

theorem execCascadeArmTimeout_keeps {s0 : State} (s : State) (h : Keeps s0 s) : KeepsR s0 (execCascadeArmTimeout s) := by
  unfold execCascadeArmTimeout
  repeat' (first
    | with_reducible assumption
    | (simp -zeta only [Keeps.mk_iff]; with_reducible refine KeepsParts.of ?_ rfl rfl (Nat.le_refl _) rfl rfl)
    | ((fail_if_success (conv => arg 2; congr)); extract_lets +onlyGivenNames x; first | (have hx : Keeps s0 x := ?_; (on_goal 2 => dsimp -zeta only [x]); (on_goal 1 => clear_value x)) | (have hx : Keeps s0 x.1 := ?_; (on_goal 2 => dsimp -zeta only [x]); (on_goal 1 => clear_value x)) | clear_value x)
    | with_reducible refine Keeps.ite (fun _ => ?_) (fun _ => ?_)
    | with_reducible refine KeepsR.ite (fun _ => ?_) (fun _ => ?_)
    | with_reducible apply KeepsR.next
    | with_reducible apply State.dropRemote_keeps
    | split
    | dsimp -zeta only)

theorem State.boundaryCommit_keeps {s0 : State} (s : State) (h : Keeps s0 s) : Keeps s0 (State.boundaryCommit s) := by
  unfold State.boundaryCommit
  repeat' (first
    | with_reducible assumption
    | (simp -zeta only [Keeps.mk_iff]; with_reducible refine KeepsParts.of ?_ rfl rfl (Nat.le_refl _) rfl rfl)
    | ((fail_if_success (conv => arg 2; congr)); extract_lets +onlyGivenNames x; first | (have hx : Keeps s0 x := ?_; (on_goal 2 => dsimp -zeta only [x]); (on_goal 1 => clear_value x)) | (have hx : Keeps s0 x.1 := ?_; (on_goal 2 => dsimp -zeta only [x]); (on_goal 1 => clear_value x)) | clear_value x)
    | with_reducible refine Keeps.ite (fun _ => ?_) (fun _ => ?_)
    | with_reducible apply State.stgCommit_keeps
    | with_reducible apply State.stgOverdue_keeps
    | split
    | dsimp -zeta only)

end Sys2Proof.Machine
end

