-- ==== Sys2Proof/Laws/KeepsDevice.lean ====
section
/-!
SUPPORT. What the operations and commands of Power, Access, FrameBoundary, Step keep: canonical stores, time, build and queue.
Each lemma peels its operation apart and cites the lemmas of the operations it calls.
-/
namespace Sys2Proof.Machine

theorem State.wiped_keeps {s0 : State} (s : State) (code : Nat) (h : Keeps s0 s) : Keeps s0 (State.wiped s code) :=
  h.trans ⟨fun c => (State.canon_iff _).2 ⟨kwf_filter _ _ _ ((State.canon_iff _).1 c).1, ((State.canon_iff _).1 c).2⟩,
    Nat.le_refl _, rfl, rfl⟩

theorem State.chstatReset_keeps {s0 : State} (s : State) (h : Keeps s0 s) : Keeps s0 (State.chstatReset s) := by
  unfold State.chstatReset
  repeat' (first
    | with_reducible assumption
    | (simp -zeta only [Keeps.mk_iff]; with_reducible refine KeepsParts.of ?_ rfl rfl (Nat.le_refl _) rfl rfl)
    | ((fail_if_success (conv => arg 2; congr)); extract_lets +onlyGivenNames x; first | (have hx : Keeps s0 x := ?_; (on_goal 2 => dsimp -zeta only [x]); (on_goal 1 => clear_value x)) | (have hx : Keeps s0 x.1 := ?_; (on_goal 2 => dsimp -zeta only [x]); (on_goal 1 => clear_value x)) | clear_value x)
    | with_reducible refine Keeps.ite (fun _ => ?_) (fun _ => ?_)
    | with_reducible apply State.put_keeps
    | (with_reducible apply Keeps.foldl; on_goal 2 => (intro x y hx; try dsimp -zeta only))
    | split
    | dsimp -zeta only)

theorem State.deviceReset_keeps {s0 : State} (s : State) (code : Nat) (h : Keeps s0 s) : Keeps s0 (State.deviceReset s code) := by
  unfold State.deviceReset
  repeat' (first
    | with_reducible assumption
    | (simp -zeta only [Keeps.mk_iff]; with_reducible refine KeepsParts.of ?_ rfl rfl (Nat.le_refl _) rfl rfl)
    | ((fail_if_success (conv => arg 2; congr)); extract_lets +onlyGivenNames x; first | (have hx : Keeps s0 x := ?_; (on_goal 2 => dsimp -zeta only [x]); (on_goal 1 => clear_value x)) | (have hx : Keeps s0 x.1 := ?_; (on_goal 2 => dsimp -zeta only [x]); (on_goal 1 => clear_value x)) | clear_value x)
    | with_reducible refine Keeps.ite (fun _ => ?_) (fun _ => ?_)
    | with_reducible apply State.put_keeps
    | with_reducible apply State.putBit_keeps
    | with_reducible apply State.abortTest_keeps
    | with_reducible apply State.allOff_keeps
    | with_reducible apply State.snBegin_keeps
    | with_reducible apply State.journalStart_keeps
    | with_reducible apply State.journalDone_keeps
    | with_reducible apply State.wiped_keeps
    | with_reducible apply State.chstatReset_keeps
    | split
    | dsimp -zeta only)

theorem State.pauseMeasurement_keeps {s0 : State} (s : State) (h : Keeps s0 s) : Keeps s0 (State.pauseMeasurement s) := by
  unfold State.pauseMeasurement
  repeat' (first
    | with_reducible assumption
    | (simp -zeta only [Keeps.mk_iff]; with_reducible refine KeepsParts.of ?_ rfl rfl (Nat.le_refl _) rfl rfl)
    | ((fail_if_success (conv => arg 2; congr)); extract_lets +onlyGivenNames x; first | (have hx : Keeps s0 x := ?_; (on_goal 2 => dsimp -zeta only [x]); (on_goal 1 => clear_value x)) | (have hx : Keeps s0 x.1 := ?_; (on_goal 2 => dsimp -zeta only [x]); (on_goal 1 => clear_value x)) | clear_value x)
    | with_reducible refine Keeps.ite (fun _ => ?_) (fun _ => ?_)
    | with_reducible apply State.openSwitches_keeps
    | with_reducible apply State.endIso_keeps
    | with_reducible apply State.eisAbort_keeps
    | with_reducible apply State.owAbort_keeps
    | split
    | dsimp -zeta only)

theorem execVbatPause_keeps {s0 : State} (s : State) (h : Keeps s0 s) : KeepsR s0 (execVbatPause s) := by
  unfold execVbatPause
  repeat' (first
    | with_reducible assumption
    | (simp -zeta only [Keeps.mk_iff]; with_reducible refine KeepsParts.of ?_ rfl rfl (Nat.le_refl _) rfl rfl)
    | ((fail_if_success (conv => arg 2; congr)); extract_lets +onlyGivenNames x; first | (have hx : Keeps s0 x := ?_; (on_goal 2 => dsimp -zeta only [x]); (on_goal 1 => clear_value x)) | (have hx : Keeps s0 x.1 := ?_; (on_goal 2 => dsimp -zeta only [x]); (on_goal 1 => clear_value x)) | clear_value x)
    | with_reducible refine Keeps.ite (fun _ => ?_) (fun _ => ?_)
    | with_reducible refine KeepsR.ite (fun _ => ?_) (fun _ => ?_)
    | with_reducible apply KeepsR.next
    | with_reducible apply State.put_keeps
    | with_reducible apply State.incSat_keeps
    | with_reducible apply State.raise_keeps
    | with_reducible apply State.crankBegin_keeps
    | with_reducible apply State.pmpSettle_keeps
    | with_reducible apply State.pauseMeasurement_keeps
    | split
    | dsimp -zeta only)

theorem execVbatPauseReturn_keeps {s0 : State} (s : State) (h : Keeps s0 s) : KeepsR s0 (execVbatPauseReturn s) := by
  unfold execVbatPauseReturn
  repeat' (first
    | with_reducible assumption
    | (simp -zeta only [Keeps.mk_iff]; with_reducible refine KeepsParts.of ?_ rfl rfl (Nat.le_refl _) rfl rfl)
    | ((fail_if_success (conv => arg 2; congr)); extract_lets +onlyGivenNames x; first | (have hx : Keeps s0 x := ?_; (on_goal 2 => dsimp -zeta only [x]); (on_goal 1 => clear_value x)) | (have hx : Keeps s0 x.1 := ?_; (on_goal 2 => dsimp -zeta only [x]); (on_goal 1 => clear_value x)) | clear_value x)
    | with_reducible refine Keeps.ite (fun _ => ?_) (fun _ => ?_)
    | with_reducible refine KeepsR.ite (fun _ => ?_) (fun _ => ?_)
    | with_reducible apply KeepsR.next
    | with_reducible apply State.put_keeps
    | with_reducible apply State.putSat_keeps
    | with_reducible apply State.crankEnd_keeps
    | split
    | dsimp -zeta only)

theorem execPauseLimit_keeps {s0 : State} (s : State) (h : Keeps s0 s) : KeepsR s0 (execPauseLimit s) := by
  unfold execPauseLimit
  repeat' (first
    | with_reducible assumption
    | (simp -zeta only [Keeps.mk_iff]; with_reducible refine KeepsParts.of ?_ rfl rfl (Nat.le_refl _) rfl rfl)
    | ((fail_if_success (conv => arg 2; congr)); extract_lets +onlyGivenNames x; first | (have hx : Keeps s0 x := ?_; (on_goal 2 => dsimp -zeta only [x]); (on_goal 1 => clear_value x)) | (have hx : Keeps s0 x.1 := ?_; (on_goal 2 => dsimp -zeta only [x]); (on_goal 1 => clear_value x)) | clear_value x)
    | with_reducible refine Keeps.ite (fun _ => ?_) (fun _ => ?_)
    | with_reducible refine KeepsR.ite (fun _ => ?_) (fun _ => ?_)
    | with_reducible apply KeepsR.next
    | with_reducible apply State.advanceTo_keeps
    | with_reducible apply State.barrierFault_keeps
    | split
    | dsimp -zeta only)

theorem State.pauseResume_keeps {s0 : State} (s : State) (h : Keeps s0 s) : Keeps s0 (State.pauseResume s) := by
  unfold State.pauseResume
  repeat' (first
    | with_reducible assumption
    | (simp -zeta only [Keeps.mk_iff]; with_reducible refine KeepsParts.of ?_ rfl rfl (Nat.le_refl _) rfl rfl)
    | ((fail_if_success (conv => arg 2; congr)); extract_lets +onlyGivenNames x; first | (have hx : Keeps s0 x := ?_; (on_goal 2 => dsimp -zeta only [x]); (on_goal 1 => clear_value x)) | (have hx : Keeps s0 x.1 := ?_; (on_goal 2 => dsimp -zeta only [x]); (on_goal 1 => clear_value x)) | clear_value x)
    | with_reducible refine Keeps.ite (fun _ => ?_) (fun _ => ?_)
    | with_reducible apply State.raise_keeps
    | with_reducible apply State.cellStat_keeps
    | split
    | dsimp -zeta only)

theorem execBrownoutWarning_keeps {s0 : State} (s : State) (h : Keeps s0 s) : KeepsR s0 (execBrownoutWarning s) := by
  unfold execBrownoutWarning
  refine KeepsR.ite (fun _ => KeepsR.next h) (fun _ => KeepsR.ite (fun _ => KeepsR.next (State.crankBegin_keeps _ h)) (fun _ => ?_))
  extract_lets s1 x s2 s3 s4 y s5
  have h1 : Keeps s0 s1 := by
    have hp := execVbatPause_keeps s h
    show Keeps s0 (match execVbatPause s with | .next t => t | _ => s)
    generalize execVbatPause s = r at hp ⊢
    split
    · exact hp _ rfl
    · exact h
  clear_value s1
  have h2 : Keeps s0 s2 := h1.upd rfl rfl (Nat.le_refl _) rfl rfl
  have h3 : Keeps s0 s3 := State.incSat_keeps (State.raise_keeps (State.put_keeps h2 _ _) _) _
  have h4 : Keeps s0 s4 := State.saveTick_keeps _ _ h3
  clear_value s4
  refine KeepsR.ite (fun _ => KeepsR.next h4) (fun _ => ?_)
  have h5 : Keeps s0 s5 := Keeps.ite (fun _ => h4.upd rfl rfl (Nat.le_refl _) rfl rfl) (fun _ => h4)
  exact KeepsR.next (State.freeze_keeps _ _ _ h5)

theorem execBrownoutWarningEnd_keeps {s0 : State} (s : State) (h : Keeps s0 s) : KeepsR s0 (execBrownoutWarningEnd s) := by
  unfold execBrownoutWarningEnd
  repeat' (first
    | with_reducible assumption
    | (simp -zeta only [Keeps.mk_iff]; with_reducible refine KeepsParts.of ?_ rfl rfl (Nat.le_refl _) rfl rfl)
    | ((fail_if_success (conv => arg 2; congr)); extract_lets +onlyGivenNames x; first | (have hx : Keeps s0 x := ?_; (on_goal 2 => dsimp -zeta only [x]); (on_goal 1 => clear_value x)) | (have hx : Keeps s0 x.1 := ?_; (on_goal 2 => dsimp -zeta only [x]); (on_goal 1 => clear_value x)) | clear_value x)
    | with_reducible refine Keeps.ite (fun _ => ?_) (fun _ => ?_)
    | with_reducible refine KeepsR.ite (fun _ => ?_) (fun _ => ?_)
    | with_reducible apply KeepsR.next
    | with_reducible apply State.put_keeps
    | with_reducible apply State.raise_keeps
    | split
    | dsimp -zeta only)

theorem execBrownoutTimeout_keeps {s0 : State} (s : State) (h : Keeps s0 s) : KeepsR s0 (execBrownoutTimeout s) := by
  unfold execBrownoutTimeout
  repeat' (first
    | with_reducible assumption
    | (simp -zeta only [Keeps.mk_iff]; with_reducible refine KeepsParts.of ?_ rfl rfl (Nat.le_refl _) rfl rfl)
    | ((fail_if_success (conv => arg 2; congr)); extract_lets +onlyGivenNames x; first | (have hx : Keeps s0 x := ?_; (on_goal 2 => dsimp -zeta only [x]); (on_goal 1 => clear_value x)) | (have hx : Keeps s0 x.1 := ?_; (on_goal 2 => dsimp -zeta only [x]); (on_goal 1 => clear_value x)) | clear_value x)
    | with_reducible refine Keeps.ite (fun _ => ?_) (fun _ => ?_)
    | with_reducible refine KeepsR.ite (fun _ => ?_) (fun _ => ?_)
    | with_reducible apply KeepsR.next
    | with_reducible apply State.advanceTo_keeps
    | with_reducible apply State.deviceReset_keeps
    | split
    | dsimp -zeta only)

theorem execHoldupExhausted_keeps {s0 : State} (s : State) (h : Keeps s0 s) : KeepsR s0 (execHoldupExhausted s) := by
  unfold execHoldupExhausted
  repeat' (first
    | with_reducible assumption
    | (simp -zeta only [Keeps.mk_iff]; with_reducible refine KeepsParts.of ?_ rfl rfl (Nat.le_refl _) rfl rfl)
    | ((fail_if_success (conv => arg 2; congr)); extract_lets +onlyGivenNames x; first | (have hx : Keeps s0 x := ?_; (on_goal 2 => dsimp -zeta only [x]); (on_goal 1 => clear_value x)) | (have hx : Keeps s0 x.1 := ?_; (on_goal 2 => dsimp -zeta only [x]); (on_goal 1 => clear_value x)) | clear_value x)
    | with_reducible refine Keeps.ite (fun _ => ?_) (fun _ => ?_)
    | with_reducible refine KeepsR.ite (fun _ => ?_) (fun _ => ?_)
    | with_reducible apply KeepsR.next
    | with_reducible apply State.deviceReset_keeps
    | split
    | dsimp -zeta only)

theorem execVbatOvervoltage_keeps {s0 : State} (vbatMV : Nat) (s : State) (h : Keeps s0 s) : KeepsR s0 (execVbatOvervoltage vbatMV s) := by
  unfold execVbatOvervoltage
  repeat' (first
    | with_reducible assumption
    | (simp -zeta only [Keeps.mk_iff]; with_reducible refine KeepsParts.of ?_ rfl rfl (Nat.le_refl _) rfl rfl)
    | ((fail_if_success (conv => arg 2; congr)); extract_lets +onlyGivenNames x; first | (have hx : Keeps s0 x := ?_; (on_goal 2 => dsimp -zeta only [x]); (on_goal 1 => clear_value x)) | (have hx : Keeps s0 x.1 := ?_; (on_goal 2 => dsimp -zeta only [x]); (on_goal 1 => clear_value x)) | clear_value x)
    | with_reducible refine Keeps.ite (fun _ => ?_) (fun _ => ?_)
    | with_reducible refine KeepsR.ite (fun _ => ?_) (fun _ => ?_)
    | with_reducible apply KeepsR.next
    | with_reducible apply State.putB_keeps
    | with_reducible apply State.raise_keeps
    | split
    | dsimp -zeta only)

theorem execAlwaysOnLoss_keeps {s0 : State} (s : State) (h : Keeps s0 s) : KeepsR s0 (execAlwaysOnLoss s) := by
  unfold execAlwaysOnLoss
  extract_lets s1 s2 s3 s4 s5
  have h1 : Keeps s0 s1 := by
    have hp := execBrownoutTimeout_keeps s h
    show Keeps s0 (match execBrownoutTimeout s with | .next t => t | _ => s)
    generalize execBrownoutTimeout s = r at hp ⊢
    split
    · exact hp _ rfl
    · exact h
  clear_value s1
  have h2 : Keeps s0 s2 := State.deviceReset_keeps _ _ h1
  have h3 : Keeps s0 s3 := State.put_keeps (State.put_keeps (State.putB_keeps h2 _ _) _ _) _ _
  have h4 : Keeps s0 s4 := Keeps.foldl h3 fun x y hx => Keeps.ite (fun _ => State.setWord_keeps (State.stopChan_keeps _ _ hx) _ _) (fun _ => hx)
  have h5 : Keeps s0 s5 := State.setWord_keeps h4 _ _
  exact KeepsR.next (h5.upd rfl rfl (Nat.le_refl _) rfl rfl)

theorem execHoldupMeasure_keeps {s0 : State} (vholdMV : Nat) (slow : Option (Nat × Nat)) (s : State) (h : Keeps s0 s) : KeepsR s0 (execHoldupMeasure vholdMV slow s) := by
  unfold execHoldupMeasure
  repeat' (first
    | with_reducible assumption
    | (simp -zeta only [Keeps.mk_iff]; with_reducible refine KeepsParts.of ?_ rfl rfl (Nat.le_refl _) rfl rfl)
    | ((fail_if_success (conv => arg 2; congr)); extract_lets +onlyGivenNames x; first | (have hx : Keeps s0 x := ?_; (on_goal 2 => dsimp -zeta only [x]); (on_goal 1 => clear_value x)) | (have hx : Keeps s0 x.1 := ?_; (on_goal 2 => dsimp -zeta only [x]); (on_goal 1 => clear_value x)) | clear_value x)
    | with_reducible refine Keeps.ite (fun _ => ?_) (fun _ => ?_)
    | with_reducible refine KeepsR.ite (fun _ => ?_) (fun _ => ?_)
    | with_reducible apply KeepsR.next
    | with_reducible apply State.put_keeps
    | with_reducible apply State.putB_keeps
    | with_reducible apply State.putSat_keeps
    | with_reducible apply State.writeBoot_keeps
    | split
    | dsimp -zeta only)

theorem execHoldupFault_keeps {s0 : State} (s : State) (h : Keeps s0 s) : KeepsR s0 (execHoldupFault s) := by
  unfold execHoldupFault
  repeat' (first
    | with_reducible assumption
    | (simp -zeta only [Keeps.mk_iff]; with_reducible refine KeepsParts.of ?_ rfl rfl (Nat.le_refl _) rfl rfl)
    | ((fail_if_success (conv => arg 2; congr)); extract_lets +onlyGivenNames x; first | (have hx : Keeps s0 x := ?_; (on_goal 2 => dsimp -zeta only [x]); (on_goal 1 => clear_value x)) | (have hx : Keeps s0 x.1 := ?_; (on_goal 2 => dsimp -zeta only [x]); (on_goal 1 => clear_value x)) | clear_value x)
    | with_reducible refine Keeps.ite (fun _ => ?_) (fun _ => ?_)
    | with_reducible refine KeepsR.ite (fun _ => ?_) (fun _ => ?_)
    | with_reducible apply KeepsR.next
    | with_reducible apply State.putB_keeps
    | with_reducible apply State.advanceTo_keeps
    | with_reducible apply State.raise_keeps
    | split
    | dsimp -zeta only)

theorem execCoreSupplyFailure_keeps {s0 : State} (s : State) (h : Keeps s0 s) : KeepsR s0 (execCoreSupplyFailure s) := by
  unfold execCoreSupplyFailure
  repeat' (first
    | with_reducible assumption
    | (simp -zeta only [Keeps.mk_iff]; with_reducible refine KeepsParts.of ?_ rfl rfl (Nat.le_refl _) rfl rfl)
    | ((fail_if_success (conv => arg 2; congr)); extract_lets +onlyGivenNames x; first | (have hx : Keeps s0 x := ?_; (on_goal 2 => dsimp -zeta only [x]); (on_goal 1 => clear_value x)) | (have hx : Keeps s0 x.1 := ?_; (on_goal 2 => dsimp -zeta only [x]); (on_goal 1 => clear_value x)) | clear_value x)
    | with_reducible refine Keeps.ite (fun _ => ?_) (fun _ => ?_)
    | with_reducible refine KeepsR.ite (fun _ => ?_) (fun _ => ?_)
    | with_reducible apply KeepsR.next
    | with_reducible apply State.putBit_keeps
    | with_reducible apply State.deviceReset_keeps
    | split
    | dsimp -zeta only)

theorem execCoreSupplyReturn_keeps {s0 : State} (s : State) (h : Keeps s0 s) : KeepsR s0 (execCoreSupplyReturn s) := by
  unfold execCoreSupplyReturn
  repeat' (first
    | with_reducible assumption
    | (simp -zeta only [Keeps.mk_iff]; with_reducible refine KeepsParts.of ?_ rfl rfl (Nat.le_refl _) rfl rfl)
    | ((fail_if_success (conv => arg 2; congr)); extract_lets +onlyGivenNames x; first | (have hx : Keeps s0 x := ?_; (on_goal 2 => dsimp -zeta only [x]); (on_goal 1 => clear_value x)) | (have hx : Keeps s0 x.1 := ?_; (on_goal 2 => dsimp -zeta only [x]); (on_goal 1 => clear_value x)) | clear_value x)
    | with_reducible refine Keeps.ite (fun _ => ?_) (fun _ => ?_)
    | with_reducible refine KeepsR.ite (fun _ => ?_) (fun _ => ?_)
    | with_reducible apply KeepsR.next
    | split
    | dsimp -zeta only)

theorem execClockFailure_keeps {s0 : State} (s : State) (h : Keeps s0 s) : KeepsR s0 (execClockFailure s) := by
  unfold execClockFailure
  repeat' (first
    | with_reducible assumption
    | (simp -zeta only [Keeps.mk_iff]; with_reducible refine KeepsParts.of ?_ rfl rfl (Nat.le_refl _) rfl rfl)
    | ((fail_if_success (conv => arg 2; congr)); extract_lets +onlyGivenNames x; first | (have hx : Keeps s0 x := ?_; (on_goal 2 => dsimp -zeta only [x]); (on_goal 1 => clear_value x)) | (have hx : Keeps s0 x.1 := ?_; (on_goal 2 => dsimp -zeta only [x]); (on_goal 1 => clear_value x)) | clear_value x)
    | with_reducible refine Keeps.ite (fun _ => ?_) (fun _ => ?_)
    | with_reducible refine KeepsR.ite (fun _ => ?_) (fun _ => ?_)
    | with_reducible apply KeepsR.next
    | with_reducible apply State.deviceReset_keeps
    | split
    | dsimp -zeta only)

theorem execCrystalRecovered_keeps {s0 : State} (s : State) (h : Keeps s0 s) : KeepsR s0 (execCrystalRecovered s) := by
  unfold execCrystalRecovered
  repeat' (first
    | with_reducible assumption
    | (simp -zeta only [Keeps.mk_iff]; with_reducible refine KeepsParts.of ?_ rfl rfl (Nat.le_refl _) rfl rfl)
    | ((fail_if_success (conv => arg 2; congr)); extract_lets +onlyGivenNames x; first | (have hx : Keeps s0 x := ?_; (on_goal 2 => dsimp -zeta only [x]); (on_goal 1 => clear_value x)) | (have hx : Keeps s0 x.1 := ?_; (on_goal 2 => dsimp -zeta only [x]); (on_goal 1 => clear_value x)) | clear_value x)
    | with_reducible refine Keeps.ite (fun _ => ?_) (fun _ => ?_)
    | with_reducible refine KeepsR.ite (fun _ => ?_) (fun _ => ?_)
    | with_reducible apply KeepsR.next
    | split
    | dsimp -zeta only)

theorem execPllRestart_keeps {s0 : State} (s : State) (h : Keeps s0 s) : KeepsR s0 (execPllRestart s) := by
  unfold execPllRestart
  repeat' (first
    | with_reducible assumption
    | (simp -zeta only [Keeps.mk_iff]; with_reducible refine KeepsParts.of ?_ rfl rfl (Nat.le_refl _) rfl rfl)
    | ((fail_if_success (conv => arg 2; congr)); extract_lets +onlyGivenNames x; first | (have hx : Keeps s0 x := ?_; (on_goal 2 => dsimp -zeta only [x]); (on_goal 1 => clear_value x)) | (have hx : Keeps s0 x.1 := ?_; (on_goal 2 => dsimp -zeta only [x]); (on_goal 1 => clear_value x)) | clear_value x)
    | with_reducible refine Keeps.ite (fun _ => ?_) (fun _ => ?_)
    | with_reducible refine KeepsR.ite (fun _ => ?_) (fun _ => ?_)
    | with_reducible apply KeepsR.next
    | with_reducible apply State.advanceTo_keeps
    | split
    | dsimp -zeta only)

theorem execPllLocked_keeps {s0 : State} (s : State) (h : Keeps s0 s) : KeepsR s0 (execPllLocked s) := by
  unfold execPllLocked
  repeat' (first
    | with_reducible assumption
    | (simp -zeta only [Keeps.mk_iff]; with_reducible refine KeepsParts.of ?_ rfl rfl (Nat.le_refl _) rfl rfl)
    | ((fail_if_success (conv => arg 2; congr)); extract_lets +onlyGivenNames x; first | (have hx : Keeps s0 x := ?_; (on_goal 2 => dsimp -zeta only [x]); (on_goal 1 => clear_value x)) | (have hx : Keeps s0 x.1 := ?_; (on_goal 2 => dsimp -zeta only [x]); (on_goal 1 => clear_value x)) | clear_value x)
    | with_reducible refine Keeps.ite (fun _ => ?_) (fun _ => ?_)
    | with_reducible refine KeepsR.ite (fun _ => ?_) (fun _ => ?_)
    | with_reducible apply KeepsR.next
    | with_reducible apply State.putB_keeps
    | split
    | dsimp -zeta only)

theorem execMeasDieWarmup_keeps {s0 : State} (s : State) (h : Keeps s0 s) : KeepsR s0 (execMeasDieWarmup s) := by
  unfold execMeasDieWarmup
  repeat' (first
    | with_reducible assumption
    | (simp -zeta only [Keeps.mk_iff]; with_reducible refine KeepsParts.of ?_ rfl rfl (Nat.le_refl _) rfl rfl)
    | ((fail_if_success (conv => arg 2; congr)); extract_lets +onlyGivenNames x; first | (have hx : Keeps s0 x := ?_; (on_goal 2 => dsimp -zeta only [x]); (on_goal 1 => clear_value x)) | (have hx : Keeps s0 x.1 := ?_; (on_goal 2 => dsimp -zeta only [x]); (on_goal 1 => clear_value x)) | clear_value x)
    | with_reducible refine Keeps.ite (fun _ => ?_) (fun _ => ?_)
    | with_reducible refine KeepsR.ite (fun _ => ?_) (fun _ => ?_)
    | with_reducible apply KeepsR.next
    | with_reducible apply State.advanceTo_keeps
    | split
    | dsimp -zeta only)

theorem execSleepExitResume_keeps {s0 : State} (s : State) (h : Keeps s0 s) : KeepsR s0 (execSleepExitResume s) := by
  unfold execSleepExitResume
  repeat' (first
    | with_reducible assumption
    | (simp -zeta only [Keeps.mk_iff]; with_reducible refine KeepsParts.of ?_ rfl rfl (Nat.le_refl _) rfl rfl)
    | ((fail_if_success (conv => arg 2; congr)); extract_lets +onlyGivenNames x; first | (have hx : Keeps s0 x := ?_; (on_goal 2 => dsimp -zeta only [x]); (on_goal 1 => clear_value x)) | (have hx : Keeps s0 x.1 := ?_; (on_goal 2 => dsimp -zeta only [x]); (on_goal 1 => clear_value x)) | clear_value x)
    | with_reducible refine Keeps.ite (fun _ => ?_) (fun _ => ?_)
    | with_reducible refine KeepsR.ite (fun _ => ?_) (fun _ => ?_)
    | with_reducible apply KeepsR.next
    | with_reducible apply State.put_keeps
    | with_reducible apply State.putB_keeps
    | with_reducible apply State.raise_keeps
    | with_reducible apply State.matrixRun_keeps
    | with_reducible apply State.refreshChannels_keeps
    | with_reducible apply State.settle_keeps
    | with_reducible apply State.tktResume_keeps
    | with_reducible apply State.restorePair_keeps
    | with_reducible apply State.estProfile_keeps
    | with_reducible apply State.canResume_keeps
    | with_reducible apply State.hostShow_keeps
    | (with_reducible apply Keeps.foldl; on_goal 2 => (intro x y hx; try dsimp -zeta only))
    | split
    | dsimp -zeta only)

theorem execNrstAssert_keeps {s0 : State} (s : State) (h : Keeps s0 s) : KeepsR s0 (execNrstAssert s) := by
  unfold execNrstAssert
  repeat' (first
    | with_reducible assumption
    | (simp -zeta only [Keeps.mk_iff]; with_reducible refine KeepsParts.of ?_ rfl rfl (Nat.le_refl _) rfl rfl)
    | ((fail_if_success (conv => arg 2; congr)); extract_lets +onlyGivenNames x; first | (have hx : Keeps s0 x := ?_; (on_goal 2 => dsimp -zeta only [x]); (on_goal 1 => clear_value x)) | (have hx : Keeps s0 x.1 := ?_; (on_goal 2 => dsimp -zeta only [x]); (on_goal 1 => clear_value x)) | clear_value x)
    | with_reducible refine Keeps.ite (fun _ => ?_) (fun _ => ?_)
    | with_reducible refine KeepsR.ite (fun _ => ?_) (fun _ => ?_)
    | with_reducible apply KeepsR.next
    | with_reducible apply State.deviceReset_keeps
    | split
    | dsimp -zeta only)

theorem execNrstRelease_keeps {s0 : State} (s : State) (h : Keeps s0 s) : KeepsR s0 (execNrstRelease s) := by
  unfold execNrstRelease
  repeat' (first
    | with_reducible assumption
    | (simp -zeta only [Keeps.mk_iff]; with_reducible refine KeepsParts.of ?_ rfl rfl (Nat.le_refl _) rfl rfl)
    | ((fail_if_success (conv => arg 2; congr)); extract_lets +onlyGivenNames x; first | (have hx : Keeps s0 x := ?_; (on_goal 2 => dsimp -zeta only [x]); (on_goal 1 => clear_value x)) | (have hx : Keeps s0 x.1 := ?_; (on_goal 2 => dsimp -zeta only [x]); (on_goal 1 => clear_value x)) | clear_value x)
    | with_reducible refine Keeps.ite (fun _ => ?_) (fun _ => ?_)
    | with_reducible refine KeepsR.ite (fun _ => ?_) (fun _ => ?_)
    | with_reducible apply KeepsR.next
    | split
    | dsimp -zeta only)

theorem execPowerOn_keeps {s0 : State} (lhcfg : Nat) (s : State) (h : Keeps s0 s) : KeepsR s0 (execPowerOn lhcfg s) := by
  unfold execPowerOn
  repeat' (first
    | with_reducible assumption
    | (simp -zeta only [Keeps.mk_iff]; with_reducible refine KeepsParts.of ?_ rfl rfl (Nat.le_refl _) rfl rfl)
    | ((fail_if_success (conv => arg 2; congr)); extract_lets +onlyGivenNames x; first | (have hx : Keeps s0 x := ?_; (on_goal 2 => dsimp -zeta only [x]); (on_goal 1 => clear_value x)) | (have hx : Keeps s0 x.1 := ?_; (on_goal 2 => dsimp -zeta only [x]); (on_goal 1 => clear_value x)) | clear_value x)
    | with_reducible refine Keeps.ite (fun _ => ?_) (fun _ => ?_)
    | with_reducible refine KeepsR.ite (fun _ => ?_) (fun _ => ?_)
    | with_reducible apply KeepsR.next
    | with_reducible apply State.setWord_keeps
    | with_reducible apply State.put_keeps
    | with_reducible apply State.snBegin_keeps
    | (with_reducible apply Keeps.foldl; on_goal 2 => (intro x y hx; try dsimp -zeta only))
    | split
    | dsimp -zeta only)

theorem execThermalRestart_keeps {s0 : State} (s : State) (h : Keeps s0 s) : KeepsR s0 (execThermalRestart s) := by
  unfold execThermalRestart
  repeat' (first
    | with_reducible assumption
    | (simp -zeta only [Keeps.mk_iff]; with_reducible refine KeepsParts.of ?_ rfl rfl (Nat.le_refl _) rfl rfl)
    | ((fail_if_success (conv => arg 2; congr)); extract_lets +onlyGivenNames x; first | (have hx : Keeps s0 x := ?_; (on_goal 2 => dsimp -zeta only [x]); (on_goal 1 => clear_value x)) | (have hx : Keeps s0 x.1 := ?_; (on_goal 2 => dsimp -zeta only [x]); (on_goal 1 => clear_value x)) | clear_value x)
    | with_reducible refine Keeps.ite (fun _ => ?_) (fun _ => ?_)
    | with_reducible refine KeepsR.ite (fun _ => ?_) (fun _ => ?_)
    | with_reducible apply KeepsR.next
    | split
    | dsimp -zeta only)

theorem State.restoreTick_keeps {s0 : State} (s : State) (h : Keeps s0 s) : Keeps s0 (State.restoreTick s) := by
  unfold State.restoreTick
  repeat' (first
    | with_reducible assumption
    | (simp -zeta only [Keeps.mk_iff]; with_reducible refine KeepsParts.of ?_ rfl rfl (Nat.le_refl _) rfl rfl)
    | ((fail_if_success (conv => arg 2; congr)); extract_lets +onlyGivenNames x; first | (have hx : Keeps s0 x := ?_; (on_goal 2 => dsimp -zeta only [x]); (on_goal 1 => clear_value x)) | (have hx : Keeps s0 x.1 := ?_; (on_goal 2 => dsimp -zeta only [x]); (on_goal 1 => clear_value x)) | clear_value x)
    | with_reducible refine Keeps.ite (fun _ => ?_) (fun _ => ?_)
    | split
    | dsimp -zeta only)

theorem execResetRelease_keeps {s0 : State} (lead : Bool) (s : State) (h : Keeps s0 s) : KeepsR s0 (execResetRelease lead s) := by
  unfold execResetRelease
  refine KeepsR.ite (fun _ => KeepsR.next h) (fun _ => ?_)
  extract_lets t0 sup ring x y s1 s2 st
  have ht : Keeps s0 t0 := State.advanceTo_keeps h _
  clear_value t0
  have h1 : Keeps s0 s1 := by
    refine ht.trans ⟨fun c => (State.canon_iff _).2 ⟨kwf_filter _ _ _ ((State.canon_iff _).1 c).1, ?_⟩, Nat.le_refl _, rfl, rfl⟩
    dsimp only [s1]
    split
    · exact ((State.canon_iff _).1 c).2
    · exact kwf_filter _ _ _ ((State.canon_iff _).1 c).2
  clear_value s1
  have h2 : Keeps s0 s2 := State.restoreTick_keeps _ h1
  exact KeepsR.next (State.refreshChannels_keeps _ (State.put_keeps h2 _ _))

theorem State.bootStep5_keeps {s0 : State} (s : State) (h : Keeps s0 s) : Keeps s0 (State.bootStep5 s) := by
  unfold State.bootStep5
  repeat' (first
    | with_reducible assumption
    | (simp -zeta only [Keeps.mk_iff]; with_reducible refine KeepsParts.of ?_ rfl rfl (Nat.le_refl _) rfl rfl)
    | ((fail_if_success (conv => arg 2; congr)); extract_lets +onlyGivenNames x; first | (have hx : Keeps s0 x := ?_; (on_goal 2 => dsimp -zeta only [x]); (on_goal 1 => clear_value x)) | (have hx : Keeps s0 x.1 := ?_; (on_goal 2 => dsimp -zeta only [x]); (on_goal 1 => clear_value x)) | clear_value x)
    | with_reducible refine Keeps.ite (fun _ => ?_) (fun _ => ?_)
    | with_reducible apply State.put_keeps
    | with_reducible apply State.putB_keeps
    | with_reducible apply State.putSat_keeps
    | with_reducible apply State.record_keeps
    | with_reducible apply State.note_keeps
    | with_reducible apply State.raise_keeps
    | with_reducible apply State.raiseIf_keeps
    | with_reducible apply State.bbxRebuild_keeps
    | with_reducible apply State.estBoot_keeps
    | (with_reducible apply Keeps.foldl; on_goal 2 => (intro x y hx; try dsimp -zeta only))
    | split
    | dsimp -zeta only)

theorem execBootRecords_keeps {s0 : State} (s : State) (h : Keeps s0 s) : KeepsR s0 (execBootRecords s) := by
  unfold execBootRecords
  repeat' (first
    | with_reducible assumption
    | (simp -zeta only [Keeps.mk_iff]; with_reducible refine KeepsParts.of ?_ rfl rfl (Nat.le_refl _) rfl rfl)
    | ((fail_if_success (conv => arg 2; congr)); extract_lets +onlyGivenNames x; first | (have hx : Keeps s0 x := ?_; (on_goal 2 => dsimp -zeta only [x]); (on_goal 1 => clear_value x)) | (have hx : Keeps s0 x.1 := ?_; (on_goal 2 => dsimp -zeta only [x]); (on_goal 1 => clear_value x)) | clear_value x)
    | with_reducible refine Keeps.ite (fun _ => ?_) (fun _ => ?_)
    | with_reducible refine KeepsR.ite (fun _ => ?_) (fun _ => ?_)
    | with_reducible apply KeepsR.next
    | with_reducible apply State.bootStep5_keeps
    | split
    | dsimp -zeta only)

theorem execBootHoldupTimeout_keeps {s0 : State} (s : State) (h : Keeps s0 s) : KeepsR s0 (execBootHoldupTimeout s) := by
  unfold execBootHoldupTimeout
  repeat' (first
    | with_reducible assumption
    | (simp -zeta only [Keeps.mk_iff]; with_reducible refine KeepsParts.of ?_ rfl rfl (Nat.le_refl _) rfl rfl)
    | ((fail_if_success (conv => arg 2; congr)); extract_lets +onlyGivenNames x; first | (have hx : Keeps s0 x := ?_; (on_goal 2 => dsimp -zeta only [x]); (on_goal 1 => clear_value x)) | (have hx : Keeps s0 x.1 := ?_; (on_goal 2 => dsimp -zeta only [x]); (on_goal 1 => clear_value x)) | clear_value x)
    | with_reducible refine Keeps.ite (fun _ => ?_) (fun _ => ?_)
    | with_reducible refine KeepsR.ite (fun _ => ?_) (fun _ => ?_)
    | with_reducible apply KeepsR.next
    | with_reducible apply State.putB_keeps
    | with_reducible apply State.advanceTo_keeps
    | with_reducible apply State.bootStep5_keeps
    | split
    | dsimp -zeta only)

theorem State.startCores_keeps {s0 : State} (s : State) (b : Bool) (h : Keeps s0 s) : Keeps s0 (State.startCores s b) := by
  unfold State.startCores
  extract_lets u
  have hu : Keeps s0 u := State.startEntry_keeps _ _ (h.upd (t := { s with cpa := {}, cpb := {} }) rfl rfl (Nat.le_refl _) rfl rfl)
  exact Keeps.ite (fun _ => State.setCore_keeps _ _ _ hu) (fun _ => State.startEntry_keeps _ _ hu)

theorem State.verifyPair_keeps {s0 : State} (s : State) (p : Pair) (bank : Nat) (h : Keeps s0 s) : Keeps s0 (State.verifyPair s p bank).1 := by
  unfold State.verifyPair
  have h1 : Keeps s0 (s.regionResult (2 * bank + p.idx) (s.regionOk (2 * bank + p.idx))) := State.regionResult_keeps _ _ _ h
  dsimp only
  split
  · exact h1
  · exact State.regionResult_keeps _ _ _ h1

theorem State.bootPairs_keeps {s0 : State} (s : State) (rec_ : Nat × Nat) (ba : Nat) (h : Keeps s0 s) :
    Keeps s0 (s.bootPairs rec_ ba) := by
  unfold State.bootPairs
  have hx := State.verifyPair_keeps s .b rec_.2 h
  generalize s.verifyPair .b rec_.2 = r at hx ⊢
  extract_lets +onlyGivenNames x bb s4 s6
  have h4 : Keeps s0 s4 := State.put_keeps (State.putB_keeps (State.putB_keeps hx _ _) _ _) _ _
  have h6 : Keeps s0 s6 := State.putBank_keeps _ _ _ (State.putBank_keeps _ _ _ (State.put_keeps h4 _ _))
  clear_value s6
  extract_lets +onlyGivenNames x s7 s9 flt w v s10 s11
  have h7 : Keeps s0 s7 := by
    refine Keeps.ite (fun _ => ?_) (fun _ => h6)
    exact h6.upd rfl rfl (Nat.le_refl _) rfl rfl
  clear_value s7
  have h9 : Keeps s0 s9 := State.startCores_keeps _ _ h7
  clear_value s9
  have h10 : Keeps s0 s10 := h9.upd rfl rfl (Nat.le_refl _) rfl rfl
  have h11 : Keeps s0 s11 := State.put_keeps (State.put_keeps h10 _ _) _ _
  with_reducible apply State.showDigest_keeps
  with_reducible apply State.raiseIf_keeps
  exact h11

theorem execBootVerifyDone_keeps {s0 : State} (s : State) (h : Keeps s0 s) : KeepsR s0 (execBootVerifyDone s) := by
  unfold execBootVerifyDone
  refine KeepsR.ite (fun _ => KeepsR.next h) (fun _ => ?_)
  extract_lets +onlyGivenNames rec_ r s1
  have hv : Keeps s0 r.1 := State.verifyPair_keeps s .a rec_.1 h
  have h2 : Keeps s0 s1 := State.putB_keeps hv _ _
  clear_value s1
  cases r.2 with
  | none => exact KeepsR.next (h2.upd rfl rfl (Nat.le_refl _) rfl rfl)
  | some ba => exact KeepsR.next (State.bootPairs_keeps s1 rec_ ba h2)

theorem State.wdExpire_keeps {s0 : State} (s : State) (p : Pair) (why : Nat) (h : Keeps s0 s) : Keeps s0 (State.wdExpire s p why) := by
  unfold State.wdExpire
  repeat' (first
    | with_reducible assumption
    | (simp -zeta only [Keeps.mk_iff]; with_reducible refine KeepsParts.of ?_ rfl rfl (Nat.le_refl _) rfl rfl)
    | ((fail_if_success (conv => arg 2; congr)); extract_lets +onlyGivenNames x; first | (have hx : Keeps s0 x := ?_; (on_goal 2 => dsimp -zeta only [x]); (on_goal 1 => clear_value x)) | (have hx : Keeps s0 x.1 := ?_; (on_goal 2 => dsimp -zeta only [x]); (on_goal 1 => clear_value x)) | clear_value x)
    | with_reducible refine Keeps.ite (fun _ => ?_) (fun _ => ?_)
    | with_reducible apply State.putB_keeps
    | with_reducible apply State.raise_keeps
    | with_reducible apply State.clearPattern_keeps
    | with_reducible apply State.abortTest_keeps
    | with_reducible apply State.setCore_keeps
    | with_reducible apply State.dropTasks_keeps
    | (with_reducible apply Keeps.foldl; on_goal 2 => (intro x y hx; try dsimp -zeta only))
    | split
    | dsimp -zeta only)

theorem State.wdBoundary_keeps {s0 : State} (s : State) (h : Keeps s0 s) : Keeps s0 (State.wdBoundary s) := by
  unfold State.wdBoundary
  repeat' (first
    | with_reducible assumption
    | (simp -zeta only [Keeps.mk_iff]; with_reducible refine KeepsParts.of ?_ rfl rfl (Nat.le_refl _) rfl rfl)
    | ((fail_if_success (conv => arg 2; congr)); extract_lets +onlyGivenNames x; first | (have hx : Keeps s0 x := ?_; (on_goal 2 => dsimp -zeta only [x]); (on_goal 1 => clear_value x)) | (have hx : Keeps s0 x.1 := ?_; (on_goal 2 => dsimp -zeta only [x]); (on_goal 1 => clear_value x)) | clear_value x)
    | with_reducible refine Keeps.ite (fun _ => ?_) (fun _ => ?_)
    | with_reducible apply State.put_keeps
    | with_reducible apply State.incSat_keeps
    | (with_reducible apply Keeps.foldl; on_goal 2 => (intro x y hx; try dsimp -zeta only))
    | split
    | dsimp -zeta only)

theorem State.setWdKey_keeps {s0 : State} (s : State) (p : Pair) (b : Bool) (h : Keeps s0 s) : Keeps s0 (State.setWdKey s p b) := by
  unfold State.setWdKey
  repeat' (first
    | with_reducible assumption
    | (simp -zeta only [Keeps.mk_iff]; with_reducible refine KeepsParts.of ?_ rfl rfl (Nat.le_refl _) rfl rfl)
    | ((fail_if_success (conv => arg 2; congr)); extract_lets +onlyGivenNames x; first | (have hx : Keeps s0 x := ?_; (on_goal 2 => dsimp -zeta only [x]); (on_goal 1 => clear_value x)) | (have hx : Keeps s0 x.1 := ?_; (on_goal 2 => dsimp -zeta only [x]); (on_goal 1 => clear_value x)) | clear_value x)
    | with_reducible refine Keeps.ite (fun _ => ?_) (fun _ => ?_)
    | split
    | dsimp -zeta only)

theorem execWatchdogService_keeps {s0 : State} (ini : Ini) (pair : Pair) (key : Word) (s : State) (h : Keeps s0 s) : KeepsR s0 (execWatchdogService ini pair key s) := by
  unfold execWatchdogService
  repeat' (first
    | with_reducible assumption
    | (simp -zeta only [Keeps.mk_iff]; with_reducible refine KeepsParts.of ?_ rfl rfl (Nat.le_refl _) rfl rfl)
    | ((fail_if_success (conv => arg 2; congr)); extract_lets +onlyGivenNames x; first | (have hx : Keeps s0 x := ?_; (on_goal 2 => dsimp -zeta only [x]); (on_goal 1 => clear_value x)) | (have hx : Keeps s0 x.1 := ?_; (on_goal 2 => dsimp -zeta only [x]); (on_goal 1 => clear_value x)) | clear_value x)
    | with_reducible refine Keeps.ite (fun _ => ?_) (fun _ => ?_)
    | with_reducible refine KeepsR.ite (fun _ => ?_) (fun _ => ?_)
    | with_reducible apply KeepsR.next
    | with_reducible apply State.put_keeps
    | with_reducible apply State.accessFault_keeps
    | with_reducible apply State.wdExpire_keeps
    | with_reducible apply State.setWdKey_keeps
    | split
    | dsimp -zeta only)

theorem execWatchdogExpiry_keeps {s0 : State} (pair : Pair) (s : State) (h : Keeps s0 s) : KeepsR s0 (execWatchdogExpiry pair s) := by
  unfold execWatchdogExpiry
  repeat' (first
    | with_reducible assumption
    | (simp -zeta only [Keeps.mk_iff]; with_reducible refine KeepsParts.of ?_ rfl rfl (Nat.le_refl _) rfl rfl)
    | ((fail_if_success (conv => arg 2; congr)); extract_lets +onlyGivenNames x; first | (have hx : Keeps s0 x := ?_; (on_goal 2 => dsimp -zeta only [x]); (on_goal 1 => clear_value x)) | (have hx : Keeps s0 x.1 := ?_; (on_goal 2 => dsimp -zeta only [x]); (on_goal 1 => clear_value x)) | clear_value x)
    | with_reducible refine Keeps.ite (fun _ => ?_) (fun _ => ?_)
    | with_reducible refine KeepsR.ite (fun _ => ?_) (fun _ => ?_)
    | with_reducible apply KeepsR.next
    | with_reducible apply State.wdExpire_keeps
    | split
    | dsimp -zeta only)

theorem execWatchdogHoldEnd_keeps {s0 : State} (s : State) (h : Keeps s0 s) : KeepsR s0 (execWatchdogHoldEnd s) := by
  unfold execWatchdogHoldEnd
  repeat' (first
    | with_reducible assumption
    | (simp -zeta only [Keeps.mk_iff]; with_reducible refine KeepsParts.of ?_ rfl rfl (Nat.le_refl _) rfl rfl)
    | ((fail_if_success (conv => arg 2; congr)); extract_lets +onlyGivenNames x; first | (have hx : Keeps s0 x := ?_; (on_goal 2 => dsimp -zeta only [x]); (on_goal 1 => clear_value x)) | (have hx : Keeps s0 x.1 := ?_; (on_goal 2 => dsimp -zeta only [x]); (on_goal 1 => clear_value x)) | clear_value x)
    | with_reducible refine Keeps.ite (fun _ => ?_) (fun _ => ?_)
    | with_reducible refine KeepsR.ite (fun _ => ?_) (fun _ => ?_)
    | with_reducible apply KeepsR.next
    | with_reducible apply State.put_keeps
    | with_reducible apply State.advanceTo_keeps
    | with_reducible apply State.allOff_keeps
    | with_reducible apply State.snBegin_keeps
    | with_reducible apply State.ctsHoldEnd_keeps
    | with_reducible apply State.deviceReset_keeps
    | split
    | dsimp -zeta only)

theorem execDieStage3HardStop_keeps {s0 : State} (s : State) (h : Keeps s0 s) : KeepsR s0 (execDieStage3HardStop s) := by
  unfold execDieStage3HardStop
  repeat' (first
    | with_reducible assumption
    | (simp -zeta only [Keeps.mk_iff]; with_reducible refine KeepsParts.of ?_ rfl rfl (Nat.le_refl _) rfl rfl)
    | ((fail_if_success (conv => arg 2; congr)); extract_lets +onlyGivenNames x; first | (have hx : Keeps s0 x := ?_; (on_goal 2 => dsimp -zeta only [x]); (on_goal 1 => clear_value x)) | (have hx : Keeps s0 x.1 := ?_; (on_goal 2 => dsimp -zeta only [x]); (on_goal 1 => clear_value x)) | clear_value x)
    | with_reducible refine Keeps.ite (fun _ => ?_) (fun _ => ?_)
    | with_reducible refine KeepsR.ite (fun _ => ?_) (fun _ => ?_)
    | with_reducible apply KeepsR.next
    | with_reducible apply State.advanceTo_keeps
    | with_reducible apply State.deviceReset_keeps
    | split
    | dsimp -zeta only)

theorem Result.state_keeps {s0 : State} (r : Result) (s : State) (h : Keeps s0 s) (hr : KeepsR s0 r) :
    Keeps s0 (Result.state r s) := by
  unfold Result.state
  split
  · exact hr _ rfl
  · exact h

theorem State.when_keeps {s0 : State} (s : State) (c : Bool) (act : State → Result) (h : Keeps s0 s)
    (hact : ∀ x, Keeps s0 x → KeepsR s0 (act x)) : Keeps s0 (State.when s c act) := by
  unfold State.when
  exact Keeps.ite (fun _ => Result.state_keeps _ _ h (hact s h)) (fun _ => h)

theorem State.evForce_keeps {s0 : State} (s : State) (ini : Ini) (page : Nat) (mask : Word) (h : Keeps s0 s) : Keeps s0 (State.evForce s ini page mask) := by
  unfold State.evForce
  repeat' (first
    | with_reducible assumption
    | (simp -zeta only [Keeps.mk_iff]; with_reducible refine KeepsParts.of ?_ rfl rfl (Nat.le_refl _) rfl rfl)
    | ((fail_if_success (conv => arg 2; congr)); extract_lets +onlyGivenNames x; first | (have hx : Keeps s0 x := ?_; (on_goal 2 => dsimp -zeta only [x]); (on_goal 1 => clear_value x)) | (have hx : Keeps s0 x.1 := ?_; (on_goal 2 => dsimp -zeta only [x]); (on_goal 1 => clear_value x)) | clear_value x)
    | with_reducible refine Keeps.ite (fun _ => ?_) (fun _ => ?_)
    | with_reducible apply State.raiseIf_keeps
    | with_reducible apply State.accessFault_keeps
    | (with_reducible apply Keeps.foldl; on_goal 2 => (intro x y hx; try dsimp -zeta only))
    | split
    | dsimp -zeta only)

theorem execEventPendingClear_keeps {s0 : State} (ini : Ini) (page : Fin 32) (mask : Word) (s : State) (h : Keeps s0 s) : KeepsR s0 (execEventPendingClear ini page mask s) := by
  unfold execEventPendingClear
  repeat' (first
    | with_reducible assumption
    | (simp -zeta only [Keeps.mk_iff]; with_reducible refine KeepsParts.of ?_ rfl rfl (Nat.le_refl _) rfl rfl)
    | ((fail_if_success (conv => arg 2; congr)); extract_lets +onlyGivenNames x; first | (have hx : Keeps s0 x := ?_; (on_goal 2 => dsimp -zeta only [x]); (on_goal 1 => clear_value x)) | (have hx : Keeps s0 x.1 := ?_; (on_goal 2 => dsimp -zeta only [x]); (on_goal 1 => clear_value x)) | clear_value x)
    | with_reducible refine Keeps.ite (fun _ => ?_) (fun _ => ?_)
    | with_reducible refine KeepsR.ite (fun _ => ?_) (fun _ => ?_)
    | with_reducible apply KeepsR.next
    | with_reducible apply State.clearEvents_keeps
    | (with_reducible apply State.onPage_keeps; on_goal 2 => (intro x hx; try dsimp -zeta only))
    | split
    | dsimp -zeta only)

theorem execEventForce_keeps {s0 : State} (ini : Ini) (page : Fin 32) (mask : Word) (s : State) (h : Keeps s0 s) : KeepsR s0 (execEventForce ini page mask s) := by
  unfold execEventForce
  repeat' (first
    | with_reducible assumption
    | (simp -zeta only [Keeps.mk_iff]; with_reducible refine KeepsParts.of ?_ rfl rfl (Nat.le_refl _) rfl rfl)
    | ((fail_if_success (conv => arg 2; congr)); extract_lets +onlyGivenNames x; first | (have hx : Keeps s0 x := ?_; (on_goal 2 => dsimp -zeta only [x]); (on_goal 1 => clear_value x)) | (have hx : Keeps s0 x.1 := ?_; (on_goal 2 => dsimp -zeta only [x]); (on_goal 1 => clear_value x)) | clear_value x)
    | with_reducible refine Keeps.ite (fun _ => ?_) (fun _ => ?_)
    | with_reducible refine KeepsR.ite (fun _ => ?_) (fun _ => ?_)
    | with_reducible apply KeepsR.next
    | (with_reducible apply State.onPage_keeps; on_goal 2 => (intro x hx; try dsimp -zeta only))
    | with_reducible apply State.evForce_keeps
    | split
    | dsimp -zeta only)

theorem State.pageLock_keeps {s0 : State} (s : State) (page : Nat) (h : Keeps s0 s) : Keeps s0 (State.pageLock s page) := by
  unfold State.pageLock
  repeat' (first
    | with_reducible assumption
    | (simp -zeta only [Keeps.mk_iff]; with_reducible refine KeepsParts.of ?_ rfl rfl (Nat.le_refl _) rfl rfl)
    | ((fail_if_success (conv => arg 2; congr)); extract_lets +onlyGivenNames x; first | (have hx : Keeps s0 x := ?_; (on_goal 2 => dsimp -zeta only [x]); (on_goal 1 => clear_value x)) | (have hx : Keeps s0 x.1 := ?_; (on_goal 2 => dsimp -zeta only [x]); (on_goal 1 => clear_value x)) | clear_value x)
    | with_reducible refine Keeps.ite (fun _ => ?_) (fun _ => ?_)
    | with_reducible apply State.putB_keeps
    | with_reducible apply State.lhmLock_keeps
    | split
    | dsimp -zeta only)

theorem execPageLock_keeps {s0 : State} (ini : Ini) (page : Fin 32) (s : State) (h : Keeps s0 s) : KeepsR s0 (execPageLock ini page s) := by
  unfold execPageLock
  repeat' (first
    | with_reducible assumption
    | (simp -zeta only [Keeps.mk_iff]; with_reducible refine KeepsParts.of ?_ rfl rfl (Nat.le_refl _) rfl rfl)
    | ((fail_if_success (conv => arg 2; congr)); extract_lets +onlyGivenNames x; first | (have hx : Keeps s0 x := ?_; (on_goal 2 => dsimp -zeta only [x]); (on_goal 1 => clear_value x)) | (have hx : Keeps s0 x.1 := ?_; (on_goal 2 => dsimp -zeta only [x]); (on_goal 1 => clear_value x)) | clear_value x)
    | with_reducible refine Keeps.ite (fun _ => ?_) (fun _ => ?_)
    | with_reducible refine KeepsR.ite (fun _ => ?_) (fun _ => ?_)
    | with_reducible apply KeepsR.next
    | (with_reducible apply State.onPage_keeps; on_goal 2 => (intro x hx; try dsimp -zeta only))
    | with_reducible apply State.pageLock_keeps
    | split
    | dsimp -zeta only)

theorem State.plainWrite_keeps {s0 : State} (s : State) (ini : Ini) (a : Nat) (v : Word) (h : Keeps s0 s) : Keeps s0 (State.plainWrite s ini a v) := by
  unfold State.plainWrite
  repeat' (first
    | with_reducible assumption
    | (simp -zeta only [Keeps.mk_iff]; with_reducible refine KeepsParts.of ?_ rfl rfl (Nat.le_refl _) rfl rfl)
    | ((fail_if_success (conv => arg 2; congr)); extract_lets +onlyGivenNames x; first | (have hx : Keeps s0 x := ?_; (on_goal 2 => dsimp -zeta only [x]); (on_goal 1 => clear_value x)) | (have hx : Keeps s0 x.1 := ?_; (on_goal 2 => dsimp -zeta only [x]); (on_goal 1 => clear_value x)) | clear_value x)
    | with_reducible refine Keeps.ite (fun _ => ?_) (fun _ => ?_)
    | with_reducible apply State.setWord_keeps
    | with_reducible apply State.accessFault_keeps
    | with_reducible apply State.configLocked_keeps
    | split
    | dsimp -zeta only)

theorem State.profileRequest_keeps {s0 : State} (s : State) (req : Nat) (h : Keeps s0 s) : Keeps s0 (State.profileRequest s req) := by
  unfold State.profileRequest
  repeat' (first
    | with_reducible assumption
    | (simp -zeta only [Keeps.mk_iff]; with_reducible refine KeepsParts.of ?_ rfl rfl (Nat.le_refl _) rfl rfl)
    | ((fail_if_success (conv => arg 2; congr)); extract_lets +onlyGivenNames x; first | (have hx : Keeps s0 x := ?_; (on_goal 2 => dsimp -zeta only [x]); (on_goal 1 => clear_value x)) | (have hx : Keeps s0 x.1 := ?_; (on_goal 2 => dsimp -zeta only [x]); (on_goal 1 => clear_value x)) | clear_value x)
    | with_reducible refine Keeps.ite (fun _ => ?_) (fun _ => ?_)
    | with_reducible apply State.put_keeps
    | split
    | dsimp -zeta only)

theorem execProfileRequestWrite_keeps {s0 : State} (_ini : Ini) (req : Nat) (s : State) (h : Keeps s0 s) : KeepsR s0 (execProfileRequestWrite _ini req s) := by
  unfold execProfileRequestWrite
  repeat' (first
    | with_reducible assumption
    | (simp -zeta only [Keeps.mk_iff]; with_reducible refine KeepsParts.of ?_ rfl rfl (Nat.le_refl _) rfl rfl)
    | ((fail_if_success (conv => arg 2; congr)); extract_lets +onlyGivenNames x; first | (have hx : Keeps s0 x := ?_; (on_goal 2 => dsimp -zeta only [x]); (on_goal 1 => clear_value x)) | (have hx : Keeps s0 x.1 := ?_; (on_goal 2 => dsimp -zeta only [x]); (on_goal 1 => clear_value x)) | clear_value x)
    | with_reducible refine Keeps.ite (fun _ => ?_) (fun _ => ?_)
    | with_reducible refine KeepsR.ite (fun _ => ?_) (fun _ => ?_)
    | with_reducible apply KeepsR.next
    | with_reducible apply State.profileRequest_keeps
    | split
    | dsimp -zeta only)

theorem State.ctsCtrl_keeps {s0 : State} (s : State) (ini : Ini) (v : Word) (h : Keeps s0 s) : Keeps s0 (State.ctsCtrl s ini v) := by
  unfold State.ctsCtrl
  repeat' (first
    | with_reducible assumption
    | (simp -zeta only [Keeps.mk_iff]; with_reducible refine KeepsParts.of ?_ rfl rfl (Nat.le_refl _) rfl rfl)
    | ((fail_if_success (conv => arg 2; congr)); extract_lets +onlyGivenNames x; first | (have hx : Keeps s0 x := ?_; (on_goal 2 => dsimp -zeta only [x]); (on_goal 1 => clear_value x)) | (have hx : Keeps s0 x.1 := ?_; (on_goal 2 => dsimp -zeta only [x]); (on_goal 1 => clear_value x)) | clear_value x)
    | with_reducible refine Keeps.ite (fun _ => ?_) (fun _ => ?_)
    | with_reducible apply State.raise_keeps
    | with_reducible apply execDriveClose_keeps
    | with_reducible apply execDriveOpen_keeps
    | with_reducible apply execChargeClose_keeps
    | with_reducible apply execChargeOpen_keeps
    | with_reducible apply execAuxOn_keeps
    | with_reducible apply execAuxOff_keeps
    | with_reducible apply execFaultClear_keeps
    | with_reducible apply Result.state_keeps
    | (with_reducible apply State.when_keeps; on_goal 2 => (intro x hx; try dsimp -zeta only))
    | split
    | dsimp -zeta only)

theorem State.debugCtl_keeps {s0 : State} (s : State) (ini : Ini) (p : Pair) (v : Word) (h : Keeps s0 s) : Keeps s0 (State.debugCtl s ini p v) := by
  unfold State.debugCtl
  repeat' (first
    | with_reducible assumption
    | (simp -zeta only [Keeps.mk_iff]; with_reducible refine KeepsParts.of ?_ rfl rfl (Nat.le_refl _) rfl rfl)
    | ((fail_if_success (conv => arg 2; congr)); extract_lets +onlyGivenNames x; first | (have hx : Keeps s0 x := ?_; (on_goal 2 => dsimp -zeta only [x]); (on_goal 1 => clear_value x)) | (have hx : Keeps s0 x.1 := ?_; (on_goal 2 => dsimp -zeta only [x]); (on_goal 1 => clear_value x)) | clear_value x)
    | with_reducible refine Keeps.ite (fun _ => ?_) (fun _ => ?_)
    | with_reducible apply execDebugHalt_keeps
    | with_reducible apply execDebugResume_keeps
    | with_reducible apply execDebugStep_keeps
    | (with_reducible apply State.when_keeps; on_goal 2 => (intro x hx; try dsimp -zeta only))
    | split
    | dsimp -zeta only)

theorem State.blockWrite_keeps {s0 : State} (s : State) (ini : Ini) (a : Nat) (v : Word) (h : Keeps s0 s) : Keeps s0 (State.blockWrite s ini a v) := by
  unfold State.blockWrite
  repeat' (first
    | with_reducible assumption
    | (simp -zeta only [Keeps.mk_iff]; with_reducible refine KeepsParts.of ?_ rfl rfl (Nat.le_refl _) rfl rfl)
    | ((fail_if_success (conv => arg 2; congr)); extract_lets +onlyGivenNames x; first | (have hx : Keeps s0 x := ?_; (on_goal 2 => dsimp -zeta only [x]); (on_goal 1 => clear_value x)) | (have hx : Keeps s0 x.1 := ?_; (on_goal 2 => dsimp -zeta only [x]); (on_goal 1 => clear_value x)) | clear_value x)
    | with_reducible refine Keeps.ite (fun _ => ?_) (fun _ => ?_)
    | with_reducible apply State.setWord_keeps
    | with_reducible apply State.put_keeps
    | with_reducible apply State.accessFault_keeps
    | with_reducible apply execBbxSwPush_keeps
    | with_reducible apply execBbxFreezeCommand_keeps
    | with_reducible apply execBbxRelease_keeps
    | with_reducible apply execGapAttest_keeps
    | with_reducible apply execBalancingPatternWrite_keeps
    | with_reducible apply execBalancingStop_keeps
    | with_reducible apply execIsolationRequest_keeps
    | with_reducible apply execEisSweepRequest_keeps
    | with_reducible apply execEisAbort_keeps
    | with_reducible apply execEisTcal_keeps
    | with_reducible apply execEisResultSelect_keeps
    | with_reducible apply execSwTrip_keeps
    | with_reducible apply execReactionClear_keeps
    | with_reducible apply execCmdSet_keeps
    | with_reducible apply execCmdClear_keeps
    | with_reducible apply execHostRequestWrite_keeps
    | with_reducible apply execSafetyNetRelease_keeps
    | with_reducible apply execPumpStart_keeps
    | with_reducible apply execPumpStop_keeps
    | with_reducible apply execPumpSetpointWrite_keeps
    | with_reducible apply execPairRestartRequest_keeps
    | with_reducible apply execPairReady_keeps
    | with_reducible apply execImageLoad_keeps
    | with_reducible apply execTaskDone_keeps
    | with_reducible apply execKillAck_keeps
    | with_reducible apply execOpenWireRequest_keeps
    | with_reducible apply execRegionVerify_keeps
    | with_reducible apply execSvnminWrite_keeps
    | with_reducible apply execKeyRevoke_keeps
    | with_reducible apply execDbglockSet_keeps
    | with_reducible apply execOtpKeyWrite_keeps
    | with_reducible apply execEnumRequest_keeps
    | with_reducible apply execTableDataWrite_keeps
    | with_reducible apply execEstCellSelect_keeps
    | with_reducible apply execEstCaprst_keeps
    | with_reducible apply execEstReinit_keeps
    | with_reducible apply execEstJwrite_keeps
    | with_reducible apply execEstResync_keeps
    | with_reducible apply execNeighbourMapWrite_keeps
    | with_reducible apply execThmCellSelect_keeps
    | with_reducible apply State.objWordWrite_keeps
    | with_reducible apply State.canCtrlWrite_keeps
    | with_reducible apply State.canObjCmd_keeps
    | with_reducible apply State.fifoWordWrite_keeps
    | with_reducible apply execBackBufferWrite_keeps
    | with_reducible apply execBackBufferDone_keeps
    | with_reducible apply State.stgCmd_keeps
    | with_reducible apply execWatchdogService_keeps
    | with_reducible apply Result.state_keeps
    | (with_reducible apply State.when_keeps; on_goal 2 => (intro x hx; try dsimp -zeta only))
    | with_reducible apply State.plainWrite_keeps
    | with_reducible apply State.profileRequest_keeps
    | with_reducible apply State.ctsCtrl_keeps
    | with_reducible apply State.debugCtl_keeps
    | split
    | dsimp -zeta only)

theorem State.regWrite_keeps {s0 : State} (s : State) (ini : Ini) (a : Nat) (v : Word) (h : Keeps s0 s) : Keeps s0 (State.regWrite s ini a v) := by
  unfold State.regWrite
  repeat' (first
    | with_reducible assumption
    | (simp -zeta only [Keeps.mk_iff]; with_reducible refine KeepsParts.of ?_ rfl rfl (Nat.le_refl _) rfl rfl)
    | ((fail_if_success (conv => arg 2; congr)); extract_lets +onlyGivenNames x; first | (have hx : Keeps s0 x := ?_; (on_goal 2 => dsimp -zeta only [x]); (on_goal 1 => clear_value x)) | (have hx : Keeps s0 x.1 := ?_; (on_goal 2 => dsimp -zeta only [x]); (on_goal 1 => clear_value x)) | clear_value x)
    | with_reducible refine Keeps.ite (fun _ => ?_) (fun _ => ?_)
    | with_reducible apply State.setWord_keeps
    | with_reducible apply State.clearEvents_keeps
    | (with_reducible apply State.onPage_keeps; on_goal 2 => (intro x hx; try dsimp -zeta only))
    | with_reducible apply State.stagedWrite_keeps
    | with_reducible apply State.evForce_keeps
    | with_reducible apply State.pageLock_keeps
    | with_reducible apply State.blockWrite_keeps
    | split
    | dsimp -zeta only)

theorem execRegisterWrite_keeps {s0 : State} (ini : Ini) (addr : Nat) (val : Word) (s : State) (h : Keeps s0 s) : KeepsR s0 (execRegisterWrite ini addr val s) := by
  unfold execRegisterWrite
  repeat' (first
    | with_reducible assumption
    | (simp -zeta only [Keeps.mk_iff]; with_reducible refine KeepsParts.of ?_ rfl rfl (Nat.le_refl _) rfl rfl)
    | ((fail_if_success (conv => arg 2; congr)); extract_lets +onlyGivenNames x; first | (have hx : Keeps s0 x := ?_; (on_goal 2 => dsimp -zeta only [x]); (on_goal 1 => clear_value x)) | (have hx : Keeps s0 x.1 := ?_; (on_goal 2 => dsimp -zeta only [x]); (on_goal 1 => clear_value x)) | clear_value x)
    | with_reducible refine Keeps.ite (fun _ => ?_) (fun _ => ?_)
    | with_reducible refine KeepsR.ite (fun _ => ?_) (fun _ => ?_)
    | with_reducible apply KeepsR.next
    | with_reducible apply State.accessFault_keeps
    | with_reducible apply State.regWrite_keeps
    | split
    | dsimp -zeta only)

theorem execNarrowOrUnalignedAccess_keeps {s0 : State} (ini : Ini) (write : Bool) (addr : Nat) (s : State) (h : Keeps s0 s) : KeepsR s0 (execNarrowOrUnalignedAccess ini write addr s) := by
  unfold execNarrowOrUnalignedAccess
  repeat' (first
    | with_reducible assumption
    | (simp -zeta only [Keeps.mk_iff]; with_reducible refine KeepsParts.of ?_ rfl rfl (Nat.le_refl _) rfl rfl)
    | ((fail_if_success (conv => arg 2; congr)); extract_lets +onlyGivenNames x; first | (have hx : Keeps s0 x := ?_; (on_goal 2 => dsimp -zeta only [x]); (on_goal 1 => clear_value x)) | (have hx : Keeps s0 x.1 := ?_; (on_goal 2 => dsimp -zeta only [x]); (on_goal 1 => clear_value x)) | clear_value x)
    | with_reducible refine Keeps.ite (fun _ => ?_) (fun _ => ?_)
    | with_reducible refine KeepsR.ite (fun _ => ?_) (fun _ => ?_)
    | with_reducible apply KeepsR.next
    | with_reducible apply State.accessFault_keeps
    | split
    | dsimp -zeta only)

theorem State.busRead_keeps {s0 : State} (s : State) (ini : Ini) (a : Nat) (h : Keeps s0 s) : Keeps s0 (s.busRead ini a).1 := by
  unfold State.busRead
  repeat' split
  all_goals first
    | exact h
    | exact State.accessFault_keeps _ _ _ _ h
    | exact State.nextFree_keeps h
    | exact Result.state_keeps _ _ h (execTickRead_keeps ini s h)

theorem State.busWrite_keeps {s0 : State} (s : State) (ini : Ini) (a : Nat) (v : Word) (h : Keeps s0 s) : Keeps s0 (s.busWrite ini a v).1 := by
  unfold State.busWrite
  repeat' split
  all_goals first
    | exact h
    | exact State.accessFault_keeps _ _ _ _ h
    | exact State.regWrite_keeps _ _ _ _ h
    | exact Result.state_keeps _ _ h (execProgramRegionWrite_keeps _ _ _ _ h)
    | exact State.setMemWord_keeps h _ _

theorem State.remoteStart_keeps {s0 : State} (s : State) (code frame arg : Nat) (h : Keeps s0 s) : Keeps s0 (State.remoteStart s code frame arg) := by
  unfold State.remoteStart
  repeat' (first
    | with_reducible assumption
    | (simp -zeta only [Keeps.mk_iff]; with_reducible refine KeepsParts.of ?_ rfl rfl (Nat.le_refl _) rfl rfl)
    | ((fail_if_success (conv => arg 2; congr)); extract_lets +onlyGivenNames x; first | (have hx : Keeps s0 x := ?_; (on_goal 2 => dsimp -zeta only [x]); (on_goal 1 => clear_value x)) | (have hx : Keeps s0 x.1 := ?_; (on_goal 2 => dsimp -zeta only [x]); (on_goal 1 => clear_value x)) | clear_value x)
    | with_reducible refine Keeps.ite (fun _ => ?_) (fun _ => ?_)
    | with_reducible apply State.eisGap_keeps
    | with_reducible apply State.eisFollow_keeps
    | split
    | dsimp -zeta only)

theorem State.passAccess_keeps {s0 : State} (s : State) (dst : Nat) (op : AccessOp) (h : Keeps s0 s) : Keeps s0 (State.passAccess s dst op) := by
  unfold State.passAccess
  repeat' (first
    | with_reducible assumption
    | (simp -zeta only [Keeps.mk_iff]; with_reducible refine KeepsParts.of ?_ rfl rfl (Nat.le_refl _) rfl rfl)
    | ((fail_if_success (conv => arg 2; congr)); extract_lets +onlyGivenNames x; first | (have hx : Keeps s0 x := ?_; (on_goal 2 => dsimp -zeta only [x]); (on_goal 1 => clear_value x)) | (have hx : Keeps s0 x.1 := ?_; (on_goal 2 => dsimp -zeta only [x]); (on_goal 1 => clear_value x)) | clear_value x)
    | with_reducible refine Keeps.ite (fun _ => ?_) (fun _ => ?_)
    | with_reducible apply State.passAway_keeps
    | split
    | dsimp -zeta only)

theorem execAccessPacketReceived_keeps {s0 : State} (crcOk : Bool) (op : AccessOp) (s : State) (dst : Nat) (h : Keeps s0 s) : KeepsR s0 (execAccessPacketReceived crcOk op s dst) := by
  unfold execAccessPacketReceived
  repeat' (first
    | with_reducible assumption
    | (simp -zeta only [Keeps.mk_iff]; with_reducible refine KeepsParts.of ?_ rfl rfl (Nat.le_refl _) rfl rfl)
    | ((fail_if_success (conv => arg 2; congr)); extract_lets +onlyGivenNames x; first | (have hx : Keeps s0 x := ?_; (on_goal 2 => dsimp -zeta only [x]); (on_goal 1 => clear_value x)) | (have hx : Keeps s0 x.1 := ?_; (on_goal 2 => dsimp -zeta only [x]); (on_goal 1 => clear_value x)) | clear_value x)
    | with_reducible refine Keeps.ite (fun _ => ?_) (fun _ => ?_)
    | with_reducible refine KeepsR.ite (fun _ => ?_) (fun _ => ?_)
    | with_reducible apply KeepsR.next
    | with_reducible apply State.submit_keeps
    | with_reducible apply State.release_keeps
    | with_reducible apply State.abandon_keeps
    | with_reducible apply State.send_keeps
    | with_reducible apply State.isoOrphan_keeps
    | with_reducible apply State.settle_keeps
    | with_reducible apply State.eisGotPhasor_keeps
    | with_reducible apply State.eisOutcome_keeps
    | with_reducible apply State.linkCrc_keeps
    | with_reducible apply State.remoteStart_keeps
    | with_reducible apply State.passAccess_keeps
    | with_reducible apply State.busRead_keeps
    | with_reducible apply State.busWrite_keeps
    | split
    | dsimp -zeta only)

theorem State.tckTouch_keeps {s0 : State} (s : State) (h : Keeps s0 s) : Keeps s0 (State.tckTouch s) := by
  unfold State.tckTouch
  repeat' (first
    | with_reducible assumption
    | (simp -zeta only [Keeps.mk_iff]; with_reducible refine KeepsParts.of ?_ rfl rfl (Nat.le_refl _) rfl rfl)
    | ((fail_if_success (conv => arg 2; congr)); extract_lets +onlyGivenNames x; first | (have hx : Keeps s0 x := ?_; (on_goal 2 => dsimp -zeta only [x]); (on_goal 1 => clear_value x)) | (have hx : Keeps s0 x.1 := ?_; (on_goal 2 => dsimp -zeta only [x]); (on_goal 1 => clear_value x)) | clear_value x)
    | with_reducible refine Keeps.ite (fun _ => ?_) (fun _ => ?_)
    | with_reducible apply State.putB_keeps
    | with_reducible apply State.raise_keeps
    | split
    | dsimp -zeta only)

theorem execTckActivity_keeps {s0 : State} (s : State) (h : Keeps s0 s) : KeepsR s0 (execTckActivity s) := by
  unfold execTckActivity
  repeat' (first
    | with_reducible assumption
    | (simp -zeta only [Keeps.mk_iff]; with_reducible refine KeepsParts.of ?_ rfl rfl (Nat.le_refl _) rfl rfl)
    | ((fail_if_success (conv => arg 2; congr)); extract_lets +onlyGivenNames x; first | (have hx : Keeps s0 x := ?_; (on_goal 2 => dsimp -zeta only [x]); (on_goal 1 => clear_value x)) | (have hx : Keeps s0 x.1 := ?_; (on_goal 2 => dsimp -zeta only [x]); (on_goal 1 => clear_value x)) | clear_value x)
    | with_reducible refine Keeps.ite (fun _ => ?_) (fun _ => ?_)
    | with_reducible refine KeepsR.ite (fun _ => ?_) (fun _ => ?_)
    | with_reducible apply KeepsR.next
    | with_reducible apply State.tckTouch_keeps
    | split
    | dsimp -zeta only)

theorem execTckIdleTimeout_keeps {s0 : State} (s : State) (h : Keeps s0 s) : KeepsR s0 (execTckIdleTimeout s) := by
  unfold execTckIdleTimeout
  repeat' (first
    | with_reducible assumption
    | (simp -zeta only [Keeps.mk_iff]; with_reducible refine KeepsParts.of ?_ rfl rfl (Nat.le_refl _) rfl rfl)
    | ((fail_if_success (conv => arg 2; congr)); extract_lets +onlyGivenNames x; first | (have hx : Keeps s0 x := ?_; (on_goal 2 => dsimp -zeta only [x]); (on_goal 1 => clear_value x)) | (have hx : Keeps s0 x.1 := ?_; (on_goal 2 => dsimp -zeta only [x]); (on_goal 1 => clear_value x)) | clear_value x)
    | with_reducible refine Keeps.ite (fun _ => ?_) (fun _ => ?_)
    | with_reducible refine KeepsR.ite (fun _ => ?_) (fun _ => ?_)
    | with_reducible apply KeepsR.next
    | with_reducible apply State.putB_keeps
    | with_reducible apply State.advanceTo_keeps
    | split
    | dsimp -zeta only)

theorem State.jtagSelect_keeps {s0 : State} (s : State) (ir dr : Nat) (h : Keeps s0 s) : Keeps s0 (State.jtagSelect s ir dr) := by
  unfold State.jtagSelect
  repeat' (first
    | with_reducible assumption
    | (simp -zeta only [Keeps.mk_iff]; with_reducible refine KeepsParts.of ?_ rfl rfl (Nat.le_refl _) rfl rfl)
    | ((fail_if_success (conv => arg 2; congr)); extract_lets +onlyGivenNames x; first | (have hx : Keeps s0 x := ?_; (on_goal 2 => dsimp -zeta only [x]); (on_goal 1 => clear_value x)) | (have hx : Keeps s0 x.1 := ?_; (on_goal 2 => dsimp -zeta only [x]); (on_goal 1 => clear_value x)) | clear_value x)
    | with_reducible refine Keeps.ite (fun _ => ?_) (fun _ => ?_)
    | with_reducible apply State.tckTouch_keeps
    | split
    | dsimp -zeta only)

theorem execJtagIdcode_keeps {s0 : State} (s : State) (h : Keeps s0 s) : KeepsR s0 (execJtagIdcode s) := by
  unfold execJtagIdcode
  repeat' (first
    | with_reducible assumption
    | (simp -zeta only [Keeps.mk_iff]; with_reducible refine KeepsParts.of ?_ rfl rfl (Nat.le_refl _) rfl rfl)
    | ((fail_if_success (conv => arg 2; congr)); extract_lets +onlyGivenNames x; first | (have hx : Keeps s0 x := ?_; (on_goal 2 => dsimp -zeta only [x]); (on_goal 1 => clear_value x)) | (have hx : Keeps s0 x.1 := ?_; (on_goal 2 => dsimp -zeta only [x]); (on_goal 1 => clear_value x)) | clear_value x)
    | with_reducible refine Keeps.ite (fun _ => ?_) (fun _ => ?_)
    | with_reducible refine KeepsR.ite (fun _ => ?_) (fun _ => ?_)
    | with_reducible apply KeepsR.next
    | with_reducible apply State.jtagSelect_keeps
    | split
    | dsimp -zeta only)

theorem execJtagSamplePreload_keeps {s0 : State} (capture : List Bool) (preload : Option (List Bool)) (s : State) (h : Keeps s0 s) : KeepsR s0 (execJtagSamplePreload capture preload s) := by
  unfold execJtagSamplePreload
  repeat' (first
    | with_reducible assumption
    | (simp -zeta only [Keeps.mk_iff]; with_reducible refine KeepsParts.of ?_ rfl rfl (Nat.le_refl _) rfl rfl)
    | ((fail_if_success (conv => arg 2; congr)); extract_lets +onlyGivenNames x; first | (have hx : Keeps s0 x := ?_; (on_goal 2 => dsimp -zeta only [x]); (on_goal 1 => clear_value x)) | (have hx : Keeps s0 x.1 := ?_; (on_goal 2 => dsimp -zeta only [x]); (on_goal 1 => clear_value x)) | clear_value x)
    | with_reducible refine Keeps.ite (fun _ => ?_) (fun _ => ?_)
    | with_reducible refine KeepsR.ite (fun _ => ?_) (fun _ => ?_)
    | with_reducible apply KeepsR.next
    | with_reducible apply State.jtagSelect_keeps
    | split
    | dsimp -zeta only)

theorem execJtagExtest_keeps {s0 : State} (s : State) (h : Keeps s0 s) : KeepsR s0 (execJtagExtest s) := by
  unfold execJtagExtest
  repeat' (first
    | with_reducible assumption
    | (simp -zeta only [Keeps.mk_iff]; with_reducible refine KeepsParts.of ?_ rfl rfl (Nat.le_refl _) rfl rfl)
    | ((fail_if_success (conv => arg 2; congr)); extract_lets +onlyGivenNames x; first | (have hx : Keeps s0 x := ?_; (on_goal 2 => dsimp -zeta only [x]); (on_goal 1 => clear_value x)) | (have hx : Keeps s0 x.1 := ?_; (on_goal 2 => dsimp -zeta only [x]); (on_goal 1 => clear_value x)) | clear_value x)
    | with_reducible refine Keeps.ite (fun _ => ?_) (fun _ => ?_)
    | with_reducible refine KeepsR.ite (fun _ => ?_) (fun _ => ?_)
    | with_reducible apply KeepsR.next
    | with_reducible apply State.jtagSelect_keeps
    | split
    | dsimp -zeta only)

theorem execJtagDbgacc_keeps {s0 : State} (write : Bool) (addr : Nat) (data : Word) (s : State) (h : Keeps s0 s) : KeepsR s0 (execJtagDbgacc write addr data s) := by
  unfold execJtagDbgacc
  repeat' (first
    | with_reducible assumption
    | (simp -zeta only [Keeps.mk_iff]; with_reducible refine KeepsParts.of ?_ rfl rfl (Nat.le_refl _) rfl rfl)
    | ((fail_if_success (conv => arg 2; congr)); extract_lets +onlyGivenNames x; first | (have hx : Keeps s0 x := ?_; (on_goal 2 => dsimp -zeta only [x]); (on_goal 1 => clear_value x)) | (have hx : Keeps s0 x.1 := ?_; (on_goal 2 => dsimp -zeta only [x]); (on_goal 1 => clear_value x)) | clear_value x)
    | with_reducible refine Keeps.ite (fun _ => ?_) (fun _ => ?_)
    | with_reducible refine KeepsR.ite (fun _ => ?_) (fun _ => ?_)
    | with_reducible apply KeepsR.next
    | with_reducible apply State.incSat_keeps
    | with_reducible apply State.raise_keeps
    | with_reducible apply State.tckTouch_keeps
    | with_reducible apply State.jtagSelect_keeps
    | with_reducible apply State.busRead_keeps
    | with_reducible apply State.busWrite_keeps
    | split
    | dsimp -zeta only)

theorem execJtagBypass_keeps {s0 : State} (_code : BitVec 5) (s : State) (h : Keeps s0 s) : KeepsR s0 (execJtagBypass _code s) := by
  unfold execJtagBypass
  repeat' (first
    | with_reducible assumption
    | (simp -zeta only [Keeps.mk_iff]; with_reducible refine KeepsParts.of ?_ rfl rfl (Nat.le_refl _) rfl rfl)
    | ((fail_if_success (conv => arg 2; congr)); extract_lets +onlyGivenNames x; first | (have hx : Keeps s0 x := ?_; (on_goal 2 => dsimp -zeta only [x]); (on_goal 1 => clear_value x)) | (have hx : Keeps s0 x.1 := ?_; (on_goal 2 => dsimp -zeta only [x]); (on_goal 1 => clear_value x)) | clear_value x)
    | with_reducible refine Keeps.ite (fun _ => ?_) (fun _ => ?_)
    | with_reducible refine KeepsR.ite (fun _ => ?_) (fun _ => ?_)
    | with_reducible apply KeepsR.next
    | with_reducible apply State.jtagSelect_keeps
    | split
    | dsimp -zeta only)

theorem State.closeFrame_keeps {s0 : State} (s : State) (h : Keeps s0 s) : Keeps s0 (State.closeFrame s) := by
  unfold State.closeFrame
  repeat' (first
    | with_reducible assumption
    | (simp -zeta only [Keeps.mk_iff]; with_reducible refine KeepsParts.of ?_ rfl rfl (Nat.le_refl _) rfl rfl)
    | ((fail_if_success (conv => arg 2; congr)); extract_lets +onlyGivenNames x; first | (have hx : Keeps s0 x := ?_; (on_goal 2 => dsimp -zeta only [x]); (on_goal 1 => clear_value x)) | (have hx : Keeps s0 x.1 := ?_; (on_goal 2 => dsimp -zeta only [x]); (on_goal 1 => clear_value x)) | clear_value x)
    | with_reducible refine Keeps.ite (fun _ => ?_) (fun _ => ?_)
    | with_reducible apply State.publishOnTimes_keeps
    | with_reducible apply State.ipkFrame_keeps
    | with_reducible apply State.chassisFrame_keeps
    | with_reducible apply State.recordQueue_keeps
    | with_reducible apply State.estOwe_keeps
    | with_reducible apply State.thmOwe_keeps
    | split
    | dsimp -zeta only)

theorem State.grantWithdrawn_keeps {s0 : State} (s : State) (h : Keeps s0 s) : Keeps s0 (State.grantWithdrawn s) := by
  unfold State.grantWithdrawn
  repeat' (first
    | with_reducible assumption
    | (simp -zeta only [Keeps.mk_iff]; with_reducible refine KeepsParts.of ?_ rfl rfl (Nat.le_refl _) rfl rfl)
    | ((fail_if_success (conv => arg 2; congr)); extract_lets +onlyGivenNames x; first | (have hx : Keeps s0 x := ?_; (on_goal 2 => dsimp -zeta only [x]); (on_goal 1 => clear_value x)) | (have hx : Keeps s0 x.1 := ?_; (on_goal 2 => dsimp -zeta only [x]); (on_goal 1 => clear_value x)) | clear_value x)
    | with_reducible refine Keeps.ite (fun _ => ?_) (fun _ => ?_)
    | with_reducible apply State.raise_keeps
    | with_reducible apply State.withdraw_keeps
    | with_reducible apply State.driveOpen_keeps
    | with_reducible apply State.chargeOpen_keeps
    | split
    | dsimp -zeta only)

theorem State.enterSleep_keeps {s0 : State} (s : State) (h : Keeps s0 s) : Keeps s0 (State.enterSleep s) := by
  unfold State.enterSleep
  have h1 := State.allOff_keeps s h
  generalize s.allOff = t at h1 ⊢
  have h2 := State.setCore_keeps t .a { t.cpa with inReset := true, ckHalt := false, copying := false, killTrap := false } h1
  dsimp only
  generalize t.setCore .a { t.cpa with inReset := true, ckHalt := false, copying := false, killTrap := false } = u at h2 ⊢
  have h3 := State.setCore_keeps u .b { u.cpb with inReset := true, ckHalt := false, copying := false, killTrap := false } h2
  generalize u.setCore .b { u.cpb with inReset := true, ckHalt := false, copying := false, killTrap := false } = v at h3 ⊢
  have h4 : Keeps s0 { v with mem := v.mem.filter fun c => !(decide (0x10000000 ≤ c.1) && decide (c.1 < 0x10200000)) } :=
    h3.trans ⟨fun c => (State.canon_iff _).2 ⟨((State.canon_iff _).1 c).1, kwf_filter _ _ _ ((State.canon_iff _).1 c).2⟩,
      Nat.le_refl _, rfl, rfl⟩
  repeat' (first
    | with_reducible refine Keeps.ite (fun _ => ?_) (fun _ => ?_)
    | with_reducible apply State.putB_keeps
    | exact h4.upd rfl rfl (Nat.le_refl _) rfl rfl)

theorem State.journalBefore_keeps {s0 : State} (s : State) (h : Keeps s0 s) : Keeps s0 (State.journalBefore s) := by
  unfold State.journalBefore
  repeat' (first
    | with_reducible assumption
    | (simp -zeta only [Keeps.mk_iff]; with_reducible refine KeepsParts.of ?_ rfl rfl (Nat.le_refl _) rfl rfl)
    | ((fail_if_success (conv => arg 2; congr)); extract_lets +onlyGivenNames x; first | (have hx : Keeps s0 x := ?_; (on_goal 2 => dsimp -zeta only [x]); (on_goal 1 => clear_value x)) | (have hx : Keeps s0 x.1 := ?_; (on_goal 2 => dsimp -zeta only [x]); (on_goal 1 => clear_value x)) | clear_value x)
    | with_reducible refine Keeps.ite (fun _ => ?_) (fun _ => ?_)
    | with_reducible apply State.journalStart_keeps
    | with_reducible apply State.journalDone_keeps
    | split
    | dsimp -zeta only)

theorem State.changeProfile_keeps {s0 : State} (s : State) (was p : Nat) (h : Keeps s0 s) : Keeps s0 (State.changeProfile s was p) := by
  unfold State.changeProfile
  repeat' (first
    | with_reducible assumption
    | (simp -zeta only [Keeps.mk_iff]; with_reducible refine KeepsParts.of ?_ rfl rfl (Nat.le_refl _) rfl rfl)
    | ((fail_if_success (conv => arg 2; congr)); extract_lets +onlyGivenNames x; first | (have hx : Keeps s0 x := ?_; (on_goal 2 => dsimp -zeta only [x]); (on_goal 1 => clear_value x)) | (have hx : Keeps s0 x.1 := ?_; (on_goal 2 => dsimp -zeta only [x]); (on_goal 1 => clear_value x)) | clear_value x)
    | with_reducible refine Keeps.ite (fun _ => ?_) (fun _ => ?_)
    | with_reducible apply State.put_keeps
    | with_reducible apply State.matrixRun_keeps
    | with_reducible apply State.withdraw_keeps
    | with_reducible apply State.endIso_keeps
    | with_reducible apply State.eisAbort_keeps
    | with_reducible apply State.eisExc_keeps
    | with_reducible apply State.tktResume_keeps
    | with_reducible apply State.pmpStop_keeps
    | with_reducible apply State.estProfile_keeps
    | with_reducible apply State.canSleep_keeps
    | with_reducible apply State.canResume_keeps
    | with_reducible apply State.hostShow_keeps
    | with_reducible apply State.grantWithdrawn_keeps
    | with_reducible apply State.enterSleep_keeps
    | with_reducible apply State.journalBefore_keeps
    | (with_reducible apply Keeps.foldl; on_goal 2 => (intro x y hx; try dsimp -zeta only))
    | split
    | dsimp -zeta only)

theorem State.powerFrame_keeps {s0 : State} (s : State) (h : Keeps s0 s) : Keeps s0 (State.powerFrame s) := by
  unfold State.powerFrame
  repeat' (first
    | with_reducible assumption
    | (simp -zeta only [Keeps.mk_iff]; with_reducible refine KeepsParts.of ?_ rfl rfl (Nat.le_refl _) rfl rfl)
    | ((fail_if_success (conv => arg 2; congr)); extract_lets +onlyGivenNames x; first | (have hx : Keeps s0 x := ?_; (on_goal 2 => dsimp -zeta only [x]); (on_goal 1 => clear_value x)) | (have hx : Keeps s0 x.1 := ?_; (on_goal 2 => dsimp -zeta only [x]); (on_goal 1 => clear_value x)) | clear_value x)
    | with_reducible refine Keeps.ite (fun _ => ?_) (fun _ => ?_)
    | with_reducible apply State.put_keeps
    | with_reducible apply State.putB_keeps
    | with_reducible apply State.refreshSwitches_keeps
    | split
    | dsimp -zeta only)

theorem State.followMode_keeps {s0 : State} (s : State) (h : Keeps s0 s) : Keeps s0 (State.followMode s) := by
  unfold State.followMode
  repeat' (first
    | with_reducible assumption
    | (simp -zeta only [Keeps.mk_iff]; with_reducible refine KeepsParts.of ?_ rfl rfl (Nat.le_refl _) rfl rfl)
    | ((fail_if_success (conv => arg 2; congr)); extract_lets +onlyGivenNames x; first | (have hx : Keeps s0 x := ?_; (on_goal 2 => dsimp -zeta only [x]); (on_goal 1 => clear_value x)) | (have hx : Keeps s0 x.1 := ?_; (on_goal 2 => dsimp -zeta only [x]); (on_goal 1 => clear_value x)) | clear_value x)
    | with_reducible refine Keeps.ite (fun _ => ?_) (fun _ => ?_)
    | with_reducible apply State.put_keeps
    | split
    | dsimp -zeta only)

theorem State.profileStep_keeps {s0 : State} (s : State) (h : Keeps s0 s) : Keeps s0 (State.profileStep s) := by
  unfold State.profileStep
  repeat' (first
    | with_reducible assumption
    | (simp -zeta only [Keeps.mk_iff]; with_reducible refine KeepsParts.of ?_ rfl rfl (Nat.le_refl _) rfl rfl)
    | ((fail_if_success (conv => arg 2; congr)); extract_lets +onlyGivenNames x; first | (have hx : Keeps s0 x := ?_; (on_goal 2 => dsimp -zeta only [x]); (on_goal 1 => clear_value x)) | (have hx : Keeps s0 x.1 := ?_; (on_goal 2 => dsimp -zeta only [x]); (on_goal 1 => clear_value x)) | clear_value x)
    | with_reducible refine Keeps.ite (fun _ => ?_) (fun _ => ?_)
    | with_reducible apply State.put_keeps
    | with_reducible apply State.raise_keeps
    | with_reducible apply State.raiseIf_keeps
    | with_reducible apply State.changeProfile_keeps
    | with_reducible apply State.powerFrame_keeps
    | split
    | dsimp -zeta only)

theorem State.xmisCompare_keeps {s0 : State} (s : State) (h : Keeps s0 s) : Keeps s0 (State.xmisCompare s) := by
  unfold State.xmisCompare
  repeat' (first
    | with_reducible assumption
    | (simp -zeta only [Keeps.mk_iff]; with_reducible refine KeepsParts.of ?_ rfl rfl (Nat.le_refl _) rfl rfl)
    | ((fail_if_success (conv => arg 2; congr)); extract_lets +onlyGivenNames x; first | (have hx : Keeps s0 x := ?_; (on_goal 2 => dsimp -zeta only [x]); (on_goal 1 => clear_value x)) | (have hx : Keeps s0 x.1 := ?_; (on_goal 2 => dsimp -zeta only [x]); (on_goal 1 => clear_value x)) | clear_value x)
    | with_reducible refine Keeps.ite (fun _ => ?_) (fun _ => ?_)
    | with_reducible apply State.putB_keeps
    | with_reducible apply State.raise_keeps
    | (with_reducible apply Keeps.foldl; on_goal 2 => (intro x y hx; try dsimp -zeta only))
    | split
    | dsimp -zeta only)

theorem State.testAges_keeps {s0 : State} (s : State) (h : Keeps s0 s) : Keeps s0 (State.testAges s) := by
  unfold State.testAges
  repeat' (first
    | with_reducible assumption
    | (simp -zeta only [Keeps.mk_iff]; with_reducible refine KeepsParts.of ?_ rfl rfl (Nat.le_refl _) rfl rfl)
    | ((fail_if_success (conv => arg 2; congr)); extract_lets +onlyGivenNames x; first | (have hx : Keeps s0 x := ?_; (on_goal 2 => dsimp -zeta only [x]); (on_goal 1 => clear_value x)) | (have hx : Keeps s0 x.1 := ?_; (on_goal 2 => dsimp -zeta only [x]); (on_goal 1 => clear_value x)) | clear_value x)
    | with_reducible refine Keeps.ite (fun _ => ?_) (fun _ => ?_)
    | with_reducible apply State.incSat_keeps
    | split
    | dsimp -zeta only)

theorem State.sysClock_keeps {s0 : State} (s : State) (h : Keeps s0 s) : Keeps s0 (State.sysClock s) := by
  unfold State.sysClock
  repeat' (first
    | with_reducible assumption
    | (simp -zeta only [Keeps.mk_iff]; with_reducible refine KeepsParts.of ?_ rfl rfl (Nat.le_refl _) rfl rfl)
    | ((fail_if_success (conv => arg 2; congr)); extract_lets +onlyGivenNames x; first | (have hx : Keeps s0 x := ?_; (on_goal 2 => dsimp -zeta only [x]); (on_goal 1 => clear_value x)) | (have hx : Keeps s0 x.1 := ?_; (on_goal 2 => dsimp -zeta only [x]); (on_goal 1 => clear_value x)) | clear_value x)
    | with_reducible refine Keeps.ite (fun _ => ?_) (fun _ => ?_)
    | with_reducible apply State.putB_keeps
    | with_reducible apply State.raise_keeps
    | split
    | dsimp -zeta only)

theorem State.slotZero_keeps {s0 : State} (s pre : State) (h : Keeps s0 s) : Keeps s0 (State.slotZero s pre) := by
  unfold State.slotZero
  repeat' (first
    | with_reducible assumption
    | (simp -zeta only [Keeps.mk_iff]; with_reducible refine KeepsParts.of ?_ rfl rfl (Nat.le_refl _) rfl rfl)
    | ((fail_if_success (conv => arg 2; congr)); extract_lets +onlyGivenNames x; first | (have hx : Keeps s0 x := ?_; (on_goal 2 => dsimp -zeta only [x]); (on_goal 1 => clear_value x)) | (have hx : Keeps s0 x.1 := ?_; (on_goal 2 => dsimp -zeta only [x]); (on_goal 1 => clear_value x)) | clear_value x)
    | with_reducible refine Keeps.ite (fun _ => ?_) (fun _ => ?_)
    | with_reducible apply State.startCheckpoint_keeps
    | with_reducible apply State.noCheckpoint_keeps
    | with_reducible apply State.releaseSlot_keeps
    | with_reducible apply State.liveFlip_keeps
    | with_reducible apply State.mailboxTake_keeps
    | split
    | dsimp -zeta only)

theorem State.blocksFrame_keeps {s0 : State} (s : State) (die : List Int) (expected : Bool) (h : Keeps s0 s) : Keeps s0 (State.blocksFrame s die expected) := by
  unfold State.blocksFrame
  repeat' (first
    | with_reducible assumption
    | (simp -zeta only [Keeps.mk_iff]; with_reducible refine KeepsParts.of ?_ rfl rfl (Nat.le_refl _) rfl rfl)
    | ((fail_if_success (conv => arg 2; congr)); extract_lets +onlyGivenNames x; first | (have hx : Keeps s0 x := ?_; (on_goal 2 => dsimp -zeta only [x]); (on_goal 1 => clear_value x)) | (have hx : Keeps s0 x.1 := ?_; (on_goal 2 => dsimp -zeta only [x]); (on_goal 1 => clear_value x)) | clear_value x)
    | with_reducible refine Keeps.ite (fun _ => ?_) (fun _ => ?_)
    | with_reducible apply State.balBoundary_keeps
    | with_reducible apply State.settle_keeps
    | with_reducible apply State.isoBoundary_keeps
    | with_reducible apply State.eisBoundary_keeps
    | with_reducible apply State.refSave_keeps
    | with_reducible apply State.compareCopies_keeps
    | with_reducible apply State.protect_keeps
    | with_reducible apply State.cellStat_keeps
    | with_reducible apply State.cscBoundary_keeps
    | with_reducible apply State.suspectBoundary_keeps
    | with_reducible apply State.dieSample_keeps
    | with_reducible apply State.dieStages_keeps
    | with_reducible apply State.canReference_keeps
    | with_reducible apply State.wdBoundary_keeps
    | with_reducible apply State.xmisCompare_keeps
    | with_reducible apply State.testAges_keeps
    | with_reducible apply State.sysClock_keeps
    | split
    | dsimp -zeta only)

theorem execFrameBoundary_keeps {s0 : State} (die : List Int) (s : State) (h : Keeps s0 s) : KeepsR s0 (execFrameBoundary die s) := by
  unfold execFrameBoundary
  repeat' (first
    | with_reducible assumption
    | (simp -zeta only [Keeps.mk_iff]; with_reducible refine KeepsParts.of ?_ rfl rfl (Nat.le_refl _) rfl rfl)
    | ((fail_if_success (conv => arg 2; congr)); extract_lets +onlyGivenNames x; first | (have hx : Keeps s0 x := ?_; (on_goal 2 => dsimp -zeta only [x]); (on_goal 1 => clear_value x)) | (have hx : Keeps s0 x.1 := ?_; (on_goal 2 => dsimp -zeta only [x]); (on_goal 1 => clear_value x)) | clear_value x)
    | with_reducible refine Keeps.ite (fun _ => ?_) (fun _ => ?_)
    | with_reducible refine KeepsR.ite (fun _ => ?_) (fun _ => ?_)
    | with_reducible apply KeepsR.next
    | with_reducible apply State.advanceTo_keeps
    | with_reducible apply State.selectSched_keeps
    | with_reducible apply State.tickBoundary_keeps
    | with_reducible apply State.boundaryCommit_keeps
    | with_reducible apply State.pauseResume_keeps
    | with_reducible apply State.closeFrame_keeps
    | with_reducible apply State.followMode_keeps
    | with_reducible apply State.profileStep_keeps
    | with_reducible apply State.slotZero_keeps
    | with_reducible apply State.blocksFrame_keeps
    | split
    | dsimp -zeta only)

theorem idle_keeps {s0 : State} (s : State) (h : Keeps s0 s) : Keeps s0 (idle s) := by
  unfold idle
  repeat' (first
    | with_reducible assumption
    | (simp -zeta only [Keeps.mk_iff]; with_reducible refine KeepsParts.of ?_ rfl rfl (Nat.le_refl _) rfl rfl)
    | ((fail_if_success (conv => arg 2; congr)); extract_lets +onlyGivenNames x; first | (have hx : Keeps s0 x := ?_; (on_goal 2 => dsimp -zeta only [x]); (on_goal 1 => clear_value x)) | (have hx : Keeps s0 x.1 := ?_; (on_goal 2 => dsimp -zeta only [x]); (on_goal 1 => clear_value x)) | clear_value x)
    | with_reducible refine Keeps.ite (fun _ => ?_) (fun _ => ?_)
    | with_reducible apply State.advanceTo_keeps
    | split
    | dsimp -zeta only)

end Sys2Proof.Machine
end

