-- ==== Sys2Proof/WellFormed.lean ====
section
/-!
DEFINITION. Which commands are well formed: every operand within what the hardware's interfaces can carry (a set has
48 channels, a field of a command word its width, a packet its format). The senders form no other command (assumption 22).
-/
namespace Sys2Proof

/-- A word operand addresses a register, a staged copy or memory: 32 bits. -/
def addrOk (a : Nat) : Bool := a < 2 ^ 32

/-- A sample set: 48 Fine and 48 mode results, four dividers, an instant inside a frame (R29, R128). -/
def SampleSet.wf (x : SampleSet) : Bool :=
  x.instant < 1000000 && x.cells.length == 48 && x.fine.length == 48 && x.hvd.length == 4

/-- A set packet (R128): a follower's number, 48 codes and flags, an index of the frame buffer. -/
def SetPacket.wf (p : SetPacket) : Bool :=
  1 ≤ p.dev && p.dev < 8 && p.frame < 65536 && p.idx < 40 && p.codes.length == 48 && p.flags.length == 48 &&
    p.flags.all (· < 16) && p.hvd.length == 4 && p.ihall < 65536

/-- A frame record (R128): a follower's number, 24 readings, 48 on-times, no or 48 Quiet codes. -/
def FrameRecord.wf (r : FrameRecord) : Bool :=
  1 ≤ r.dev && r.dev < 8 && r.frame < 65536 && r.setid < 2 ^ 32 && r.digest < 2 ^ 32 && r.temps.length == 24 &&
    r.stage < 4 && (r.quiet.length == 0 || r.quiet.length == 48) && r.ont.length == 48 && r.dies.length == 8 && r.volts.length == 4

/-- An access packet (Table 5.1). -/
def AccessOp.wf : AccessOp → Bool
  | .write a _ => addrOk a
  | .read a => addrOk a
  | .request c => c < 16
  | .release c h f => c < 16 && h < 3 && f < 512
  | .start c f a => c < 16 && f < 65536 && a < 128
  | .suspect m => m < 2 ^ 24
  | .phasor _ _ _ _ f => f < 16
  | .member => true

/-- An access reply (Table 5.1). -/
def ReplyOp.wf : ReplyOp → Bool
  | .data a _ => addrOk a
  | .phasor _ _ _ _ f => f < 16
  | .results zs => zs.all fun z => z.1 < 48

/-- A frame on a CAN bus: identifier, DLC and data of one format (R341). -/
def BusFrame.wf (f : BusFrame) : Bool :=
  f.id < (if f.xtd then 2 ^ 29 else 2 ^ 11) && f.dlc < 16 && f.data.length ≤ 64 && f.data.all (· < 256)

/-- A command is well formed. -/
def Instr.wf : Instr → Bool
  | .registerWrite _ a _ => addrOk a && a % 4 == 0
  | .narrowOrUnalignedAccess _ _ a => addrOk a
  | .frameBoundary die => die.length == 8
  | .slotRelease n => 1 ≤ n && n < 1000
  | .profileRequestWrite _ r => r < 4
  | .sampleInstant o h u m => o < 1000000 && h < 65536 && u < 2 ^ 16 && m < 2 ^ 16
  | .sampleSetArrival x => x.wf
  | .sampleSetMissing o => o < 1000000
  | .taskDone _ _ e => e < 4096
  | .killAck _ _ e => e < 4096
  | .taskOverrun e => e < 4096
  | .killAckTimeout e => e < 4096
  | .acceleratorOverrun e => e < 4096
  | .stagedWrite _ a _ => addrOk a && a % 4 == 0
  | .stgArm _ p _ => p < 16
  | .commitPointReached p => 1 ≤ p && p < 16
  | .cascadeArmReceived m _ sid => m < 2 ^ 32 && sid < 2 ^ 32
  | .checkReportReceived d _ g => 1 ≤ d && d < 8 && g < 2 ^ 32
  | .quietInstant cs => cs.length == 48
  | .setPacketReceived p => p.wf
  | .frameRecordReceived r => r.wf
  | .heartbeatReceived _ t _ => t < 2 ^ 64
  | .accessPacketReceived _ op d => d ≤ 8 && op.wf
  | .accessReplyReceived d _ op => 1 ≤ d && d < 8 && op.wf
  | .enumTokenReceived _ c _ => c ≤ 8
  | .hopLockLost h => h < 8
  | .hopLockGained h => h < 8
  | .followerLost d => 1 ≤ d && d < 8
  | .followerLossTrip d => 1 ≤ d && d < 8
  | .estCellSelect _ c => c < 512
  | .eisResultSelect _ p c => p < 8 && c < 512
  | .thermistorSample i c => i < 24 && c < 65536
  | .thmCellSelect _ c => c < 512
  | .ctsSample _ _ _ _ _ o => o < 1000000
  | .channelCurrentReading mA h cs => mA.length == 16 && h < 65536 && cs.length == 4
  | .pairMismatch _ a => addrOk a
  | .checkpointComplete a b => a.length == 2016 && b.length == 2016
  | .memoryAccessFault _ _ a => addrOk a
  | .eccError _ _ _ a => addrOk a
  | .programRegionWrite _ a _ => addrOk a && a % 4 == 0
  | .dataMramStore _ a _ => addrOk a && a % 4 == 0
  | .svnminWrite _ m => m < 2 ^ 32
  | .keyRevoke _ m => m < 2 ^ 32
  | .canAbdDone _ n d => n < 16 && d < 16
  | .canFrameReceived _ f => f.wf
  | .canTxSuccess _ t => t < 2 ^ 16
  | .cantxWindowEnd _ o => o < 128
  | .canErrorStateChange _ t r => t < 512 && r < 256
  | .canReceiveError _ t r => t < 512 && r < 256
  | .canWakeFrame x i _ _ => i < (if x then 2 ^ 29 else 2 ^ 11)
  | .hostWrite a _ => a < 2048
  | .spiDeselect b => b < 16
  | .powerOn l => l < 16
  | .jtagDbgacc _ a _ => addrOk a
  | .swTrip _ | .reactionClear .. | .safSelftestStart | .safSelftestEnd _ | .imageLoad .. | .imageLoadDone
  | .stgDisarm _ | .consistencyCheckDone | .cascadeReportDeadline | .cascadeDisarmReceived | .cascadeArmTimeout
  | .pairReady .. | .trapezeReadyTimeout _ | .openWireRequest _ | .openWireStart | .openWirePhase | .openWireEnd
  | .openWireResult | .quietPauseStart | .transformerSupplyFailure => true
  | .ocComparatorCrossing .. | .ocGlitchFilterExpiry .. | .ocSelftestStart | .ocSelftestEnd .. => true
  | .isolationRequest _ | .isolationRunStart | .isolationStateTimeout | .isoBEngage | .isolationResult => true
  | .lane0Transmit | .xferCompletionWindowEnd | .frameMarkerSend | .frameMarkerReceived _ | .syncEdge _
  | .missedFrame | .syncWakePattern | .enumerationStart | .enumTokenTimeout | .enumRetry
  | .singleDeviceEnumTimeout | .enumRequest _ | .noLeadTimeout | .foreignSyncDetected | .ringGapClosed
  | .leadLost | .leadLossTrip | .tripRecognised | .tripReadbackCheck _ | .tripReleased => true
  | .estimatorRunDone | .tableDataWrite .. | .estCaprst _ | .estReinit _ | .estJwrite _ | .estResync _
  | .journalPeriod | .journalWriteStart | .journalWriteDone => true
  | .eisSweepRequest _ | .eisAbort _ | .eisTcal _ | .eisWindowEnd | .eisProcessingDone | .eisResultDeadline
  | .excitationStopTimeout => true
  | .thermalModelRunDone | .neighbourMapWrite .. | .dieStage3HardStop | .thermalRestart => true
  | .driveClose _ | .driveOpen _ | .chargeClose _ | .chargeOpen _ | .auxOn _ | .auxOff _ | .faultClear _
  | .ctsGrantTimeout | .probeTimerEnd | .closeTimerEnd | .gapTimerEnd | .rampTimerEnd | .matchTimerEnd
  | .cooldownEnd | .ctsSampleMissing => true
  | .cmdSet .. | .cmdClear .. | .rampComplete _ | .inrushExpiry _ | .channelShort _ | .junctionOvertemp _
  | .clampConducted _ | .crankDiagResume | .clusterOvertemp _ | .clusterShedStep _ _ | .clusterCooled _
  | .testPulseStart | .testPulseEnd .. => true
  | .lhInputChange .. | .hostRequestWrite .. | .safetyNetRelease _ | .lhmLock _ => true
  | .balancingPatternWrite .. | .balancingStop _ | .balHalfPeriod | .balCmdTimeout => true
  | .pumpStart _ | .pumpStop _ | .pumpSetpointWrite .. | .pumpCurrentLoop .. | .pumpShuntOvercurrent _ | .listenEnd _
  | .phaseNodeOvervoltage .. | .brakeTimeout _ | .alignEnd | .zeroVectorEnd | .retryDelayEnd | .runAttemptReset
  | .gateSupplyFault .. | .gateSupplyRecovery | .pwmPeriodStart | .vdsLimitReached _ | .gateSupplyReturn .. => true
  | .compareUnitFault .. | .comparatorFrameTest .. | .pairHaltEnd | .pairRestartRequest .. | .restoreComplete _
  | .restartTimeout _ | .debugHalt .. | .debugResume .. | .debugStep .. => true
  | .regionVerify _ | .regionVerifyDone | .dbglockSet _ | .otpKeyWrite .. => true
  | .canInitWrite .. | .canLomWrite .. | .canAbdStart .. | .canAbdTimeout _ | .objectReq .. | .objectCancel ..
  | .objectAck .. | .objectWord0Write .. | .fifoPush _ | .fifoClear _ | .canStartOfFrame _ | .canTxAttemptFailed ..
  | .busOffRecovered _ | .canEdgeWake .. | .canBusIntegrated _ => true
  | .ticketExpiry _ | .hostReadSeq | .spiWordComplete _ | .hirqTimeout | .backBufferWrite .. | .backBufferDone _ => true
  | .tickRead _ | .tickWrapSave | .gapAttest .. | .bbxSwPush _ | .bbxFreezeCommand _ | .bbxRelease _ | .snapshot
  | .freezeCopyStart | .freezeBlockDone => true
  | .vbatPause | .vbatPauseReturn | .pauseLimit | .brownoutWarning | .brownoutWarningEnd | .brownoutTimeout
  | .holdupExhausted | .vbatOvervoltage _ | .alwaysOnLoss | .holdupMeasure .. | .holdupFault | .coreSupplyFailure
  | .clockFailure | .pllRestart | .pllLocked | .measDieWarmup | .sleepExitResume | .nrstAssert | .nrstRelease
  | .resetRelease _ | .bootRecords | .bootHoldupTimeout | .bootVerifyDone | .watchdogService .. | .watchdogExpiry _
  | .watchdogHoldEnd | .coreSupplyReturn | .crystalRecovered => true
  | .eventPendingClear .. | .eventForce .. | .pageLock .. => true
  | .jtagIdcode | .jtagSamplePreload .. | .jtagExtest | .jtagBypass _ | .tckActivity | .tckIdleTimeout => true

end Sys2Proof
end

