-- ==== Sys2Proof/Laws/PerInstr.lean ====
section
/-!
SUPPORT. One lemma per command: the address that a well-formed command carries is one the memory map can number
(Table 14.4 ends at 2^32).
-/
namespace Sys2Proof.Laws.Wf

/-- The register or memory address that a command carries. -/
def operandAddr : Instr → Option Nat
  | .registerWrite _ a _ => some a
  | .narrowOrUnalignedAccess _ _ a => some a
  | .stagedWrite _ a _ => some a
  | .pairMismatch _ a => some a
  | .memoryAccessFault _ _ a => some a
  | .eccError _ _ _ a => some a
  | .programRegionWrite _ a _ => some a
  | .dataMramStore _ a _ => some a
  | .jtagDbgacc _ a _ => some a
  | _ => none

/-- A well-formed command addresses only the 2^32 bytes of the memory map. -/
def Statement (i : Instr) : Prop := i.wf = true → ∀ a, operandAddr i = some a → a < 2 ^ 32

theorem registerWrite (ini : Ini) (addr : Nat) (val : Word) : Statement (.registerWrite ini addr val) := by
  intro h a e; simp_all [operandAddr, Instr.wf, addrOk]
theorem narrowOrUnalignedAccess (ini : Ini) (write : Bool) (addr : Nat) : Statement (.narrowOrUnalignedAccess ini write addr) := by
  intro h a e; simp_all [operandAddr, Instr.wf, addrOk]
theorem frameBoundary (die : List Int) : Statement (.frameBoundary die) := by
  intro _ _ e; cases e
theorem slotRelease (slot : Nat) : Statement (.slotRelease slot) := by
  intro _ _ e; cases e
theorem profileRequestWrite (ini : Ini) (req : Nat) : Statement (.profileRequestWrite ini req) := by
  intro _ _ e; cases e
theorem sampleInstant (offset : Nat) (hall : Nat) (driveUA : Nat) (driveMV : Nat) : Statement (.sampleInstant offset hall driveUA driveMV) := by
  intro _ _ e; cases e
theorem sampleSetArrival (set : SampleSet) : Statement (.sampleSetArrival set) := by
  intro _ _ e; cases e
theorem sampleSetMissing (instant : Nat) : Statement (.sampleSetMissing instant) := by
  intro _ _ e; cases e
theorem transformerSupplyFailure : Statement (.transformerSupplyFailure) := by
  intro _ _ e; cases e
theorem swTrip (ini : Ini) : Statement (.swTrip ini) := by
  intro _ _ e; cases e
theorem reactionClear (ini : Ini) (mask : Word) : Statement (.reactionClear ini mask) := by
  intro _ _ e; cases e
theorem safSelftestStart : Statement (.safSelftestStart) := by
  intro _ _ e; cases e
theorem safSelftestEnd (passed : Bool) : Statement (.safSelftestEnd passed) := by
  intro _ _ e; cases e
theorem imageLoad (ini : Ini) (buf : Bool) (go : Bool) : Statement (.imageLoad ini buf go) := by
  intro _ _ e; cases e
theorem imageLoadDone : Statement (.imageLoadDone) := by
  intro _ _ e; cases e
theorem taskDone (ini : Ini) (pair : Pair) (entry : Nat) : Statement (.taskDone ini pair entry) := by
  intro _ _ e; cases e
theorem killAck (ini : Ini) (pair : Pair) (entry : Nat) : Statement (.killAck ini pair entry) := by
  intro _ _ e; cases e
theorem taskOverrun (entry : Nat) : Statement (.taskOverrun entry) := by
  intro _ _ e; cases e
theorem killAckTimeout (entry : Nat) : Statement (.killAckTimeout entry) := by
  intro _ _ e; cases e
theorem acceleratorOverrun (entry : Nat) : Statement (.acceleratorOverrun entry) := by
  intro _ _ e; cases e
theorem stagedWrite (ini : Ini) (addr : Nat) (val : Word) : Statement (.stagedWrite ini addr val) := by
  intro h a e; simp_all [operandAddr, Instr.wf, addrOk]
theorem stgArm (ini : Ini) (point : Nat) (cascade : Bool) : Statement (.stgArm ini point cascade) := by
  intro _ _ e; cases e
theorem stgDisarm (ini : Ini) : Statement (.stgDisarm ini) := by
  intro _ _ e; cases e
theorem consistencyCheckDone : Statement (.consistencyCheckDone) := by
  intro _ _ e; cases e
theorem commitPointReached (point : Nat) : Statement (.commitPointReached point) := by
  intro _ _ e; cases e
theorem cascadeArmReceived (mask : Nat) (fast : Bool) (setid : Nat) : Statement (.cascadeArmReceived mask fast setid) := by
  intro _ _ e; cases e
theorem checkReportReceived (dev : Nat) (fail : Word) (digest : Nat) : Statement (.checkReportReceived dev fail digest) := by
  intro _ _ e; cases e
theorem cascadeReportDeadline : Statement (.cascadeReportDeadline) := by
  intro _ _ e; cases e
theorem cascadeDisarmReceived : Statement (.cascadeDisarmReceived) := by
  intro _ _ e; cases e
theorem cascadeArmTimeout : Statement (.cascadeArmTimeout) := by
  intro _ _ e; cases e
theorem pairReady (ini : Ini) (pair : Pair) : Statement (.pairReady ini pair) := by
  intro _ _ e; cases e
theorem trapezeReadyTimeout (pair : Pair) : Statement (.trapezeReadyTimeout pair) := by
  intro _ _ e; cases e
theorem openWireRequest (ini : Ini) : Statement (.openWireRequest ini) := by
  intro _ _ e; cases e
theorem openWireStart : Statement (.openWireStart) := by
  intro _ _ e; cases e
theorem openWirePhase : Statement (.openWirePhase) := by
  intro _ _ e; cases e
theorem openWireEnd : Statement (.openWireEnd) := by
  intro _ _ e; cases e
theorem openWireResult : Statement (.openWireResult) := by
  intro _ _ e; cases e
theorem quietPauseStart : Statement (.quietPauseStart) := by
  intro _ _ e; cases e
theorem quietInstant (codes : List Int) : Statement (.quietInstant codes) := by
  intro _ _ e; cases e
theorem ocComparatorCrossing (discharge : Bool) (copyY : Bool) (microvolt : Int) : Statement (.ocComparatorCrossing discharge copyY microvolt) := by
  intro _ _ e; cases e
theorem ocGlitchFilterExpiry (discharge : Bool) (copyY : Bool) : Statement (.ocGlitchFilterExpiry discharge copyY) := by
  intro _ _ e; cases e
theorem ocSelftestStart : Statement (.ocSelftestStart) := by
  intro _ _ e; cases e
theorem ocSelftestEnd (trippedChg : Bool) (trippedDis : Bool) : Statement (.ocSelftestEnd trippedChg trippedDis) := by
  intro _ _ e; cases e
theorem isolationRequest (ini : Ini) : Statement (.isolationRequest ini) := by
  intro _ _ e; cases e
theorem isolationRunStart : Statement (.isolationRunStart) := by
  intro _ _ e; cases e
theorem isolationStateTimeout : Statement (.isolationStateTimeout) := by
  intro _ _ e; cases e
theorem isoBEngage : Statement (.isoBEngage) := by
  intro _ _ e; cases e
theorem isolationResult : Statement (.isolationResult) := by
  intro _ _ e; cases e
theorem lane0Transmit : Statement (.lane0Transmit) := by
  intro _ _ e; cases e
theorem setPacketReceived (p : SetPacket) : Statement (.setPacketReceived p) := by
  intro _ _ e; cases e
theorem frameRecordReceived (r : FrameRecord) : Statement (.frameRecordReceived r) := by
  intro _ _ e; cases e
theorem heartbeatReceived (crcOk : Bool) (leadTick : Nat) (chgforb : Bool) : Statement (.heartbeatReceived crcOk leadTick chgforb) := by
  intro _ _ e; cases e
theorem accessPacketReceived (crcOk : Bool) (op : AccessOp) (dst : Nat) : Statement (.accessPacketReceived crcOk op dst) := by
  intro _ _ e; cases e
theorem accessReplyReceived (dev : Nat) (crcOk : Bool) (op : ReplyOp) : Statement (.accessReplyReceived dev crcOk op) := by
  intro _ _ e; cases e
theorem xferCompletionWindowEnd : Statement (.xferCompletionWindowEnd) := by
  intro _ _ e; cases e
theorem frameMarkerSend : Statement (.frameMarkerSend) := by
  intro _ _ e; cases e
theorem frameMarkerReceived (word : Word) : Statement (.frameMarkerReceived word) := by
  intro _ _ e; cases e
theorem syncEdge (offset : Int) : Statement (.syncEdge offset) := by
  intro _ _ e; cases e
theorem missedFrame : Statement (.missedFrame) := by
  intro _ _ e; cases e
theorem syncWakePattern : Statement (.syncWakePattern) := by
  intro _ _ e; cases e
theorem enumerationStart : Statement (.enumerationStart) := by
  intro _ _ e; cases e
theorem enumTokenReceived (reverse : Bool) (count : Nat) (crcOk : Bool) : Statement (.enumTokenReceived reverse count crcOk) := by
  intro _ _ e; cases e
theorem enumTokenTimeout : Statement (.enumTokenTimeout) := by
  intro _ _ e; cases e
theorem enumRetry : Statement (.enumRetry) := by
  intro _ _ e; cases e
theorem singleDeviceEnumTimeout : Statement (.singleDeviceEnumTimeout) := by
  intro _ _ e; cases e
theorem enumRequest (ini : Ini) : Statement (.enumRequest ini) := by
  intro _ _ e; cases e
theorem noLeadTimeout : Statement (.noLeadTimeout) := by
  intro _ _ e; cases e
theorem foreignSyncDetected : Statement (.foreignSyncDetected) := by
  intro _ _ e; cases e
theorem hopLockLost (hop : Nat) : Statement (.hopLockLost hop) := by
  intro _ _ e; cases e
theorem hopLockGained (hop : Nat) : Statement (.hopLockGained hop) := by
  intro _ _ e; cases e
theorem ringGapClosed : Statement (.ringGapClosed) := by
  intro _ _ e; cases e
theorem followerLost (dev : Nat) : Statement (.followerLost dev) := by
  intro _ _ e; cases e
theorem followerLossTrip (dev : Nat) : Statement (.followerLossTrip dev) := by
  intro _ _ e; cases e
theorem leadLost : Statement (.leadLost) := by
  intro _ _ e; cases e
theorem leadLossTrip : Statement (.leadLossTrip) := by
  intro _ _ e; cases e
theorem tripRecognised : Statement (.tripRecognised) := by
  intro _ _ e; cases e
theorem tripReadbackCheck (released : Bool) : Statement (.tripReadbackCheck released) := by
  intro _ _ e; cases e
theorem tripReleased : Statement (.tripReleased) := by
  intro _ _ e; cases e
theorem estimatorRunDone : Statement (.estimatorRunDone) := by
  intro _ _ e; cases e
theorem tableDataWrite (ini : Ini) (val : Word) : Statement (.tableDataWrite ini val) := by
  intro _ _ e; cases e
theorem estCaprst (ini : Ini) : Statement (.estCaprst ini) := by
  intro _ _ e; cases e
theorem estReinit (ini : Ini) : Statement (.estReinit ini) := by
  intro _ _ e; cases e
theorem estJwrite (ini : Ini) : Statement (.estJwrite ini) := by
  intro _ _ e; cases e
theorem estResync (ini : Ini) : Statement (.estResync ini) := by
  intro _ _ e; cases e
theorem journalPeriod : Statement (.journalPeriod) := by
  intro _ _ e; cases e
theorem journalWriteStart : Statement (.journalWriteStart) := by
  intro _ _ e; cases e
theorem journalWriteDone : Statement (.journalWriteDone) := by
  intro _ _ e; cases e
theorem estCellSelect (ini : Ini) (cell : Nat) : Statement (.estCellSelect ini cell) := by
  intro _ _ e; cases e
theorem eisSweepRequest (ini : Ini) : Statement (.eisSweepRequest ini) := by
  intro _ _ e; cases e
theorem eisAbort (ini : Ini) : Statement (.eisAbort ini) := by
  intro _ _ e; cases e
theorem eisTcal (ini : Ini) : Statement (.eisTcal ini) := by
  intro _ _ e; cases e
theorem eisResultSelect (ini : Ini) (point : Nat) (cell : Nat) : Statement (.eisResultSelect ini point cell) := by
  intro _ _ e; cases e
theorem eisWindowEnd : Statement (.eisWindowEnd) := by
  intro _ _ e; cases e
theorem eisProcessingDone : Statement (.eisProcessingDone) := by
  intro _ _ e; cases e
theorem eisResultDeadline : Statement (.eisResultDeadline) := by
  intro _ _ e; cases e
theorem excitationStopTimeout : Statement (.excitationStopTimeout) := by
  intro _ _ e; cases e
theorem thermistorSample (input : Nat) (code : Nat) : Statement (.thermistorSample input code) := by
  intro _ _ e; cases e
theorem thermalModelRunDone : Statement (.thermalModelRunDone) := by
  intro _ _ e; cases e
theorem neighbourMapWrite (ini : Ini) (val : Word) : Statement (.neighbourMapWrite ini val) := by
  intro _ _ e; cases e
theorem thmCellSelect (ini : Ini) (cell : Nat) : Statement (.thmCellSelect ini cell) := by
  intro _ _ e; cases e
theorem dieStage3HardStop : Statement (.dieStage3HardStop) := by
  intro _ _ e; cases e
theorem thermalRestart : Statement (.thermalRestart) := by
  intro _ _ e; cases e
theorem driveClose (ini : Ini) : Statement (.driveClose ini) := by
  intro _ _ e; cases e
theorem driveOpen (ini : Ini) : Statement (.driveOpen ini) := by
  intro _ _ e; cases e
theorem chargeClose (ini : Ini) : Statement (.chargeClose ini) := by
  intro _ _ e; cases e
theorem chargeOpen (ini : Ini) : Statement (.chargeOpen ini) := by
  intro _ _ e; cases e
theorem auxOn (ini : Ini) : Statement (.auxOn ini) := by
  intro _ _ e; cases e
theorem auxOff (ini : Ini) : Statement (.auxOff ini) := by
  intro _ _ e; cases e
theorem faultClear (ini : Ini) : Statement (.faultClear ini) := by
  intro _ _ e; cases e
theorem ctsGrantTimeout : Statement (.ctsGrantTimeout) := by
  intro _ _ e; cases e
theorem probeTimerEnd : Statement (.probeTimerEnd) := by
  intro _ _ e; cases e
theorem closeTimerEnd : Statement (.closeTimerEnd) := by
  intro _ _ e; cases e
theorem gapTimerEnd : Statement (.gapTimerEnd) := by
  intro _ _ e; cases e
theorem rampTimerEnd : Statement (.rampTimerEnd) := by
  intro _ _ e; cases e
theorem matchTimerEnd : Statement (.matchTimerEnd) := by
  intro _ _ e; cases e
theorem cooldownEnd : Statement (.cooldownEnd) := by
  intro _ _ e; cases e
theorem ctsSample (v1 v2 v3 v4 : Int) (ish1 : Int) (offset : Nat) : Statement (.ctsSample v1 v2 v3 v4 ish1 offset) := by
  intro _ _ e; cases e
theorem ctsSampleMissing : Statement (.ctsSampleMissing) := by
  intro _ _ e; cases e
theorem cmdSet (ini : Ini) (mask : Word) : Statement (.cmdSet ini mask) := by
  intro _ _ e; cases e
theorem cmdClear (ini : Ini) (mask : Word) : Statement (.cmdClear ini mask) := by
  intro _ _ e; cases e
theorem rampComplete (ch : Fin 16) : Statement (.rampComplete ch) := by
  intro _ _ e; cases e
theorem inrushExpiry (ch : Fin 16) : Statement (.inrushExpiry ch) := by
  intro _ _ e; cases e
theorem channelShort (ch : Fin 16) : Statement (.channelShort ch) := by
  intro _ _ e; cases e
theorem junctionOvertemp (ch : Fin 16) : Statement (.junctionOvertemp ch) := by
  intro _ _ e; cases e
theorem clampConducted (ch : Fin 16) : Statement (.clampConducted ch) := by
  intro _ _ e; cases e
theorem channelCurrentReading (mA : List Nat) (hot : Nat) (clusters : List Int) : Statement (.channelCurrentReading mA hot clusters) := by
  intro _ _ e; cases e
theorem crankDiagResume : Statement (.crankDiagResume) := by
  intro _ _ e; cases e
theorem clusterOvertemp (c : Fin 4) : Statement (.clusterOvertemp c) := by
  intro _ _ e; cases e
theorem clusterShedStep (c : Fin 4) (hot : Bool) : Statement (.clusterShedStep c hot) := by
  intro _ _ e; cases e
theorem clusterCooled (c : Fin 4) : Statement (.clusterCooled c) := by
  intro _ _ e; cases e
theorem testPulseStart : Statement (.testPulseStart) := by
  intro _ _ e; cases e
theorem testPulseEnd (mA : Nat) (reached : Bool) : Statement (.testPulseEnd mA reached) := by
  intro _ _ e; cases e
theorem lhInputChange (inp : Fin 4) (high : Bool) : Statement (.lhInputChange inp high) := by
  intro _ _ e; cases e
theorem hostRequestWrite (ini : Ini) (req : Bool) : Statement (.hostRequestWrite ini req) := by
  intro _ _ e; cases e
theorem safetyNetRelease (ini : Ini) : Statement (.safetyNetRelease ini) := by
  intro _ _ e; cases e
theorem lhmLock (ini : Ini) : Statement (.lhmLock ini) := by
  intro _ _ e; cases e
theorem balancingPatternWrite (ini : Ini) (upper : Bool) (val : Word) : Statement (.balancingPatternWrite ini upper val) := by
  intro _ _ e; cases e
theorem balancingStop (ini : Ini) : Statement (.balancingStop ini) := by
  intro _ _ e; cases e
theorem balHalfPeriod : Statement (.balHalfPeriod) := by
  intro _ _ e; cases e
theorem balCmdTimeout : Statement (.balCmdTimeout) := by
  intro _ _ e; cases e
theorem pumpStart (ini : Ini) : Statement (.pumpStart ini) := by
  intro _ _ e; cases e
theorem pumpStop (ini : Ini) : Statement (.pumpStop ini) := by
  intro _ _ e; cases e
theorem pumpSetpointWrite (ini : Ini) (demand : Nat) : Statement (.pumpSetpointWrite ini demand) := by
  intro _ _ e; cases e
theorem pumpCurrentLoop (vbatMV : Nat) (rpm : Int) (angleErrDeg : Nat) (emfUV : Nat) (locked : Bool) (idq : Int × Int) : Statement (.pumpCurrentLoop vbatMV rpm angleErrDeg emfUV locked idq) := by
  intro _ _ e; cases e
theorem pumpShuntOvercurrent (shuntUV : Nat) : Statement (.pumpShuntOvercurrent shuntUV) := by
  intro _ _ e; cases e
theorem listenEnd (rpm : Int) : Statement (.listenEnd rpm) := by
  intro _ _ e; cases e
theorem phaseNodeOvervoltage (phMV : Nat) (vbatMV : Nat) : Statement (.phaseNodeOvervoltage phMV vbatMV) := by
  intro _ _ e; cases e
theorem brakeTimeout (rpm : Int) : Statement (.brakeTimeout rpm) := by
  intro _ _ e; cases e
theorem alignEnd : Statement (.alignEnd) := by
  intro _ _ e; cases e
theorem zeroVectorEnd : Statement (.zeroVectorEnd) := by
  intro _ _ e; cases e
theorem retryDelayEnd : Statement (.retryDelayEnd) := by
  intro _ _ e; cases e
theorem runAttemptReset : Statement (.runAttemptReset) := by
  intro _ _ e; cases e
theorem gateSupplyFault (vgdMV : Nat) (bootMV : Nat) : Statement (.gateSupplyFault vgdMV bootMV) := by
  intro _ _ e; cases e
theorem gateSupplyRecovery : Statement (.gateSupplyRecovery) := by
  intro _ _ e; cases e
theorem pairMismatch (pair : Pair) (addr : Nat) : Statement (.pairMismatch pair addr) := by
  intro h a e; simp_all [operandAddr, Instr.wf, addrOk]
theorem compareUnitFault (pair : Pair) (parity : Bool) (addr : Nat) : Statement (.compareUnitFault pair parity addr) := by
  intro _ _ e; cases e
theorem comparatorFrameTest (pair : Pair) (c1 : Bool) (c2 : Bool) (parity : Bool) : Statement (.comparatorFrameTest pair c1 c2 parity) := by
  intro _ _ e; cases e
theorem checkpointComplete (archA : List Byte) (archB : List Byte) : Statement (.checkpointComplete archA archB) := by
  intro _ _ e; cases e
theorem pairHaltEnd : Statement (.pairHaltEnd) := by
  intro _ _ e; cases e
theorem pairRestartRequest (ini : Ini) (pair : Pair) : Statement (.pairRestartRequest ini pair) := by
  intro _ _ e; cases e
theorem restoreComplete (pair : Pair) : Statement (.restoreComplete pair) := by
  intro _ _ e; cases e
theorem restartTimeout (pair : Pair) : Statement (.restartTimeout pair) := by
  intro _ _ e; cases e
theorem debugHalt (ini : Ini) (pair : Pair) : Statement (.debugHalt ini pair) := by
  intro _ _ e; cases e
theorem debugResume (ini : Ini) (pair : Pair) : Statement (.debugResume ini pair) := by
  intro _ _ e; cases e
theorem debugStep (ini : Ini) (pair : Pair) : Statement (.debugStep ini pair) := by
  intro _ _ e; cases e
theorem memoryAccessFault (pair : Pair) (write : Bool) (addr : Nat) : Statement (.memoryAccessFault pair write addr) := by
  intro h a e; simp_all [operandAddr, Instr.wf, addrOk]
theorem eccError (pair : Pair) (mram : Bool) (corrected : Bool) (addr : Nat) : Statement (.eccError pair mram corrected addr) := by
  intro h a e; simp_all [operandAddr, Instr.wf, addrOk]
theorem programRegionWrite (ini : Ini) (addr : Nat) (val : Word) : Statement (.programRegionWrite ini addr val) := by
  intro h a e; simp_all [operandAddr, Instr.wf, addrOk]
theorem dataMramStore (pair : Pair) (addr : Nat) (val : Word) : Statement (.dataMramStore pair addr val) := by
  intro h a e; simp_all [operandAddr, Instr.wf, addrOk]
theorem regionVerify (ini : Ini) : Statement (.regionVerify ini) := by
  intro _ _ e; cases e
theorem regionVerifyDone : Statement (.regionVerifyDone) := by
  intro _ _ e; cases e
theorem svnminWrite (ini : Ini) (min : Nat) : Statement (.svnminWrite ini min) := by
  intro _ _ e; cases e
theorem keyRevoke (ini : Ini) (mask : Nat) : Statement (.keyRevoke ini mask) := by
  intro _ _ e; cases e
theorem dbglockSet (ini : Ini) : Statement (.dbglockSet ini) := by
  intro _ _ e; cases e
theorem otpKeyWrite (ini : Ini) (val : Word) : Statement (.otpKeyWrite ini val) := by
  intro _ _ e; cases e
theorem canInitWrite (ini : Ini) (ch : Fin 4) (init : Bool) : Statement (.canInitWrite ini ch init) := by
  intro _ _ e; cases e
theorem canLomWrite (ini : Ini) (ch : Fin 4) (lom : Bool) : Statement (.canLomWrite ini ch lom) := by
  intro _ _ e; cases e
theorem canAbdStart (ini : Ini) (ch : Fin 4) : Statement (.canAbdStart ini ch) := by
  intro _ _ e; cases e
theorem canAbdDone (ch : Fin 4) (nrate : Nat) (drate : Nat) : Statement (.canAbdDone ch nrate drate) := by
  intro _ _ e; cases e
theorem canAbdTimeout (ch : Fin 4) : Statement (.canAbdTimeout ch) := by
  intro _ _ e; cases e
theorem objectReq (ini : Ini) (ch : Fin 4) : Statement (.objectReq ini ch) := by
  intro _ _ e; cases e
theorem objectCancel (ini : Ini) (ch : Fin 4) : Statement (.objectCancel ini ch) := by
  intro _ _ e; cases e
theorem objectAck (ini : Ini) (ch : Fin 4) : Statement (.objectAck ini ch) := by
  intro _ _ e; cases e
theorem objectWord0Write (ini : Ini) (ch : Fin 4) (val : Word) : Statement (.objectWord0Write ini ch val) := by
  intro _ _ e; cases e
theorem fifoPush (ini : Ini) : Statement (.fifoPush ini) := by
  intro _ _ e; cases e
theorem fifoClear (ini : Ini) : Statement (.fifoClear ini) := by
  intro _ _ e; cases e
theorem canFrameReceived (ch : Fin 4) (f : BusFrame) : Statement (.canFrameReceived ch f) := by
  intro _ _ e; cases e
theorem canStartOfFrame (ch : Fin 4) : Statement (.canStartOfFrame ch) := by
  intro _ _ e; cases e
theorem canTxSuccess (ch : Fin 4) (tdcv : Nat) : Statement (.canTxSuccess ch tdcv) := by
  intro _ _ e; cases e
theorem canTxAttemptFailed (ch : Fin 4) (arbitration : Bool) : Statement (.canTxAttemptFailed ch arbitration) := by
  intro _ _ e; cases e
theorem cantxWindowEnd (ch : Fin 4) (obj : Nat) : Statement (.cantxWindowEnd ch obj) := by
  intro _ _ e; cases e
theorem canErrorStateChange (ch : Fin 4) (tec : Nat) (rec : Nat) : Statement (.canErrorStateChange ch tec rec) := by
  intro _ _ e; cases e
theorem busOffRecovered (ch : Fin 4) : Statement (.busOffRecovered ch) := by
  intro _ _ e; cases e
theorem canEdgeWake (ch : Fin 4) (lowUS : Nat) : Statement (.canEdgeWake ch lowUS) := by
  intro _ _ e; cases e
theorem canWakeFrame (xtd : Bool) (id : Nat) (fd : Bool) (crcOk : Bool) : Statement (.canWakeFrame xtd id fd crcOk) := by
  intro _ _ e; cases e
theorem ticketExpiry (con : Fin 32) : Statement (.ticketExpiry con) := by
  intro _ _ e; cases e
theorem hostReadSeq : Statement (.hostReadSeq) := by
  intro _ _ e; cases e
theorem hostWrite (addr : Nat) (data : BitVec 16) : Statement (.hostWrite addr data) := by
  intro _ _ e; cases e
theorem spiWordComplete (mosi : BitVec 16) : Statement (.spiWordComplete mosi) := by
  intro _ _ e; cases e
theorem spiDeselect (bits : Nat) : Statement (.spiDeselect bits) := by
  intro _ _ e; cases e
theorem hirqTimeout : Statement (.hirqTimeout) := by
  intro _ _ e; cases e
theorem backBufferWrite (ini : Ini) (val : Word) : Statement (.backBufferWrite ini val) := by
  intro _ _ e; cases e
theorem backBufferDone (ini : Ini) : Statement (.backBufferDone ini) := by
  intro _ _ e; cases e
theorem tickRead (ini : Ini) : Statement (.tickRead ini) := by
  intro _ _ e; cases e
theorem tickWrapSave : Statement (.tickWrapSave) := by
  intro _ _ e; cases e
theorem gapAttest (ini : Ini) (secs : Word) : Statement (.gapAttest ini secs) := by
  intro _ _ e; cases e
theorem bbxSwPush (ini : Ini) : Statement (.bbxSwPush ini) := by
  intro _ _ e; cases e
theorem bbxFreezeCommand (ini : Ini) : Statement (.bbxFreezeCommand ini) := by
  intro _ _ e; cases e
theorem bbxRelease (ini : Ini) : Statement (.bbxRelease ini) := by
  intro _ _ e; cases e
theorem snapshot : Statement (.snapshot) := by
  intro _ _ e; cases e
theorem freezeCopyStart : Statement (.freezeCopyStart) := by
  intro _ _ e; cases e
theorem freezeBlockDone : Statement (.freezeBlockDone) := by
  intro _ _ e; cases e
theorem vbatPause : Statement (.vbatPause) := by
  intro _ _ e; cases e
theorem vbatPauseReturn : Statement (.vbatPauseReturn) := by
  intro _ _ e; cases e
theorem pauseLimit : Statement (.pauseLimit) := by
  intro _ _ e; cases e
theorem brownoutWarning : Statement (.brownoutWarning) := by
  intro _ _ e; cases e
theorem brownoutWarningEnd : Statement (.brownoutWarningEnd) := by
  intro _ _ e; cases e
theorem brownoutTimeout : Statement (.brownoutTimeout) := by
  intro _ _ e; cases e
theorem holdupExhausted : Statement (.holdupExhausted) := by
  intro _ _ e; cases e
theorem vbatOvervoltage (vbatMV : Nat) : Statement (.vbatOvervoltage vbatMV) := by
  intro _ _ e; cases e
theorem alwaysOnLoss : Statement (.alwaysOnLoss) := by
  intro _ _ e; cases e
theorem holdupMeasure (vholdMV : Nat) (slow : Option (Nat × Nat)) : Statement (.holdupMeasure vholdMV slow) := by
  intro _ _ e; cases e
theorem holdupFault : Statement (.holdupFault) := by
  intro _ _ e; cases e
theorem coreSupplyFailure : Statement (.coreSupplyFailure) := by
  intro _ _ e; cases e
theorem clockFailure : Statement (.clockFailure) := by
  intro _ _ e; cases e
theorem pllRestart : Statement (.pllRestart) := by
  intro _ _ e; cases e
theorem pllLocked : Statement (.pllLocked) := by
  intro _ _ e; cases e
theorem measDieWarmup : Statement (.measDieWarmup) := by
  intro _ _ e; cases e
theorem sleepExitResume : Statement (.sleepExitResume) := by
  intro _ _ e; cases e
theorem nrstAssert : Statement (.nrstAssert) := by
  intro _ _ e; cases e
theorem nrstRelease : Statement (.nrstRelease) := by
  intro _ _ e; cases e
theorem powerOn (lhcfg : Nat) : Statement (.powerOn lhcfg) := by
  intro _ _ e; cases e
theorem resetRelease (lead : Bool) : Statement (.resetRelease lead) := by
  intro _ _ e; cases e
theorem bootRecords : Statement (.bootRecords) := by
  intro _ _ e; cases e
theorem bootHoldupTimeout : Statement (.bootHoldupTimeout) := by
  intro _ _ e; cases e
theorem bootVerifyDone : Statement (.bootVerifyDone) := by
  intro _ _ e; cases e
theorem watchdogService (ini : Ini) (pair : Pair) (key : Word) : Statement (.watchdogService ini pair key) := by
  intro _ _ e; cases e
theorem watchdogExpiry (pair : Pair) : Statement (.watchdogExpiry pair) := by
  intro _ _ e; cases e
theorem watchdogHoldEnd : Statement (.watchdogHoldEnd) := by
  intro _ _ e; cases e
theorem eventPendingClear (ini : Ini) (page : Fin 32) (mask : Word) : Statement (.eventPendingClear ini page mask) := by
  intro _ _ e; cases e
theorem eventForce (ini : Ini) (page : Fin 32) (mask : Word) : Statement (.eventForce ini page mask) := by
  intro _ _ e; cases e
theorem pageLock (ini : Ini) (page : Fin 32) : Statement (.pageLock ini page) := by
  intro _ _ e; cases e
theorem jtagIdcode : Statement (.jtagIdcode) := by
  intro _ _ e; cases e
theorem jtagSamplePreload (capture : List Bool) (preload : Option (List Bool)) : Statement (.jtagSamplePreload capture preload) := by
  intro _ _ e; cases e
theorem jtagExtest : Statement (.jtagExtest) := by
  intro _ _ e; cases e
theorem jtagDbgacc (write : Bool) (addr : Nat) (data : Word) : Statement (.jtagDbgacc write addr data) := by
  intro h a e; simp_all [operandAddr, Instr.wf, addrOk]
theorem jtagBypass (code : BitVec 5) : Statement (.jtagBypass code) := by
  intro _ _ e; cases e
theorem pwmPeriodStart : Statement (.pwmPeriodStart) := by
  intro _ _ e; cases e
theorem vdsLimitReached (phMV : Int) : Statement (.vdsLimitReached phMV) := by
  intro _ _ e; cases e
theorem gateSupplyReturn (vgdMV : Nat) (bootMV : Nat) : Statement (.gateSupplyReturn vgdMV bootMV) := by
  intro _ _ e; cases e
theorem coreSupplyReturn : Statement (.coreSupplyReturn) := by
  intro _ _ e; cases e
theorem crystalRecovered : Statement (.crystalRecovered) := by
  intro _ _ e; cases e
theorem canBusIntegrated (ch : Fin 4) : Statement (.canBusIntegrated ch) := by
  intro _ _ e; cases e
theorem canReceiveError (ch : Fin 4) (tec : Nat) (rec : Nat) : Statement (.canReceiveError ch tec rec) := by
  intro _ _ e; cases e
theorem tckActivity : Statement (.tckActivity) := by
  intro _ _ e; cases e
theorem tckIdleTimeout : Statement (.tckIdleTimeout) := by
  intro _ _ e; cases e

end Sys2Proof.Laws.Wf
end

