-- ==== Sys2Proof/Laws/Read.lean ====
section
/-!
SUPPORT. Reading registers and memory through updates: a state given by its fields reads through its stores, and events,
records, causes and stores of bytes leave the words and bytes they do not own.
-/
namespace Sys2Proof.Machine

/-- A state given by its fields reads its own store. -/
@[simp] theorem State.word_mk
    {full_ : Bool}
    {leadStrap_ : Bool}
    {now_ : Nat}
    {tick_ : Nat}
    {frame_ : Nat}
    {fstart_ : Nat}
    {regs_ : KMap Word}
    {mem_ : List Host.Cell}
    {evAt_ : KMap Nat}
    {freeCtr_ : Nat}
    {power_ : Power}
    {ret_ : Retained}
    {tmb_ : Tmb}
    {bbx_ : Bbx}
    {tt_ : Tt}
    {stg_ : Stg}
    {cm_ : CellMeas}
    {ipk_ : Ipk}
    {iso_ : Iso}
    {bal_ : Bal}
    {csc_ : Csc}
    {est_ : Est}
    {eis_ : Eis}
    {thm_ : Thm}
    {saf_ : Saf}
    {cts_ : Cts}
    {out_ : Out}
    {lhm_ : Lhm}
    {pmp_ : Pmp}
    {cpa_ : Core}
    {cpb_ : Core}
    {nvm_ : Nvm}
    {can_ : List Can}
    {conn_ : List Conn}
    {hst_ : Hst}
    {jtag_ : Jtag}
    {pending_ : List Instr}
    (a : Nat) :
    (State.mk full_ leadStrap_ now_ tick_ frame_ fstart_ regs_ mem_ evAt_ freeCtr_ power_ ret_ tmb_ bbx_ tt_ stg_ cm_ ipk_ iso_ bal_ csc_ est_ eis_ thm_ saf_ cts_ out_ lhm_ pmp_ cpa_ cpb_ nvm_ can_ conn_ hst_ jtag_ pending_).word a =
      kget resetWord a regs_ := rfl

/-- A state given by its fields reads its own store. -/
@[simp] theorem State.get_mk
    {full_ : Bool}
    {leadStrap_ : Bool}
    {now_ : Nat}
    {tick_ : Nat}
    {frame_ : Nat}
    {fstart_ : Nat}
    {regs_ : KMap Word}
    {mem_ : List Host.Cell}
    {evAt_ : KMap Nat}
    {freeCtr_ : Nat}
    {power_ : Power}
    {ret_ : Retained}
    {tmb_ : Tmb}
    {bbx_ : Bbx}
    {tt_ : Tt}
    {stg_ : Stg}
    {cm_ : CellMeas}
    {ipk_ : Ipk}
    {iso_ : Iso}
    {bal_ : Bal}
    {csc_ : Csc}
    {est_ : Est}
    {eis_ : Eis}
    {thm_ : Thm}
    {saf_ : Saf}
    {cts_ : Cts}
    {out_ : Out}
    {lhm_ : Lhm}
    {pmp_ : Pmp}
    {cpa_ : Core}
    {cpb_ : Core}
    {nvm_ : Nvm}
    {can_ : List Can}
    {conn_ : List Conn}
    {hst_ : Hst}
    {jtag_ : Jtag}
    {pending_ : List Instr}
    (f : Fld) :
    (State.mk full_ leadStrap_ now_ tick_ frame_ fstart_ regs_ mem_ evAt_ freeCtr_ power_ ret_ tmb_ bbx_ tt_ stg_ cm_ ipk_ iso_ bal_ csc_ est_ eis_ thm_ saf_ cts_ out_ lhm_ pmp_ cpa_ cpb_ nvm_ can_ conn_ hst_ jtag_ pending_).get f =
      f.extract (kget resetWord f.addr regs_) := rfl

/-- A state given by its fields reads its own store. -/
@[simp] theorem State.byte_mk
    {full_ : Bool}
    {leadStrap_ : Bool}
    {now_ : Nat}
    {tick_ : Nat}
    {frame_ : Nat}
    {fstart_ : Nat}
    {regs_ : KMap Word}
    {mem_ : List Host.Cell}
    {evAt_ : KMap Nat}
    {freeCtr_ : Nat}
    {power_ : Power}
    {ret_ : Retained}
    {tmb_ : Tmb}
    {bbx_ : Bbx}
    {tt_ : Tt}
    {stg_ : Stg}
    {cm_ : CellMeas}
    {ipk_ : Ipk}
    {iso_ : Iso}
    {bal_ : Bal}
    {csc_ : Csc}
    {est_ : Est}
    {eis_ : Eis}
    {thm_ : Thm}
    {saf_ : Saf}
    {cts_ : Cts}
    {out_ : Out}
    {lhm_ : Lhm}
    {pmp_ : Pmp}
    {cpa_ : Core}
    {cpb_ : Core}
    {nvm_ : Nvm}
    {can_ : List Can}
    {conn_ : List Conn}
    {hst_ : Hst}
    {jtag_ : Jtag}
    {pending_ : List Instr}
    (a : Nat) :
    (State.mk full_ leadStrap_ now_ tick_ frame_ fstart_ regs_ mem_ evAt_ freeCtr_ power_ ret_ tmb_ bbx_ tt_ stg_ cm_ ipk_ iso_ bal_ csc_ est_ eis_ thm_ saf_ cts_ out_ lhm_ pmp_ cpa_ cpb_ nvm_ can_ conn_ hst_ jtag_ pending_).byte a =
      kget (fun _ => (0 : Byte)) a mem_ := rfl

@[simp] theorem State.kget_regs (s : State) (a : Nat) : kget resetWord a s.regs = s.word a := rfl
@[simp] theorem State.kget_mem (s : State) (a : Nat) : kget (fun _ => (0 : Byte)) a s.mem = s.byte a := rfl
@[simp] theorem State.kget_mem' (s : State) (a : Nat) : kget (fun _ => 0#8) a s.mem = s.byte a := rfl
@[simp] theorem State.extract_word (s : State) (f : Fld) : f.extract (s.word f.addr) = s.get f := rfl

/-! ### Words through the named operations -/

theorem State.word_congr {s t : State} (h : t.regs = s.regs) (a : Nat) : t.word a = s.word a := by
  simp only [State.word, h]

@[simp] theorem State.word_setByte (s : State) (a b : Nat) (v : Byte) : (s.setByte a v).word b = s.word b := rfl
@[simp] theorem State.word_setBytes (s : State) (a b : Nat) (l : List Byte) : (s.setBytes a l).word b = s.word b :=
  State.word_congr (by simp) b
@[simp] theorem State.word_setMemWord (s : State) (a w b : Nat) : (s.setMemWord a w).word b = s.word b :=
  State.word_congr (by simp) b
@[simp] theorem State.word_setMemWords (s : State) (a b : Nat) (l : List Nat) : (s.setMemWords a l).word b = s.word b :=
  State.word_congr (by simp) b
@[simp] theorem State.word_advanceTo (s : State) (t b : Nat) : (s.advanceTo t).word b = s.word b := rfl
@[simp] theorem State.word_nextFree (s : State) (b : Nat) : s.nextFree.word b = s.word b := rfl
@[simp] theorem State.get_setBytes (s : State) (a : Nat) (l : List Byte) (f : Fld) : (s.setBytes a l).get f = s.get f := by
  simp only [State.get, State.word_setBytes]
@[simp] theorem State.get_setMemWord (s : State) (a w : Nat) (f : Fld) : (s.setMemWord a w).get f = s.get f := by
  simp only [State.get, State.word_setMemWord]
@[simp] theorem State.get_setMemWords (s : State) (a : Nat) (l : List Nat) (f : Fld) :
    (s.setMemWords a l).get f = s.get f := by simp only [State.get, State.word_setMemWords]
@[simp] theorem State.get_advanceTo (s : State) (t : Nat) (f : Fld) : (s.advanceTo t).get f = s.get f := rfl
@[simp] theorem State.get_nextFree (s : State) (f : Fld) : s.nextFree.get f = s.get f := rfl

theorem State.word_putB_ne (s : State) (f : Fld) (b : Bool) (a : Nat) (h : a ≠ f.addr) :
    (s.putB f b).word a = s.word a := State.word_setWord_ne _ _ _ _ h
theorem State.word_putI_ne (s : State) (f : Fld) (v : Int) (a : Nat) (h : a ≠ f.addr) :
    (s.putI f v).word a = s.word a := State.word_setWord_ne _ _ _ _ h
theorem State.word_putBit_ne (s : State) (f : Fld) (i : Nat) (b : Bool) (a : Nat) (h : a ≠ f.addr) :
    (s.putBit f i b).word a = s.word a := State.word_setWord_ne _ _ _ _ h
theorem State.word_putSat_ne (s : State) (f : Fld) (v a : Nat) (h : a ≠ f.addr) :
    (s.putSat f v).word a = s.word a := State.word_setWord_ne _ _ _ _ h
theorem State.word_putSatI_ne (s : State) (f : Fld) (v : Int) (a : Nat) (h : a ≠ f.addr) :
    (s.putSatI f v).word a = s.word a := State.word_setWord_ne _ _ _ _ h
theorem State.word_inc_ne (s : State) (f : Fld) (a : Nat) (h : a ≠ f.addr) : (s.inc f).word a = s.word a :=
  State.word_setWord_ne _ _ _ _ h
theorem State.word_incSat_ne (s : State) (f : Fld) (a : Nat) (h : a ≠ f.addr) : (s.incSat f).word a = s.word a :=
  State.word_setWord_ne _ _ _ _ h

theorem State.get_putB_self (s : State) (f : Fld) (b : Bool) (h : f.lo + f.wid ≤ 32) (hw : 0 < f.wid) :
    (s.putB f b).get f = b.toNat := by
  rw [State.putB, State.get_put_self _ _ _ h]
  have : 2 ^ 1 ≤ 2 ^ f.wid := Nat.pow_le_pow_right (by decide) hw
  cases b
  · exact Nat.zero_mod _
  · exact Nat.mod_eq_of_lt this

theorem State.word_note (s : State) (c d0 d1 d2 a : Nat) (h : quiet a = true) :
    (s.note c d0 d1 d2).word a = s.word a := State.word_record _ _ _ _ _ _ _ h
theorem State.get_note (s : State) (c d0 d1 d2 : Nat) (f : Fld) (h : quiet f.addr = true) :
    (s.note c d0 d1 d2).get f = s.get f := State.get_record _ _ _ _ _ _ _ h

theorem State.word_raiseIf (s : State) (c : Bool) (e : Event) (a : Nat) (h : quiet a = true) :
    (s.raiseIf c e).word a = s.word a := by
  unfold State.raiseIf
  split
  · exact State.word_raise _ _ _ h
  · rfl
theorem State.get_raiseIf (s : State) (c : Bool) (e : Event) (f : Fld) (h : quiet f.addr = true) :
    (s.raiseIf c e).get f = s.get f := by simp only [State.get, State.word_raiseIf _ _ _ _ h]

theorem State.word_setCause (s : State) (f : Fld) (e : Event) (a : Nat) (h : quiet a = true) (hf : a ≠ f.addr) :
    (s.setCause f e).word a = s.word a := by
  unfold State.setCause
  split
  · rfl
  · rw [State.word_raise _ _ _ h, State.word_putB_ne _ _ _ _ hf]

theorem State.get_setCause_apart (s : State) (f g : Fld) (e : Event) (h : quiet g.addr = true) (hf : f.apart g = true) :
    (s.setCause f e).get g = s.get g := by
  unfold State.setCause
  split
  · rfl
  · rw [State.get_raise _ _ _ h, State.get_putB_apart _ _ _ _ hf]

/-- A cause that has come is set. -/
theorem State.flag_setCause_self (s : State) (f : Fld) (e : Event) (h : quiet f.addr = true) (hb : f.lo + f.wid ≤ 32)
    (hw : 0 < f.wid) : (s.setCause f e).flag f = true := by
  unfold State.setCause
  split
  · assumption
  · rw [State.flag, State.get_raise _ _ _ h, ← State.flag, State.flag_putB_self _ _ _ hb hw]

/-! ### An event raised in a live device is set -/

theorem State.word_record_evraw (s : State) (k c d0 d1 d2 p : Nat) :
    (s.record k c d0 d1 d2).word (evrawAddr p) = s.word (evrawAddr p) := by
  have hb := quiet_not_bbx p
  unfold State.record
  split
  · rfl
  · simp only []
    split
    · split
      · exact State.word_inc_ne _ _ _ hb.2.1
      · exact State.word_incSat_ne _ _ _ hb.2.2
    · rw [State.word_inc_ne _ _ _ hb.2.1]
      simp only [State.ringPut, State.word_mk, State.kget_regs]
      rw [State.word_put_ne _ _ _ _ hb.1, State.word_setBytes]

theorem State.raised_raise (s : State) (e : Event) (ha : s.alive = true) (hb : e.bit < 32) :
    (s.raise e).raised e = true := by
  unfold State.raise
  simp only []
  split
  · rename_i h
    simp only [ha, Bool.not_true, Bool.false_or, Bool.and_eq_true] at h
    exact h.1
  · have hne : evrawAddr e.page ≠ evpndAddr e.page := by simp only [evrawAddr, evpndAddr]; omega
    have hbit : ∀ w : Word, (w ||| 1#32 <<< e.bit).getLsbD e.bit = true := by
      intro w; simp [hb]
    split <;> split <;>
      simp [State.raised, State.word_record_evraw, State.word_setWord_ne _ _ _ _ hne, hb]

/-! ### Bytes -/

/-- A record stores in the ring alone (R382). -/
theorem State.byte_record_out (s : State) (k c d0 d1 d2 a : Nat) (h : a < 0x12000000 ∨ 0x12020000 ≤ a) :
    (s.record k c d0 d1 d2).byte a = s.byte a := by
  have hn : s.get Reg.BBX_RECPTR_NEXT < 4096 := Fld.extract_lt Reg.BBX_RECPTR_NEXT _
  exact State.byte_record _ _ _ _ _ _ _ (by simp only [recordAddr]; omega)

theorem State.byte_congr {s t : State} (h : t.mem = s.mem) (a : Nat) : t.byte a = s.byte a := by
  simp only [State.byte, h]

theorem State.byte_raise_out (s : State) (e : Event) (a : Nat) (h : a < 0x12000000 ∨ 0x12020000 ≤ a) :
    (s.raise e).byte a = s.byte a := by
  unfold State.raise
  simp only []
  split
  · rfl
  · split <;> split <;> first
      | rfl
      | (rw [State.byte_record_out _ _ _ _ _ _ _ h]; rfl)

theorem State.byte_setCause_out (s : State) (f : Fld) (e : Event) (a : Nat) (h : a < 0x12000000 ∨ 0x12020000 ≤ a) :
    (s.setCause f e).byte a = s.byte a := by
  unfold State.setCause
  split
  · rfl
  · rw [State.byte_raise_out _ _ _ h]; rfl

theorem State.byte_raiseIf_out (s : State) (c : Bool) (e : Event) (a : Nat) (h : a < 0x12000000 ∨ 0x12020000 ≤ a) :
    (s.raiseIf c e).byte a = s.byte a := by
  unfold State.raiseIf
  split
  · exact State.byte_raise_out _ _ _ h
  · rfl

@[simp] theorem State.byte_setWord (s : State) (a b : Nat) (w : Word) : (s.setWord a w).byte b = s.byte b := rfl
@[simp] theorem State.byte_put (s : State) (f : Fld) (v b : Nat) : (s.put f v).byte b = s.byte b := rfl
@[simp] theorem State.byte_putB (s : State) (f : Fld) (v : Bool) (b : Nat) : (s.putB f v).byte b = s.byte b := rfl
@[simp] theorem State.byte_putI (s : State) (f : Fld) (v : Int) (b : Nat) : (s.putI f v).byte b = s.byte b := rfl
@[simp] theorem State.byte_putBit (s : State) (f : Fld) (i : Nat) (v : Bool) (b : Nat) :
    (s.putBit f i v).byte b = s.byte b := rfl
@[simp] theorem State.byte_inc (s : State) (f : Fld) (b : Nat) : (s.inc f).byte b = s.byte b := rfl
@[simp] theorem State.byte_incSat (s : State) (f : Fld) (b : Nat) : (s.incSat f).byte b = s.byte b := rfl
@[simp] theorem State.byte_advanceTo (s : State) (t b : Nat) : (s.advanceTo t).byte b = s.byte b := rfl
@[simp] theorem State.byte_nextFree (s : State) (b : Nat) : s.nextFree.byte b = s.byte b := rfl


theorem leBytes_length (k n : Nat) : (leBytes k n).length = k := by
  induction k generalizing n with
  | zero => rfl
  | succ k ih => simp [leBytes, ih]

theorem State.byte_setMemWord_out (s : State) (a w c : Nat) (h : c < a ∨ a + 4 ≤ c) :
    (s.setMemWord a w).byte c = s.byte c :=
  State.byte_setBytes_out _ _ _ _ (by rw [leBytes_length]; exact h)

theorem State.byte_setMemWords_out (l : List Nat) : ∀ (s : State) (a c : Nat), (c < a ∨ a + 4 * l.length ≤ c) →
    (s.setMemWords a l).byte c = s.byte c := by
  induction l with
  | nil => intro s a c _; rfl
  | cons w l ih =>
    intro s a c h
    simp only [List.length_cons] at h
    rw [State.setMemWords, ih _ _ _ (by omega), State.byte_setMemWord_out _ _ _ _ (by omega)]

/-! ### A record in the ring -/

@[simp] theorem State.byte_ringPut (s : State) (r : BbxRec) (a : Nat) :
    (s.ringPut r).byte a = (s.setBytes (recordAddr (s.get Reg.BBX_RECPTR_NEXT)) r.bytes).byte a := by
  simp only [State.ringPut, State.byte_mk, State.put_mem, State.kget_mem]

theorem State.word_ringPut (s : State) (r : BbxRec) (a : Nat) (h : a ≠ Reg.BBX_RECPTR) :
    (s.ringPut r).word a = s.word a := by
  simp only [State.ringPut, State.word_mk, State.kget_regs]
  rw [State.word_put_ne _ _ _ _ h, State.word_setBytes]

theorem State.next_ringPut (s : State) (r : BbxRec) :
    (s.ringPut r).get Reg.BBX_RECPTR_NEXT = (s.get Reg.BBX_RECPTR_NEXT + 1) % 4096 := by
  simp only [State.ringPut, State.get_mk, State.kget_regs, State.extract_word]
  exact State.get_put_self _ _ _ (by decide)

/-- The bytes just stored read back. -/
theorem State.bytes_setBytes (s : State) (a : Nat) (l : List Byte) : (s.setBytes a l).bytes a l.length = l := by
  apply List.ext_getElem
  · simp [State.bytes]
  · intro i h5 h6
    simp only [State.bytes, List.getElem_map, List.getElem_range]
    exact State.byte_setBytes_in l s a i h6

theorem State.bytes_congr {s t : State} (h : ∀ a, t.byte a = s.byte a) (a n : Nat) : t.bytes a n = s.bytes a n := by
  simp only [State.bytes, h]

/-! ### One bit of a field -/

theorem bitTo_self (n i : Nat) (b : Bool) : (bitTo n i b).testBit i = b := by
  unfold bitTo
  split
  · assumption
  · rename_i h
    split
    · rename_i hb
      subst hb
      rw [Nat.add_comm, Nat.testBit_two_pow_add_eq]
      simpa using h
    · rename_i hb
      have hb' : b = false := by simpa using hb
      subst hb'
      have hn : n.testBit i = true := by simpa using h
      have e : n = 2 ^ i + (n - 2 ^ i) := by have := Nat.ge_two_pow_of_testBit hn; omega
      have := Nat.testBit_two_pow_add_eq (n - 2 ^ i) i
      rw [← e, hn] at this
      simpa using this.symm

theorem testBit_add_two_pow_ne (m i j : Nat) (h : j ≠ i) (hm : m.testBit i = false) :
    (m + 2 ^ i).testBit j = m.testBit j := by
  rcases Nat.lt_or_gt_of_ne h with hlt | hgt
  · rw [Nat.add_comm, Nat.testBit_two_pow_add_gt hlt]
  · have hr : m % 2 ^ (i + 1) < 2 ^ i := by
      apply Nat.lt_pow_two_of_testBit
      intro k hk
      rw [Nat.testBit_mod_two_pow]
      by_cases hki : k = i
      · subst hki; simp [hm]
      · simp; intro; omega
    have e := Nat.div_add_mod m (2 ^ (i + 1))
    have e2 : m + 2 ^ i = 2 ^ (i + 1) * (m / 2 ^ (i + 1)) + (m % 2 ^ (i + 1) + 2 ^ i) := by omega
    have hs : 2 ^ (i + 1) = 2 ^ i + 2 ^ i := by rw [Nat.pow_succ]; omega
    rw [e2, Nat.testBit_two_pow_mul_add _ (by omega), if_neg (by omega)]
    conv => rhs; rw [← e]
    rw [Nat.testBit_two_pow_mul_add _ (by omega), if_neg (by omega)]

theorem bitTo_ne (n i j : Nat) (b : Bool) (h : j ≠ i) : (bitTo n i b).testBit j = n.testBit j := by
  unfold bitTo
  split
  · rfl
  · rename_i hn
    split
    · rename_i hb
      exact testBit_add_two_pow_ne n i j h (by subst hb; simpa using hn)
    · rename_i hb
      have hb' : b = false := by simpa using hb
      have ht : n.testBit i = true := by subst hb'; simpa using hn
      have hself : (n - 2 ^ i).testBit i = false := by
        have := bitTo_self n i false
        rw [bitTo, if_neg (by simp [ht])] at this
        simpa using this
      have := testBit_add_two_pow_ne (n - 2 ^ i) i j h hself
      rw [Nat.sub_add_cancel (Nat.ge_two_pow_of_testBit ht)] at this
      exact this.symm

theorem State.bit_putBit_self (s : State) (f : Fld) (i : Nat) (b : Bool) (h : f.lo + f.wid ≤ 32) (hi : i < f.wid) :
    (s.putBit f i b).bit f i = b := by
  simp only [State.bit, State.putBit]
  rw [State.get_put_self _ _ _ h, Nat.testBit_mod_two_pow, bitTo_self]
  simp [hi]

theorem State.bit_putBit_ne (s : State) (f : Fld) (i j : Nat) (b : Bool) (h : f.lo + f.wid ≤ 32) (hj : j ≠ i) :
    (s.putBit f i b).bit f j = s.bit f j := by
  simp only [State.bit, State.putBit]
  rw [State.get_put_self _ _ _ h, Nat.testBit_mod_two_pow, bitTo_ne _ _ _ _ hj]
  by_cases hw : j < f.wid
  · simp [hw]
  · have hlt : s.get f < 2 ^ f.wid := Fld.extract_lt f _
    have : (s.get f).testBit j = false :=
      Nat.testBit_lt_two_pow (Nat.lt_of_lt_of_le hlt (Nat.pow_le_pow_right (by decide) (by omega)))
    simp [this]

/-! ### Pages and refused accesses -/

/-- On the full build every page is there (R3). -/
theorem State.onPage_full (s : State) (ini : Ini) (a : Nat) (f : State → State) (h : s.full = true) :
    s.onPage ini a f = f s := by
  simp [State.onPage, State.pageOn, h]

/-- A refused access changes the access record and the events alone (R425). -/
theorem State.word_accessFault (s : State) (ini : Ini) (w : Bool) (n a : Nat) (h : quiet a = true)
    (h1 : a ≠ Reg.SYS_ACCINFO) (h2 : a ≠ Reg.SYS_ACCADDR) : (s.accessFault ini w n).word a = s.word a := by
  unfold State.accessFault State.accessRecord
  rw [State.word_raise _ _ _ h, State.word_put_ne _ _ _ _ h2, State.word_put_ne _ _ _ _ h1,
    State.word_put_ne _ _ _ _ h1, State.word_putB_ne _ _ _ _ h1, State.word_put_ne _ _ _ _ h1]

theorem State.word_accessDisabled (s : State) (ini : Ini) (n a : Nat) (h : quiet a = true)
    (h1 : a ≠ Reg.SYS_ACCINFO) (h2 : a ≠ Reg.SYS_ACCADDR) : (s.accessDisabled ini n).word a = s.word a := by
  unfold State.accessDisabled State.accessRecord
  rw [State.word_raise _ _ _ h, State.word_put_ne _ _ _ _ h2, State.word_put_ne _ _ _ _ h1,
    State.word_put_ne _ _ _ _ h1, State.word_putB_ne _ _ _ _ h1, State.word_put_ne _ _ _ _ h1]

theorem State.word_configLocked (s : State) (ini : Ini) (n a : Nat) (h : quiet a = true)
    (h1 : a ≠ Reg.SYS_ACCINFO) (h2 : a ≠ Reg.SYS_ACCADDR) : (s.configLocked ini n).word a = s.word a := by
  unfold State.configLocked State.accessRecord
  rw [State.word_raise _ _ _ h, State.word_put_ne _ _ _ _ h2, State.word_put_ne _ _ _ _ h1,
    State.word_put_ne _ _ _ _ h1, State.word_putB_ne _ _ _ _ h1, State.word_put_ne _ _ _ _ h1]

theorem State.byte_accessFault (s : State) (ini : Ini) (w : Bool) (n a : Nat) (h : a < 0x12000000 ∨ 0x12020000 ≤ a) :
    (s.accessFault ini w n).byte a = s.byte a := by
  unfold State.accessFault State.accessRecord
  rw [State.byte_raise_out _ _ _ h]
  rfl

/-! ### Answers -/

theorem Runs.next (s : State) : Runs (.next s) := ⟨s, rfl⟩

theorem Runs.ite {a b : Result} {c : Prop} [Decidable c] (ha : c → Runs a) (hb : ¬c → Runs b) :
    Runs (if c then a else b) := by
  split
  · exact ha ‹_›
  · exact hb ‹_›

theorem Gives.next {s : State} {p : State → Prop} (h : p s) : Gives (.next s) p := ⟨s, rfl, h⟩

end Sys2Proof.Machine
end

