-- ==== Sys2Proof/Laws/Restart.lean ====
section
/-!
SUPPORT. What the start of a pair restart leaves (R314 step 1, R315): the pair in reset with its cause, its tick and no task.
-/
namespace Sys2Proof.Machine

theorem State.foldl_skip_tick (n : Nat) (s : State) :
    ((List.range n).foldl (fun s _ => s.skipEntry) s).tick = s.tick := by
  induction n with
  | zero => rfl
  | succ n ih =>
    rw [List.range_succ, List.foldl_append, List.foldl_cons, List.foldl_nil, ← ih, State.skipEntry]
    simp only [State.incSat_tick, State.raise_tick]

theorem State.foldl_skip_tt (n : Nat) (s : State) :
    ((List.range n).foldl (fun s _ => s.skipEntry) s).tt = s.tt := by
  induction n with
  | zero => rfl
  | succ n ih =>
    rw [List.range_succ, List.foldl_append, List.foldl_cons, List.foldl_nil, ← ih, State.skipEntry]
    simp only [State.incSat_tt, State.raise_tt]

theorem State.foldl_skip_out (n : Nat) (s : State) :
    ((List.range n).foldl (fun s _ => s.skipEntry) s).out = s.out := by
  induction n with
  | zero => rfl
  | succ n ih =>
    rw [List.range_succ, List.foldl_append, List.foldl_cons, List.foldl_nil, ← ih, State.skipEntry]
    simp only [State.incSat_out, State.raise_out]

theorem State.foldl_skip_power (n : Nat) (s : State) :
    ((List.range n).foldl (fun s _ => s.skipEntry) s).power = s.power := by
  induction n with
  | zero => rfl
  | succ n ih =>
    rw [List.range_succ, List.foldl_append, List.foldl_cons, List.foldl_nil, ← ih, State.skipEntry]
    simp only [State.incSat_power, State.raise_power]

/-- Skipped entries change only the skip count and the words of events. -/
theorem State.foldl_skip_word (n : Nat) (s : State) (a : Nat) (h : quiet a = true) (ha : a ≠ Reg.TT_SKIPCNT) :
    ((List.range n).foldl (fun s _ => s.skipEntry) s).word a = s.word a := by
  induction n with
  | zero => rfl
  | succ n ih =>
    rw [List.range_succ, List.foldl_append, List.foldl_cons, List.foldl_nil, State.skipEntry,
      State.word_incSat_ne _ _ _ ha, State.word_raise _ _ _ h, ih]

theorem State.dropTasks_tick (s : State) (p : Pair) : (s.dropTasks p).tick = s.tick := by
  unfold State.dropTasks
  simp only []
  rw [State.foldl_skip_tick]
  cases p <;> rfl

theorem State.dropTasks_out (s : State) (p : Pair) : (s.dropTasks p).out = s.out := by
  unfold State.dropTasks
  simp only []
  rw [State.foldl_skip_out]
  cases p <;> rfl

theorem State.dropTasks_power (s : State) (p : Pair) : (s.dropTasks p).power = s.power := by
  unfold State.dropTasks
  simp only []
  rw [State.foldl_skip_power]
  cases p <;> rfl

theorem State.dropTasks_tasks (s : State) (p : Pair) :
    (s.dropTasks p).tt.tasks = s.tt.tasks.filter (·.pair != p) := by
  unfold State.dropTasks
  simp only []
  rw [State.foldl_skip_tt]
  cases p <;> rfl

theorem State.word_dropTasks (s : State) (p : Pair) (a : Nat) (h : quiet a = true) (ha : a ≠ Reg.TT_SKIPCNT) :
    (s.dropTasks p).word a = s.word a := by
  unfold State.dropTasks
  simp only []
  rw [State.foldl_skip_word _ _ _ h ha]
  cases p <;> rfl

@[simp] theorem State.abortTest_tick (s : State) : s.abortTest.tick = s.tick := by
  unfold State.abortTest
  split
  · rfl
  · simp [State.testIncomplete]

@[simp] theorem State.abortTest_tt (s : State) : s.abortTest.tt = s.tt := by
  unfold State.abortTest
  split
  · rfl
  · simp [State.testIncomplete]

@[simp] theorem State.abortTest_power (s : State) : s.abortTest.power = s.power := by
  unfold State.abortTest
  split
  · rfl
  · simp [State.testIncomplete]

theorem State.beginRestart_facts (s : State) (p : Pair) (c : Nat) :
    ((s.beginRestart p c).core p).inReset = true ∧
    (s.beginRestart p c).get (Reg.CP_RSTINFO_CAUSE.at p.idx) = c % 16 ∧
    (s.beginRestart p c).flag (Reg.CP_RSTINFO_RESTARTED.at p.idx) = true ∧
    (s.beginRestart p c).get (Reg.CP_RSTTICK_TICK.at p.idx) = s.tick % 2 ^ 32 ∧
    (s.beginRestart p c).flag (Reg.CP_STAT_DBGHALT.at p.idx) = false ∧
    ∀ k, k ∈ (s.beginRestart p c).tt.tasks → k.pair ≠ p := by
  have ht : ((s.dropTasks p).abortTest).tick = s.tick := by rw [State.abortTest_tick, State.dropTasks_tick]
  have hk : ((s.dropTasks p).abortTest).tt.tasks = s.tt.tasks.filter (·.pair != p) := by
    rw [State.abortTest_tt, State.dropTasks_tasks]
  unfold State.beginRestart
  simp only []
  generalize (s.dropTasks p).abortTest = u at ht hk ⊢
  have hm : ∀ k, k ∈ u.tt.tasks → k.pair ≠ p := by
    rw [hk]
    intro k h
    simpa using (List.mem_filter.1 h).2
  cases p <;> split <;>
    simp (disch := decide) [State.setCore, State.core, State.flag, State.get_raise, State.get_put_self,
      State.get_put_apart, State.get_putB_self, State.get_putB_apart, ht] <;>
    exact ⟨rfl, rfl, hm⟩

end Sys2Proof.Machine
end

