-- ==== Sys2Proof/Tests/Slice0.lean ====
section
/-!
SUPPORT. Small tests of the model: ill-formed commands, single steps with the spec's own figures, and for each statement
of Obligations the states and operands that meet the hypotheses of its clauses, clause by clause.
-/
namespace Sys2Proof.Machine

-- One theorem at a time, and deep enough for the machine's records.
set_option Elab.async false
set_option maxRecDepth 8000

/-! ### Helper states -/

/-- A lead that has booted and runs, Safety Net released. -/
def running : State := { State.reset with
  regs := [], cm := { running := true }, power := { phase := .run, pll := true },
  cpa := { inReset := false }, cpb := { inReset := false } }
/-- A well-formed sample set. -/
def wSet : SampleSet := ⟨999999, 0, true, List.replicate 48 0, List.replicate 48 0, 0, 0, [0, 0, 0, 0], 0, 0, 0⟩
/-- A well-formed set packet of follower 7. -/
def wPacket : SetPacket := ⟨7, 65535, 39, false, true, List.replicate 48 0, List.replicate 48 15, 0, 0, [0, 0, 0, 0], 0⟩
/-- A well-formed frame record of follower 7. -/
def wRecord : FrameRecord := {
  dev := 7, frame := 65535, crcOk := true, anchor := false, setid := 0, digest := 0,
  localCommit := false, temps := List.replicate 24 (0, 0), stage := 3, dies := List.replicate 8 250, hallRange := false,
  hallDis := false, avg1 := 0, avg2 := 0, avgH := 0, volts := [0, 0, 0, 0], chassis := 0, quiet := [], trip := false,
  chgforb := false, grants := 0, reaction := false, ont := List.replicate 48 0, rbal := 0, paused := false,
  readmit := false }
/-- A well-formed classic frame. -/
def wFrame : BusFrame := ⟨false, false, 0x7FF, false, false, false, 8, List.replicate 8 255⟩
/-- A task of Pair A in entry 5. -/
def wTask : Task := ⟨.a, 5, 0, 4000, none⟩
/-- A freeze of tick 0. -/
def wFreeze : Freeze := ⟨0, 0, 0, 0, 0, 0, false, 0⟩
/-- An image with no schedule entry. -/
def wImage : Image := ⟨0, 0, 0, [], []⟩
/-- The lead as the anchor of the pack, no comparator above its threshold. -/
def anchor : State := { running.putB Reg.SYS_PROFSTAT_ANCHOR true with
  ipk := { running.ipk with raw := [false, false, false, false], rawAt := [0, 0, 0, 0] } }
theorem target_zero (s : State) (h : s.flag Reg.THM_COOLCFG_AUTO = false) (d : s.get Reg.PMP_SETP_DEMAND = 0) :
    s.pmpTarget = 0 := by simp [State.pmpTarget, h, d]
theorem target_full (s : State) (h : s.flag Reg.THM_COOLCFG_AUTO = false) (d : s.get Reg.PMP_SETP_DEMAND = 1000)
    (n : s.get Reg.PMP_SPEED_NMAX = 1000) : s.pmpTarget = 1000 := by
  simp [State.pmpTarget, State.pmpNmax, h, d, n]; norm_num
theorem class_three (s : State) (i : Nat) (h0 : (s.get Reg.THM_CURVESEL_SEL).testBit i = false)
    (h1 : s.get Reg.THM_CURVE0_RES = 0) (h2 : s.get (Reg.THM_CURVE0_RES.at 36) = 0) (h3 : 1 < s.get Reg.THM_FLTCFG_OPENCODE)
    (h4 : s.get Reg.THM_FLTCFG_SHORTCODE = 0) (h5 : s.thm.suspect.testBit i = false) : s.sampleClass i 1 = 3 := by
  have h1' : s.get (Reg.THM_CURVE0_RES.at 0) = 0 := h1
  have : ¬ (s.get Reg.THM_FLTCFG_OPENCODE ≤ 1) := by omega
  simp [State.sampleClass, State.curvePoint, h0, h1', h2, h4, h5, this, codeRes]
theorem class_four (s : State) (i : Nat) (h0 : (s.get Reg.THM_CURVESEL_SEL).testBit i = false)
    (h1 : s.get Reg.THM_CURVE0_RES = 1000) (h2 : s.get (Reg.THM_CURVE0_RES.at 36) = 1000)
    (h3 : 1 < s.get Reg.THM_FLTCFG_OPENCODE)
    (h4 : s.get Reg.THM_FLTCFG_SHORTCODE = 0) (h5 : s.thm.suspect.testBit i = false) : s.sampleClass i 1 = 4 := by
  have h1' : s.get (Reg.THM_CURVE0_RES.at 0) = 1000 := h1
  have : ¬ (s.get Reg.THM_FLTCFG_OPENCODE ≤ 1) := by omega
  simp [State.sampleClass, State.curvePoint, h0, h1', h2, h4, h5, this, codeRes]; norm_num
theorem start_ok (s : State) (h : s.flag Reg.THM_COOLCFG_AUTO = false) (d : s.get Reg.PMP_SETP_DEMAND = 0)
    (o : s.pmpObsmin = 0) : ((5 * s.pmpObsmin : Nat) : Rat) ≤ 4 * s.pmpTarget := by rw [target_zero s h d, o]; norm_num
/-- A stored impedance result. -/
def wRes : EisRes := ⟨0, 0, 2 ^ 24 - 1, 0, 100, 0, 1, 0⟩
theorem heard_zero (s : State) : s.pmpHeard 0 = 0 := by simp [State.pmpHeard]
theorem heard_fast (s : State) (h : 3000 ≤ 1000 * clampN 1 15 (s.get Reg.PMP_MOTOR2_PP)) : s.pmpHeard 1000 = 1000 := by
  simp [State.pmpHeard]; omega

/-! ### Ill-formed commands -/

theorem test_wf_addresses : (Instr.registerWrite .pairA 0x40006041 0).wf = false ∧
    (Instr.registerWrite .pairA (2 ^ 32) 0).wf = false ∧ (Instr.stagedWrite .pairB 0x40006842 0).wf = false ∧
    (Instr.narrowOrUnalignedAccess .link true (2 ^ 32)).wf = false ∧ (Instr.pairMismatch .a (2 ^ 32)).wf = false ∧
    (Instr.memoryAccessFault .a true (2 ^ 32)).wf = false ∧ (Instr.jtagDbgacc false (2 ^ 32) 0).wf = false ∧
    (Instr.programRegionWrite .pairA 2 0).wf = false ∧ (Instr.dataMramStore .b 3 0).wf = false := by decide
theorem test_wf_frame : (Instr.frameBoundary []).wf = false ∧ (Instr.slotRelease 0).wf = false ∧
    (Instr.slotRelease 1000).wf = false ∧ (Instr.sampleInstant 1000000 0 0 0).wf = false ∧
    (Instr.sampleSetMissing 1000000).wf = false ∧ (Instr.sampleSetArrival { wSet with cells := [] }).wf = false ∧
    (Instr.quietInstant []).wf = false ∧ (Instr.ctsSample 0 0 0 0 0 1000000).wf = false := by decide
theorem test_wf_entries : (Instr.taskDone .pairA .a 4096).wf = false ∧ (Instr.killAck .pairA .a 4096).wf = false ∧
    (Instr.taskOverrun 4096).wf = false ∧ (Instr.killAckTimeout 4096).wf = false ∧
    (Instr.acceleratorOverrun 4096).wf = false ∧ (Instr.profileRequestWrite .pairA 4).wf = false ∧
    (Instr.stgArm .pairA 16 false).wf = false ∧ (Instr.commitPointReached 0).wf = false ∧
    (Instr.commitPointReached 16).wf = false := by decide
theorem test_wf_packets : (Instr.cascadeArmReceived (2 ^ 32) false 0).wf = false ∧
    (Instr.checkReportReceived 0 0 0).wf = false ∧ (Instr.checkReportReceived 8 0 0).wf = false ∧
    (Instr.setPacketReceived { wPacket with dev := 8 }).wf = false ∧
    (Instr.setPacketReceived { wPacket with idx := 40 }).wf = false ∧
    (Instr.setPacketReceived { wPacket with flags := List.replicate 48 16 }).wf = false ∧
    (Instr.frameRecordReceived { wRecord with dev := 0 }).wf = false ∧
    (Instr.frameRecordReceived { wRecord with quiet := [0] }).wf = false ∧
    (Instr.heartbeatReceived true (2 ^ 64) false).wf = false := by decide
theorem test_wf_links : (Instr.accessPacketReceived true (.request 16) 1).wf = false ∧
    (Instr.accessPacketReceived true (.start 0 0 128) 1).wf = false ∧
    (Instr.accessPacketReceived true (.suspect (2 ^ 24)) 1).wf = false ∧
    (Instr.accessReplyReceived 8 true (.data 0 0)).wf = false ∧ (Instr.enumTokenReceived true 9 true).wf = false ∧
    (Instr.hopLockLost 8).wf = false ∧ (Instr.hopLockGained 8).wf = false ∧ (Instr.followerLost 0).wf = false ∧
    (Instr.followerLossTrip 8).wf = false := by decide
theorem test_wf_blocks : (Instr.estCellSelect .pairB 512).wf = false ∧ (Instr.eisResultSelect .pairB 8 0).wf = false ∧
    (Instr.thmCellSelect .pairB 512).wf = false ∧ (Instr.thermistorSample 24 0).wf = false ∧
    (Instr.thermistorSample 0 65536).wf = false ∧ (Instr.channelCurrentReading [] 0 []).wf = false ∧
    (Instr.checkpointComplete [] []).wf = false ∧ (Instr.svnminWrite .pairA (2 ^ 32)).wf = false ∧
    (Instr.keyRevoke .pairA (2 ^ 32)).wf = false ∧ (Instr.powerOn 16).wf = false := by decide
theorem test_wf_ports : (Instr.canAbdDone 0 16 0).wf = false ∧
    (Instr.canFrameReceived 0 { wFrame with id := 2 ^ 11 }).wf = false ∧
    (Instr.canFrameReceived 0 { wFrame with dlc := 16 }).wf = false ∧ (Instr.canTxSuccess 0 (2 ^ 16)).wf = false ∧
    (Instr.cantxWindowEnd 0 128).wf = false ∧ (Instr.canErrorStateChange 0 512 0).wf = false ∧
    (Instr.canReceiveError 0 0 256).wf = false ∧ (Instr.canWakeFrame false (2 ^ 11) false true).wf = false ∧
    (Instr.hostWrite 2048 0).wf = false ∧ (Instr.spiDeselect 16).wf = false := by decide
theorem test_wf_holds : (Instr.registerWrite .pairA 0x40006040 0).wf = true ∧ (Instr.sampleSetArrival wSet).wf = true ∧
    (Instr.setPacketReceived wPacket).wf = true ∧ (Instr.frameRecordReceived wRecord).wf = true ∧
    (Instr.canFrameReceived 3 wFrame).wf = true := by decide

/-! ### Single steps with the spec's own figures -/

/-- The ASCII bytes "123456789". -/
def digits : List Byte := [0x31, 0x32, 0x33, 0x34, 0x35, 0x36, 0x37, 0x38, 0x39]

/-- Check value of R353. -/
theorem test_crc32c_check : crc32c digits = 0xE3069283 := by decide
/-- Check value of R463. -/
theorem test_crc8_check : crc8 digits = 0xDF := by decide
/-- Worked example of chapter 0: the staged copy of offset 0x040 of the CELL page. -/
theorem test_staged_address : stagedOf 0x40006840 = some 0x40006040 ∧ stagedOf 0x40006808 = none ∧
    pageOf 0x40006840 = 6 := by decide
/-- R2: the identity of the full build, in its fixed bits. -/
theorem test_identity : (running.regRead 0x40000000).extractLsb' 16 16 = 0x4848 ∧
    (running.regRead 0x40000000).extractLsb' 0 8 = 0x01 := by decide
/-- R3: a page that the AEV4848F lacks reads 0, ID included. -/
theorem test_page_off : State.regRead { running with full := false } 0x4000C000 = 0 := by decide
/-- Worked example of chapter 16: 0x0003_1F40 minus 2 in two words of the Live Table, and IDIS10. -/
theorem test_halves : 0x0003 * 65536 + 0x1F3E = 0x00031F40 - 2 ∧ 0x0007 * 65536 + 0x6818 = 485400 := by decide
/-- R22: a narrow write has no effect on the register and raises ACCESS_FAULT. -/
theorem test_narrow : ∃ t, exec (.narrowOrUnalignedAccess .pairB true 0x40006009) running = .next t ∧
    t.raised Ev.ACCESS_FAULT = true ∧ t.word 0x40006008 = running.word 0x40006008 := ⟨_, rfl, by decide⟩
/-- R13, R354: the connection's window is 100,000 ticks for each ms of E, at least 1 ms. -/
theorem test_window : (running.put (Reg.TKT_TIM_EXP.at 31) 0).connWindow 31 = 100000 ∧
    (running.put (Reg.TKT_TIM_EXP.at 31) 1000).connWindow 31 = 100000000 := by decide
/-- R38: only the lead takes a profile request. -/
theorem test_profile_request : ∃ t, exec (.profileRequestWrite .pairA 2) running = .next t ∧
    t.get Reg.SYS_PROFREQ_REQ = 2 := ⟨_, rfl, by decide⟩
/-- A step takes the front of the queue and leaves the rest. -/
theorem test_step_front : ∃ t, step { running with pending := [.tckActivity, .eisTcal .pairB] } = .next t ∧
    t.flag Reg.DBG_STAT_CONN = true ∧ t.pending.length = 1 := ⟨_, rfl, by decide⟩
/-- R432: activity on TCK sets CONN. -/
theorem test_tck : ∃ t, exec .tckActivity running = .next t ∧ t.flag Reg.DBG_STAT_CONN = true := ⟨_, rfl, by decide⟩
/-- R357: the window of a connection with E = 1 ms ends 100,000 ticks after its start, and it expires. -/
theorem test_expiry : ∃ t, exec (.ticketExpiry 5) ((running.put (Reg.TKT_STAT_STATE.at 5) 2).put
      (Reg.TKT_TIM_EXP.at 5) 1) = .next t ∧ t.connState 5 = 3 ∧ t.now = 100000 := ⟨_, rfl, by decide⟩

/-! ### Witnesses -/

/-- What meets the hypotheses of `Obligations.EmptyQueueIdles`. -/
theorem wit_EmptyQueueIdles :
    ∃ (s : State), s.pending = [] :=
  ⟨running, by decide⟩

/-- What meets the hypotheses of `Obligations.StepKeepsCanonicalStores`. -/
theorem wit_StepKeepsCanonicalStores :
    ∃ (s : State), s.canon = true :=
  ⟨running, by decide⟩

/-- What meets the hypotheses of `Obligations.TimebaseCommands`. -/
theorem wit_TimebaseCommands :
    (∃ (secs : Word) (s : State), s.flag Reg.TMB_GAPSTAT_ATTESTED = false ∧ secs ≠ 0) ∧
    (∃ (secs : Word) (s : State), (s.flag Reg.TMB_GAPSTAT_ATTESTED = true ∨ secs = 0)) :=
  ⟨⟨1, running |> (fun s => s.putB Reg.TMB_GAPSTAT_ATTESTED false), by decide⟩,
   ⟨0, running |> (fun s => s.putB Reg.TMB_GAPSTAT_ATTESTED true), by decide⟩⟩

/-- What meets the hypotheses of `Obligations.RecordsEnterTheRing`. -/
theorem wit_RecordsEnterTheRing :
    (∃ (ini : Ini) (src : Nat) (s : State), ((ini = .pairA ∧ src = 0x0A) ∨ (ini = .pairB ∧ src = 0x0B)) ∧
      s.sleeping = false ∧ s.alive = true ∧ s.ringStopped = true ∧ s.bbx.fifo.length < 64) ∧
    (∃ (ini : Ini) (src : Nat) (s : State), ((ini = .pairA ∧ src = 0x0A) ∨ (ini = .pairB ∧ src = 0x0B)) ∧
      s.sleeping = false ∧ s.alive = true ∧ s.ringStopped = true ∧ 64 ≤ s.bbx.fifo.length) ∧
    (∃ (ini : Ini) (src : Nat) (s : State), ((ini = .pairA ∧ src = 0x0A) ∨ (ini = .pairB ∧ src = 0x0B)) ∧
      s.sleeping = true) :=
  ⟨⟨.pairA, 0x0A, running |> (fun s => s.put Reg.SYS_PROFSTAT_PROF 0)
     |> (fun s => { s with bbx := { s.bbx with copy := some { wFreeze with started := true } } }), by decide⟩,
   ⟨.pairA, 0x0A, running |> (fun s => s.put Reg.SYS_PROFSTAT_PROF 0)
     |> (fun s => { s with bbx := { s.bbx with copy := some { wFreeze with started := true } } })
     |> (fun s => { s with bbx := { s.bbx with fifo := List.replicate 64 (s.makeRecord 1 0 0 0 0) } }), by decide⟩,
   ⟨.pairA, 0x0A, running |> (fun s => s.put Reg.SYS_PROFSTAT_PROF 2), by decide⟩⟩

/-- What meets the hypotheses of `Obligations.FreezeAndSnapshotCommands`. -/
theorem wit_FreezeAndSnapshotCommands :
    (∃ (ini : Ini) (src : Nat) (s : State), ((ini = .pairA ∧ src = 0x0A) ∨ (ini = .pairB ∧ src = 0x0B)) ∧
      s.bbx.copy = none ∧ (s.flag Reg.BBX_CFG_KEEP = false ∨ s.flag Reg.BBX_STAT_HELD = false)) ∧
    (∃ (ini : Ini) (src : Nat) (s : State), ((ini = .pairA ∧ src = 0x0A) ∨ (ini = .pairB ∧ src = 0x0B)) ∧
      (s.bbx.copy.isSome = true ∨ (s.flag Reg.BBX_CFG_KEEP = true ∧ s.flag Reg.BBX_STAT_HELD = true))) ∧
    (∃ (s : State), s.flag Reg.BBX_STAT_VALID = false) ∧
    (∃ (s : State), s.get Reg.BBX_CFG_SNAPPER ≠ 0 ∧ s.frame % s.get Reg.BBX_CFG_SNAPPER = 0 ∧ s.cm.running = true ∧
      s.sleeping = false ∧ s.bbx.copy = none) ∧
    (∃ (f : Freeze) (s : State), s.bbx.copy = some f ∧ f.started = false ∧ s.power.port = 0 ∧
      (s.isLead = false ∨ s.power.warnAt = none ∨ s.est.jPend = false ∨ s.get Reg.PWR_HOLDE_UJ < 1200) ∧
      300 ≤ s.get Reg.PWR_HOLDE_UJ) ∧
    (∃ (f : Freeze) (s : State), s.bbx.copy = some f ∧ f.started = true ∧ s.power.port = 3 ∧ f.blocks < 48 ∧
      300 ≤ s.get Reg.PWR_HOLDE_UJ) :=
  ⟨⟨.pairA, 0x0A, running |> (fun s => { s with bbx := { s.bbx with copy := none } })
     |> (fun s => s.putB Reg.BBX_CFG_KEEP false), by decide⟩,
   ⟨.pairA, 0x0A, running
     |> (fun s => { s with bbx := { s.bbx with copy := some { wFreeze with started := true } } }), by decide⟩,
   ⟨running |> (fun s => s.putB Reg.BBX_STAT_VALID false), by decide⟩,
   ⟨running |> (fun s => s.put Reg.BBX_CFG_SNAPPER 1) |> (fun s => { s with cm := { s.cm with running := true } })
     |> (fun s => s.put Reg.SYS_PROFSTAT_PROF 0) |> (fun s => { s with bbx := { s.bbx with copy := none } }),
     by decide⟩,
   ⟨wFreeze, running |> (fun s => { s with bbx := { s.bbx with copy := some wFreeze } })
     |> (fun s => { s with power := { s.power with port := 0 } }) |> (fun s => { s with leadStrap := false })
     |> (fun s => s.put Reg.PWR_HOLDE_UJ 300), by decide⟩,
   ⟨{ wFreeze with started := true, blocks := 47 }, running
     |> (fun s => { s with bbx := { s.bbx with copy := some ({ wFreeze with started := true, blocks := 47 }) } })
     |> (fun s => { s with power := { s.power with port := 3 } }) |> (fun s => s.put Reg.PWR_HOLDE_UJ 300),
     by decide⟩⟩

/-- What meets the hypotheses of `Obligations.HostCycleCommands`, part 1. -/
theorem wit_HostCycleCommands_1 :
    (∃ (s : State), s.hostMode = 1) ∧
    (∃ (addr : Nat) (s : State) (k : Nat), s.hostMode = 1 ∧ addr < 32 ∧ k ≠ addr) ∧
    (∃ (addr : Nat) (s : State), s.hostMode = 1 ∧ 32 ≤ addr ∧ addr < 4096) ∧
    (∃ (s : State), s.hostMode = 2 ∧ s.hst.spi = none) ∧
    (∃ (addr : Nat) (s : State), s.hostMode = 2 ∧ s.hst.spi = some (true, addr) ∧ addr = 0) ∧
    (∃ (addr : Nat) (s : State), s.hostMode = 2 ∧ s.hst.spi = some (false, addr) ∧ addr < 32) :=
  ⟨⟨running |> (fun s => s.put Reg.HST_CFG_MODE 1), by decide⟩,
   ⟨31, running |> (fun s => s.put Reg.HST_CFG_MODE 1), 0, by decide⟩,
   ⟨4095, running |> (fun s => s.put Reg.HST_CFG_MODE 1), by decide⟩,
   ⟨running |> (fun s => s.put Reg.HST_CFG_MODE 2) |> (fun s => { s with hst := { s.hst with spi := none } }),
     by decide⟩,
   ⟨0, running |> (fun s => s.put Reg.HST_CFG_MODE 2)
     |> (fun s => { s with hst := { s.hst with spi := some (true, 0) } }), by decide⟩,
   ⟨31, running |> (fun s => s.put Reg.HST_CFG_MODE 2)
     |> (fun s => { s with hst := { s.hst with spi := some (false, 31) } }), by decide⟩⟩

/-- What meets the hypotheses of `Obligations.HostCycleCommands`, part 2. -/
theorem wit_HostCycleCommands_2 :
    (∃ (bits : Nat) (s : State), s.hostMode = 2 ∧ bits % 16 = 0) ∧
    (∃ (bits : Nat) (s : State), s.hostMode = 2 ∧ bits % 16 ≠ 0) ∧
    (∃ (u : Nat) (s : State), s.hst.hirq = some u) ∧
    (∃ (s : State), s.hostMode = 0) :=
  ⟨⟨0, running |> (fun s => s.put Reg.HST_CFG_MODE 2), by decide⟩,
   ⟨1, running |> (fun s => s.put Reg.HST_CFG_MODE 2), by decide⟩,
   ⟨0, running |> (fun s => { s with hst := { s.hst with hirq := some 0 } }), by decide⟩,
   ⟨running |> (fun s => s.put Reg.HST_CFG_MODE 0), by decide⟩⟩

/-- What meets the hypotheses of `Obligations.BackBufferCommands`. -/
theorem wit_BackBufferCommands :
    (∃ (ini : Ini) (s : State) (k : Nat),
      s.isLead = true ∧ backRange ini (s.get Reg.HST_BBADDR_INDEX / 2 * 2) = true ∧ (let i := s.get Reg.HST_BBADDR_INDEX / 2 * 2; k ≠ i) ∧ (let i := s.get Reg.HST_BBADDR_INDEX / 2 * 2; k ≠ i + 1)) ∧
    (∃ (s : State), s.isLead = true) ∧
    (∃ (s : State), s.full = true ∧ s.isLead = false) :=
  ⟨⟨.pairA, running |> (fun s => s.put Reg.HST_BBADDR_INDEX 0x5F), 4096, by decide⟩,
   ⟨running, by decide⟩,
   ⟨running |> (fun s => { s with full := true }) |> (fun s => { s with leadStrap := false }), by decide⟩⟩

/-- What meets the hypotheses of `Obligations.ProgramMemoryCommands`, part 1. -/
theorem wit_ProgramMemoryCommands_1 :
    (∃ (ini : Ini) (addr : Nat) (s : State), addr < 0x800000 ∧ ini ≠ .debug ∧
      s.regionActive (addr / 0x200000) = false ∧ s.bit Reg.NVM_PGMWE_WE (addr / 0x200000) = true ∧ s.stg.mask = 0) ∧
    (∃ (ini : Ini) (addr : Nat) (s : State),
      (ini = .debug ∨ s.regionActive (addr / 0x200000) = true ∨ s.bit Reg.NVM_PGMWE_WE (addr / 0x200000) = false)) ∧
    (∃ (p : Pair) (addr : Nat) (s : State), s.pairRuns p = true ∧ dataWritable addr = true ∧ s.portBusy = false) ∧
    (∃ (p : Pair) (addr : Nat) (s : State), s.pairRuns p = true ∧ dataWritable addr = false) ∧
    (∃ (s : State), s.nvm.verify = none) ∧
    (∃ (r : Nat) (s : State), s.nvm.verify = some r ∧ r < 4 ∧ s.get (regstatField r) = 1) :=
  ⟨⟨.link, 0x7FFFFC, running |> (fun s => s.putBit Reg.NVM_PGMWE_WE (0x7FFFFC / 0x200000) true)
     |> (fun s => { s with stg := { s.stg with mask := 0 } }), by decide⟩,
   ⟨.pairB, 0, running, by decide⟩,
   ⟨Pair.a, 0x8FFFFC, running, by decide⟩,
   ⟨Pair.a, 0, running, by decide⟩,
   ⟨running |> (fun s => { s with nvm := { s.nvm with verify := none } }), by decide⟩,
   ⟨3, running |> (fun s => { s with nvm := { s.nvm with verify := some 3 } })
     |> (fun s => s.put (regstatField 3) 1), by decide⟩⟩

/-- What meets the hypotheses of `Obligations.ProgramMemoryCommands`, part 2. -/
theorem wit_ProgramMemoryCommands_2 :
    (∃ (r : Nat) (s : State), s.nvm.verify = some r ∧ r < 4 ∧ s.get (regstatField r) ≠ 1) ∧
    (∃ (v : Nat) (s : State), v % 64 ≤ s.get Reg.NVM_SVN_MIN) ∧
    (∃ (v : Nat) (s : State), s.get Reg.NVM_SVN_MIN < v % 64 ∧
      (∀ p : Pair, v % 64 ≤ s.num (regionBase (s.activeRegion p) + 0x10) 1)) ∧
    (∃ (m : Nat) (s : State), m % 4 ≠ 0 ∧
      (∀ p : Pair, (m % 4).testBit (s.num (regionBase (s.activeRegion p) + 7) 1) = false) ∧
      (∃ k, k < 2 ∧ s.keyUsable k = true ∧ m.testBit k = false)) ∧
    (∃ (s : State), s.slotBlank (s.get Reg.NVM_OTPADDR_INDEX / 16) = true ∧
      nget (s.get Reg.NVM_OTPADDR_INDEX) s.nvm.key = 0) ∧
    (∃ (s : State), nget (s.get Reg.NVM_OTPADDR_INDEX) s.nvm.key ≠ 0) :=
  ⟨⟨3, running |> (fun s => { s with nvm := { s.nvm with verify := some 3 } }), by decide⟩,
   ⟨0, running, by decide⟩,
   ⟨63, running |> (fun s => s.setMemWord (regionBase 0 + 0x10) 63)
     |> (fun s => s.setMemWord (regionBase 1 + 0x10) 63), by decide, fun p => by cases p <;> decide⟩,
   ⟨2, running |> (fun s => { s with nvm := { s.nvm with key := (List.range 16).map fun i => (i, 1) } }), by decide,
     fun p => by cases p <;> decide, 0, by decide, by decide, by decide⟩,
   ⟨running, by decide⟩,
   ⟨running |> (fun s => { s with nvm := { s.nvm with key := [(0, 1)] } }), by decide⟩⟩

/-- What meets the hypotheses of `Obligations.RegisterAccessLocks`. -/
theorem wit_RegisterAccessLocks :
    (∃ (i : Nat) (s : State), s.bit Reg.NVM_KEYREV_REV i = true) ∧
    (∃ (s : State), s.flag Reg.NVM_SECCFG_DBGLOCK = true) :=
  ⟨⟨0, running |> (fun s => s.putBit Reg.NVM_KEYREV_REV 0 true), by decide⟩,
   ⟨running |> (fun s => s.putB Reg.NVM_SECCFG_DBGLOCK true), by decide⟩⟩

/-- What meets the hypotheses of `Obligations.TimetableCommands`, part 1. -/
theorem wit_TimetableCommands_1 :
    (∃ (buf : Bool) (s : State), s.tt.active ≠ some buf.toNat ∧ s.tt.loading = none ∧ s.stg.mask = 0) ∧
    (∃ (buf go : Bool) (s : State), (go = false ∨ s.tt.active = some buf.toNat ∨ s.tt.loading.isSome = true)) ∧
    (∃ (buf a : Nat) (s : State), s.tt.loading = some (buf, a) ∧ buf < 2 ∧ s.alive = true) ∧
    (∃ (p : Pair) (e : Nat) (k : Task) (s : State), s.taskOf e = some k ∧ k.pair = p ∧ k.killed = none ∧
      k.budget ≠ 0 ∧ s.now < k.rel + k.budget) ∧
    (∃ (p : Pair) (e u : Nat) (k : Task) (s : State), s.taskOf e = some k ∧ k.pair = p ∧ k.killed = some u ∧
      s.now < u + 1000) ∧
    (∃ (e : Nat) (k : Task) (s : State), s.taskOf e = some k ∧ k.killed = none ∧ k.budget ≠ 0 ∧
      nget e s.tt.overruns + 1 < s.ovrLimit) :=
  ⟨⟨false, running |> (fun s => { s with tt := { s.tt with loading := none } })
     |> (fun s => { s with stg := { s.stg with mask := 0 } }), by decide⟩,
   ⟨false, false, running, by decide⟩,
   ⟨1, 0, running |> (fun s => { s with tt := { s.tt with loading := some (1, 0) } }), by decide⟩,
   ⟨Pair.a, 5, wTask, running |> (fun s => { s with tt := { s.tt with tasks := [wTask] } }), by decide⟩,
   ⟨Pair.a, 5, 0, { wTask with killed := some 0 }, running
     |> (fun s => { s with tt := { s.tt with tasks := [({ wTask with killed := some 0 })] } }), by decide⟩,
   ⟨5, wTask, running |> (fun s => { s with tt := { s.tt with tasks := [wTask] } })
     |> (fun s => s.put Reg.TT_OVRLIM_LIMIT 15), by decide⟩⟩

/-- What meets the hypotheses of `Obligations.TimetableCommands`, part 2. -/
theorem wit_TimetableCommands_2 :
    (∃ (e u : Nat) (k : Task) (s : State), s.taskOf e = some k ∧ k.killed = some u) ∧
    (∃ (s : State), s.alive = true ∧ s.sleeping = false) :=
  ⟨⟨5, 0, { wTask with killed := some 0 }, running
     |> (fun s => { s with tt := { s.tt with tasks := [({ wTask with killed := some 0 })] } }), by decide⟩,
   ⟨running |> (fun s => s.put Reg.SYS_PROFSTAT_PROF 0), by decide⟩⟩

/-- What meets the hypotheses of `Obligations.PairRestartCommands`. -/
theorem wit_PairRestartCommands :
    (∃ (p : Pair) (s : State), s.pairRuns p = true ∧ (s.core p).swap = none) ∧
    (∃ (p : Pair) (s : State), s.pairRuns p = true ∧ s.flag (Reg.CP_STAT_INRST.at p.idx) = false ∧
      s.flag (Reg.CP_STAT_DBGHALT.at p.idx) = false) ∧
    (∃ (p : Pair) (c1 c2 par : Bool) (s : State), (c1 && c2 && par) = false ∧ s.pairRuns p = true ∧
      (s.core p).swap = none ∧ s.flag (Reg.CP_STAT_INRST.at p.idx) = false ∧
      s.flag (Reg.CP_STAT_DBGHALT.at p.idx) = false) ∧
    (∃ (ini : Ini) (p : Pair), ini ≠ p.ini) ∧
    (∃ (p : Pair) (s : State), s.flag (Reg.CP_STAT_INRST.at p.idx) = true) :=
  ⟨⟨Pair.a, running |> (fun s => { s with cpa := { s.cpa with swap := none } }), by decide⟩,
   ⟨Pair.a, running |> (fun s => s.putB (Reg.CP_STAT_INRST.at Pair.a.idx) false)
     |> (fun s => s.putB (Reg.CP_STAT_DBGHALT.at Pair.a.idx) false), by decide⟩,
   ⟨Pair.a, false, false, false, running |> (fun s => { s with cpa := { s.cpa with swap := none } })
     |> (fun s => s.putB (Reg.CP_STAT_INRST.at Pair.a.idx) false)
     |> (fun s => s.putB (Reg.CP_STAT_DBGHALT.at Pair.a.idx) false), by decide⟩,
   ⟨.debug, Pair.a, by decide⟩,
   ⟨Pair.a, running |> (fun s => s.putB (Reg.CP_STAT_INRST.at Pair.a.idx) true), by decide⟩⟩

/-- What meets the hypotheses of `Obligations.PairCheckpointCommands`, part 1. -/
theorem wit_PairCheckpointCommands_1 :
    (∃ (s : State), s.cpa.copying = true ∧ s.cpb.copying = false ∧ s.cpa.slot < 2 ∧ s.cpa.swap = none) ∧
    (∃ (p : Pair) (s : State), (s.core p).inReset = true ∧ (s.core p).held = false ∧ (s.core p).copying = false ∧
      s.power.phase = .run ∧ s.power.holdAt = none ∧ s.sleeping = false ∧ s.get (Reg.CP_CKSTAT_VALID.at p.idx) = 0) ∧
    (∃ (p : Pair) (s : State), (s.core p).swap = none) ∧
    (∃ (p : Pair) (w : Nat × Nat) (s : State), (s.core p).swap = some w ∧ s.now < (s.core p).swapAt + readyLimit p ∧
      p = .a) ∧
    (∃ (ini : Ini) (p : Pair), ini ≠ p.ini) ∧
    (∃ (p : Pair) (old pin : Nat) (s : State), (s.core p).swap = some (old, pin)) :=
  ⟨⟨running |> (fun s => { s with cpa := { s.cpa with copying := true } })
     |> (fun s => { s with cpb := { s.cpb with copying := false } })
     |> (fun s => { s with cpa := { s.cpa with swap := none } }), by decide⟩,
   ⟨Pair.a, running |> (fun s => { s with cpa := { s.cpa with inReset := true } })
     |> (fun s => { s with cpa := { s.cpa with held := false } })
     |> (fun s => { s with cpa := { s.cpa with copying := false } })
     |> (fun s => { s with power := { s.power with phase := .run } })
     |> (fun s => { s with power := { s.power with holdAt := none } }) |> (fun s => s.put Reg.SYS_PROFSTAT_PROF 0)
     |> (fun s => s.put (Reg.CP_CKSTAT_VALID.at Pair.a.idx) (0)), by decide⟩,
   ⟨Pair.a, running |> (fun s => { s with cpa := { s.cpa with swap := none } }), by decide⟩,
   ⟨Pair.a, (0, 1), running |> (fun s => { s with cpa := { s.cpa with swap := some (0, 1) } }), by decide⟩,
   ⟨.debug, Pair.a, by decide⟩,
   ⟨Pair.a, 0, 0, running |> (fun s => { s with cpa := { s.cpa with swap := some (0, 0) } }), by decide⟩⟩

/-- What meets the hypotheses of `Obligations.PairCheckpointCommands`, part 2. -/
theorem wit_PairCheckpointCommands_2 :
    ∃ (s : State), s.cpa.copying = false ∧ s.cpb.copying = true ∧ s.cpb.slot < 2 ∧ s.cpb.swap = none :=
  ⟨running |> (fun s => { s with cpa := { s.cpa with copying := false } })
    |> (fun s => { s with cpb := { s.cpb with copying := true } })
    |> (fun s => { s with cpb := { s.cpb with swap := none } }), by decide⟩

/-- What meets the hypotheses of `Obligations.DebugAndFaultCommands`, part 1. -/
theorem wit_DebugAndFaultCommands_1 :
    (∃ (p : Pair) (s : State), s.flag Reg.NVM_SECCFG_DBGLOCK = false ∧ (p = .a → s.anyRoleOn = false) ∧
      s.pairRuns p = true) ∧
    (∃ (p : Pair) (s : State), (s.flag Reg.NVM_SECCFG_DBGLOCK = true ∨ (p = .a ∧ s.anyRoleOn = true)) ∧
      s.alive = true) ∧
    (∃ (ini : Ini), ini ≠ .debug) ∧
    (∃ (p : Pair) (s : State), s.flag (Reg.CP_STAT_DBGHALT.at p.idx) = true) ∧
    (∃ (p : Pair) (w : Bool) (addr : Nat) (s : State), s.pairRuns p = true ∧ mapPermits p w addr = false) ∧
    (∃ (mram : Bool), mram = false) :=
  ⟨⟨Pair.a, running |> (fun s => s.putB Reg.NVM_SECCFG_DBGLOCK false), by decide⟩,
   ⟨Pair.a, running |> (fun s => s.putB Reg.NVM_SECCFG_DBGLOCK true), by decide⟩,
   ⟨.link, by decide⟩,
   ⟨Pair.a, running |> (fun s => s.putB (Reg.CP_STAT_DBGHALT.at Pair.a.idx) true), by decide⟩,
   ⟨Pair.a, false, 0x00900000, running, by decide⟩,
   ⟨false, by decide⟩⟩

/-- What meets the hypotheses of `Obligations.DebugAndFaultCommands`, part 2. -/
theorem wit_DebugAndFaultCommands_2 :
    ∃ (s : State), s.alive = true :=
  ⟨running, by decide⟩

/-- What meets the hypotheses of `Obligations.OvercurrentComparatorCommands`, part 1. -/
theorem wit_OvercurrentComparatorCommands_1 :
    (∃ (s : State), s.isAnchor = true ∧ s.ipk.raw.length = 4 ∧ s.ipk.rawAt.length = 4) ∧
    (∃ (s : State), s.isAnchor = false) ∧
    (∃ (d y : Bool) (s : State), s.isAnchor = true ∧ s.ipk.ocTest ≠ some y ∧
      s.saf.oc.getD (ocIndex d y) false ≠ s.ipk.raw.getD (ocIndex d y) false) ∧
    (∃ (s : State), s.isAnchor = true ∧ s.cm.running = true ∧ s.alive = true) ∧
    (∃ (y : Bool) (s : State), s.ipk.ocTest = some y) ∧
    (∃ (c d y : Bool) (s : State), s.ipk.ocTest = some y ∧ (c && d) = true) :=
  ⟨⟨anchor, by decide⟩,
   ⟨running |> (fun s => s.putB Reg.SYS_PROFSTAT_ANCHOR false), by decide⟩,
   ⟨false, false, anchor |> (fun s => s.putB Reg.SYS_PROFSTAT_ANCHOR true)
     |> (fun s => { s with ipk := { s.ipk with raw := [true, true, true, true] } }), by decide⟩,
   ⟨running |> (fun s => s.putB Reg.SYS_PROFSTAT_ANCHOR true)
     |> (fun s => { s with cm := { s.cm with running := true } }), by decide⟩,
   ⟨false, running |> (fun s => { s with ipk := { s.ipk with ocTest := some false } }), by decide⟩,
   ⟨true, true, false, running |> (fun s => { s with ipk := { s.ipk with ocTest := some false } }), by decide⟩⟩

/-- What meets the hypotheses of `Obligations.OvercurrentComparatorCommands`, part 2. -/
theorem wit_OvercurrentComparatorCommands_2 :
    ∃ (c d y : Bool) (s : State), s.ipk.ocTest = some y ∧ (c && d) = false ∧ s.alive = true :=
  ⟨false, false, false, running |> (fun s => { s with ipk := { s.ipk with ocTest := some false } }), by decide⟩

/-- What meets the hypotheses of `Obligations.SampleSetCommands`, part 1. -/
theorem wit_SampleSetCommands_1 :
    (∃ (x : SampleSet) (s : State), s.cm.running = true ∧ s.alive = true ∧ x.crcOk = true ∧
      x.seq.toNat = s.cm.nextSeq) ∧
    (∃ (x : SampleSet) (s : State), s.cm.running = true ∧ s.alive = true ∧ x.crcOk = true ∧
      x.seq.toNat ≠ s.cm.nextSeq) ∧
    (∃ (x : SampleSet) (s : State), s.cm.running = true ∧ s.alive = true ∧ x.crcOk = false) ∧
    (∃ (s : State), s.cm.running = true ∧ s.alive = true) ∧
    (∃ (o : Nat) (s : State), s.cm.running = true ∧ s.alive = true ∧ o % 25000 = 0) ∧
    (∃ (o : Nat) (s : State), s.cm.running = true ∧ s.alive = true ∧ o % 25000 ≠ 0) :=
  ⟨⟨wSet, running |> (fun s => { s with cm := { s.cm with running := true } }), by decide⟩,
   ⟨{ wSet with seq := 255 }, running |> (fun s => { s with cm := { s.cm with running := true } }), by decide⟩,
   ⟨{ wSet with crcOk := false }, running |> (fun s => { s with cm := { s.cm with running := true } }), by decide⟩,
   ⟨running |> (fun s => { s with cm := { s.cm with running := true } }), by decide⟩,
   ⟨0, running |> (fun s => { s with cm := { s.cm with running := true } }), by decide⟩,
   ⟨1, running |> (fun s => { s with cm := { s.cm with running := true } }), by decide⟩⟩

/-- What meets the hypotheses of `Obligations.SampleSetCommands`, part 2. -/
theorem wit_SampleSetCommands_2 :
    ∃ (s : State), (s.cm.running = false ∨ s.alive = false) :=
  ⟨running |> (fun s => { s with cm := { s.cm with running := false } }), by decide⟩

/-- What meets the hypotheses of `Obligations.DeliveredResultsReachTheirRegisters`. -/
theorem wit_DeliveredResultsReachTheirRegisters :
    ∃ (cells : List (Int × Bool)) (flags : List Nat), cells.length = 48 ∧ flags.length = 48 :=
  ⟨List.replicate 48 (0, false), List.replicate 48 0, by decide⟩

/-- What meets the hypotheses of `Obligations.OpenWireCommands`. -/
theorem wit_OpenWireCommands :
    (∃ (s : State), s.cm.ow.phase = 1) ∧
    (∃ (s : State), 2 ≤ s.cm.ow.phase ∧ s.cm.ow.phase ≤ 4) ∧
    (∃ (s : State), 2 ≤ s.cm.ow.phase ∧ s.cm.ow.phase ≤ 5) ∧
    (∃ (s : State), s.cm.ow.phase = 6) ∧
    (∃ (s : State), s.cm.ow.phase = 0) :=
  ⟨⟨running |> (fun s => { s with cm := { s.cm with ow := { s.cm.ow with phase := 1 } } }), by decide⟩,
   ⟨running |> (fun s => { s with cm := { s.cm with ow := { s.cm.ow with phase := 2 } } }), by decide⟩,
   ⟨running |> (fun s => { s with cm := { s.cm with ow := { s.cm.ow with phase := 2 } } }), by decide⟩,
   ⟨running |> (fun s => { s with cm := { s.cm with ow := { s.cm.ow with phase := 6 } } }), by decide⟩,
   ⟨running |> (fun s => { s with cm := { s.cm with ow := { s.cm.ow with phase := 0 } } }), by decide⟩⟩

/-- What meets the hypotheses of `Obligations.QuietSampleCommands`. -/
theorem wit_QuietSampleCommands :
    (∃ (s : State), s.quietK ≠ 0 ∧ s.quietFrame s.frame = true ∧ s.cm.running = true ∧ s.alive = true ∧
      s.quietSkipped (s.fstart + 25000 * s.quietK) = false) ∧
    (∃ (s : State), s.quietFrame s.frame = true ∧ s.alive = true ∧ s.cm.running = true ∧
      (s.bal.modul.runs (s.fstart + 25000 * s.quietK) = true ∨ s.power.pauseAt.isSome = true)) ∧
    (∃ (s : State), s.quietFrame s.frame = false) ∧
    (∃ (codes : List Int) (s : State), codes.length = 48 ∧ s.quietFrame s.frame = true ∧ s.alive = true ∧
      s.cm.running = true ∧ s.quietSkipped (s.fstart + 25000 * s.quietK) = false) :=
  ⟨⟨running |> (fun s => { s with cm := { s.cm with running := true } }) |> (fun s => s.put Reg.CELL_QCFG_QK 39)
     |> (fun s => s.put Reg.CELL_QCFG_QPER 1), by decide⟩,
   ⟨running |> (fun s => { s with cm := { s.cm with running := true } }) |> (fun s => s.put Reg.CELL_QCFG_QPER 1)
     |> (fun s => { s with bal := { s.bal with modul := { mask := 1, b := 0, e := 2000000 } } }), by decide⟩,
   ⟨running, by decide⟩,
   ⟨List.replicate 48 0, running |> (fun s => { s with cm := { s.cm with running := true } })
     |> (fun s => s.put Reg.CELL_QCFG_QPER 1), by decide⟩⟩

/-- What meets the hypotheses of `Obligations.IsolationCommands`, part 1. -/
theorem wit_IsolationCommands_1 :
    (∃ (s : State), s.isAnchor = true) ∧
    (∃ (s : State), s.isAnchor = false) ∧
    (∃ (g : Nat) (s : State), s.iso.g = some g ∧ s.isAnchor = true ∧ s.iso.phase = 0 ∧
      100000 ≤ s.getI Reg.HVM_VOLT_MV) ∧
    (∃ (s : State), 240 ≤ s.iso.frames ∧ s.iso.phase = 1) ∧
    (∃ (s : State), 240 ≤ s.iso.frames ∧ s.iso.phase = 3) ∧
    (∃ (s : State), s.iso.phase = 2) :=
  ⟨⟨running |> (fun s => s.putB Reg.SYS_PROFSTAT_ANCHOR true), by decide⟩,
   ⟨running |> (fun s => s.putB Reg.SYS_PROFSTAT_ANCHOR false), by decide⟩,
   ⟨0, running |> (fun s => { s with iso := { s.iso with g := some 0 } })
     |> (fun s => s.putB Reg.SYS_PROFSTAT_ANCHOR true) |> (fun s => { s with iso := { s.iso with phase := 0 } })
     |> (fun s => s.put Reg.HVM_VOLT_MV 100000), by decide⟩,
   ⟨running |> (fun s => { s with iso := { s.iso with frames := 240 } })
     |> (fun s => { s with iso := { s.iso with phase := 1 } }), by decide⟩,
   ⟨running |> (fun s => { s with iso := { s.iso with frames := 240 } })
     |> (fun s => { s with iso := { s.iso with phase := 3 } }), by decide⟩,
   ⟨running |> (fun s => { s with iso := { s.iso with phase := 2 } }), by decide⟩⟩

/-- What meets the hypotheses of `Obligations.IsolationCommands`, part 2. -/
theorem wit_IsolationCommands_2 :
    (∃ (s : State), s.iso.phase = 4) ∧
    (∃ (s : State), s.alive = true) :=
  ⟨⟨running |> (fun s => { s with iso := { s.iso with phase := 4 } }), by decide⟩,
   ⟨running, by decide⟩⟩

/-- What meets the hypotheses of `Obligations.BalancingCommands`. -/
theorem wit_BalancingCommands :
    (∃ (s : State), s.bal.modul.closed s.now = false) ∧
    (∃ (s : State), s.cm.running = true ∧ s.cm.supplyFail = false ∧ s.power.pauseAt = none ∧ s.alive = true) ∧
    (∃ (s : State), (s.cm.running = false ∨ s.cm.supplyFail = true ∨ s.power.pauseAt.isSome = true)) :=
  ⟨⟨running, by decide⟩,
   ⟨running |> (fun s => { s with cm := { s.cm with running := true } })
     |> (fun s => { s with cm := { s.cm with supplyFail := false } })
     |> (fun s => { s with power := { s.power with pauseAt := none } }), by decide⟩,
   ⟨running |> (fun s => { s with cm := { s.cm with running := false } }), by decide⟩⟩

/-- What meets the hypotheses of `Obligations.ContactorCommandGate`. -/
theorem wit_ContactorCommandGate :
    (∃ (ini : Ini) (c : Instr) (s : State),
      c ∈ [Instr.driveClose ini, .driveOpen ini, .chargeClose ini, .chargeOpen ini, .auxOn ini, .auxOff ini, .faultClear ini] ∧
      s.isLead = false ∧ ini = .pairA) ∧
    (∃ (ini : Ini) (c : Instr),
      c ∈ [Instr.driveClose ini, .driveOpen ini, .chargeClose ini, .chargeOpen ini, .auxOn ini, .auxOff ini, .faultClear ini] ∧
      ini ≠ .pairA) ∧
    (∃ (n : Nat) (s : State), s.ctsRuns = true ∧ s.ctsRefusal [0, 1, 2] (s.dstate == 0) = some n) ∧
    (∃ (n : Nat) (s : State), s.ctsRuns = true ∧ s.ctsRefusal [3, 4] (s.cstate == 0) = some n) ∧
    (∃ (n : Nat) (s : State), s.ctsRuns = true ∧ s.ctsRefusal [5] true = some n) ∧
    (∃ (s : State), s.ctsRuns = true) :=
  ⟨⟨.pairA, .driveClose .pairA, running |> (fun s => { s with leadStrap := false }), by decide⟩,
   ⟨.link, .driveClose .link, by decide⟩,
   ⟨1, running, by decide⟩,
   ⟨1, running, by decide⟩,
   ⟨1, running, by decide⟩,
   ⟨running, by decide⟩⟩

/-- What meets the hypotheses of `Obligations.ContactorPathCommands`, part 1. -/
theorem wit_ContactorPathCommands_1 :
    (∃ (s : State), s.ctsRuns = true ∧ s.ctsRefusal [0, 1, 2] (s.dstate == 0) = none ∧ s.ctsRefusalClose = none ∧
      s.flag Reg.CTS_STAT_LOCKOUT = false ∧ s.cts.coolUntil ≤ s.now) ∧
    (∃ (s : State), s.ctsRuns = true ∧ s.ctsRefusal [3, 4] (s.cstate == 0) = none ∧ s.ctsRefusalClose = none ∧
      s.dstate = 6 ∧ s.flag Reg.SAF_STAT_CHGFORB = false) ∧
    (∃ (s : State), s.ctsRuns = true ∧ s.dstate = 1) ∧
    (∃ (s : State), s.ctsRuns = true ∧ 2 ≤ s.dstate ∧ s.dstate ≤ 5) ∧
    (∃ (s : State), s.ctsRuns = true ∧ (s.dstate = 0 ∨ 7 ≤ s.dstate)) ∧
    (∃ (s : State), s.ctsRuns = true ∧ (s.cstate = 1 ∨ s.cstate = 2)) :=
  ⟨⟨running |> (fun s => s.putB Reg.CSC_STAT_ENUM true)
     |> (fun s => { s with cts := { s.cts with map := [1, 2, 3, 4, 5, 6] } }) |> (fun s => s.put Reg.CTS_PCMOD_RPC 1)
     |> (fun s => s.put Reg.CTS_PCMOD_CLINK 1) |> (fun s => s.putB Reg.CTS_STAT_LOCKOUT false), by decide⟩,
   ⟨running |> (fun s => s.putB Reg.CSC_STAT_ENUM true)
     |> (fun s => { s with cts := { s.cts with map := [1, 2, 3, 4, 5, 6] } }) |> (fun s => s.put Reg.CTS_PCMOD_RPC 1)
     |> (fun s => s.put Reg.CTS_PCMOD_CLINK 1) |> (fun s => s.put Reg.CTS_STAT_DSTATE 6)
     |> (fun s => s.putB Reg.SAF_STAT_CHGFORB false), by decide⟩,
   ⟨running |> (fun s => s.put Reg.CTS_STAT_DSTATE 1), by decide⟩,
   ⟨running |> (fun s => s.put Reg.CTS_STAT_DSTATE 2), by decide⟩,
   ⟨running |> (fun s => s.put Reg.CTS_STAT_DSTATE 0), by decide⟩,
   ⟨running |> (fun s => s.put Reg.CTS_STAT_CSTATE 1), by decide⟩⟩

/-- What meets the hypotheses of `Obligations.ContactorPathCommands`, part 2. -/
theorem wit_ContactorPathCommands_2 :
    (∃ (s : State), s.ctsRuns = true ∧ 3 ≤ s.cstate ∧ s.cstate ≤ 5) ∧
    (∃ (s : State), s.ctsRuns = true ∧ s.cstate = 6) ∧
    (∃ (s : State), s.ctsRuns = true ∧ (s.cstate = 0 ∨ 7 ≤ s.cstate)) ∧
    (∃ (s : State), s.ctsRuns = true ∧ s.ctsRefusal [5] true = none ∧ s.flag Reg.CTS_STAT_HOLD = false) ∧
    (∃ (s : State), s.ctsRuns = true ∧ s.roleOn 5 = true) ∧
    (∃ (s : State), s.ctsRuns = true ∧ s.roleOn 5 = false) :=
  ⟨⟨running |> (fun s => s.put Reg.CTS_STAT_CSTATE 3), by decide⟩,
   ⟨running |> (fun s => s.put Reg.CTS_STAT_CSTATE 6), by decide⟩,
   ⟨running |> (fun s => s.put Reg.CTS_STAT_CSTATE 0), by decide⟩,
   ⟨running |> (fun s => s.putB Reg.CSC_STAT_ENUM true)
     |> (fun s => { s with cts := { s.cts with map := [1, 2, 3, 4, 5, 6] } }) |> (fun s => s.put Reg.CTS_PCMOD_RPC 1)
     |> (fun s => s.put Reg.CTS_PCMOD_CLINK 1) |> (fun s => s.putB Reg.CTS_STAT_HOLD false), by decide⟩,
   ⟨running |> (fun s => s.putB Reg.CSC_STAT_ENUM true)
     |> (fun s => { s with cts := { s.cts with map := [1, 2, 3, 4, 5, 6] } }) |> (fun s => s.put Reg.CTS_PCMOD_RPC 1)
     |> (fun s => s.put Reg.CTS_PCMOD_CLINK 1) |> (fun s => s.putBit Reg.OUT_CMD_ON 5 true), by decide⟩,
   ⟨running, by decide⟩⟩

/-- What meets the hypotheses of `Obligations.ContactorDriveTimers`, part 1. -/
theorem wit_ContactorDriveTimers_1 :
    (∃ (s : State), s.ctsRuns = true ∧ s.dstate = 1) ∧
    (∃ (s : State),
      s.ctsRuns = true ∧ s.dstate = 2 ∧ (let u := s.advanceTo (s.cts.since + s.tProbe); u.weldMA ≤ u.cts.probeMax)) ∧
    (∃ (s : State),
      s.ctsRuns = true ∧ s.dstate = 2 ∧ (let u := s.advanceTo (s.cts.since + s.tProbe); u.cts.probeMax < u.weldMA) ∧ (let u := s.advanceTo (s.cts.since + s.tProbe); u.cts.v3 < u.cts.v1 - u.weldMV false)) ∧
    (∃ (s : State),
      s.ctsRuns = true ∧ s.dstate = 2 ∧ (let u := s.advanceTo (s.cts.since + s.tProbe); u.cts.probeMax < u.weldMA) ∧ (let u := s.advanceTo (s.cts.since + s.tProbe); u.cts.v1 - u.weldMV false ≤ u.cts.v3)) ∧
    (∃ (s : State),
      s.ctsRuns = true ∧ s.dstate = 3 ∧ (let u := s.advanceTo (s.cts.since + s.tClose false); u.cts.v1 - u.weldMV false ≤ u.cts.v3)) ∧
    (∃ (s : State),
      s.ctsRuns = true ∧ s.dstate = 3 ∧ (let u := s.advanceTo (s.cts.since + s.tClose false); u.cts.v3 < u.cts.v1 - u.weldMV false) ∧ (let u := s.advanceTo (s.cts.since + s.tClose false); u.cts.v1 - u.weldMV false ≤ u.cts.v2)) :=
  ⟨⟨running |> (fun s => s.put Reg.CTS_STAT_DSTATE 1), by decide⟩,
   ⟨running |> (fun s => s.put Reg.CTS_STAT_DSTATE 2) |> (fun s => { s with cts := { s.cts with probeMax := 100 } }),
     by decide⟩,
   ⟨running |> (fun s => s.put Reg.CTS_STAT_DSTATE 2) |> (fun s => { s with cts := { s.cts with v1 := 5000 } }),
     by decide⟩,
   ⟨running |> (fun s => s.put Reg.CTS_STAT_DSTATE 2), by decide⟩,
   ⟨running |> (fun s => s.put Reg.CTS_STAT_DSTATE 3), by decide⟩,
   ⟨running |> (fun s => s.put Reg.CTS_STAT_DSTATE 3) |> (fun s => { s with cts := { s.cts with v1 := 5000 } })
     |> (fun s => { s with cts := { s.cts with v2 := 4000 } }), by decide⟩⟩

/-- What meets the hypotheses of `Obligations.ContactorDriveTimers`, part 2. -/
theorem wit_ContactorDriveTimers_2 :
    (∃ (s : State),
      s.ctsRuns = true ∧ s.dstate = 3 ∧ (let u := s.advanceTo (s.cts.since + s.tClose false); u.cts.v3 < u.cts.v1 - u.weldMV false) ∧ (let u := s.advanceTo (s.cts.since + s.tClose false); u.cts.v2 < u.cts.v1 - u.weldMV false)) ∧
    (∃ (s : State),
      s.ctsRuns = true ∧ s.dstate = 5 ∧ (let u := s.advanceTo (s.cts.since + s.tClose false); u.cts.v1 - u.cts.v2 < u.weldMV false)) ∧
    (∃ (s : State),
      s.ctsRuns = true ∧ s.dstate = 5 ∧ (let u := s.advanceTo (s.cts.since + s.tClose false); u.weldMV false ≤ u.cts.v1 - u.cts.v2)) ∧
    (∃ (s : State), s.ctsRuns = true ∧ s.dstate = 7 ∧
      (s.cstate = 7 → s.cts.since + s.cts.ramp < s.cts.cSince + s.chargeRamp)) ∧
    (∃ (c : Instr) (s : State), s.ctsRuns = false ∧
      c ∈ [Instr.ctsGrantTimeout, .probeTimerEnd, .closeTimerEnd, .gapTimerEnd, .rampTimerEnd, .matchTimerEnd, .cooldownEnd]) ∧
    (∃ (n : Nat), n ∈ [2, 3, 4]) :=
  ⟨⟨running |> (fun s => s.put Reg.CTS_STAT_DSTATE 3) |> (fun s => { s with cts := { s.cts with v1 := 5000 } }),
     by decide⟩,
   ⟨running |> (fun s => s.put Reg.CTS_STAT_DSTATE 5), by decide⟩,
   ⟨running |> (fun s => s.put Reg.CTS_STAT_DSTATE 5) |> (fun s => { s with cts := { s.cts with v1 := 1000 } }),
     by decide⟩,
   ⟨running |> (fun s => s.put Reg.CTS_STAT_DSTATE 7), by decide⟩,
   ⟨.cooldownEnd, running |> (fun s => { s with power := { s.power with phase := .inReset } }), by decide⟩,
   ⟨4, by decide⟩⟩

/-- What meets the hypotheses of `Obligations.ContactorDriveTimers`, part 3. -/
theorem wit_ContactorDriveTimers_3 :
    ∃ (r v : Nat) (s : State), r < 5 ∧ v < 4 ∧ v = 2 ∧ s.alive = true :=
  ⟨4, 2, running, by decide⟩

/-- What meets the hypotheses of `Obligations.ContactorChargeAndOpenTimers`, part 1. -/
theorem wit_ContactorChargeAndOpenTimers_1 :
    (∃ (s : State),
      s.ctsRuns = true ∧ s.dstate = 8 ∧ (s.cstate = 8 → s.cts.since + s.tGap false < s.cts.cSince + s.tGap true) ∧ (let u := s.advanceTo (s.cts.since + s.tGap false); u.weldMV false ≤ u.cts.v1 - u.cts.v2)) ∧
    (∃ (s : State),
      s.ctsRuns = true ∧ s.dstate = 8 ∧ (s.cstate = 8 → s.cts.since + s.tGap false < s.cts.cSince + s.tGap true) ∧ (let u := s.advanceTo (s.cts.since + s.tGap false); u.cts.v1 - u.cts.v2 < u.weldMV false)) ∧
    (∃ (s : State), s.ctsRuns = true ∧ s.cstate = 8 ∧
      (s.dstate = 8 → s.cts.cSince + s.tGap true ≤ s.cts.since + s.tGap false)) ∧
    (∃ (s : State), s.ctsRuns = true ∧ s.dstate ≠ 1 ∧ s.cstate = 1) ∧
    (∃ (s : State), s.ctsRuns = true ∧ s.dstate = 6 ∧ s.cstate = 3) ∧
    (∃ (s : State),
      s.ctsRuns = true ∧ s.dstate = 6 ∧ s.cstate = 5 ∧ (let u := s.advanceTo (s.cts.cSince + s.tClose true); ((u.cts.v4 - u.cts.v2).natAbs : Int) < u.weldMV true)) :=
  ⟨⟨running |> (fun s => s.put Reg.CTS_STAT_DSTATE 8) |> (fun s => { s with cts := { s.cts with v1 := 1000 } }),
     by decide⟩,
   ⟨running |> (fun s => s.put Reg.CTS_STAT_DSTATE 8), by decide⟩,
   ⟨running |> (fun s => s.put Reg.CTS_STAT_CSTATE 8), by decide⟩,
   ⟨running |> (fun s => s.put Reg.CTS_STAT_CSTATE 1), by decide⟩,
   ⟨running |> (fun s => s.put Reg.CTS_STAT_DSTATE 6) |> (fun s => s.put Reg.CTS_STAT_CSTATE 3), by decide⟩,
   ⟨running |> (fun s => s.put Reg.CTS_STAT_DSTATE 6) |> (fun s => s.put Reg.CTS_STAT_CSTATE 5), by decide⟩⟩

/-- What meets the hypotheses of `Obligations.ContactorChargeAndOpenTimers`, part 2. -/
theorem wit_ContactorChargeAndOpenTimers_2 :
    (∃ (s : State),
      s.ctsRuns = true ∧ s.dstate = 6 ∧ s.cstate = 5 ∧ (let u := s.advanceTo (s.cts.cSince + s.tClose true); u.weldMV true ≤ ((u.cts.v4 - u.cts.v2).natAbs : Int))) ∧
    (∃ (s : State), s.ctsRuns = true ∧ (s.dstate = 6 ∨ s.dstate = 7) ∧ s.cstate = 4) ∧
    (∃ (s : State), s.ctsRuns = true ∧ s.cstate = 7 ∧
      (s.dstate = 6 ∨ (s.dstate = 7 ∧ s.cts.cSince + s.chargeRamp ≤ s.cts.since + s.cts.ramp))) :=
  ⟨⟨running |> (fun s => s.put Reg.CTS_STAT_DSTATE 6) |> (fun s => s.put Reg.CTS_STAT_CSTATE 5)
     |> (fun s => { s with cts := { s.cts with v4 := 1000 } }), by decide⟩,
   ⟨running |> (fun s => s.put Reg.CTS_STAT_DSTATE 6) |> (fun s => s.put Reg.CTS_STAT_CSTATE 4), by decide⟩,
   ⟨running |> (fun s => s.put Reg.CTS_STAT_CSTATE 7) |> (fun s => s.put Reg.CTS_STAT_DSTATE 6), by decide⟩⟩

/-- What meets the hypotheses of `Obligations.ContactorSamples`, part 1. -/
theorem wit_ContactorSamples_1 :
    (∃ (s : State), (s.isLead = false ∨ s.alive = false)) ∧
    (∃ (o : Nat) (s : State), s.isLead = true ∧ s.alive = true ∧ s.power.holdAt = none ∧ s.isAnchor = false ∧
      s.fstart + o ≤ s.now ∧ s.now ≤ s.fstart + o + 50000) ∧
    (∃ (o : Nat) (s : State), s.isLead = true ∧ s.alive = true ∧ s.power.holdAt = none ∧ s.isAnchor = true ∧
      s.now ≤ s.fstart + o + 50000) ∧
    (∃ (s : State), s.dstate = 7 ∧ (s.cts.i1.natAbs : Int) ≤ s.openMA false ∧ 1 ≤ s.cts.low) ∧
    (∃ (t : Nat) (s : State), s.dstate = 2 ∧ s.cts.since ≤ t) ∧
    (∃ (s : State), (s.dstate = 0 ∨ s.dstate = 6)) :=
  ⟨⟨running |> (fun s => { s with leadStrap := false }), by decide⟩,
   ⟨0, running |> (fun s => { s with power := { s.power with holdAt := none } })
     |> (fun s => s.putB Reg.SYS_PROFSTAT_ANCHOR false), by decide⟩,
   ⟨0, running |> (fun s => { s with power := { s.power with holdAt := none } })
     |> (fun s => s.putB Reg.SYS_PROFSTAT_ANCHOR true), by decide⟩,
   ⟨running |> (fun s => s.put Reg.CTS_STAT_DSTATE 7) |> (fun s => { s with cts := { s.cts with low := 1 } }),
     by decide⟩,
   ⟨0, running |> (fun s => s.put Reg.CTS_STAT_DSTATE 2), by decide⟩,
   ⟨running |> (fun s => s.put Reg.CTS_STAT_DSTATE 0), by decide⟩⟩

/-- What meets the hypotheses of `Obligations.ContactorSamples`, part 2. -/
theorem wit_ContactorSamples_2 :
    (∃ (s : State), s.dstate = 6 ∧ s.cstate = 4 ∧ 9 ≤ s.cts.matchN ∧
      ((s.cts.v4 - s.cts.v2).natAbs : Int) ≤ 100 * clampN 1 1000 (s.ctsCfg true Reg.CTS_CHGCFG_CMATCH)) ∧
    (∃ (s : State), s.isLead = true ∧ s.alive = true ∧ s.power.holdAt = none ∧ s.cts.miss = 0) ∧
    (∃ (s : State), s.isLead = true ∧ s.alive = true ∧ s.power.holdAt = none ∧ 1 ≤ s.cts.miss ∧ 2 ≤ s.dstate ∧
      s.dstate ≤ 5) ∧
    (∃ (s : State), s.isLead = true ∧ s.alive = true ∧ s.power.holdAt = none ∧ 1 ≤ s.cts.miss ∧
      (s.dstate ≤ 1 ∨ s.dstate = 8)) ∧
    (∃ (h : Nat) (s : State), s.isLead = true ∧ s.alive = true ∧ s.power.holdAt = some h) ∧
    (∃ (o : Nat) (s : State), s.isLead = true ∧ s.alive = true ∧ s.isAnchor = false ∧ s.fstart + o + 50000 < s.now) :=
  ⟨⟨running |> (fun s => s.put Reg.CTS_STAT_DSTATE 6) |> (fun s => s.put Reg.CTS_STAT_CSTATE 4)
     |> (fun s => { s with cts := { s.cts with matchN := 9 } }), by decide⟩,
   ⟨running |> (fun s => { s with power := { s.power with holdAt := none } })
     |> (fun s => { s with cts := { s.cts with miss := 0 } }), by decide⟩,
   ⟨running |> (fun s => { s with power := { s.power with holdAt := none } })
     |> (fun s => { s with cts := { s.cts with miss := 1 } }) |> (fun s => s.put Reg.CTS_STAT_DSTATE 2), by decide⟩,
   ⟨running |> (fun s => { s with power := { s.power with holdAt := none } })
     |> (fun s => { s with cts := { s.cts with miss := 1 } }), by decide⟩,
   ⟨0, running |> (fun s => { s with power := { s.power with holdAt := some 0 } }), by decide⟩,
   ⟨0, running |> (fun s => s.putB Reg.SYS_PROFSTAT_ANCHOR false) |> (fun s => { s with now := 50001 }), by decide⟩⟩

/-- What meets the hypotheses of `Obligations.LoadChannelCommands`, part 1. -/
theorem wit_LoadChannelCommands_1 :
    (∃ (i : Nat) (s : State), s.hasChan i = false) ∧
    (∃ (i : Nat) (s : State), s.hasChan i = true ∧ s.isRole i = true) ∧
    (∃ (i : Nat) (s : State), s.hasChan i = true ∧ s.isRole i = false ∧ s.turnOnRefused i = true) ∧
    (∃ (i : Nat) (s : State), s.hasChan i = true ∧ s.isRole i = false ∧ s.turnOnRefused i = false) ∧
    (∃ (i : Nat) (s : State), s.hasChan i = true ∧ s.isRole i = false ∧ s.chState i ≠ 4) ∧
    (∃ (i : Nat) (s : State), s.hasChan i = true ∧ s.isRole i = false ∧ s.chState i = 4) :=
  ⟨⟨16, running, by decide⟩,
   ⟨5, running |> (fun s => s.putB Reg.CSC_STAT_ENUM true)
     |> (fun s => { s with cts := { s.cts with map := [1, 2, 3, 4, 5, 6] } }) |> (fun s => s.put Reg.CTS_PCMOD_RPC 1)
     |> (fun s => s.put Reg.CTS_PCMOD_CLINK 1), by decide⟩,
   ⟨0, running |> (fun s => s.putB (Reg.OUT_CHSTAT_HOT.at 0) true), by decide⟩,
   ⟨0, running, by decide⟩,
   ⟨0, running, by decide⟩,
   ⟨0, running |> (fun s => s.put (Reg.OUT_CHSTAT_STATE.at 0) 4), by decide⟩⟩

/-- What meets the hypotheses of `Obligations.LoadChannelCommands`, part 2. -/
theorem wit_LoadChannelCommands_2 :
    (∃ (ch : Fin 16) (s : State), s.chState ch = 1 ∧ s.flag (Reg.OUT_CHSTAT_FROZEN.at ch) = false) ∧
    (∃ (ch : Fin 16) (s : State), (s.chState ch ≠ 1 ∨ s.flag (Reg.OUT_CHSTAT_FROZEN.at ch) = true)) ∧
    (∃ (ch : Fin 16) (s : State), (s.chState ch = 1 ∨ s.chState ch = 2 ∨ s.chState ch = 5)) ∧
    (∃ (ch : Fin 16) (s : State), s.chState ch = 4 ∧ s.alive = true) ∧
    (∃ (ch : Fin 16) (s : State), (s.chState ch = 0 ∨ s.chState ch = 3)) ∧
    (∃ (ch : Fin 16) (s : State), s.hasChan ch = true ∧ s.chState ch ≠ 4) :=
  ⟨⟨(15 : Fin 16), running |> (fun s => s.put (Reg.OUT_CHSTAT_STATE.at (15 : Fin 16)) 1)
     |> (fun s => s.putB (Reg.OUT_CHSTAT_FROZEN.at (15 : Fin 16)) false), by decide⟩,
   ⟨(15 : Fin 16), running, by decide⟩,
   ⟨(15 : Fin 16), running |> (fun s => s.put (Reg.OUT_CHSTAT_STATE.at (15 : Fin 16)) 1), by decide⟩,
   ⟨(15 : Fin 16), running |> (fun s => s.put (Reg.OUT_CHSTAT_STATE.at (15 : Fin 16)) 4), by decide⟩,
   ⟨(15 : Fin 16), running |> (fun s => s.put (Reg.OUT_CHSTAT_STATE.at (15 : Fin 16)) 0), by decide⟩,
   ⟨(15 : Fin 16), running, by decide⟩⟩

/-- What meets the hypotheses of `Obligations.LoadChannelCommands`, part 3. -/
theorem wit_LoadChannelCommands_3 :
    ∃ (ch : Fin 16) (s : State), s.hasChan ch = false :=
  ⟨(15 : Fin 16), running |> (fun s => { s with full := false }), by decide⟩

/-- What meets the hypotheses of `Obligations.LoadDiagnosticsAndClusters`, part 1. -/
theorem wit_LoadDiagnosticsAndClusters_1 :
    (∃ (s : State), s.readsChannels = true ∧ (s.now - s.fstart + 9999) / 10000 ≤ 99 ∧ s.full = true) ∧
    (∃ (s : State), s.readsChannels = true ∧ (s.now - s.fstart + 9999) / 10000 ≤ 99 ∧ s.full = false) ∧
    (∃ (s : State), (s.readsChannels = false ∨ 99 < (s.now - s.fstart + 9999) / 10000)) ∧
    (∃ (i : Nat) (s : State), s.hasChan i = false) ∧
    (∃ (s : State), s.out.crank = false) ∧
    (∃ (c : Fin 4) (s : State), s.hasChan (4 * c) = true) :=
  ⟨⟨running |> (fun s => { s with full := true }), by decide⟩,
   ⟨running |> (fun s => { s with full := false }), by decide⟩,
   ⟨running |> (fun s => s.put Reg.SYS_PROFSTAT_PROF 2), by decide⟩,
   ⟨16, running, by decide⟩,
   ⟨running |> (fun s => { s with out := { s.out with crank := false } }), by decide⟩,
   ⟨(3 : Fin 4), running, by decide⟩⟩

/-- What meets the hypotheses of `Obligations.LoadDiagnosticsAndClusters`, part 2. -/
theorem wit_LoadDiagnosticsAndClusters_2 :
    (∃ (c : Fin 4) (s : State), s.out.hot.getD c false = true) ∧
    (∃ (c : Fin 4) (s : State), s.out.hot.getD c false = false) ∧
    (∃ (c : Fin 4) (s : State), s.bit Reg.OUT_SHED_CLUSTER c = true ∧ s.alive = true) ∧
    (∃ (c : Fin 4) (s : State), s.bit Reg.OUT_SHED_CLUSTER c = false) ∧
    (∃ (s : State), (s.advanceTo (s.fstart + 1000 * min 949 (s.get Reg.OUT_TESTCFG_TSLOT))).testDue = false) ∧
    (∃ (i : Nat), i < 16) :=
  ⟨⟨(3 : Fin 4), running |> (fun s => { s with out := { s.out with hot := [true, true, true, true] } }), by decide⟩,
   ⟨(3 : Fin 4), running, by decide⟩,
   ⟨(3 : Fin 4), running |> (fun s => s.putBit Reg.OUT_SHED_CLUSTER (3 : Fin 4) true), by decide⟩,
   ⟨(3 : Fin 4), running |> (fun s => s.putBit Reg.OUT_SHED_CLUSTER (3 : Fin 4) false), by decide⟩,
   ⟨running |> (fun s => { s with power := { s.power with phase := .inReset } }), by decide⟩,
   ⟨15, by decide⟩⟩

/-- What meets the hypotheses of `Obligations.LoadDiagnosticsAndClusters`, part 3. -/
theorem wit_LoadDiagnosticsAndClusters_3 :
    (∃ (i : Nat) (bright : Bool) (s : State), s.out.test = some (i, bright)) ∧
    (∃ (c : Fin 4) (s : State), s.hasChan (4 * c) = false) :=
  ⟨⟨0, false, running |> (fun s => { s with out := { s.out with test := some (0, false) } }), by decide⟩,
   ⟨(3 : Fin 4), running |> (fun s => { s with full := false }), by decide⟩⟩

/-- What meets the hypotheses of `Obligations.SafetyNetCommands`, part 1. -/
theorem wit_SafetyNetCommands_1 :
    (∃ (i : Fin 4) (high : Bool) (s : State), s.lhIn i = high) ∧
    (∃ (i : Fin 4) (s : State), s.lhIn i = true) ∧
    (∃ (i : Fin 4) (s : State), s.lhIn i = false) ∧
    (∃ (ini : Ini), ini ≠ .pairA) ∧
    (∃ (s : State), s.snActive = false) ∧
    (∃ (s : State), s.snActive = true ∧ s.snCausePersists = true) :=
  ⟨⟨(3 : Fin 4), false, running |> (fun s => s.putBit Reg.LHM_STAT_LHIN (3 : Fin 4) false), by decide⟩,
   ⟨(3 : Fin 4), running |> (fun s => s.putBit Reg.LHM_STAT_LHIN (3 : Fin 4) true), by decide⟩,
   ⟨(3 : Fin 4), running |> (fun s => s.putBit Reg.LHM_STAT_LHIN (3 : Fin 4) false), by decide⟩,
   ⟨.link, by decide⟩,
   ⟨running |> (fun s => s.putB Reg.LHM_STAT_ACTIVE false), by decide⟩,
   ⟨running |> (fun s => s.putB Reg.LHM_STAT_ACTIVE true)
     |> (fun s => { s with power := { s.power with coreFail := true } }), by decide⟩⟩

/-- What meets the hypotheses of `Obligations.SafetyNetCommands`, part 2. -/
theorem wit_SafetyNetCommands_2 :
    (∃ (s : State), s.snActive = true ∧ s.snCausePersists = false) ∧
    (∃ (s : State), s.flag Reg.LHM_LOCK_LOCK = true) ∧
    (∃ (s : State) (x y : Fin 4), s.flag Reg.LHM_LOCK_LOCK = false ∧ x < y ∧
      s.get (Reg.LHM_ASSIGN_MASK.at x) &&& s.get (Reg.LHM_ASSIGN_MASK.at y) ≠ 0) ∧
    (∃ (s : State), s.flag Reg.LHM_LOCK_LOCK = false ∧ s.lhmLock ≠ s.raise Ev.LHM_LOCK_REFUSED) :=
  ⟨⟨running |> (fun s => s.putB Reg.LHM_STAT_ACTIVE true), by decide⟩,
   ⟨running |> (fun s => s.putB Reg.LHM_LOCK_LOCK true), by decide⟩,
   ⟨running |> (fun s => s.putB Reg.LHM_LOCK_LOCK false) |> (fun s => s.put (Reg.LHM_ASSIGN_MASK.at 2) 1)
     |> (fun s => s.put (Reg.LHM_ASSIGN_MASK.at 3) 1), (2 : Fin 4), (3 : Fin 4), by decide⟩,
   ⟨running |> (fun s => s.putB Reg.LHM_LOCK_LOCK false), by decide,
     fun h => absurd (congrArg (fun s => s.flag Reg.LHM_LOCK_LOCK) h) (by decide)⟩⟩

/-- What meets the hypotheses of `Obligations.PumpCommands`. -/
theorem wit_PumpCommands :
    (∃ (s : State), s.pageOn (pageOf Reg.PMP_CTRL) = false) ∧
    (∃ (s : State), s.pageOn (pageOf Reg.PMP_CTRL) = true ∧ s.isLead = false) ∧
    (∃ (s : State), s.pageOn (pageOf Reg.PMP_CTRL) = true ∧ s.isLead = true ∧ s.pmpState = 0 ∧
      s.pmp.gateBad = false ∧ (5 * s.pmpObsmin : Nat) ≤ 4 * s.pmpTarget) ∧
    (∃ (s : State), s.pageOn (pageOf Reg.PMP_CTRL) = true ∧ s.isLead = true ∧ s.pmpState = 0 ∧
      (4 * s.pmpTarget < (5 * s.pmpObsmin : Nat) ∨ s.pmp.gateBad = true)) ∧
    (∃ (s : State), s.pageOn (pageOf Reg.PMP_SETP) = true ∧ s.pmpState = 0 ∧ s.flag Reg.PMP_STAT_ARMED = false) :=
  ⟨⟨running |> (fun s => { s with full := false }), by decide⟩,
   ⟨running |> (fun s => { s with leadStrap := false }), by decide⟩,
   ⟨running |> (fun s => s.put Reg.PMP_STAT_STATE 0) |> (fun s => { s with pmp := { s.pmp with gateBad := false } })
     |> (fun s => s.put Reg.PMP_SETP_DEMAND 0) |> (fun s => s.put Reg.PMP_START_OBSMIN 0), by decide, by decide,
     by decide, by decide, start_ok _ (by decide) (by decide) (by decide)⟩,
   ⟨running |> (fun s => s.put Reg.PMP_STAT_STATE 0) |> (fun s => { s with pmp := { s.pmp with gateBad := true } }),
     by decide, by decide, by decide, Or.inr rfl⟩,
   ⟨running |> (fun s => s.put Reg.PMP_STAT_STATE 0) |> (fun s => s.putB Reg.PMP_STAT_ARMED false), by decide⟩⟩

/-- What meets the hypotheses of `Obligations.PumpSequenceTimers`, part 1. -/
theorem wit_PumpSequenceTimers_1 :
    (∃ (s : State), s.pmpState = 1 ∧ s.pmp.gateBad = false) ∧
    (∃ (rpm : Int) (s : State),
      s.pmpState = 1 ∧ s.pmp.gateBad = false ∧ (let n := s.pmpHeard rpm; 0 < n) ∧ (let n := s.pmpHeard rpm; let u := (s.advanceTo (s.pmp.since + 2000000)).putSatI Reg.PMP_SPD_RPM n; (u.pmpNmax : Int) < n)) ∧
    (∃ (rpm : Int) (s : State),
      s.pmpState = 1 ∧ s.pmp.gateBad = false ∧ (let n := s.pmpHeard rpm; 0 < n) ∧ (let n := s.pmpHeard rpm; let u := (s.advanceTo (s.pmp.since + 2000000)).putSatI Reg.PMP_SPD_RPM n; n ≤ (u.pmpNmax : Int)) ∧ (let n := s.pmpHeard rpm; let u := (s.advanceTo (s.pmp.since + 2000000)).putSatI Reg.PMP_SPD_RPM n; u.pmpTarget ≤ 10 * n)) ∧
    (∃ (rpm : Int) (s : State),
      s.pmpState = 1 ∧ s.pmp.gateBad = false ∧ (let n := s.pmpHeard rpm; 0 ≤ n) ∧ (let n := s.pmpHeard rpm; let u := (s.advanceTo (s.pmp.since + 2000000)).putSatI Reg.PMP_SPD_RPM n; n ≤ (u.pmpNmax : Int)) ∧ (let n := s.pmpHeard rpm; let u := (s.advanceTo (s.pmp.since + 2000000)).putSatI Reg.PMP_SPD_RPM n; 10 * n < u.pmpTarget)) ∧
    (∃ (rpm : Int) (s : State),
      s.pmpState = 1 ∧ s.pmp.gateBad = false ∧ (let n := s.pmpHeard rpm; n < 0) ∧ (let n := s.pmpHeard rpm; let u := (s.advanceTo (s.pmp.since + 2000000)).putSatI Reg.PMP_SPD_RPM n; n.natAbs < u.get Reg.PMP_CATCH_BRKMAX)) ∧
    (∃ (rpm : Int) (s : State),
      s.pmpState = 1 ∧ s.pmp.gateBad = false ∧ (let n := s.pmpHeard rpm; n < 0) ∧ (let n := s.pmpHeard rpm; let u := (s.advanceTo (s.pmp.since + 2000000)).putSatI Reg.PMP_SPD_RPM n; u.get Reg.PMP_CATCH_BRKMAX ≤ n.natAbs)) :=
  ⟨⟨running |> (fun s => s.put Reg.PMP_STAT_STATE 1) |> (fun s => { s with pmp := { s.pmp with gateBad := false } }),
     by decide⟩,
   ⟨1000, running |> (fun s => s.put Reg.PMP_STAT_STATE 1)
     |> (fun s => { s with pmp := { s.pmp with gateBad := false } }) |> (fun s => s.put Reg.PMP_SPEED_NMAX 0),
     by decide⟩,
   ⟨1000, running |> (fun s => s.put Reg.PMP_STAT_STATE 1)
     |> (fun s => { s with pmp := { s.pmp with gateBad := false } }) |> (fun s => s.put Reg.PMP_SPEED_NMAX 1000)
     |> (fun s => s.put Reg.PMP_SETP_DEMAND 0), by decide, by decide, by decide, by decide,
     by dsimp only; rw [target_zero _ (by decide) (by decide), heard_fast _ (by decide)]; norm_num⟩,
   ⟨0, running |> (fun s => s.put Reg.PMP_STAT_STATE 1)
     |> (fun s => { s with pmp := { s.pmp with gateBad := false } }) |> (fun s => s.put Reg.PMP_SPEED_NMAX 1000)
     |> (fun s => s.put Reg.PMP_SETP_DEMAND 1000), by decide, by decide, by decide, by decide,
     by dsimp only; rw [target_full _ (by decide) (by decide) (by decide), heard_zero]; norm_num⟩,
   ⟨-1000, running |> (fun s => s.put Reg.PMP_STAT_STATE 1)
     |> (fun s => { s with pmp := { s.pmp with gateBad := false } }) |> (fun s => s.put Reg.PMP_CATCH_BRKMAX 1001),
     by decide⟩,
   ⟨-1000, running |> (fun s => s.put Reg.PMP_STAT_STATE 1)
     |> (fun s => { s with pmp := { s.pmp with gateBad := false } }) |> (fun s => s.put Reg.PMP_CATCH_BRKMAX 1000),
     by decide⟩⟩

/-- What meets the hypotheses of `Obligations.PumpSequenceTimers`, part 2. -/
theorem wit_PumpSequenceTimers_2 :
    (∃ (ph vbat : Nat) (s : State), s.pmpState = 1 ∧ s.pmp.gateBad = false ∧ vbat + 300 < ph) ∧
    (∃ (s : State), s.pmpState = 2 ∧ s.pmp.gateBad = false) ∧
    (∃ (rpm : Int) (s : State),
      s.pmpState = 2 ∧ s.pmp.gateBad = false ∧ rpm < 0 ∧ (let u := s.advanceTo (s.pmp.since + 50000000); u.pmpTarget ≤ (10 * rpm.natAbs : Nat))) ∧
    (∃ (rpm : Int) (s : State),
      s.pmpState = 2 ∧ s.pmp.gateBad = false ∧ (let u := s.advanceTo (s.pmp.since + 50000000); 0 ≤ rpm ∨ ((10 * rpm.natAbs : Nat) : Rat) < u.pmpTarget)) ∧
    (∃ (s : State), s.pmpState = 3 ∧ s.pmp.gateBad = false) ∧
    (∃ (s : State), s.pmpState = 6 ∧ s.pmp.gateBad = false ∧ s.pmp.toOff = true) :=
  ⟨⟨301, 0, running |> (fun s => s.put Reg.PMP_STAT_STATE 1)
     |> (fun s => { s with pmp := { s.pmp with gateBad := false } }), by decide⟩,
   ⟨running |> (fun s => s.put Reg.PMP_STAT_STATE 2) |> (fun s => { s with pmp := { s.pmp with gateBad := false } }),
     by decide⟩,
   ⟨-1, running |> (fun s => s.put Reg.PMP_STAT_STATE 2)
     |> (fun s => { s with pmp := { s.pmp with gateBad := false } }) |> (fun s => s.put Reg.PMP_SETP_DEMAND 0),
     by decide, by decide, by decide, by dsimp only; rw [target_zero _ (by decide) (by decide)]; norm_num⟩,
   ⟨0, running |> (fun s => s.put Reg.PMP_STAT_STATE 2)
     |> (fun s => { s with pmp := { s.pmp with gateBad := false } }), by decide⟩,
   ⟨running |> (fun s => s.put Reg.PMP_STAT_STATE 3) |> (fun s => { s with pmp := { s.pmp with gateBad := false } }),
     by decide⟩,
   ⟨running |> (fun s => s.put Reg.PMP_STAT_STATE 6) |> (fun s => { s with pmp := { s.pmp with gateBad := false } })
     |> (fun s => { s with pmp := { s.pmp with toOff := true } }), by decide⟩⟩

/-- What meets the hypotheses of `Obligations.PumpSequenceTimers`, part 3. -/
theorem wit_PumpSequenceTimers_3 :
    (∃ (s : State),
      s.pmpState = 6 ∧ s.pmp.gateBad = false ∧ s.pmp.toOff = false ∧ (let u := s.advanceTo (s.pmp.since + s.pmpZv); u.pmpSpent = true)) ∧
    (∃ (s : State),
      s.pmpState = 6 ∧ s.pmp.gateBad = false ∧ s.pmp.toOff = false ∧ (let u := s.advanceTo (s.pmp.since + s.pmpZv); u.pmpSpent = false)) ∧
    (∃ (s : State),
      s.pmpState = 8 ∧ s.pmp.gateBad = false ∧ (let u := s.advanceTo (s.pmp.since + 10000000 * clampN 1 255 (s.get Reg.PMP_CATCH_RETRYDLY)); u.pmpSpent = true)) ∧
    (∃ (s : State),
      s.pmpState = 8 ∧ s.pmp.gateBad = false ∧ (let u := s.advanceTo (s.pmp.since + 10000000 * clampN 1 255 (s.get Reg.PMP_CATCH_RETRYDLY)); u.pmpSpent = false)) ∧
    (∃ (s : State), s.pmpState = 5) ∧
    (∃ (s : State), (s.pmpState = 0 ∨ s.pmpState = 9)) :=
  ⟨⟨running |> (fun s => s.put Reg.PMP_STAT_STATE 6) |> (fun s => { s with pmp := { s.pmp with gateBad := false } })
     |> (fun s => { s with pmp := { s.pmp with toOff := false } }) |> (fun s => s.put Reg.PMP_CATCH_RETRIES 0)
     |> (fun s => s.put Reg.PMP_ATTEMPT_COUNT 1), by decide⟩,
   ⟨running |> (fun s => s.put Reg.PMP_STAT_STATE 6) |> (fun s => { s with pmp := { s.pmp with gateBad := false } })
     |> (fun s => { s with pmp := { s.pmp with toOff := false } }), by decide⟩,
   ⟨running |> (fun s => s.put Reg.PMP_STAT_STATE 8) |> (fun s => { s with pmp := { s.pmp with gateBad := false } })
     |> (fun s => s.put Reg.PMP_CATCH_RETRIES 0) |> (fun s => s.put Reg.PMP_ATTEMPT_COUNT 1), by decide⟩,
   ⟨running |> (fun s => s.put Reg.PMP_STAT_STATE 8) |> (fun s => { s with pmp := { s.pmp with gateBad := false } }),
     by decide⟩,
   ⟨running |> (fun s => s.put Reg.PMP_STAT_STATE 5), by decide⟩,
   ⟨running |> (fun s => s.put Reg.PMP_STAT_STATE 0), by decide⟩⟩

/-- What meets the hypotheses of `Obligations.PumpSequenceTimers`, part 4. -/
theorem wit_PumpSequenceTimers_4 :
    (∃ (rpm : Int) (s : State), rpm.natAbs * clampN 1 15 (s.get Reg.PMP_MOTOR2_PP) < 3000) ∧
    (∃ (rpm : Int) (s : State), 3000 ≤ rpm.natAbs * clampN 1 15 (s.get Reg.PMP_MOTOR2_PP)) ∧
    (∃ (ph vbat : Nat), ph ≤ vbat + 300) :=
  ⟨⟨0, running, by decide⟩,
   ⟨3000, running, by decide⟩,
   ⟨0, 0, by decide⟩⟩

/-- What meets the hypotheses of `Obligations.PumpLoopAndGateCommands`, part 1. -/
theorem wit_PumpLoopAndGateCommands_1 :
    (∃ (s : State), s.pmpHere = false) ∧
    (∃ (s : State), s.pmpHere = true ∧ s.pmp.gateBad = false ∧
      (s.pmpState = 8 ∨ s.pmpState = 9 ∨ s.pmpState = 1 ∨ s.pmpState = 6)) ∧
    (∃ (s : State), s.pmpHere = true ∧ s.pmp.gateBad = false ∧ s.pmpDrives = true) ∧
    (∃ (uv : Nat) (s : State), s.pmpHere = true ∧ s.pmpDrives = true ∧ s.pmp.hiCut = false ∧ s.pmpOver uv = true ∧
      s.pmp.ocN < 19) ∧
    (∃ (uv : Nat) (s : State), s.pmpHere = true ∧ s.pmpDrives = true ∧ s.pmp.hiCut = false ∧ s.pmpOver uv = true ∧
      19 ≤ s.pmp.ocN) ∧
    (∃ (uv : Nat) (s : State), (s.pmpHere = false ∨ s.pmpDrives = false ∨ s.pmp.hiCut = true ∨ s.pmpOver uv = false)) :=
  ⟨⟨running |> (fun s => { s with power := { s.power with phase := .inReset } }), by decide⟩,
   ⟨running |> (fun s => { s with pmp := { s.pmp with gateBad := false } }) |> (fun s => s.put Reg.PMP_STAT_STATE 8),
     by decide⟩,
   ⟨running |> (fun s => { s with pmp := { s.pmp with gateBad := false } }) |> (fun s => s.put Reg.PMP_STAT_STATE 3),
     by decide⟩,
   ⟨10000000, running |> (fun s => { s with pmp := { s.pmp with hiCut := false } })
     |> (fun s => s.put Reg.PMP_STAT_STATE 3), by decide⟩,
   ⟨10000000, running |> (fun s => { s with pmp := { s.pmp with hiCut := false } })
     |> (fun s => { s with pmp := { s.pmp with ocN := 19 } }) |> (fun s => s.put Reg.PMP_STAT_STATE 3), by decide⟩,
   ⟨0, running |> (fun s => { s with power := { s.power with phase := .inReset } }), by decide⟩⟩

/-- What meets the hypotheses of `Obligations.PumpLoopAndGateCommands`, part 2. -/
theorem wit_PumpLoopAndGateCommands_2 :
    (∃ (ph : Int) (s : State), (s.pmpState = 2 ∨ s.pmpState = 6) ∧
      clampN 20 2000 (s.get Reg.PMP_BRAKE_VDSLIM) ≤ ph.natAbs) ∧
    (∃ (ph : Int) (s : State), ph.natAbs < clampN 20 2000 (s.get Reg.PMP_BRAKE_VDSLIM)) ∧
    (∃ (s : State), s.pmpState ≠ 2 ∧ s.pmpState ≠ 6) ∧
    (∃ (vgd boot : Nat) (s : State), (s.pmpHere = false ∨ (8000 ≤ vgd ∧ 7000 ≤ boot))) ∧
    (∃ (vgd boot : Nat) (s : State), s.pmpHere = true ∧ (vgd < 8000 ∨ boot < 7000) ∧
      (s.pmpState = 0 ∨ s.pmpState = 9) ∧ s.pmp.gateBad = false) ∧
    (∃ (vgd : Nat) (s : State), s.pmpHere = true ∧ vgd < 8000 ∧ 1 ≤ s.pmpState ∧ s.pmpState ≤ 8) :=
  ⟨⟨2000, running |> (fun s => s.put Reg.PMP_STAT_STATE 2), by decide⟩,
   ⟨0, running, by decide⟩,
   ⟨running, by decide⟩,
   ⟨0, 0, running |> (fun s => { s with power := { s.power with phase := .inReset } }), by decide⟩,
   ⟨7999, 6999, running |> (fun s => s.put Reg.PMP_STAT_STATE 0)
     |> (fun s => { s with pmp := { s.pmp with gateBad := false } }), by decide⟩,
   ⟨7999, running |> (fun s => s.put Reg.PMP_STAT_STATE 1), by decide⟩⟩

/-- What meets the hypotheses of `Obligations.PumpLoopAndGateCommands`, part 3. -/
theorem wit_PumpLoopAndGateCommands_3 :
    (∃ (vgd boot : Nat) (s : State), s.pmp.gateBad = true ∧ s.pmp.gateBack = none ∧ 8000 ≤ vgd ∧ 7000 ≤ boot) ∧
    (∃ (vgd boot : Nat) (s : State), (s.pmp.gateBad = false ∨ vgd < 8000 ∨ boot < 7000)) ∧
    (∃ (s : State), s.pmp.gateBack = none) ∧
    (∃ (n : Nat) (s : State), s.pmp.gateBack = some n ∧ 1 ≤ s.pmpState ∧ s.pmpState ≤ 8) :=
  ⟨⟨8000, 7000, running |> (fun s => { s with pmp := { s.pmp with gateBad := true } })
     |> (fun s => { s with pmp := { s.pmp with gateBack := none } }), by decide⟩,
   ⟨7999, 6999, running |> (fun s => { s with pmp := { s.pmp with gateBad := false } }), by decide⟩,
   ⟨running |> (fun s => { s with pmp := { s.pmp with gateBack := none } }), by decide⟩,
   ⟨0, running |> (fun s => { s with pmp := { s.pmp with gateBack := some 0 } })
     |> (fun s => s.put Reg.PMP_STAT_STATE 1), by decide⟩⟩

/-- What meets the hypotheses of `Obligations.SupplyPauseCommands`, part 1. -/
theorem wit_SupplyPauseCommands_1 :
    (∃ (s : State), s.power.pauseAt = none ∧ s.alive = false) ∧
    (∃ (s : State), s.power.pauseAt = none ∧ s.alive = true) ∧
    (∃ (n : Nat) (s : State), s.alive = true ∧ s.power.pauseAt = some n ∧ s.power.backAt = none ∧
      s.power.warnAt = none ∧ s.out.crank = false) ∧
    (∃ (n b : Nat) (s : State), s.alive = true ∧ s.power.pauseAt = some n ∧ s.power.backAt = some b) ∧
    (∃ (s : State), (s.power.pauseAt = none ∨ s.alive = false ∨ s.power.backAt.isSome = true)) ∧
    (∃ (s : State), s.power.warnAt = none ∧ s.alive = true) :=
  ⟨⟨running |> (fun s => { s with power := { s.power with pauseAt := none } })
     |> (fun s => { s with power := { s.power with phase := .inReset } }), by decide⟩,
   ⟨running |> (fun s => { s with power := { s.power with pauseAt := none } }), by decide⟩,
   ⟨0, running |> (fun s => { s with power := { s.power with pauseAt := some 0 } })
     |> (fun s => { s with power := { s.power with backAt := none } })
     |> (fun s => { s with power := { s.power with warnAt := none } })
     |> (fun s => { s with out := { s.out with crank := false } }), by decide⟩,
   ⟨0, 0, running |> (fun s => { s with power := { s.power with pauseAt := some 0 } })
     |> (fun s => { s with power := { s.power with backAt := some 0 } }), by decide⟩,
   ⟨running |> (fun s => { s with power := { s.power with pauseAt := none } }), by decide⟩,
   ⟨running |> (fun s => { s with power := { s.power with warnAt := none } }), by decide⟩⟩

/-- What meets the hypotheses of `Obligations.SupplyPauseCommands`, part 2. -/
theorem wit_SupplyPauseCommands_2 :
    (∃ (n : Nat) (s : State), s.alive = true ∧ s.power.warnAt = some n) ∧
    (∃ (mv : Nat) (s : State), 52000 ≤ mv ∧ s.alive = true) ∧
    (∃ (mv : Nat), mv < 50000) ∧
    (∃ (mv : Nat), 50000 ≤ mv ∧ mv < 52000) :=
  ⟨⟨0, running |> (fun s => { s with power := { s.power with warnAt := some 0 } }), by decide⟩,
   ⟨52000, running, by decide⟩,
   ⟨49999, by decide⟩,
   ⟨51999, by decide⟩⟩

/-- What meets the hypotheses of `Obligations.DeviceResetLeaves`. -/
theorem wit_DeviceResetLeaves :
    (∃ (s : State), s.alive = true) ∧
    (∃ (a : Nat) (s : State), s.alive = true ∧ keptReg a = false ∧ pageOf a ≠ 29) ∧
    (∃ (s : State), s.alive = false) :=
  ⟨⟨running, by decide⟩,
   ⟨0, running, by decide⟩,
   ⟨running |> (fun s => { s with power := { s.power with phase := .inReset } }), by decide⟩⟩

/-- What meets the hypotheses of `Obligations.ResetCauseCommands`, part 1. -/
theorem wit_ResetCauseCommands_1 :
    (∃ (n : Nat) (s : State), s.power.warnAt = some n ∧ s.alive = true ∧ s.get Reg.PWR_HOLDE_UJ < 50) ∧
    (∃ (n : Nat) (s : State), s.power.warnAt = some n ∧ s.alive = true ∧ 50 ≤ s.get Reg.PWR_HOLDE_UJ) ∧
    (∃ (s : State), s.power.warnAt = none) ∧
    (∃ (s : State), s.sleeping = false ∧ s.alive = true) ∧
    (∃ (s : State), s.sleeping = true) ∧
    (∃ (s : State), s.power.pll = true ∧ s.alive = true) :=
  ⟨⟨0, running |> (fun s => { s with power := { s.power with warnAt := some 0 } })
     |> (fun s => s.put Reg.PWR_HOLDE_UJ (50 - 1)), by decide⟩,
   ⟨0, running |> (fun s => { s with power := { s.power with warnAt := some 0 } })
     |> (fun s => s.put Reg.PWR_HOLDE_UJ 50), by decide⟩,
   ⟨running |> (fun s => { s with power := { s.power with warnAt := none } }), by decide⟩,
   ⟨running |> (fun s => s.put Reg.SYS_PROFSTAT_PROF 0), by decide⟩,
   ⟨running |> (fun s => s.put Reg.SYS_PROFSTAT_PROF 2), by decide⟩,
   ⟨running |> (fun s => { s with power := { s.power with pll := true } }), by decide⟩⟩

/-- What meets the hypotheses of `Obligations.ResetCauseCommands`, part 2. -/
theorem wit_ResetCauseCommands_2 :
    (∃ (s : State), (s.power.pll = false ∨ s.alive = false)) ∧
    (∃ (n : Nat) (s : State), s.power.nrstAt = some n) ∧
    (∃ (s : State), s.power.nrstAt = none) ∧
    (∃ (s : State), s.alive = true ∧ 1750 ≤ s.getI Reg.THM_DIESTAT_TDIE) ∧
    (∃ (s : State), s.alive = true ∧ s.power.stage = 3 ∧ s.getI Reg.THM_DIESTAT_TDIE < 1750) ∧
    (∃ (s : State), s.power.stage ≠ 3 ∧ s.getI Reg.THM_DIESTAT_TDIE < 1750) :=
  ⟨⟨running |> (fun s => { s with power := { s.power with pll := false } }), by decide⟩,
   ⟨0, running |> (fun s => { s with power := { s.power with nrstAt := some 0 } }), by decide⟩,
   ⟨running |> (fun s => { s with power := { s.power with nrstAt := none } }), by decide⟩,
   ⟨running |> (fun s => s.put Reg.THM_DIESTAT_TDIE 1750), by decide⟩,
   ⟨running |> (fun s => { s with power := { s.power with stage := 3 } })
     |> (fun s => s.put Reg.THM_DIESTAT_TDIE (1750 - 1)), by decide⟩,
   ⟨running |> (fun s => { s with power := { s.power with stage := 0 } })
     |> (fun s => s.put Reg.THM_DIESTAT_TDIE (1750 - 1)), by decide⟩⟩

/-- What meets the hypotheses of `Obligations.ResetCauseCommands`, part 3. -/
theorem wit_ResetCauseCommands_3 :
    (∃ (s : State), (s.alive = true ∨ s.power.vbatLost = false)) ∧
    (∃ (s : State), s.alive = false ∧ s.power.vbatLost = true) :=
  ⟨⟨running, by decide⟩,
   ⟨running |> (fun s => { s with power := { s.power with phase := .inReset } })
     |> (fun s => { s with power := { s.power with vbatLost := true } }), by decide⟩⟩

/-- What meets the hypotheses of `Obligations.BootCommands`, part 1. -/
theorem wit_BootCommands_1 :
    (∃ (s : State), (s.alive = true ∨ s.mayRelease = false)) ∧
    (∃ (s : State), s.alive = false ∧ s.mayRelease = true) ∧
    (∃ (c : Nat) (s : State), c ∈ [2, 7, 8] ∧ s.power.code = c ∧ s.alive = false ∧ s.mayRelease = true) ∧
    (∃ (s : State), s.power.phase = .released ∧ 1200 ≤ s.get Reg.PWR_HOLDE_UJ) ∧
    (∃ (s : State), (s.power.phase ≠ .released ∨ s.get Reg.PWR_HOLDE_UJ < 1200)) ∧
    (∃ (s : State), s.power.phase ≠ .released) :=
  ⟨⟨running, by decide⟩,
   ⟨running |> (fun s => { s with power := { s.power with phase := .inReset } }), by decide⟩,
   ⟨8, running |> (fun s => { s with power := { s.power with code := 8 } })
     |> (fun s => { s with power := { s.power with phase := .inReset } }), by decide⟩,
   ⟨running |> (fun s => { s with power := { s.power with phase := .released } })
     |> (fun s => s.put Reg.PWR_HOLDE_UJ 1200), by decide⟩,
   ⟨running, by decide⟩,
   ⟨running, by decide⟩⟩

/-- What meets the hypotheses of `Obligations.BootCommands`, part 2. -/
theorem wit_BootCommands_2 :
    (∃ (s : State), s.power.phase ≠ .records) ∧
    (∃ (s : State), s.power.phase = .records) :=
  ⟨⟨running, by decide⟩,
   ⟨running |> (fun s => { s with power := { s.power with phase := .records } }), by decide⟩⟩

/-- What meets the hypotheses of `Obligations.WatchdogCommands`, part 1. -/
theorem wit_WatchdogCommands_1 :
    (∃ (ini : Ini) (p : Pair), ini ≠ p.ini) ∧
    (∃ (s : State), (s.power.phase ≠ .run ∨ s.power.holdAt.isSome = true)) ∧
    (∃ (s : State), s.power.phase = .run ∧ s.power.holdAt = none) ∧
    (∃ (k : Word) (s : State), s.power.phase = .run ∧ s.power.holdAt = none ∧ k.toNat % 65536 = 0x5A5A) ∧
    (∃ (p : Pair) (k : Word) (s : State), s.power.phase = .run ∧ s.power.holdAt = none ∧ k.toNat % 65536 = 0xA5A5 ∧
      s.wdKey p = true ∧ s.wdMin ≤ s.get (wdCount p)) ∧
    (∃ (p : Pair) (k : Word) (s : State), s.power.phase = .run ∧ s.power.holdAt = none ∧ k.toNat % 65536 = 0xA5A5 ∧
      s.wdKey p = true ∧ s.get (wdCount p) < s.wdMin) :=
  ⟨⟨.debug, Pair.a, by decide⟩,
   ⟨running |> (fun s => { s with power := { s.power with phase := .released } }), by decide⟩,
   ⟨running |> (fun s => { s with power := { s.power with phase := .run } })
     |> (fun s => { s with power := { s.power with holdAt := none } }), by decide⟩,
   ⟨0x5A5A, running |> (fun s => { s with power := { s.power with phase := .run } })
     |> (fun s => { s with power := { s.power with holdAt := none } }), by decide⟩,
   ⟨Pair.a, 0xA5A5, running |> (fun s => { s with power := { s.power with phase := .run } })
     |> (fun s => { s with power := { s.power with holdAt := none } })
     |> (fun s => { s with power := { s.power with keyA := true } }) |> (fun s => s.put Reg.RST_WDCFG_WDMIN 0),
     by decide⟩,
   ⟨Pair.a, 0xA5A5, running |> (fun s => { s with power := { s.power with phase := .run } })
     |> (fun s => { s with power := { s.power with holdAt := none } })
     |> (fun s => { s with power := { s.power with keyA := true } }) |> (fun s => s.put Reg.RST_WDCFG_WDMIN 5)
     |> (fun s => s.put Reg.RST_WDCFG_WDMAX 10), by decide⟩⟩

/-- What meets the hypotheses of `Obligations.WatchdogCommands`, part 2. -/
theorem wit_WatchdogCommands_2 :
    (∃ (p : Pair) (k : Word) (s : State), s.power.phase = .run ∧ s.power.holdAt = none ∧ k.toNat % 65536 = 0xA5A5 ∧
      s.wdKey p = false) ∧
    (∃ (k : Word) (s : State), s.power.phase = .run ∧ s.power.holdAt = none ∧ k.toNat % 65536 ≠ 0x5A5A ∧
      k.toNat % 65536 ≠ 0xA5A5) ∧
    (∃ (p : Pair) (s : State), s.power.phase = .run ∧ s.wdMax ≤ s.get (wdCount p)) ∧
    (∃ (p : Pair) (s : State), (s.power.phase ≠ .run ∨ s.get (wdCount p) < s.wdMax)) ∧
    (∃ (p : Pair) (s : State), s.power.holdAt = some s.now ∧ s.power.wdPair ≠ p.idx + 1) ∧
    (∃ (n : Nat) (s : State), s.power.holdAt = some n ∧ s.pmpFw = false) :=
  ⟨⟨Pair.a, 0xA5A5, running |> (fun s => { s with power := { s.power with phase := .run } })
     |> (fun s => { s with power := { s.power with holdAt := none } }), by decide⟩,
   ⟨0, running |> (fun s => { s with power := { s.power with phase := .run } })
     |> (fun s => { s with power := { s.power with holdAt := none } }), by decide⟩,
   ⟨Pair.a, running |> (fun s => { s with power := { s.power with phase := .run } })
     |> (fun s => s.put Reg.RST_WDSTAT_CNTA 255), by decide⟩,
   ⟨Pair.a, running |> (fun s => { s with power := { s.power with phase := .released } }), by decide⟩,
   ⟨Pair.a, running |> (fun s => { s with power := { s.power with holdAt := some s.now } }), by decide⟩,
   ⟨0, running |> (fun s => { s with power := { s.power with holdAt := some 0 } }), by decide⟩⟩

/-- What meets the hypotheses of `Obligations.WatchdogCommands`, part 3. -/
theorem wit_WatchdogCommands_3 :
    ∃ (n : Nat) (s : State), s.power.holdAt = some n ∧ s.pmpFw = true :=
  ⟨0, running |> (fun s => { s with power := { s.power with holdAt := some 0 } })
    |> (fun s => { s with pmp := { s.pmp with idRef := -1 } }), by decide⟩

/-- What meets the hypotheses of `Obligations.ClockAndHoldupCommands`, part 1. -/
theorem wit_ClockAndHoldupCommands_1 :
    (∃ (s : State), s.beforeWatchFrame = true ∧ s.power.pll = false ∧ s.power.pllOn = false) ∧
    (∃ (s : State), (s.beforeWatchFrame = false ∨ s.power.pll = true ∨ s.power.pllOn = true)) ∧
    (∃ (s : State), s.power.pllOn = true) ∧
    (∃ (s : State), s.beforeWatchFrame = true ∧ s.power.pauseAt = none) ∧
    (∃ (s : State), (s.beforeWatchFrame = false ∨ s.power.pauseAt.isSome = true)) ∧
    (∃ (s : State), (s.sleeping = false ∨ s.alive = false ∨ s.power.waking = false)) :=
  ⟨⟨running |> (fun s => { s with power := { s.power with pll := false } })
     |> (fun s => { s with power := { s.power with pllOn := false } }) |> (fun s => s.put Reg.SYS_PROFSTAT_PROF 1)
     |> (fun s => { s with tt := { s.tt with watchN := 99 } }), by decide⟩,
   ⟨running, by decide⟩,
   ⟨running |> (fun s => { s with power := { s.power with pllOn := true } }), by decide⟩,
   ⟨running |> (fun s => { s with power := { s.power with pauseAt := none } })
     |> (fun s => s.put Reg.SYS_PROFSTAT_PROF 1) |> (fun s => { s with tt := { s.tt with watchN := 99 } }),
     by decide⟩,
   ⟨running, by decide⟩,
   ⟨running |> (fun s => s.put Reg.SYS_PROFSTAT_PROF 0), by decide⟩⟩

/-- What meets the hypotheses of `Obligations.ClockAndHoldupCommands`, part 2. -/
theorem wit_ClockAndHoldupCommands_2 :
    (∃ (s : State), s.sleeping = true ∧ s.alive = true ∧ s.power.waking = true) ∧
    (∃ (s : State), (s.nvm.bootDue = none ∨ s.alive = false)) ∧
    (∃ (sl : Option (Nat × Nat)) (s : State) (v hz : Nat), (s.nvm.bootDue = none ∨ s.alive = false) ∧
      sl = some (v, hz)) ∧
    (∃ (n : Nat) (s : State), s.power.lowSince = some n ∧ s.alive = true ∧ s.flag Reg.PWR_STAT_HOLDFLT = false) ∧
    (∃ (s : State), s.power.lowSince = none) :=
  ⟨⟨running |> (fun s => s.put Reg.SYS_PROFSTAT_PROF 2)
     |> (fun s => { s with power := { s.power with waking := true } }), by decide⟩,
   ⟨running |> (fun s => { s with nvm := { s.nvm with bootDue := none } }), by decide⟩,
   ⟨some (0, 0), running |> (fun s => { s with nvm := { s.nvm with bootDue := none } }), 0, 0, by decide⟩,
   ⟨0, running |> (fun s => { s with power := { s.power with lowSince := some 0 } })
     |> (fun s => s.putB Reg.PWR_STAT_HOLDFLT false), by decide⟩,
   ⟨running |> (fun s => { s with power := { s.power with lowSince := none } }), by decide⟩⟩

/-- What meets the hypotheses of `Obligations.LinkPacketCommands`, part 1. -/
theorem wit_LinkPacketCommands_1 :
    (∃ (p : SetPacket) (s : State), s.alive = true ∧ p.crcOk = false) ∧
    (∃ (r : FrameRecord) (s : State), s.alive = true ∧ r.crcOk = false) ∧
    (∃ (s : State), s.alive = false) ∧
    (∃ (s : State), (s.isLead = true ∨ s.alive = false)) ∧
    (∃ (s : State), s.isLead = false ∧ s.alive = true ∧ s.flag Reg.CSC_STAT_LOCK = true) ∧
    (∃ (s : State), s.isLead = false ∧ s.alive = true ∧ s.flag Reg.CSC_STAT_LOCK = false) :=
  ⟨⟨{ wPacket with crcOk := false }, running, by decide⟩,
   ⟨{ wRecord with crcOk := false }, running, by decide⟩,
   ⟨running |> (fun s => { s with power := { s.power with phase := .inReset } }), by decide⟩,
   ⟨running, by decide⟩,
   ⟨running |> (fun s => { s with leadStrap := false }) |> (fun s => s.putB Reg.CSC_STAT_LOCK true), by decide⟩,
   ⟨running |> (fun s => { s with leadStrap := false }) |> (fun s => s.putB Reg.CSC_STAT_LOCK false), by decide⟩⟩

/-- What meets the hypotheses of `Obligations.LinkPacketCommands`, part 2. -/
theorem wit_LinkPacketCommands_2 :
    (∃ (p : SetPacket) (s : State), s.isLead = true ∧ s.alive = true ∧ p.crcOk = true) ∧
    (∃ (r : FrameRecord) (s : State), s.isLead = true ∧ s.alive = true ∧ r.crcOk = true ∧ s.knows r.dev = false) ∧
    (∃ (r : FrameRecord) (s : State), s.isLead = true ∧ s.alive = true ∧ r.crcOk = true ∧ s.knows r.dev = true ∧
      s.flag Reg.CSC_STAT_ENUM = true ∧ (s.tripNow r.dev r.trip).bit Reg.CSC_LOST_DEV r.dev = true ∧
      r.readmit = false) ∧
    (∃ (r : FrameRecord) (s : State), s.isLead = true ∧ s.alive = true ∧ r.crcOk = true ∧ s.knows r.dev = true ∧
      s.flag Reg.CSC_STAT_ENUM = true ∧ (s.tripNow r.dev r.trip).bit Reg.CSC_LOST_DEV r.dev = false) ∧
    (∃ (s : State), s.isLead = true ∧ s.alive = true) ∧
    (∃ (s : State), (s.isLead = true ∨ (∀ e, e ∈ s.tt.xfer → e ≤ s.now))) :=
  ⟨⟨wPacket, running, by decide⟩,
   ⟨wRecord, running, by decide⟩,
   ⟨wRecord, running |> (fun s => s.putB Reg.CSC_STAT_ENUM true) |> (fun s => s.put Reg.CSC_ENUMSTAT_NFOUND 7)
     |> (fun s => s.putBit Reg.CSC_LOST_DEV 7 true), by decide⟩,
   ⟨wRecord, running |> (fun s => s.putB Reg.CSC_STAT_ENUM true) |> (fun s => s.put Reg.CSC_ENUMSTAT_NFOUND 7),
     by decide⟩,
   ⟨running, by decide⟩,
   ⟨running, by decide⟩⟩

/-- What meets the hypotheses of `Obligations.LinkPacketCommands`, part 3. -/
theorem wit_LinkPacketCommands_3 :
    (∃ (s : State), s.isLead = false ∧ (∃ e, e ∈ s.tt.xfer ∧ s.now < e)) ∧
    (∃ (s : State) (f : LinkMsg → Bool) (m : LinkMsg), s.csc.txq.find? f = some m) ∧
    (∃ (s : State), s.numbered = true ∧ s.alive = true ∧ s.actFrame = true ∧ s.csc.recDone ≠ some s.frame) ∧
    (∃ (s : State), s.csc.recDone = some s.frame) ∧
    (∃ (p : SetPacket) (s : State), s.isLead = false ∧ s.alive = true ∧ p.crcOk = true) ∧
    (∃ (r : FrameRecord) (s : State), s.isLead = false ∧ s.alive = true ∧ r.crcOk = true) :=
  ⟨⟨running |> (fun s => { s with leadStrap := false }) |> (fun s => { s with tt := { s.tt with xfer := [30000] } }),
     by decide, ⟨30000, by decide, by decide⟩⟩,
   ⟨running |> (fun s => { s with csc := { s.csc with txq := [⟨.report, 0, 0, 0⟩] } }), (fun _ => true),
     ⟨.report, 0, 0, 0⟩, rfl⟩,
   ⟨running |> (fun s => { s with leadStrap := false }) |> (fun s => s.putB Reg.CSC_STAT_ENUM true), by decide⟩,
   ⟨running |> (fun s => { s with csc := { s.csc with recDone := some s.frame } }), by decide⟩,
   ⟨wPacket, running |> (fun s => { s with leadStrap := false }), by decide⟩,
   ⟨wRecord, running |> (fun s => { s with leadStrap := false }), by decide⟩⟩

/-- What meets the hypotheses of `Obligations.MarkerAndSyncCommands`, part 1. -/
theorem wit_MarkerAndSyncCommands_1 :
    (∃ (s : State), s.isLead = true ∧ s.power.phase = .run ∧ s.csc.mute = false ∧ s.sleeping = false ∧
      (s.power.wakeAt = 0 ∨ s.power.wakeAt + 1000000 ≤ s.fstart)) ∧
    (∃ (s : State), (s.isLead = false ∨ s.csc.mute = true ∨ s.sleeping = true)) ∧
    (∃ (w : Word) (s : State), s.isLead = false ∧ s.alive = true ∧ s.sleeping = false ∧ markerValid w = true ∧
      (s.flag Reg.CSC_STAT_LOCK = false ∨ (w.extractLsb' 8 16).toNat = (s.frame + 1) % 65536)) ∧
    (∃ (w : Word) (s : State), (markerValid w = false ∨ s.isLead = true)) ∧
    (∃ (o : Int) (s : State), s.isLead = false ∧ s.alive = true ∧ s.csc.marker.isSome = true ∧ o < 1000) ∧
    (∃ (o : Int) (s : State), (s.isLead = true ∨ s.csc.marker = none ∨ 1000 ≤ o)) :=
  ⟨⟨running |> (fun s => { s with power := { s.power with phase := .run } })
     |> (fun s => { s with csc := { s.csc with mute := false } }) |> (fun s => s.put Reg.SYS_PROFSTAT_PROF 0)
     |> (fun s => { s with power := { s.power with wakeAt := 0 } }), by decide⟩,
   ⟨running |> (fun s => { s with leadStrap := false }), by decide⟩,
   ⟨markerWord false 0 0 1, running |> (fun s => { s with leadStrap := false })
     |> (fun s => s.put Reg.SYS_PROFSTAT_PROF 0) |> (fun s => s.putB Reg.CSC_STAT_LOCK false), by decide⟩,
   ⟨0, running, by decide⟩,
   ⟨0, running |> (fun s => { s with leadStrap := false })
     |> (fun s => { s with csc := { s.csc with marker := some default } }), by decide⟩,
   ⟨0, running, by decide⟩⟩

/-- What meets the hypotheses of `Obligations.MarkerAndSyncCommands`, part 2. -/
theorem wit_MarkerAndSyncCommands_2 :
    (∃ (s : State),
      s.isLead = false ∧ s.alive = true ∧ (let d := s.dropRemote; d.csc.miss = 0 ∨ d.flag Reg.CSC_STAT_LOCK = false)) ∧
    (∃ (s : State),
      s.isLead = false ∧ s.alive = true ∧ (let d := s.dropRemote; 1 ≤ d.csc.miss) ∧ (let d := s.dropRemote; d.flag Reg.CSC_STAT_LOCK = true)) ∧
    (∃ (s : State), s.isLead = false ∧ s.sleeping = true) ∧
    (∃ (s : State), s.isLead = false ∧ s.sleeping = false) ∧
    (∃ (s : State), (s.isLead = false ∨ s.alive = false ∨ s.csc.closed = true)) ∧
    (∃ (e : Nat) (l : List Nat) (s : State), s.isLead = true ∧ s.alive = true ∧ s.csc.closed = false ∧
      s.tt.xfer = e :: l ∧ s.flag Reg.CSC_STAT_ENUM = false) :=
  ⟨⟨running |> (fun s => { s with leadStrap := false }), by decide⟩,
   ⟨running |> (fun s => { s with leadStrap := false }) |> (fun s => { s with csc := { s.csc with miss := 1 } })
     |> (fun s => s.putB Reg.CSC_STAT_LOCK true), by decide⟩,
   ⟨running |> (fun s => { s with leadStrap := false }) |> (fun s => s.put Reg.SYS_PROFSTAT_PROF 2), by decide⟩,
   ⟨running |> (fun s => { s with leadStrap := false }) |> (fun s => s.put Reg.SYS_PROFSTAT_PROF 0), by decide⟩,
   ⟨running |> (fun s => { s with leadStrap := false }), by decide⟩,
   ⟨0, [], running |> (fun s => { s with csc := { s.csc with closed := false } })
     |> (fun s => { s with tt := { s.tt with xfer := 0 :: [] } }) |> (fun s => s.putB Reg.CSC_STAT_ENUM false),
     by decide⟩⟩

/-- What meets the hypotheses of `Obligations.EnumerationCommands`, part 1. -/
theorem wit_EnumerationCommands_1 :
    (∃ (s : State), s.mayEnum = true ∧ s.hopsWhole = true) ∧
    (∃ (s : State), s.mayEnum = false) ∧
    (∃ (n : Nat) (s : State), s.csc.firstMarker = some n ∧ s.mayEnum = true ∧ s.get Reg.CSC_CFG_NDEV ≤ 1 ∧
      s.csc.everLocked = false) ∧
    (∃ (s : State), s.alive = false) ∧
    (∃ (s : State), s.alive = true ∧ s.isLead = true ∧ s.csc.sent = false ∧ s.csc.lateTok = false) ∧
    (∃ (s : State), s.alive = true ∧ s.isLead = true ∧ s.csc.sent = false ∧ s.csc.lateTok = true) :=
  ⟨⟨running |> (fun s => { s with csc := { s.csc with everLocked := true } }), by decide⟩,
   ⟨running |> (fun s => { s with csc := { s.csc with mute := true } }), by decide⟩,
   ⟨0, running |> (fun s => { s with csc := { s.csc with firstMarker := some 0 } })
     |> (fun s => { s with csc := { s.csc with everLocked := false } }), by decide⟩,
   ⟨running |> (fun s => { s with power := { s.power with phase := .inReset } }), by decide⟩,
   ⟨running |> (fun s => { s with csc := { s.csc with sent := false } })
     |> (fun s => { s with csc := { s.csc with lateTok := false } }), by decide⟩,
   ⟨running |> (fun s => { s with csc := { s.csc with sent := false } })
     |> (fun s => { s with csc := { s.csc with lateTok := true } }), by decide⟩⟩

/-- What meets the hypotheses of `Obligations.EnumerationCommands`, part 2. -/
theorem wit_EnumerationCommands_2 :
    (∃ (s : State), s.alive = true ∧ s.isLead = true ∧ s.csc.sent = true ∧ s.csc.stage = 1) ∧
    (∃ (n : Nat) (s : State), s.alive = true ∧ s.isLead = true ∧ s.csc.sent = true ∧ s.csc.stage = 2 ∧
      n = s.get Reg.CSC_ENUMSTAT_NFOUND + 1 ∧ n = clampN 1 8 (s.get Reg.CSC_CFG_NDEV)) ∧
    (∃ (n : Nat) (s : State), s.alive = true ∧ s.isLead = true ∧ s.csc.sent = true ∧ s.csc.stage = 2 ∧
      n = s.get Reg.CSC_ENUMSTAT_NFOUND + 1 ∧ n ≠ clampN 1 8 (s.get Reg.CSC_CFG_NDEV)) ∧
    (∃ (s : State), s.alive = true ∧ s.isLead = false ∧ s.csc.stage = 1) ∧
    (∃ (n : Nat) (s : State), s.alive = true ∧ s.isLead = false ∧ s.csc.stage ≠ 1 ∧ s.flag Reg.CSC_STAT_LOCK = true ∧
      (s.devNum = 0 ∨ s.devNum = n)) ∧
    (∃ (n : Nat) (s : State), s.alive = true ∧ s.isLead = false ∧ s.csc.stage ≠ 1 ∧
      (s.flag Reg.CSC_STAT_LOCK = false ∨ (s.devNum ≠ 0 ∧ s.devNum ≠ n))) :=
  ⟨⟨running |> (fun s => { s with csc := { s.csc with sent := true } })
     |> (fun s => { s with csc := { s.csc with stage := 1 } }) |> (fun s => s.put Reg.CSC_CFG_NDEV 1), by decide⟩,
   ⟨1, running |> (fun s => { s with csc := { s.csc with sent := true } })
     |> (fun s => { s with csc := { s.csc with stage := 2 } }) |> (fun s => s.put Reg.CSC_CFG_NDEV 1), by decide⟩,
   ⟨1, running |> (fun s => { s with csc := { s.csc with sent := true } })
     |> (fun s => { s with csc := { s.csc with stage := 2 } }) |> (fun s => s.put Reg.CSC_CFG_NDEV 4), by decide⟩,
   ⟨running |> (fun s => { s with leadStrap := false }) |> (fun s => { s with csc := { s.csc with stage := 1 } }),
     by decide⟩,
   ⟨0, running |> (fun s => { s with leadStrap := false }) |> (fun s => { s with csc := { s.csc with stage := 0 } })
     |> (fun s => s.putB Reg.CSC_STAT_LOCK true), by decide⟩,
   ⟨0, running |> (fun s => { s with leadStrap := false }) |> (fun s => { s with csc := { s.csc with stage := 0 } })
     |> (fun s => s.putB Reg.CSC_STAT_LOCK false), by decide⟩⟩

/-- What meets the hypotheses of `Obligations.EnumerationCommands`, part 3. -/
theorem wit_EnumerationCommands_3 :
    (∃ (s : State), s.isLead = true ∧ s.alive = true ∧ (s.csc.stage = 1 ∨ s.csc.stage = 2)) ∧
    (∃ (s : State), (s.isLead = false ∨ s.csc.stage = 0 ∨ s.csc.stage = 3)) ∧
    (∃ (s : State), s.isLead = true ∧ s.alive = true ∧ s.anyRoleOn = false ∧ s.csc.mute = false) ∧
    (∃ (s : State), (s.isLead = false ∨ s.anyRoleOn = true ∨ s.csc.mute = true)) ∧
    (∃ (s : State), s.isLead = false ∧ s.alive = true ∧ s.csc.everMarker = false ∧ s.saf.loss = false ∧
      s.power.releasedAt + 1000000 * clampN 2 255 (s.get Reg.CSC_LOSSCFG_LTMO) ≤ s.now) ∧
    (∃ (s : State),
      (s.isLead = true ∨ s.csc.everMarker = true ∨ s.now < s.power.releasedAt + 1000000 * clampN 2 255 (s.get Reg.CSC_LOSSCFG_LTMO))) :=
  ⟨⟨running |> (fun s => { s with csc := { s.csc with stage := 1 } }), by decide⟩,
   ⟨running |> (fun s => { s with leadStrap := false }), by decide⟩,
   ⟨running |> (fun s => { s with csc := { s.csc with mute := false } }), by decide⟩,
   ⟨running |> (fun s => { s with leadStrap := false }), by decide⟩,
   ⟨running |> (fun s => { s with leadStrap := false })
     |> (fun s => { s with csc := { s.csc with everMarker := false } })
     |> (fun s => { s with saf := { s.saf with loss := false } }) |> (fun s => { s with now := 255000000 }),
     by decide⟩,
   ⟨running, by decide⟩⟩

/-- What meets the hypotheses of `Obligations.EnumerationCommands`, part 4. -/
theorem wit_EnumerationCommands_4 :
    ∃ (s : State), (s.isLead = false ∨ s.csc.mute = true) :=
  ⟨running |> (fun s => { s with leadStrap := false }), by decide⟩

/-- What meets the hypotheses of `Obligations.RingAndLossCommands`, part 1. -/
theorem wit_RingAndLossCommands_1 :
    (∃ (s : State), s.alive = false) ∧
    (∃ (h : Nat) (s : State), s.alive = true ∧
      (s.flag Reg.CSC_STAT_ENUM = false ∨ (s.isLead = true ∧ (s.hopCount ≤ h ∨ s.hopCount ≤ 1)))) ∧
    (∃ (h : Nat) (s : State), s.alive = true ∧ s.flag Reg.CSC_STAT_ENUM = true ∧ h < s.hopCount ∧ 1 < s.hopCount ∧
      s.isLead = true ∧ (∀ g, g ∈ s.csc.gaps → g.touches h = false)) ∧
    (∃ (s : State), s.alive = true ∧ s.flag Reg.CSC_STAT_ENUM = true ∧ s.isLead = false) ∧
    (∃ (d : Nat) (s : State), s.isLead = true ∧ s.alive = true ∧ s.flag Reg.CSC_STAT_ENUM = true ∧ s.knows d = true ∧
      s.bit Reg.CSC_LOST_DEV d = false ∧ clampN 1 15 (s.get Reg.CSC_LOSSCFG_FLOST) ≤ s.csc.missed.getD d 0 ∧ d < 8) ∧
    (∃ (d : Nat) (s : State),
      (s.isLead = false ∨ s.knows d = false ∨ s.bit Reg.CSC_LOST_DEV d = true ∨ s.csc.missed.getD d 0 < clampN 1 15 (s.get Reg.CSC_LOSSCFG_FLOST))) :=
  ⟨⟨running |> (fun s => { s with power := { s.power with phase := .inReset } }), by decide⟩,
   ⟨0, running |> (fun s => s.putB Reg.CSC_STAT_ENUM false), by decide⟩,
   ⟨0, running |> (fun s => s.putB Reg.CSC_STAT_ENUM true) |> (fun s => s.put Reg.CSC_ENUMSTAT_NFOUND 1), by decide⟩,
   ⟨running |> (fun s => s.putB Reg.CSC_STAT_ENUM true) |> (fun s => { s with leadStrap := false })
     |> (fun s => s.put Reg.CSC_ENUMSTAT_NFOUND 1), by decide⟩,
   ⟨7, running |> (fun s => s.putB Reg.CSC_STAT_ENUM true) |> (fun s => s.putBit Reg.CSC_LOST_DEV 7 false)
     |> (fun s => s.put Reg.CSC_ENUMSTAT_NFOUND 7)
     |> (fun s => { s with csc := { s.csc with missed := List.replicate 8 15 } }), by decide⟩,
   ⟨0, running |> (fun s => { s with leadStrap := false }), by decide⟩⟩

/-- What meets the hypotheses of `Obligations.RingAndLossCommands`, part 2. -/
theorem wit_RingAndLossCommands_2 :
    (∃ (d : Nat) (s : State), s.isLead = true ∧ s.alive = true ∧ s.bit Reg.CSC_LOST_DEV d = true ∧
      s.get Reg.CSC_LOSSCFG_FTRIP ≠ 0 ∧ s.get Reg.CSC_LOSSCFG_FTRIP ≤ s.framesSince (s.csc.lostAt.getD d 0)) ∧
    (∃ (d : Nat) (s : State), (s.bit Reg.CSC_LOST_DEV d = false ∨ s.get Reg.CSC_LOSSCFG_FTRIP = 0)) ∧
    (∃ (s : State),
      (s.isLead = true ∨ s.alive = false ∨ s.flag Reg.CSC_STAT_NOLEAD = true ∨ s.csc.everMarker = false)) ∧
    (∃ (s : State), s.isLead = false ∧ s.alive = true ∧ s.sleeping = false ∧ s.csc.everMarker = true ∧
      s.flag Reg.CSC_STAT_NOLEAD = false ∧ s.csc.heard = false ∧
      clampN 2 255 (s.get Reg.CSC_LOSSCFG_LTMO) ≤ s.csc.silent + 1) ∧
    (∃ (s : State), s.isLead = false ∧ s.alive = true ∧ s.flag Reg.CSC_STAT_NOLEAD = true ∧ s.saf.loss = false) ∧
    (∃ (s : State), (s.isLead = true ∨ s.flag Reg.CSC_STAT_NOLEAD = false ∨ s.saf.loss = true)) :=
  ⟨⟨0, running |> (fun s => s.putBit Reg.CSC_LOST_DEV 0 true) |> (fun s => s.put Reg.CSC_LOSSCFG_FTRIP 1)
     |> (fun s => { s with frame := 100 }), by decide⟩,
   ⟨0, running |> (fun s => s.putBit Reg.CSC_LOST_DEV 0 false), by decide⟩,
   ⟨running, by decide⟩,
   ⟨running |> (fun s => { s with leadStrap := false }) |> (fun s => s.put Reg.SYS_PROFSTAT_PROF 0)
     |> (fun s => { s with csc := { s.csc with everMarker := true } }) |> (fun s => s.putB Reg.CSC_STAT_NOLEAD false)
     |> (fun s => { s with csc := { s.csc with heard := false } })
     |> (fun s => { s with csc := { s.csc with silent := 254 } }), by decide⟩,
   ⟨running |> (fun s => { s with leadStrap := false }) |> (fun s => s.putB Reg.CSC_STAT_NOLEAD true)
     |> (fun s => { s with saf := { s.saf with loss := false } }), by decide⟩,
   ⟨running, by decide⟩⟩

/-- What meets the hypotheses of `Obligations.RingAndLossCommands`, part 3. -/
theorem wit_RingAndLossCommands_3 :
    (∃ (s : State), s.alive = true ∧ s.flag Reg.CSC_STAT_TRIPIN = true) ∧
    (∃ (s : State), s.flag Reg.CSC_STAT_TRIPOUT = true ∧ s.alive = true) ∧
    (∃ (r : Bool) (s : State), s.flag Reg.CSC_STAT_TRIPOUT = true ∧ s.alive = true ∧ r = true) ∧
    (∃ (r : Bool) (s : State), s.flag Reg.CSC_STAT_TRIPOUT = true ∧ s.alive = true ∧ r = false) ∧
    (∃ (s : State), s.alive = true ∧ s.bit Reg.SAF_RSTAT_LATCH 14 = true) :=
  ⟨⟨running |> (fun s => s.putB Reg.CSC_STAT_TRIPIN true), by decide⟩,
   ⟨running |> (fun s => s.putB Reg.CSC_STAT_TRIPOUT true), by decide⟩,
   ⟨true, running |> (fun s => s.putB Reg.CSC_STAT_TRIPOUT true), by decide⟩,
   ⟨false, running |> (fun s => s.putB Reg.CSC_STAT_TRIPOUT true), by decide⟩,
   ⟨running |> (fun s => s.putBit Reg.SAF_RSTAT_LATCH 14 true), by decide⟩⟩

/-- What meets the hypotheses of `Obligations.CanControlCommands`, part 1. -/
theorem wit_CanControlCommands_1 :
    (∃ (ch : Fin 4) (s : State), s.pageOn (22 + ch.val) = false) ∧
    (∃ (s : State), s.pageOn 25 = false) ∧
    (∃ (ch : Fin 4) (b : Bool) (s : State), s.pageOn (22 + ch.val) = true ∧
      (b || !s.canRuns ch.val) = s.flag (Reg.CAN_CTRL_INIT.at ch.val)) ∧
    (∃ (ch : Fin 4) (b : Bool) (s : State), s.pageOn (22 + ch.val) = true ∧
      (b || !s.canRuns ch.val) ≠ s.flag (Reg.CAN_CTRL_INIT.at ch.val)) ∧
    (∃ (ch : Fin 4) (b : Bool) (s : State), s.pageOn (22 + ch.val) = true ∧ b = true) ∧
    (∃ (ch : Fin 4) (s : State), s.pageOn (22 + ch.val) = true ∧ s.flag (Reg.CAN_CTRL_LOM.at ch.val) = true ∧
      s.flag (Reg.CAN_CTRL_INIT.at ch.val) = false) :=
  ⟨⟨(3 : Fin 4), running |> (fun s => { s with full := false }), by decide⟩,
   ⟨running |> (fun s => { s with full := false }), by decide⟩,
   ⟨(3 : Fin 4), true, running |> (fun s => s.putB (Reg.CAN_CTRL_INIT.at 3) true), by decide⟩,
   ⟨(3 : Fin 4), false, running, by decide⟩,
   ⟨(3 : Fin 4), true, running, by decide⟩,
   ⟨(3 : Fin 4), running |> (fun s => s.putB (Reg.CAN_CTRL_LOM.at (3 : Fin 4).val) true)
     |> (fun s => s.putB (Reg.CAN_CTRL_INIT.at (3 : Fin 4).val) false), by decide⟩⟩

/-- What meets the hypotheses of `Obligations.CanControlCommands`, part 2. -/
theorem wit_CanControlCommands_2 :
    (∃ (ch : Fin 4) (s : State), s.pageOn (22 + ch.val) = true ∧
      (s.flag (Reg.CAN_CTRL_LOM.at ch.val) = false ∨ s.flag (Reg.CAN_CTRL_INIT.at ch.val) = true)) ∧
    (∃ (ch k : Nat) (s : State), s.sendObj ch k = false) ∧
    (∃ (ch k : Nat) (s : State), s.objBit ch k 1 0 = false) ∧
    (∃ (ch k : Nat) (s : State), s.sendObj ch k = true ∧ s.objBit ch k 1 0 = true ∧ (s.canOf ch).sending = some k) ∧
    (∃ (ch k : Nat) (s : State), s.sendObj ch k = true ∧ s.objBit ch k 1 0 = true ∧ (s.canOf ch).sending ≠ some k) ∧
    (∃ (s : State), s.pageOn 25 = true ∧ (s.canOf 3).fifo.length < 32) :=
  ⟨⟨(3 : Fin 4), running |> (fun s => s.putB (Reg.CAN_CTRL_LOM.at (3 : Fin 4).val) false), by decide⟩,
   ⟨0, 0, running, by decide⟩,
   ⟨0, 0, running, by decide⟩,
   ⟨0, 0, running |> (fun s => s.setObjWord 0 0 0 0xC0000000) |> (fun s => s.setObjWord 0 0 1 1)
     |> (fun s => s.setCan 0 { s.canOf 0 with sending := some 0 }), by decide⟩,
   ⟨0, 0, running |> (fun s => s.setObjWord 0 0 0 0xC0000000) |> (fun s => s.setObjWord 0 0 1 1), by decide⟩,
   ⟨running, by decide⟩⟩

/-- What meets the hypotheses of `Obligations.CanControlCommands`, part 3. -/
theorem wit_CanControlCommands_3 :
    (∃ (s : State), s.pageOn 25 = true ∧ 32 ≤ (s.canOf 3).fifo.length) ∧
    (∃ (s : State), s.pageOn 25 = true ∧ (s.canOf 3).sending = some 128) ∧
    (∃ (s : State), s.pageOn 25 = true ∧ (s.canOf 3).sending ≠ some 128) ∧
    (∃ (ch : Fin 4) (n d : Nat) (s : State), (s.alive = false ∨ (s.canOf ch.val).abd = none ∨ n = 0 ∨ 4 < n ∨ 5 < d)) ∧
    (∃ (ch : Fin 4) (n d : Nat) (s : State), s.alive = true ∧ (s.canOf ch.val).abd.isSome = true ∧ 1 ≤ n ∧ n ≤ 4 ∧
      d ≤ 5) ∧
    (∃ (ch : Fin 4) (n : Nat) (s : State), s.alive = true ∧ (s.canOf ch.val).abd = some n) :=
  ⟨⟨running |> (fun s => s.setCan 3 { s.canOf 3 with fifo := List.replicate 32 [] }), by decide⟩,
   ⟨running |> (fun s => s.setCan 3 { s.canOf 3 with sending := some 128 }), by decide⟩,
   ⟨running, by decide⟩,
   ⟨(3 : Fin 4), 0, 0, running |> (fun s => { s with power := { s.power with phase := .inReset } }), by decide⟩,
   ⟨(3 : Fin 4), 1, 0, running |> (fun s => s.setCan (3 : Fin 4).val { s.canOf (3 : Fin 4).val with abd := some 0 }),
     by decide⟩,
   ⟨(3 : Fin 4), 0, running |> (fun s => s.setCan (3 : Fin 4).val { s.canOf (3 : Fin 4).val with abd := some 0 }),
     by decide⟩⟩

/-- What meets the hypotheses of `Obligations.CanControlCommands`, part 4. -/
theorem wit_CanControlCommands_4 :
    ∃ (ch : Fin 4) (s : State), (s.alive = false ∨ (s.canOf ch.val).abd = none) :=
  ⟨(3 : Fin 4), running |> (fun s => { s with power := { s.power with phase := .inReset } }), by decide⟩

/-- What meets the hypotheses of `Obligations.CanTrafficCommands`, part 1. -/
theorem wit_CanTrafficCommands_1 :
    (∃ (ch : Fin 4) (f : BusFrame) (s : State),
      (s.canOnBus ch.val = false ∨ f.rtr = true ∨ (f.fdf = true ∧ s.flag (Reg.CAN_MODE_FDOE.at ch.val) = false) ∨ s.fltTarget ch.val f.xtd (placeId f.xtd f.id) = none)) ∧
    (∃ (ch : Fin 4) (f : BusFrame) (k : Nat) (s : State),
      s.canOnBus ch.val = true ∧ f.rtr = false ∧ (f.fdf = false ∨ s.flag (Reg.CAN_MODE_FDOE.at ch.val) = true) ∧ s.fltTarget ch.val f.xtd (placeId f.xtd f.id) = some k ∧ (let w := s.objStore ch.val k f; w.connAt ch.val k false = none)) ∧
    (∃ (ch : Fin 4) (f : BusFrame) (k : Nat) (s : State) (n : Nat),
      s.canOnBus ch.val = true ∧ f.rtr = false ∧ (f.fdf = false ∨ s.flag (Reg.CAN_MODE_FDOE.at ch.val) = true) ∧ s.fltTarget ch.val f.xtd (placeId f.xtd f.id) = some k ∧ (let w := s.objStore ch.val k f; w.connAt ch.val k false = some n)) ∧
    (∃ (ch : Fin 4) (s : State),
      (s.canOnBus ch.val = false ∨ s.flag (Reg.CAN_CTRL_LOM.at ch.val) = true ∨ (s.canOf ch.val).sending.isSome = true ∨ s.get Reg.SYS_PROFSTAT_PROF ≠ 0 ∨ s.canPick ch.val = none)) ∧
    (∃ (ch : Fin 4) (k : Nat) (s : State), s.canOnBus ch.val = true ∧ s.flag (Reg.CAN_CTRL_LOM.at ch.val) = false ∧
      (s.canOf ch.val).sending = none ∧ s.get Reg.SYS_PROFSTAT_PROF = 0 ∧ s.canPick ch.val = some k) ∧
    (∃ (ch : Fin 4) (s : State), (s.canOf ch.val).sending = none) :=
  ⟨⟨(3 : Fin 4), wFrame, running, by decide⟩,
   ⟨(3 : Fin 4), wFrame, 0, running |> (fun s => s.putB (Reg.CAN_CTRL_INIT.at 3) false)
     |> (fun s => s.setCan 3 { s.canOf 3 with joined := true })
     |> (fun s => s.setWord (Reg.CAN_FLT + 0x3000) 0x40000000)
     |> (fun s => s.setWord (Reg.CAN_FLT + 0x3004) 0x1FFFFFFF) |> (fun s => s.setObjWord 3 0 0 0x80000000),
     by decide⟩,
   ⟨(3 : Fin 4), wFrame, 0, running |> (fun s => s.putB (Reg.CAN_CTRL_INIT.at 3) false)
     |> (fun s => s.setCan 3 { s.canOf 3 with joined := true })
     |> (fun s => s.setWord (Reg.CAN_FLT + 0x3000) 0x40000000)
     |> (fun s => s.setWord (Reg.CAN_FLT + 0x3004) 0x1FFFFFFF) |> (fun s => s.setObjWord 3 0 0 0x80000000)
     |> (fun s => s.setConn 7 { s.connOf 7 with bound := some (3, 0, false) }), 7, by decide⟩,
   ⟨(3 : Fin 4), running, by decide⟩,
   ⟨(3 : Fin 4), 0, running |> (fun s => s.putB (Reg.CAN_CTRL_INIT.at 3) false)
     |> (fun s => s.setCan 3 { s.canOf 3 with joined := true }) |> (fun s => s.setObjWord 3 0 0 0xC0000000)
     |> (fun s => s.setObjWord 3 0 1 1) |> (fun s => s.putB (Reg.CAN_CTRL_LOM.at (3 : Fin 4).val) false)
     |> (fun s => s.setCan (3 : Fin 4).val { s.canOf (3 : Fin 4).val with sending := none })
     |> (fun s => s.put Reg.SYS_PROFSTAT_PROF (0)), by decide⟩,
   ⟨(3 : Fin 4), running |> (fun s => s.setCan (3 : Fin 4).val { s.canOf (3 : Fin 4).val with sending := none }),
     by decide⟩⟩

/-- What meets the hypotheses of `Obligations.CanTrafficCommands`, part 2. -/
theorem wit_CanTrafficCommands_2 :
    (∃ (ch : Fin 4) (s : State), (s.canOf ch.val).sending = some 128 ∧ s.flag (Reg.CAN_TDC_TDCEN.at ch.val) = false) ∧
    (∃ (ch : Fin 4) (k : Nat) (s : State), (s.canOf ch.val).sending = some k ∧ k < 128 ∧
      s.flag (Reg.CAN_TDC_TDCEN.at ch.val) = false) ∧
    (∃ (ch : Fin 4) (k d : Nat) (s : State), (s.canOf ch.val).sending = some k ∧
      (s.sendingWord1 ch.val k).testBit 31 = true ∧ (s.sendingWord1 ch.val k).testBit 30 = true ∧
      s.flag (Reg.CAN_TDC_TDCEN.at ch.val) = true ∧ s.get (Reg.CAN_DBT_DBRP.at ch.val) ≤ 1 ∧ 255 < d) ∧
    (∃ (ch : Fin 4) (k : Nat) (s : State), s.alive = true ∧ s.sendObj ch.val k = true ∧
      s.objBit ch.val k 1 0 = true ∧ s.objBit ch.val k 1 29 = true ∧ (s.canOf ch.val).sending ≠ some k) :=
  ⟨⟨(3 : Fin 4), running |> (fun s => s.setCan (3 : Fin 4).val { s.canOf (3 : Fin 4).val with sending := some 128 })
     |> (fun s => s.putB (Reg.CAN_TDC_TDCEN.at (3 : Fin 4).val) false), by decide⟩,
   ⟨(3 : Fin 4), 127, running
     |> (fun s => s.setCan (3 : Fin 4).val { s.canOf (3 : Fin 4).val with sending := some 127 })
     |> (fun s => s.putB (Reg.CAN_TDC_TDCEN.at (3 : Fin 4).val) false), by decide⟩,
   ⟨(3 : Fin 4), 0, 256, running |> (fun s => s.setObjWord 3 0 1 0xC0000000)
     |> (fun s => s.put (Reg.CAN_DBT_DBRP.at 3) 1)
     |> (fun s => s.setCan (3 : Fin 4).val { s.canOf (3 : Fin 4).val with sending := some 0 })
     |> (fun s => s.putB (Reg.CAN_TDC_TDCEN.at (3 : Fin 4).val) true), by decide⟩,
   ⟨(3 : Fin 4), 0, running |> (fun s => s.setObjWord 3 0 0 0xC0000000) |> (fun s => s.setObjWord 3 0 1 0x20000001),
     by decide⟩⟩

/-- What meets the hypotheses of `Obligations.CanBusStateCommands`, part 1. -/
theorem wit_CanBusStateCommands_1 :
    (∃ (ch : Fin 4) (s : State),
      (s.alive = false ∨ s.canRuns ch.val = false ∨ s.get (Reg.CAN_STAT_ESTATE.at ch.val) = 2)) ∧
    (∃ (ch : Fin 4) (s : State), s.alive = true ∧ s.canRuns ch.val = true ∧
      s.get (Reg.CAN_STAT_ESTATE.at ch.val) ≠ 2) ∧
    (∃ (ch : Fin 4) (a : Nat) (s : State), s.alive = true ∧ s.canRuns ch.val = true ∧
      s.get (Reg.CAN_STAT_ESTATE.at ch.val) ≠ 2 ∧ 255 < a) ∧
    (∃ (ch : Fin 4) (s : State), s.canOnBus ch.val = false) ∧
    (∃ (ch : Fin 4) (s : State), s.canOnBus ch.val = true) ∧
    (∃ (ch : Fin 4) (s : State), s.alive = true ∧ s.get (Reg.CAN_STAT_ESTATE.at ch.val) = 2) :=
  ⟨⟨(3 : Fin 4), running |> (fun s => { s with power := { s.power with phase := .inReset } }), by decide⟩,
   ⟨(3 : Fin 4), running |> (fun s => s.put (Reg.CAN_STAT_ESTATE.at (3 : Fin 4).val) 0), by decide⟩,
   ⟨(3 : Fin 4), 256, running |> (fun s => s.put (Reg.CAN_STAT_ESTATE.at (3 : Fin 4).val) 0), by decide⟩,
   ⟨(3 : Fin 4), running, by decide⟩,
   ⟨(3 : Fin 4), running |> (fun s => s.putB (Reg.CAN_CTRL_INIT.at 3) false)
     |> (fun s => s.setCan 3 { s.canOf 3 with joined := true }), by decide⟩,
   ⟨(3 : Fin 4), running |> (fun s => s.put (Reg.CAN_STAT_ESTATE.at (3 : Fin 4).val) (2)), by decide⟩⟩

/-- What meets the hypotheses of `Obligations.CanBusStateCommands`, part 2. -/
theorem wit_CanBusStateCommands_2 :
    (∃ (ch : Fin 4) (s : State), (s.alive = false ∨ s.get (Reg.CAN_STAT_ESTATE.at ch.val) ≠ 2)) ∧
    (∃ (ch : Fin 4) (s : State), s.alive = true ∧ s.canRuns ch.val = true ∧
      s.flag (Reg.CAN_CTRL_INIT.at ch.val) = false ∧ s.flag (Reg.CAN_STAT_SLEEP.at ch.val) = false) ∧
    (∃ (ch : Fin 4) (s : State),
      (s.alive = false ∨ s.canRuns ch.val = false ∨ s.flag (Reg.CAN_CTRL_INIT.at ch.val) = true ∨ s.flag (Reg.CAN_STAT_SLEEP.at ch.val) = true)) ∧
    (∃ (ch : Fin 4) (us : Nat) (s : State), s.alive = true ∧ s.isLead = true ∧
      s.flag (Reg.CAN_STAT_SLEEP.at ch.val) = true ∧ s.flag (Reg.CAN_WAKE_WEEN.at ch.val) = true ∧ 1 ≤ us ∧
      s.get (Reg.CAN_WAKE_WFLT.at ch.val) ≤ us) ∧
    (∃ (ch : Fin 4) (us : Nat) (s : State),
      (s.isLead = false ∨ s.flag (Reg.CAN_WAKE_WEEN.at ch.val) = false ∨ s.flag (Reg.CAN_STAT_SLEEP.at ch.val) = false ∨ us < max 1 (s.get (Reg.CAN_WAKE_WFLT.at ch.val)))) ∧
    (∃ (id : Nat) (x : Bool) (s : State), s.alive = true ∧ s.isLead = true ∧ s.flag Reg.CAN_STAT_SLEEP = true ∧
      s.flag Reg.CAN_WAKE_WFEN = true ∧ x = s.flag Reg.CAN_WKID_XTD ∧
      placeId x id &&& s.get Reg.CAN_WKMSK_MASK = s.get Reg.CAN_WKID_ID &&& s.get Reg.CAN_WKMSK_MASK) :=
  ⟨⟨(3 : Fin 4), running |> (fun s => { s with power := { s.power with phase := .inReset } }), by decide⟩,
   ⟨(3 : Fin 4), running |> (fun s => s.putB (Reg.CAN_CTRL_INIT.at (3 : Fin 4).val) false)
     |> (fun s => s.putB (Reg.CAN_STAT_SLEEP.at (3 : Fin 4).val) false), by decide⟩,
   ⟨(3 : Fin 4), running |> (fun s => { s with power := { s.power with phase := .inReset } }), by decide⟩,
   ⟨(3 : Fin 4), 1, running |> (fun s => s.putB (Reg.CAN_STAT_SLEEP.at (3 : Fin 4).val) true)
     |> (fun s => s.putB (Reg.CAN_WAKE_WEEN.at (3 : Fin 4).val) true)
     |> (fun s => s.put (Reg.CAN_WAKE_WFLT.at (3 : Fin 4).val) 1), by decide⟩,
   ⟨(3 : Fin 4), 0, running |> (fun s => { s with leadStrap := false }), by decide⟩,
   ⟨0, false, running |> (fun s => s.putB Reg.CAN_STAT_SLEEP true) |> (fun s => s.putB Reg.CAN_WAKE_WFEN true),
     by decide⟩⟩

/-- What meets the hypotheses of `Obligations.CanBusStateCommands`, part 3. -/
theorem wit_CanBusStateCommands_3 :
    (∃ (fd ok : Bool) (s : State), (s.isLead = false ∨ s.flag Reg.CAN_WAKE_WFEN = false ∨ fd = true ∨ ok = false)) ∧
    (∃ (s : State), s.sleeping = true) ∧
    (∃ (s : State), s.watching = true) ∧
    (∃ (s : State), s.sleeping = false ∧ s.watching = false) :=
  ⟨⟨false, false, running |> (fun s => { s with leadStrap := false }), by decide⟩,
   ⟨running |> (fun s => s.put Reg.SYS_PROFSTAT_PROF 2), by decide⟩,
   ⟨running |> (fun s => s.put Reg.SYS_PROFSTAT_PROF 1), by decide⟩,
   ⟨running |> (fun s => s.put Reg.SYS_PROFSTAT_PROF 0), by decide⟩⟩

/-- What meets the hypotheses of `Obligations.DisabledPagesReadZeroAndRefuse`. -/
theorem wit_DisabledPagesReadZeroAndRefuse :
    (∃ (a : Nat) (s : State), s.full = false ∧ s.alive = true ∧ pageOf a ∈ [12, 27, 18, 23, 24, 25] ∧
      s.busUp = true ∧ a % 4 = 0 ∧ a < 2 ^ 32) ∧
    (∃ (ini : Ini) (ch : Fin 4) (b : Bool) (n : Nat) (s : State) (c : Instr), s.full = false ∧ s.alive = true ∧
      ch.val ≠ 0 ∧
      c ∈ [Instr.pumpStart ini, .pumpStop ini, .pumpSetpointWrite ini n, .canInitWrite ini ch b, .canLomWrite ini ch b, .canAbdStart ini ch, .objectReq ini ch, .objectCancel ini ch, .objectAck ini ch, .fifoPush ini, .fifoClear ini]) :=
  ⟨⟨0x4000CFFC, running |> (fun s => { s with full := false }), by decide⟩,
   ⟨.pairB, (3 : Fin 4), false, 0, running |> (fun s => { s with full := false }), .pumpStart .pairB, by decide⟩⟩

/-- What meets the hypotheses of `Obligations.UnalignedAccessFaults`. -/
theorem wit_UnalignedAccessFaults :
    (∃ (a : Nat) (s : State), s.busUp = true ∧ 0x40000000 ≤ a ∧ a < 0x40020000 ∧ a % 4 ≠ 0) ∧
    (∃ (a : Nat) (s : State), (s.busUp = false ∨ a < 0x40000000 ∨ 0x40020000 ≤ a)) ∧
    (∃ (a : Nat) (s : State), s.busUp = true ∧ 0x40000000 ≤ a ∧ a < 0x40020000 ∧ a % 4 = 0 ∧
      s.pageOn (pageOf a) = true ∧ a % 0x1000 = 0x14) ∧
    (∃ (a : Nat) (r : RegRow) (s : State), s.busUp = true ∧ 0x40000000 ≤ a ∧ a < 0x40020000 ∧ a % 4 = 0 ∧
      s.pageOn (pageOf a) = true ∧ a % 0x1000 < 0x840 ∧ a % 0x1000 ∉ [0x14, 0x18, 0x1C, 0x20] ∧
      (pageOf a < 22 ∨ 26 ≤ pageOf a) ∧
      (pageOf a, a % 0x1000) ∉ ([(0, 0x040), (3, 0x044), (3, 0x048), (4, 0x050), (4, 0x064), (4, 0x068), (5, 0x040), (5, 0x044), (6, 0x008), (8, 0x008), (9, 0x05C), (9, 0x184), (10, 0x008), (10, 0x050), (10, 0x054), (11, 0x008), (12, 0x008), (12, 0x094), (12, 0x098), (13, 0x008), (13, 0x074), (14, 0x008), (14, 0x208), (15, 0x008), (16, 0x104), (16, 0x108), (17, 0x008), (17, 0x040), (18, 0x008), (18, 0x06C), (19, 0x008), (20, 0x008), (19, 0x044), (20, 0x044), (19, 0x050), (20, 0x050), (19, 0x064), (20, 0x064), (21, 0x008), (21, 0x040), (21, 0x054), (21, 0x058), (21, 0x05C), (21, 0x070), (27, 0x048), (27, 0x04C), (28, 0x058), (29, 0x008)] : List (Nat × Nat)) ∧
      rowAt (pageOf a) (a % 0x1000) = some r ∧ (r.rwl = 0 ∨ s.flag (lockField (pageOf a)) = false)) :=
  ⟨⟨0x4001FFFF, running, by decide⟩,
   ⟨0, running |> (fun s => { s with power := { s.power with phase := .inReset } }), by decide⟩,
   ⟨0x4001F014, running, by decide⟩,
   ⟨0x40006040, (rowAt 6 0x40).getD ⟨0, 0, 0, 0, 0, 0, 0, 0⟩, running, by decide⟩⟩

/-- What meets the hypotheses of `Obligations.EventRegisterCommands`, part 1. -/
theorem wit_EventRegisterCommands_1 :
    (∃ (e : Event) (s : State), s.alive = true ∧ e.bit < 32 ∧ s.evEnabled e = true ∧ s.raised e = true ∧
      s.evPending e = true) ∧
    (∃ (e : Event) (s : State), s.alive = true ∧ e.bit < 32 ∧ s.evEnabled e = false ∧ s.raised e = true) ∧
    (∃ (s : State), s.alive = false) ∧
    (∃ (e : Event) (s : State), s.alive = true ∧ e.page < 32 ∧ e.bit < 32 ∧ s.evEnabled e = true) ∧
    (∃ (p : Fin 32) (m : Word) (i : Nat) (s : State), s.pageOn p.val = true ∧ i < 32 ∧ m.getLsbD i = true ∧
      (s.raisedNow p.val).getLsbD i = false) ∧
    (∃ (p : Fin 32) (m : Word) (i : Nat) (s : State), s.pageOn p.val = true ∧
      (m.getLsbD i = false ∨ (s.raisedNow p.val).getLsbD i = true)) :=
  ⟨⟨Ev.STG_BUSY, running |> (fun s => s.setWord (evenAddr Ev.STG_BUSY.page) 0xFFFFFFFF)
     |> (fun s => s.raise Ev.STG_BUSY), by decide⟩,
   ⟨Ev.STG_BUSY, running |> (fun s => s.setWord (evenAddr Ev.STG_BUSY.page) 0) |> (fun s => s.raise Ev.STG_BUSY),
     by decide⟩,
   ⟨running |> (fun s => { s with power := { s.power with phase := .inReset } }), by decide⟩,
   ⟨Ev.STG_BUSY, running |> (fun s => s.setWord (evenAddr Ev.STG_BUSY.page) 0xFFFFFFFF), by decide⟩,
   ⟨(31 : Fin 32), 0x80000000, 31, running, by decide⟩,
   ⟨(31 : Fin 32), 0, 0, running, by decide⟩⟩

/-- What meets the hypotheses of `Obligations.EventRegisterCommands`, part 2. -/
theorem wit_EventRegisterCommands_2 :
    (∃ (ini : Ini) (p : Fin 32) (s : State), s.pageOn p.val = true ∧
      (ini ≠ .debug ∨ s.flag Reg.NVM_SECCFG_DBGLOCK = true)) ∧
    (∃ (p : Fin 32) (s : State), s.pageOn p.val = true ∧ s.flag Reg.NVM_SECCFG_DBGLOCK = false) ∧
    (∃ (p : Fin 32) (s : State), s.pageOn p.val = true ∧ p.val ≠ 17) ∧
    (∃ (n : Nat) (s : State), s.isLead = true ∧ n < 3) ∧
    (∃ (n : Nat) (s : State), (s.isLead = false ∨ n % 4 = 3)) :=
  ⟨⟨.pairB, (31 : Fin 32), running, by decide⟩,
   ⟨(31 : Fin 32), running |> (fun s => s.putB Reg.NVM_SECCFG_DBGLOCK false), by decide⟩,
   ⟨(31 : Fin 32), running, by decide⟩,
   ⟨2, running, by decide⟩,
   ⟨0, running |> (fun s => { s with leadStrap := false }), by decide⟩⟩

/-- What meets the hypotheses of `Obligations.TestPortCommands`, part 1. -/
theorem wit_TestPortCommands_1 :
    (∃ (s : State), s.flag Reg.DBG_STAT_CONN = false ∧ s.alive = true) ∧
    (∃ (s : State), s.flag Reg.DBG_STAT_CONN = true) ∧
    (∃ (c : Instr) (ir : Nat) (d : Bool),
      ((c = .jtagIdcode ∧ ir = 1 ∧ d = false) ∨ (∃ cap pre, c = .jtagSamplePreload cap pre ∧ ir = 2 ∧ d = false) ∨ (c = .jtagExtest ∧ ir = 3 ∧ d = true) ∨ (∃ code, c = .jtagBypass code ∧ ir = 0x1F ∧ d = false))) ∧
    (∃ (s : State), s.busUp = false) ∧
    (∃ (s : State), s.busUp = true ∧ s.flag Reg.NVM_SECCFG_DBGLOCK = true) ∧
    (∃ (a : Nat) (s : State), s.busUp = true ∧ s.flag Reg.NVM_SECCFG_DBGLOCK = false ∧ 0x40000000 ≤ a ∧
      a < 0x40020000 ∧ a % 4 = 0) :=
  ⟨⟨running |> (fun s => s.putB Reg.DBG_STAT_CONN false), by decide⟩,
   ⟨running |> (fun s => s.putB Reg.DBG_STAT_CONN true), by decide⟩,
   ⟨.jtagIdcode, 1, false, Or.inl (by decide)⟩,
   ⟨running |> (fun s => { s with power := { s.power with phase := .inReset } }), by decide⟩,
   ⟨running |> (fun s => s.putB Reg.NVM_SECCFG_DBGLOCK true), by decide⟩,
   ⟨0x40000000, running |> (fun s => s.putB Reg.NVM_SECCFG_DBGLOCK false), by decide⟩⟩

/-- What meets the hypotheses of `Obligations.TestPortCommands`, part 2. -/
theorem wit_TestPortCommands_2 :
    ∃ (a : Nat) (s : State), s.busUp = true ∧ s.flag Reg.NVM_SECCFG_DBGLOCK = false ∧ a % 4 = 0 ∧ dataArea a = true ∧
      unlaid a = false :=
  ⟨0, running |> (fun s => s.putB Reg.NVM_SECCFG_DBGLOCK false), by decide⟩

/-- What meets the hypotheses of `Obligations.LinkAccessPackets`, part 1. -/
theorem wit_LinkAccessPackets_1 :
    (∃ (s : State), (s.isLead = true ∨ s.busUp = false)) ∧
    (∃ (a : Nat) (s : State), s.isLead = false ∧ s.busUp = true ∧ 0x40000000 ≤ a ∧ a < 0x40020000 ∧ a % 4 = 0 ∧
      a ≠ Reg.TMB_TICKLO) ∧
    (∃ (a : Nat) (s : State), s.isLead = false ∧ s.busUp = true ∧ 0x40000000 ≤ a ∧ a < 0x40020000 ∧ a % 4 ≠ 0) ∧
    (∃ (a : Nat) (s : State), s.isLead = false ∧ s.busUp = true ∧ a % 4 = 0 ∧ dataArea a = true ∧ unlaid a = false) ∧
    (∃ (k : Nat) (s : State), s.isLead = false ∧ s.busUp = true ∧ s.granted k = true) ∧
    (∃ (k : Nat) (s : State), s.isLead = false ∧ s.busUp = true ∧ s.granted k = false ∧ s.isPending k = false ∧
      k ≠ 4 ∧ s.isoRunning = false) :=
  ⟨⟨running, by decide⟩,
   ⟨0x40000000, running |> (fun s => { s with leadStrap := false }), by decide⟩,
   ⟨0x4001FFFF, running |> (fun s => { s with leadStrap := false }), by decide⟩,
   ⟨0, running |> (fun s => { s with leadStrap := false }), by decide⟩,
   ⟨1, running |> (fun s => { s with leadStrap := false }) |> (fun s => s.putBit Reg.BAL_STAT_GRANT 0 true),
     by decide⟩,
   ⟨0, running |> (fun s => { s with leadStrap := false }), by decide⟩⟩

/-- What meets the hypotheses of `Obligations.LinkAccessPackets`, part 2. -/
theorem wit_LinkAccessPackets_2 :
    (∃ (d : Nat) (s : State), s.isLead = false ∧ s.busUp = true ∧ d ≠ s.devNum ∧ d ≠ 8) ∧
    (∃ (d : Nat) (s : State), s.isLead = false ∧ s.busUp = true ∧ d ≠ s.devNum ∧ d = 8) ∧
    (∃ (k : Nat) (s : State), s.isLead = false ∧ s.busUp = true ∧ s.isPending k = true ∧ k ≠ 4 ∧
      s.isoRunning = false) ∧
    (∃ (s : State), s.isLead = false ∧ s.busUp = true ∧ s.csc.stage = 3) ∧
    (∃ (s : State), s.isLead = false ∧ s.busUp = true ∧ s.csc.stage ≠ 3) :=
  ⟨⟨7, running |> (fun s => { s with leadStrap := false }), by decide⟩,
   ⟨8, running |> (fun s => { s with leadStrap := false }), by decide⟩,
   ⟨1, running |> (fun s => { s with leadStrap := false }) |> (fun s => s.putBit Reg.BAL_STAT_PEND 0 true),
     by decide⟩,
   ⟨running |> (fun s => { s with leadStrap := false }) |> (fun s => { s with csc := { s.csc with stage := 3 } }),
     by decide⟩,
   ⟨running |> (fun s => { s with leadStrap := false }) |> (fun s => { s with csc := { s.csc with stage := 0 } }),
     by decide⟩⟩

/-- What meets the hypotheses of `Obligations.ReactionCommands`, part 1. -/
theorem wit_ReactionCommands_1 :
    (∃ (ini : Ini) (m : Word) (c : Instr) (s : State), s.alive = true ∧ ini ≠ .pairA ∧
      (c = .swTrip ini ∨ c = .reactionClear ini m)) ∧
    (∃ (s : State), s.bit Reg.SAF_RSTAT_LATCH 13 = true) ∧
    (∃ (s : State) (j : Fin 15), s.alive = true ∧ s.bit Reg.SAF_RSTAT_LATCH 13 = false ∧ j.val ≠ 13) ∧
    (∃ (s : State) (i : Fin 16), s.alive = true ∧ s.bit Reg.SAF_RSTAT_LATCH 13 = false ∧
      (s.get (Reg.SAF_RM_OUT.at 13)).testBit i = true) ∧
    (∃ (s : State), s.alive = true ∧ s.bit Reg.SAF_RSTAT_LATCH 13 = false ∧ s.drivesTrip 13 = true) ∧
    (∃ (m : Word) (s : State), (∀ i < 15, m.getLsbD i = true → s.bit Reg.SAF_RSTAT_LATCH i = false)) :=
  ⟨⟨.link, 0, .swTrip .link, running, by decide⟩,
   ⟨running |> (fun s => s.putBit Reg.SAF_RSTAT_LATCH 13 true), by decide⟩,
   ⟨running |> (fun s => s.putBit Reg.SAF_RSTAT_LATCH 13 false), (14 : Fin 15), by decide⟩,
   ⟨running |> (fun s => s.putBit Reg.SAF_RSTAT_LATCH 13 false) |> (fun s => s.put (Reg.SAF_RM_OUT.at 13) 0xFFFF),
     (15 : Fin 16), by decide⟩,
   ⟨running |> (fun s => s.putBit Reg.SAF_RSTAT_LATCH 13 false), by decide⟩,
   ⟨0, running, by decide⟩⟩

/-- What meets the hypotheses of `Obligations.ReactionCommands`, part 2. -/
theorem wit_ReactionCommands_2 :
    (∃ (i : Fin 15) (s : State), s.alive = true ∧ s.bit Reg.SAF_RSTAT_LATCH i = true ∧
      (s.causes.testBit i = true ∨ (i.val = 13 ∧ s.saf.swAt = s.now + 1))) ∧
    (∃ (i : Fin 15) (s : State) (j : Fin 15), s.bit Reg.SAF_RSTAT_LATCH i = true ∧ s.causes.testBit i = false ∧
      ¬ (i.val = 13 ∧ s.saf.swAt = s.now + 1) ∧ j ≠ i) ∧
    (∃ (s : State), s.alive = true ∧ s.sleeping = false) ∧
    (∃ (s : State), s.saf.testing = none) ∧
    (∃ (y : Bool) (s : State), s.alive = true ∧ s.saf.testing = some y) ∧
    (∃ (p y : Bool) (s : State), s.alive = true ∧ s.saf.testing = some y ∧ p = true) :=
  ⟨⟨(14 : Fin 15), running |> (fun s => s.putBit Reg.SAF_RSTAT_LATCH (14 : Fin 15) true)
     |> (fun s => { s with saf := { s.saf with loss := true } }), by decide⟩,
   ⟨(14 : Fin 15), running |> (fun s => s.putBit Reg.SAF_RSTAT_LATCH (14 : Fin 15) true), (0 : Fin 15), by decide⟩,
   ⟨running |> (fun s => s.put Reg.SYS_PROFSTAT_PROF 0), by decide⟩,
   ⟨running |> (fun s => { s with saf := { s.saf with testing := none } }), by decide⟩,
   ⟨false, running |> (fun s => { s with saf := { s.saf with testing := some false } }), by decide⟩,
   ⟨true, false, running |> (fun s => { s with saf := { s.saf with testing := some false } }), by decide⟩⟩

/-- What meets the hypotheses of `Obligations.ReactionCommands`, part 3. -/
theorem wit_ReactionCommands_3 :
    (∃ (p y : Bool) (s : State), s.alive = true ∧ s.saf.testing = some y ∧ p = false) ∧
    (∃ (s : State), (s.alive = false ∨ s.sleeping = true)) :=
  ⟨⟨false, false, running |> (fun s => { s with saf := { s.saf with testing := some false } }), by decide⟩,
   ⟨running |> (fun s => { s with power := { s.power with phase := .inReset } }), by decide⟩⟩

/-- What meets the hypotheses of `Obligations.ThermalCommands`, part 1. -/
theorem wit_ThermalCommands_1 :
    (∃ (i : Nat) (s : State), s.sampleDue i = false) ∧
    (∃ (i : Fin 24) (s : State), s.sampleDue i = true) ∧
    (∃ (i : Fin 24) (code : Nat) (s : State), s.sampleDue i = true ∧ (let c := s.sampleClass i code; c = 3)) ∧
    (∃ (i : Fin 24) (code : Nat) (s : State), s.sampleDue i = true ∧ (let c := s.sampleClass i code; c = 4)) ∧
    (∃ (i : Fin 24) (code : Nat) (s : State), s.sampleDue i = true ∧ (let c := s.sampleClass i code; c = 1 ∨ c = 2)) ∧
    (∃ (code : Nat) (s : State), s.get Reg.THM_FLTCFG_OPENCODE ≤ code) :=
  ⟨⟨0, running, by decide⟩,
   ⟨(23 : Fin 24), running |> (fun s => s.put Reg.THM_INUSE_TL 0x80)
     |> (fun s => s.put Reg.THM_FLTCFG_OPENCODE 65535) |> (fun s => s.put Reg.THM_FLTCFG_SHORTCODE 0), by decide⟩,
   ⟨(23 : Fin 24), 1, running |> (fun s => s.put Reg.THM_INUSE_TL 0x80)
     |> (fun s => s.put Reg.THM_FLTCFG_OPENCODE 65535) |> (fun s => s.put Reg.THM_FLTCFG_SHORTCODE 0)
     |> (fun s => s.put Reg.THM_CURVESEL_SEL 0) |> (fun s => s.put Reg.THM_CURVE0_RES 0)
     |> (fun s => s.put (Reg.THM_CURVE0_RES.at 36) 0), by decide,
     class_three _ 23 (by decide) (by decide) (by decide) (by decide) (by decide) (by decide)⟩,
   ⟨(23 : Fin 24), 1, running |> (fun s => s.put Reg.THM_INUSE_TL 0x80)
     |> (fun s => s.put Reg.THM_FLTCFG_OPENCODE 65535) |> (fun s => s.put Reg.THM_FLTCFG_SHORTCODE 0)
     |> (fun s => s.put Reg.THM_CURVESEL_SEL 0) |> (fun s => s.put Reg.THM_CURVE0_RES 1000)
     |> (fun s => s.put (Reg.THM_CURVE0_RES.at 36) 1000), by decide,
     class_four _ 23 (by decide) (by decide) (by decide) (by decide) (by decide) (by decide)⟩,
   ⟨(23 : Fin 24), 65535, running |> (fun s => s.put Reg.THM_INUSE_TL 0x80)
     |> (fun s => s.put Reg.THM_FLTCFG_OPENCODE 65535) |> (fun s => s.put Reg.THM_FLTCFG_SHORTCODE 0), by decide⟩,
   ⟨0, running |> (fun s => s.put Reg.THM_FLTCFG_OPENCODE 0), by decide⟩⟩

/-- What meets the hypotheses of `Obligations.ThermalCommands`, part 2. -/
theorem wit_ThermalCommands_2 :
    (∃ (code : Nat) (s : State), code < s.get Reg.THM_FLTCFG_OPENCODE ∧ code ≤ s.get Reg.THM_FLTCFG_SHORTCODE) ∧
    (∃ (i code : Nat) (s : State), code < s.get Reg.THM_FLTCFG_OPENCODE ∧ s.get Reg.THM_FLTCFG_SHORTCODE < code ∧
      s.thm.suspect.testBit i = true) ∧
    (∃ (s : State), (s.isLead = false ∨ s.accelRuns 7 = false)) ∧
    (∃ (s : State), s.isLead = true ∧ s.accelRuns 7 = true) ∧
    (∃ (e : Nat) (s : State), s.tt.accel.find? (·.entry == e) = none) ∧
    (∃ (e : Nat) (x : AccelRun) (s : State), s.alive = true ∧ s.tt.accel.find? (·.entry == e) = some x) :=
  ⟨⟨0, running |> (fun s => s.put Reg.THM_FLTCFG_SHORTCODE 0), by decide⟩,
   ⟨0, 1, running |> (fun s => s.put Reg.THM_FLTCFG_SHORTCODE (1 - 1))
     |> (fun s => s.put Reg.THM_FLTCFG_OPENCODE 65535) |> (fun s => s.put Reg.THM_FLTCFG_SHORTCODE 0)
     |> (fun s => { s with thm := { s.thm with suspect := 1 } }), by decide⟩,
   ⟨running |> (fun s => { s with leadStrap := false }), by decide⟩,
   ⟨running |> (fun s => { s with tt := { s.tt with accel := [⟨7, 5, 100, 900⟩] } }), by decide⟩,
   ⟨0, running, by decide⟩,
   ⟨5, ⟨8, 5, 100, 900⟩, running |> (fun s => { s with tt := { s.tt with accel := [⟨8, 5, 100, 900⟩] } }), by decide⟩⟩

/-- What meets the hypotheses of `Obligations.ThermalCommands`, part 3. -/
theorem wit_ThermalCommands_3 :
    (∃ (rel : Nat) (o : State), o.eis.phase = 4 ∧ o.eis.e + 200000 ≤ rel) ∧
    (∃ (rel : Nat) (o : State), (o.eis.phase ≠ 4 ∨ rel < o.eis.e + 200000)) ∧
    (∃ (s : State) (j : Nat),
      s.isLead = true ∧ s.armedPage 9 = false ∧ s.get Reg.THM_NMAPADDR_INDEX < 384 ∧ (let k := 384 * (1 - s.get Reg.THM_NMAPSEL_BANK) + s.get Reg.THM_NMAPADDR_INDEX; j ≠ k)) ∧
    (∃ (s : State), s.isLead = true ∧ s.armedPage 9 = false ∧ 384 ≤ s.get Reg.THM_NMAPADDR_INDEX) ∧
    (∃ (c : Nat) (s : State), c < 512 ∧ s.isLead = true ∧ s.cellOn c = false) ∧
    (∃ (c : Nat) (s : State), c < 512 ∧ s.isLead = true ∧ s.cellOn c = true) :=
  ⟨⟨200000, running |> (fun s => { s with eis := { s.eis with phase := 4 } }), by decide⟩,
   ⟨0, running |> (fun s => { s with tt := { s.tt with accel := [⟨7, 5, 100, 900⟩] } }), by decide⟩,
   ⟨running |> (fun s => s.put Reg.THM_NMAPADDR_INDEX (384 - 1)), 0, by decide⟩,
   ⟨running |> (fun s => s.put Reg.THM_NMAPADDR_INDEX 384), by decide⟩,
   ⟨511, running, by decide⟩,
   ⟨383, running |> (fun s => { s with est := { s.est with pop := List.replicate 8 (2 ^ 48 - 1) } }), by decide⟩⟩

/-- What meets the hypotheses of `Obligations.ThermalCommands`, part 4. -/
theorem wit_ThermalCommands_4 :
    ∃ (s : State), s.isLead = false :=
  ⟨running |> (fun s => { s with leadStrap := false })
    |> (fun s => { s with est := { s.est with pop := List.replicate 8 (2 ^ 48 - 1) } }), by decide⟩

/-- What meets the hypotheses of `Obligations.StagingCommands`, part 1. -/
theorem wit_StagingCommands_1 :
    (∃ (a r : Nat) (s : State), s.pageOn (pageOf a) = true ∧ stagedOf a = some r ∧ s.armedPage (pageOf a) = false) ∧
    (∃ (a : Nat) (s : State), s.pageOn (pageOf a) = true ∧ stagedOf a = none) ∧
    (∃ (s : State), s.isLead = false) ∧
    (∃ (c : Bool) (s : State), s.alive = true ∧ (c = false ∨ s.isLead = true) ∧ s.stg.armed = true) ∧
    (∃ (c : Bool) (s : State), (c = false ∨ s.isLead = true) ∧ s.stg.armed = false ∧ c = false) ∧
    (∃ (s : State), s.stg.armed = false) :=
  ⟨⟨(Reg.TT_SCHED + 0x800), Reg.TT_SCHED, running, by decide⟩,
   ⟨0, running, by decide⟩,
   ⟨running |> (fun s => { s with leadStrap := false }), by decide⟩,
   ⟨false, running |> (fun s => { s with stg := { s.stg with armed := true } }), by decide⟩,
   ⟨false, running |> (fun s => { s with stg := { s.stg with armed := false } }), by decide⟩,
   ⟨running |> (fun s => { s with stg := { s.stg with armed := false } }), by decide⟩⟩

/-- What meets the hypotheses of `Obligations.StagingCommands`, part 2. -/
theorem wit_StagingCommands_2 :
    (∃ (s : State), (s.stg.armed = false ∨ s.stg.remote = true ∨ s.get Reg.STG_STAT_STATE ≠ 1)) ∧
    (∃ (s : State), s.alive = true ∧ s.isLead = true ∧ s.stg.armed = true ∧ s.stg.remote = false ∧
      s.get Reg.STG_STAT_STATE = 1) ∧
    (∃ (s : State), s.alive = true ∧ s.stg.armed = true ∧ s.stg.remote = true ∧ 8 ≤ s.stg.waited ∧
      s.stg.cascade = false) :=
  ⟨⟨running |> (fun s => { s with stg := { s.stg with armed := false } }), by decide⟩,
   ⟨running |> (fun s => { s with stg := { s.stg with armed := true } })
     |> (fun s => { s with stg := { s.stg with remote := false } }) |> (fun s => s.put Reg.STG_STAT_STATE (1)),
     by decide⟩,
   ⟨running |> (fun s => { s with stg := { s.stg with armed := true } })
     |> (fun s => { s with stg := { s.stg with remote := true } })
     |> (fun s => { s with stg := { s.stg with waited := 8 } })
     |> (fun s => { s with stg := { s.stg with cascade := false } }), by decide⟩⟩

/-- What meets the hypotheses of `Obligations.CommitCommands`, part 1. -/
theorem wit_CommitCommands_1 :
    (∃ (p : Nat) (s : State),
      (s.activeImage = none ∨ s.tt.sched = none ∨ s.alive = false ∨ s.sleeping = true ∨ p = 0)) ∧
    (∃ (r : Nat) (m : Image) (s : State), s.activeImage = some m ∧ s.tt.sched = some r) ∧
    (∃ (u : State), u.alive = true) ∧
    (∃ (s : State), (s.isLead = true ∨ s.alive = false)) ∧
    (∃ (s : State), s.isLead = false ∧ s.alive = true ∧ s.stg.armed = true) ∧
    (∃ (s : State), s.isLead = false ∧ s.alive = true ∧ s.stg.armed = false) :=
  ⟨⟨0, running, by decide⟩,
   ⟨0, wImage, running |> (fun s => { s with tt := { s.tt with sched := some 0 } })
     |> (fun s => { s with tt := { s.tt with active := some 0 } })
     |> (fun s => { s with tt := { s.tt with bufs := [some wImage, none] } }), by decide⟩,
   ⟨running, by decide⟩,
   ⟨running, by decide⟩,
   ⟨running |> (fun s => { s with leadStrap := false }) |> (fun s => { s with stg := { s.stg with armed := true } }),
     by decide⟩,
   ⟨running |> (fun s => { s with leadStrap := false })
     |> (fun s => { s with stg := { s.stg with armed := false } }), by decide⟩⟩

/-- What meets the hypotheses of `Obligations.CommitCommands`, part 2. -/
theorem wit_CommitCommands_2 :
    (∃ (d : Nat) (s : State),
      (s.isLead = false ∨ s.stg.armed = false ∨ s.stg.cascade = false ∨ s.enumerated.testBit d = false)) ∧
    (∃ (d : Nat) (s : State), s.isLead = true ∧ s.stg.armed = true ∧ s.stg.cascade = true ∧
      s.enumerated.testBit d = true) ∧
    (∃ (d : Nat) (w : Word) (s : State), s.alive = true ∧ s.isLead = true ∧ s.stg.armed = true ∧
      s.stg.cascade = true ∧ s.enumerated.testBit d = true ∧ w ≠ 0) ∧
    (∃ (s : State),
      (s.isLead = false ∨ s.alive = false ∨ s.stg.armed = false ∨ s.stg.cascade = false ∨ s.stg.flag = true ∨ s.fstart + 900000 ≤ s.stg.armedAt ∨ s.fstart + 900000 < s.now)) ∧
    (∃ (s : State), s.isLead = true ∧ s.alive = true ∧ s.stg.armed = true ∧ s.stg.cascade = true ∧
      s.stg.flag = false ∧ s.stg.armedAt < s.fstart + 900000 ∧ s.now ≤ s.fstart + 900000 ∧
      s.get Reg.STG_STAT_STATE ≠ 1) :=
  ⟨⟨0, running |> (fun s => { s with leadStrap := false }), by decide⟩,
   ⟨7, running |> (fun s => { s with stg := { s.stg with armed := true } })
     |> (fun s => { s with stg := { s.stg with cascade := true } }) |> (fun s => s.putB Reg.CSC_STAT_ENUM true)
     |> (fun s => s.put Reg.CSC_ENUMSTAT_NFOUND 7), by decide⟩,
   ⟨7, 1, running |> (fun s => { s with stg := { s.stg with armed := true } })
     |> (fun s => { s with stg := { s.stg with cascade := true } }) |> (fun s => s.putB Reg.CSC_STAT_ENUM true)
     |> (fun s => s.put Reg.CSC_ENUMSTAT_NFOUND 7), by decide⟩,
   ⟨running |> (fun s => { s with leadStrap := false }), by decide⟩,
   ⟨running |> (fun s => { s with stg := { s.stg with armed := true } })
     |> (fun s => { s with stg := { s.stg with cascade := true } })
     |> (fun s => { s with stg := { s.stg with flag := false } }) |> (fun s => s.put Reg.STG_STAT_STATE 0),
     by decide⟩⟩

/-- What meets the hypotheses of `Obligations.EstimatorCommands`, part 1. -/
theorem wit_EstimatorCommands_1 :
    (∃ (s : State), (s.isLead = false ∨ s.accelRuns 6 = false)) ∧
    (∃ (s : State), s.isLead = true ∧ s.accelRuns 6 = true) ∧
    (∃ (s : State) (j : Nat),
      s.pageOn 12 = true ∧ s.armedPage 12 = false ∧ (let k := 1024 * (1 - s.get Reg.EST_TBLSEL_BANK) + s.get Reg.EST_TBLADDR_INDEX; j ≠ k)) ∧
    (∃ (s : State), s.pageOn 12 = true ∧ s.isLead = true) ∧
    (∃ (ini : Ini) (c : Instr) (s : State), s.pageOn 12 = true ∧ s.isLead = false ∧
      c ∈ [.estCaprst ini, .estReinit ini, .estJwrite ini, .estResync ini]) ∧
    (∃ (s : State), s.isLead = true ∧ s.power.phase = .run ∧ s.watching = false ∧ s.sleeping = false) :=
  ⟨⟨running |> (fun s => { s with leadStrap := false }), by decide⟩,
   ⟨running |> (fun s => { s with tt := { s.tt with accel := [⟨6, 5, 100, 900⟩] } }), by decide⟩,
   ⟨running, 0, by decide⟩,
   ⟨running, by decide⟩,
   ⟨.pairB, .estCaprst .pairB, running |> (fun s => { s with leadStrap := false }), by decide⟩,
   ⟨running |> (fun s => { s with power := { s.power with phase := .run } })
     |> (fun s => s.put Reg.SYS_PROFSTAT_PROF 0), by decide⟩⟩

/-- What meets the hypotheses of `Obligations.EstimatorCommands`, part 2. -/
theorem wit_EstimatorCommands_2 :
    (∃ (s : State),
      (s.isLead = false ∨ s.est.jPend = false ∨ s.est.jRun = true ∨ (s.power.port ≠ 0 ∧ (s.power.port ≠ 3 ∨ s.power.warnAt = none)))) ∧
    (∃ (s : State) (a : Nat), s.isLead = true ∧ s.est.jPend = true ∧ s.est.jRun = false ∧
      (s.power.port = 0 ∨ (s.power.port = 3 ∧ s.power.warnAt.isSome = true)) ∧ (a < intentAddr ∨ intentAddr + 4 ≤ a)) ∧
    (∃ (s : State) (a : Nat),
      s.est.jRun = true ∧ (let slot := 1 - s.get Reg.EST_JSTAT_SLOT; (a < jSlotAddr slot ∨ jSlotAddr slot + 0x3044 ≤ a)) ∧ (a < intentAddr ∨ intentAddr + 4 ≤ a)) ∧
    (∃ (c : Nat) (s : State), s.pageOn 12 = true ∧ c < 512 ∧ (s.cellOn c = false ∨ s.est.ran = false)) ∧
    (∃ (c : Nat) (s : State), s.pageOn 12 = true ∧ c < 512 ∧ s.cellOn c = true ∧ s.est.ran = true) ∧
    (∃ (s : State), (s.isLead = false ∨ s.power.phase ≠ .run ∨ s.watching = true ∨ s.sleeping = true)) :=
  ⟨⟨running |> (fun s => { s with leadStrap := false }), by decide⟩,
   ⟨running |> (fun s => { s with est := { s.est with jPend := true } })
     |> (fun s => { s with est := { s.est with jRun := false } })
     |> (fun s => { s with power := { s.power with port := 0 } }), 0, by decide⟩,
   ⟨running |> (fun s => { s with est := { s.est with jRun := true } }), 0, by decide⟩,
   ⟨383, running |> (fun s => { s with est := { s.est with pop := List.replicate 8 (2 ^ 48 - 1) } }), by decide⟩,
   ⟨383, running |> (fun s => { s with est := { s.est with ran := true } })
     |> (fun s => { s with est := { s.est with pop := List.replicate 8 (2 ^ 48 - 1) } }), by decide⟩,
   ⟨running |> (fun s => { s with leadStrap := false }), by decide⟩⟩

/-- What meets the hypotheses of `Obligations.ImpedanceCommands`, part 1. -/
theorem wit_ImpedanceCommands_1 :
    (∃ (s : State), (s.isLead = false ∨ s.get Reg.SYS_PROFSTAT_PROF ≠ 0 ∨ s.flag Reg.EIS_STAT_SWEEP = true)) ∧
    (∃ (s : State), s.isLead = true ∧ s.get Reg.SYS_PROFSTAT_PROF = 0 ∧ s.flag Reg.EIS_STAT_SWEEP = false) ∧
    (∃ (s : State), s.isLead = true ∧ s.eisActive = false) ∧
    (∃ (s : State), s.alive = true ∧ s.isLead = true ∧ s.eisActive = true ∧ s.eis.req = 2) ∧
    (∃ (s : State), s.eis.phase ≠ 3) ∧
    (∃ (s : State), s.eis.phase = 3) :=
  ⟨⟨running |> (fun s => { s with leadStrap := false }), by decide⟩,
   ⟨running |> (fun s => s.put Reg.SYS_PROFSTAT_PROF (0)) |> (fun s => s.putB Reg.EIS_STAT_SWEEP false), by decide⟩,
   ⟨running, by decide⟩,
   ⟨running |> (fun s => { s with eis := { s.eis with req := 2 } })
     |> (fun s => { s with eis := { s.eis with phase := 4 } }), by decide⟩,
   ⟨running |> (fun s => { s with eis := { s.eis with phase := 0 } }), by decide⟩,
   ⟨running |> (fun s => { s with eis := { s.eis with phase := 3 } }), by decide⟩⟩

/-- What meets the hypotheses of `Obligations.ImpedanceCommands`, part 2. -/
theorem wit_ImpedanceCommands_2 :
    (∃ (s : State), s.accelRuns 8 = false) ∧
    (∃ (s : State), s.accelRuns 8 = true ∧
      (s.eis.phase ≠ 4 ∨ s.eisRunCounts = false ∨ s.eis.done.testBit s.devNum = true ∨ (s.get Reg.EIS_STAT_SRC ≠ 2 ∧ s.eis.gotI = false))) ∧
    (∃ (s : State), s.accelRuns 8 = true ∧ s.eis.phase = 4 ∧ s.eisRunCounts = true ∧
      s.eis.done.testBit s.devNum = false ∧ (s.get Reg.EIS_STAT_SRC = 2 ∨ s.eis.gotI = true) ∧ s.isLead = true) ∧
    (∃ (s : State), s.accelRuns 8 = true ∧ s.eis.phase = 4 ∧ s.eisRunCounts = true ∧
      s.eis.done.testBit s.devNum = false ∧ (s.get Reg.EIS_STAT_SRC = 2 ∨ s.eis.gotI = true) ∧ s.isLead = false) ∧
    (∃ (s : State), (s.isLead = false ∨ (s.eis.phase ≠ 4 ∧ s.eis.phase ≠ 6))) ∧
    (∃ (s : State), s.isLead = true ∧ (s.eis.phase = 4 ∨ s.eis.phase = 6) ∧ s.eis.done.testBit 0 = true ∧
      (∀ d < 8, s.followers.testBit d = true → s.eis.done.testBit d = true)) :=
  ⟨⟨running, by decide⟩,
   ⟨running |> (fun s => { s with tt := { s.tt with accel := [⟨8, 5, 100, 900⟩] } })
     |> (fun s => { s with eis := { s.eis with phase := 0 } }), by decide⟩,
   ⟨running |> (fun s => { s with tt := { s.tt with accel := [⟨8, 5, 100, 900⟩] } })
     |> (fun s => { s with eis := { s.eis with phase := 4 } }) |> (fun s => s.put Reg.EIS_STAT_SRC (2))
     |> (fun s => { s with tt := { s.tt with accel := [⟨8, 5, 200000, 900000⟩] } }), by decide⟩,
   ⟨running |> (fun s => { s with tt := { s.tt with accel := [⟨8, 5, 100, 900⟩] } })
     |> (fun s => { s with eis := { s.eis with phase := 4 } }) |> (fun s => s.put Reg.EIS_STAT_SRC (2))
     |> (fun s => { s with leadStrap := false })
     |> (fun s => { s with tt := { s.tt with accel := [⟨8, 5, 200000, 900000⟩] } }), by decide⟩,
   ⟨running |> (fun s => { s with leadStrap := false })
     |> (fun s => { s with tt := { s.tt with accel := [⟨8, 5, 100, 900⟩] } }), by decide⟩,
   ⟨running |> (fun s => { s with eis := { s.eis with phase := 4 } })
     |> (fun s => { s with eis := { s.eis with done := 255 } }), by decide⟩⟩

/-- What meets the hypotheses of `Obligations.ImpedanceCommands`, part 3. -/
theorem wit_ImpedanceCommands_3 :
    (∃ (s : State), s.isLead = true ∧ (s.eis.phase = 4 ∨ s.eis.phase = 6) ∧
      (s.eis.done.testBit 0 = false ∨ (∃ d < 8, s.followers.testBit d = true ∧ s.eis.done.testBit d = false))) ∧
    (∃ (s : State),
      (s.isLead = false ∨ s.eis.req ≠ 3 ∨ s.ackActive = false ∨ s.framesSince s.eis.stopFrame + 1 < clampN 1 255 (s.get Reg.EIS_EXCCFG_STOPTMO))) ∧
    (∃ (s : State), s.alive = true ∧ s.isLead = true ∧ s.eis.req = 3 ∧ s.ackActive = true ∧
      clampN 1 255 (s.get Reg.EIS_EXCCFG_STOPTMO) ≤ s.framesSince s.eis.stopFrame + 1) ∧
    (∃ (p c : Nat) (r : EisRes) (s : State), p < 8 ∧ c < 512 ∧ s.isLead = true ∧ aget (8 * c + p) s.eis.res = some r) ∧
    (∃ (p c : Nat) (s : State), p < 8 ∧ c < 512 ∧ aget (8 * c + p) s.eis.res = none) :=
  ⟨⟨running |> (fun s => { s with eis := { s.eis with phase := 4 } }), by decide⟩,
   ⟨running |> (fun s => { s with leadStrap := false }), by decide⟩,
   ⟨running |> (fun s => { s with eis := { s.eis with req := 3 } }) |> (fun s => s.put (Reg.HST_MB_DATA.at 2) 0x8000)
     |> (fun s => { s with frame := 1000 }), by decide⟩,
   ⟨7, 511, wRes, running |> (fun s => { s with eis := { s.eis with res := aput 4095 wRes [] } }), by decide⟩,
   ⟨7, 511, running, by decide⟩⟩

/-- What meets the hypotheses of `Obligations.FrameBoundaryAndTicketExpiry`, part 1. -/
theorem wit_FrameBoundaryAndTicketExpiry_1 :
    (∃ (s : State), s.busUp = false) ∧
    (∃ (s : State), s.busUp = true ∧ s.numbered = false) ∧
    (∃ (s : State), s.busUp = true ∧ s.actFrame = true) ∧
    (∃ (s : State), s.busUp = true ∧ s.actFrame = false) ∧
    (∃ (s : State), s.csc.marker = none) ∧
    (∃ (s : State) (m : Bool × Nat × Nat × Nat), s.csc.marker = some m ∧ m.2.2.2 < 65536) :=
  ⟨⟨running |> (fun s => { s with power := { s.power with phase := .inReset } }), by decide⟩,
   ⟨running, by decide⟩,
   ⟨running, by decide⟩,
   ⟨running |> (fun s => s.put Reg.SYS_PROFSTAT_PROF 1) |> (fun s => { s with tt := { s.tt with watchN := 1 } }),
     by decide⟩,
   ⟨running |> (fun s => { s with csc := { s.csc with marker := none } }), by decide⟩,
   ⟨running |> (fun s => { s with csc := { s.csc with marker := some (true, 0, 1, 65535) } }), (true, 0, 1, 65535),
     by decide⟩⟩

/-- What meets the hypotheses of `Obligations.FrameBoundaryAndTicketExpiry`, part 2. -/
theorem wit_FrameBoundaryAndTicketExpiry_2 :
    (∃ (s : State), s.isLead = true ∧ s.get Reg.SYS_PROFSTAT_PROF ≠ 2 ∧ s.reactionSeen = true) ∧
    (∃ (s : State), s.isLead = true ∧ s.get Reg.SYS_PROFSTAT_PROF ≠ 2 ∧ s.reactionSeen = false) ∧
    (∃ (s : State) (m : Bool × Nat × Nat × Nat), s.isLead = false ∧ s.csc.marker = some m ∧ m.2.1 ≠ 3) ∧
    (∃ (s : State),
      s.alive = true ∧ s.nextProfile = s.get Reg.SYS_PROFSTAT_PROF ∧ (let p := s.get Reg.SYS_PROFSTAT_PROF; let m := if p = 0 then s.get Reg.TT_SCHED_RUNMODE else if p = 1 then 0 else s.get Reg.SYS_PROFSTAT_MODE; m ≠ s.get Reg.SYS_PROFSTAT_MODE)) ∧
    (∃ (s : State), s.alive = true ∧ s.nextProfile = s.get Reg.SYS_PROFSTAT_PROF ∧
      (s.isLead && s.profRefuse && !s.pairRestarting) = true) ∧
    (∃ (con : Fin 32) (s : State),
      (s.alive = false ∨ (s.connState con ≠ 1 ∧ s.connState con ≠ 2) ∨ s.tktSuspended = true)) :=
  ⟨⟨running |> (fun s => s.put Reg.SYS_PROFSTAT_PROF 0) |> (fun s => s.put Reg.SAF_RSTAT_LATCH 1), by decide⟩,
   ⟨running |> (fun s => s.put Reg.SYS_PROFSTAT_PROF 0), by decide⟩,
   ⟨running |> (fun s => { s with leadStrap := false })
     |> (fun s => { s with csc := { s.csc with marker := some (true, 0, 1, 65535) } }), (true, 0, 1, 65535),
     by decide⟩,
   ⟨running |> (fun s => s.put Reg.TT_SCHED_RUNMODE 1) |> (fun s => s.put Reg.SYS_PROFSTAT_MODE 0), by decide⟩,
   ⟨running |> (fun s => s.put Reg.SYS_PROFREQ_REQ 1), by decide⟩,
   ⟨(31 : Fin 32), running |> (fun s => { s with power := { s.power with phase := .inReset } }), by decide⟩⟩

/-- What meets the hypotheses of `Obligations.FrameBoundaryAndTicketExpiry`, part 3. -/
theorem wit_FrameBoundaryAndTicketExpiry_3 :
    (∃ (con : Fin 32) (s : State), s.alive = true ∧ (s.connState con = 1 ∨ s.connState con = 2) ∧
      s.tktSuspended = false ∧ s.flag (Reg.TKT_CFG_REACT.at con) = true ∧ s.flag (Reg.TKT_CFG_RSEL.at con) = false) ∧
    (∃ (con : Fin 32) (s : State), s.alive = true ∧ (s.connState con = 1 ∨ s.connState con = 2) ∧
      s.tktSuspended = false ∧ s.flag (Reg.TKT_CFG_REACT.at con) = true ∧ s.flag (Reg.TKT_CFG_RSEL.at con) = true) :=
  ⟨⟨(31 : Fin 32), running |> (fun s => s.put (Reg.TKT_STAT_STATE.at (31 : Fin 32)) 1)
     |> (fun s => s.putB (Reg.TKT_CFG_REACT.at (31 : Fin 32)) true)
     |> (fun s => s.putB (Reg.TKT_CFG_RSEL.at (31 : Fin 32)) false), by decide⟩,
   ⟨(31 : Fin 32), running |> (fun s => s.put (Reg.TKT_STAT_STATE.at (31 : Fin 32)) 1)
     |> (fun s => s.putB (Reg.TKT_CFG_REACT.at (31 : Fin 32)) true)
     |> (fun s => s.putB (Reg.TKT_CFG_RSEL.at (31 : Fin 32)) true), by decide⟩⟩

end Sys2Proof.Machine
end

namespace Sys2Proof.Machine

/-- Every command keeps what `Keeps` says: one arm per command, each the lemma about that command's meaning. -/
theorem exec_keeps (c : Instr) (s : State) : KeepsR s (exec c s) :=
  match c with
  | .registerWrite ini addr val => execRegisterWrite_keeps ini addr val s (.refl s)
  | .narrowOrUnalignedAccess ini write addr => execNarrowOrUnalignedAccess_keeps ini write addr s (.refl s)
  | .frameBoundary die => execFrameBoundary_keeps die s (.refl s)
  | .slotRelease slot => execSlotRelease_keeps slot s (.refl s)
  | .profileRequestWrite ini req => execProfileRequestWrite_keeps ini req s (.refl s)
  | .sampleInstant offset hall driveUA driveMV => execSampleInstant_keeps offset hall driveUA driveMV s (.refl s)
  | .sampleSetArrival set => execSampleSetArrival_keeps set s (.refl s)
  | .sampleSetMissing instant => execSampleSetMissing_keeps instant s (.refl s)
  | .transformerSupplyFailure => execTransformerSupplyFailure_keeps s (.refl s)
  | .swTrip ini => execSwTrip_keeps ini s (.refl s)
  | .reactionClear ini mask => execReactionClear_keeps ini mask s (.refl s)
  | .safSelftestStart => execSafSelftestStart_keeps s (.refl s)
  | .safSelftestEnd passed => execSafSelftestEnd_keeps passed s (.refl s)
  | .imageLoad ini buf go => execImageLoad_keeps ini buf go s (.refl s)
  | .imageLoadDone => execImageLoadDone_keeps s (.refl s)
  | .taskDone ini pair entry => execTaskDone_keeps ini pair entry s (.refl s)
  | .killAck ini pair entry => execKillAck_keeps ini pair entry s (.refl s)
  | .taskOverrun entry => execTaskOverrun_keeps entry s (.refl s)
  | .killAckTimeout entry => execKillAckTimeout_keeps entry s (.refl s)
  | .acceleratorOverrun entry => execAcceleratorOverrun_keeps entry s (.refl s)
  | .stagedWrite ini addr val => execStagedWrite_keeps ini addr val s (.refl s)
  | .stgArm ini point cascade => execStgArm_keeps ini point cascade s (.refl s)
  | .stgDisarm ini => execStgDisarm_keeps ini s (.refl s)
  | .consistencyCheckDone => execConsistencyCheckDone_keeps s (.refl s)
  | .commitPointReached point => execCommitPointReached_keeps point s (.refl s)
  | .cascadeArmReceived mask fast setid => execCascadeArmReceived_keeps mask fast setid s (.refl s)
  | .checkReportReceived dev fail digest => execCheckReportReceived_keeps dev fail digest s (.refl s)
  | .cascadeReportDeadline => execCascadeReportDeadline_keeps s (.refl s)
  | .cascadeDisarmReceived => execCascadeDisarmReceived_keeps s (.refl s)
  | .cascadeArmTimeout => execCascadeArmTimeout_keeps s (.refl s)
  | .pairReady ini pair => execPairReady_keeps ini pair s (.refl s)
  | .trapezeReadyTimeout pair => execTrapezeReadyTimeout_keeps pair s (.refl s)
  | .openWireRequest ini => execOpenWireRequest_keeps ini s (.refl s)
  | .openWireStart => execOpenWireStart_keeps s (.refl s)
  | .openWirePhase => execOpenWirePhase_keeps s (.refl s)
  | .openWireEnd => execOpenWireEnd_keeps s (.refl s)
  | .openWireResult => execOpenWireResult_keeps s (.refl s)
  | .quietPauseStart => execQuietPauseStart_keeps s (.refl s)
  | .quietInstant codes => execQuietInstant_keeps codes s (.refl s)
  | .ocComparatorCrossing discharge copyY microvolt => execOcComparatorCrossing_keeps discharge copyY microvolt s (.refl s)
  | .ocGlitchFilterExpiry discharge copyY => execOcGlitchFilterExpiry_keeps discharge copyY s (.refl s)
  | .ocSelftestStart => execOcSelftestStart_keeps s (.refl s)
  | .ocSelftestEnd trippedChg trippedDis => execOcSelftestEnd_keeps trippedChg trippedDis s (.refl s)
  | .isolationRequest ini => execIsolationRequest_keeps ini s (.refl s)
  | .isolationRunStart => execIsolationRunStart_keeps s (.refl s)
  | .isolationStateTimeout => execIsolationStateTimeout_keeps s (.refl s)
  | .isoBEngage => execIsoBEngage_keeps s (.refl s)
  | .isolationResult => execIsolationResult_keeps s (.refl s)
  | .lane0Transmit => execLane0Transmit_keeps s (.refl s)
  | .setPacketReceived p => execSetPacketReceived_keeps p s (.refl s)
  | .frameRecordReceived r => execFrameRecordReceived_keeps r s (.refl s)
  | .heartbeatReceived crcOk leadTick chgforb => execHeartbeatReceived_keeps crcOk leadTick chgforb s (.refl s)
  | .accessPacketReceived crcOk op dst => execAccessPacketReceived_keeps crcOk op s dst (.refl s)
  | .accessReplyReceived dev crcOk op => execAccessReplyReceived_keeps dev crcOk op s (.refl s)
  | .xferCompletionWindowEnd => execXferCompletionWindowEnd_keeps s (.refl s)
  | .frameMarkerSend => execFrameMarkerSend_keeps s (.refl s)
  | .frameMarkerReceived word => execFrameMarkerReceived_keeps word s (.refl s)
  | .syncEdge offset => execSyncEdge_keeps offset s (.refl s)
  | .missedFrame => execMissedFrame_keeps s (.refl s)
  | .syncWakePattern => execSyncWakePattern_keeps s (.refl s)
  | .enumerationStart => execEnumerationStart_keeps s (.refl s)
  | .enumTokenReceived reverse count crcOk => execEnumTokenReceived_keeps reverse count crcOk s (.refl s)
  | .enumTokenTimeout => execEnumTokenTimeout_keeps s (.refl s)
  | .enumRetry => execEnumRetry_keeps s (.refl s)
  | .singleDeviceEnumTimeout => execSingleDeviceEnumTimeout_keeps s (.refl s)
  | .enumRequest ini => execEnumRequest_keeps ini s (.refl s)
  | .noLeadTimeout => execNoLeadTimeout_keeps s (.refl s)
  | .foreignSyncDetected => execForeignSyncDetected_keeps s (.refl s)
  | .hopLockLost hop => execHopLockLost_keeps hop s (.refl s)
  | .hopLockGained hop => execHopLockGained_keeps hop s (.refl s)
  | .ringGapClosed => execRingGapClosed_keeps s (.refl s)
  | .followerLost dev => execFollowerLost_keeps dev s (.refl s)
  | .followerLossTrip dev => execFollowerLossTrip_keeps dev s (.refl s)
  | .leadLost => execLeadLost_keeps s (.refl s)
  | .leadLossTrip => execLeadLossTrip_keeps s (.refl s)
  | .tripRecognised => execTripRecognised_keeps s (.refl s)
  | .tripReadbackCheck released => execTripReadbackCheck_keeps released s (.refl s)
  | .tripReleased => execTripReleased_keeps s (.refl s)
  | .estimatorRunDone => execEstimatorRunDone_keeps s (.refl s)
  | .tableDataWrite ini val => execTableDataWrite_keeps ini val s (.refl s)
  | .estCaprst ini => execEstCaprst_keeps ini s (.refl s)
  | .estReinit ini => execEstReinit_keeps ini s (.refl s)
  | .estJwrite ini => execEstJwrite_keeps ini s (.refl s)
  | .estResync ini => execEstResync_keeps ini s (.refl s)
  | .journalPeriod => execJournalPeriod_keeps s (.refl s)
  | .journalWriteStart => execJournalWriteStart_keeps s (.refl s)
  | .journalWriteDone => execJournalWriteDone_keeps s (.refl s)
  | .estCellSelect ini cell => execEstCellSelect_keeps ini cell s (.refl s)
  | .eisSweepRequest ini => execEisSweepRequest_keeps ini s (.refl s)
  | .eisAbort ini => execEisAbort_keeps ini s (.refl s)
  | .eisTcal ini => execEisTcal_keeps ini s (.refl s)
  | .eisResultSelect ini point cell => execEisResultSelect_keeps ini point cell s (.refl s)
  | .eisWindowEnd => execEisWindowEnd_keeps s (.refl s)
  | .eisProcessingDone => execEisProcessingDone_keeps s (.refl s)
  | .eisResultDeadline => execEisResultDeadline_keeps s (.refl s)
  | .excitationStopTimeout => execExcitationStopTimeout_keeps s (.refl s)
  | .thermistorSample input code => execThermistorSample_keeps input code s (.refl s)
  | .thermalModelRunDone => execThermalModelRunDone_keeps s (.refl s)
  | .neighbourMapWrite ini val => execNeighbourMapWrite_keeps ini val s (.refl s)
  | .thmCellSelect ini cell => execThmCellSelect_keeps ini cell s (.refl s)
  | .dieStage3HardStop => execDieStage3HardStop_keeps s (.refl s)
  | .thermalRestart => execThermalRestart_keeps s (.refl s)
  | .driveClose ini => execDriveClose_keeps ini s (.refl s)
  | .driveOpen ini => execDriveOpen_keeps ini s (.refl s)
  | .chargeClose ini => execChargeClose_keeps ini s (.refl s)
  | .chargeOpen ini => execChargeOpen_keeps ini s (.refl s)
  | .auxOn ini => execAuxOn_keeps ini s (.refl s)
  | .auxOff ini => execAuxOff_keeps ini s (.refl s)
  | .faultClear ini => execFaultClear_keeps ini s (.refl s)
  | .ctsGrantTimeout => execCtsGrantTimeout_keeps s (.refl s)
  | .probeTimerEnd => execProbeTimerEnd_keeps s (.refl s)
  | .closeTimerEnd => execCloseTimerEnd_keeps s (.refl s)
  | .gapTimerEnd => execGapTimerEnd_keeps s (.refl s)
  | .rampTimerEnd => execRampTimerEnd_keeps s (.refl s)
  | .matchTimerEnd => execMatchTimerEnd_keeps s (.refl s)
  | .cooldownEnd => execCooldownEnd_keeps s (.refl s)
  | .ctsSample v1 v2 v3 v4 ish1 offset => execCtsSample_keeps v1 v2 v3 v4 ish1 offset s (.refl s)
  | .ctsSampleMissing => execCtsSampleMissing_keeps s (.refl s)
  | .cmdSet ini mask => execCmdSet_keeps ini mask s (.refl s)
  | .cmdClear ini mask => execCmdClear_keeps ini mask s (.refl s)
  | .rampComplete ch => execRampComplete_keeps ch s (.refl s)
  | .inrushExpiry ch => execInrushExpiry_keeps ch s (.refl s)
  | .channelShort ch => execChannelShort_keeps ch s (.refl s)
  | .junctionOvertemp ch => execJunctionOvertemp_keeps ch s (.refl s)
  | .clampConducted ch => execClampConducted_keeps ch s (.refl s)
  | .channelCurrentReading mA hot clusters => execChannelCurrentReading_keeps mA hot clusters s (.refl s)
  | .crankDiagResume => execCrankDiagResume_keeps s (.refl s)
  | .clusterOvertemp c => execClusterOvertemp_keeps c s (.refl s)
  | .clusterShedStep c hot => execClusterShedStep_keeps c s hot (.refl s)
  | .clusterCooled c => execClusterCooled_keeps c s (.refl s)
  | .testPulseStart => execTestPulseStart_keeps s (.refl s)
  | .testPulseEnd mA reached => execTestPulseEnd_keeps mA reached s (.refl s)
  | .lhInputChange inp high => execLhInputChange_keeps inp high s (.refl s)
  | .hostRequestWrite ini req => execHostRequestWrite_keeps ini req s (.refl s)
  | .safetyNetRelease ini => execSafetyNetRelease_keeps ini s (.refl s)
  | .lhmLock ini => execLhmLock_keeps ini s (.refl s)
  | .balancingPatternWrite ini upper val => execBalancingPatternWrite_keeps ini upper val s (.refl s)
  | .balancingStop ini => execBalancingStop_keeps ini s (.refl s)
  | .balHalfPeriod => execBalHalfPeriod_keeps s (.refl s)
  | .balCmdTimeout => execBalCmdTimeout_keeps s (.refl s)
  | .pumpStart ini => execPumpStart_keeps ini s (.refl s)
  | .pumpStop ini => execPumpStop_keeps ini s (.refl s)
  | .pumpSetpointWrite ini demand => execPumpSetpointWrite_keeps ini demand s (.refl s)
  | .pumpCurrentLoop vbatMV rpm angleErrDeg emfUV locked idq =>
    execPumpCurrentLoop_keeps vbatMV rpm angleErrDeg emfUV locked idq s (.refl s)
  | .pumpShuntOvercurrent shuntUV => execPumpShuntOvercurrent_keeps s shuntUV (.refl s)
  | .listenEnd rpm => execListenEnd_keeps rpm s (.refl s)
  | .phaseNodeOvervoltage phMV vbatMV => execPhaseNodeOvervoltage_keeps s phMV vbatMV (.refl s)
  | .brakeTimeout rpm => execBrakeTimeout_keeps rpm s (.refl s)
  | .alignEnd => execAlignEnd_keeps s (.refl s)
  | .zeroVectorEnd => execZeroVectorEnd_keeps s (.refl s)
  | .retryDelayEnd => execRetryDelayEnd_keeps s (.refl s)
  | .runAttemptReset => execRunAttemptReset_keeps s (.refl s)
  | .gateSupplyFault vgdMV bootMV => execGateSupplyFault_keeps vgdMV s bootMV (.refl s)
  | .gateSupplyRecovery => execGateSupplyRecovery_keeps s (.refl s)
  | .pairMismatch pair addr => execPairMismatch_keeps pair addr s (.refl s)
  | .compareUnitFault pair parity addr => execCompareUnitFault_keeps pair parity s addr (.refl s)
  | .comparatorFrameTest pair c1 c2 parity => execComparatorFrameTest_keeps pair c1 c2 parity s (.refl s)
  | .checkpointComplete archA archB => execCheckpointComplete_keeps archA archB s (.refl s)
  | .pairHaltEnd => execPairHaltEnd_keeps s (.refl s)
  | .pairRestartRequest ini pair => execPairRestartRequest_keeps ini pair s (.refl s)
  | .restoreComplete pair => execRestoreComplete_keeps pair s (.refl s)
  | .restartTimeout pair => execRestartTimeout_keeps pair s (.refl s)
  | .debugHalt ini pair => execDebugHalt_keeps ini pair s (.refl s)
  | .debugResume ini pair => execDebugResume_keeps ini pair s (.refl s)
  | .debugStep ini pair => execDebugStep_keeps ini pair s (.refl s)
  | .memoryAccessFault pair write addr => execMemoryAccessFault_keeps pair write addr s (.refl s)
  | .eccError pair mram corrected addr => execEccError_keeps pair mram corrected addr s (.refl s)
  | .programRegionWrite ini addr val => execProgramRegionWrite_keeps ini addr val s (.refl s)
  | .dataMramStore pair addr val => execDataMramStore_keeps pair addr val s (.refl s)
  | .regionVerify ini => execRegionVerify_keeps ini s (.refl s)
  | .regionVerifyDone => execRegionVerifyDone_keeps s (.refl s)
  | .svnminWrite ini min => execSvnminWrite_keeps ini min s (.refl s)
  | .keyRevoke ini mask => execKeyRevoke_keeps ini mask s (.refl s)
  | .dbglockSet ini => execDbglockSet_keeps ini s (.refl s)
  | .otpKeyWrite ini val => execOtpKeyWrite_keeps ini val s (.refl s)
  | .canInitWrite ini ch init => execCanInitWrite_keeps ini ch init s (.refl s)
  | .canLomWrite ini ch lom => execCanLomWrite_keeps ini ch lom s (.refl s)
  | .canAbdStart ini ch => execCanAbdStart_keeps ini ch s (.refl s)
  | .canAbdDone ch nrate drate => execCanAbdDone_keeps ch nrate drate s (.refl s)
  | .canAbdTimeout ch => execCanAbdTimeout_keeps ch s (.refl s)
  | .objectReq ini ch => execObjectReq_keeps ini ch s (.refl s)
  | .objectCancel ini ch => execObjectCancel_keeps ini ch s (.refl s)
  | .objectAck ini ch => execObjectAck_keeps ini ch s (.refl s)
  | .objectWord0Write ini ch val => execObjectWord0Write_keeps ini ch val s (.refl s)
  | .fifoPush ini => execFifoPush_keeps ini s (.refl s)
  | .fifoClear ini => execFifoClear_keeps ini s (.refl s)
  | .canFrameReceived ch f => execCanFrameReceived_keeps ch f s (.refl s)
  | .canStartOfFrame ch => execCanStartOfFrame_keeps ch s (.refl s)
  | .canTxSuccess ch tdcv => execCanTxSuccess_keeps ch tdcv s (.refl s)
  | .canTxAttemptFailed ch arbitration => execCanTxAttemptFailed_keeps ch arbitration s (.refl s)
  | .cantxWindowEnd ch obj => execCantxWindowEnd_keeps ch obj s (.refl s)
  | .canErrorStateChange ch tec rec => execCanErrorStateChange_keeps ch tec rec s (.refl s)
  | .busOffRecovered ch => execBusOffRecovered_keeps ch s (.refl s)
  | .canEdgeWake ch lowUS => execCanEdgeWake_keeps ch s lowUS (.refl s)
  | .canWakeFrame xtd id fd crcOk => execCanWakeFrame_keeps xtd id fd crcOk s (.refl s)
  | .ticketExpiry con => execTicketExpiry_keeps con s (.refl s)
  | .hostReadSeq => execHostReadSeq_keeps s (.refl s)
  | .hostWrite addr data => execHostWrite_keeps addr data s (.refl s)
  | .spiWordComplete mosi => execSpiWordComplete_keeps mosi s (.refl s)
  | .spiDeselect bits => execSpiDeselect_keeps bits s (.refl s)
  | .hirqTimeout => execHirqTimeout_keeps s (.refl s)
  | .backBufferWrite ini val => execBackBufferWrite_keeps ini val s (.refl s)
  | .backBufferDone ini => execBackBufferDone_keeps ini s (.refl s)
  | .tickRead ini => execTickRead_keeps ini s (.refl s)
  | .tickWrapSave => execTickWrapSave_keeps s (.refl s)
  | .gapAttest ini secs => execGapAttest_keeps ini secs s (.refl s)
  | .bbxSwPush ini => execBbxSwPush_keeps ini s (.refl s)
  | .bbxFreezeCommand ini => execBbxFreezeCommand_keeps ini s (.refl s)
  | .bbxRelease ini => execBbxRelease_keeps ini s (.refl s)
  | .snapshot => execSnapshot_keeps s (.refl s)
  | .freezeCopyStart => execFreezeCopyStart_keeps s (.refl s)
  | .freezeBlockDone => execFreezeBlockDone_keeps s (.refl s)
  | .vbatPause => execVbatPause_keeps s (.refl s)
  | .vbatPauseReturn => execVbatPauseReturn_keeps s (.refl s)
  | .pauseLimit => execPauseLimit_keeps s (.refl s)
  | .brownoutWarning => execBrownoutWarning_keeps s (.refl s)
  | .brownoutWarningEnd => execBrownoutWarningEnd_keeps s (.refl s)
  | .brownoutTimeout => execBrownoutTimeout_keeps s (.refl s)
  | .holdupExhausted => execHoldupExhausted_keeps s (.refl s)
  | .vbatOvervoltage vbatMV => execVbatOvervoltage_keeps vbatMV s (.refl s)
  | .alwaysOnLoss => execAlwaysOnLoss_keeps s (.refl s)
  | .holdupMeasure vholdMV slow => execHoldupMeasure_keeps vholdMV slow s (.refl s)
  | .holdupFault => execHoldupFault_keeps s (.refl s)
  | .coreSupplyFailure => execCoreSupplyFailure_keeps s (.refl s)
  | .clockFailure => execClockFailure_keeps s (.refl s)
  | .pllRestart => execPllRestart_keeps s (.refl s)
  | .pllLocked => execPllLocked_keeps s (.refl s)
  | .measDieWarmup => execMeasDieWarmup_keeps s (.refl s)
  | .sleepExitResume => execSleepExitResume_keeps s (.refl s)
  | .nrstAssert => execNrstAssert_keeps s (.refl s)
  | .nrstRelease => execNrstRelease_keeps s (.refl s)
  | .powerOn lhcfg => execPowerOn_keeps lhcfg s (.refl s)
  | .resetRelease lead => execResetRelease_keeps lead s (.refl s)
  | .bootRecords => execBootRecords_keeps s (.refl s)
  | .bootHoldupTimeout => execBootHoldupTimeout_keeps s (.refl s)
  | .bootVerifyDone => execBootVerifyDone_keeps s (.refl s)
  | .watchdogService ini pair key => execWatchdogService_keeps ini pair key s (.refl s)
  | .watchdogExpiry pair => execWatchdogExpiry_keeps pair s (.refl s)
  | .watchdogHoldEnd => execWatchdogHoldEnd_keeps s (.refl s)
  | .eventPendingClear ini page mask => execEventPendingClear_keeps ini page mask s (.refl s)
  | .eventForce ini page mask => execEventForce_keeps ini page mask s (.refl s)
  | .pageLock ini page => execPageLock_keeps ini page s (.refl s)
  | .jtagIdcode => execJtagIdcode_keeps s (.refl s)
  | .jtagSamplePreload capture preload => execJtagSamplePreload_keeps capture preload s (.refl s)
  | .jtagExtest => execJtagExtest_keeps s (.refl s)
  | .jtagDbgacc write addr data => execJtagDbgacc_keeps write addr data s (.refl s)
  | .jtagBypass code => execJtagBypass_keeps code s (.refl s)
  | .pwmPeriodStart => execPwmPeriodStart_keeps s (.refl s)
  | .vdsLimitReached phMV => execVdsLimitReached_keeps s phMV (.refl s)
  | .gateSupplyReturn vgdMV bootMV => execGateSupplyReturn_keeps s vgdMV bootMV (.refl s)
  | .coreSupplyReturn => execCoreSupplyReturn_keeps s (.refl s)
  | .crystalRecovered => execCrystalRecovered_keeps s (.refl s)
  | .canBusIntegrated ch => execCanBusIntegrated_keeps ch s (.refl s)
  | .canReceiveError ch tec rec => execCanReceiveError_keeps ch tec rec s (.refl s)
  | .tckActivity => execTckActivity_keeps s (.refl s)
  | .tckIdleTimeout => execTckIdleTimeout_keeps s (.refl s)

/-- Every step that answers keeps the canonical form: the command in front, or the tick that passes. -/
theorem step_keeps_canon (s t : State) (hs : s.canon = true) (h : step s = .next t) : t.canon = true := by
  unfold step at h
  split at h
  next =>
    cases h
    exact (idle_keeps s (.refl s)).canon hs
  next c rest _ =>
    exact (exec_keeps c { s with pending := rest } t h).canon (State.canon_congr s _ rfl rfl hs)

end Sys2Proof.Machine

section
open Sys2Proof Sys2Proof.Machine

/-- Settles O4: the canonical form is a part of what every command keeps. -/
theorem stepKeepsCanonicalStores : Obligations.StepKeepsCanonicalStores := step_keeps_canon

/-- Settles O5: the queue, the build and the direction of time are the other parts. -/
theorem commandsKeepQueueBuildAndTime : Obligations.CommandsKeepQueueBuildAndTime := by
  intro c s t h
  have hk := exec_keeps c s t h
  exact ⟨hk.queue, hk.build, hk.time⟩

end

section
/-!
What an update leaves of the register words and of memory: `WordsKept`, `QuietWordsKept` and `BytesKept` along writes and
raised events.
-/
namespace Sys2Proof.Machine

variable {l : List Nat} {s t u : State}

theorem WordsKept.refl (l : List Nat) (s : State) : WordsKept l s s := fun _ _ => rfl

theorem WordsKept.setWord (h : WordsKept l s t) {a : Nat} (ha : a ∈ l) (w : Word) : WordsKept l s (t.setWord a w) :=
  fun b hb => (State.word_setWord_ne _ _ _ _ (ne_of_mem_of_not_mem ha hb).symm).trans (h b hb)

theorem WordsKept.put (h : WordsKept l s t) {f : Fld} (hf : f.addr ∈ l) (v : Nat) : WordsKept l s (t.put f v) :=
  h.setWord hf _

theorem WordsKept.putB (h : WordsKept l s t) {f : Fld} (hf : f.addr ∈ l) (b : Bool) : WordsKept l s (t.putB f b) :=
  h.setWord hf _

/-- A change that leaves the register store leaves every word. -/
theorem WordsKept.of_regs (h : WordsKept l s t) (e : u.regs = t.regs) : WordsKept l s u :=
  fun a ha => (State.word_congr e a).trans (h a ha)

theorem WordsKept.trans (h : WordsKept l s t) (h' : WordsKept l t u) : WordsKept l s u :=
  fun a ha => (h' a ha).trans (h a ha)

/-- Two changes one after the other leave the words that neither lists. -/
theorem WordsKept.append {l' : List Nat} (h : WordsKept l s t) (h' : WordsKept l' t u) : WordsKept (l' ++ l) s u :=
  fun a ha => by
    simp only [List.mem_append, not_or] at ha
    exact (h' a ha.1).trans (h a ha.2)

theorem WordsKept.quiet (h : WordsKept l s t) : QuietWordsKept l s t := fun a _ ha => h a ha

/-- A field of a word outside the list reads as before. -/
theorem WordsKept.get (h : WordsKept l s t) (f : Fld) (hf : f.addr ∉ l) : t.get f = s.get f := by
  simp only [State.get, h _ hf]

theorem QuietWordsKept.raise (h : QuietWordsKept l s t) (e : Event) : QuietWordsKept l s (t.raise e) :=
  fun a hq ha => (State.word_raise t e a hq).trans (h a hq ha)

theorem BytesKept.of_mem (h : t.mem = s.mem) : BytesKept s t := fun a _ => State.byte_congr h a

theorem BytesKept.raise (h : BytesKept s t) (e : Event) : BytesKept s (t.raise e) :=
  fun a ha => (State.byte_raise_out t e a ha).trans (h a ha)

theorem State.flag_raise (s : State) (e : Event) (f : Fld) (h : quiet f.addr = true) : (s.raise e).flag f = s.flag f := by
  simp only [State.flag, State.get_raise _ _ _ h]

theorem State.flag_put_apart (s : State) (f g : Fld) (v : Nat) (h : f.apart g = true) : (s.put f v).flag g = s.flag g := by
  simp only [State.flag, State.get_put_apart _ _ _ _ h]

end Sys2Proof.Machine
end

section
/-!
Refused accesses (R3, R22, R425): what the access record and its event leave.
-/
namespace Sys2Proof.Machine

/-- An access with an address was refused: the access record describes it, its event is raised, and every other quiet word
and every byte outside the record ring is kept. -/
structure Refused (e : Event) (kind : Nat) (ini : Ini) (write : Bool) (a : Nat) (s t : State) : Prop where
  raised : t.raised e = true
  words : QuietWordsKept [Reg.SYS_ACCINFO, Reg.SYS_ACCADDR] s t
  bytes : BytesKept s t
  kind : t.get Reg.SYS_ACCINFO_KIND = kind
  write : t.flag Reg.SYS_ACCINFO_WRITE = write
  ini : t.get Reg.SYS_ACCINFO_INIT = ini.code
  addr : t.get Reg.SYS_ACCADDR_ADDR = a % 2 ^ 32

theorem iniCode_lt (ini : Ini) : ini.code < 4 := by cases ini <;> decide

/-- The access record holds the initiator, the direction, the kind and the address. -/
theorem State.accessRecord_fields (s : State) (ini : Ini) (w : Bool) (a k : Nat) (hk : k < 4) :
    (s.accessRecord ini w a k).get Reg.SYS_ACCINFO_KIND = k ∧
    (s.accessRecord ini w a k).flag Reg.SYS_ACCINFO_WRITE = w ∧
    (s.accessRecord ini w a k).get Reg.SYS_ACCINFO_INIT = ini.code ∧
    (s.accessRecord ini w a k).get Reg.SYS_ACCADDR_ADDR = a % 2 ^ 32 := by
  have hi : ini.code % 2 ^ Reg.SYS_ACCINFO_INIT.wid = ini.code := Nat.mod_eq_of_lt (iniCode_lt ini)
  have hk' : k % 2 ^ Reg.SYS_ACCINFO_KIND.wid = k := Nat.mod_eq_of_lt hk
  unfold State.accessRecord
  refine ⟨?_, ?_, ?_, State.get_put_self _ _ _ (by decide)⟩
  · simp (disch := decide) only [State.get_put_apart, State.get_put_self, hk']
  · simp (disch := decide) only [State.flag_put_apart, State.flag_putB_self]
  · simp (disch := decide) only [State.get_put_apart, State.get_putB_apart, State.get_put_self, hi]

theorem State.wordsKept_accessRecord (s : State) (ini : Ini) (w : Bool) (a k : Nat) :
    WordsKept [Reg.SYS_ACCINFO, Reg.SYS_ACCADDR] s (s.accessRecord ini w a k) :=
  (((((WordsKept.refl _ s).put (by decide) _).putB (by decide) _).put (by decide) _).put (by decide) _).put (by decide) _

@[simp] theorem State.accessRecord_mem (s : State) (ini : Ini) (w : Bool) (a k : Nat) :
    (s.accessRecord ini w a k).mem = s.mem := by simp [State.accessRecord]

@[simp] theorem State.accessRecord_alive (s : State) (ini : Ini) (w : Bool) (a k : Nat) :
    (s.accessRecord ini w a k).alive = s.alive := by simp [State.alive, State.accessRecord]

/-- The access record followed by its event. -/
theorem State.refused_raise (s : State) (e : Event) (k : Nat) (ini : Ini) (w : Bool) (a : Nat) (ha : s.alive = true)
    (he : e.bit < 32) (hk : k < 4) : Refused e k ini w a s ((s.accessRecord ini w a k).raise e) := by
  obtain ⟨hkind, hwrite, hini, haddr⟩ := s.accessRecord_fields ini w a k hk
  exact {
    raised := State.raised_raise _ e ((s.accessRecord_alive ini w a k).trans ha) he
    words := (s.wordsKept_accessRecord ini w a k).quiet.raise e
    bytes := (BytesKept.of_mem (s.accessRecord_mem ini w a k)).raise e
    kind := (State.get_raise _ _ _ (by decide)).trans hkind
    write := (State.flag_raise _ _ _ (by decide)).trans hwrite
    ini := (State.get_raise _ _ _ (by decide)).trans hini
    addr := (State.get_raise _ _ _ (by decide)).trans haddr }

theorem State.accessFault_refused (s : State) (ini : Ini) (w : Bool) (a : Nat) (ha : s.alive = true) :
    Refused Ev.ACCESS_FAULT 0 ini w a s (s.accessFault ini w a) :=
  s.refused_raise Ev.ACCESS_FAULT 0 ini w a ha (by decide) (by decide)

theorem State.accessDisabled_refused (s : State) (ini : Ini) (a : Nat) (ha : s.alive = true) :
    Refused Ev.ACCESS_DISABLED 1 ini true a s (s.accessDisabled ini a) :=
  s.refused_raise Ev.ACCESS_DISABLED 1 ini true a ha (by decide) (by decide)

theorem State.accessFault_pending (s : State) (ini : Ini) (w : Bool) (a : Nat) :
    (s.accessFault ini w a).pending = s.pending := by
  simp [State.accessFault, State.accessRecord]

/-- A refused access changes no field of the state that the obligations on it name. -/
theorem State.accessDisabled_fields (s : State) (ini : Ini) (a : Nat) :
    (s.accessDisabled ini a).can = s.can ∧ (s.accessDisabled ini a).pmp = s.pmp ∧ (s.accessDisabled ini a).hst = s.hst ∧
    (s.accessDisabled ini a).est = s.est ∧ (s.accessDisabled ini a).pending = s.pending := by
  simp [State.accessDisabled, State.accessRecord]

theorem State.alive_of_busUp {s : State} (h : s.busUp = true) : s.alive = true := by
  simp only [State.busUp, Bool.and_eq_true] at h
  exact h.1

/-- The page is not on this build: the write takes the ACCESS_DISABLED path (R3). -/
theorem State.onPage_off (s : State) (ini : Ini) (a : Nat) (f : State → State) (h : s.pageOn (pageOf a) = false) :
    s.onPage ini a f = s.accessDisabled ini a := by
  simp [State.onPage, h]

theorem State.onPage_on (s : State) (ini : Ini) (a : Nat) (f : State → State) (h : s.pageOn (pageOf a) = true) :
    s.onPage ini a f = f s := by
  simp [State.onPage, h]

/-- A page that only the full build has is off on the other one. -/
theorem State.pageOn_off {s : State} {p : Nat} (hf : s.full = false) (hp : pageF p = true) : s.pageOn p = false := by
  simp [State.pageOn, hf, hp]

end Sys2Proof.Machine
end

section
/-!
The pages that the AEV4848F does not have (R3).
-/
namespace Sys2Proof.Machine

theorem pageF_of_mem {p : Nat} (h : p ∈ [12, 27, 18, 23, 24, 25]) : pageF p = true := by
  simp only [List.mem_cons, List.not_mem_nil, or_false] at h
  rcases h with rfl | rfl | rfl | rfl | rfl | rfl <;> rfl

/-- The pages of CAN2 to CAN4 are of the full build alone. -/
theorem pageF_can (ch : Fin 4) (h : ch.val ≠ 0) (off : Nat) (ho : off < 0x1000) :
    pageF (pageOf (0x40016000 + off + ch.val * 4096)) = true := by
  have hp : pageOf (0x40016000 + off + ch.val * 4096) = 22 + ch.val := by
    unfold pageOf
    split <;> omega
  rw [hp]
  exact (by decide : ∀ c : Fin 4, c.val ≠ 0 → pageF (22 + c.val) = true) ch h

theorem State.regRead_off {s : State} {a : Nat} (h : s.pageOn (pageOf a) = false) : s.regRead a = 0 := by
  simp [State.regRead, h]

theorem State.regWrite_off {s : State} {a : Nat} (ini : Ini) (v : Word) (h : s.pageOn (pageOf a) = false) :
    s.regWrite ini a v = s.accessDisabled ini a := by
  unfold State.regWrite
  exact s.onPage_off ini a _ h

/-- An address whose page is not 0 lies in the register pages. -/
theorem addr_of_pageOf_ne {a : Nat} (h : pageOf a ≠ 0) : 0x40000000 ≤ a ∧ a < 0x40020000 := by
  by_contra hn
  exact h (if_neg hn)

/-- A word write to a register page that answers. -/
theorem exec_registerWrite (ini : Ini) (a : Nat) (v : Word) (s : State) (hb : s.busUp = true) (h0 : 0x40000000 ≤ a)
    (h1 : a < 0x40020000) (h4 : a % 4 = 0) : exec (.registerWrite ini a v) s = .next (s.regWrite ini a v) := by
  show execRegisterWrite ini a v s = _
  unfold execRegisterWrite
  rw [if_neg (by simp [hb]; omega), if_neg (by simp [h4])]

/-- Every command of the pump and of CAN2 to CAN4 is refused on the AEV4848F. -/
theorem exec_disabled (ini : Ini) (ch : Fin 4) (b : Bool) (n : Nat) (s : State) (hf : s.full = false) (hch : ch.val ≠ 0)
    (c : Instr) (hc : c ∈ [Instr.pumpStart ini, .pumpStop ini, .pumpSetpointWrite ini n, .canInitWrite ini ch b,
        .canLomWrite ini ch b, .canAbdStart ini ch, .objectReq ini ch, .objectCancel ini ch, .objectAck ini ch,
        .fifoPush ini, .fifoClear ini]) :
    ∃ a, exec c s = .next (s.accessDisabled ini a) := by
  have off : ∀ a f, pageF (pageOf a) = true →
      ∃ a', Host.Outcome.next (s.onPage ini a f) = (.next (s.accessDisabled ini a') : Result) :=
    fun a f h => ⟨a, congrArg _ (s.onPage_off ini a f (State.pageOn_off hf h))⟩
  simp only [List.mem_cons, List.not_mem_nil, or_false] at hc
  rcases hc with rfl | rfl | rfl | rfl | rfl | rfl | rfl | rfl | rfl | rfl | rfl
  · exact off Reg.PMP_CTRL _ (by decide)
  · exact off Reg.PMP_CTRL _ (by decide)
  · exact off Reg.PMP_SETP _ (by decide)
  · exact off (Reg.CAN_CTRL_INIT.at ch.val).addr _ (pageF_can ch hch 0x008 (by decide))
  · exact off (Reg.CAN_CTRL_LOM.at ch.val).addr _ (pageF_can ch hch 0x008 (by decide))
  · exact off (Reg.CAN_CTRL_ABD.at ch.val).addr _ (pageF_can ch hch 0x008 (by decide))
  · exact off (Reg.CAN_OBJCMD_REQ.at ch.val).addr _ (pageF_can ch hch 0x070 (by decide))
  · exact off (Reg.CAN_OBJCMD_CANCEL.at ch.val).addr _ (pageF_can ch hch 0x070 (by decide))
  · exact off (Reg.CAN_OBJCMD_ACK.at ch.val).addr _ (pageF_can ch hch 0x070 (by decide))
  · exact off (Reg.CAN_CTRL_FIFOPUSH.at 3).addr _ (by decide)
  · exact off (Reg.CAN_CTRL_FIFOCLR.at 3).addr _ (by decide)

end Sys2Proof.Machine

open Sys2Proof Sys2Proof.Machine

/-- Settles O49: a read of such a page gives 0, and every write takes the ACCESS_DISABLED path, whose frame is that of a
refused access. -/
theorem disabledPagesReadZeroAndRefuse : Obligations.DisabledPagesReadZeroAndRefuse := by
  refine ⟨?_, ?_, ?_⟩
  · intro a s hf hp
    exact State.regRead_off (State.pageOn_off hf (pageF_of_mem hp))
  · intro ini a v s hf ha hp hb h4 hlt
    have hF := pageF_of_mem hp
    obtain ⟨h0, h1⟩ := addr_of_pageOf_ne (a := a) (by rintro h; rw [h] at hF; exact absurd hF (by decide))
    have hw : s.regWrite ini a v = s.accessDisabled ini a := State.regWrite_off ini v (State.pageOn_off hf hF)
    rw [exec_registerWrite ini a v s hb h0 h1 h4, hw]
    have hr := s.accessDisabled_refused ini a ha
    obtain ⟨hcan, hpmp, hhst, hest, hpend⟩ := s.accessDisabled_fields ini a
    exact .next ⟨hr.raised, hr.words, hr.bytes, hr.kind, hr.write, hr.ini, hr.addr.trans (Nat.mod_eq_of_lt hlt), hcan, hpmp,
      hhst, hest, hpend⟩
  · intro ini ch b n s hf ha hch c hc
    obtain ⟨a, hx⟩ := exec_disabled ini ch b n s hf hch c hc
    rw [hx]
    have hr := s.accessDisabled_refused ini a ha
    obtain ⟨hcan, hpmp, -, -, -⟩ := s.accessDisabled_fields ini a
    exact .next ⟨hr.raised, hr.words, hr.bytes, hcan, hpmp⟩

end

section
/-!
Narrow, unaligned and plain accesses to the register pages (R20, R22, R423).
-/
namespace Sys2Proof.Machine

/-- The registers, page and offset, whose word write is a command of its own; a CAN page's are not among them. -/
def commandRegisters : List (Nat × Nat) :=
  [(0, 0x040), (3, 0x044), (3, 0x048), (4, 0x050), (4, 0x064), (4, 0x068), (5, 0x040), (5, 0x044), (6, 0x008), (8, 0x008),
   (9, 0x05C), (9, 0x184), (10, 0x008), (10, 0x050), (10, 0x054), (11, 0x008), (12, 0x008), (12, 0x094), (12, 0x098),
   (13, 0x008), (13, 0x074), (14, 0x008), (14, 0x208), (15, 0x008), (16, 0x104), (16, 0x108), (17, 0x008), (17, 0x040),
   (18, 0x008), (18, 0x06C), (19, 0x008), (20, 0x008), (19, 0x044), (20, 0x044), (19, 0x050), (20, 0x050), (19, 0x064),
   (20, 0x064), (21, 0x008), (21, 0x040), (21, 0x054), (21, 0x058), (21, 0x05C), (21, 0x070), (27, 0x048), (27, 0x04C),
   (28, 0x058), (29, 0x008)]

/-- A register whose write is no command is written by its access codes. -/
theorem State.blockWrite_plain (s : State) (ini : Ini) (a : Nat) (v : Word) (hp : pageOf a < 22 ∨ 26 ≤ pageOf a)
    (hc : (pageOf a, a % 0x1000) ∉ commandRegisters) : s.blockWrite ini a v = s.plainWrite ini a v := by
  have hcan : ¬ (22 ≤ pageOf a ∧ pageOf a < 26) := by omega
  unfold State.blockWrite
  extract_lets +onlyGivenNames off n p
  split
  case h_49 => rw [if_neg hcan]
  all_goals
    rename_i hpage hoff
    rw [hpage, show a % 0x1000 = _ from hoff] at hc
    exact absurd (by decide) hc

/-- The plain write of a register that no lock holds (R20). -/
theorem State.plainWrite_of_row (s : State) (ini : Ini) (a : Nat) (v : Word) (r : RegRow)
    (hp : pageOf a < 22 ∨ 26 ≤ pageOf a) (hr : rowAt (pageOf a) (a % 0x1000) = some r)
    (hl : r.rwl = 0 ∨ s.flag (lockField (pageOf a)) = false) :
    s.plainWrite ini a v = s.setWord a (((s.word a &&& ~~~(BitVec.ofNat 32 (r.rw ||| r.rwl) &&& ~~~(s.fixedBits a))) |||
      (v &&& (BitVec.ofNat 32 (r.rw ||| r.rwl) &&& ~~~(s.fixedBits a)))) &&& ~~~(v &&& BitVec.ofNat 32 r.w1c)) := by
  have hlock : ¬ (r.rwl ≠ 0 ∧ s.flag (lockField (pageOf a)) = true) := by
    rintro ⟨hn, hf⟩
    rcases hl with h | h
    · exact hn h
    · exact absurd (hf.symm.trans h) (by decide)
  unfold State.plainWrite
  simp only [hr]
  rw [if_neg hlock, if_neg (by omega)]

/-- A word write to a block-specific register of a page that the build has. -/
theorem State.regWrite_block (s : State) (ini : Ini) (a : Nat) (v : Word) (hon : s.pageOn (pageOf a) = true)
    (hoff : a % 0x1000 < 0x840) (hev : a % 0x1000 ∉ [0x14, 0x18, 0x1C, 0x20]) :
    s.regWrite ini a v = s.blockWrite ini a v := by
  simp only [List.mem_cons, List.not_mem_nil, or_false, not_or] at hev
  obtain ⟨h14, h18, h1c, h20⟩ := hev
  unfold State.regWrite
  simp only []
  rw [s.onPage_on ini a _ hon, if_neg (by omega), if_neg h14, if_neg h18, if_neg h1c, if_neg h20]

/-- A word write of EVEN holds the bits that name an event (R419). -/
theorem State.regWrite_even (s : State) (ini : Ini) (a : Nat) (v : Word) (hon : s.pageOn (pageOf a) = true)
    (hoff : a % 0x1000 = 0x14) : s.regWrite ini a v = s.setWord a (v &&& eventMask (pageOf a)) := by
  unfold State.regWrite
  simp only []
  rw [s.onPage_on ini a _ hon, if_neg (by omega), if_pos hoff]

/-- A narrow or unaligned access to the register pages that answer is an access fault. -/
theorem exec_narrow (ini : Ini) (w : Bool) (a : Nat) (s : State) (hb : s.busUp = true) (h0 : 0x40000000 ≤ a)
    (h1 : a < 0x40020000) : exec (.narrowOrUnalignedAccess ini w a) s = .next (s.accessFault ini w a) := by
  show execNarrowOrUnalignedAccess ini w a s = _
  unfold execNarrowOrUnalignedAccess
  rw [if_neg (by simp [hb]; omega)]

/-- A word write at an unaligned address is the same fault. -/
theorem exec_registerWrite_unaligned (ini : Ini) (a : Nat) (v : Word) (s : State) (hb : s.busUp = true)
    (h0 : 0x40000000 ≤ a) (h1 : a < 0x40020000) (h4 : a % 4 ≠ 0) :
    exec (.registerWrite ini a v) s = .next (s.accessFault ini true a) := by
  show execRegisterWrite ini a v s = _
  unfold execRegisterWrite
  rw [if_neg (by simp [hb]; omega), if_pos h4]

/-- Outside the register pages, or while they do not answer, neither access has an effect. -/
theorem exec_access_unanswered (ini : Ini) (w : Bool) (a : Nat) (v : Word) (s : State)
    (h : s.busUp = false ∨ a < 0x40000000 ∨ 0x40020000 ≤ a) :
    exec (.narrowOrUnalignedAccess ini w a) s = .next s ∧ exec (.registerWrite ini a v) s = .next s := by
  have hc : (!s.busUp) = true ∨ a < 0x40000000 ∨ 0x40020000 ≤ a := by simpa using h
  exact ⟨if_pos hc, if_pos hc⟩

/-- An unaligned read of the register pages is an access fault and gives 0. -/
theorem State.busRead_unaligned (s : State) (ini : Ini) (a : Nat) (h0 : 0x40000000 ≤ a) (h1 : a < 0x40020000)
    (h4 : a % 4 ≠ 0) : s.busRead ini a = (s.accessFault ini false a, 0, false) := by
  unfold State.busRead
  rw [if_pos ⟨h0, h1⟩, if_pos h4]

end Sys2Proof.Machine

open Sys2Proof Sys2Proof.Machine

/-- Settles O50: an unaligned access is a refused access, and a plain write is one write of its own word. -/
theorem unalignedAccessFaults : Obligations.UnalignedAccessFaults := by
  refine ⟨?_, ?_, ?_, ?_, ?_⟩
  · intro ini w a s hb h0 h1
    rw [exec_narrow ini w a s hb h0 h1]
    have hr := s.accessFault_refused ini w a (State.alive_of_busUp hb)
    exact .next ⟨hr.raised, hr.words, hr.bytes, s.accessFault_pending ini w a, hr.kind, hr.write,
      hr.addr.trans (Nat.mod_eq_of_lt (by omega))⟩
  · intro ini a v s hb h0 h1 h4
    rw [exec_registerWrite_unaligned ini a v s hb h0 h1 h4, exec_narrow ini true a s hb h0 h1,
      s.busRead_unaligned ini a h0 h1 h4]
    exact ⟨rfl, .next _, rfl, rfl, (s.accessFault_refused ini false a (State.alive_of_busUp hb)).raised⟩
  · intro ini w a v s h
    exact exec_access_unanswered ini w a v s h
  · intro ini a v s hb h0 h1 h4 hon hoff
    rw [exec_registerWrite ini a v s hb h0 h1 h4, s.regWrite_even ini a v hon hoff]
  · intro ini a v r s hb h0 h1 h4 hon hoff hev hp hc hr hl
    rw [exec_registerWrite ini a v s hb h0 h1 h4, s.regWrite_block ini a v hon hoff hev, s.blockWrite_plain ini a v hp hc,
      s.plainWrite_of_row ini a v r hp hr hl]
    exact .next ⟨State.word_setWord_self _ _ _, (WordsKept.refl _ s).setWord (List.mem_singleton.2 rfl) _, rfl⟩

end

section
/-!
The pump commands (R291, R298): what a write of `PMP.STAT` leaves, and the cases of the sequence's settling.
-/
namespace Sys2Proof.Machine

variable {s t : State}

/-- A change of `PMP.STAT` alone leaves the target speed and the least speed of the observer. -/
theorem WordsKept.pmpTarget (h : WordsKept [Reg.PMP_STAT] s t) : t.pmpTarget = s.pmpTarget := by
  unfold State.pmpTarget State.pmpNmax State.flag
  rw [h.get Reg.THM_COOLCFG_AUTO (by decide), h.get Reg.THM_COOLDMD_DEMAND (by decide),
    h.get Reg.PMP_SETP_DEMAND (by decide), h.get Reg.PMP_SPEED_NMAX (by decide)]

theorem WordsKept.pmpObsmin (h : WordsKept [Reg.PMP_STAT] s t) : t.pmpObsmin = s.pmpObsmin := h.get _ (by decide)

/-- A state of the sequence is entered: `STATE` shows it, its waits start, and only `PMP.STAT` changes. -/
theorem State.pmpEnter_facts (s : State) (st : Nat) (h : st < 16) :
    (s.pmpEnter st).pmpState = st ∧ (s.pmpEnter st).flag Reg.PMP_STAT_ARMED = s.flag Reg.PMP_STAT_ARMED ∧
    (s.pmpEnter st).pmp.since = s.now ∧ WordsKept [Reg.PMP_STAT] s (s.pmpEnter st) ∧ (s.pmpEnter st).mem = s.mem :=
  ⟨(State.get_put_self _ _ _ (by decide)).trans (Nat.mod_eq_of_lt h), State.flag_put_apart _ _ _ _ (by decide), rfl,
    ((WordsKept.refl _ s).of_regs rfl).put (by decide) _, rfl⟩

/-- Arming or disarming the drive changes the flag alone. -/
theorem State.putArmed_facts (s : State) (b : Bool) :
    (s.putB Reg.PMP_STAT_ARMED b).flag Reg.PMP_STAT_ARMED = b ∧ (s.putB Reg.PMP_STAT_ARMED b).pmpState = s.pmpState ∧
    WordsKept [Reg.PMP_STAT] s (s.putB Reg.PMP_STAT_ARMED b) :=
  ⟨State.flag_putB_self _ _ _ (by decide) (by decide), State.get_putB_apart _ _ _ _ (by decide),
    (WordsKept.refl _ s).putB (by decide) _⟩

/-- OFF is left for LISTEN when the drive is armed, its gate supply holds and the target calls for it. -/
theorem State.pmpSettle_listen (h0 : s.pmpState = 0) (ha : s.flag Reg.PMP_STAT_ARMED = true) (hg : s.pmp.gateBad = false)
    (ht : (5 * s.pmpObsmin : Nat) ≤ 4 * s.pmpTarget) : s.pmpSettle = s.pmpEnter 1 :=
  if_pos ⟨h0, ha, by simp [hg], ht⟩

/-- An OFF drive that is not armed, has no gate supply or no call of its target stays OFF. -/
theorem State.pmpSettle_off (h0 : s.pmpState = 0)
    (h : s.flag Reg.PMP_STAT_ARMED = false ∨ 4 * s.pmpTarget < (5 * s.pmpObsmin : Nat) ∨ s.pmp.gateBad = true) :
    s.pmpSettle = s := by
  have hstay : ¬ (s.pmpState = 0 ∧ s.flag Reg.PMP_STAT_ARMED = true ∧ ¬ s.pmp.gateBad = true ∧
      (5 * s.pmpObsmin : Nat) ≤ 4 * s.pmpTarget) := by
    rintro ⟨-, ha, hg, ht⟩
    rcases h with h | h | h
    · exact absurd (ha.symm.trans h) (by decide)
    · exact absurd ht (not_le.2 h)
    · exact hg h
  have hrun : ¬ (s.pmpState = 5 ∧ s.pmpStopDue = true) := by
    rintro ⟨h5, -⟩
    omega
  unfold State.pmpSettle
  rw [if_neg hstay, if_neg hrun]

/-- A disarmed drive in RUN enters STOPPING; in every other state it stays. -/
theorem State.pmpSettle_disarmed (ha : s.flag Reg.PMP_STAT_ARMED = false) :
    s.pmpSettle = if s.pmpState = 5 then s.pmpEnter 7 else s := by
  have hd : s.pmpStopDue = true := by simp [State.pmpStopDue, ha]
  unfold State.pmpSettle
  simp [ha, hd]

/-- A start command on the lead whose drive is OFF arms it and settles. -/
theorem State.pmpStart_off (hl : s.isLead = true) (h0 : s.pmpState = 0) :
    s.pmpStart = (s.putB Reg.PMP_STAT_ARMED true).pmpSettle := by
  obtain ⟨-, hst, -⟩ := s.putArmed_facts true
  have h9 : ¬ (s.putB Reg.PMP_STAT_ARMED true).pmpState = 9 := by omega
  unfold State.pmpStart
  simp only [hl, if_true, if_neg h9]

/-- A start command that the target answers: armed and in LISTEN. -/
theorem State.pmpStart_listen (hl : s.isLead = true) (h0 : s.pmpState = 0) (hg : s.pmp.gateBad = false)
    (ht : (5 * s.pmpObsmin : Nat) ≤ 4 * s.pmpTarget) :
    s.pmpStart.flag Reg.PMP_STAT_ARMED = true ∧ s.pmpStart.pmpState = 1 ∧ s.pmpStart.pmp.since = s.now ∧
    WordsKept [Reg.PMP_STAT] s s.pmpStart ∧ s.pmpStart.mem = s.mem := by
  obtain ⟨harm, hst, hw⟩ := s.putArmed_facts true
  have hx : s.pmpStart = (s.putB Reg.PMP_STAT_ARMED true).pmpEnter 1 :=
    (State.pmpStart_off hl h0).trans (State.pmpSettle_listen (hst.trans h0) harm hg (by rwa [hw.pmpObsmin, hw.pmpTarget]))
  obtain ⟨h1, h2, h3, h4, h5⟩ := (s.putB Reg.PMP_STAT_ARMED true).pmpEnter_facts 1 (by decide)
  rw [hx]
  exact ⟨h2.trans harm, h1, h3, hw.trans h4, h5⟩

/-- A start command that the target or the gate supply does not answer: armed and OFF. -/
theorem State.pmpStart_stays (hl : s.isLead = true) (h0 : s.pmpState = 0)
    (h : 4 * s.pmpTarget < (5 * s.pmpObsmin : Nat) ∨ s.pmp.gateBad = true) :
    s.pmpStart = s.putB Reg.PMP_STAT_ARMED true := by
  obtain ⟨-, hst, hw⟩ := s.putArmed_facts true
  refine (State.pmpStart_off hl h0).trans (State.pmpSettle_off (hst.trans h0) (.inr ?_))
  rwa [hw.pmpObsmin, hw.pmpTarget]

/-- A stop command disarms; in RUN the drive enters STOPPING. -/
theorem State.pmpStop_facts (s : State) :
    s.pmpStop.flag Reg.PMP_STAT_ARMED = false ∧ s.pmpStop.pmpState = (if s.pmpState = 5 then 7 else s.pmpState) ∧
    WordsKept [Reg.PMP_STAT] s s.pmpStop ∧ s.pmpStop.mem = s.mem := by
  obtain ⟨harm, hst, hw⟩ := s.putArmed_facts false
  have hx : s.pmpStop = if s.pmpState = 5 then (s.putB Reg.PMP_STAT_ARMED false).pmpEnter 7
      else s.putB Reg.PMP_STAT_ARMED false := by
    rw [State.pmpStop, State.pmpSettle_disarmed harm, hst]
  obtain ⟨h1, h2, -, h4, h5⟩ := (s.putB Reg.PMP_STAT_ARMED false).pmpEnter_facts 7 (by decide)
  rw [hx]
  split
  · exact ⟨h2.trans harm, h1, hw.trans h4, h5⟩
  · exact ⟨harm, hst, hw, rfl⟩

/-- A setpoint written to an OFF drive that is not armed is held and starts nothing. -/
theorem State.pmpSetpoint_off (s : State) (d : Nat) (h0 : s.pmpState = 0) (ha : s.flag Reg.PMP_STAT_ARMED = false) :
    (s.put Reg.PMP_SETP_DEMAND d).pmpSettle = s.put Reg.PMP_SETP_DEMAND d :=
  State.pmpSettle_off ((State.get_put_apart _ _ _ _ (by decide)).trans h0)
    (.inl ((State.flag_put_apart _ _ _ _ (by decide)).trans ha))

theorem exec_pumpStart (ini : Ini) (h : s.pageOn (pageOf Reg.PMP_CTRL) = true) :
    exec (.pumpStart ini) s = .next s.pmpStart := congrArg _ (s.onPage_on ini _ _ h)

theorem exec_pumpStop (ini : Ini) (h : s.pageOn (pageOf Reg.PMP_CTRL) = true) :
    exec (.pumpStop ini) s = .next s.pmpStop := congrArg _ (s.onPage_on ini _ _ h)

theorem exec_pumpSetpointWrite (ini : Ini) (d : Nat) (h : s.pageOn (pageOf Reg.PMP_SETP) = true) :
    exec (.pumpSetpointWrite ini d) s = .next (s.put Reg.PMP_SETP_DEMAND d).pmpSettle := congrArg _ (s.onPage_on ini _ _ h)

end Sys2Proof.Machine

open Sys2Proof Sys2Proof.Machine

/-- Settles O33, command by command: a start in its cases, a stop, and a setpoint. -/
theorem pumpCommands : Obligations.PumpCommands := by
  refine ⟨?_, ?_, ?_, ?_, ?_, ?_, ?_⟩
  · intro ini d s h
    exact ⟨congrArg _ (s.onPage_off ini _ _ h), congrArg _ (s.onPage_off ini _ _ h),
      congrArg _ (s.onPage_off ini Reg.PMP_SETP _ h)⟩
  · intro ini s hon hl
    rw [exec_pumpStart ini hon]
    simp [State.pmpStart, hl]
  · intro ini s hon hl h0 hg ht
    rw [exec_pumpStart ini hon]
    exact .next (State.pmpStart_listen hl h0 hg ht)
  · intro ini s hon hl h0 h
    obtain ⟨harm, hst, hw⟩ := s.putArmed_facts true
    rw [exec_pumpStart ini hon, State.pmpStart_stays hl h0 h]
    exact .next ⟨harm, hst.trans h0, rfl, hw, rfl⟩
  · intro ini s hon
    rw [exec_pumpStop ini hon]
    exact .next s.pmpStop_facts
  · intro ini d s hon h0 ha
    rw [exec_pumpSetpointWrite ini d hon, s.pmpSetpoint_off d h0 ha]
    exact .next ⟨State.get_put_self _ _ _ (by decide), (State.get_put_apart _ _ _ _ (by decide)).trans h0, rfl,
      (WordsKept.refl _ s).put (by decide) _, rfl⟩
  · intro ini d s hon
    exact exec_pumpSetpointWrite ini d hon

end

section
/-!
Staging (R59 to R62): the staging words of the pages, the end of a pending commit, and the cases of a staged write.
-/
namespace Sys2Proof.Machine

variable {l : List Nat} {s t u : State}

/-! ### The staging words -/

/-- The staging state of a page is a field of its own word, apart from every other register. -/
theorem stgstatAddr_ne {a : Nat} (h : a % 0x1000 ≠ 0x24) (q : Nat) : stgstatAddr q ≠ a := by
  simp only [stgstatAddr, pageBase]
  omega

theorem quiet_stgstatAddr (q : Nat) : quiet (stgstatAddr q) = true := by
  simp only [quiet, stgstatAddr, pageBase, Bool.and_eq_true, bne_iff_ne, Reg.BBX_RECPTR, Reg.BBX_RECNUM, Reg.BBX_DROPS]
  omega

theorem State.get_stgField_setWord (s : State) (q a : Nat) (w : Word) (h : a % 0x1000 ≠ 0x24) :
    (s.setWord a w).get (stgField q) = s.get (stgField q) :=
  State.get_setWord_ne _ _ _ _ (stgstatAddr_ne h q)

theorem State.get_stgField_put_self (s : State) (p v : Nat) : (s.put (stgField p) v).get (stgField p) = v % 8 :=
  State.get_put_self _ _ _ (by decide : 0 + 3 ≤ 32)

theorem State.get_stgField_put_ne (s : State) (p q v : Nat) (h : q ≠ p) :
    (s.put (stgField p) v).get (stgField q) = s.get (stgField q) :=
  State.get_setWord_ne _ _ _ _ (by simp only [stgField, stgstatAddr, pageBase]; omega)

/-- The words of the pages' staging states. -/
def stagingWords : List Nat := (List.range 32).map stgstatAddr

theorem stgstatAddr_mem {q : Nat} (h : q < 32) : stgstatAddr q ∈ stagingWords :=
  List.mem_map.2 ⟨q, List.mem_range.2 h, rfl⟩

theorem not_mem_stagingWords {a : Nat} (h : a % 0x1000 ≠ 0x24) : a ∉ stagingWords := by
  intro ha
  obtain ⟨q, -, hq⟩ := List.mem_map.1 ha
  exact stgstatAddr_ne h q hq

/-! ### The staging state of every page of a mask -/

/-- Setting the staging states changes register words alone. -/
theorem State.stageMask_only (s : State) (mask st : Nat) : ∃ r, s.stageMask mask st = { s with regs := r } := by
  unfold State.stageMask
  induction List.range 32 using List.reverseRecOn with
  | nil => exact ⟨s.regs, rfl⟩
  | append_singleton ps p ih =>
    obtain ⟨r, hr⟩ := ih
    rw [List.foldl_append, hr]
    simp only [List.foldl_cons, List.foldl_nil]
    split
    · exact ⟨_, rfl⟩
    · exact ⟨r, rfl⟩

theorem WordsKept.stageMask (h : WordsKept l s t) (hl : stagingWords ⊆ l) (mask st : Nat) :
    WordsKept l s (t.stageMask mask st) := by
  unfold State.stageMask
  have hps : ∀ p ∈ List.range 32, stgstatAddr p ∈ l := fun p hp => hl (stgstatAddr_mem (List.mem_range.1 hp))
  generalize List.range 32 = pages at hps ⊢
  induction pages generalizing t with
  | nil => exact h
  | cons p ps ih =>
    rw [List.foldl_cons]
    refine ih ?_ fun q hq => hps q (.tail _ hq)
    split
    · exact h.put (hps p (.head _)) _
    · exact h

/-- The pages of the mask show the state, the others what they showed. -/
theorem State.get_stgField_stageMask (s : State) (mask st q : Nat) (hq : q < 32) :
    (s.stageMask mask st).get (stgField q) = if mask.testBit q then st % 8 else s.get (stgField q) := by
  have key : ∀ n, ((List.range n).foldl (fun s p => if mask.testBit p then s.put (stgField p) st else s) s).get (stgField q) =
      if q < n ∧ mask.testBit q = true then st % 8 else s.get (stgField q) := by
    intro n
    induction n with
    | zero => simp
    | succ n ih =>
      rw [List.range_succ, List.foldl_append, List.foldl_cons, List.foldl_nil]
      by_cases hqn : q = n
      · subst hqn
        by_cases hm : mask.testBit q = true
        · rw [if_pos hm, State.get_stgField_put_self, if_pos ⟨by omega, hm⟩]
        · rw [if_neg hm, ih, if_neg (fun h => hm h.2), if_neg (fun h => hm h.2)]
      · have hlt : q < n + 1 ↔ q < n := by omega
        split
        · rw [State.get_stgField_put_ne _ _ _ _ hqn, ih]
          simp only [hlt]
        · rw [ih]
          simp only [hlt]
  rw [State.stageMask, key 32]
  simp only [hq, true_and]

/-- What setting the staging states leaves. -/
theorem State.stageMask_facts (s : State) (mask st : Nat) :
    WordsKept stagingWords s (s.stageMask mask st) ∧
    (∀ q : Fin 32, (s.stageMask mask st).get (stgField q) = if mask.testBit q then st % 8 else s.get (stgField q)) ∧
    (s.stageMask mask st).stg = s.stg ∧ (s.stageMask mask st).mem = s.mem ∧ (s.stageMask mask st).csc = s.csc ∧
    (s.stageMask mask st).power = s.power := by
  obtain ⟨r, hr⟩ := s.stageMask_only mask st
  refine ⟨(WordsKept.refl _ s).stageMask (List.Subset.refl _) _ _, fun q => s.get_stgField_stageMask _ _ _ q.isLt, ?_⟩
  rw [hr]
  exact ⟨rfl, rfl, rfl, rfl⟩

/-- A write of another register than a staging word leaves the staging states. -/
theorem WordsKept.get_stgField (h : WordsKept l s t) (hl : ∀ a ∈ l, a % 0x1000 ≠ 0x24) (q : Nat) :
    t.get (stgField q) = s.get (stgField q) :=
  h.get (stgField q) fun hq => stgstatAddr_ne (hl _ hq) q rfl

/-! ### The end of a pending commit -/

/-- A pending commit with a mask has ended without applying anything: nothing is armed, `STG.STAT.STATE` shows how, the
masked pages are EDITED again, and the event is raised; `l` lists the other words that may have changed. -/
structure CommitEnded (st : Nat) (e : Event) (l : List Nat) (s t : State) : Prop where
  stg : t.stg = { digests := s.stg.digests }
  state : t.get Reg.STG_STAT_STATE = st
  pages : ∀ q : Fin 32, t.get (stgField q) = if s.stg.mask.testBit q then 1 else s.get (stgField q)
  raised : t.raised e = true
  bytes : BytesKept s t
  words : QuietWordsKept (l ++ stagingWords) s t

@[simp] theorem State.stgEnd_csc (s : State) (st : Nat) : (s.stgEnd st).csc = s.csc := rfl

@[simp] theorem State.stageMask_csc (s : State) (mask st : Nat) : (s.stageMask mask st).csc = s.csc := by
  obtain ⟨-, -, -, -, h, -⟩ := s.stageMask_facts mask st
  exact h

/-- `STG.STAT` as the end of a commit leaves it. -/
theorem State.stgEnd_facts (s : State) (st : Nat) (h : st < 8) :
    (s.stgEnd st).stg = { digests := s.stg.digests } ∧ (s.stgEnd st).get Reg.STG_STAT_STATE = st ∧
    (∀ q, (s.stgEnd st).get (stgField q) = s.get (stgField q)) ∧ WordsKept [Reg.STG_STAT] s (s.stgEnd st) ∧
    (s.stgEnd st).mem = s.mem ∧ (s.stgEnd st).power = s.power := by
  have hst : (s.stgEnd st).get Reg.STG_STAT_STATE = st % 2 ^ 3 := by
    unfold State.stgEnd
    simp (disch := decide) only [State.get_put_apart, State.get_putB_apart]
    exact State.get_put_self _ _ _ (by decide)
  have hw : WordsKept [Reg.STG_STAT] s (s.stgEnd st) :=
    ((((WordsKept.refl _ s).of_regs rfl).put (by decide) _).putB (by decide) _).put (by decide) _
  exact ⟨rfl, hst.trans (Nat.mod_eq_of_lt h), hw.get_stgField (by decide), hw, rfl, rfl⟩

/-- The masked pages return to EDITED, the commit ends and its event is raised. -/
theorem State.commitEnded (s : State) (st : Nat) (e : Event) (hst : st < 8) (ha : s.alive = true) (he : e.bit < 32) :
    CommitEnded st e [Reg.STG_STAT] s (((s.stageMask s.stg.mask 1).stgEnd st).raise e) := by
  obtain ⟨hmw, hmq, hms, hmm, -, hmp⟩ := s.stageMask_facts s.stg.mask 1
  generalize s.stageMask s.stg.mask 1 = m at hmw hmq hms hmm hmp ⊢
  obtain ⟨hstg, hstate, hpage, hw, hm, hpow⟩ := m.stgEnd_facts st hst
  generalize m.stgEnd st = n at hstg hstate hpage hw hm hpow ⊢
  exact {
    stg := by rw [State.raise_stg, hstg, hms]
    state := (State.get_raise n e Reg.STG_STAT_STATE (by decide)).trans hstate
    pages := fun q => (State.get_raise n e (stgField q) (quiet_stgstatAddr q)).trans ((hpage q).trans (hmq q))
    raised := State.raised_raise _ e (by rw [State.alive, hpow, hmp]; exact ha) he
    bytes := (BytesKept.of_mem (hm.trans hmm)).raise e
    words := (hmw.append hw).quiet.raise e }

/-- What the end of a commit says of a state `u` it says of every state `s` with the same commit, memory and words, but for
words that are listed and are no staging words. -/
theorem CommitEnded.of_words {st : Nat} {e : Event} {l' : List Nat} (h : CommitEnded st e l u t)
    (hstg : u.stg = s.stg) (hm : u.mem = s.mem) (hw : WordsKept l' s u) (hs : ∀ a ∈ l', a % 0x1000 ≠ 0x24) :
    CommitEnded st e (l ++ l') s t where
  stg := by rw [h.stg, hstg]
  state := h.state
  pages := fun q => by
    rw [h.pages q, hstg, hw.get_stgField hs]
  raised := h.raised
  bytes := fun a ha => (h.bytes a ha).trans (State.byte_congr hm a)
  words := fun a hq hn => by
    simp only [List.mem_append, not_or] at hn
    obtain ⟨⟨hl, hl'⟩, hp⟩ := hn
    rw [h.words a hq (by simp [hl, hp]), hw a hl']

/-- The disarm that the lead sends with the end of a cascade commit changes the link's queue alone. -/
theorem State.sendDisarm_only (s : State) : ∃ x,
    (if s.isLead = true ∧ s.stg.cascade = true then s.send .disarm 8 s.stg.mask 0 else s) = { s with csc := x } ∧
    (s.stg.cascade = false → x = s.csc) := by
  split
  next h => exact ⟨_, rfl, fun hn => absurd (h.2.symm.trans hn) (by decide)⟩
  next => exact ⟨s.csc, rfl, fun _ => rfl⟩

theorem State.stgCancel_idle (h : s.stg.armed = false) : s.stgCancel = s := if_pos (by simp [h])

/-- A pending commit that is cancelled ends with STG_DISARMED, on the link as well when the lead cancels a cascade commit. -/
theorem State.stgCancel_ended (ha : s.alive = true) (h : s.stg.armed = true) :
    CommitEnded 0 Ev.STG_DISARMED [Reg.STG_STAT] s s.stgCancel ∧ (s.stg.cascade = false → s.stgCancel.csc = s.csc) := by
  obtain ⟨x, hx, hcsc⟩ := s.sendDisarm_only
  unfold State.stgCancel
  rw [if_neg (by simp [h])]
  simp only [hx]
  refine ⟨?_, fun hn => ?_⟩
  · exact (State.commitEnded { s with csc := x } 0 Ev.STG_DISARMED (by decide) ha (by decide)).of_words (l' := [])
      rfl rfl ((WordsKept.refl _ s).of_regs rfl) (by simp)
  · rw [State.raise_csc, State.stgEnd_csc, State.stageMask_csc]
    exact hcsc hn

/-- The same, as the answer of the commands that cancel. -/
theorem State.gives_stgCancel (ha : s.alive = true) (h : s.stg.armed = true) : Gives (.next s.stgCancel) fun t =>
    t.stg = { digests := s.stg.digests } ∧ t.get Reg.STG_STAT_STATE = 0 ∧
    (∀ q : Fin 32, t.get (stgField q) = if s.stg.mask.testBit q then 1 else s.get (stgField q)) ∧
    t.raised Ev.STG_DISARMED = true ∧ BytesKept s t ∧ QuietWordsKept (Reg.STG_STAT :: stagingWords) s t ∧
    (s.stg.cascade = false → t.csc = s.csc) := by
  obtain ⟨he, hc⟩ := State.stgCancel_ended ha h
  exact .next ⟨he.stg, he.state, he.pages, he.raised, he.bytes, he.words, hc⟩

theorem State.dropRemote_remote (h : s.stg.remote = true) : s.dropRemote = s.stgCancel := if_pos h

end Sys2Proof.Machine
end

section
/-!
The staging commands (R59 to R62): a staged write, an arm, and the outcome of the device's own check.
-/
namespace Sys2Proof.Machine

variable {s : State}

/-! ### Staged writes -/

theorem stagedOf_off {a r : Nat} (h : stagedOf a = some r) : 0x840 ≤ a % 0x1000 := by
  unfold stagedOf at h
  split at h
  · exact absurd h (by simp)
  · omega

/-- An edit of a page that no pending commit masks shows EDITED where the page was in SYNC. -/
theorem State.stagedEdit_facts (s : State) (p : Nat) (h : s.armedPage p = false) :
    (s.stagedEdit p).get (stgField p) = (if s.get (stgField p) = 0 then 1 else s.get (stgField p)) ∧
    WordsKept [stgstatAddr p] s (s.stagedEdit p) ∧ (s.stagedEdit p).mem = s.mem ∧ (s.stagedEdit p).stg = s.stg := by
  unfold State.stagedEdit
  rw [if_neg (by simp [h])]
  split
  · exact ⟨s.get_stgField_put_self p 1, (WordsKept.refl _ s).put (f := stgField p) (.head _) _, rfl, rfl⟩
  · exact ⟨rfl, WordsKept.refl _ s, rfl, rfl⟩

/-- The bits that a write of the staged copy at `a` of the register `r` cannot change. -/
def State.stagedKeep (s : State) (a r : Nat) : Word :=
  s.fixedBits a ||| ~~~(BitVec.ofNat 32 ((rowOf (pageOf r) (r % 0x1000)).elim 0 (·.rws)))

/-- A staged write without a writable bit of the build has no effect. -/
theorem State.stagedWrite_fixed (ini : Ini) {a r : Nat} (v : Word) (h : stagedOf a = some r)
    (hk : s.stagedKeep a r = 0xFFFFFFFF#32) : s.stagedWrite ini a v = s := by
  unfold State.stagedWrite
  simp only [h]
  exact if_pos hk

/-- Any other staged write changes the writable bits and edits the page. -/
theorem State.stagedWrite_copy (ini : Ini) {a r : Nat} (v : Word) (h : stagedOf a = some r)
    (hk : s.stagedKeep a r ≠ 0xFFFFFFFF#32) : s.stagedWrite ini a v =
      (s.setWord a ((s.word a &&& s.stagedKeep a r) ||| (v &&& ~~~(s.stagedKeep a r)))).stagedEdit (pageOf a) := by
  unfold State.stagedWrite
  simp only [h]
  exact if_neg hk

theorem State.stagedWrite_none (ini : Ini) {a : Nat} (v : Word) (h : stagedOf a = none) :
    s.stagedWrite ini a v = if a % 4 ≠ 0 then s.accessFault ini true a else s := by
  unfold State.stagedWrite
  simp only [h]

/-- What a staged write with a writable bit leaves. -/
theorem State.stagedWrite_facts (ini : Ini) {a r : Nat} (v : Word) (h : stagedOf a = some r)
    (hk : s.stagedKeep a r ≠ 0xFFFFFFFF#32) (hp : s.armedPage (pageOf a) = false) :
    (s.stagedWrite ini a v).word a = (s.word a &&& s.stagedKeep a r) ||| (v &&& ~~~(s.stagedKeep a r)) ∧
    (s.stagedWrite ini a v).get (stgField (pageOf a)) =
      (if s.get (stgField (pageOf a)) = 0 then 1 else s.get (stgField (pageOf a))) ∧
    WordsKept [a, stgstatAddr (pageOf a)] s (s.stagedWrite ini a v) ∧ (s.stagedWrite ini a v).mem = s.mem ∧
    (s.stagedWrite ini a v).stg = s.stg := by
  have hoff := stagedOf_off h
  have hne := stgstatAddr_ne (a := a) (by omega) (pageOf a)
  rw [State.stagedWrite_copy ini v h hk]
  generalize (s.word a &&& s.stagedKeep a r) ||| (v &&& ~~~(s.stagedKeep a r)) = w
  have hget := s.get_stgField_setWord (pageOf a) a w (by omega)
  have hword := s.word_setWord_self a w
  have hrest := (WordsKept.refl [a] s).setWord (.head _) w
  obtain ⟨hst, hw, hm, hg⟩ := (s.setWord a w).stagedEdit_facts (pageOf a) hp
  rw [hget] at hst
  refine ⟨(hw a fun hm => hne (List.mem_singleton.1 hm).symm).trans hword, hst, fun b hb => ?_, hm, hg⟩
  simp only [List.mem_cons, List.not_mem_nil, or_false, not_or] at hb
  exact (hw b (by simp [hb.2])).trans (hrest b (by simp [hb.1]))

/-! ### Arming -/

theorem State.stgArm_follower (ini : Ini) (p : Nat) (h : s.isLead = false) :
    s.stgArm ini p true = s.accessFault ini true Reg.STG_CMD := if_pos ⟨rfl, by simp [h]⟩

theorem State.stgArm_busy (ini : Ini) (p : Nat) (c : Bool) (hc : c = false ∨ s.isLead = true) (h : s.stg.armed = true) :
    s.stgArm ini p c = s.raise Ev.STG_BUSY := by
  unfold State.stgArm
  rw [if_neg (by rcases hc with hc | hc <;> simp [hc]), if_pos h]

/-- Packets to the followers change the link's queue alone. -/
theorem State.foldl_send_only (f : State → Nat → State) (hf : ∀ s d, ∃ c, f s d = { s with csc := c }) (ds : List Nat)
    (s : State) : ∃ c, ds.foldl f s = { s with csc := c } := by
  induction ds generalizing s with
  | nil => exact ⟨s.csc, rfl⟩
  | cons d ds ih =>
    obtain ⟨c, hc⟩ := hf s d
    rw [List.foldl_cons, hc]
    exact ih _

/-- An arm that is taken begins the commit; a cascade commit's arm goes to the followers. -/
theorem State.stgArm_begins (ini : Ini) (p : Nat) (c : Bool) (hc : c = false ∨ s.isLead = true)
    (h : s.stg.armed = false) : ∃ x,
      s.stgArm ini p c = { s.stgBegin (s.stgPages (s.get Reg.STG_MASK_PAGES)) (p % 16) c false with csc := x } ∧
      (c = false → x = (s.stgBegin (s.stgPages (s.get Reg.STG_MASK_PAGES)) (p % 16) c false).csc) := by
  unfold State.stgArm
  rw [if_neg (by rcases hc with hc | hc <;> simp [hc]), if_neg (by simp [h])]
  simp only []
  generalize s.stgBegin (s.stgPages (s.get Reg.STG_MASK_PAGES)) (p % 16) c false = u
  split
  next hcas =>
    obtain ⟨x, hx⟩ := State.foldl_send_only
      (fun s' d => if s'.enumerated.testBit d then s'.send .arm d (s.stgPages (s.get Reg.STG_MASK_PAGES))
        ((u.afterCommit (s.stgPages (s.get Reg.STG_MASK_PAGES))).1.toNat +
          2 * (u.afterCommit (s.stgPages (s.get Reg.STG_MASK_PAGES))).2) else s')
      (fun s' d => by
        split
        · exact ⟨_, rfl⟩
        · exact ⟨s'.csc, rfl⟩) (List.range 8) u
    exact ⟨x, hx, fun hn => absurd (hcas.symm.trans hn) (by decide)⟩
  next => exact ⟨u.csc, rfl, fun _ => rfl⟩

/-- What the begin of a commit leaves: it is pending, `STG.STAT` shows it and the masked pages read ARMED. -/
theorem State.stgBegin_facts (s : State) (mask point : Nat) (c : Bool) :
    (s.stgBegin mask point c false).stg =
      { digests := s.stg.digests, armed := true, mask, point, armedAt := s.now, cascade := c } ∧
    (s.stgBegin mask point c false).get Reg.STG_STAT_STATE = 1 ∧
    (s.stgBegin mask point c false).flag Reg.STG_STAT_CASCADE = c ∧
    (∀ q : Fin 32, (s.stgBegin mask point c false).get (stgField q) = if mask.testBit q then 2 else s.get (stgField q)) ∧
    WordsKept (Reg.STG_STAT :: stagingWords) s (s.stgBegin mask point c false) ∧
    (s.stgBegin mask point c false).mem = s.mem ∧ (s.stgBegin mask point c false).csc = s.csc := by
  obtain ⟨u, hu⟩ : ∃ u : State, u = { s with stg :=
      { digests := s.stg.digests, armed := true, mask, point, armedAt := s.now, cascade := c } } := ⟨_, rfl⟩
  have hx : s.stgBegin mask point c false =
      ((u.stageMask mask 2).put Reg.STG_STAT_STATE 1).putB Reg.STG_STAT_CASCADE c := by rw [hu]; rfl
  obtain ⟨hw, hq, hstg, hm, hc, -⟩ := u.stageMask_facts mask 2
  rw [hx]
  generalize u.stageMask mask 2 = m at hw hq hstg hm hc ⊢
  have hstat : WordsKept [Reg.STG_STAT] m ((m.put Reg.STG_STAT_STATE 1).putB Reg.STG_STAT_CASCADE c) :=
    ((WordsKept.refl _ m).put (by decide) _).putB (by decide) _
  subst hu
  exact ⟨hstg, (State.get_putB_apart _ _ _ _ (by decide)).trans (State.get_put_self _ _ _ (by decide)),
    State.flag_putB_self _ _ _ (by decide) (by decide),
    fun q => (hstat.get_stgField (by decide) q).trans (hq q), hw.append hstat, hm, hc⟩

/-! ### The outcome of the device's own check -/

/-- The check has passed: the pages read CHECKED and `STG.FAIL` reads 0. -/
theorem State.stgPass_facts (s : State) :
    s.stgPass.stg = { s.stg with passed := true } ∧ s.stgPass.get Reg.STG_STAT_STATE = 2 ∧
    s.stgPass.word Reg.STG_FAIL = 0 ∧
    (∀ q : Fin 32, s.stgPass.get (stgField q) = if s.stg.mask.testBit q then 3 else s.get (stgField q)) ∧
    WordsKept ([Reg.STG_STAT, Reg.STG_FAIL] ++ stagingWords) s s.stgPass ∧ s.stgPass.mem = s.mem := by
  obtain ⟨u, hu⟩ : ∃ u : State, u = { s with stg := { s.stg with passed := true } } := ⟨_, rfl⟩
  have hx : s.stgPass = ((u.stageMask s.stg.mask 3).put Reg.STG_STAT_STATE 2).setWord Reg.STG_FAIL 0 := by rw [hu]; rfl
  obtain ⟨hw, hq, hstg, hm, -, -⟩ := u.stageMask_facts s.stg.mask 3
  rw [hx]
  generalize u.stageMask s.stg.mask 3 = m at hw hq hstg hm ⊢
  have hstat : WordsKept [Reg.STG_STAT, Reg.STG_FAIL] m ((m.put Reg.STG_STAT_STATE 2).setWord Reg.STG_FAIL 0) :=
    ((WordsKept.refl _ m).put (by decide) _).setWord (by decide) _
  subst hu
  exact ⟨hstg, (State.get_setWord_ne _ _ _ _ (by decide)).trans (State.get_put_self _ _ _ (by decide)),
    State.word_setWord_self _ _ _, fun q => (hstat.get_stgField (by decide) q).trans (hq q), hw.append hstat, hm⟩

/-- The check has failed: the commit ends with STG_REJECT and `STG.FAIL` names the failure. -/
theorem State.stgReject_ended (f : Nat) (ha : s.alive = true) :
    CommitEnded 3 Ev.STG_REJECT [Reg.STG_STAT, Reg.STG_FAIL] s (s.stgReject f) ∧
    (s.stgReject f).word Reg.STG_FAIL = BitVec.ofNat 32 f := by
  obtain ⟨x, hx, -⟩ := (s.setWord Reg.STG_FAIL (BitVec.ofNat 32 f)).sendDisarm_only
  have hr : s.stgReject f = ((State.stageMask { s.setWord Reg.STG_FAIL (BitVec.ofNat 32 f) with csc := x }
      s.stg.mask 1).stgEnd 3).raise Ev.STG_REJECT := by
    unfold State.stgReject
    simp only [hx]
    rfl
  have he := State.commitEnded { s.setWord Reg.STG_FAIL (BitVec.ofNat 32 f) with csc := x } 3 Ev.STG_REJECT (by decide) ha
    (by decide)
  rw [hr]
  refine ⟨he.of_words (l' := [Reg.STG_FAIL]) rfl rfl (((WordsKept.refl _ s).setWord (.head _) _).of_regs rfl) (by decide),
    ?_⟩
  refine (he.words _ (by decide) ?_).trans (State.word_setWord_self s _ _)
  rw [List.mem_append]
  rintro (h | h)
  · exact absurd h (by decide)
  · exact not_mem_stagingWords (by decide) h

/-- The first failure of a lead's check of the commit that it armed itself. -/
def State.leadFailure (s : State) : Option (Nat × Nat) :=
  s.firstFailure s.stg.mask s.stg.point s.stg.cascade ((s.withStaged s.stg.mask).flag Reg.TT_SCHED_RUNMODE)
    (s.leadSetid (s.withStaged s.stg.mask))

theorem State.stgCheck_idle (h : s.stg.armed = false ∨ s.stg.remote = true ∨ s.get Reg.STG_STAT_STATE ≠ 1) :
    s.stgCheck = s := by
  refine if_neg ?_
  rintro ⟨h1, h2, h3⟩
  rcases h with h | h | h
  · exact absurd (h1.symm.trans h) (by decide)
  · exact h2 h
  · exact h h3

/-- A lead's check in progress ends with its first failure, or passes. -/
theorem State.stgCheck_lead (hl : s.isLead = true) (h1 : s.stg.armed = true) (h2 : s.stg.remote = false)
    (h3 : s.get Reg.STG_STAT_STATE = 1) :
    s.stgCheck = s.leadFailure.elim s.stgPass fun f => s.stgReject (s.failWord s.stg.mask f) := by
  unfold State.stgCheck
  rw [if_pos ⟨h1, by simp [h2], h3⟩]
  simp only [hl, if_true]
  change _ = Option.elim (s.firstFailure _ _ _ _ _) _ _
  split
  next f hf => rw [hf]; rfl
  next hf => rw [hf]; rfl

end Sys2Proof.Machine

open Sys2Proof Sys2Proof.Machine

/-- Settles O56, command by command: a staged write, an arm, a disarm, the end of a check, and the two ends of a commit that
the lead armed. -/
theorem stagingCommands : Obligations.StagingCommands := by
  refine ⟨?_, ?_, ?_, ?_, ?_, ?_, ?_, ?_, ?_, ?_, ?_⟩
  · intro ini a r v s hon hr hp
    have hx : exec (.stagedWrite ini a v) s = .next (s.stagedWrite ini a v) := congrArg _ (s.onPage_on ini a _ hon)
    intro keep
    rw [hx]
    split
    next hk => rw [State.stagedWrite_fixed ini v hr hk]
    next hk => exact .next (State.stagedWrite_facts ini v hr hk hp)
  · intro ini a v s hon hr
    have hx : exec (.stagedWrite ini a v) s = .next (s.stagedWrite ini a v) := congrArg _ (s.onPage_on ini a _ hon)
    rw [hx, State.stagedWrite_none ini v hr]
  · intro ini p s hl
    exact congrArg _ (State.stgArm_follower ini p hl)
  · intro ini p c s ha hc h
    have hx : exec (.stgArm ini p c) s = .next (s.raise Ev.STG_BUSY) := congrArg _ (State.stgArm_busy ini p c hc h)
    rw [hx]
    exact .next ⟨State.raised_raise s _ ha (by decide), State.raise_stg _ _, State.raise_csc _ _,
      (WordsKept.refl _ s).quiet.raise _, (BytesKept.of_mem rfl).raise _⟩
  · intro ini p c s hc h
    obtain ⟨x, hx, hcsc⟩ := State.stgArm_begins ini p c hc h
    obtain ⟨hstg, hst, hcas, hq, hw, hm, hc'⟩ := s.stgBegin_facts (s.stgPages (s.get Reg.STG_MASK_PAGES)) (p % 16) c
    have he : exec (.stgArm ini p c) s = .next (s.stgArm ini p c) := rfl
    rw [he, hx]
    refine .next ⟨hstg, hst, hcas, fun q => ?_, hw.of_regs rfl, hm, fun hn => (hcsc hn).trans hc'⟩
    rw [hstg]
    exact hq q
  · intro ini s h
    exact congrArg _ (State.stgCancel_idle h)
  · intro ini s ha h
    exact State.gives_stgCancel ha h
  · intro s h
    exact congrArg _ (State.stgCheck_idle h)
  · intro s ha hl h1 h2 h3
    have hx : exec .consistencyCheckDone s = .next s.stgCheck := rfl
    rw [hx, State.stgCheck_lead hl h1 h2 h3]
    split
    next hf =>
      rw [show s.leadFailure = none from hf]
      exact .next s.stgPass_facts
    next f hf =>
      rw [show s.leadFailure = some f from hf]
      obtain ⟨he, hfail⟩ := State.stgReject_ended (s.failWord s.stg.mask f) ha
      exact .next ⟨he.stg, he.state, hfail, he.pages, he.raised, he.words, he.bytes⟩
  · intro s ha h hr
    have hx : exec .cascadeDisarmReceived s = .next s.stgCancel := congrArg _ (State.dropRemote_remote hr)
    rw [hx]
    exact State.gives_stgCancel ha h
  · intro s ha h hr h8
    have hx : exec .cascadeArmTimeout s = .next s.stgCancel := congrArg _ ((if_pos h8).trans (State.dropRemote_remote hr))
    rw [hx]
    exact State.gives_stgCancel ha h

end

section
/-!
More of what an update leaves: the other writes of a field, a state given by new fields, and the events already raised.
-/
namespace Sys2Proof.Machine

variable {l : List Nat} {s t u : State}

theorem WordsKept.putSat (h : WordsKept l s t) {f : Fld} (hf : f.addr ∈ l) (v : Nat) : WordsKept l s (t.putSat f v) :=
  h.setWord hf _

theorem WordsKept.putBit (h : WordsKept l s t) {f : Fld} (hf : f.addr ∈ l) (i : Nat) (b : Bool) :
    WordsKept l s (t.putBit f i b) := h.setWord hf _

/-- A flag of a word outside the list reads as before. -/
theorem WordsKept.flag (h : WordsKept l s t) (f : Fld) (hf : f.addr ∉ l) : t.flag f = s.flag f := by
  simp only [State.flag, h.get f hf]

/-- Fewer words changed than the list names. -/
theorem WordsKept.mono {l' : List Nat} (h : WordsKept l s t) (hl : l ⊆ l') : WordsKept l' s t :=
  fun a ha => h a fun hm => ha (hl hm)

theorem QuietWordsKept.setWord (h : QuietWordsKept l s t) {a : Nat} (ha : a ∈ l) (w : Word) :
    QuietWordsKept l s (t.setWord a w) :=
  fun b hq hb => (State.word_setWord_ne _ _ _ _ (ne_of_mem_of_not_mem ha hb).symm).trans (h b hq hb)

theorem QuietWordsKept.put (h : QuietWordsKept l s t) {f : Fld} (hf : f.addr ∈ l) (v : Nat) :
    QuietWordsKept l s (t.put f v) := h.setWord hf _

theorem QuietWordsKept.putB (h : QuietWordsKept l s t) {f : Fld} (hf : f.addr ∈ l) (b : Bool) :
    QuietWordsKept l s (t.putB f b) := h.setWord hf _

theorem QuietWordsKept.of_regs (h : QuietWordsKept l s t) (e : u.regs = t.regs) : QuietWordsKept l s u :=
  fun a hq ha => (State.word_congr e a).trans (h a hq ha)

theorem QuietWordsKept.trans (h : QuietWordsKept l s t) (h' : QuietWordsKept l t u) : QuietWordsKept l s u :=
  fun a hq ha => (h' a hq ha).trans (h a hq ha)

theorem QuietWordsKept.mono {l' : List Nat} (h : QuietWordsKept l s t) (hl : l ⊆ l') : QuietWordsKept l' s t :=
  fun a hq ha => h a hq fun hm => ha (hl hm)

theorem QuietWordsKept.get (h : QuietWordsKept l s t) (f : Fld) (hq : quiet f.addr = true) (hf : f.addr ∉ l) :
    t.get f = s.get f := by
  simp only [State.get, h _ hq hf]

theorem QuietWordsKept.raiseIf (h : QuietWordsKept l s t) (c : Bool) (e : Event) : QuietWordsKept l s (t.raiseIf c e) := by
  unfold State.raiseIf
  split
  · exact h.raise e
  · exact h

theorem BytesKept.raiseIf (h : BytesKept s t) (c : Bool) (e : Event) : BytesKept s (t.raiseIf c e) := by
  unfold State.raiseIf
  split
  · exact h.raise e
  · exact h

theorem BytesKept.trans (h : BytesKept s t) (h' : BytesKept t u) : BytesKept s u :=
  fun a ha => (h' a ha).trans (h a ha)

/-- A later change that leaves memory. -/
theorem BytesKept.of_eq (h : BytesKept s t) (e : u.mem = t.mem) : BytesKept s u :=
  fun a ha => (State.byte_congr e a).trans (h a ha)

/-! ### Flags -/

theorem State.flag_putB_apart (s : State) (f g : Fld) (b : Bool) (h : f.apart g = true) :
    (s.putB f b).flag g = s.flag g := State.flag_put_apart _ _ _ _ h

/-! ### Events already raised -/

theorem State.raised_congr (h : t.regs = s.regs) (e : Event) : t.raised e = s.raised e := by
  simp only [State.raised, State.word_congr h]

theorem State.raised_setWord_ne (s : State) (e : Event) (a : Nat) (w : Word) (h : evrawAddr e.page ≠ a) :
    (s.setWord a w).raised e = s.raised e := by
  simp only [State.raised, State.word_setWord_ne _ _ _ _ h]

theorem State.raised_put_ne (s : State) (e : Event) (f : Fld) (v : Nat) (h : evrawAddr e.page ≠ f.addr) :
    (s.put f v).raised e = s.raised e := s.raised_setWord_ne e _ _ h

theorem State.raised_putB_ne (s : State) (e : Event) (f : Fld) (b : Bool) (h : evrawAddr e.page ≠ f.addr) :
    (s.putB f b).raised e = s.raised e := s.raised_setWord_ne e _ _ h

end Sys2Proof.Machine
end

section
/-!
The words that a raised event writes (R420): the bit of EVRAW, that of EVPND when the event is enabled, and the counters of the
black box.
-/
namespace Sys2Proof.Machine

variable {s : State} {e : Event}

/-- A raise in reset changes no register word and no memory. -/
theorem State.raise_inReset (e : Event) (h : s.alive = false) : (s.raise e).regs = s.regs ∧ (s.raise e).mem = s.mem := by
  unfold State.raise
  simp only [h, Bool.not_false, Bool.true_or, if_true, and_self]

/-- A raise of an event whose bits are set already changes no register word. -/
theorem State.raise_again (e : Event) (hr : s.raised e = true) (hp : s.evEnabled e = true → s.evPending e = true) :
    (s.raise e).regs = s.regs := by
  have hw : (!s.alive || (s.raised e && (!s.evEnabled e || s.evPending e))) = true := by
    cases he : s.evEnabled e
    · simp [hr]
    · simp [hr, hp he]
  unfold State.raise
  simp only [hw, if_true]

/-- The bits of an event are set: that of EVRAW, and that of EVPND when the event is enabled; its tick is kept. -/
def State.markEvent (s : State) (e : Event) : State :=
  let t := State.setWord { s with evAt := nset e.key (s.now + 1) s.evAt } (evrawAddr e.page)
    (s.word (evrawAddr e.page) ||| 1#32 <<< e.bit)
  if t.evEnabled e then t.setWord (evpndAddr e.page) (t.word (evpndAddr e.page) ||| 1#32 <<< e.bit) else t

/-- A record writes three counters of the black box alone. -/
theorem State.word_record_ne (s : State) (k c d0 d1 d2 a : Nat) (hp : a ≠ Reg.BBX_RECPTR) (hn : a ≠ Reg.BBX_RECNUM)
    (hd : a ≠ Reg.BBX_DROPS) : (s.record k c d0 d1 d2).word a = s.word a := by
  unfold State.record
  split
  next => rfl
  next =>
    simp only []
    split
    next =>
      split
      next => exact State.word_inc_ne _ _ _ hn
      next => exact State.word_incSat_ne _ _ _ hd
    next => exact (State.word_inc_ne _ _ _ hn).trans (State.word_ringPut _ _ _ hp)

/-- Outside the counters of the black box, a raise of an event whose bits are not all set writes those bits. -/
theorem State.word_raise_new {a : Nat} (ha : s.alive = true)
    (hn : (s.raised e && (!s.evEnabled e || s.evPending e)) = false) (hp : a ≠ Reg.BBX_RECPTR) (hr : a ≠ Reg.BBX_RECNUM)
    (hd : a ≠ Reg.BBX_DROPS) : (s.raise e).word a = (s.markEvent e).word a := by
  have hraise : s.raise e = (let u := s.markEvent e
      if u.bit (Reg.BBX_RECEN_EN.at (e.source / 32)) (e.source % 32) then
        u.record 1 e.source (u.word (evrawAddr e.page)).toNat (u.word Reg.SYS_PROFSTAT).toNat 0
      else u) := if_neg (by simp [ha, hn])
  rw [hraise]
  simp only []
  split
  next => exact State.word_record_ne _ _ _ _ _ _ a hp hr hd
  next => rfl

theorem State.word_markEvent_evraw (s : State) (e : Event) :
    (s.markEvent e).word (evrawAddr e.page) = s.word (evrawAddr e.page) ||| 1#32 <<< e.bit := by
  have hne : evrawAddr e.page ≠ evpndAddr e.page := by simp only [evrawAddr, evpndAddr]; omega
  unfold State.markEvent
  simp only []
  split
  next => exact (State.word_setWord_ne _ _ _ _ hne).trans (State.word_setWord_self _ _ _)
  next => exact State.word_setWord_self _ _ _

theorem State.word_markEvent_evpnd (s : State) (e : Event) : (s.markEvent e).word (evpndAddr e.page) =
    if s.evEnabled e then s.word (evpndAddr e.page) ||| 1#32 <<< e.bit else s.word (evpndAddr e.page) := by
  have hne : evpndAddr e.page ≠ evrawAddr e.page := by simp only [evrawAddr, evpndAddr]; omega
  have hen : evenAddr e.page ≠ evrawAddr e.page := by simp only [evrawAddr, evenAddr]; omega
  unfold State.markEvent
  simp only [State.evEnabled, State.word_setWord_ne _ _ _ _ hen, State.word_mk, State.kget_regs]
  split
  next h =>
    refine Eq.trans ?_ (if_pos h).symm
    rw [State.word_setWord_self, State.word_setWord_ne _ _ _ _ hne, State.word_mk, State.kget_regs]
  next h => exact (State.word_setWord_ne _ _ _ _ hne).trans (if_neg h).symm

theorem State.word_raise_evpnd (ha : s.alive = true)
    (hn : (s.raised e && (!s.evEnabled e || s.evPending e)) = false) : (s.raise e).word (evpndAddr e.page) =
      if s.evEnabled e then s.word (evpndAddr e.page) ||| 1#32 <<< e.bit else s.word (evpndAddr e.page) := by
  have hb : evpndAddr e.page ≠ Reg.BBX_RECPTR ∧ evpndAddr e.page ≠ Reg.BBX_RECNUM ∧ evpndAddr e.page ≠ Reg.BBX_DROPS := by
    simp only [evpndAddr, pageBase, Reg.BBX_RECPTR, Reg.BBX_RECNUM, Reg.BBX_DROPS]
    omega
  obtain ⟨hp, hr, hd⟩ := hb
  rw [State.word_raise_new ha hn hp hr hd, State.word_markEvent_evpnd]

/-- Another page's EVRAW is left as it was. -/
theorem State.word_markEvent_ne (s : State) {e : Event} {p : Nat} (h : p ≠ e.page) :
    (s.markEvent e).word (evrawAddr p) = s.word (evrawAddr p) := by
  have hr : evrawAddr p ≠ evrawAddr e.page := by simp only [evrawAddr, pageBase]; omega
  have hp : evrawAddr p ≠ evpndAddr e.page := by simp only [evrawAddr, evpndAddr, pageBase]; omega
  unfold State.markEvent
  simp only []
  split
  next => exact (State.word_setWord_ne _ _ _ _ hp).trans (State.word_setWord_ne _ _ _ _ hr)
  next => exact State.word_setWord_ne _ _ _ _ hr

/-- A raise leaves every event set that was set. -/
theorem State.raised_raise_of_raised (e : Event) {d : Event} (h : s.raised d = true) : (s.raise e).raised d = true := by
  obtain ⟨hp, hr, hd⟩ := quiet_not_bbx d.page
  cases ha : s.alive with
  | false => exact (State.raised_congr (State.raise_inReset e ha).1 d).trans h
  | true =>
    cases hn : s.raised e && (!s.evEnabled e || s.evPending e) with
    | true =>
      obtain ⟨hre, hpe⟩ := Bool.and_eq_true_iff.1 hn
      have hq : s.evEnabled e = true → s.evPending e = true := fun he => by simpa [he] using hpe
      exact (State.raised_congr (State.raise_again e hre hq) d).trans h
    | false =>
      rw [State.raised, State.word_raise_new ha hn hp hr hd]
      by_cases hpage : d.page = e.page
      · rw [hpage, State.word_markEvent_evraw, BitVec.getLsbD_or, ← hpage]
        simp [show (s.word (evrawAddr d.page)).getLsbD d.bit = true from h]
      · rw [State.word_markEvent_ne s hpage]
        exact h

end Sys2Proof.Machine
end

section
/-!
The sample commands (R25, R26, R29): what each does in a device that measures, and that none acts in one that does not.
-/
namespace Sys2Proof.Machine

variable {s : State}

/-- No sample command acts while the measurement die does not run or the control die is in reset. -/
theorem exec_sampling_off (x : SampleSet) (o h ua mv : Nat) (hs : s.cm.running = false ∨ s.alive = false) :
    exec (.sampleSetArrival x) s = .next s ∧ exec (.sampleSetMissing o) s = .next s ∧
    exec .transformerSupplyFailure s = .next s ∧ exec (.sampleInstant o h ua mv) s = .next s := by
  have hg : !s.cm.running ∨ !s.alive := by simpa using hs
  exact ⟨if_pos hg, if_pos hg, if_pos hg, if_pos hg⟩

/-- The other side of the same guard: the device measures. -/
theorem sampling_on (hr : s.cm.running = true) (ha : s.alive = true) : ¬ (!s.cm.running ∨ !s.alive) := by
  simp [hr, ha]

/-- The sequence number expected after a set with an intact CRC is the one after its own, else the one after the expected. -/
def State.expectAfter (s : State) (x : SampleSet) : State :=
  let u := s.advanceTo (s.fstart + x.instant)
  { u with cm := { u.cm with nextSeq := if x.crcOk then (x.seq.toNat + 1) % 256 else (s.cm.nextSeq + 1) % 256 } }

/-- A set is delivered when its CRC checks and it is the one expected, and is discarded otherwise. -/
theorem exec_sampleSetArrival (x : SampleSet) (hr : s.cm.running = true) (ha : s.alive = true) :
    exec (.sampleSetArrival x) s = if x.crcOk && x.seq.toNat == s.cm.nextSeq
      then .next ((s.expectAfter x).setGood.deliverSet x)
      else .next ((s.expectAfter x).setLost (s.fstart + x.instant)) :=
  if_neg (sampling_on hr ha)

end Sys2Proof.Machine

open Sys2Proof Sys2Proof.Machine

/-- Settles O19, command by command. -/
theorem sampleSetCommands : Obligations.SampleSetCommands := by
  refine ⟨?intact, ?otherNumber, ?badCrc, ?missing, ?supply, ?fineInstant, ?fastInstant, ?off⟩
  case intact =>
    intro x s hr ha hc hq
    rw [exec_sampleSetArrival x hr ha, if_pos (by simp [hc, hq])]
    simp only [State.expectAfter, hc, hq, if_true]
  case otherNumber =>
    intro x s hr ha hc hq
    rw [exec_sampleSetArrival x hr ha, if_neg (by simp [hq])]
    simp only [State.expectAfter, hc, if_true]
  case badCrc =>
    intro x s hr ha hc
    rw [exec_sampleSetArrival x hr ha, if_neg (by simp [hc])]
    simp only [State.expectAfter, hc, Bool.false_eq_true, if_false]
  case missing => exact fun i s hr ha => if_neg (sampling_on hr ha)
  case supply => exact fun s hr ha => if_neg (sampling_on hr ha)
  case fineInstant => exact fun o h ua mv s hr ha ho => (if_neg (sampling_on hr ha)).trans (if_pos ho)
  case fastInstant => exact fun o h ua mv s hr ha ho => (if_neg (sampling_on hr ha)).trans (if_neg ho)
  case off => exact fun x o h ua mv s hs => exec_sampling_off x o h ua mv hs

end

section
/-!
Clocks before a watch frame (R81, R405), the end of Sleep (R41) and the hold-up monitor (R397).
-/
namespace Sys2Proof.Machine

variable {s : State}

/-! ### The hold-up monitor -/

/-- What HOLDUP_MEASURE has written once the energy is known, before VBAT and the always-on frequency. -/
def State.showHold (s : State) (mv e : Nat) : State :=
  ((s.putSat Reg.PWR_VHOLD_MV mv).putSat Reg.PWR_HOLDE_UJ e).putB Reg.PWR_STAT_HOLDOK (decide (1200 ≤ e))

/-- VBAT and the always-on frequency, when they are measured. -/
def State.showSlow (s : State) (slow : Option (Nat × Nat)) : State :=
  match slow with
  | some (vbat, hz) => (s.putSat Reg.PWR_VBAT_MV vbat).put Reg.CLK_AOFREQ_HZ hz
  | none => s

theorem State.showHold_facts (s : State) (mv e : Nat) :
    (s.showHold mv e).get Reg.PWR_VHOLD_MV = min mv (2 ^ Reg.PWR_VHOLD_MV.wid - 1) ∧
    (s.showHold mv e).get Reg.PWR_HOLDE_UJ = min e (2 ^ Reg.PWR_HOLDE_UJ.wid - 1) ∧
    (s.showHold mv e).flag Reg.PWR_STAT_HOLDOK = decide (1200 ≤ e) ∧
    (s.showHold mv e).get Reg.PWR_STAT_STATE = s.get Reg.PWR_STAT_STATE ∧
    WordsKept [Reg.PWR_VHOLD, Reg.PWR_HOLDE, Reg.PWR_STAT] s (s.showHold mv e) := by
  unfold State.showHold
  refine ⟨?_, ?_, State.flag_putB_self _ _ _ (by decide) (by decide), ?_,
    (((WordsKept.refl _ s).putSat (by decide) _).putSat (by decide) _).putB (by decide) _⟩
  · simp (disch := decide) only [State.get_putB_apart, State.get_putSat_apart, State.get_putSat_self]
  · simp (disch := decide) only [State.get_putB_apart, State.get_putSat_self]
  · simp (disch := decide) only [State.get_putB_apart, State.get_putSat_apart]

theorem State.showSlow_facts (s : State) (slow : Option (Nat × Nat)) :
    (∀ v hz, slow = some (v, hz) → (s.showSlow slow).get Reg.PWR_VBAT_MV = min v (2 ^ Reg.PWR_VBAT_MV.wid - 1) ∧
      (s.showSlow slow).get Reg.CLK_AOFREQ_HZ = hz % 2 ^ Reg.CLK_AOFREQ_HZ.wid) ∧
    WordsKept [Reg.PWR_VBAT, Reg.CLK_AOFREQ] s (s.showSlow slow) ∧ (s.showSlow slow).mem = s.mem ∧
    (s.showSlow slow).power = s.power ∧ (s.showSlow slow).now = s.now ∧ (s.showSlow slow).nvm = s.nvm ∧
    (s.showSlow slow).alive = s.alive := by
  cases slow with
  | none => exact ⟨fun _ _ h => (Option.some_ne_none _ h.symm).elim, WordsKept.refl _ s, rfl, rfl, rfl, rfl, rfl⟩
  | some p =>
    refine ⟨?_, ((WordsKept.refl _ s).putSat (by decide) _).put (by decide) _, rfl, rfl, rfl, rfl, rfl⟩
    rintro v hz ⟨⟩
    refine ⟨?_, State.get_put_self _ _ _ (by decide)⟩
    exact (State.get_put_apart _ _ _ _ (by decide)).trans (State.get_putSat_self _ _ _ (by decide))

/-- The tick since which the energy has been too low in Normal. -/
def State.lowFrom (s : State) (e : Nat) : Option Nat :=
  if 1200 ≤ e ∨ s.get Reg.PWR_STAT_STATE ≠ 0 then none else some (s.power.lowSince.getD s.now)

/-- The values of a measurement, and the tick of low energy. -/
def State.holdShown (s : State) (mv e : Nat) (slow : Option (Nat × Nat)) : State :=
  { (s.showHold mv e).showSlow slow with power := { s.power with lowSince := s.lowFrom e } }

/-- The tick of low energy looks at the state of the supply and the present tick alone. -/
theorem State.lowFrom_shown (s : State) (mv e : Nat) (slow : Option (Nat × Nat)) :
    ((s.showHold mv e).showSlow slow).lowFrom e = s.lowFrom e := by
  obtain ⟨-, -, -, hst, -⟩ := s.showHold_facts mv e
  obtain ⟨-, hw, -, hp, hn, -, -⟩ := (s.showHold mv e).showSlow_facts slow
  unfold State.lowFrom
  rw [hw.get Reg.PWR_STAT_STATE (by decide), hst, hp, hn]
  rfl

/-- The boot record that waits for energy is tried again (R325), by a device out of reset. -/
def State.bootRetry (s : State) : State :=
  match s.nvm.bootDue with
  | some (a, b) => if s.alive then s.writeBoot a b else s
  | none => s

theorem State.bootRetry_stays (h : s.nvm.bootDue = none ∨ s.alive = false) : s.bootRetry = s := by
  unfold State.bootRetry
  split
  next a b hb => exact if_neg (by simpa [hb] using h)
  next => rfl

theorem State.next_bootRetry (s : State) : (.next s.bootRetry : Result) =
    match s.nvm.bootDue with
    | some (a, b) => .next (if s.alive then s.writeBoot a b else s)
    | none => .next s := by
  unfold State.bootRetry
  cases hb : s.nvm.bootDue <;> rfl

theorem exec_holdupMeasure (s : State) (mv : Nat) (slow : Option (Nat × Nat)) :
    exec (.holdupMeasure mv slow) s = .next
      (s.holdShown mv (holdEnergy (clampN 10 1000 (s.get Reg.PWR_HOLDCFG_CAP)) mv) slow).bootRetry := by
  generalize he : holdEnergy (clampN 10 1000 (s.get Reg.PWR_HOLDCFG_CAP)) mv = e
  obtain ⟨-, -, -, hp, -, -, -⟩ := (s.showHold mv e).showSlow_facts slow
  rw [State.next_bootRetry, State.holdShown, ← s.lowFrom_shown mv e slow, show s.power = _ from hp.symm]
  show execHoldupMeasure mv slow s = _
  unfold execHoldupMeasure State.lowFrom
  simp only [he, decide_eq_true_eq]
  rfl

theorem exec_holdupFault {n : Nat} (hn : s.power.lowSince = some n) (ha : s.alive = true)
    (hf : s.flag Reg.PWR_STAT_HOLDFLT = false) : exec .holdupFault s = .next
      (((s.advanceTo (n + 100000000)).putB Reg.PWR_STAT_HOLDFLT true).raise Ev.PWR_HOLD_FAULT) := by
  have hf' : (s.advanceTo (n + 100000000)).flag Reg.PWR_STAT_HOLDFLT = false := hf
  show execHoldupFault s = _
  unfold execHoldupFault
  simp only [hn, ha, hf', if_true, Bool.false_eq_true, if_false]

/-! ### The end of Sleep -/

/-- The first tick of Run after Sleep (R41): frame, clocks and profile, before the blocks act. -/
def State.runBegins (s : State) : State :=
  let s : State := { s with
    power := { s.power with waking := false, pll := true, pllOn := false },
    frame := (s.frame + 1) % 2 ^ 32, fstart := s.now,
    cm := { s.cm with running := s.power.pauseAt.isNone, badRun := 0 } }
  ((((s.putB Reg.CLK_STAT_XTALOK true).putB Reg.CLK_STAT_PLLLOCK true).put Reg.SYS_PROFREQ_REQ 0).put
    Reg.SYS_PROFSTAT_PROF 0).raise Ev.PROFILE_CHANGED |>.put Reg.TMB_SRC_SOURCE 0

theorem exec_sleepExitResume (hs : s.sleeping = true) (ha : s.alive = true) (hw : s.power.waking = true) :
    exec .sleepExitResume s = .next (((List.range 4).foldl (fun x ch => x.canResume ch)
      ((s.runBegins.refreshChannels.matrixRun.restorePair .a).restorePair .b)).estProfile false true).tktResume.settle.hostShow :=
  if_pos (by simp [hs, ha, hw])

theorem State.runBegins_facts (ha : s.alive = true) :
    s.runBegins.frame = (s.frame + 1) % 2 ^ 32 ∧ s.runBegins.fstart = s.now ∧ s.runBegins.power.waking = false ∧
    s.runBegins.power.pll = true ∧ s.runBegins.get Reg.SYS_PROFSTAT_PROF = 0 ∧
    s.runBegins.flag Reg.CLK_STAT_XTALOK = true ∧ s.runBegins.flag Reg.CLK_STAT_PLLLOCK = true ∧
    s.runBegins.raised Ev.PROFILE_CHANGED = true ∧ s.runBegins.get Reg.SYS_PROFREQ_REQ = 0 ∧
    s.runBegins.get Reg.TMB_SRC_SOURCE = 0 ∧ s.runBegins.cm.running = s.power.pauseAt.isNone := by
  unfold State.runBegins
  refine ⟨by simp, by simp, by simp, by simp, ?_, ?_, ?_, ?_, ?_, ?_, by simp⟩
  · simp (disch := decide) only [State.get_put_apart, State.get_raise, State.get_put_self, Nat.zero_mod]
  · simp (disch := decide) only [State.flag_put_apart, State.flag_raise, State.flag_putB_apart, State.flag_putB_self]
  · simp (disch := decide) only [State.flag_put_apart, State.flag_raise, State.flag_putB_self]
  · rw [State.raised_put_ne _ _ _ _ (by decide)]
    exact State.raised_raise _ _ ha (by decide)
  · simp (disch := decide) only [State.get_put_apart, State.get_raise, State.get_put_self, Nat.zero_mod]
  · exact State.get_put_self _ _ _ (by decide)

end Sys2Proof.Machine

open Sys2Proof Sys2Proof.Machine

/-- Settles O41, command by command: the clocks before a watch frame, the end of Sleep, and the hold-up monitor. -/
theorem clockAndHoldupCommands : Obligations.ClockAndHoldupCommands := by
  refine ⟨?restart, ?noRestart, ?locked, ?notLocked, ?warmup, ?noWarmup, ?noResume, ?resume, ?measure, ?fault, ?noFault⟩
  case restart =>
    intro s hb hp ho
    have hx : exec .pllRestart s = _ := if_pos (by simp [hb, hp, ho])
    rw [hx]
    exact .next ⟨rfl, hp, rfl, rfl, rfl⟩
  case noRestart => exact fun s h => if_neg (by rcases h with h | h | h <;> simp [h])
  case locked =>
    intro s ho
    have hx : exec .pllLocked s = _ := if_pos ho
    rw [hx]
    exact .next ⟨rfl, rfl, State.flag_putB_self _ _ _ (by decide) (by decide),
      ((WordsKept.refl _ s).of_regs rfl).putB (by decide) _, rfl, rfl, rfl⟩
  case notLocked => exact fun s ho => if_neg (by simp [ho])
  case warmup =>
    intro s hb hp
    have hx : exec .measDieWarmup s = _ := if_pos (by simp [hb, hp])
    rw [hx]
    exact .next ⟨rfl, rfl, rfl, rfl⟩
  case noWarmup =>
    intro s h
    refine if_neg ?_
    rcases h with h | h
    · simp [h]
    · simp [Option.isSome_iff_ne_none.1 h]
  case noResume => exact fun s h => if_neg (by rcases h with h | h | h <;> simp [h])
  case resume =>
    intro s hs ha hw
    rw [exec_sleepExitResume hs ha hw]
    obtain ⟨hf, hfs, hwk, hpll, hprof, hx, hl, hr, hreq, hsrc, hrun⟩ := State.runBegins_facts ha
    exact .next ⟨s.runBegins, hf, hfs, hwk, hpll, hprof, hx, hl, hr, hreq, hsrc, hrun, rfl⟩
  case measure =>
    intro mv sl s h e
    obtain ⟨hv, he, hok, -, hw⟩ := s.showHold_facts mv e
    obtain ⟨hslow, hws, hm, -, -, hnvm, -⟩ := (s.showHold mv e).showSlow_facts sl
    have hstay : (s.holdShown mv e sl).bootRetry = s.holdShown mv e sl :=
      State.bootRetry_stays (h.imp_left (congrArg Nvm.bootDue hnvm).trans)
    rw [exec_holdupMeasure, hstay]
    exact .next ⟨(hws.get _ (by decide)).trans hv, (hws.get _ (by decide)).trans he, (hws.flag _ (by decide)).trans hok,
      rfl, hslow, ((hw.append hws).mono (by decide)).of_regs rfl, hm⟩
  case fault =>
    intro n s hn ha hf
    rw [exec_holdupFault hn ha hf]
    have hregs : (s.advanceTo (n + 100000000)).regs = s.regs := rfl
    have hmem : (s.advanceTo (n + 100000000)).mem = s.mem := rfl
    have hnow : (s.advanceTo (n + 100000000)).now = max s.now (n + 100000000) := rfl
    have halive : (s.advanceTo (n + 100000000)).alive = true := ha
    generalize s.advanceTo (n + 100000000) = u at hregs hmem hnow halive ⊢
    refine .next ⟨?_, State.raised_raise _ _ halive (by decide), (State.raise_now _ _).trans hnow,
      (((WordsKept.refl _ s).of_regs hregs).putB (by decide) _).quiet.raise _,
      ((BytesKept.of_mem hmem).of_eq (State.putB_mem _ _ _)).raise _⟩
    exact (State.flag_raise _ _ _ (by decide)).trans (State.flag_putB_self _ _ _ (by decide) (by decide))
  case noFault =>
    intro s hn
    show execHoldupFault s = _
    unfold execHoldupFault
    simp only [hn]

end

section
/-!
The frame marker and the SYNC edge (R132, R133, R135), and the end of a completion window outside an enumeration (R129).
-/
namespace Sys2Proof.Machine

variable {s : State}

/-! ### The lead's marker -/

/-- A lead that runs, is not mute and not asleep, and has left Sleep for long enough sends its marker. -/
theorem exec_frameMarkerSend (hl : s.isLead = true) (hr : s.power.phase = .run) (hm : s.csc.mute = false)
    (hs : s.sleeping = false) (hw : s.power.wakeAt = 0 ∨ s.power.wakeAt + 1000000 ≤ s.fstart) :
    Gives (exec .frameMarkerSend s) fun t =>
      t.now = max s.now (s.fstart + 999000) ∧ t.regs = s.regs ∧ t.mem = s.mem ∧
      t.csc.txq = s.csc.txq ++ [⟨.marker, 8, (markerWord s.stg.flag s.profNext s.modeNext (s.frame + 1)).toNat, 0⟩,
        ⟨.edge, 8, 0, 0⟩] := by
  have hgo : ¬ (!s.isLead ∨ s.power.phase ≠ .run ∨ s.csc.mute ∨ s.sleeping ∨
      (s.power.wakeAt ≠ 0 ∧ s.fstart < s.power.wakeAt + 1000000)) := by
    simp only [hl, hr, hm, hs]
    simp
    omega
  have hx : exec .frameMarkerSend s = _ := if_neg hgo
  rw [hx]
  exact .next ⟨rfl, rfl, rfl, List.append_assoc _ _ _⟩

/-! ### A follower's frame -/

/-- What an edge `o` ticks from the predicted tick makes of the run of good frames. -/
def State.goodAfter (s : State) (o : Int) : Nat := if o.natAbs ≤ 2 then s.csc.good + 1 else 0

/-- A follower with a marker takes an edge less than 1,000 ticks late. -/
theorem exec_syncEdge (o : Int) (hl : s.isLead = false) (ha : s.alive = true) (hm : s.csc.marker.isSome = true)
    (ho : o < 1000) :
    let lock := s.flag Reg.CSC_STAT_LOCK || decide (3 ≤ s.goodAfter o)
    let u := s.raiseIf (lock && !s.flag Reg.CSC_STAT_LOCK) Ev.CSC_SYNC_LOCKED
    exec (.syncEdge o) s = .next (State.putB
      { u with csc := { u.csc with good := s.goodAfter o, miss := 0, edge := o, unsync := !lock } }
      Reg.CSC_STAT_LOCK lock) := by
  have hgo : ¬ (s.isLead ∨ !s.alive ∨ s.csc.marker.isNone ∨ 1000 ≤ o) := by
    simp only [hl, ha, ← Option.not_isSome, hm]
    simp
    omega
  exact if_neg hgo

/-- The frame is missed: what a follower without its cascade commit keeps of the link. -/
def State.missFrame (s : State) : State :=
  { s with csc := { s.csc with marker := none, edge := 0, good := 0, miss := s.csc.miss + 1, unsync := true } }

/-- A follower loses its lock to SYNC. -/
def State.unlock (s : State) : State :=
  ((s.putB Reg.CSC_STAT_LOCK false).putB Reg.TMB_SRC_ALIGNED false).raise Ev.CSC_SYNC_LOST

theorem State.unlock_facts (s : State) :
    s.unlock.csc = s.csc ∧ s.unlock.flag Reg.CSC_STAT_LOCK = false ∧ s.unlock.flag Reg.TMB_SRC_ALIGNED = false ∧
    (s.alive = true → s.unlock.raised Ev.CSC_SYNC_LOST = true) ∧
    QuietWordsKept [Reg.CSC_STAT, Reg.TMB_SRC] s s.unlock ∧ BytesKept s s.unlock := by
  unfold State.unlock
  refine ⟨State.raise_csc _ _, ?_, ?_, fun ha => State.raised_raise _ _ ha (by decide), ?_, ?_⟩
  · simp (disch := decide) only [State.flag_raise, State.flag_putB_apart, State.flag_putB_self]
  · simp (disch := decide) only [State.flag_raise, State.flag_putB_self]
  · exact (((WordsKept.refl _ s).putB (by decide) _).putB (by decide) _).quiet.raise _
  · have hm : ((s.putB Reg.CSC_STAT_LOCK false).putB Reg.TMB_SRC_ALIGNED false).mem = s.mem := rfl
    exact (BytesKept.of_mem hm).raise _

theorem exec_missedFrame_keepsLock (hl : s.isLead = false) (ha : s.alive = true)
    (h : s.dropRemote.csc.miss = 0 ∨ s.dropRemote.flag Reg.CSC_STAT_LOCK = false) :
    exec .missedFrame s = .next s.dropRemote.missFrame := by
  refine (if_neg (by simp [hl, ha])).trans (if_neg ?_)
  rintro ⟨hm, hlock⟩
  rcases h with h | h
  · rw [h] at hm
    exact absurd hm (by decide)
  · exact absurd (hlock.symm.trans h) (by decide)

/-- The second missed frame in a row unlocks a locked follower. -/
theorem exec_missedFrame_unlocks (hl : s.isLead = false) (ha : s.alive = true) (hm : 1 ≤ s.dropRemote.csc.miss)
    (hlock : s.dropRemote.flag Reg.CSC_STAT_LOCK = true) :
    exec .missedFrame s = .next s.dropRemote.missFrame.unlock :=
  (if_neg (by simp [hl, ha])).trans (if_pos ⟨Nat.succ_le_succ hm, hlock⟩)

end Sys2Proof.Machine

open Sys2Proof Sys2Proof.Machine

/-- Settles O43, command by command: the marker, the edge, the missed frame, the wake pattern, and the window's end. -/
theorem markerAndSyncCommands : Obligations.MarkerAndSyncCommands := by
  refine ⟨?send, ?noSend, ?receive, ?ignore, ?edge, ?noEdge, ?missed, ?lead, ?wake, ?awake, ?closed, ?window⟩
  case send => exact fun s hl hr hm hs hw => exec_frameMarkerSend hl hr hm hs hw
  case noSend => exact fun s h => if_pos (by rcases h with h | h | h <;> simp [h])
  case receive =>
    intro w s hl ha hs hv hf
    have hx : exec (.frameMarkerReceived w) s = _ :=
      (if_neg (by simp [hl, ha, hs, hv])).trans (if_neg (by rcases hf with hf | hf <;> simp [hf]))
    rw [hx]
    exact .next ⟨rfl, rfl, rfl, rfl⟩
  case ignore => exact fun w s h => if_pos (by rcases h with h | h <;> simp [h])
  case edge =>
    intro o s hl ha hm ho
    rw [exec_syncEdge o hl ha hm ho]
    generalize hgood : s.goodAfter o = good
    generalize hlock : (s.flag Reg.CSC_STAT_LOCK || decide (3 ≤ good)) = lock
    generalize hu : s.raiseIf (lock && !s.flag Reg.CSC_STAT_LOCK) Ev.CSC_SYNC_LOCKED = u
    have hflag : ∀ v : State, (v.putB Reg.CSC_STAT_LOCK lock).flag Reg.CSC_STAT_LOCK = lock :=
      fun v => State.flag_putB_self v _ _ (by decide) (by decide)
    have hwords : QuietWordsKept [Reg.CSC_STAT] s u := hu ▸ (WordsKept.refl _ s).quiet.raiseIf _ _
    have hbytes : BytesKept s u := hu ▸ (BytesKept.of_mem rfl).raiseIf _ _
    refine .next ⟨rfl, rfl, hgood.symm, (hflag _).trans hlock.symm, congrArg not (hflag _).symm, fun hs ht => ?_,
      (hwords.of_regs rfl).putB (by decide) _, hbytes.of_eq rfl⟩
    have hl' : lock = true := (hflag _).symm.trans ht
    have hraised : u.raised Ev.CSC_SYNC_LOCKED = true := by
      rw [← hu, hl', hs]
      exact State.raised_raise _ _ ha (by decide)
    exact (State.raised_putB_ne _ _ _ _ (by decide)).trans hraised
  case noEdge =>
    intro o s h
    refine if_pos ?_
    rcases h with h | h | h
    · simp [h]
    · simp [h]
    · exact .inr (.inr (.inr h))
  case missed =>
    intro s hl ha d
    refine ⟨fun h => ?_, fun hm hlock => ?_⟩
    · rw [exec_missedFrame_keepsLock hl ha h]
      exact .next ⟨rfl, rfl, rfl, rfl, rfl, rfl⟩
    · rw [exec_missedFrame_unlocks hl ha hm hlock]
      obtain ⟨hcsc, hl', hal, hr, hw, hb⟩ := d.missFrame.unlock_facts
      exact .next ⟨congrArg Csc.marker hcsc, congrArg Csc.miss hcsc, hl', hal, hr, hw, hb⟩
  case lead => exact fun s hl => ⟨if_pos (.inl hl), congrArg _ (if_pos hl)⟩
  case wake => exact fun s hl hs => congrArg _ ((if_neg (by simp [hl])).trans (if_pos hs))
  case awake => exact fun s hl hs => congrArg _ ((if_neg (by simp [hl])).trans (if_neg (by simp [hs])))
  case closed => exact fun s h => if_pos (by rcases h with h | h | h <;> simp [h])
  case window =>
    intro e l s hl ha hc hx he
    have hend : exec .xferCompletionWindowEnd s = _ := if_neg (by simp [hl, ha, hc])
    rw [hend]
    simp only [hx]
    have hn : (!s.flag Reg.CSC_STAT_ENUM) = true := by rw [he]; rfl
    exact ⟨_, if_pos (.inl hn), rfl, rfl, rfl, rfl, rfl⟩

end

section
/-!
The event registers of a page (R419 to R422) and the profile request (R38).
-/
namespace Sys2Proof.Machine

variable {s : State}

/-! ### A raise -/

/-- An enabled event that is raised in a live device is pending. -/
theorem State.evPending_raise (e : Event) (ha : s.alive = true) (hb : e.bit < 32) (he : s.evEnabled e = true) :
    (s.raise e).evPending e = true := by
  cases hf : s.raised e && s.evPending e with
  | true =>
    obtain ⟨hr, hp⟩ := Bool.and_eq_true_iff.1 hf
    rw [State.evPending, State.word_congr (State.raise_again e hr fun _ => hp)]
    exact hp
  | false =>
    have hn : (s.raised e && (!s.evEnabled e || s.evPending e)) = false := by simpa [he] using hf
    rw [State.evPending, State.word_raise_evpnd ha hn, if_pos he]
    simp [hb]

/-! ### Clearing pending bits -/

/-- The mask of a clear keeps a bit that is not written as 1 or was raised in this tick, and clears the others. -/
theorem clearMask_bit (m r : Word) (i : Nat) :
    (~~~(m &&& ~~~r)).getLsbD i = (decide (i < 32) && (!m.getLsbD i || r.getLsbD i)) := by
  rw [BitVec.getLsbD_not, BitVec.getLsbD_and, BitVec.getLsbD_not]
  cases m.getLsbD i <;> cases r.getLsbD i <;> by_cases h : i < 32 <;> simp [h]

theorem State.clearEvents_bits (s : State) (p i : Nat) (m : Word) :
    (s.clearEvents p m).raised ⟨p, i⟩ = (s.raised ⟨p, i⟩ && (!m.getLsbD i || (s.raisedNow p).getLsbD i)) ∧
    (s.clearEvents p m).evPending ⟨p, i⟩ = (s.evPending ⟨p, i⟩ && (!m.getLsbD i || (s.raisedNow p).getLsbD i)) := by
  have hne : evrawAddr p ≠ evpndAddr p := by simp only [evrawAddr, evpndAddr]; omega
  have hin : ∀ (w : Word) (b : Bool), (w.getLsbD i && (decide (i < 32) && b)) = (w.getLsbD i && b) := by
    intro w b
    by_cases h : i < 32
    · simp [h]
    · simp [BitVec.getLsbD_of_ge w i (by omega)]
  simp only [State.raised, State.evPending, State.clearEvents, State.word_setWord_self, State.word_setWord_ne _ _ _ _ hne,
    State.word_setWord_ne _ _ _ _ hne.symm, BitVec.getLsbD_and, clearMask_bit, hin, and_self]

theorem State.wordsKept_clearEvents (s : State) (p : Nat) (m : Word) :
    WordsKept [evpndAddr p, evrawAddr p] s (s.clearEvents p m) :=
  ((WordsKept.refl _ s).setWord (.head _) _).setWord (.tail _ (.head _)) _

/-! ### The common registers of a page -/

/-- Every register of a page lies in that page. -/
theorem pageOf_pageBase (p : Fin 32) {off : Nat} (h : off < 0x1000) : pageOf (pageBase p.val + off) = p.val := by
  have := p.isLt
  unfold pageOf pageBase
  split <;> omega

/-- A command at a register of a page that the build has acts. -/
theorem State.onPage_pageBase (ini : Ini) (p : Fin 32) {off : Nat} (h : off < 0x1000) (f : State → State)
    (hp : s.pageOn p.val = true) : s.onPage ini (pageBase p.val + off) f = f s :=
  s.onPage_on ini _ f (by rw [pageOf_pageBase p h]; exact hp)

theorem exec_eventPendingClear (ini : Ini) (p : Fin 32) (m : Word) (hp : s.pageOn p.val = true) :
    exec (.eventPendingClear ini p m) s = .next (s.clearEvents p.val m) :=
  congrArg _ (State.onPage_pageBase ini p (by decide) _ hp)

theorem exec_eventForce (ini : Ini) (p : Fin 32) (m : Word) (hp : s.pageOn p.val = true) :
    exec (.eventForce ini p m) s = .next (s.evForce ini p.val m) :=
  congrArg _ (State.onPage_pageBase ini p (by decide) _ hp)

theorem exec_pageLock (ini : Ini) (p : Fin 32) (hp : s.pageOn p.val = true) :
    exec (.pageLock ini p) s = .next (s.pageLock p.val) :=
  congrArg _ (State.onPage_pageBase ini p (by decide) _ hp)

end Sys2Proof.Machine

open Sys2Proof Sys2Proof.Machine

/-- Settles O51, command by command: a raise, a pending clear, a forced event, LOCK, and the profile request. -/
theorem eventRegisterCommands : Obligations.EventRegisterCommands := by
  refine ⟨?raise, ?inReset, ?pending, ?clear, ?keep, ?forceRefused, ?force, ?lock, ?lhmLock, ?request, ?noRequest⟩
  case raise =>
    intro e s ha hb
    refine ⟨State.raised_raise s e ha hb, fun _ hr hp => State.raise_again e hr fun _ => hp, fun hn hr => ?_⟩
    exact State.raise_again e hr fun he => absurd (hn.symm.trans he) (by decide)
  case inReset => exact fun e s ha => State.raise_inReset e ha
  case pending => exact fun e s ha _ hb he => State.evPending_raise e ha hb he
  case clear =>
    intro ini p m i s hp _ hm hn
    rw [exec_eventPendingClear ini p m hp]
    obtain ⟨hr, hq⟩ := s.clearEvents_bits p.val i m
    exact .next ⟨hr.trans (by simp [hm, hn]), hq.trans (by simp [hm, hn]), s.wordsKept_clearEvents _ _, rfl⟩
  case keep =>
    intro ini p m i s hp h
    rw [exec_eventPendingClear ini p m hp]
    obtain ⟨hr, hq⟩ := s.clearEvents_bits p.val i m
    have hb : (!m.getLsbD i || (s.raisedNow p.val).getLsbD i) = true := by simpa using h
    exact .next ⟨hr.trans (by rw [hb, Bool.and_true]), hq.trans (by rw [hb, Bool.and_true])⟩
  case forceRefused =>
    intro ini p m s hp h
    rw [exec_eventForce ini p m hp]
    exact congrArg _ (if_pos h)
  case force =>
    intro p m s hp h
    rw [exec_eventForce .debug p m hp]
    exact congrArg _ (if_neg (by simp [h]))
  case lock =>
    intro ini p s hp h
    rw [exec_pageLock ini p hp]
    have hx : s.pageLock p.val = s.putB (lockField p.val) true := if_neg h
    rw [hx]
    exact .next ⟨State.flag_putB_self _ _ _ (show 0 + 1 ≤ 32 by decide) (show 0 < 1 by decide),
      WordsKept.putB (f := lockField p.val) (WordsKept.refl _ s) (.head _) _, rfl⟩
  case lhmLock =>
    intro ini s
    exact exec_pageLock ini 17 (by simp [State.pageOn, pageF])
  case request =>
    intro ini n s hl hn
    have hx : exec (.profileRequestWrite ini n) s = .next (s.put Reg.SYS_PROFREQ_REQ n) :=
      congrArg _ (if_pos ⟨hl, by omega⟩)
    rw [hx]
    refine .next ⟨?_, State.get_put_apart _ _ _ _ (by decide), (WordsKept.refl _ s).put (by decide) _, rfl⟩
    exact (State.get_put_self _ _ _ (by decide)).trans (Nat.mod_eq_of_lt (show n < 4 by omega))
  case noRequest =>
    intro ini n s h
    refine congrArg _ (if_neg ?_)
    rintro ⟨hl, hn⟩
    rcases h with h | h
    · exact absurd (hl.symm.trans h) (by decide)
    · exact hn h

end

section
/-!
What the end of a frame leaves (R29, R128, R152, R208, Table 4.4): the owed runs, the frame record, the buffers and the means.
-/
namespace Sys2Proof.Machine

variable {s t u : State}

/-- Time, timetable, staging, link and cell measurement are what they were. -/
structure FrameKept (s t : State) : Prop where
  now : t.now = s.now
  tick : t.tick = s.tick
  frame : t.frame = s.frame
  tt : t.tt = s.tt
  stg : t.stg = s.stg
  csc : t.csc = s.csc
  cm : t.cm = s.cm

theorem FrameKept.refl (s : State) : FrameKept s s := ⟨rfl, rfl, rfl, rfl, rfl, rfl, rfl⟩

theorem FrameKept.trans (h : FrameKept s t) (h' : FrameKept t u) : FrameKept s u :=
  ⟨h'.now.trans h.now, h'.tick.trans h.tick, h'.frame.trans h.frame, h'.tt.trans h.tt, h'.stg.trans h.stg,
    h'.csc.trans h.csc, h'.cm.trans h.cm⟩

theorem FrameKept.setWord (h : FrameKept s t) (a : Nat) (w : Word) : FrameKept s (t.setWord a w) :=
  h.trans ⟨rfl, rfl, rfl, rfl, rfl, rfl, rfl⟩

theorem FrameKept.put (h : FrameKept s t) (f : Fld) (v : Nat) : FrameKept s (t.put f v) := h.setWord _ _
theorem FrameKept.putB (h : FrameKept s t) (f : Fld) (b : Bool) : FrameKept s (t.putB f b) := h.setWord _ _
theorem FrameKept.putI (h : FrameKept s t) (f : Fld) (v : Int) : FrameKept s (t.putI f v) := h.setWord _ _
theorem FrameKept.putSatI (h : FrameKept s t) (f : Fld) (v : Int) : FrameKept s (t.putSatI f v) := h.setWord _ _

theorem FrameKept.raise (h : FrameKept s t) (e : Event) : FrameKept s (t.raise e) :=
  h.trans ⟨t.raise_now e, t.raise_tick e, t.raise_frame e, t.raise_tt e, t.raise_stg e, t.raise_csc e, t.raise_cm e⟩

theorem FrameKept.raiseIf (h : FrameKept s t) (c : Bool) (e : Event) : FrameKept s (t.raiseIf c e) := by
  unfold State.raiseIf
  split
  · exact h.raise e
  · exact h

/-- A step that is taken or left out. -/
theorem FrameKept.ite {c : Prop} {_ : Decidable c} (ht : FrameKept s t) (hu : FrameKept s u) :
    FrameKept s (if c then t else u) := by
  split
  · exact ht
  · exact hu

theorem FrameKept.foldl {α : Type} {f : State → α → State} (hf : ∀ x a, FrameKept x (f x a)) (l : List α)
    (h : FrameKept s t) : FrameKept s (l.foldl f t) := by
  induction l generalizing t with
  | nil => exact h
  | cons a l ih => exact ih (h.trans (hf t a))

/-! ### The frame means and on-times -/

/-- A change of the pack-current state alone. -/
theorem FrameKept.setIpk (h : FrameKept s t) (k : Ipk) : FrameKept s { t with ipk := k } :=
  h.trans ⟨rfl, rfl, rfl, rfl, rfl, rfl, rfl⟩

theorem FrameKept.ishCheck (h : FrameKept s t) (run : Nat) : FrameKept s (t.ishCheck run) :=
  .ite h (.ite ((h.setIpk _).putB _ _) (.ite (((h.setIpk _).putB _ _).raise _) (h.setIpk _)))

theorem FrameKept.hallCheck (h : FrameKept s t) (k : Ipk) : FrameKept s (t.hallCheck k) :=
  have hoff := h.putB Reg.IPK_STAT_HALLRANGE false
  .ite h (.ite ((h.raiseIf _ _).putB _ _) (.ite hoff (.ite ((hoff.setIpk _).putB _ _)
    (.ite (((hoff.setIpk _).putB _ _).raise _) (hoff.setIpk _)))))

theorem State.ipkFrame_kept (s : State) : FrameKept s s.ipkFrame := by
  unfold State.ipkFrame
  extract_lets k s0 s1 s2 s3
  have h0 : FrameKept s s0 := (FrameKept.refl s).setIpk _
  have h1 : FrameKept s s1 := .ite h0 (h0.putI _ _)
  have h2 : FrameKept s s2 := .ite h1 (h1.putI _ _)
  have h3 : FrameKept s s3 := .ite h2 (h2.putI _ _)
  exact .ite h3 (.hallCheck (.ite h3 (h3.ishCheck _)) _)

/-- A change of the isolation state alone. -/
theorem FrameKept.setIso (h : FrameKept s t) (i : Iso) : FrameKept s { t with iso := i } :=
  h.trans ⟨rfl, rfl, rfl, rfl, rfl, rfl, rfl⟩

theorem FrameKept.nextFree (h : FrameKept s t) : FrameKept s t.nextFree := h.trans ⟨rfl, rfl, rfl, rfl, rfl, rfl, rfl⟩

theorem State.chassisFrame_kept (s : State) : FrameKept s s.chassisFrame := by
  unfold State.chassisFrame
  extract_lets iso ch v1 top n a s1 s2
  have h1 : FrameKept s s1 := (FrameKept.refl s).setIso _
  have h2 : FrameKept s s2 := (h1.nextFree.putSatI _ _).putSatI _ _
  exact .ite ((FrameKept.refl s).setIso _) (.ite ((h2.putB _ _).raise _) (.ite (h2.putB _ _) h2))

theorem State.publishOnTimes_kept (s : State) : FrameKept s s.publishOnTimes := by
  unfold State.publishOnTimes
  exact FrameKept.foldl (fun x a => (FrameKept.refl x).put _ _) _ ⟨rfl, rfl, rfl, rfl, rfl, rfl, rfl⟩

/-! ### The owed runs and the frame record -/

theorem State.estOwe_only (s : State) : ∃ x, s.estOwe = { s with est := x } := by
  unfold State.estOwe State.noteInvalid
  simp only []
  split
  next => split <;> exact ⟨_, rfl⟩
  next => exact ⟨_, rfl⟩

theorem State.thmOwe_only (s : State) : ∃ x, s.thmOwe = { s with thm := x } := by
  unfold State.thmOwe
  simp only []
  split <;> exact ⟨_, rfl⟩

/-- The frame record of a follower with a number changes its queue and the marks of its record. -/
theorem State.recordQueue_only (s : State) : ∃ q r d i,
    s.recordQueue = { s with csc := { s.csc with txq := q, recDone := r, localDone := d }, iso := i } ∧
    (s.numbered = false → s.recordQueue = s) := by
  unfold State.recordQueue
  split
  next h => exact ⟨_, _, _, _, rfl, fun hn => absurd (h.1.symm.trans hn) (by decide)⟩
  next => exact ⟨s.csc.txq, s.csc.recDone, s.csc.localDone, s.iso, rfl, fun _ => rfl⟩

/-- What comes before the frame buffers change: the owed runs and the record. -/
theorem State.owedAndRecorded_only (s : State) : ∃ e h q r d i, s.estOwe.thmOwe.recordQueue =
      { s with est := e, thm := h, csc := { s.csc with txq := q, recDone := r, localDone := d }, iso := i } ∧
    (s.numbered = false → { s.csc with txq := q, recDone := r, localDone := d } = s.csc) := by
  obtain ⟨e, he⟩ := s.estOwe_only
  obtain ⟨h, hh⟩ := State.thmOwe_only { s with est := e }
  obtain ⟨q, r, d, i, hrec, hnum⟩ := State.recordQueue_only { s with est := e, thm := h }
  rw [he, hh]
  exact ⟨e, h, q, r, d, i, hrec, fun hn => congrArg State.csc (hrec.symm.trans (hnum hn))⟩

/-! ### The frame closes -/

/-- What the end of a frame makes of the cell measurement, by the state of the frame that ends. -/
structure FrameClosed (s t : State) : Prop where
  now : t.now = s.now
  tick : t.tick = s.tick
  frame : t.frame = s.frame
  tt : t.tt = s.tt
  stg : t.stg = s.stg
  csc : t.csc = { s.csc with txq := t.csc.txq, recDone := t.csc.recDone, localDone := t.csc.localDone }
  unnumbered : s.numbered = false → t.csc = s.csc
  buffer : t.cm.buffer = []
  lastRan : t.cm.lastRan = s.cm.running
  measured : s.actFrame = true → t.cm.lastFast = s.fast ∧ t.cm.lastFrame = s.frame ∧ t.cm.lastBuffer = s.cm.buffer
  idle : s.actFrame = false → t.cm.lastFast = s.cm.lastFast ∧ t.cm.lastFrame = s.cm.lastFrame ∧
    t.cm.lastBuffer = s.cm.lastBuffer

theorem FrameClosed.trans (h : FrameClosed s t) (h' : FrameKept t u) : FrameClosed s u where
  now := h'.now.trans h.now
  tick := h'.tick.trans h.tick
  frame := h'.frame.trans h.frame
  tt := h'.tt.trans h.tt
  stg := h'.stg.trans h.stg
  csc := by rw [h'.csc]; exact h.csc
  unnumbered := fun hn => h'.csc.trans (h.unnumbered hn)
  buffer := by rw [h'.cm]; exact h.buffer
  lastRan := by rw [h'.cm]; exact h.lastRan
  measured := by rw [h'.cm]; exact h.measured
  idle := by rw [h'.cm]; exact h.idle

/-- The frame that ends is closed. -/
theorem State.closeFrame_closed (s : State) : FrameClosed s s.closeFrame := by
  obtain ⟨e, h, q, r, d, i, hx, hnum⟩ := s.owedAndRecorded_only
  have hclose : ∀ t, FrameKept t (t.ipkFrame.chassisFrame).publishOnTimes := fun t =>
    (t.ipkFrame_kept.trans t.ipkFrame.chassisFrame_kept).trans (State.publishOnTimes_kept _)
  unfold State.closeFrame
  rw [hx]
  refine FrameClosed.trans ?_ (hclose _)
  exact {
    now := rfl
    tick := rfl
    frame := rfl
    tt := rfl
    stg := rfl
    csc := rfl
    unnumbered := hnum
    buffer := rfl
    lastRan := rfl
    measured := fun ha => ⟨if_pos ha, if_pos ha, if_pos ha⟩
    idle := fun ha =>
      have hn : ¬ s.actFrame = true := by simp [ha]
      ⟨if_neg hn, if_neg hn, if_neg hn⟩ }

end Sys2Proof.Machine
end

section
/-!
The frame boundary (R43), the profile and the mode of the frame that begins (R38, R39, R357, Table 1.7).
-/
namespace Sys2Proof.Machine

variable {l : List Nat} {s t u : State}

/-- The state in which the new frame starts, before the steps of its boundary. -/
def State.newFrame (s : State) : State :=
  let u := (s.advanceTo ((s.fstart : Int) + 1000000 + s.csc.edge).toNat).closeFrame
  { u with frame := u.frameNumber, fstart := u.now, tt := { u.tt with xfer := [] } }

/-- The steps of the boundary; `pre` is the state of the frame that ends. -/
def State.boundarySteps (s pre : State) (die : List Int) : State :=
  let v := s.tickBoundary.followMode
  let flag := match v.csc.marker with
    | some m => m.1
    | none => false
  let v : State := if v.isLead then v else { v with stg := { v.stg with flag } }
  let v := v.boundaryCommit.pauseResume.profileStep
  if v.sleeping = true then v
  else (v.selectSched.slotZero pre).blocksFrame die (!pre.watching || pre.tt.watchN == 0)

theorem exec_frameBoundary (die : List Int) (h : s.busUp = true) :
    exec (.frameBoundary die) s = .next (s.newFrame.boundarySteps s die) :=
  (if_neg (by simp [h])).trans (apply_ite (fun t => (.next t : Result)) _ _ _).symm

/-- The number of the frame that begins depends on that of the frame that ends and on the marker. -/
theorem State.frameNumber_congr (hf : t.frame = s.frame) (hm : t.csc.marker = s.csc.marker) :
    t.frameNumber = s.frameNumber := by
  unfold State.frameNumber
  rw [hf, hm]

theorem State.newFrame_frame (s : State) : s.newFrame.frame = s.frameNumber :=
  have hc := (s.advanceTo ((s.fstart : Int) + 1000000 + s.csc.edge).toNat).closeFrame_closed
  State.frameNumber_congr (hc.frame.trans rfl) ((congrArg Csc.marker hc.csc).trans rfl)

/-- The number that a marker gives has the marker's low bits. -/
theorem State.frameNumber_marker {m : Bool × Nat × Nat × Nat} (hm : s.csc.marker = some m) (hb : m.2.2.2 < 65536) :
    s.frameNumber % 65536 = m.2.2.2 := by
  simp only [State.frameNumber, hm]
  omega

/-! ### The profile that the next frame has -/

theorem State.nextProfile_lead (hl : s.isLead = true) : s.nextProfile = s.profNext := if_pos hl

theorem State.nextProfile_marker {m : Bool × Nat × Nat × Nat} (hl : s.isLead = false) (hm : s.csc.marker = some m)
    (hk : m.2.1 ≠ 3) : s.nextProfile = m.2.1 := by
  simp [State.nextProfile, hl, hm, hk]

theorem State.profNext_reaction (hp : s.get Reg.SYS_PROFSTAT_PROF ≠ 2) (hr : s.reactionSeen = true) : s.profNext = 0 :=
  (if_neg hp).trans (if_pos hr)

/-- Without a reaction the request decides, unless it stands over or is refused. -/
theorem State.profNext_request (hp : s.get Reg.SYS_PROFSTAT_PROF ≠ 2) (hr : s.reactionSeen = false) :
    s.profNext = if s.get Reg.SYS_PROFREQ_REQ = 3 ∨ s.pairRestarting = true ∨ s.profRefuse = true
      then s.get Reg.SYS_PROFSTAT_PROF else s.get Reg.SYS_PROFREQ_REQ := by
  simp only [State.profNext, if_neg hp, hr, Bool.false_eq_true, if_false]
  by_cases he : s.get Reg.SYS_PROFREQ_REQ = s.get Reg.SYS_PROFSTAT_PROF
  · rw [if_pos (Or.inl he), he, ite_self]
  · simp only [he, false_or]

theorem State.followMode_runmode {m : Bool × Nat × Nat × Nat} (hl : s.isLead = false) (hm : s.csc.marker = some m) :
    s.followMode.get Reg.TT_SCHED_RUNMODE = m.2.2.1 % 2 ∧
    s.followMode.get Reg.TT_SCHED_RUNMODE.staged = m.2.2.1 % 2 := by
  have hf : s.followMode = (s.put Reg.TT_SCHED_RUNMODE m.2.2.1).put Reg.TT_SCHED_RUNMODE.staged m.2.2.1 := by
    simp [State.followMode, hl, hm]
  rw [hf]
  exact ⟨(State.get_put_apart _ _ _ _ (by decide)).trans (State.get_put_self _ _ _ (by decide)),
    State.get_put_self _ _ _ (by decide)⟩

/-! ### The switches and the clocks of the frame -/

theorem State.showSwitches_kept (s : State) : WordsKept [Reg.BAL_ONL, Reg.BAL_ONH] s s.showSwitches :=
  ((WordsKept.refl _ s).put (by decide) _).put (by decide) _

theorem State.refreshSwitches_kept (s : State) :
    WordsKept [Reg.BAL_ONL, Reg.BAL_ONH] s s.refreshSwitches ∧ s.refreshSwitches.mem = s.mem := by
  unfold State.refreshSwitches State.setSwitches
  split
  next => exact ⟨State.showSwitches_kept _, rfl⟩
  next => exact ⟨State.showSwitches_kept _, rfl⟩

/-- The words in which a frame shows its clocks and its switches. -/
def powerWords : List Nat := [Reg.TMB_SRC, Reg.CLK_STAT, Reg.BAL_ONL, Reg.BAL_ONH]

/-- The frame shows the clock that TICK counts on, and writes the words of clocks and switches alone. -/
theorem State.powerFrame_kept (s : State) : WordsKept powerWords s s.powerFrame ∧ s.powerFrame.mem = s.mem ∧
    s.powerFrame.get Reg.TMB_SRC_SOURCE = s.get Reg.SYS_PROFSTAT_PROF := by
  unfold State.powerFrame
  extract_lets p act cm pw v w
  obtain ⟨hw, hm⟩ := (w.putB Reg.CLK_STAT_PLLLOCK w.power.pll).refreshSwitches_kept
  have hv : WordsKept powerWords s w := ((WordsKept.refl _ s).of_regs (u := v) rfl).put (by decide) _
  refine ⟨(hv.putB (by decide) _).trans (hw.mono (by decide)), hm, ?_⟩
  rw [hw.get Reg.TMB_SRC_SOURCE (by decide), State.get_putB_apart _ _ _ _ (by decide), State.get_put_self _ _ _ (by decide)]
  exact Nat.mod_eq_of_lt (Fld.extract_lt Reg.SYS_PROFSTAT_PROF _)

/-! ### The profile step of a frame that keeps its profile -/

/-- The mode that the frame has in the profile of the frame before it. -/
def State.modeKept (s : State) : Nat :=
  if s.get Reg.SYS_PROFSTAT_PROF = 0 then s.get Reg.TT_SCHED_RUNMODE
  else if s.get Reg.SYS_PROFSTAT_PROF = 1 then 0 else s.get Reg.SYS_PROFSTAT_MODE

theorem State.modeKept_lt (s : State) : s.modeKept < 2 := by
  unfold State.modeKept
  split
  · exact Fld.extract_lt Reg.TT_SCHED_RUNMODE _
  · split
    · decide
    · exact Fld.extract_lt Reg.SYS_PROFSTAT_MODE _

/-- A refused request is cleared. -/
def State.refuse (s : State) (c : Bool) : State :=
  if c then (s.put Reg.SYS_PROFREQ_REQ 0).raise Ev.PROFILE_REFUSED else s

/-- The mode in force is shown, and a change of it is raised. -/
def State.showMode (s : State) (was m : Nat) : State :=
  ((s.put Reg.SYS_PROFSTAT_MODE m).put Reg.CELL_CTRL_MODE m).raiseIf (was != m) Ev.PROFILE_CHANGED

theorem State.refuse_kept (s : State) (c : Bool) :
    QuietWordsKept [Reg.SYS_PROFREQ] s (s.refuse c) ∧ BytesKept s (s.refuse c) ∧ (s.refuse c).alive = s.alive := by
  unfold State.refuse
  split
  next =>
    have hm : (s.put Reg.SYS_PROFREQ_REQ 0).mem = s.mem := rfl
    exact ⟨((WordsKept.refl _ s).put (by decide) 0).quiet.raise _, (BytesKept.of_mem hm).raise _,
      by simp [State.alive]⟩
  next => exact ⟨(WordsKept.refl _ s).quiet, BytesKept.of_mem rfl, rfl⟩

/-- A request that is refused no longer stands, and the refusal is raised. -/
theorem State.refuse_facts (ha : s.alive = true) :
    (s.refuse true).get Reg.SYS_PROFREQ_REQ = 0 ∧ (s.refuse true).raised Ev.PROFILE_REFUSED = true :=
  ⟨(State.get_raise _ _ _ (by decide)).trans (State.get_put_self _ _ _ (by decide)),
    State.raised_raise (s.put Reg.SYS_PROFREQ_REQ 0) _ ha (by decide)⟩

theorem State.showMode_kept (s : State) (was m : Nat) :
    QuietWordsKept [Reg.SYS_PROFSTAT, Reg.CELL_CTRL] s (s.showMode was m) ∧ BytesKept s (s.showMode was m) := by
  have hm : ((s.put Reg.SYS_PROFSTAT_MODE m).put Reg.CELL_CTRL_MODE m).mem = s.mem := rfl
  exact ⟨(((WordsKept.refl _ s).put (by decide) m).put (by decide) m).quiet.raiseIf _ _, (BytesKept.of_mem hm).raiseIf _ _⟩

theorem State.showMode_facts (s : State) (was : Nat) {m : Nat} (hm : m < 2) :
    (s.showMode was m).get Reg.SYS_PROFSTAT_PROF = s.get Reg.SYS_PROFSTAT_PROF ∧
    (s.showMode was m).get Reg.SYS_PROFSTAT_MODE = m ∧ (s.showMode was m).get Reg.CELL_CTRL_MODE = m := by
  have hmod : ∀ f : Fld, f.wid = 1 → m % 2 ^ f.wid = m := fun f hf => Nat.mod_eq_of_lt (by rw [hf]; exact hm)
  unfold State.showMode
  refine ⟨?_, ?_, ?_⟩
  · simp (disch := decide) only [State.get_raiseIf, State.get_put_apart]
  · simp (disch := decide) only [State.get_raiseIf, State.get_put_apart, State.get_put_self]
    exact hmod _ rfl
  · simp (disch := decide) only [State.get_raiseIf, State.get_put_self]
    exact hmod _ rfl

/-- A change of the mode is raised. -/
theorem State.showMode_raises {was m : Nat} (ha : s.alive = true) (h : was ≠ m) :
    (s.showMode was m).raised Ev.PROFILE_CHANGED = true := by
  have hx : s.showMode was m = ((s.put Reg.SYS_PROFSTAT_MODE m).put Reg.CELL_CTRL_MODE m).raise Ev.PROFILE_CHANGED :=
    if_pos (bne_iff_ne.2 h)
  rw [hx]
  exact State.raised_raise _ _ ha (by decide)

/-- An event of another page stays raised while the mode is shown. -/
theorem State.raised_showMode_of_raised (was m : Nat) {e : Event} (hp : evrawAddr e.page ≠ Reg.SYS_PROFSTAT)
    (hc : evrawAddr e.page ≠ Reg.CELL_CTRL) (h : s.raised e = true) : (s.showMode was m).raised e = true := by
  have hput : ((s.put Reg.SYS_PROFSTAT_MODE m).put Reg.CELL_CTRL_MODE m).raised e = true :=
    ((State.raised_put_ne _ e _ m hc).trans (State.raised_put_ne s e _ m hp)).trans h
  unfold State.showMode State.raiseIf
  split
  next => exact State.raised_raise_of_raised _ hput
  next => exact hput

/-- Words of the boundary that no event writes hold for an event too. -/
theorem State.raised_powerFrame (s : State) (e : Event) (h : evrawAddr e.page ∉ powerWords) :
    s.powerFrame.raised e = s.raised e := by
  obtain ⟨hw, -, -⟩ := s.powerFrame_kept
  simp only [State.raised, hw _ h]

/-- The state in which the mode is shown when the profile stays: a refused request is cleared and a new frame counts. -/
def State.sameProfile (s : State) : State :=
  let x := s.refuse (s.isLead && s.profRefuse && !s.pairRestarting)
  { x with
    saf := { x.saf with latchedInFrame := false },
    tt := { x.tt with watchN := watchIndex (s.get Reg.SYS_PROFSTAT_PROF) (s.get Reg.SYS_PROFSTAT_PROF) x.tt.watchN } }

theorem State.sameProfile_kept (s : State) :
    QuietWordsKept [Reg.SYS_PROFREQ] s s.sameProfile ∧ BytesKept s s.sameProfile ∧ s.sameProfile.alive = s.alive := by
  obtain ⟨hw, hb, ha⟩ := s.refuse_kept (s.isLead && s.profRefuse && !s.pairRestarting)
  exact ⟨hw.of_regs rfl, hb.of_eq rfl, ha⟩

theorem State.sameProfile_refused (ha : s.alive = true) (h : (s.isLead && s.profRefuse && !s.pairRestarting) = true) :
    s.sameProfile.get Reg.SYS_PROFREQ_REQ = 0 ∧ s.sameProfile.raised Ev.PROFILE_REFUSED = true := by
  unfold State.sameProfile
  rw [h]
  exact s.refuse_facts ha

/-- The profile step of a frame that keeps its profile. -/
theorem State.profileStep_same (h : s.nextProfile = s.get Reg.SYS_PROFSTAT_PROF) :
    s.profileStep = (s.sameProfile.showMode (s.get Reg.SYS_PROFSTAT_MODE) s.modeKept).powerFrame := by
  obtain ⟨hw, -, -⟩ := s.sameProfile_kept
  have hrun : s.sameProfile.get Reg.TT_SCHED_RUNMODE = s.get Reg.TT_SCHED_RUNMODE := hw.get _ (by decide) (by decide)
  have hback : ∀ b c : Bool, ¬ ((b && s.get Reg.SYS_PROFSTAT_PROF != 0 && s.get Reg.SYS_PROFSTAT_PROF == 0 && c) = true) :=
    fun b c => by by_cases hz : s.get Reg.SYS_PROFSTAT_PROF = 0 <;> simp [hz]
  unfold State.profileStep
  simp only [h, if_neg (hback _ _), State.changeProfile, if_true, bne_self_eq_false, Bool.false_or]
  unfold State.showMode State.modeKept
  rw [← hrun]
  rfl

end Sys2Proof.Machine
end

section
/-!
The expiry of a Ticket connection (R357, R358).
-/
namespace Sys2Proof.Machine

variable {s : State} {n : Fin 32}

theorem testBit_bitsOf (l : List Bool) (i : Nat) : (bitsOf l).testBit i = l.getD i false := by
  induction l generalizing i with
  | nil => simp [bitsOf]
  | cons b l ih =>
    have hx : bitsOf (b :: l) = Nat.bit b (bitsOf l) := (Nat.bit_val b _).symm
    cases i with
    | zero => rw [hx, Nat.testBit_bit_zero]; rfl
    | succ i => rw [hx, Nat.testBit_bit_succ, ih]; rfl

theorem testBit_bitsOf_range {f : Nat → Bool} {i k : Nat} (h : i < k) :
    (bitsOf ((List.range k).map f)).testBit i = f i := by
  rw [testBit_bitsOf]
  simp [h]

/-- A connection that has expired, before its cause reaches the device's protection. -/
def State.connExpired (s : State) (n : Nat) : State :=
  ((State.connTo (s.setConn n { s.connOf n with recN := 0 }) n 3).raise Ev.TKT_EXPIRED).tktCauses

theorem exec_ticketExpiry (ha : s.alive = true) (hc : s.connState n = 1 ∨ s.connState n = 2) (hs : s.tktSuspended = false) :
    exec (.ticketExpiry n) s = .next ((s.advanceTo ((s.connOf n).t + s.connWindow n)).connExpired n).protect :=
  if_pos (by simpa [ha, hs] using hc)

theorem exec_ticketExpiry_stays (h : s.alive = false ∨ (s.connState n ≠ 1 ∧ s.connState n ≠ 2) ∨ s.tktSuspended = true) :
    exec (.ticketExpiry n) s = .next s := by
  refine if_neg ?_
  simp only [Bool.and_eq_true, Bool.or_eq_true, beq_iff_eq, Bool.not_eq_true']
  rintro ⟨⟨ha, hc⟩, hs⟩
  rcases h with h | ⟨h1, h2⟩ | h
  · exact absurd (ha.symm.trans h) (by decide)
  · exact hc.elim h1 h2
  · exact absurd (hs.symm.trans h) (by decide)

/-- Where the fields of a connection lie: no event writes them, and its state shares no bit with `EXPD` or its configuration. -/
theorem tkt_fields (n : Fin 32) : quiet (Reg.TKT_STAT_STATE.at n).addr = true ∧ quiet (Reg.TKT_CFG_REACT.at n).addr = true ∧
    Reg.TKT_EXPD_EXP.apart (Reg.TKT_STAT_STATE.at n) = true ∧ (Reg.TKT_CFG_REACT.at n).addr ≠ (Reg.TKT_STAT_STATE.at n).addr ∧
    (Reg.TKT_CFG_REACT.at n).addr ≠ Reg.TKT_EXPD := by
  revert n
  decide

theorem State.connTo_kept (s : State) (n : Fin 32) (st : Nat) :
    WordsKept [(Reg.TKT_STAT_STATE.at n).addr, Reg.TKT_EXPD] s (s.connTo n st) :=
  WordsKept.putBit (f := Reg.TKT_EXPD_EXP) ((WordsKept.refl _ s).put (.head _) _) (.tail _ (.head _)) _ _

theorem State.connState_connTo (s : State) (n : Fin 32) {st : Nat} (h : st < 4) : (s.connTo n st).connState n = st := by
  obtain ⟨-, -, ha, -, -⟩ := tkt_fields n
  exact ((State.get_putBit_apart _ _ _ _ _ ha).trans (State.get_put_self _ _ _ (show 30 + 2 ≤ 32 by decide))).trans
    (Nat.mod_eq_of_lt h)

/-- The state of an expired connection, its bit and its event. -/
theorem State.connExpired_shows (s : State) (n : Fin 32) (ha : s.alive = true) :
    (s.connExpired n).connState n = 3 ∧ (s.connExpired n).bit Reg.TKT_EXPD_EXP n = true ∧
    (s.connExpired n).raised Ev.TKT_EXPIRED = true := by
  obtain ⟨hq, -, -, -, -⟩ := tkt_fields n
  generalize hu : s.setConn n { s.connOf n with recN := 0 } = u
  have hau : (u.connTo n 3).alive = true := by rw [← hu]; exact ha
  have hx : (s.connExpired n).regs = ((u.connTo n 3).raise Ev.TKT_EXPIRED).regs := by rw [← hu]; rfl
  have hget : ∀ f : Fld, quiet f.addr = true → (s.connExpired n).get f = (u.connTo n 3).get f := fun f hf => by
    simp only [State.get, State.word_congr hx, State.word_raise _ _ _ hf]
  refine ⟨(hget _ hq).trans (u.connState_connTo n (by decide)), ?_, ?_⟩
  · refine (congrArg (fun v => Nat.testBit v n) (hget Reg.TKT_EXPD_EXP (by decide))).trans ?_
    exact State.bit_putBit_self _ _ _ _ (by decide) n.isLt
  · exact (State.raised_congr hx _).trans (State.raised_raise _ _ hau (by decide))

theorem State.connExpired_kept (s : State) (n : Fin 32) :
    QuietWordsKept [(Reg.TKT_STAT_STATE.at n).addr, Reg.TKT_EXPD] s (s.connExpired n) ∧ BytesKept s (s.connExpired n) ∧
    (s.connExpired n).now = s.now ∧ (s.connExpired n).can = s.can := by
  generalize hu : s.setConn n { s.connOf n with recN := 0 } = u
  have hr : u.regs = s.regs := by rw [← hu]; rfl
  have hm : u.mem = s.mem := by rw [← hu]; rfl
  have hk : QuietWordsKept [(Reg.TKT_STAT_STATE.at n).addr, Reg.TKT_EXPD] s (u.connTo n 3) :=
    (((WordsKept.refl _ s).of_regs hr).trans (u.connTo_kept n 3)).quiet
  have hb : BytesKept s (u.connTo n 3) := .of_mem (t := u.connTo n 3) hm
  have hx : s.connExpired n = ((u.connTo n 3).raise Ev.TKT_EXPIRED).tktCauses := by rw [← hu]; rfl
  rw [hx]
  refine ⟨(hk.raise _).of_regs rfl, (hb.raise _).of_eq rfl, ?_, ?_⟩
  · exact (State.raise_now _ _).trans (by rw [← hu]; rfl)
  · exact (State.raise_can _ _).trans (by rw [← hu]; rfl)

/-- The cause that a connection gives, of source 11 or of source 12 by RSEL. -/
theorem State.tktCauses_bit (s : State) (n : Fin 32) (hs : s.connState n = 3)
    (hr : s.flag (Reg.TKT_CFG_REACT.at n) = true) :
    (s.flag (Reg.TKT_CFG_RSEL.at n) = false → s.tktCauses.saf.tka.testBit n = true) ∧
    (s.flag (Reg.TKT_CFG_RSEL.at n) = true → s.tktCauses.saf.tkb.testBit n = true) := by
  unfold State.tktCauses
  exact ⟨fun h => (testBit_bitsOf_range n.isLt).trans (by simp [hs, hr, h]),
    fun h => (testBit_bitsOf_range n.isLt).trans (by simp [hs, hr, h])⟩

/-- With REACT the cause of an expired connection is present. -/
theorem State.connExpired_cause (s : State) (n : Fin 32) (ha : s.alive = true)
    (hr : s.flag (Reg.TKT_CFG_REACT.at n) = true) :
    (s.flag (Reg.TKT_CFG_RSEL.at n) = false → (s.connExpired n).saf.tka.testBit n = true) ∧
    (s.flag (Reg.TKT_CFG_RSEL.at n) = true → (s.connExpired n).saf.tkb.testBit n = true) := by
  obtain ⟨-, hq, -, hne, hne'⟩ := tkt_fields n
  obtain ⟨hstate, -, -⟩ := s.connExpired_shows n ha
  obtain ⟨hk, -, -, -⟩ := s.connExpired_kept n
  have hcfg : ∀ f : Fld, f.addr = (Reg.TKT_CFG_REACT.at n).addr → (s.connExpired n).flag f = s.flag f := fun f hf => by
    simp only [State.flag, hk.get f (by rw [hf]; exact hq) (by simp [hf, hne, hne'])]
  obtain ⟨h0, h1⟩ := State.tktCauses_bit
    ((State.connTo (s.setConn n { s.connOf n with recN := 0 }) n 3).raise Ev.TKT_EXPIRED) n hstate
    ((hcfg (Reg.TKT_CFG_REACT.at n) rfl).trans hr)
  exact ⟨fun h => h0 ((hcfg (Reg.TKT_CFG_RSEL.at n) rfl).trans h), fun h => h1 ((hcfg (Reg.TKT_CFG_RSEL.at n) rfl).trans h)⟩

end Sys2Proof.Machine

open Sys2Proof Sys2Proof.Machine

/-- Settles O60: the frame that ends is closed before the steps of the boundary; a frame that keeps its profile shows its mode and
its clock; a connection expires at the end of its window. -/
theorem frameBoundaryAndTicketExpiry : Obligations.FrameBoundaryAndTicketExpiry := by
  refine ⟨?down, ?boundary, ?nextNumber, ?markerNumber, ?reaction, ?request, ?followed, ?runmode, ?same, ?stays, ?expires⟩
  case down => exact fun die s h => if_pos (by simp [h])
  case boundary =>
    intro die s h
    have hc := (s.advanceTo ((s.fstart : Int) + 1000000 + s.csc.edge).toNat).closeFrame_closed
    have htick : s.newFrame.tick = s.tick + (s.newFrame.now - s.now) := by
      rw [show s.newFrame.tick = _ from hc.tick, show s.newFrame.now = _ from hc.now]
      rfl
    rw [exec_frameBoundary die h]
    refine .next ⟨s.newFrame, hc.now, rfl, s.newFrame_frame, ?_, hc.unnumbered, hc.csc, hc.stg, htick, hc.buffer,
      hc.lastRan, hc.measured, hc.idle, rfl⟩
    exact congrArg (fun x : Tt => { x with xfer := [] }) hc.tt
  case nextNumber => exact fun s h => by simp only [State.frameNumber, h]
  case markerNumber => exact fun s m => State.frameNumber_marker
  case reaction => exact fun s hl hp hr => (State.nextProfile_lead hl).trans (State.profNext_reaction hp hr)
  case request => exact fun s hl hp hr => (State.nextProfile_lead hl).trans (State.profNext_request hp hr)
  case followed => exact fun s m => State.nextProfile_marker
  case runmode => exact fun s m => State.followMode_runmode
  case same =>
    intro s ha hn
    obtain ⟨hk, hb, hx⟩ := s.sameProfile_kept
    have hax : s.sameProfile.alive = true := hx.trans ha
    obtain ⟨hyk, hyb⟩ := s.sameProfile.showMode_kept (s.get Reg.SYS_PROFSTAT_MODE) s.modeKept
    obtain ⟨hprof, hmode, hctrl⟩ := s.sameProfile.showMode_facts (s.get Reg.SYS_PROFSTAT_MODE) s.modeKept_lt
    have hchg := State.showMode_raises (was := s.get Reg.SYS_PROFSTAT_MODE) (m := s.modeKept) hax
    have hkeeps := fun h => State.raised_showMode_of_raised (s := s.sameProfile) (s.get Reg.SYS_PROFSTAT_MODE) s.modeKept
      (e := Ev.PROFILE_REFUSED) (by decide) (by decide) h
    rw [State.profileStep_same hn]
    generalize s.sameProfile.showMode (s.get Reg.SYS_PROFSTAT_MODE) s.modeKept = y at *
    obtain ⟨hw, hm, hsrc⟩ := y.powerFrame_kept
    have hpy := hprof.trans (hk.get Reg.SYS_PROFSTAT_PROF (by decide) (by decide))
    refine ⟨(hw.get _ (by decide)).trans hpy, (hw.get _ (by decide)).trans hmode, (hw.get _ (by decide)).trans hctrl,
      fun h => (y.raised_powerFrame _ (by decide)).trans (hchg h.symm), fun h => ?_, hsrc.trans hpy, ?_, ?_⟩
    · obtain ⟨hreq, hev⟩ := s.sameProfile_refused ha h
      exact ⟨(hw.get _ (by decide)).trans ((hyk.get _ (by decide) (by decide)).trans hreq),
        (y.raised_powerFrame _ (by decide)).trans (hkeeps hev)⟩
    · exact ((hk.mono (by decide)).trans (hyk.mono (by decide))).trans (hw.quiet.mono (by decide))
    · exact (hb.trans hyb).of_eq hm
  case stays => exact fun n s => exec_ticketExpiry_stays
  case expires =>
    intro n s ha hc hs
    rw [exec_ticketExpiry ha hc hs]
    generalize hu : s.advanceTo ((s.connOf n).t + s.connWindow n) = u
    have hregs : u.regs = s.regs := by rw [← hu]; rfl
    have hmem : u.mem = s.mem := by rw [← hu]; rfl
    have hau : u.alive = true := by rw [← hu]; exact ha
    have hflag : ∀ f, u.flag f = s.flag f := fun f => by rw [← hu]; rfl
    obtain ⟨hst, hbit, hev⟩ := u.connExpired_shows n hau
    obtain ⟨hk, hb, hnow, hcan⟩ := u.connExpired_kept n
    refine .next ⟨u.connExpired n, rfl, hnow.trans (by rw [← hu]; rfl), hst, hbit, hev, fun hr hsel => ?_, fun hr hsel => ?_,
      fun a hq ha => (hk a hq ha).trans (State.word_congr hregs a), (BytesKept.of_mem hmem).trans hb,
      hcan.trans (by rw [← hu]; rfl)⟩
    · exact (u.connExpired_cause n hau ((hflag _).trans hr)).1 ((hflag _).trans hsel)
    · exact (u.connExpired_cause n hau ((hflag _).trans hr)).2 ((hflag _).trans hsel)

end

section
/-!
The timetable engine (R52 to R56): the buffers of a load, the tasks in progress, and an overrun.
-/
namespace Sys2Proof.Machine

variable {s t : State}

@[simp] theorem nget_nset_self (k v : Nat) (m : KMap Nat) : nget k (nset k v m) = v := kget_kset_self _ k v m

theorem nget_nset_ne {k j : Nat} (h : j ≠ k) (v : Nat) (m : KMap Nat) : nget j (nset k v m) = nget j m :=
  kget_kset_ne _ k j h v m

/-! ### Image loads -/

/-- The state of a buffer is held in a register word. -/
theorem State.loadState_congr (h : t.regs = s.regs) (buf : Nat) : t.loadState buf = s.loadState buf := by
  simp only [State.loadState, State.get, State.word_congr h]

/-- A write of the state of a buffer changes its word alone. -/
theorem State.putLoad_facts (s : State) (buf st reason : Nat) (h : st < 4) :
    (s.putLoad buf st reason).loadState buf = st ∧ WordsKept [Reg.TT_LOADSTAT] s (s.putLoad buf st reason) ∧
    (s.putLoad buf st reason).tt = s.tt ∧ (s.putLoad buf st reason).mem = s.mem ∧
    (s.putLoad buf st reason).power = s.power := by
  unfold State.putLoad State.loadState
  split
  · refine ⟨(State.get_put_apart _ _ _ _ (by decide)).trans ?_,
      ((WordsKept.refl _ s).put (by decide) _).put (by decide) _, rfl, rfl, rfl⟩
    exact (State.get_put_self _ _ _ (by decide)).trans (Nat.mod_eq_of_lt h)
  · refine ⟨(State.get_put_apart _ _ _ _ (by decide)).trans ?_,
      ((WordsKept.refl _ s).put (by decide) _).put (by decide) _, rfl, rfl, rfl⟩
    exact (State.get_put_self _ _ _ (by decide)).trans (Nat.mod_eq_of_lt h)

/-- A load that has no GO, names the active buffer or meets a load in progress has no effect. -/
theorem exec_imageLoad_stays (ini : Ini) {buf go : Bool}
    (h : go = false ∨ s.tt.active = some buf.toNat ∨ s.tt.loading.isSome = true) :
    exec (.imageLoad ini buf go) s = .next s := if_pos (by simpa using h)

/-- A load that begins: the buffer shows it, and the image before it is gone. -/
def State.loadBegins (s : State) (buf : Nat) : State :=
  { s.putLoad buf 1 0 with tt := { s.tt with
    loading := some (buf, s.get Reg.TT_LOADADDR_ADDR), bufs := s.tt.bufs.set buf none } }

theorem exec_imageLoad (ini : Ini) {buf : Bool} (ha : s.tt.active ≠ some buf.toNat) (hl : s.tt.loading = none)
    (hm : s.stg.mask = 0) : exec (.imageLoad ini buf true) s = .next (s.loadBegins buf.toNat) := by
  have hp : ¬ (s.armedPage 4 = true ∧ s.get Reg.TT_IMGSEL_BUF.staged = buf.toNat) := by simp [State.armedPage, hm]
  obtain ⟨-, hw, htt, -, -⟩ := s.putLoad_facts buf.toNat 1 0 (by decide)
  have haddr := hw.get Reg.TT_LOADADDR_ADDR (by decide)
  show execImageLoad ini buf true s = _
  unfold execImageLoad State.loadBegins
  rw [if_neg (by simp [ha, hl]), if_neg hp]
  simp only [htt, haddr]

/-- The load in progress is over. -/
def State.loadEnds (s : State) : State := { s with tt := { s.tt with loading := none } }

/-- A buffer holds an image. -/
def State.fillBuffer (s : State) (buf : Nat) (m : Image) : State :=
  { s with tt := { s.tt with bufs := s.tt.bufs.set buf (some m) } }

/-- A load ends with the copied image, or with the first reason of Table 2.6. -/
theorem exec_imageLoadDone {buf a : Nat} (h : s.tt.loading = some (buf, a)) : exec .imageLoadDone s = .next
    (if s.imageReason a = 0 then (s.loadEnds.fillBuffer buf (s.imageAt a)).putLoad buf 2 0
      else (s.loadEnds.putLoad buf 3 (s.imageReason a)).raise Ev.TT_IMAGE_REFUSED) := by
  show execImageLoadDone s = _
  unfold execImageLoadDone
  simp only [h]
  split <;> rfl

/-! ### Tasks -/

theorem State.taskOf_endTask (s : State) (e : Nat) : (s.endTask e).taskOf e = none := by
  simp [State.taskOf, State.endTask]

@[simp] theorem State.core_setCore (s : State) (p : Pair) (c : Core) : (s.setCore p c).core p = c := by cases p <;> rfl

/-- The hidden state of a pair is apart from the timetable, the registers, memory and time. -/
theorem State.setCore_facts (s : State) (p : Pair) (c : Core) :
    (s.setCore p c).tt = s.tt ∧ (s.setCore p c).regs = s.regs ∧ (s.setCore p c).mem = s.mem ∧
    (s.setCore p c).now = s.now := by
  cases p <;> exact ⟨rfl, rfl, rfl, rfl⟩

theorem exec_taskDone {p : Pair} {e : Nat} {k : Task} (h : s.taskOf e = some k) (hp : k.pair = p) (hk : k.killed = none)
    (hb : k.budget ≠ 0) (ht : s.now < k.rel + k.budget) :
    exec (.taskDone p.ini p e) s = .next ((s.endTask e).setOver e 0) := by
  show execTaskDone p.ini p e s = _
  unfold execTaskDone
  simp only [h]
  rw [if_neg (by simp [hp, hk]), if_neg hb, if_pos ht]

theorem exec_killAck {p : Pair} {e u : Nat} {k : Task} (h : s.taskOf e = some k) (hp : k.pair = p) (hk : k.killed = some u)
    (ht : s.now < u + 1000) :
    exec (.killAck p.ini p e) s = .next ((s.endTask e).setCore p { s.core p with killTrap := false }) := by
  show execKillAck p.ini p e s = _
  unfold execKillAck
  simp only [h, hk]
  exact if_pos ⟨trivial, hp, ht⟩

theorem exec_killAckTimeout {e u : Nat} {k : Task} (h : s.taskOf e = some k) (hk : k.killed = some u) :
    exec (.killAckTimeout e) s = .next ((s.advanceTo (u + 1000)).escalate k) := by
  show execKillAckTimeout e s = _
  unfold execKillAckTimeout
  simp only [h, hk]

/-! ### Overruns -/

/-- An overrun raises its event and shows entry and count in `OVRSTAT`; nothing else of the state changes. -/
theorem State.noteOverrun_facts (s : State) (e typ n : Nat) :
    (s.noteOverrun e typ n).get Reg.TT_OVRSTAT_ENTRY = e % 2 ^ Reg.TT_OVRSTAT_ENTRY.wid ∧
    (s.noteOverrun e typ n).get Reg.TT_OVRSTAT_COUNT = min 15 n ∧
    QuietWordsKept [Reg.TT_OVRSTAT] s (s.noteOverrun e typ n) ∧ BytesKept s (s.noteOverrun e typ n) ∧
    (s.alive = true → (s.noteOverrun e typ n).raised Ev.TT_OVERRUN = true) := by
  have hcount : min 15 n % 2 ^ Reg.TT_OVRSTAT_COUNT.wid = min 15 n :=
    Nat.mod_eq_of_lt (lt_of_le_of_lt (Nat.min_le_left _ _) (by decide))
  unfold State.noteOverrun
  refine ⟨State.get_put_self _ _ _ (by decide), ?_, ?_, ?_, fun ha => ?_⟩
  · simp (disch := decide) only [State.get_put_apart, State.get_put_self, hcount]
  · exact ((((WordsKept.refl _ s).quiet.raise _).put (by decide) _).put (by decide) _).put (by decide) _
  · have hb : BytesKept s s := .of_mem rfl
    exact (hb.raise Ev.TT_OVERRUN).of_eq rfl
  · simp (disch := decide) only [State.raised_put_ne]
    exact State.raised_raise s _ ha (by decide)

theorem State.noteOverrun_only (s : State) (e typ n : Nat) :
    ∃ r m x v, s.noteOverrun e typ n = { s with regs := r, mem := m, bbx := x, evAt := v } := by
  obtain ⟨r, m, x, v, h⟩ := s.raise_only Ev.TT_OVERRUN
  unfold State.noteOverrun
  rw [h]
  exact ⟨_, m, x, v, rfl⟩

/-- The task that overruns is killed now, and its pair's kill trap is raised. -/
def State.killTask (s : State) (e : Nat) (p : Pair) : State :=
  let s := s.setCore p { s.core p with killTrap := true }
  { s with tt := { s.tt with
    tasks := s.tt.tasks.map fun u => if u.entry == e then { u with killed := some s.now } else u } }

theorem State.killTask_facts (s : State) (e : Nat) (p : Pair) :
    (s.killTask e p).tt.overruns = s.tt.overruns ∧ ((s.killTask e p).core p).killTrap = true ∧
    (s.killTask e p).now = s.now ∧
    (∀ u, u ∈ (s.killTask e p).tt.tasks → u.entry = e → u.killed = some s.now) ∧
    (s.killTask e p).regs = s.regs ∧ (s.killTask e p).mem = s.mem := by
  have hcore := s.core_setCore p { s.core p with killTrap := true }
  obtain ⟨htt, hr, hm, hn⟩ := s.setCore_facts p { s.core p with killTrap := true }
  unfold State.killTask
  generalize s.setCore p { s.core p with killTrap := true } = c at *
  refine ⟨by simp only [htt], ?_, hn, ?_, hr, hm⟩
  · have hsame : ∀ tt, ({ c with tt } : State).core p = c.core p := fun tt => by cases p <;> rfl
    exact congrArg Core.killTrap ((hsame _).trans hcore)
  · intro u hu he
    obtain ⟨w, -, rfl⟩ := List.mem_map.1 hu
    by_cases hw : w.entry = e
    · simp [hw, hn]
    · simp [hw] at he

/-- The entry type of a pair's task (Table 2.4). -/
def taskType : Pair → Nat
  | .a => 9
  | .b => 0x0A

@[simp] theorem State.nget_setOver (s : State) (e n : Nat) : nget e (s.setOver e n).tt.overruns = n :=
  nget_nset_self e n s.tt.overruns

/-- A task that overruns is counted and shown, and the event is raised; the rest of the timetable is kept. -/
theorem State.overrun_facts (s : State) (e typ : Nat) :
    nget e (s.overrun e typ).tt.overruns = nget e s.tt.overruns + 1 ∧
    (s.overrun e typ).get Reg.TT_OVRSTAT_ENTRY = e % 2 ^ Reg.TT_OVRSTAT_ENTRY.wid ∧
    (s.overrun e typ).get Reg.TT_OVRSTAT_COUNT = min 15 (nget e s.tt.overruns + 1) ∧ (s.overrun e typ).now = s.now ∧
    QuietWordsKept [Reg.TT_OVRSTAT] s (s.overrun e typ) ∧ BytesKept s (s.overrun e typ) := by
  unfold State.overrun
  generalize hn : nget e s.tt.overruns + 1 = n
  have hset := s.nget_setOver e n
  have hk : QuietWordsKept [Reg.TT_OVRSTAT] s (s.setOver e n) := (WordsKept.refl _ s).quiet
  have hb : BytesKept s (s.setOver e n) := .of_mem rfl
  have hnow : (s.setOver e n).now = s.now := rfl
  dsimp only
  generalize s.setOver e n = u at hset hk hb hnow ⊢
  obtain ⟨hentry, hcount, hqw, hby, -⟩ := u.noteOverrun_facts e typ n
  obtain ⟨r, m, x, v, hx⟩ := u.noteOverrun_only e typ n
  exact ⟨by rw [hx]; exact hset, hentry, hcount, by rw [hx]; exact hnow, hk.trans hqw, hb.trans hby⟩

/-- A task that overruns below the limit is counted, shown and killed. -/
theorem exec_taskOverrun {e : Nat} {k : Task} (h : s.taskOf e = some k) (hk : k.killed = none) (hb : k.budget ≠ 0)
    (hl : nget e s.tt.overruns + 1 < s.ovrLimit) :
    exec (.taskOverrun e) s = .next (((s.advanceTo (k.rel + k.budget)).overrun e (taskType k.pair)).killTask e k.pair) := by
  obtain ⟨hcount, -, -, -, hq, -⟩ := (s.advanceTo (k.rel + k.budget)).overrun_facts e (taskType k.pair)
  have hlimit : ((s.advanceTo (k.rel + k.budget)).overrun e (taskType k.pair)).ovrLimit = s.ovrLimit :=
    congrArg (clampN 1 15) (hq.get Reg.TT_OVRLIM_LIMIT (by decide) (by decide))
  show execTaskOverrun e s = _
  unfold execTaskOverrun
  simp only [h]
  rw [if_neg (by simp [hb, hk])]
  refine if_neg ?_
  change ¬ ((s.advanceTo (k.rel + k.budget)).overrun e (taskType k.pair)).ovrLimit ≤
    nget e ((s.advanceTo (k.rel + k.budget)).overrun e (taskType k.pair)).tt.overruns
  rw [hcount, hlimit]
  exact not_le.2 hl

end Sys2Proof.Machine

open Sys2Proof Sys2Proof.Machine

/-- Settles O14, command by command: the two ends of a load, the three ends of a task, its overrun, and the slot. -/
theorem timetableCommands : Obligations.TimetableCommands := by
  refine ⟨?load, ?loadStays, ?loadDone, ?taskDone, ?killAck, ?overrun, ?timeout, ?slot⟩
  case load =>
    intro ini buf s ha hl hm
    obtain ⟨hst, hw, -, hmem, -⟩ := s.putLoad_facts buf.toNat 1 0 (by decide)
    rw [exec_imageLoad ini ha hl hm]
    exact .next ⟨rfl, (State.loadState_congr rfl _).trans hst, rfl, hw.of_regs rfl, hmem⟩
  case loadStays => exact fun ini buf go s h => exec_imageLoad_stays ini h
  case loadDone =>
    intro buf a s h _ ha
    rw [exec_imageLoadDone h]
    refine .next ?_
    split
    · obtain ⟨hst, hw, htt, hm, -⟩ := (s.loadEnds.fillBuffer buf (s.imageAt a)).putLoad_facts buf 2 0 (by decide)
      exact ⟨congrArg Tt.loading htt, hst, congrArg Tt.bufs htt, hw, hm⟩
    · obtain ⟨hst, hw, htt, hm, hp⟩ := s.loadEnds.putLoad_facts buf 3 (s.imageReason a) (by decide)
      generalize s.loadEnds.putLoad buf 3 (s.imageReason a) = u at hst hw htt hm hp
      have hau : u.alive = true := by rw [State.alive, hp]; exact ha
      have hk : QuietWordsKept [Reg.TT_LOADSTAT] s u := hw.quiet
      have htt' := (State.raise_tt u Ev.TT_IMAGE_REFUSED).trans htt
      refine ⟨by rw [htt']; rfl, ?_, by rw [htt']; rfl,
        State.raised_raise u _ hau (by decide), hk.raise _, (BytesKept.of_mem hm).raise _⟩
      refine Eq.trans ?_ hst
      simp (disch := decide) only [State.loadState, State.get_raise]
  case taskDone =>
    intro p e k s h hp hk hb ht
    rw [exec_taskDone h hp hk hb ht]
    exact .next ⟨s.taskOf_endTask e, (s.endTask e).nget_setOver e 0, rfl, rfl⟩
  case killAck =>
    intro p e u k s h hp hk ht
    obtain ⟨htt, hr, hm, -⟩ := (s.endTask e).setCore_facts p { s.core p with killTrap := false }
    rw [exec_killAck h hp hk ht]
    refine .next ⟨?_, congrArg Core.killTrap (State.core_setCore _ _ _), hr, hm⟩
    simpa only [State.taskOf, htt] using s.taskOf_endTask e
  case overrun =>
    intro e k s h hk hb hl
    rw [exec_taskOverrun h hk hb hl]
    obtain ⟨hover, hentry, hcount, hnow, hqw, hby⟩ :=
      (s.advanceTo (k.rel + k.budget)).overrun_facts e (taskType k.pair)
    generalize (s.advanceTo (k.rel + k.budget)).overrun e (taskType k.pair) = o at *
    obtain ⟨hov, htrap, hnk, hkilled, hr, hm⟩ := o.killTask_facts e k.pair
    have hget : ∀ f, (o.killTask e k.pair).get f = o.get f := fun f => by simp only [State.get, State.word_congr hr]
    refine .next ⟨by rw [hov]; exact hover, htrap, (hget _).trans hentry, (hget _).trans hcount, ?_, ?_,
      QuietWordsKept.of_regs hqw hr, BytesKept.of_eq hby hm⟩
    · rw [hnk, hnow]
      exact Nat.le_max_right _ _
    · rw [hnk]
      exact hkilled
  case timeout => exact fun e u k s h hk => exec_killAckTimeout h hk
  case slot => exact fun slot s ha hs => if_pos (by simp [ha, hs])

end

section
/-!
The commit (R61, R63): what makes the staged words active, and what the commit shows before its effects.
-/
namespace Sys2Proof.Machine

variable {s : State}

/-! ### The words with staged copies -/

/-- A word with a staged copy lies from offset 0x40 up, below the staged copies, and its register has RWS fields. -/
theorem mem_rwsAddrs {full : Bool} {a : Nat} (h : a ∈ rwsAddrs full) :
    0x40 ≤ a % 0x1000 ∧ a % 0x1000 < 0x800 ∧
    ∃ r, rowOf ((a - 0x40000000) / 0x1000) (a % 0x1000) = some r ∧ r.rws ≠ 0 := by
  unfold rwsAddrs at h
  obtain ⟨l, hl, hal⟩ := List.mem_flatten.1 h
  obtain ⟨p, hp, rfl⟩ := List.mem_map.1 hl
  obtain ⟨off, hoff, hrow⟩ := List.mem_filterMap.1 hal
  obtain ⟨k, hk, rfl⟩ := List.mem_map.1 hoff
  have hk' := List.mem_range.1 hk
  split at hrow
  next r hr =>
    split at hrow
    next => exact absurd hrow (by simp)
    next hne =>
      have ha : a = pageBase p + (0x40 + 4 * k) := (Option.some.inj hrow).symm
      have hmod : a % 0x1000 = 0x40 + 4 * k := by rw [ha, pageBase]; omega
      have hpage : (a - 0x40000000) / 0x1000 = p := by rw [ha, pageBase]; omega
      exact ⟨by omega, by omega, r, by rw [hmod, hpage]; exact hr, hne⟩
  next => exact absurd hrow (by simp)

/-- A register without RWS fields has no staged copy. -/
theorem not_mem_rwsAddrs {full : Bool} {a : Nat}
    (h : (rowOf ((a - 0x40000000) / 0x1000) (a % 0x1000)).all (·.rws == 0) = true) : a ∉ rwsAddrs full := by
  intro ha
  obtain ⟨-, -, r, hr, hne⟩ := mem_rwsAddrs ha
  rw [hr] at h
  exact hne (by simpa using h)

/-- The words with staged copies are neither events, counters of the black box, staging states nor what a commit shows. -/
theorem rwsAddrs_apart {full : Bool} {a : Nat} (h : a ∈ rwsAddrs full) :
    quiet a = true ∧ a ∉ stagingWords ∧ a ∉ [Reg.STG_STAT, Reg.STG_CTICK] := by
  obtain ⟨hlo, -, -⟩ := mem_rwsAddrs h
  have hne : ∀ b, b ∉ rwsAddrs full → a ≠ b := fun b hb => ne_of_mem_of_not_mem h hb
  have hptr := hne Reg.BBX_RECPTR (not_mem_rwsAddrs (by decide))
  have hnum := hne Reg.BBX_RECNUM (not_mem_rwsAddrs (by decide))
  have hdrops := hne Reg.BBX_DROPS (not_mem_rwsAddrs (by decide))
  have hstat := hne Reg.STG_STAT (not_mem_rwsAddrs (by decide))
  have htick := hne Reg.STG_CTICK (not_mem_rwsAddrs (by decide))
  refine ⟨?_, not_mem_stagingWords (by omega), by simp [hstat, htick]⟩
  simp only [quiet, Bool.and_eq_true, bne_iff_ne]
  exact ⟨⟨⟨⟨by omega, by omega⟩, hptr⟩, hnum⟩, hdrops⟩

/-- Words that are none another's staged copy each take the value of theirs. -/
theorem State.word_foldl_staged (l : List Nat) (h : ∀ a ∈ l, ∀ b ∈ l, b + 0x800 ≠ a) (s : State) (b : Nat) :
    (l.foldl (fun s a => s.setWord a (s.word (a + 0x800))) s).word b =
      if b ∈ l then s.word (b + 0x800) else s.word b := by
  induction l generalizing s with
  | nil => rfl
  | cons a l ih =>
    rw [List.foldl_cons, ih (fun x hx y hy => h x (.tail _ hx) y (.tail _ hy))]
    by_cases hb : b ∈ l
    · rw [if_pos hb, if_pos (.tail _ hb), State.word_setWord_ne _ _ _ _ (h a (.head _) b (.tail _ hb))]
    · rw [if_neg hb]
      by_cases hba : b = a
      · subst hba
        rw [State.word_setWord_self, if_pos (.head _)]
      · rw [State.word_setWord_ne _ _ _ _ hba, if_neg (by simp [hb, hba])]

theorem State.mem_maskedWords {mask a : Nat} :
    a ∈ s.maskedWords mask ↔ a ∈ rwsAddrs s.full ∧ mask.testBit (pageOf a) = true := List.mem_filter

/-- The staged words of the masked pages in force, every other word as it was. -/
theorem State.word_withStaged (s : State) (mask b : Nat) :
    (s.withStaged mask).word b = if b ∈ s.maskedWords mask then s.word (b + 0x800) else s.word b := by
  refine State.word_foldl_staged _ (fun x hx y hy hxy => ?_) s b
  obtain ⟨-, hx1, -⟩ := mem_rwsAddrs (State.mem_maskedWords.1 hx).1
  obtain ⟨hy0, hy1, -⟩ := mem_rwsAddrs (State.mem_maskedWords.1 hy).1
  omega

/-- The staged words in force differ from the state in register words alone. -/
theorem State.withStaged_only (s : State) (mask : Nat) : ∃ r, s.withStaged mask = { s with regs := r } := by
  unfold State.withStaged
  generalize s.maskedWords mask = l
  induction l using List.reverseRecOn with
  | nil => exact ⟨s.regs, rfl⟩
  | append_singleton l a ih =>
    obtain ⟨r, hr⟩ := ih
    rw [List.foldl_append, hr]
    exact ⟨_, rfl⟩

/-! ### What a commit shows -/

/-- The committed pages read SYNC, without a mismatch of their copies. -/
def State.syncPages (s : State) (mask : Nat) : State :=
  (List.range 32).foldl (fun s p => if mask.testBit p then (s.put (stgField p) 0).putB (xmisField p) false else s) s

/-- One page of a mask is in SYNC, the others keep their state. -/
theorem State.get_stgField_sync (s : State) (p q : Nat) :
    ((s.put (stgField p) 0).putB (xmisField p) false).get (stgField q) = if q = p then 0 else s.get (stgField q) := by
  have hx : (xmisField p).apart (stgField q) = true := by simp [Fld.apart, xmisField, stgField]
  rw [State.get_putB_apart _ _ _ _ hx]
  split
  next h => rw [h, State.get_stgField_put_self]
  next h => rw [State.get_stgField_put_ne _ _ _ _ h]

theorem State.syncPages_facts (s : State) (mask : Nat) :
    (∃ r, s.syncPages mask = { s with regs := r }) ∧ WordsKept stagingWords s (s.syncPages mask) ∧
    ∀ q : Fin 32, (s.syncPages mask).get (stgField q) = if mask.testBit q then 0 else s.get (stgField q) := by
  have key : ∀ n ≤ 32, ∀ t, t = (List.range n).foldl (fun s p =>
      if mask.testBit p then (s.put (stgField p) 0).putB (xmisField p) false else s) s →
      (∃ r, t = { s with regs := r }) ∧ WordsKept stagingWords s t ∧
      ∀ q, t.get (stgField q) = if q < n ∧ mask.testBit q = true then 0 else s.get (stgField q) := by
    intro n
    induction n with
    | zero =>
      rintro - t rfl
      exact ⟨⟨_, rfl⟩, .refl _ _, fun q => by simp⟩
    | succ n ih =>
      rintro hn t rfl
      rw [List.range_succ, List.foldl_append, List.foldl_cons, List.foldl_nil]
      obtain ⟨⟨r, hr⟩, hw, hq⟩ := ih (by omega) _ rfl
      generalize (List.range n).foldl _ s = u at hr hw hq
      have hmem := stgstatAddr_mem (q := n) (by omega)
      split
      next hm =>
        refine ⟨by rw [hr]; exact ⟨_, rfl⟩, (hw.put (f := stgField n) hmem _).putB (f := xmisField n) hmem _,
          fun q => ?_⟩
        rw [State.get_stgField_sync, hq]
        by_cases hqn : q = n
        · subst hqn; simp [hm]
        · simp only [if_neg hqn, show q < n + 1 ↔ q < n by omega]
      next hm =>
        refine ⟨⟨r, hr⟩, hw, fun q => ?_⟩
        rw [hq]
        by_cases hqn : q = n
        · subst hqn; simp [hm]
        · simp only [show q < n + 1 ↔ q < n by omega]
  obtain ⟨honly, hw, hq⟩ := key 32 (Nat.le_refl _) _ rfl
  exact ⟨honly, hw, fun q => (hq q).trans (by simp [q.isLt])⟩

/-- A commit as the registers show it: its words active, its pages in SYNC, its tick and its event. -/
def State.committed (s : State) : State :=
  let u := ((s.withStaged s.stg.mask).syncPages s.stg.mask).stgEnd 4
  (u.put Reg.STG_CTICK_TICK u.tick32).raise Ev.STG_COMMITTED

/-- What a commit leaves with the link: the digests the lead expects, a local commit, the lead's SETID. -/
def State.commitNoted (s old : State) : State :=
  let s : State := if (old.isLead && old.stg.cascade) = true then
    { s with csc := { s.csc with expect := old.stg.digests.foldl (fun m e => nset e.1 e.2 m) s.csc.expect } } else s
  let s : State := if !s.isLead ∧ !old.stg.remote then { s with csc := { s.csc with localDone := true } } else s
  if old.stg.remote then { s with csc := { s.csc with leadSet := some old.stg.setid } } else s

/-- A commit is shown and noted; a commit of the cascade aborts the impedance point; its effects follow. -/
theorem State.stgCommit_eq (s : State) : s.stgCommit = State.commitEffects
    (if s.stg.cascade then (s.committed.commitNoted s).eisAbort.eisExc else s.committed.commitNoted s) s s.stg.mask := by
  unfold State.stgCommit State.commitNoted State.committed State.syncPages
  rfl

theorem State.commitNoted_only (s old : State) : ∃ c, s.commitNoted old = { s with csc := c } := by
  have step : ∀ (p : Prop) [Decidable p] (u : State) (k : Csc), (∃ c, u = { s with csc := c }) →
      ∃ c, (if p then { u with csc := k } else u) = { s with csc := c } := by
    rintro p _ u k ⟨c, rfl⟩
    split
    · exact ⟨k, rfl⟩
    · exact ⟨c, rfl⟩
  exact step _ _ _ (step _ _ _ (step _ _ _ ⟨s.csc, rfl⟩))

theorem State.committed_facts (ha : s.alive = true) :
    (∀ a ∈ rwsAddrs s.full, s.stg.mask.testBit (pageOf a) = true → s.committed.word a = s.word (a + 0x800)) ∧
    (∀ q : Fin 32, s.committed.get (stgField q) = if s.stg.mask.testBit q then 0 else s.get (stgField q)) ∧
    s.committed.stg = { digests := s.stg.digests } ∧ s.committed.get Reg.STG_STAT_STATE = 4 ∧
    s.committed.get Reg.STG_CTICK_TICK = s.tick % 2 ^ 32 ∧ s.committed.raised Ev.STG_COMMITTED = true := by
  obtain ⟨r, hw⟩ := s.withStaged_only s.stg.mask
  have hword := s.word_withStaged s.stg.mask
  have hx : s.committed = ((((s.withStaged s.stg.mask).syncPages s.stg.mask).stgEnd 4).put Reg.STG_CTICK_TICK
    (((s.withStaged s.stg.mask).syncPages s.stg.mask).stgEnd 4).tick32).raise Ev.STG_COMMITTED := rfl
  rw [hx]
  generalize s.withStaged s.stg.mask = w at hw hword
  obtain ⟨⟨r', hy⟩, hyw, hyq⟩ := w.syncPages_facts s.stg.mask
  generalize w.syncPages s.stg.mask = y at hy hyw hyq
  obtain ⟨hstg, hst, hpages, hew, -, hpow⟩ := y.stgEnd_facts 4 (by decide)
  have htick : (y.stgEnd 4).tick32 = s.tick % 2 ^ 32 := by rw [hy, hw]; rfl
  generalize y.stgEnd 4 = z at hstg hst hpages hew hpow htick
  have hez : WordsKept [Reg.STG_STAT, Reg.STG_CTICK] y z := hew.mono (by simp)
  have hz : QuietWordsKept ([Reg.STG_STAT, Reg.STG_CTICK] ++ stagingWords) w
      ((z.put Reg.STG_CTICK_TICK z.tick32).raise Ev.STG_COMMITTED) :=
    (hyw.append (hez.put (f := Reg.STG_CTICK_TICK) (by decide) _)).quiet.raise _
  have haz : (z.put Reg.STG_CTICK_TICK z.tick32).alive = true := by
    rw [State.alive, State.put_power, hpow, hy, hw]; exact ha
  refine ⟨fun a hm hb => ?_, fun q => ?_, ?_, ?_, ?_, State.raised_raise _ _ haz (by decide)⟩
  · obtain ⟨hquiet, hpage, hstat⟩ := rwsAddrs_apart hm
    rw [hz a hquiet (by simp only [List.mem_append, not_or]; exact ⟨hstat, hpage⟩), hword,
      if_pos (State.mem_maskedWords.2 ⟨hm, hb⟩)]
  · have hq : w.get (stgField q) = s.get (stgField q) := by
      have hn : (stgField q).addr ∉ s.maskedWords s.stg.mask := fun hm =>
        (rwsAddrs_apart (State.mem_maskedWords.1 hm).1).2.1 (stgstatAddr_mem q.isLt)
      rw [State.get, hword, if_neg hn, State.get]
    have hct : (z.put Reg.STG_CTICK_TICK z.tick32).get (stgField q) = z.get (stgField q) :=
      ((WordsKept.refl [Reg.STG_CTICK] z).put (.head _) _).get_stgField (by decide) q
    rw [State.get_raise _ _ (stgField q) (quiet_stgstatAddr q), hct, hpages, hyq, hq]
  · rw [State.raise_stg, State.put_stg, hstg, hy, hw]
  · rw [State.get_raise _ _ _ (by decide), State.get_put_apart _ _ _ _ (by decide), hst]
  · rw [State.get_raise _ _ _ (by decide), State.get_put_self _ _ _ (by decide), htick]
    exact Nat.mod_mod _ _

/-! ### The commit point -/

/-- The entry of the commit point in a schedule that is still ahead in the frame. -/
def State.commitEntry (s : State) (m : Image) (r p : Nat) : Option (Nat × Entry) :=
  (m.sched r).find? fun e => e.2.typ == 13 && e.2.target == p && decide (s.now ≤ s.fstart + 1000 * e.2.slot)

/-- At the slot of the entry a check that is over its limit ends, and a commit that is due is made. -/
def State.commitAt (s : State) (p slot : Nat) : State :=
  let u := (s.advanceTo (s.fstart + 1000 * slot)).stgOverdue
  if u.stgDue p then u.stgCommit else u

theorem exec_commitPointReached {p r : Nat} {m : Image} (hm : s.activeImage = some m) (hr : s.tt.sched = some r) :
    exec (.commitPointReached p) s = .next ((s.commitEntry m r p).elim s fun e =>
      if s.alive && !s.sleeping && p != 0 then s.commitAt p e.2.slot else s) := by
  show execCommitPointReached p s = _
  unfold execCommitPointReached
  simp only [hm, hr]
  split
  next e he =>
    rw [show s.commitEntry m r p = some e from he]
    exact (apply_ite Host.Outcome.next _ _ _).symm
  next he => rw [show s.commitEntry m r p = none from he]; rfl

/-- Without an active image or a schedule, in reset or Sleep, and at POINT 0, no commit point acts. -/
theorem exec_commitPointReached_stays {p : Nat}
    (h : s.activeImage = none ∨ s.tt.sched = none ∨ s.alive = false ∨ s.sleeping = true ∨ p = 0) :
    exec (.commitPointReached p) s = .next s := by
  cases hm : s.activeImage with
  | none => show execCommitPointReached p s = _; unfold execCommitPointReached; simp only [hm]
  | some m =>
    cases hr : s.tt.sched with
    | none => show execCommitPointReached p s = _; unfold execCommitPointReached; simp only [hm, hr]
    | some r =>
      rw [exec_commitPointReached hm hr]
      cases s.commitEntry m r p with
      | none => rfl
      | some e =>
        refine congrArg _ (if_neg ?_)
        simp only [hm, hr, reduceCtorEq, false_or] at h
        rcases h with h | h | h <;> simp [h]

end Sys2Proof.Machine
end

section
/-!
The commit of a cascade (R64): the arm that a follower receives, the report that the lead receives, and the deadline.
-/
namespace Sys2Proof.Machine

variable {s : State}

/-! ### The arm -/

/-- A follower takes the lead's arm of a cascade commit, with the lead's SETID after it. -/
def State.armTaken (s : State) (mask setid : Nat) : State :=
  { s.stgBegin mask 0 true true with stg := { (s.stgBegin mask 0 true true).stg with setid } }

/-- An arm that is taken changes the pending commit and the words of staging alone. -/
theorem State.armTaken_facts (s : State) (mask setid : Nat) :
    WordsKept (Reg.STG_STAT :: stagingWords) s (s.armTaken mask setid) ∧ ∃ r, s.armTaken mask setid = { s with
      regs := r, stg := { digests := s.stg.digests, armed := true, mask, armedAt := s.now, cascade := true, remote := true,
                          setid } } := by
  obtain ⟨u, hu⟩ : ∃ u : State, u = { s with stg :=
      { digests := s.stg.digests, armed := true, mask, armedAt := s.now, cascade := true, remote := true } } := ⟨_, rfl⟩
  have hb : s.stgBegin mask 0 true true =
      ((u.stageMask mask 2).put Reg.STG_STAT_STATE 1).putB Reg.STG_STAT_CASCADE true := by rw [hu]; rfl
  obtain ⟨r, hr⟩ := u.stageMask_only mask 2
  obtain ⟨hw, -⟩ := u.stageMask_facts mask 2
  have hk : WordsKept (Reg.STG_STAT :: stagingWords) s (s.stgBegin mask 0 true true) := by
    rw [hb]
    have hs : WordsKept stagingWords s (u.stageMask mask 2) := by subst hu; exact hw
    exact hs.append (l' := [Reg.STG_STAT]) (((WordsKept.refl _ _).put (by decide) _).putB (by decide) _)
  refine ⟨hk.of_regs rfl, ?_⟩
  rw [hr] at hb
  unfold State.armTaken
  rw [hb, hu]
  exact ⟨State.regs _, rfl⟩

/-- The digest that the report of an arm carries. -/
def State.armDigest (s : State) (mask : Nat) : Nat :=
  let s := s.stgBegin mask 0 true true
  let w := s.withStaged mask
  State.digest (if mask.testBit 4 then
    w.put Reg.TT_SETID_SETID ((w.selectedImage.map (fun m : Image => m.setid)).getD (s.get Reg.TT_SETID_SETID)) else w)

/-- A live follower checks the commit at once and reports the first failure, or a pass. -/
theorem exec_cascadeArmReceived (m : Nat) (f : Bool) (i : Nat) (hl : s.isLead = false) (ha : s.alive = true)
    (h : s.stg.armed = false) : exec (.cascadeArmReceived m f i) s = .next
      (((s.armTaken (s.stgPages m) i).firstFailure (s.stgPages m) 0 true f (some i)).elim
        ((s.armTaken (s.stgPages m) i).stgPass.send .report 0 0 (s.armDigest (s.stgPages m)))
        fun x => ((s.armTaken (s.stgPages m) i).stgReject ((s.armTaken (s.stgPages m) i).failWord (s.stgPages m) x)).send
          .report 0 ((s.armTaken (s.stgPages m) i).failWord (s.stgPages m) x) (s.armDigest (s.stgPages m))) := by
  show execCascadeArmReceived m f i s = _
  unfold execCascadeArmReceived
  rw [if_neg (by simp [hl, ha]), if_neg (by simp [h])]
  dsimp only
  split
  next x hx =>
    change (s.armTaken (s.stgPages m) i).firstFailure (s.stgPages m) 0 true f (some i) = some x at hx
    rw [hx]
    rfl
  next hx =>
    change (s.armTaken (s.stgPages m) i).firstFailure (s.stgPages m) 0 true f (some i) = none at hx
    rw [hx]
    rfl

/-! ### The outcome on the link -/

theorem State.stgPass_csc (s : State) : s.stgPass.csc = s.csc := by
  unfold State.stgPass
  exact State.stageMask_csc _ _ _

/-- A commit that is rejected sends the disarm of a cascade commit from the lead, and nothing else. -/
theorem State.stgReject_txq (s : State) (f : Nat) : (s.stgReject f).csc.txq =
    if s.isLead = true ∧ s.stg.cascade = true then s.csc.txq ++ [⟨.disarm, 8, s.stg.mask, 0⟩] else s.csc.txq := by
  unfold State.stgReject
  simp only [State.raise_csc, State.stgEnd_csc, State.stageMask_csc]
  split
  next h => exact (if_pos h).symm
  next h => exact (if_neg h).symm

/-- An arm whose check passes: the commit is pending with the check passed, and the report of a pass is sent. -/
theorem State.armTaken_passes (s : State) (mask i d : Nat) :
    let t := (s.armTaken mask i).stgPass.send .report 0 0 d
    t.stg = { digests := s.stg.digests, armed := true, mask, point := 0, armedAt := s.now, cascade := true, remote := true,
              passed := true, setid := i } ∧
    t.get Reg.STG_STAT_STATE = 2 ∧ t.word Reg.STG_FAIL = 0 ∧
    (∃ d, t.csc.txq = s.csc.txq ++ [⟨.report, 0, 0, d⟩]) ∧
    WordsKept (Reg.STG_STAT :: Reg.STG_FAIL :: stagingWords) s t := by
  obtain ⟨hw, r, hr⟩ := s.armTaken_facts mask i
  generalize s.armTaken mask i = u at hw hr
  obtain ⟨hstg, hst, hfail, -, hpw, -⟩ := u.stgPass_facts
  have hcsc := u.stgPass_csc
  generalize u.stgPass = v at hstg hst hfail hpw hcsc
  refine ⟨hstg.trans (by rw [hr]), hst, hfail, ⟨d, ?_⟩, fun a hn => ?_⟩
  · have htx : (v.send .report 0 0 d).csc.txq = v.csc.txq ++ [⟨.report, 0, 0, d⟩] := rfl
    rw [htx, hcsc, hr]
  · simp only [List.mem_cons, not_or] at hn
    obtain ⟨hstat, hfl, hpage⟩ := hn
    exact (hpw a (by simp [hstat, hfl, hpage])).trans (hw a (by simp [hstat, hpage]))

/-- An arm whose check fails: the commit is rejected at once, and the failure is reported. -/
theorem State.armTaken_rejected (hl : s.isLead = false) (ha : s.alive = true) (mask i f d : Nat) :
    let t := ((s.armTaken mask i).stgReject f).send .report 0 f d
    t.stg = { digests := s.stg.digests } ∧ t.get Reg.STG_STAT_STATE = 3 ∧ t.raised Ev.STG_REJECT = true ∧
    (∃ d, t.csc.txq = s.csc.txq ++ [⟨.report, 0, f, d⟩]) ∧
    QuietWordsKept (Reg.STG_STAT :: Reg.STG_FAIL :: stagingWords) s t := by
  obtain ⟨hw, r, hr⟩ := s.armTaken_facts mask i
  generalize s.armTaken mask i = u at hw hr
  have hlu : u.isLead = false := by rw [hr]; exact hl
  have hau : u.alive = true := by rw [hr]; exact ha
  obtain ⟨hend, -⟩ := State.stgReject_ended f hau
  have htxq := (u.stgReject_txq f).trans (if_neg (by simp [hlu]))
  obtain ⟨hstg, hst, -, hev, -, hpw⟩ := hend
  generalize u.stgReject f = v at htxq hstg hst hev hpw
  refine ⟨hstg.trans (by rw [hr]), hst, hev, ⟨d, ?_⟩, fun a hq hn => ?_⟩
  · have htx : (v.send .report 0 f d).csc.txq = v.csc.txq ++ [⟨.report, 0, f, d⟩] := rfl
    rw [htx, htxq, hr]
  · simp only [List.mem_cons, not_or] at hn
    obtain ⟨hstat, hfl, hpage⟩ := hn
    exact (hpw a hq (by simp [hstat, hfl, hpage])).trans (hw a (by simp [hstat, hpage]))

/-! ### The deadline -/

/-- The own check that has ended is not ended again. -/
theorem State.stgOverdue_checked (h : s.get Reg.STG_STAT_STATE ≠ 1) : s.stgOverdue = s := by
  unfold State.stgOverdue
  rw [State.stgCheck_idle (.inr (.inr h)), ite_self]

/-- At the deadline a commit of the cascade slips to the next boundary. -/
def State.slip (s : State) : State :=
  let s := s.advanceTo (s.fstart + 900000)
  (s.put Reg.STG_STAT_SLIPS (s.get Reg.STG_STAT_SLIPS + 1)).raise Ev.STG_SLIP

theorem State.slip_only (s : State) : ∃ r m x v, s.slip =
    { s.advanceTo (s.fstart + 900000) with regs := r, mem := m, bbx := x, evAt := v } := by
  obtain ⟨r, m, x, v, h⟩ := ((s.advanceTo (s.fstart + 900000)).put Reg.STG_STAT_SLIPS
    (s.get Reg.STG_STAT_SLIPS + 1)).raise_only Ev.STG_SLIP
  exact ⟨r, m, x, v, h⟩

/-- A slip is counted and raised. -/
theorem State.slip_facts (s : State) (h : s.get Reg.STG_STAT_SLIPS < 15) :
    s.slip.get Reg.STG_STAT_SLIPS = s.get Reg.STG_STAT_SLIPS + 1 ∧
    (s.alive = true → s.slip.raised Ev.STG_SLIP = true) ∧
    QuietWordsKept [Reg.STG_STAT] s s.slip ∧ BytesKept s s.slip ∧ s.slip.devNum = s.devNum := by
  generalize hu : (s.advanceTo (s.fstart + 900000)).put Reg.STG_STAT_SLIPS (s.get Reg.STG_STAT_SLIPS + 1) = u
  have hx : s.slip = u.raise Ev.STG_SLIP := by rw [← hu]; rfl
  have hget : u.get Reg.STG_STAT_SLIPS = s.get Reg.STG_STAT_SLIPS + 1 := by
    rw [← hu, State.get_put_self _ _ _ (by decide)]
    exact Nat.mod_eq_of_lt (show _ < 16 by omega)
  have hk : WordsKept [Reg.STG_STAT] s u := by
    rw [← hu]; exact ((WordsKept.refl _ s).of_regs rfl).put (by decide) _
  have hb : BytesKept s u := by rw [← hu]; exact .of_mem rfl
  have ha : s.alive = true → u.alive = true := fun ha => by rw [← hu]; exact ha
  rw [hx]
  exact ⟨(State.get_raise u _ _ (by decide)).trans hget, fun hs => State.raised_raise u _ (ha hs) (by decide),
    hk.quiet.raise _, hb.raise _, (hk.quiet.raise _).get Reg.SYS_PROFSTAT_DEVNUM (by decide) (by decide)⟩

/-- The deadline of a commit whose own check has ended: the flag with every report, a slip without, the fourth of which
rejects the commit. -/
theorem exec_cascadeReportDeadline (hl : s.isLead = true) (ha : s.alive = true) (h : s.stg.armed = true)
    (hc : s.stg.cascade = true) (hf : s.stg.flag = false) (h0 : s.stg.armedAt < s.fstart + 900000)
    (h1 : s.now ≤ s.fstart + 900000) (hst : s.get Reg.STG_STAT_STATE ≠ 1) :
    exec .cascadeReportDeadline s = .next
      (if s.stg.passed = true ∧ s.enumerated &&& s.stg.reports = s.enumerated then
        { s.advanceTo (s.fstart + 900000) with stg := { s.stg with flag := true } }
      else if 4 ≤ s.slip.get Reg.STG_STAT_SLIPS then s.slip.stgReject (15 + s.slip.devNum * 2 ^ 24) else s.slip) := by
  show execCascadeReportDeadline s = _
  unfold execCascadeReportDeadline
  rw [if_pos ⟨hl, ha, h, hc, by simp [hf], h0, h1⟩]
  have hu : (s.advanceTo (s.fstart + 900000)).stgOverdue = s.advanceTo (s.fstart + 900000) :=
    State.stgOverdue_checked hst
  simp only [hu]
  rw [if_neg (by simp [h])]
  split
  next hp => exact congrArg _ (if_pos hp).symm
  next hp => exact congrArg _ (if_neg hp).symm

/-- The fourth slip rejects the commit with CHECK 15, and disarms the followers. -/
theorem State.slip_rejected (hl : s.isLead = true) (ha : s.alive = true) (hc : s.stg.cascade = true)
    (h : s.get Reg.STG_STAT_SLIPS < 15) :
    let t := s.slip.stgReject (15 + s.slip.devNum * 2 ^ 24)
    t.stg = { digests := s.stg.digests } ∧ t.get Reg.STG_STAT_STATE = 3 ∧ t.raised Ev.STG_REJECT = true ∧
    t.word Reg.STG_FAIL = BitVec.ofNat 32 (15 + s.devNum * 2 ^ 24) ∧
    t.csc.txq = s.csc.txq ++ [⟨.disarm, 8, s.stg.mask, 0⟩] := by
  obtain ⟨-, -, -, -, hdev⟩ := s.slip_facts h
  obtain ⟨r, m, x, v, hx⟩ := s.slip_only
  rw [hdev]
  generalize s.slip = u at hx
  have hlu : u.isLead = true := by rw [hx]; exact hl
  have hau : u.alive = true := by rw [hx]; exact ha
  have hcu : u.stg.cascade = true := by rw [hx]; exact hc
  obtain ⟨hend, hfail⟩ := State.stgReject_ended (15 + s.devNum * 2 ^ 24) hau
  refine ⟨hend.stg.trans (by rw [hx]; rfl), hend.state, hend.raised, hfail, ?_⟩
  rw [u.stgReject_txq, if_pos ⟨hlu, hcu⟩, hx]
  rfl

theorem exec_cascadeReportDeadline_stays (h : s.isLead = false ∨ s.alive = false ∨ s.stg.armed = false ∨
    s.stg.cascade = false ∨ s.stg.flag = true ∨ s.fstart + 900000 ≤ s.stg.armedAt ∨ s.fstart + 900000 < s.now) :
    exec .cascadeReportDeadline s = .next s := by
  refine if_neg ?_
  rintro ⟨hl, ha, h1, hc, hf, h0, hn⟩
  rcases h with h | h | h | h | h | h | h
  · exact absurd (hl.symm.trans h) (by decide)
  · exact absurd (ha.symm.trans h) (by decide)
  · exact absurd (h1.symm.trans h) (by decide)
  · exact absurd (hc.symm.trans h) (by decide)
  · exact hf h
  · exact absurd h0 (not_lt.2 h)
  · exact absurd hn (not_le.2 h)

/-! ### Reports -/

theorem exec_checkReportReceived {d : Nat} (w : Word) (g : Nat) (hl : s.isLead = true) (h : s.stg.armed = true)
    (hc : s.stg.cascade = true) (he : s.enumerated.testBit d = true) :
    exec (.checkReportReceived d w g) s = .next (if w = 0 then
        { s with stg := { s.stg with reports := bitTo s.stg.reports d true, digests := nset d (g + 1) s.stg.digests } }
      else s.stgReject (Reg.STG_FAIL_DEV.insert w d).toNat) := by
  show execCheckReportReceived d w g s = _
  unfold execCheckReportReceived
  rw [if_pos ⟨hl, h, hc, he⟩]
  split <;> rfl

theorem exec_checkReportReceived_stays {d : Nat} (w : Word) (g : Nat) (h : s.isLead = false ∨ s.stg.armed = false ∨
    s.stg.cascade = false ∨ s.enumerated.testBit d = false) : exec (.checkReportReceived d w g) s = .next s := by
  refine if_neg ?_
  rintro ⟨hl, h1, hc, he⟩
  rcases h with h | h | h | h
  · exact absurd (hl.symm.trans h) (by decide)
  · exact absurd (h1.symm.trans h) (by decide)
  · exact absurd (hc.symm.trans h) (by decide)
  · exact absurd (he.symm.trans h) (by decide)

end Sys2Proof.Machine

open Sys2Proof Sys2Proof.Machine

/-- Settles O57, command by command: the commit point, what a commit shows, the arm, the report, the deadline, and the two
ends of a commit that the lead armed. -/
theorem commitCommands : Obligations.CommitCommands := by
  refine ⟨?pointStays, ?noEntry, ?point, ?commit, ?armStays, ?armBusy, ?arm, ?reportStays, ?pass, ?fail, ?deadlineStays,
    ?deadline, ?disarm, ?timeout⟩
  case pointStays => exact fun p s h => exec_commitPointReached_stays h
  case noEntry =>
    intro p r m s hm hr he
    rw [exec_commitPointReached hm hr, show s.commitEntry m r p = none from he]
    rfl
  case point =>
    intro p r m e s hm hr he ha hs hp
    rw [exec_commitPointReached hm hr, show s.commitEntry m r p = some e from he]
    exact congrArg _ (if_pos (by simp [ha, hs, hp]))
  case commit =>
    intro u ha
    obtain ⟨hwords, hpages, hstg, hst, htick, hev⟩ := State.committed_facts ha
    refine ⟨u.committed.commitNoted u, u.stgCommit_eq, ?_⟩
    generalize u.committed = k at *
    obtain ⟨c, hc⟩ := k.commitNoted_only u
    rw [hc]
    exact ⟨hwords, hpages, hstg, hst, htick, hev⟩
  case armStays => exact fun m f i s h => if_pos (by simpa using h)
  case armBusy =>
    intro m f i s hl ha h
    have hx : exec (.cascadeArmReceived m f i) s = .next (s.raise Ev.STG_BUSY) :=
      (if_neg (by simp [hl, ha])).trans (if_pos h)
    rw [hx]
    exact .next ⟨State.raised_raise s _ ha (by decide), State.raise_stg _ _, State.raise_csc _ _,
      (WordsKept.refl _ s).quiet.raise _, (BytesKept.of_mem rfl).raise _⟩
  case arm =>
    intro m f i s hl ha h mask u
    have hx := exec_cascadeArmReceived m f i hl ha h
    cases hf : u.firstFailure mask 0 true f (some i) with
    | none =>
      rw [hx, show (s.armTaken (s.stgPages m) i).firstFailure (s.stgPages m) 0 true f (some i) = none from hf]
      exact .next (s.armTaken_passes mask i _)
    | some x =>
      rw [hx, show (s.armTaken (s.stgPages m) i).firstFailure (s.stgPages m) 0 true f (some i) = some x from hf]
      exact .next (State.armTaken_rejected hl ha mask i _ _)
  case reportStays => exact fun d w g s h => exec_checkReportReceived_stays w g h
  case pass =>
    intro d g s hl h hc he
    rw [exec_checkReportReceived 0 g hl h hc he, if_pos rfl]
    exact .next ⟨rfl, rfl, rfl⟩
  case fail =>
    intro d w g s ha hl h hc he hw
    rw [exec_checkReportReceived w g hl h hc he, if_neg hw]
    obtain ⟨hend, hfail⟩ := State.stgReject_ended (Reg.STG_FAIL_DEV.insert w d).toNat ha
    exact .next ⟨hend.stg, hend.state, hfail.trans (by simp), hend.raised,
      (s.stgReject_txq _).trans (if_pos ⟨hl, hc⟩), hend.words, hend.bytes⟩
  case deadlineStays => exact fun s h => exec_cascadeReportDeadline_stays h
  case deadline =>
    intro s hl ha h hc hf h0 h1 hst
    rw [exec_cascadeReportDeadline hl ha h hc hf h0 h1 hst]
    split
    next => rfl
    next =>
      split
      next h3 =>
        obtain ⟨hnew, hev, hk, hb, -⟩ := s.slip_facts (by omega)
        obtain ⟨r, m, x, v, hx⟩ := s.slip_only
        rw [if_neg (by omega)]
        exact .next ⟨by rw [hx]; rfl, hnew, hev ha, by rw [hx]; exact Nat.max_eq_right h1, hk, hb⟩
      next h3 =>
        intro h15
        obtain ⟨hnew, -⟩ := s.slip_facts h15
        rw [if_pos (by omega)]
        exact .next (State.slip_rejected hl ha hc h15)
  case disarm => exact fun s => rfl
  case timeout =>
    intro s
    by_cases h8 : 8 ≤ s.stg.waited
    · by_cases hr : s.stg.remote = true
      · exact congrArg _ (((if_pos h8).trans (if_pos hr)).trans (if_pos ⟨h8, hr⟩).symm)
      · exact congrArg _ (((if_pos h8).trans (if_neg hr)).trans (if_neg fun h => hr h.2).symm)
    · exact congrArg _ ((if_neg h8).trans (if_neg fun h => h8 h.1).symm)

end

section
/-!
Signed fields (R12): a value held to the field's range reads back.
-/
namespace Sys2Proof.Machine

variable {s : State}

/-- Two's complement of a value in range reads back. -/
theorem signed_twos {k : Nat} {v : Int} (hlo : -(2 ^ k : Int) ≤ v) (hhi : v < 2 ^ k) :
    signed (k + 1) (twos (k + 1) v % 2 ^ (k + 1)) = v := by
  have hpow : (2 : Int) ^ (k + 1) = 2 * 2 ^ k := pow_succ' 2 k
  have hpos : (0 : Int) < 2 ^ k := by positivity
  have hn : ((twos (k + 1) v % 2 ^ (k + 1) : Nat) : Int) = v % 2 ^ (k + 1) := by
    rw [twos, Int.natCast_mod, Int.toNat_of_nonneg (Int.emod_nonneg _ (by positivity))]
    push_cast
    exact Int.emod_emod_of_dvd _ (dvd_refl _)
  have hcast : ((2 ^ k : Nat) : Int) = 2 ^ k := by push_cast; rfl
  unfold signed
  generalize twos (k + 1) v % 2 ^ (k + 1) = n at hn
  rw [Nat.add_sub_cancel]
  by_cases hv : 0 ≤ v
  · rw [Int.emod_eq_of_lt hv (by omega)] at hn
    rw [if_neg (by omega), hn]
  · rw [Int.emod_eq_add_self_emod, Int.emod_eq_of_lt (by omega) (by omega)] at hn
    rw [if_pos (by omega), hn]
    omega

/-- A signed field just written reads the value held to its range. -/
theorem State.getI_putSatI_self (s : State) (f : Fld) (v : Int) (h : f.lo + f.wid ≤ 32) (hw : 0 < f.wid) :
    (s.putSatI f v).getI f = clampI (-(2 ^ (f.wid - 1) : Int)) ((2 ^ (f.wid - 1) : Int) - 1) v := by
  obtain ⟨k, hk⟩ : ∃ k, f.wid = k + 1 := ⟨f.wid - 1, by omega⟩
  have hpos : (0 : Int) < 2 ^ k := by positivity
  rw [State.getI, State.putSatI, State.putI, State.get_put_self _ _ _ h, hk]
  refine signed_twos ?_ ?_ <;> simp only [clampI, Nat.add_sub_cancel] <;> omega

theorem State.getI_put_apart (s : State) (f g : Fld) (v : Nat) (h : f.apart g = true) : (s.put f v).getI g = s.getI g := by
  simp only [State.getI, State.get_put_apart _ _ _ _ h]

/-- A signed field that reads 0 holds 0. -/
theorem State.get_eq_zero_of_getI {f : Fld} (h : s.getI f = 0) : s.get f = 0 := by
  have hlt : s.get f < 2 ^ f.wid := f.extract_lt _
  have hcast : ((2 ^ f.wid : Nat) : Int) = 2 ^ f.wid := by push_cast; rfl
  unfold State.getI signed at h
  split at h <;> omega

theorem WordsKept.putSatI {l : List Nat} {t : State} (h : WordsKept l s t) {f : Fld} (hf : f.addr ∈ l) (v : Int) :
    WordsKept l s (t.putSatI f v) := h.setWord hf _

end Sys2Proof.Machine
end

section
/-!
Thermistor samples (R199 to R204, R464): the word of an input, and the steps of a sample up to its coverage and reactions.
-/
namespace Sys2Proof.Machine

variable {s : State}

/-- The fields of an input's word share no bit, lie in a word of their own, and no event writes them. -/
theorem thmTemp_fields (i : Fin 24) :
    quiet (Reg.THM_TEMP_FLT.at i).addr = true ∧ evrawAddr 9 ≠ (Reg.THM_TEMP_FLT.at i).addr ∧
    (Reg.THM_TEMP_NEAR.at i).apart (Reg.THM_TEMP_FLT.at i) = true ∧
    (Reg.THM_TEMP_NEAR.at i).apart (Reg.THM_TEMP_VALID.at i) = true ∧
    (Reg.THM_TEMP_NEAR.at i).apart (Reg.THM_TEMP_TEMP.at i) = true := by
  revert i
  decide

theorem State.sampleClass_lt (s : State) (i code : Nat) : s.sampleClass i code < 6 := by
  unfold State.sampleClass
  dsimp only
  split_ifs <;> decide

/-- What the word of an input shows: class `c` at temperature `t`. -/
structure TempShown (i c : Nat) (t : Int) (s : State) : Prop where
  flt : s.get (Reg.THM_TEMP_FLT.at i) = c
  valid : s.flag (Reg.THM_TEMP_VALID.at i) = classValid c
  temp : s.getI (Reg.THM_TEMP_TEMP.at i) = clampI (-32768) 32767 t

/-- The word depends on the register store alone. -/
theorem TempShown.of_word {i c : Nat} {t : Int} {u : State} (h : TempShown i c t s)
    (hw : u.word (Reg.THM_TEMP_FLT.at i).addr = s.word (Reg.THM_TEMP_FLT.at i).addr) : TempShown i c t u where
  flt := (congrArg (Reg.THM_TEMP_FLT.at i).extract hw).trans h.flt
  valid := (congrArg (fun w => (Reg.THM_TEMP_VALID.at i).extract w != 0) hw).trans h.valid
  temp := (congrArg (fun w => signed 16 ((Reg.THM_TEMP_TEMP.at i).extract w)) hw).trans h.temp

/-- The temperature that an input shows of a sample of class `c`: the last value shown when it is open or short. -/
def State.shownTemp (s : State) (i c : Nat) (t : Int) : Int := if c = 1 ∨ c = 2 then s.thm.lastGood.getD i 0 else t

theorem classValid_open_short {c : Nat} (h : c = 1 ∨ c = 2) : classValid c = false := by
  rcases h with rfl | rfl <;> rfl

/-- Showing a sample writes the word of the input and the last value shown. -/
theorem State.showTemp_facts (s : State) (i : Fin 24) {c : Nat} (t : Int) (hc : c < 8) :
    TempShown i c (s.shownTemp i c t) (s.showTemp i c t) ∧
    WordsKept [(Reg.THM_TEMP_FLT.at i).addr] s (s.showTemp i c t) ∧
    ∃ r g, s.showTemp i c t = { s with regs := r, thm := { s.thm with lastGood := g } } := by
  obtain ⟨u, hu⟩ : ∃ u, u = (s.put (Reg.THM_TEMP_FLT.at i) c).putB (Reg.THM_TEMP_VALID.at i) (classValid c) :=
    ⟨_, rfl⟩
  obtain ⟨g, hg⟩ : ∃ g : List Int, g = if classValid c then s.thm.lastGood.set i t else s.thm.lastGood := ⟨_, rfl⟩
  have hx : s.showTemp i c t =
      State.putSatI { u with thm := { s.thm with lastGood := g } } (Reg.THM_TEMP_TEMP.at i) (s.shownTemp i c t) := by
    unfold State.showTemp State.shownTemp
    rw [hg, hu]
    by_cases hv : classValid c = true
    · have hn : ¬ (c = 1 ∨ c = 2) := fun h => by simp [classValid_open_short h] at hv
      simp [hv, hn]
    · simp [hv]
      rfl
  have hflt : u.get (Reg.THM_TEMP_FLT.at i) = c := by
    rw [hu, State.get_putB_apart _ _ _ _ (by simp [Fld.apart, Fld.at, Reg.THM_TEMP_VALID, Reg.THM_TEMP_FLT])]
    exact (State.get_put_self _ _ _ (show 24 + 3 ≤ 32 by decide)).trans (Nat.mod_eq_of_lt hc)
  have hvalid : u.flag (Reg.THM_TEMP_VALID.at i) = classValid c := by
    rw [hu]
    exact State.flag_putB_self _ _ _ (show 31 + 1 ≤ 32 by decide) (show 0 < 1 by decide)
  have hk : WordsKept [(Reg.THM_TEMP_FLT.at i).addr] s u := by
    rw [hu]
    exact ((WordsKept.refl _ s).put (f := Reg.THM_TEMP_FLT.at i) (.head _) _).putB (f := Reg.THM_TEMP_VALID.at i)
      (.head _) _
  have hr : ∃ r, u = { s with regs := r } := ⟨_, hu⟩
  rw [hx]
  generalize s.shownTemp i c t = v
  refine ⟨⟨?_, ?_, ?_⟩, ?_, ?_⟩
  · exact (State.get_putSatI_apart _ _ _ _ (by simp [Fld.apart, Fld.at, Reg.THM_TEMP_TEMP, Reg.THM_TEMP_FLT])).trans hflt
  · exact (State.flag_put_apart _ _ _ _ (by simp [Fld.apart, Fld.at, Reg.THM_TEMP_TEMP, Reg.THM_TEMP_VALID])).trans hvalid
  · exact State.getI_putSatI_self _ _ _ (show 0 + 16 ≤ 32 by decide) (show 0 < 16 by decide)
  · exact (hk.of_regs rfl).putSatI (f := Reg.THM_TEMP_TEMP.at i) (.head _) _
  · obtain ⟨r, rfl⟩ := hr
    exact ⟨_, g, rfl⟩

/-- Near-band sampling changes its flag and its count alone. -/
theorem State.nearStep_cases (s : State) (i : Nat) (t : Option Int) : ∃ n,
    s.nearStep i t = { s with thm := { s.thm with nearOut := n } } ∨
    ∃ b, s.nearStep i t = State.putB { s with thm := { s.thm with nearOut := n } } (Reg.THM_TEMP_NEAR.at i) b := by
  unfold State.nearStep
  extract_lets near n u
  refine ⟨s.thm.nearOut.set i n, ?_⟩
  split
  · exact .inr ⟨false, rfl⟩
  · split
    · exact .inr ⟨true, rfl⟩
    · split
      · exact .inr ⟨false, rfl⟩
      · exact .inl rfl

theorem State.nearStep_facts (s : State) (i : Fin 24) {c : Nat} {v : Int} (t : Option Int) (h : TempShown i c v s) :
    TempShown i c v (s.nearStep i t) ∧ WordsKept [(Reg.THM_TEMP_FLT.at i).addr] s (s.nearStep i t) ∧
    ∃ r n, s.nearStep i t = { s with regs := r, thm := { s.thm with nearOut := n } } := by
  obtain ⟨-, -, hflt, hvalid, htemp⟩ := thmTemp_fields i
  obtain ⟨n, hn | ⟨b, hn⟩⟩ := s.nearStep_cases i t
  · rw [hn]
    exact ⟨h.of_word rfl, (WordsKept.refl _ s).of_regs rfl, s.regs, n, rfl⟩
  · rw [hn]
    exact ⟨⟨(State.get_putB_apart _ _ _ _ hflt).trans h.flt, (State.flag_putB_apart _ _ _ _ hvalid).trans h.valid,
      (State.getI_put_apart _ _ _ _ htemp).trans h.temp⟩,
      ((WordsKept.refl _ s).of_regs rfl).putB (f := Reg.THM_TEMP_NEAR.at i) (.head _) _, _, n, rfl⟩

/-- The monitors take a reading: the protection state changes, and a disagreement of the copies may be raised. -/
theorem State.monitorTemp_cases (s : State) (i : Nat) (t : Int) : ∃ x,
    s.monitorTemp i t = { s with saf := x } ∨
    s.monitorTemp i t = State.raise { s with saf := x } Ev.SAF_COPY_DISAGREE := by
  have hc : ∀ (u : State) k b, ∃ x, u.compareDecisions k b = { u with saf := x } ∨
      u.compareDecisions k b = State.raise { u with saf := x } Ev.SAF_COPY_DISAGREE := by
    intro u k b
    unfold State.compareDecisions
    extract_lets n v
    split
    · exact ⟨_, .inr rfl⟩
    · exact ⟨_, .inl rfl⟩
  unfold State.monitorTemp
  extract_lets u
  have hu : u = { s with saf := u.saf } := rfl
  clear_value u
  split
  · exact ⟨u.saf, .inl hu⟩
  · obtain ⟨x, hx⟩ := hc u (2 + i) (decide (u.tempCompare false i t = u.tempCompare true i t))
    rw [hu] at hx ⊢
    exact ⟨x, hx⟩

theorem State.monitorTemp_facts (s : State) (i : Nat) (t : Int) :
    QuietWordsKept [] s (s.monitorTemp i t) ∧ BytesKept s (s.monitorTemp i t) ∧ (s.monitorTemp i t).now = s.now ∧
    (s.monitorTemp i t).thm = s.thm := by
  obtain ⟨x, hx | hx⟩ := s.monitorTemp_cases i t
  · rw [hx]
    exact ⟨(WordsKept.refl _ s).quiet.of_regs rfl, .of_mem rfl, rfl, rfl⟩
  · have hk : QuietWordsKept [] s { s with saf := x } := (WordsKept.refl _ s).quiet.of_regs rfl
    have hb : BytesKept s { s with saf := x } := .of_mem rfl
    rw [hx]
    exact ⟨hk.raise _, hb.raise _, State.raise_now _ _, State.raise_thm _ _⟩

/-! ### A sample -/

/-- The sample instant of an input at its delivery. -/
def State.sampleAt (s : State) (i : Nat) : State :=
  let s := s.advanceTo (s.fstart + if i < 16 then 1500 else 500)
  { s with thm := { s.thm with sampled := bitTo s.thm.sampled i true } }

/-- The event of a class that the input did not have. -/
def State.classRaise (s : State) (i c : Nat) : State :=
  match classEvent s.isLead c with
  | some e => s.raiseIf (s.get (Reg.THM_TEMP_FLT.at i) != c) e
  | none => s

/-- The temperature of a sample of class `c`, as its input shows it. -/
def State.classTemp (s : State) (i code c : Nat) : Int :=
  if c = 3 then 1250 else if c = 4 then -550 else s.sampleTemp i code

/-- A sample is taken: its event, its word and its near-band sampling, and the monitors when its class is valid. -/
def State.sampleTaken (s : State) (i code : Nat) : State :=
  let c := s.sampleClass i code
  let t := (s.sampleAt i).classTemp i code c
  let v := if c = 3 then 1000000 else if c = 4 then -1000000 else t
  let s := (((s.sampleAt i).classRaise i c).showTemp i c t).nearStep i (if c = 1 ∨ c = 2 then none else some v)
  if classValid c then s.monitorTemp i v else s

theorem exec_thermistorSample {i : Nat} (code : Nat) (h : s.sampleDue i = true) :
    exec (.thermistorSample i code) s = .next (s.sampleTaken i code).coverage.protect := if_neg (by simp [h])

theorem State.alive_of_sampleDue {i : Nat} (h : s.sampleDue i = true) : s.alive = true := by
  simp only [State.sampleDue, Bool.and_eq_true] at h
  exact h.1.1.1.1.1.1.1

/-- The event of a class changes the events alone, and is raised where an open or short input had another class. -/
theorem State.classRaise_facts (s : State) (i c : Nat) :
    QuietWordsKept [] s (s.classRaise i c) ∧ BytesKept s (s.classRaise i c) ∧
    (∃ r m x v, s.classRaise i c = { s with regs := r, mem := m, bbx := x, evAt := v }) ∧
    (s.alive = true → c = 1 ∨ c = 2 → s.get (Reg.THM_TEMP_FLT.at i) ≠ c →
      (s.classRaise i c).raised (if c = 1 then Ev.THM_OPEN else Ev.THM_SHORT) = true) := by
  have hk : QuietWordsKept [] s s := (WordsKept.refl _ s).quiet
  have hb : BytesKept s s := .of_mem rfl
  unfold State.classRaise
  refine ⟨?_, ?_, ?_, fun ha hc hne => ?_⟩
  · split
    · exact hk.raiseIf _ _
    · exact hk
  · split
    · exact hb.raiseIf _ _
    · exact hb
  · split
    · unfold State.raiseIf
      split
      · exact s.raise_only _
      · exact ⟨_, _, _, _, rfl⟩
    · exact ⟨_, _, _, _, rfl⟩
  · have hr : ∀ e, s.raiseIf (s.get (Reg.THM_TEMP_FLT.at i) != c) e = s.raise e := fun e => if_pos (by simpa using hne)
    rcases hc with rfl | rfl
    · exact (congrArg (State.raised · _) (hr Ev.THM_OPEN)).trans (State.raised_raise s _ ha (by decide))
    · exact (congrArg (State.raised · _) (hr Ev.THM_SHORT)).trans (State.raised_raise s _ ha (by decide))

end Sys2Proof.Machine
end

section
/-!
What a thermistor sample leaves (R200 to R204, R464), put together from its steps.
-/
namespace Sys2Proof.Machine

variable {s : State}

/-- What is left of a sample once its input shows it: `u` is the sample instant, `w` the state before the monitors. -/
structure SampleShown (i : Fin 24) (c : Nat) (t : Int) (u w : State) : Prop where
  shown : TempShown i c (u.shownTemp i c t) w
  words : QuietWordsKept [(Reg.THM_TEMP_FLT.at i).addr] u w
  bytes : BytesKept u w
  now : w.now = u.now
  sampled : w.thm.sampled = u.thm.sampled
  saf : w.saf = u.saf
  raised : u.alive = true → c = 1 ∨ c = 2 → u.get (Reg.THM_TEMP_FLT.at i) ≠ c →
    w.raised (if c = 1 then Ev.THM_OPEN else Ev.THM_SHORT) = true

theorem State.sampleShown (u : State) (i : Fin 24) {c : Nat} (t : Int) (near : Option Int) (hc : c < 8) :
    SampleShown i c t u (((u.classRaise i c).showTemp i c t).nearStep i near) := by
  obtain ⟨-, hraw, -, -, -⟩ := thmTemp_fields i
  obtain ⟨hkr, hbr, ⟨r, m, x, v, hr⟩, hev⟩ := u.classRaise_facts i c
  have hlast : (u.classRaise i c).shownTemp i c t = u.shownTemp i c t := by rw [hr]; rfl
  have hnow : (u.classRaise i c).now = u.now := by rw [hr]
  have hsaf : (u.classRaise i c).saf = u.saf := by rw [hr]
  have hsampled : (u.classRaise i c).thm.sampled = u.thm.sampled := by rw [hr]
  generalize u.classRaise i c = a at *
  obtain ⟨hshown, hks, rs, g, hs⟩ := a.showTemp_facts i t hc
  have hb : (a.showTemp i c t).mem = a.mem := by rw [hs]
  have hnow' : (a.showTemp i c t).now = a.now := by rw [hs]
  have hsaf' : (a.showTemp i c t).saf = a.saf := by rw [hs]
  have hsampled' : (a.showTemp i c t).thm.sampled = a.thm.sampled := by rw [hs]
  generalize a.showTemp i c t = b at *
  obtain ⟨hnear, hkn, rn, n, hn⟩ := b.nearStep_facts i near hshown
  have hkw := hks.trans hkn
  generalize b.nearStep i near = w at *
  refine ⟨hlast ▸ hnear, (hkr.mono (by simp)).trans hkw.quiet, (hbr.of_eq hb).of_eq (by rw [hn]), ?_, ?_, ?_,
    fun ha h hne => ?_⟩
  · rw [hn]; exact hnow'.trans hnow
  · rw [hn]; exact hsampled'.trans hsampled
  · rw [hn]; exact hsaf'.trans hsaf
  · have hword : ∀ e : Event, e.page = 9 → w.raised e = a.raised e := fun e he => by
      have hw := hkw (evrawAddr e.page) (by rw [he]; simpa using hraw)
      simp only [State.raised, hw]
    refine (hword _ ?_).trans (hev ha h hne)
    split <;> rfl

theorem State.sampleTaken_facts (i : Fin 24) (code : Nat) (h : s.sampleDue i = true) :
    let c := s.sampleClass i code
    let w := s.sampleTaken i code
    w.now = max s.now (s.fstart + if i.val < 16 then 1500 else 500) ∧ w.thm.sampled.testBit i = true ∧
    TempShown i c (s.shownTemp i c ((s.sampleAt i).classTemp i code c)) w ∧
    (c = 1 ∨ c = 2 → w.saf = s.saf ∧ (s.get (Reg.THM_TEMP_FLT.at i) ≠ c →
      w.raised (if c = 1 then Ev.THM_OPEN else Ev.THM_SHORT) = true)) ∧
    QuietWordsKept [(Reg.THM_TEMP_FLT.at i).addr] s w ∧ BytesKept s w := by
  intro c w
  obtain ⟨hq, -⟩ := thmTemp_fields i
  have hc : c < 8 := lt_trans (s.sampleClass_lt i code) (by decide)
  obtain ⟨z, v, hw, hshown, hk, hb, hnow, hsampled, hsaf, hev⟩ : ∃ z v,
      (w = if classValid c then z.monitorTemp i v else z) ∧
      SampleShown i c ((s.sampleAt i).classTemp i code c) (s.sampleAt i) z := ⟨_, _, rfl, State.sampleShown _ i _ _ hc⟩
  have hks : QuietWordsKept [(Reg.THM_TEMP_FLT.at i).addr] s z := fun a ha hn => hk a ha hn
  have hbs : BytesKept s z := fun a ha => hb a ha
  have hbit : z.thm.sampled.testBit i = true := by rw [hsampled]; exact bitTo_self _ _ _
  by_cases hv : classValid c = true
  · obtain ⟨hkm, hbm, hnm, htm⟩ := z.monitorTemp_facts i v
    rw [hw, if_pos hv]
    refine ⟨hnm.trans hnow, htm ▸ hbit, hshown.of_word (hkm _ hq (by simp)), fun ho => ?_,
      hks.trans (hkm.mono (by simp)), hbs.trans hbm⟩
    rw [classValid_open_short ho] at hv
    exact absurd hv (by decide)
  · rw [hw, if_neg hv]
    have ha : (s.sampleAt i).alive = true := State.alive_of_sampleDue (s := s) h
    exact ⟨hnow, hbit, hshown, fun ho => ⟨hsaf, hev ha ho⟩, hks, hbs⟩

end Sys2Proof.Machine
end

section
/-!
The thermal model (R207, R208, R213): the end of a run, the overrun of an accelerator (R56), the neighbour map and the cell
selection.
-/
namespace Sys2Proof.Machine

variable {s : State}

/-! ### The model run -/

theorem exec_thermalModelRunDone (hl : s.isLead = true) (hr : s.accelRuns 7 = true) : exec .thermalModelRunDone s =
    .next (((s.accelDone 7).modelRun.modelShow.neighbourCheck.modelCheck.coolDemand false).nextFree) :=
  if_neg (by simp [hl, hr])

/-- The end of an accelerator run changes the timetable alone. -/
theorem State.accelDone_only (s : State) (typ : Nat) : ∃ x, s.accelDone typ = { s with tt := x } := by
  unfold State.accelDone
  split
  · exact ⟨s.tt, rfl⟩
  · exact ⟨_, rfl⟩

/-- A model run changes the thermal state alone: nothing is owed, and the frame has its run. -/
theorem State.modelRun_only (s : State) :
    ∃ x, s.modelRun = { s with thm := x } ∧ x.owed = [] ∧ x.ranFrame = true := ⟨_, rfl, rfl, rfl⟩

/-- The results of a run are shown with its frame, and are not stale. -/
theorem State.modelShow_facts (s : State) :
    s.modelShow.get Reg.THM_SRCFRAME_FRAME = s.cm.lastFrame % 2 ^ 32 ∧ s.modelShow.flag Reg.THM_STAT_STALE = false ∧
    WordsKept [Reg.THM_HOTTEST, Reg.THM_SRCFRAME, Reg.THM_STAT] s s.modelShow ∧
    ∃ r, s.modelShow = { s with regs := r } := by
  obtain ⟨u, hu, hk, r, hr⟩ : ∃ u,
      s.modelShow = (u.put Reg.THM_SRCFRAME_FRAME u.cm.lastFrame).putB Reg.THM_STAT_STALE false ∧
      WordsKept [Reg.THM_HOTTEST, Reg.THM_SRCFRAME, Reg.THM_STAT] s u ∧ ∃ r, u = { s with regs := r } := by
    refine ⟨_, rfl, ?_, ?_⟩
    · split
      · exact ((WordsKept.refl _ s).put (f := Reg.THM_HOTTEST_CELL) (by decide) _).putSatI (f := Reg.THM_HOTTEST_TEMP)
          (by decide) _
      · exact .refl _ s
    · split
      · exact ⟨_, rfl⟩
      · exact ⟨s.regs, rfl⟩
  have hcm : u.cm = s.cm := by rw [hr]
  rw [hu, ← hcm]
  refine ⟨?_, State.flag_putB_self _ _ _ (by decide) (by decide),
    (hk.put (f := Reg.THM_SRCFRAME_FRAME) (by decide) _).putB (f := Reg.THM_STAT_STALE) (by decide) _, ?_⟩
  · rw [State.get_putB_apart _ _ _ _ (by decide)]
    exact State.get_put_self _ _ _ (by decide)
  · rw [hr]
    exact ⟨_, rfl⟩

/-! ### An accelerator's overrun -/

/-- The run of an entry is stopped at the end of its window, and its accelerator counts the frame. -/
def State.runStopped (s : State) (x : AccelRun) : State :=
  let s := s.advanceTo x.till
  { s with tt := { s.tt with accel := s.tt.accel.filter (·.entry != x.entry) } }

theorem exec_acceleratorOverrun {e : Nat} {x : AccelRun} (h : s.tt.accel.find? (·.entry == e) = some x) :
    exec (.acceleratorOverrun e) s = .next
      (let v := ((s.runStopped x).accelOverrun e x.typ).accelStale x.typ x.rel
       if v.ovrLimit ≤ nget x.typ v.tt.accelOver then (v.accelReset x.typ).raise Ev.TT_ESCALATE else v) := by
  have he : x.entry = e := by simpa using List.find?_some h
  show execAcceleratorOverrun e s = _
  unfold execAcceleratorOverrun State.runStopped
  simp only [h, he]

theorem exec_acceleratorOverrun_none {e : Nat} (h : s.tt.accel.find? (·.entry == e) = none) :
    exec (.acceleratorOverrun e) s = .next s := by
  show execAcceleratorOverrun e s = _
  unfold execAcceleratorOverrun
  simp only [h]

/-- The frame counts once for an accelerator, the overrun is raised and shown, and no other block changes. -/
theorem State.accelOverrun_facts (s : State) (e typ : Nat) :
    nget typ (s.accelOverrun e typ).tt.accelOver =
      nget typ s.tt.accelOver + (if nget typ s.tt.accelAt = s.fstart + 1 then 0 else 1) ∧
    (s.accelOverrun e typ).get Reg.TT_OVRSTAT_COUNT = min 15 (nget typ (s.accelOverrun e typ).tt.accelOver) ∧
    (s.alive = true → (s.accelOverrun e typ).raised Ev.TT_OVERRUN = true) ∧
    QuietWordsKept [Reg.TT_OVRSTAT] s (s.accelOverrun e typ) ∧
    ∃ r m x v y, s.accelOverrun e typ =
      { s with regs := r, mem := m, bbx := x, evAt := v, tt := y } ∧ y.accel = s.tt.accel := by
  obtain ⟨n, hn⟩ : ∃ n, n = nget typ s.tt.accelOver + (if nget typ s.tt.accelAt = s.fstart + 1 then 0 else 1) :=
    ⟨_, rfl⟩
  obtain ⟨y, hy⟩ : ∃ y : Tt, y = { s.tt with
    accelOver := nset typ n s.tt.accelOver, accelAt := nset typ (s.fstart + 1) s.tt.accelAt } := ⟨_, rfl⟩
  have hx : s.accelOverrun e typ = State.noteOverrun { s with tt := y } e typ n := by rw [hy, hn]; rfl
  have hcount : nget typ y.accelOver = n := by rw [hy]; exact nget_nset_self typ n s.tt.accelOver
  have haccel : y.accel = s.tt.accel := by rw [hy]
  have hk : QuietWordsKept [Reg.TT_OVRSTAT] s { s with tt := y } := (WordsKept.refl _ s).quiet.of_regs rfl
  obtain ⟨-, hshow, hq, -, hev⟩ := State.noteOverrun_facts { s with tt := y } e typ n
  obtain ⟨r, m, x, v, honly⟩ := State.noteOverrun_only { s with tt := y } e typ n
  have htt := congrArg State.tt honly
  rw [hx, ← hn]
  generalize State.noteOverrun _ e typ n = o at *
  refine ⟨by rw [htt]; exact hcount, by rw [htt]; exact hshow.trans (by rw [hcount]), hev, hk.trans hq,
    r, m, x, v, y, honly, haccel⟩

/-- A stale model raises its event and drops the counts of the neighbour check. -/
theorem State.accelStale_model (o : State) (rel : Nat) :
    ∃ y : State, o.accelStale 7 rel = (y.coolDemand true).nextFree ∧ y.flag Reg.THM_STAT_STALE = true ∧
      (o.alive = true → y.raised Ev.THM_MODEL_STALE = true) ∧ y.thm.cand = [] ∧ y.thm.calm = [] := by
  generalize hu : State.putB { o with thm := { o.thm with cand := [], calm := [] } } Reg.THM_STAT_STALE true = u
  have hflag : u.flag Reg.THM_STAT_STALE = true := by rw [← hu]; exact State.flag_putB_self _ _ _ (by decide) (by decide)
  have hthm : u.thm.cand = [] ∧ u.thm.calm = [] := by rw [← hu]; exact ⟨rfl, rfl⟩
  have ha : o.alive = true → u.alive = true := fun ha => by rw [← hu]; exact ha
  have hx : o.accelStale 7 rel = ((u.raise Ev.THM_MODEL_STALE).coolDemand true).nextFree := by rw [← hu]; rfl
  refine ⟨u.raise Ev.THM_MODEL_STALE, hx, (State.flag_raise u _ _ (by decide)).trans hflag,
    fun h => State.raised_raise u _ (ha h) (by decide), ?_⟩
  rw [State.raise_thm]
  exact hthm

/-- An impedance run released from E + 200,000 on in the processing of a point is dropped; any other leaves nothing. -/
theorem State.accelStale_impedance (o : State) (rel : Nat) : o.accelStale 8 rel =
    if o.eis.phase = 4 ∧ o.eis.e + 200000 ≤ rel then { o with eis := { o.eis with phase := 6, new := [] } } else o := rfl

/-! ### The neighbour map -/

/-- A word at an index of the inactive bank. -/
def State.nmapStore (s : State) (v : Word) : State :=
  let i := s.get Reg.THM_NMAPADDR_INDEX
  if i < 384 then
    { s with thm := { s.thm with nmap := nset (384 * (1 - s.get Reg.THM_NMAPSEL_BANK) + i) v.toNat s.thm.nmap } }
  else s

theorem State.nmapStore_only (s : State) (v : Word) : ∃ x, s.nmapStore v = { s with thm := x } := by
  unfold State.nmapStore
  extract_lets i
  split
  · exact ⟨_, rfl⟩
  · exact ⟨s.thm, rfl⟩

theorem exec_neighbourMapWrite (ini : Ini) (v : Word) (hl : s.isLead = true) (hp : s.armedPage 9 = false) :
    exec (.neighbourMapWrite ini v) s =
      .next ((s.nmapStore v).put Reg.THM_NMAPADDR_INDEX (s.get Reg.THM_NMAPADDR_INDEX + 1)) := by
  obtain ⟨x, hx⟩ := s.nmapStore_only v
  have hpx : ¬ ((s.nmapStore v).put Reg.THM_NMAPADDR_INDEX (s.get Reg.THM_NMAPADDR_INDEX + 1)).armedPage 9 = true := by
    have hn : ¬ s.armedPage 9 = true := by simp [hp]
    rw [hx]
    exact hn
  exact (if_neg (by simp [hl])).trans (congrArg _ (if_neg hpx))

/-- A write moves on to the next index. -/
theorem State.nmapStore_facts (s : State) (v : Word) :
    let t := (s.nmapStore v).put Reg.THM_NMAPADDR_INDEX (s.get Reg.THM_NMAPADDR_INDEX + 1)
    t.thm = (s.nmapStore v).thm ∧ t.get Reg.THM_NMAPADDR_INDEX = (s.get Reg.THM_NMAPADDR_INDEX + 1) % 512 ∧
    WordsKept [Reg.THM_NMAPADDR] s t ∧ t.mem = s.mem := by
  obtain ⟨x, hx⟩ := s.nmapStore_only v
  have hk : WordsKept [Reg.THM_NMAPADDR] s (s.nmapStore v) := by rw [hx]; exact (WordsKept.refl _ s).of_regs rfl
  have hm : (s.nmapStore v).mem = s.mem := by rw [hx]
  exact ⟨rfl, State.get_put_self _ _ _ (by decide), hk.put (by decide) _, hm⟩

/-! ### The cell selection -/

/-- A selected cell with its two temperatures and its power. -/
def State.showCell (s : State) (c : Nat) (tc ts p : Int) : State :=
  (((s.put Reg.THM_CSEL_INDEX c).putSatI Reg.THM_CTC_TEMP tc).putSatI Reg.THM_CTS_TEMP ts).putSatI Reg.THM_CPWR_MW p

theorem exec_thmCellSelect (ini : Ini) (c : Nat) (hl : s.isLead = true) : exec (.thmCellSelect ini c) s = .next
    (s.showCell c (if s.cellOn c then roundQ (10 * s.thm.tc.getD c 0) else 0)
      (if s.cellOn c then roundQ (10 * s.thm.ts.getD c 0) else 0)
      (if s.cellOn c then roundQ (1000 * s.thm.p.getD c 0) else 0)) := if_neg (by simp [hl])

theorem State.showCell_facts (s : State) {c : Nat} (tc ts p : Int) (hc : c < 512) :
    (s.showCell c tc ts p).get Reg.THM_CSEL_INDEX = c ∧
    (s.showCell c tc ts p).getI Reg.THM_CTC_TEMP = clampI (-32768) 32767 tc ∧
    (s.showCell c tc ts p).getI Reg.THM_CTS_TEMP = clampI (-32768) 32767 ts ∧
    (s.showCell c tc ts p).getI Reg.THM_CPWR_MW = clampI (-2147483648) 2147483647 p ∧
    WordsKept [Reg.THM_CSEL, Reg.THM_CTC, Reg.THM_CTS, Reg.THM_CPWR] s (s.showCell c tc ts p) ∧
    (s.showCell c tc ts p).mem = s.mem := by
  unfold State.showCell
  generalize hu : s.put Reg.THM_CSEL_INDEX c = u
  have hsel : u.get Reg.THM_CSEL_INDEX = c := by
    rw [← hu]
    exact (State.get_put_self _ _ _ (by decide)).trans (Nat.mod_eq_of_lt hc)
  have hk : WordsKept [Reg.THM_CSEL, Reg.THM_CTC, Reg.THM_CTS, Reg.THM_CPWR] s u := by
    rw [← hu]
    exact (WordsKept.refl _ s).put (by decide) _
  have hm : u.mem = s.mem := by rw [← hu]; rfl
  have hap : ∀ (v : State) f g x, Fld.apart f g = true → (v.putSatI f x).getI g = v.getI g := fun v f g x h =>
    v.getI_put_apart f g _ h
  refine ⟨?_, ?_, ?_, State.getI_putSatI_self _ _ _ (by decide) (by decide),
    ((hk.putSatI (by decide) _).putSatI (by decide) _).putSatI (by decide) _, hm⟩
  · simp (disch := decide) only [State.get_putSatI_apart, hsel]
  · rw [hap _ _ _ _ (by decide), hap _ _ _ _ (by decide)]
    exact State.getI_putSatI_self _ _ _ (by decide) (by decide)
  · rw [hap _ _ _ _ (by decide)]
    exact State.getI_putSatI_self _ _ _ (by decide) (by decide)

end Sys2Proof.Machine

open Sys2Proof Sys2Proof.Machine

/-- Settles O55, command by command: a sample, the classes, the model run, an overrun, the neighbour map and the cell
selection. -/
theorem thermalCommands : Obligations.ThermalCommands := by
  refine ⟨?noSample, ?sample, ?classes, ?noRun, ?run, ?noOverrun, ?overrun, ?stale, ?reset, ?mapWrite, ?mapBeyond, ?cellOff,
    ?cellOn, ?follower⟩
  case noSample => exact fun i code s h => if_pos (by simp [h])
  case sample =>
    intro i code s h c
    obtain ⟨hnow, hbit, hshown, hopen, hk, hb⟩ := State.sampleTaken_facts i code h
    rw [exec_thermistorSample code h]
    refine .next ⟨s.sampleTaken i code, rfl, hnow, hbit, hshown.flt, hshown.valid, fun h3 => ?_, fun h4 => ?_, fun ho => ?_,
      hk, hb⟩
    · exact hshown.temp.trans (by simp [State.shownTemp, State.classTemp, show s.sampleClass i code = 3 from h3, clampI])
    · exact hshown.temp.trans (by simp [State.shownTemp, State.classTemp, show s.sampleClass i code = 4 from h4, clampI])
    · obtain ⟨hsaf, hev⟩ := hopen ho
      exact ⟨hshown.temp.trans (congrArg _ (if_pos ho)), hsaf, hev⟩
  case classes =>
    intro i code s
    exact ⟨fun h => if_pos h, fun h h' => (if_neg (not_le.2 h)).trans (if_pos h'),
      fun h h' hs => (if_neg (not_le.2 h)).trans ((if_neg (not_le.2 h')).trans (if_pos hs))⟩
  case noRun => exact fun s h => if_pos (by simpa using h)
  case run =>
    intro s hl hr
    obtain ⟨x, hx⟩ := s.accelDone_only 7
    obtain ⟨y, hy, howed, hran⟩ := (s.accelDone 7).modelRun_only
    obtain ⟨hsrc, hstale, hk, r, hz⟩ := (s.accelDone 7).modelRun.modelShow_facts
    rw [exec_thermalModelRunDone hl hr]
    refine .next ⟨(s.accelDone 7).modelRun.modelShow, rfl, ?_, ?_, hsrc.trans ?_, hstale, ?_, fun a ha => ?_, ?_⟩
    · rw [hz, hy]; exact howed
    · rw [hz, hy]; exact hran
    · rw [hy, hx]
    · rw [hz, hy, hx]
    · refine (hk a ha).trans ?_
      rw [hy, hx]
      rfl
    · rw [hz, hy, hx]
  case noOverrun => exact fun e s h => exec_acceleratorOverrun_none h
  case overrun =>
    intro e x s ha h
    obtain ⟨hcount, hshow, hev, hk, r, m, b, v, y, ho, hacc⟩ := (s.runStopped x).accelOverrun_facts e x.typ
    have he : x.entry = e := by simpa using List.find?_some h
    rw [exec_acceleratorOverrun h]
    refine .next ⟨(s.runStopped x).accelOverrun e x.typ, rfl, ?_, ?_, hcount, hev ha, hshow, ?_, ?_, ?_,
      fun a hq hn => (hk a hq hn).trans rfl⟩
    · rw [ho]; rfl
    · rw [ho]; exact hacc.trans (by rw [← he]; rfl)
    · rw [ho]; exact ha
    · rw [ho]; rfl
    · rw [ho]; rfl
  case stale =>
    intro rel o
    refine ⟨rfl, o.accelStale_model rel, fun h h' => ?_, fun h => ?_⟩
    · rw [o.accelStale_impedance, if_pos ⟨h, h'⟩]
    · rw [o.accelStale_impedance, if_neg (by omega)]
  case reset => exact fun typ v => ⟨rfl, nget_nset_self typ 0 v.tt.accelOver, rfl, rfl⟩
  case mapWrite =>
    intro ini v s hl hp hi k
    obtain ⟨hthm, hindex, hk, hm⟩ := s.nmapStore_facts v
    have hstore : (s.nmapStore v).thm.nmap = nset k v.toNat s.thm.nmap := congrArg (fun u : State => u.thm.nmap) (if_pos hi)
    rw [exec_neighbourMapWrite ini v hl hp]
    refine .next ⟨?_, fun j hj => ?_, hindex.trans (Nat.mod_eq_of_lt (by omega)), hk, hm⟩
    · rw [hthm, hstore]
      exact nget_nset_self _ _ _
    · rw [hthm, hstore]
      exact nget_nset_ne hj _ _
  case mapBeyond =>
    intro ini v s hl hp hi
    obtain ⟨hthm, hindex, hk, hm⟩ := s.nmapStore_facts v
    rw [exec_neighbourMapWrite ini v hl hp]
    exact .next ⟨hthm.trans (congrArg State.thm (if_neg (not_lt.2 hi))), hindex, hk, hm⟩
  case cellOff =>
    intro ini c s hc hl hoff
    obtain ⟨hsel, htc, hts, hp, hk, hm⟩ := s.showCell_facts 0 0 0 hc
    rw [exec_thmCellSelect ini c hl]
    simp only [hoff]
    exact .next ⟨hsel, State.get_eq_zero_of_getI htc, State.get_eq_zero_of_getI hts, State.get_eq_zero_of_getI hp, hk, hm⟩
  case cellOn =>
    intro ini c s hc hl hon
    rw [exec_thmCellSelect ini c hl]
    simp only [hon, if_true]
    exact .next (s.showCell_facts _ _ _ hc)
  case follower => exact fun ini c v s h => ⟨if_pos (by simp [h]), if_pos (by simp [h])⟩

end

section
/-!
A delivered set in the registers (R29, R77, R98): the DATA words of the channels, LTICK and the saturated channels.
-/
namespace Sys2Proof.Machine

/-! ### The DATA words -/

/-- The address of a channel's DATA word. -/
def dataAddr (i : Nat) : Nat := (Reg.CELL_DATA_CODE.at i).addr

/-- A channel's result and its flag nibble as its DATA word holds them. -/
def dataWord (r : (Int × Bool) × Nat) : Word := BitVec.ofNat 32 (r.2 * 2 ^ 28 + twos 24 r.1.1)

/-- The results and flags in the DATA words, the first in that of channel 0. -/
def State.showData (s : State) (rs : List ((Int × Bool) × Nat)) : State :=
  rs.zipIdx.foldl (fun s r => s.setWord (dataAddr r.2) (dataWord r.1)) s

theorem State.showData_concat (s : State) (rs : List ((Int × Bool) × Nat)) (r : (Int × Bool) × Nat) :
    s.showData (rs ++ [r]) = (s.showData rs).setWord (dataAddr rs.length) (dataWord r) := by
  simp [State.showData, List.zipIdx_append]

theorem dataAddr_inj {i j : Nat} : dataAddr i = dataAddr j ↔ i = j := by
  simp only [dataAddr, Fld.at, Reg.CELL_DATA_CODE]
  omega

/-- A DATA word is neither an event word nor one of those shown with it. -/
theorem dataAddr_apart (i : Fin 48) : quiet (dataAddr i) = true ∧
    dataAddr i ∉ [Reg.CELL_LTICK, Reg.CELL_SAT0, Reg.CELL_SAT1] := by
  revert i
  decide

theorem State.showData_only (s : State) (rs : List ((Int × Bool) × Nat)) : ∃ x, s.showData rs = { s with regs := x } := by
  induction rs using List.reverseRecOn with
  | nil => exact ⟨s.regs, rfl⟩
  | append_singleton rs r ih =>
    obtain ⟨x, hx⟩ := ih
    rw [State.showData_concat, hx]
    exact ⟨_, rfl⟩

/-- Each result stands in the word of its channel. -/
theorem State.word_showData (s : State) {rs : List ((Int × Bool) × Nat)} {i : Nat} {r : (Int × Bool) × Nat}
    (h : rs[i]? = some r) : (s.showData rs).word (dataAddr i) = dataWord r := by
  induction rs using List.reverseRecOn with
  | nil => simp at h
  | append_singleton rs x ih =>
    rw [State.showData_concat]
    have hlt : i < rs.length + 1 := by simpa using (List.getElem?_eq_some_iff.1 h).1
    rcases Nat.lt_succ_iff_lt_or_eq.1 hlt with hi | rfl
    · rw [State.word_setWord_ne _ _ _ _ (by rw [ne_eq, dataAddr_inj]; omega)]
      exact ih (by rwa [List.getElem?_append_left hi] at h)
    · obtain rfl : x = r := by simpa using h
      exact State.word_setWord_self _ _ _

/-- Only the words of the channels that have a result change. -/
theorem State.showData_kept (s : State) (rs : List ((Int × Bool) × Nat)) :
    WordsKept ((List.range rs.length).map dataAddr) s (s.showData rs) := by
  induction rs using List.reverseRecOn with
  | nil => exact WordsKept.refl _ s
  | append_singleton rs r ih =>
    rw [State.showData_concat, List.length_append, List.length_singleton, List.range_succ, List.map_append]
    exact (ih.mono (List.subset_append_left _ _)).setWord (by simp) _

/-! ### The saturated channels -/

theorem State.satSeen_kept (s : State) (cells : List (Int × Bool)) :
    QuietWordsKept [Reg.CELL_SAT0, Reg.CELL_SAT1] s (s.satSeen cells) :=
  ((((WordsKept.refl _ s).put (by decide) _).put (by decide) _).quiet).raiseIf _ _

/-- SAT0 keeps what it held, ored with the saturated channels below 32. -/
theorem State.satSeen_sat0 (s : State) (cells : List (Int × Bool)) : (s.satSeen cells).get Reg.CELL_SAT0_SAT =
    s.get Reg.CELL_SAT0_SAT ||| bitsOf (cells.map (·.2)) % 2 ^ 32 := by
  have hlt : s.get Reg.CELL_SAT0_SAT ||| bitsOf (cells.map (·.2)) % 2 ^ 32 < 2 ^ 32 :=
    Nat.or_lt_two_pow (Reg.CELL_SAT0_SAT.extract_lt _) (Nat.mod_lt _ (by decide))
  rw [State.satSeen, State.get_raiseIf _ _ _ _ (by decide), State.get_put_apart _ _ _ _ (by decide),
    State.get_put_self _ _ _ (by decide)]
  exact Nat.mod_eq_of_lt hlt

/-! ### The whole set -/

/-- The results, then the tick of their instant, then the saturated channels. -/
theorem State.showCells_eq (s : State) (t : Nat) (cells : List (Int × Bool)) (flags : List Nat) : s.showCells t cells flags =
    ((s.showData (cells.zip flags)).put Reg.CELL_LTICK_TICK (s.tickOf t)).satSeen cells := by
  obtain ⟨x, hx⟩ := s.showData_only (cells.zip flags)
  have htick : (s.showData (cells.zip flags)).tickOf t = s.tickOf t := by rw [hx]; rfl
  rw [← htick]
  rfl

/-- After the DATA words a delivered set writes LTICK, the SAT words and one event. -/
theorem State.showCells_kept (s : State) (t : Nat) (cells : List (Int × Bool)) (flags : List Nat) :
    QuietWordsKept [Reg.CELL_LTICK, Reg.CELL_SAT0, Reg.CELL_SAT1] (s.showData (cells.zip flags))
      (s.showCells t cells flags) := by
  rw [State.showCells_eq]
  have htick := ((WordsKept.refl [Reg.CELL_LTICK] (s.showData (cells.zip flags))).put
    (f := Reg.CELL_LTICK_TICK) (by decide) (s.tickOf t)).quiet
  exact (htick.mono (by simp)).trans ((State.satSeen_kept _ cells).mono (by simp))

end Sys2Proof.Machine

open Sys2Proof Sys2Proof.Machine

/-- Settles O20: the DATA words hold what was written first, as LTICK, the SAT words and the event lie elsewhere. -/
theorem deliveredResultsReachTheirRegisters : Obligations.DeliveredResultsReachTheirRegisters := by
  intro t cells flags s hcells hflags
  have hdata := s.showData_kept (cells.zip flags)
  rw [show (cells.zip flags).length = 48 by simp [hcells, hflags]] at hdata
  have hshow := s.showCells_kept t cells flags
  refine ⟨?tick, ?sat, ?kept, ?data⟩
  case tick =>
    rw [State.showCells_eq, (State.satSeen_kept _ cells).get _ (by decide) (by decide)]
    exact State.get_put_self _ _ _ (by decide)
  case sat =>
    rw [State.showCells_eq, State.satSeen_sat0, State.get_put_apart _ _ _ _ (by decide), hdata.get _ (by decide)]
  case kept =>
    change QuietWordsKept ([Reg.CELL_LTICK, Reg.CELL_SAT0, Reg.CELL_SAT1] ++ (List.range 48).map dataAddr) s _
    exact (hdata.quiet.mono (List.subset_append_right _ _)).trans (hshow.mono (List.subset_append_left _ _))
  case data =>
    intro i c f hc hf
    have hi : i < 48 := hcells ▸ (List.getElem?_eq_some_iff.1 hc).1
    obtain ⟨hq, hn⟩ := dataAddr_apart ⟨i, hi⟩
    have hword := s.word_showData (List.getElem?_zip_eq_some (z := (c, f)).2 ⟨hc, hf⟩)
    exact (hshow _ hq hn).trans hword

end

section
/-!
The open-wire test (R87, R88): what its commands do from the grant to the result.
-/
namespace Sys2Proof.Machine

variable {s : State}

/-- The granted test at its start: the settings in force, the even pass, and state 1 in OWSTAT. -/
def State.owBegins (s : State) : State :=
  let u := s.advanceTo s.cm.ow.ts
  { u with cm := { u.cm with ow := { u.cm.ow with
    phase := 2, pop := u.populated, isel := u.get Reg.CELL_OWCFG_ISEL, thresh := u.get Reg.CELL_OWCFG_THRESH } } }.put
      Reg.CELL_OWSTAT_STATE 1

theorem exec_openWireStart (h : s.cm.ow.phase = 1) : exec .openWireStart s = .next s.owBegins := if_pos h

theorem State.owBegins_facts (s : State) :
    s.owBegins.get Reg.CELL_OWSTAT_STATE = 1 ∧ WordsKept [Reg.CELL_OWSTAT] s s.owBegins :=
  ⟨State.get_put_self _ _ _ (by decide), ((WordsKept.refl _ s).of_regs rfl).put (by decide) _⟩

/-- Outside a test none of its timed commands has an effect. -/
theorem exec_openWire_idle (h : s.cm.ow.phase = 0) : exec .openWireStart s = .next s ∧ exec .openWirePhase s = .next s ∧
    exec .openWireEnd s = .next s ∧ exec .openWireResult s = .next s :=
  ⟨if_neg (by omega), if_neg (by omega), if_neg (by omega), if_neg (by omega)⟩

end Sys2Proof.Machine

open Sys2Proof Sys2Proof.Machine

/-- Settles O21, command by command. That a test without its four results counts as one that lost a set is the model's choice
(log entry 102). -/
theorem openWireCommands : Obligations.OpenWireCommands := by
  refine ⟨?request, ?start, ?phase, ?testEnd, ?result, ?idle⟩
  case request => exact fun ini s => rfl
  case start =>
    intro s h
    obtain ⟨hstate, hk⟩ := s.owBegins_facts
    rw [exec_openWireStart h]
    exact .next ⟨rfl, rfl, rfl, rfl, hstate, hk, rfl⟩
  case phase => exact fun s h2 h4 => ⟨_, if_pos ⟨h2, h4⟩, rfl, rfl, rfl, rfl⟩
  case testEnd =>
    intro s h2 h5 u v
    exact (if_pos ⟨h2, h5⟩).trans (apply_ite (fun t : State => (.next t.settle : Result)) _ _ _).symm
  case result =>
    intro s h u v
    exact (if_pos h).trans (apply_ite (fun t : State => (.next t.settle : Result)) _ _ _).symm
  case idle => exact fun s h => exec_openWire_idle h

end

section
/-!
The overcurrent comparators of the anchor (R107, R108, R109): a crossing, the glitch filter, and the self-test of one copy per
direction.
-/
namespace Sys2Proof.Machine

variable {s : State}

/-! ### A crossing -/

theorem ocIndex_lt (d y : Bool) : ocIndex d y < 4 := by cases d <;> cases y <;> decide

/-- An output that is off turns on at its threshold, one that is on turns off below 90 % of it (R107). -/
theorem State.ocOutput_changes (s : State) (d was : Bool) (uv : Int) :
    let v := if d then -uv else uv
    let thr : Int := 1000 * clampN 10 200 (s.get (if d then Reg.IPK_OCCFG_DIS else Reg.IPK_OCCFG_CHG))
    (was = false ∧ thr ≤ v) ∨ (was = true ∧ 10 * v < 9 * thr) → s.ocOutput d was uv = !was := by
  rintro v thr (⟨rfl, hv⟩ | ⟨rfl, hv⟩)
  · exact decide_eq_true hv
  · exact decide_eq_false (not_le.2 hv)

/-- Output `i` becomes `b` now; its change starts the glitch filter anew. -/
def State.ocChange (s : State) (i : Nat) (b : Bool) : State :=
  { s with ipk := { s.ipk with raw := s.ipk.raw.set i b, rawAt := s.ipk.rawAt.set i s.now } }

theorem exec_ocComparatorCrossing {d y : Bool} {uv : Int} (hs : s.isAnchor = true)
    (h : s.ocOutput d (s.ipk.raw.getD (ocIndex d y) false) uv = !s.ipk.raw.getD (ocIndex d y) false) :
    exec (.ocComparatorCrossing d y uv) s =
      .next (s.ocChange (ocIndex d y) !s.ipk.raw.getD (ocIndex d y) false).ocShow := by
  rw [← h]
  exact if_pos ⟨hs, h ▸ (Bool.not_ne_self _).symm⟩

/-- The changed output and the tick of its change read back. -/
theorem State.ocChange_reads {i : Nat} (b : Bool) (hr : i < s.ipk.raw.length) (ha : i < s.ipk.rawAt.length) :
    (s.ocChange i b).ipk.raw.getD i false = b ∧ (s.ocChange i b).ipk.rawAt.getD i 0 = s.now := by
  simp [State.ocChange, hr, ha]

/-- `IPK.STAT` shows the two copies of each direction ored. -/
theorem State.ocShow_facts (s : State) :
    s.ocShow.flag Reg.IPK_STAT_OCCHG = (s.ipk.raw.getD 0 false || s.ipk.raw.getD 1 false) ∧
    s.ocShow.flag Reg.IPK_STAT_OCDIS = (s.ipk.raw.getD 2 false || s.ipk.raw.getD 3 false) ∧
    WordsKept [Reg.IPK_STAT] s s.ocShow := by
  unfold State.ocShow
  refine ⟨?_, State.flag_putB_self _ _ _ (by decide) (by decide),
    ((WordsKept.refl _ s).putB (by decide) _).putB (by decide) _⟩
  rw [State.flag_putB_apart _ _ _ _ (by decide), State.flag_putB_self _ _ _ (by decide) (by decide)]

/-! ### The self-test -/

/-- The test under way ends: no copy is under test, and the other copy has the next turn. -/
def State.ocTested (s : State) (y : Bool) : State :=
  let u := s.advanceTo (s.fstart + 2500)
  { u with ipk := { u.ipk with ocTest := none, ocNext := !y } }

theorem exec_ocSelftestEnd {c d y : Bool} (h : s.ipk.ocTest = some y) :
    exec (.ocSelftestEnd c d) s = .next ((s.ocTested y).raiseIf (!(c && d)) Ev.IPK_OC_SELFTEST) := by
  show execOcSelftestEnd c d s = _
  unfold execOcSelftestEnd
  simp only [h]
  rfl

end Sys2Proof.Machine

open Sys2Proof Sys2Proof.Machine

/-- Settles O18, command by command. That the filter expires 200 ticks after the change, within the 300 that R108 allows, is the
model's choice (log entry 14). -/
theorem overcurrentComparatorCommands : Obligations.OvercurrentComparatorCommands := by
  refine ⟨?crossing, ?elsewhere, ?filter, ?testStart, ?testEnd⟩
  case crossing =>
    intro d y uv s hs hraw hat was v thr hv
    rw [exec_ocComparatorCrossing hs (s.ocOutput_changes d was uv hv)]
    have hi := ocIndex_lt d y
    obtain ⟨hout, htick⟩ := s.ocChange_reads (!was) (hraw ▸ hi) (hat ▸ hi)
    obtain ⟨hchg, hdis, hw⟩ := (s.ocChange (ocIndex d y) !was).ocShow_facts
    exact .next ⟨hout, htick, hchg, hdis, hw, rfl⟩
  case elsewhere => exact fun d y uv s hs => if_neg (by simp [hs])
  case filter =>
    intro d y s hs htest hne on u
    exact if_neg (by simpa [hs, htest] using hne)
  case testStart => exact fun s hs hr ha => ⟨_, if_pos (by simp [hs, hr, ha]), rfl, rfl, rfl, rfl⟩
  case testEnd =>
    intro c d y s h
    rw [exec_ocSelftestEnd h]
    have hw : WordsKept [] s (s.ocTested y) := (WordsKept.refl _ s).of_regs rfl
    have hipk := (s.ocTested y).raiseIf_ipk (!(c && d)) Ev.IPK_OC_SELFTEST
    refine .next ⟨congrArg Ipk.ocTest hipk, congrArg Ipk.ocNext hipk, State.raiseIf_now _ _ _, ?_, ?_,
      hw.quiet.raiseIf _ _, (BytesKept.of_mem rfl).raiseIf _ _⟩
    · intro hpass
      rw [hpass]
      exact ⟨rfl, rfl⟩
    · intro hfail ha
      rw [hfail]
      exact State.raised_raise _ _ ha (by decide)

end

section
/-!
The isolation run on the anchor (R114 to R121): its start at G, the end of its two states, and its result.
-/
namespace Sys2Proof.Machine

variable {s : State}

/-! ### The start -/

/-- The run starts at `g`: the mean before is taken and ISO_A is on (R116). -/
def State.isoStarted (s : State) (g : Nat) : State :=
  let u := s.advanceTo g
  { u with iso := { u.iso with
    g := none, phase := 1, a0 := u.isoMean, isoA := true, isoB := false, onAt := u.now, since := u.now,
    frames := 0, low := 0 } }

/-- The registers show a run in its first state. -/
def State.isoStartShow (s : State) : State :=
  (((((s.put Reg.HVM_ISOSTAT_STATE 1).put Reg.HVM_ISOSTAT_PHASE 1).putB Reg.HVM_STAT_ISORUN true).putB
    Reg.HVM_ISOSTAT_INCONS false).putB Reg.HVM_ISOSTAT_UNSETTLED false)

theorem State.isoStartShow_facts (s : State) :
    s.isoStartShow.get Reg.HVM_ISOSTAT_STATE = 1 ∧ s.isoStartShow.get Reg.HVM_ISOSTAT_PHASE = 1 ∧
    s.isoStartShow.flag Reg.HVM_STAT_ISORUN = true ∧ s.isoStartShow.flag Reg.HVM_ISOSTAT_INCONS = false ∧
    s.isoStartShow.flag Reg.HVM_ISOSTAT_UNSETTLED = false ∧
    WordsKept [Reg.HVM_ISOSTAT, Reg.HVM_STAT] s s.isoStartShow := by
  unfold State.isoStartShow
  refine ⟨?_, ?_, ?_, ?_, ?_, (((((WordsKept.refl _ s).put (by decide) _).put (by decide) _).putB (by decide) _).putB
    (by decide) _).putB (by decide) _⟩
  · simp (disch := decide) only [State.get_putB_apart, State.get_put_apart, State.get_put_self]
    rfl
  · simp (disch := decide) only [State.get_putB_apart, State.get_put_self]
    rfl
  · simp (disch := decide) only [State.flag_putB_apart, State.flag_putB_self]
  · simp (disch := decide) only [State.flag_putB_apart, State.flag_putB_self]
  · simp (disch := decide) only [State.flag_putB_self]

/-- At 100 V or more the run that starts goes on (R121). -/
theorem exec_isolationRunStart {g : Nat} (hg : s.iso.g = some g) (hs : s.isAnchor = true) (hp : s.iso.phase = 0)
    (hv : 100000 ≤ s.getI Reg.HVM_VOLT_MV) :
    exec .isolationRunStart s = .next (s.isoStarted g).isoStartShow := by
  have hvolt : (s.isoStarted g).isoStartShow.getI Reg.HVM_VOLT_MV = s.getI Reg.HVM_VOLT_MV := by
    obtain ⟨-, -, -, -, -, hw⟩ := (s.isoStarted g).isoStartShow_facts
    exact congrArg _ (hw.get Reg.HVM_VOLT_MV (by decide))
  show execIsolationRunStart s = _
  unfold execIsolationRunStart
  simp only [hg]
  exact (if_pos ⟨hs, hp⟩).trans (if_neg (not_lt.2 (hvolt ▸ hv)))

/-! ### The two states -/

/-- The first state ends: its mean is taken and ISO_A opens. -/
def State.isoEndA (s : State) : State :=
  { s with iso := { s.iso with a1 := s.isoMean, isoA := false, phase := 2, since := s.now, frames := 0, low := 0 } }

/-- The second state ends: its mean is taken, ISO_B opens, and the result window begins at E_B. -/
def State.isoEndB (s : State) : State :=
  { s with iso := { s.iso with a2 := s.isoMean, isoB := false, phase := 4, eb := s.now, low := 0 } }

theorem exec_isolationStateTimeout_first (hf : 240 ≤ s.iso.frames) (hp : s.iso.phase = 1) : exec .isolationStateTimeout s =
    .next ((s.putB Reg.HVM_ISOSTAT_UNSETTLED true).isoEndA.put Reg.HVM_ISOSTAT_PHASE 0) :=
  (if_pos ⟨hf, .inl hp⟩).trans (congrArg _ (if_pos hp))

theorem exec_isolationStateTimeout_second (hf : 240 ≤ s.iso.frames) (hp : s.iso.phase = 3) : exec .isolationStateTimeout s =
    .next ((s.putB Reg.HVM_ISOSTAT_UNSETTLED true).isoEndB.put Reg.HVM_ISOSTAT_PHASE 0) :=
  (if_pos ⟨hf, .inr hp⟩).trans (congrArg _ ((if_neg fun h1 => by simp [hp] at h1).trans (if_pos hp)))

/-- What the registers show of a state that ended unsettled: this rests on the register store alone. -/
theorem State.isoUnsettled_facts {u : State} (h : u.regs = (s.putB Reg.HVM_ISOSTAT_UNSETTLED true).regs) :
    (u.put Reg.HVM_ISOSTAT_PHASE 0).flag Reg.HVM_ISOSTAT_UNSETTLED = true ∧
    (u.put Reg.HVM_ISOSTAT_PHASE 0).get Reg.HVM_ISOSTAT_PHASE = 0 ∧
    WordsKept [Reg.HVM_ISOSTAT] s (u.put Reg.HVM_ISOSTAT_PHASE 0) := by
  have hflag : u.flag Reg.HVM_ISOSTAT_UNSETTLED = true := by
    simp only [State.flag, State.get, State.word_congr h]
    exact State.flag_putB_self s _ _ (by decide) (by decide)
  exact ⟨(State.flag_put_apart _ _ _ _ (by decide)).trans hflag, State.get_put_self _ _ _ (by decide),
    (((WordsKept.refl _ s).putB (by decide) _).of_regs h).put (by decide) _⟩

/-! ### ISO_B -/

/-- The pause after ISO_A is over: ISO_B is on. -/
def State.isoEngageB (s : State) : State :=
  let u := s.advanceTo (s.iso.since + 10000)
  { u with iso := { u.iso with phase := 3, isoB := true, onAt := u.now } }

theorem exec_isoBEngage (h : s.iso.phase = 2) :
    exec .isoBEngage s = .next (s.isoEngageB.put Reg.HVM_ISOSTAT_PHASE 2) := if_pos h

/-! ### The result -/

/-- The two resistances and the outcome of the consistency check stand in their registers (R117, R118). -/
def State.isoWritten (s : State) : State :=
  ((s.put Reg.HVM_ISORES_RP (isoCode s.isoResistances.1)).put Reg.HVM_ISORES_RN (isoCode s.isoResistances.2)).nextFree.putB
    Reg.HVM_ISOSTAT_INCONS (!s.isoConsistent)

theorem State.wordsKept_isoWritten (s : State) : WordsKept [Reg.HVM_ISOSTAT, Reg.HVM_ISORES] s s.isoWritten := by
  have hres := ((WordsKept.refl [Reg.HVM_ISOSTAT, Reg.HVM_ISORES] s).put (f := Reg.HVM_ISORES_RP) (by decide)
    (isoCode s.isoResistances.1)).put (f := Reg.HVM_ISORES_RN) (by decide) (isoCode s.isoResistances.2)
  exact (hres.of_regs (State.nextFree_regs _)).putB (by decide) _

/-- The result is judged (R117, R119); what remains is to show the run as complete. -/
def State.isoJudged (s : State) : State :=
  let u := s.isoWritten.raiseIf (!s.isoConsistent) Ev.HVM_ISO_SWITCH
  let hit := fun (f : Fld) => (s.isoConsistent && !u.flag Reg.HVM_ISOSTAT_UNSETTLED) &&
    decide (min s.isoResistances.1 s.isoResistances.2 ≤ ((u.get f : Nat) : Rat))
  (u.raiseIf (hit Reg.HVM_ISOTHR_WARN) Ev.HVM_ISO_WARN).raiseIf (hit Reg.HVM_ISOTHR_FAULT) Ev.HVM_ISO_FAULT

theorem State.isoResult_eq (s : State) : s.isoResult =
    ((s.isoJudged.put Reg.HVM_ISOSTAT_STATE 2).put Reg.HVM_ISOTICK_TICK s.isoJudged.tick).raise Ev.HVM_ISO_DONE := rfl

theorem State.isoJudged_facts (s : State) :
    s.isoJudged.tick = s.tick ∧ s.isoJudged.alive = s.alive ∧
    QuietWordsKept [Reg.HVM_ISOSTAT, Reg.HVM_ISORES] s s.isoJudged := by
  unfold State.isoJudged
  refine ⟨?_, ?_, ((s.wordsKept_isoWritten.quiet.raiseIf _ _).raiseIf _ _).raiseIf _ _⟩
  · simp only [State.raiseIf_tick]
    rfl
  · simp only [State.alive, State.raiseIf_power]
    rfl

theorem State.isoResult_facts (s : State) :
    s.isoResult.get Reg.HVM_ISOSTAT_STATE = 2 ∧ s.isoResult.get Reg.HVM_ISOTICK_TICK = s.tick % 2 ^ 32 ∧
    (s.alive = true → s.isoResult.raised Ev.HVM_ISO_DONE = true) ∧
    QuietWordsKept [Reg.HVM_ISOSTAT, Reg.HVM_ISOTICK, Reg.HVM_ISORES] s s.isoResult := by
  obtain ⟨htick, halive, hw⟩ := s.isoJudged_facts
  rw [State.isoResult_eq, htick]
  refine ⟨?_, ?_, fun ha => State.raised_raise _ _ (halive.trans ha) (by decide),
    (((hw.mono (by decide)).put (by decide) _).put (by decide) _).raise _⟩
  · rw [State.get_raise _ _ _ (by decide), State.get_put_apart _ _ _ _ (by decide), State.get_put_self _ _ _ (by decide)]
    rfl
  · rw [State.get_raise _ _ _ (by decide), State.get_put_self _ _ _ (by decide)]
    rfl

end Sys2Proof.Machine

open Sys2Proof Sys2Proof.Machine

/-- Settles O23, command by command: the request, the start at G, the ends of the two states, ISO_B, and the result. -/
theorem isolationCommands : Obligations.IsolationCommands := by
  refine ⟨?request, ?elsewhere, ?start, ?endA, ?endB, ?engage, ?result, State.isoResult_facts⟩
  case request => exact fun ini s hs => if_pos hs
  case elsewhere => exact fun ini s hs => if_neg (by simp [hs])
  case start =>
    intro g s hg hs hp hv
    rw [exec_isolationRunStart hg hs hp hv]
    obtain ⟨hstate, hphase, hrun, hincons, hset, hw⟩ := (s.isoStarted g).isoStartShow_facts
    exact .next ⟨rfl, rfl, rfl, rfl, rfl, rfl, rfl, hstate, hphase, hrun, hincons, hset, hw, rfl⟩
  case endA =>
    intro s hf hp
    rw [exec_isolationStateTimeout_first hf hp]
    obtain ⟨hset, hphase, hw⟩ :=
      State.isoUnsettled_facts (s := s) (u := (s.putB Reg.HVM_ISOSTAT_UNSETTLED true).isoEndA) rfl
    exact .next ⟨hset, hphase, rfl, rfl, rfl, rfl, hw, rfl⟩
  case endB =>
    intro s hf hp
    rw [exec_isolationStateTimeout_second hf hp]
    obtain ⟨hset, hphase, hw⟩ :=
      State.isoUnsettled_facts (s := s) (u := (s.putB Reg.HVM_ISOSTAT_UNSETTLED true).isoEndB) rfl
    exact .next ⟨hset, hphase, rfl, rfl, rfl, hw, rfl⟩
  case engage =>
    intro s hp
    rw [exec_isoBEngage hp]
    exact .next ⟨rfl, rfl, rfl, rfl, State.get_put_self _ _ _ (by decide),
      ((WordsKept.refl _ s).of_regs rfl).put (by decide) _, rfl⟩
  case result => exact fun s hp => if_pos hp

end

section
/-!
Packets on the link (R127 to R129, R143, R144, R180, R376): the check, what each end takes, and the transmission on lane 0.
-/
namespace Sys2Proof.Machine

variable {s : State}

/-! ### The check -/

/-- A packet that fails its check is counted and reported, and nothing else of the device changes (R127). -/
theorem State.linkCrc_facts (ha : s.alive = true) :
    s.linkCrc.get Reg.CSC_CRCERR_COUNT = min (s.get Reg.CSC_CRCERR_COUNT + 1) (2 ^ Reg.CSC_CRCERR_COUNT.wid - 1) ∧
    s.linkCrc.raised Ev.CSC_LINK_CRC = true ∧ QuietWordsKept [Reg.CSC_CRCERR] s s.linkCrc ∧ BytesKept s s.linkCrc ∧
    s.linkCrc.csc = s.csc :=
  ⟨(State.get_raise _ _ _ (by decide)).trans (State.get_incSat_self _ _ (by decide)), State.raised_raise _ _ ha (by decide),
    ((WordsKept.refl _ s).putSat (by decide) _).quiet.raise _, (BytesKept.of_mem (State.incSat_mem _ _)).raise _,
    (State.raise_csc _ _).trans (State.incSat_csc _ _)⟩

/-! ### A follower hears its lead -/

/-- A good heartbeat is passed on, heard, and carries the state of the charge ban (R144, R222). -/
def State.hears (s : State) (t : Nat) (f : Bool) : State :=
  let w := s.passAway ⟨.heartbeat, 8, t, f.toNat⟩
  { w with csc := { w.csc with heard := true }, saf := { w.saf with cascadeForb := f } }

theorem exec_heartbeatReceived (t : Nat) (f : Bool) (hl : s.isLead = false) (ha : s.alive = true) :
    exec (.heartbeatReceived true t f) s = .next
      (if s.flag Reg.CSC_STAT_LOCK then (s.hears t f).alignTick t else s.hears t f).protect :=
  (if_neg (by simp [hl, ha])).trans (if_neg (by decide))

/-! ### The lead takes a set or a frame record -/

/-- The frame buffer takes the set: its device is enumerated and not lost, its frame is open, and it is there for the first
time (R127, R129). -/
theorem exec_setPacketReceived {p : SetPacket} (hl : s.isLead = true) (ha : s.alive = true) (hp : p.crcOk = true) :
    exec (.setPacketReceived p) s = .next (if s.flag Reg.CSC_STAT_ENUM = true ∧ s.knows p.dev = true ∧
        s.bit Reg.CSC_LOST_DEV p.dev = false ∧
        (p.frame = s.frame % 65536 ∨ (p.frame = (s.frame + 65535) % 65536 ∧ s.csc.closed = false)) ∧
        (∀ q, q ∈ s.csc.buf → ¬ (q.dev = p.dev ∧ q.frame = p.frame ∧ q.idx = p.idx))
      then { s with csc := { s.csc with buf := p :: s.csc.buf } } else s) := by
  have hx : exec (.setPacketReceived p) s = _ :=
    (if_neg (by simp [ha])).trans ((if_neg (by simp [hp])).trans (if_neg (by simp [hl])))
  rw [hx, ← apply_ite Host.Outcome.next]
  refine congrArg _ (if_congr ?_ rfl rfl)
  simp [and_assoc]

theorem exec_frameRecordReceived_unknown {r : FrameRecord} (hl : s.isLead = true) (ha : s.alive = true)
    (hr : r.crcOk = true) (hk : s.knows r.dev = false) : exec (.frameRecordReceived r) s = .next s :=
  (if_neg (by simp [ha])).trans ((if_neg (by simp [hr])).trans ((if_neg (by simp [hl])).trans (if_pos (by simp [hk]))))

/-- The record of an enumerated device shows its TRIP; one of a lost device that asks for no readmission does no more. -/
theorem exec_frameRecordReceived {r : FrameRecord} (hl : s.isLead = true) (ha : s.alive = true) (hr : r.crcOk = true)
    (hk : s.knows r.dev = true) (he : s.flag Reg.CSC_STAT_ENUM = true) :
    exec (.frameRecordReceived r) s =
      let u := s.tripNow r.dev r.trip
      if u.bit Reg.CSC_LOST_DEV r.dev then .next (if r.readmit then u.readmit r else u)
      else
        let v := (((u.takeRecord r).checkDigest r).followAnchor r).takeGrants r
        .next (if r.stage != 0 || u.newReaction r then v.eisAbort.eisExc else v).settle.protect :=
  (if_neg (by simp [ha])).trans ((if_neg (by simp [hr])).trans ((if_neg (by simp [hl])).trans
    (if_neg (by simp [hk, he]))))

/-! ### A follower passes on what goes to the lead -/

theorem exec_toLead_passes (d : Nat) (op : ReplyOp) (p : SetPacket) (r : FrameRecord) (hl : s.isLead = false)
    (ha : s.alive = true) :
    (p.crcOk = true → exec (.setPacketReceived p) s = .next (s.passAway ⟨.set p, 0, 0, 0⟩)) ∧
    (r.crcOk = true → exec (.frameRecordReceived r) s = .next (s.passAway ⟨.record r, 0, 0, 0⟩)) ∧
    exec (.accessReplyReceived d true op) s = .next (s.passAway ⟨.reply op, 0, d, 0⟩) :=
  have halive : ¬ (!s.alive) = true := by simp [ha]
  have hfollow : (!s.isLead) = true := by simp [hl]
  ⟨fun hp => (if_neg halive).trans ((if_neg (by simp [hp])).trans (if_pos hfollow)),
    fun hr => (if_neg halive).trans ((if_neg (by simp [hr])).trans (if_pos hfollow)),
    (if_neg halive).trans ((if_neg (by decide)).trans (if_pos hfollow))⟩

/-! ### Lane 0 -/

/-- From F + 977,000 on a transmission queues the frame record first (R128). -/
def State.recordInTime (s : State) : State := if 977000 ≤ s.now - s.fstart then s.recordQueue else s

theorem State.recordInTime_facts (s : State) :
    s.recordInTime.isLead = s.isLead ∧ s.recordInTime.tt = s.tt ∧ s.recordInTime.now = s.now := by
  obtain ⟨q, r, d, i, h, -⟩ := s.recordQueue_only
  unfold State.recordInTime
  split
  next => rw [h]; exact ⟨rfl, rfl, rfl⟩
  next => exact ⟨rfl, rfl, rfl⟩

/-- A window is open for a transmission of this device toward the lead (R129). -/
def State.windowOpen (s : State) : Bool := !s.isLead && s.tt.xfer.any (s.now < ·)

theorem State.windowOpen_iff (s : State) :
    s.windowOpen = true ↔ s.isLead = false ∧ ∃ e, e ∈ s.tt.xfer ∧ s.now < e := by
  simp [State.windowOpen]

theorem exec_lane0Transmit (s : State) : exec .lane0Transmit s =
    let u := s.recordInTime
    if s.windowOpen = false then .next u
    else if u.csc.txq.any (·.kind.first) then .next (u.transmit (·.kind.first))
    else if 970000 ≤ s.now - s.fstart ∨ s.now - s.fstart < 20000 then .next u
    else .next (u.transmit (·.kind.lane0)) := by
  obtain ⟨hlead, htt, hnow⟩ := s.recordInTime_facts
  have hopen : (s.recordInTime.isLead = true ∨ (!s.recordInTime.tt.xfer.any (s.recordInTime.now < ·)) = true) ↔
      s.windowOpen = false := by
    rw [hlead, htt, hnow]
    cases hl : s.isLead <;> simp [State.windowOpen, hl]
  refine (if_congr hopen rfl (if_congr Iff.rfl rfl (if_congr ?_ rfl rfl)))
  simp

/-- What is sent leaves the queue, and goes out on the way to the lead (R128, R139). -/
theorem State.transmit_facts (s : State) (f : LinkMsg → Bool) :
    (s.transmit f).csc.txq = dropFirst f s.csc.txq ∧
    (∀ m : LinkMsg, s.csc.txq.find? f = some m → (s.transmit f).csc.wire = some (m, s.lane0Path)) ∧
    (s.transmit f).regs = s.regs ∧ (s.transmit f).mem = s.mem := by
  refine ⟨rfl, fun m hm => ?_, rfl, rfl⟩
  simp only [State.transmit, hm]

theorem State.recordQueue_facts (s : State) :
    (s.numbered = true → s.alive = true → s.actFrame = true → s.csc.recDone ≠ some s.frame →
      s.recordQueue.csc.txq = s.csc.txq ++ [⟨.record s.ownRecord, 0, 0, 0⟩] ∧ s.recordQueue.csc.recDone = some s.frame) ∧
    (s.csc.recDone = some s.frame → s.recordQueue = s) := by
  refine ⟨fun hn ha hf hr => ?_, fun hr => if_neg fun h => h.2.2.2 hr⟩
  have hx : s.recordQueue = _ := if_pos ⟨hn, ha, hf, hr⟩
  rw [hx]
  exact ⟨rfl, rfl⟩

end Sys2Proof.Machine

open Sys2Proof Sys2Proof.Machine

/-- Settles O42, packet by packet: the check, a device in reset, the heartbeat, sets, records and replies, and lane 0. -/
theorem linkPacketCommands : Obligations.LinkPacketCommands := by
  refine ⟨?badBeat, ?badSet, ?badRecord, ?badReply, fun s ha => State.linkCrc_facts ha, ?inReset, ?noBeat, ?beat, ?set,
    ?record, ?reply, ?lane0, State.transmit_facts, State.recordQueue_facts, fun f m l => ⟨rfl, rfl⟩, ?passes⟩
  case badBeat => exact fun t f s hl ha => (if_neg (by simp [hl, ha])).trans (if_pos rfl)
  case badSet => exact fun p s ha hp => (if_neg (by simp [ha])).trans (if_pos (by simp [hp]))
  case badRecord => exact fun r s ha hr => (if_neg (by simp [ha])).trans (if_pos (by simp [hr]))
  case badReply => exact fun d op s ha => (if_neg (by simp [ha])).trans (if_pos rfl)
  case inReset =>
    intro d op p r crc s ha
    have hoff : (!s.alive) = true := by simp [ha]
    exact ⟨if_pos hoff, if_pos hoff, if_pos hoff⟩
  case noBeat => exact fun crc f t s h => if_pos (by simpa using h)
  case beat =>
    intro t f s hl ha
    refine ⟨fun h => ?_, fun h => ?_⟩
    · rw [exec_heartbeatReceived t f hl ha, if_pos h]
      rfl
    · rw [exec_heartbeatReceived t f hl ha, if_neg (by simp [h])]
      rfl
  case set => exact fun p s hl ha hp => exec_setPacketReceived hl ha hp
  case record =>
    intro r s hl ha hr
    refine ⟨exec_frameRecordReceived_unknown hl ha hr, fun hk he hlost hre => ?_, fun hk he hlost => ?_⟩
    · rw [exec_frameRecordReceived hl ha hr hk he]
      exact (if_pos hlost).trans (congrArg _ (if_neg (by simp [hre])))
    · rw [exec_frameRecordReceived hl ha hr hk he]
      exact if_neg (by simp [hlost])
  case reply =>
    exact fun d tag data s hl ha => (if_neg (by simp [ha])).trans ((if_neg (by decide)).trans (if_neg (by simp [hl])))
  case lane0 =>
    intro s u
    rw [exec_lane0Transmit s]
    refine ⟨fun h => if_pos ?_, fun hl hx => ?_⟩
    · rw [← Bool.not_eq_true, s.windowOpen_iff]
      rintro ⟨hl, e, he, hlt⟩
      rcases h with h | h
      · exact absurd (hl.symm.trans h) (by decide)
      · exact absurd (h e he) (by omega)
    · have hopen : ¬ s.windowOpen = false := by simp [s.windowOpen_iff.2 ⟨hl, hx⟩]
      refine ⟨fun hq => ?_, fun hq hoff => ?_, fun hq h0 h1 => ?_⟩
      · exact (if_neg hopen).trans (if_pos hq)
      · exact (if_neg hopen).trans ((if_neg (Bool.eq_false_iff.1 hq)).trans (if_pos hoff))
      · exact (if_neg hopen).trans ((if_neg (Bool.eq_false_iff.1 hq)).trans (if_neg (by omega)))
  case passes => exact fun d op p r s hl ha => exec_toLead_passes d op p r hl ha

end

section
/-!
Enumeration (R136 to R138, R142) and foreign leads (Table 5.4): the lead's token, the token on its way, its time-out, and the
request for a new enumeration.
-/
namespace Sys2Proof.Machine

variable {s : State}

/-! ### The lead starts -/

/-- The first token is on its way: stage 1, device 1, count 1 (R136 step 2). -/
theorem State.sendToken_facts (s : State) :
    s.sendToken.csc.stage = 1 ∧ s.sendToken.csc.sent = true ∧ s.sendToken.csc.tokenAt = s.now ∧
    s.sendToken.csc.expect = [] ∧ s.sendToken.csc.records = [] ∧
    s.sendToken.csc.txq = s.csc.txq ++ [⟨.token, 1, 1, 0⟩] ∧ s.sendToken.csc.firstMarker = s.csc.firstMarker ∧
    s.sendToken.regs = s.regs ∧ s.sendToken.mem = s.mem ∧ s.sendToken.now = s.now :=
  ⟨rfl, rfl, rfl, rfl, rfl, rfl, rfl, rfl, rfl, rfl⟩

theorem exec_enumerationStart (h : s.mayEnum = true) (hh : s.hopsWhole = true) :
    exec .enumerationStart s = .next (s.advanceTo (s.csc.hopsAt + 100000)).sendToken := if_pos ⟨h, hh⟩

theorem exec_enumRetry (h : s.mayEnum = true) :
    exec .enumRetry s = .next (s.advanceTo (s.csc.tokenAt + 10000000)).sendToken := if_pos h

/-- A lead that may not enumerate starts no attempt of either kind. -/
theorem exec_enumeration_stays (h : s.mayEnum = false) : exec .enumerationStart s = .next s ∧
    exec .enumRetry s = .next s ∧ exec .singleDeviceEnumTimeout s = .next s := by
  refine ⟨if_neg (by simp [h]), if_neg (by simp [h]), ?_⟩
  show execSingleDeviceEnumTimeout s = _
  unfold execSingleDeviceEnumTimeout
  split
  next => exact if_neg (by simp [h])
  next => rfl

/-- A cascade of one waits for the boundary that completes it, with no device found (R137). -/
def State.aloneFound (s : State) : State :=
  State.put { s with csc := { s.csc with stage := 3, records := [], expect := [] } } Reg.CSC_ENUMSTAT_NFOUND 0

theorem exec_singleDeviceEnumTimeout {n : Nat} (hm : s.csc.firstMarker = some n) (h : s.mayEnum = true)
    (hn : s.get Reg.CSC_CFG_NDEV ≤ 1) (hl : s.csc.everLocked = false) :
    exec .singleDeviceEnumTimeout s = .next (s.advanceTo (n + 100000)).aloneFound := by
  show execSingleDeviceEnumTimeout s = _
  unfold execSingleDeviceEnumTimeout
  simp only [hm]
  exact if_pos ⟨h, hn, by simp [hl]⟩

/-! ### The token -/

theorem exec_enumTokenReceived_lead (r : Bool) (n : Nat) (ha : s.alive = true) (hl : s.isLead = true) :
    exec (.enumTokenReceived r n true) s = .next (s.tokenBack r n) :=
  (if_neg (by simp [ha])).trans ((if_neg (by decide)).trans (if_pos hl))

theorem exec_enumTokenReceived_follower (r : Bool) (n : Nat) (ha : s.alive = true) (hl : s.isLead = false) :
    exec (.enumTokenReceived r n true) s = .next (s.tokenTake r n) :=
  (if_neg (by simp [ha])).trans ((if_neg (by decide)).trans (if_neg (by simp [hl])))

/-- A token that this lead has not sent is its own late one, once, and otherwise another lead's (R138). -/
theorem State.tokenBack_unsent (r : Bool) (n : Nat) (hs : s.csc.sent = false) : s.tokenBack r n =
    if s.csc.lateTok then { s with csc := { s.csc with lateTok := false } } else s.multiLead := if_pos (by simp [hs])

/-- The forward token is back: the count gives the number of devices, and the reverse token goes out (R136 step 4). -/
def State.forwardBack (s : State) (n : Nat) : State :=
  (State.put { s with csc := { s.csc with stage := 2, tokenAt := s.now } } Reg.CSC_ENUMSTAT_NFOUND (n - 1)).send .token
    (n - 1) n 1

theorem State.tokenBack_forward (n : Nat) (hs : s.csc.sent = true) (h1 : s.csc.stage = 1) :
    s.tokenBack false n = s.forwardBack n := (if_neg (by simp [hs])).trans (if_pos ⟨h1, rfl⟩)

/-- The reverse token is back with the number that the forward one gave: it must be that of the configuration
(R136 steps 5 and 6). -/
theorem State.tokenBack_reverse {n : Nat} (hs : s.csc.sent = true) (h2 : s.csc.stage = 2)
    (hn : n = s.get Reg.CSC_ENUMSTAT_NFOUND + 1) : s.tokenBack true n =
      if n ≠ clampN 1 8 (s.get Reg.CSC_CFG_NDEV) then
        State.raise { s with csc := { s.csc with sent := false, stage := 0 } } Ev.CSC_ENUM_MISMATCH
      else { s with csc := { s.csc with sent := false, stage := 3 } } := by
  subst hn
  exact (if_neg (by simp [hs])).trans ((if_neg (by simp [h2])).trans ((if_pos ⟨h2, rfl⟩).trans (if_neg (by simp))))

/-- A follower takes the forward count as its number (R136 step 3). -/
def State.numberTaken (s : State) (n : Nat) : State :=
  (State.put { s with csc := { s.csc with stage := 1 } } Reg.SYS_PROFSTAT_DEVNUM n).send .token (n + 1) (n + 1) 0

theorem State.tokenTake_forward (s : State) (n : Nat) : s.tokenTake false n = s.numberTaken n := if_pos (by decide)

theorem State.tokenTake_reverse (s : State) (n : Nat) : s.tokenTake true n =
    if s.csc.stage = 1 then State.send { s with csc := { s.csc with stage := 3 } } .token 0 n 1
    else if s.flag Reg.CSC_STAT_LOCK = true ∧ (s.devNum = 0 ∨ s.devNum = n) then
      State.put { s with csc := { s.csc with stage := 3, answered := true } } Reg.SYS_PROFSTAT_DEVNUM n
    else s := if_neg (by decide)

/-- No token came back in its 100,000 ticks: the attempt has ended, and the next token may be this late one (R138). -/
def State.tokenLost (s : State) : State :=
  let u := s.advanceTo (s.csc.tokenAt + 100000)
  { u with csc := { u.csc with stage := 0, sent := false, lateTok := true } }

theorem exec_enumTokenTimeout (hl : s.isLead = true) (ha : s.alive = true) (h : s.csc.stage = 1 ∨ s.csc.stage = 2) :
    exec .enumTokenTimeout s = .next (s.tokenLost.raise Ev.CSC_RING_OPEN) :=
  if_pos ⟨hl, ha, h⟩

/-! ### A new enumeration -/

/-- The enumeration is given up, and with it the role (R147). -/
def State.unenumerated (s : State) : State := (s.putB Reg.CSC_STAT_ENUM false).put Reg.SYS_PROFSTAT_ROLE 0

theorem State.unenumerated_facts (s : State) :
    s.unenumerated.flag Reg.CSC_STAT_ENUM = false ∧ s.unenumerated.get Reg.SYS_PROFSTAT_ROLE = 0 ∧
    WordsKept [Reg.CSC_STAT, Reg.SYS_PROFSTAT] s s.unenumerated := by
  refine ⟨?_, State.get_put_self _ _ _ (by decide), ((WordsKept.refl _ s).putB (by decide) _).put (by decide) _⟩
  exact (State.flag_put_apart _ _ _ _ (by decide)).trans (State.flag_putB_self _ _ _ (by decide) (by decide))

/-- No attempt is under way, and a cascade of one waits anew for a port to lock (R137). -/
def State.waitsAnew (s : State) : State := { s with csc := { s.csc with stage := 0, firstMarker := some s.now } }

theorem exec_enumRequest (ini : Ini) (hl : s.isLead = true) (ha : s.alive = true) (hr : s.anyRoleOn = false)
    (hm : s.csc.mute = false) : exec (.enumRequest ini) s = .next
      (if s.hopsWhole = true ∧ s.csc.hopsAt + 100000 ≤ s.now then s.unenumerated.waitsAnew.sendToken
        else s.unenumerated.waitsAnew) :=
  if_neg (by simp [hl, ha, hr, hm])

end Sys2Proof.Machine

open Sys2Proof Sys2Proof.Machine

/-- Settles O44, command by command: the start and the retry, a cascade of one, the token on the lead and on a follower, its
time-out, the request, and the two signs of a wrong number of leads. -/
theorem enumerationCommands : Obligations.EnumerationCommands := by
  refine ⟨?start, ?retry, fun s h => exec_enumeration_stays h, ?alone, ?inReset, ?bad, ?unsent, ?forward, ?reverse, ?take,
    ?takeReverse, ?timeout, ?noTimeout, ?request, ?noRequest, ?noLead, ?leadSeen, ?foreign, ?noForeign⟩
  case start =>
    intro s h hh
    rw [exec_enumerationStart h hh]
    obtain ⟨hstage, hsent, hat, hexp, hrec, hq, -, hregs, hmem, hnow⟩ :=
      (s.advanceTo (s.csc.hopsAt + 100000)).sendToken_facts
    exact .next ⟨hnow, hstage, hsent, hat.trans hnow.symm, hexp, hrec, hq, hregs, hmem⟩
  case retry =>
    intro s h
    rw [exec_enumRetry h]
    obtain ⟨hstage, hsent, hat, -, -, hq, -, hregs, hmem, hnow⟩ :=
      (s.advanceTo (s.csc.tokenAt + 10000000)).sendToken_facts
    exact .next ⟨hstage, hsent, hnow, hat.trans hnow.symm, hq, hregs, hmem⟩
  case alone =>
    intro n s hm h hn hl
    rw [exec_singleDeviceEnumTimeout hm h hn hl]
    exact .next ⟨rfl, State.get_put_self _ _ _ (by decide), rfl, ((WordsKept.refl _ s).of_regs rfl).put (by decide) _, rfl⟩
  case inReset => exact fun r n s ha => ⟨if_pos (by simp [ha]), if_pos (by simp [ha])⟩
  case bad => exact fun r n s ha => (if_neg (by simp [ha])).trans (if_pos rfl)
  case unsent =>
    intro r n s ha hl hs
    rw [exec_enumTokenReceived_lead r n ha hl, State.tokenBack_unsent r n hs]
    exact ⟨fun h => congrArg _ (if_neg (by simp [h])), fun h => congrArg _ (if_pos h)⟩
  case forward =>
    intro n s ha hl hs h1
    rw [exec_enumTokenReceived_lead false n ha hl, State.tokenBack_forward n hs h1]
    exact .next ⟨rfl, rfl, State.get_put_self _ _ _ (by decide), rfl,
      (((WordsKept.refl _ s).of_regs rfl).put (by decide) _).of_regs rfl, rfl⟩
  case reverse =>
    intro n s ha hl hs h2 hn
    rw [exec_enumTokenReceived_lead true n ha hl, State.tokenBack_reverse hs h2 hn]
    split
    next hne =>
      exact .next ⟨congrArg Csc.sent (State.raise_csc _ _), fun he => absurd he hne,
        fun _ => ⟨congrArg Csc.stage (State.raise_csc _ _), State.raised_raise _ _ ha (by decide)⟩⟩
    next heq => exact .next ⟨rfl, fun _ => ⟨rfl, rfl⟩, fun hne => absurd hne heq⟩
  case take =>
    intro n s ha hl
    rw [exec_enumTokenReceived_follower false n ha hl, State.tokenTake_forward]
    exact .next ⟨rfl, State.get_put_self _ _ _ (by decide), rfl,
      (((WordsKept.refl _ s).of_regs rfl).put (by decide) _).of_regs rfl, rfl⟩
  case takeReverse =>
    intro n s ha hl
    rw [exec_enumTokenReceived_follower true n ha hl, State.tokenTake_reverse]
    refine ⟨fun h1 => ?_, fun h1 hlock hnum => ?_, fun h1 h => ?_⟩
    · rw [if_pos h1]
      exact .next ⟨rfl, rfl, rfl⟩
    · rw [if_neg h1, if_pos ⟨hlock, hnum⟩]
      exact .next ⟨rfl, rfl, State.get_put_self _ _ _ (by decide)⟩
    · refine congrArg _ ((if_neg h1).trans (if_neg ?_))
      rintro ⟨hlock, hnum⟩
      rcases h with h | ⟨h0, hn⟩
      · exact absurd (hlock.symm.trans h) (by decide)
      · exact hnum.elim h0 hn
  case timeout =>
    intro s hl ha h
    rw [exec_enumTokenTimeout hl ha h]
    exact .next ⟨congrArg Csc.stage (State.raise_csc _ _), congrArg Csc.sent (State.raise_csc _ _),
      congrArg Csc.lateTok (State.raise_csc _ _), State.raise_now _ _, State.raised_raise _ _ ha (by decide),
      ((WordsKept.refl [] s).of_regs (u := s.tokenLost) rfl).quiet.raise _⟩
  case noTimeout =>
    intro s h
    refine if_neg ?_
    rintro ⟨hl, -, hs⟩
    rcases h with h | h | h
    · exact absurd (hl.symm.trans h) (by decide)
    · omega
    · omega
  case request =>
    intro ini s hl ha hr hm
    rw [exec_enumRequest ini hl ha hr hm]
    obtain ⟨henum, hrole, hw⟩ := s.unenumerated_facts
    split
    next =>
      obtain ⟨hstage, -, -, -, -, -, hfirst, hregs, hmem, -⟩ := s.unenumerated.waitsAnew.sendToken_facts
      exact .next ⟨henum, hrole, hfirst, hstage, hw.of_regs hregs, hmem⟩
    next => exact .next ⟨henum, hrole, rfl, rfl, hw.of_regs rfl, rfl⟩
  case noRequest => exact fun ini s h => if_pos (by rcases h with h | h | h <;> simp [h])
  case noLead =>
    intro s hl ha hm hs ht
    exact if_neg (by simpa [hl, ha, hm, hs] using ht)
  case leadSeen =>
    intro s h
    refine if_pos ?_
    rcases h with h | h | h
    · exact .inl h
    · exact .inr (.inr (.inl h))
    · exact .inr (.inr (.inr (.inr h)))
  case foreign => exact fun s hl ha hm => if_pos ⟨hl, ha, by simp [hm]⟩
  case noForeign => exact fun s h => if_neg (by rcases h with h | h <;> simp [h])

end

section
/-!
The ring and its losses (R139 to R146, R457): hops and gaps, a lost follower, a lost lead, and the TRIP line.
-/
namespace Sys2Proof.Machine

variable {s : State}

/-! ### Hops and gaps -/

/-- The gap that a lost hop makes with the gaps that it touches (R139). -/
def State.gapAround (s : State) (h : Nat) : Gap :=
  { hops := (s.csc.gaps.filter (·.touches h)).foldl (fun m g => m ||| g.hops) (2 ^ h), healed := none }

/-- The hop has joined the gaps that it touches, and STAT shows the direction of the ring (R139). -/
def State.hopJoined (s : State) (h : Nat) : State :=
  let u := (s.hopDown h).gapJoin h (s.gapAround h)
  u.putB Reg.CSC_STAT_REVERSED u.gapReversed

/-- The gap on the lead (R139, R140). -/
def State.hopBroken (s : State) (h : Nat) : State :=
  ((s.hopJoined h).gapShow (s.gapAround h)).putB Reg.CSC_RINGSTAT_BROKEN true

/-- A hop that is no hop of an enumerated ring is marked alone. -/
theorem exec_hopLockLost_marked {h : Nat} (ha : s.alive = true)
    (hx : s.flag Reg.CSC_STAT_ENUM = false ∨ (s.isLead = true ∧ (s.hopCount ≤ h ∨ s.hopCount ≤ 1))) :
    exec (.hopLockLost h) s = .next (s.hopDown h) := by
  refine (if_neg (by simp [ha])).trans (if_pos ?_)
  rcases hx with he | hlead
  · have hn : (!s.flag Reg.CSC_STAT_ENUM) = true := by simp [he]
    exact .inl hn
  · exact .inr hlead

theorem exec_hopLockLost_lead {h : Nat} (ha : s.alive = true) (he : s.flag Reg.CSC_STAT_ENUM = true) (hh : h < s.hopCount)
    (h1 : 1 < s.hopCount) (hl : s.isLead = true) : exec (.hopLockLost h) s =
      .next (if (s.csc.gaps.filter (·.touches h)).isEmpty then
        ((s.hopBroken h).incSat Reg.CSC_RINGSTAT_BRKCNT).raise Ev.CSC_RING_BREAK else s.hopBroken h) := by
  refine (if_neg (by simp [ha])).trans ((if_neg ?_).trans (if_pos hl))
  show ¬ ((!s.flag Reg.CSC_STAT_ENUM) = true ∨ (s.isLead = true ∧ (s.hopCount ≤ h ∨ s.hopCount ≤ 1)))
  rintro (hn | ⟨-, hx⟩)
  · simp [he] at hn
  · omega

theorem exec_hopLockLost_follower {h : Nat} (ha : s.alive = true) (he : s.flag Reg.CSC_STAT_ENUM = true)
    (hl : s.isLead = false) : exec (.hopLockLost h) s = .next (s.hopJoined h) := by
  have hn : ¬ s.isLead = true := by simp [hl]
  refine (if_neg (by simp [ha])).trans ((if_neg ?_).trans (if_neg hn))
  show ¬ ((!s.flag Reg.CSC_STAT_ENUM) = true ∨ (s.isLead = true ∧ (s.hopCount ≤ h ∨ s.hopCount ≤ 1)))
  simp [he, hl]

theorem State.hopJoined_facts (s : State) (h : Nat) :
    (s.hopJoined h).flag Reg.CSC_STAT_REVERSED = ((s.hopDown h).gapJoin h (s.gapAround h)).gapReversed ∧
    (s.hopJoined h).csc = ((s.hopDown h).gapJoin h (s.gapAround h)).csc ∧
    WordsKept [Reg.CSC_STAT] s (s.hopJoined h) ∧ (s.hopJoined h).mem = s.mem ∧ (s.hopJoined h).power = s.power := by
  have hw : WordsKept [Reg.CSC_STAT] s ((s.hopDown h).gapJoin h (s.gapAround h)) := (WordsKept.refl _ s).of_regs rfl
  exact ⟨State.flag_putB_self _ _ _ (by decide) (by decide), rfl, hw.putB (by decide) _, rfl, rfl⟩

/-- With any gap the lead uses both directions of the ring (R139). -/
theorem State.gapReversed_gapJoin (u : State) (h : Nat) (g : Gap) (hl : u.isLead = true) :
    (u.gapJoin h g).gapReversed = true := by
  have hlead : (u.gapJoin h g).isLead = true := hl
  unfold State.gapReversed
  rw [hlead]
  simp [State.gapJoin]

theorem State.gapShow_facts (s : State) (g : Gap) :
    WordsKept [Reg.CSC_RINGSTAT] s (s.gapShow g) ∧ (s.gapShow g).csc = s.csc ∧ (s.gapShow g).mem = s.mem ∧
    (s.gapShow g).power = s.power :=
  ⟨((WordsKept.refl _ s).put (by decide) _).put (by decide) _, rfl, rfl, rfl⟩

theorem State.hopBroken_facts (h : Nat) (hl : s.isLead = true) :
    (s.hopBroken h).flag Reg.CSC_RINGSTAT_BROKEN = true ∧ (s.hopBroken h).flag Reg.CSC_STAT_REVERSED = true ∧
    (s.hopBroken h).csc = ((s.hopDown h).gapJoin h (s.gapAround h)).csc ∧
    WordsKept [Reg.CSC_RINGSTAT, Reg.CSC_STAT] s (s.hopBroken h) ∧ (s.hopBroken h).mem = s.mem ∧
    (s.hopBroken h).power = s.power := by
  obtain ⟨hrev, hcsc, hw, hm, hp⟩ := s.hopJoined_facts h
  obtain ⟨hsw, hscsc, hsm, hsp⟩ := (s.hopJoined h).gapShow_facts (s.gapAround h)
  have hshow : WordsKept [Reg.CSC_RINGSTAT] (s.hopJoined h) (s.hopBroken h) := hsw.putB (by decide) _
  refine ⟨State.flag_putB_self _ _ _ (by decide) (by decide), ?_, (State.putB_csc _ _ _).trans (hscsc.trans hcsc),
    hw.append hshow, (State.putB_mem _ _ _).trans (hsm.trans hm), (State.putB_power _ _ _).trans (hsp.trans hp)⟩
  rw [hshow.flag Reg.CSC_STAT_REVERSED (by decide), hrev]
  exact State.gapReversed_gapJoin (s.hopDown h) h _ hl

/-- A new gap of the ring is counted and reported (R140). -/
theorem State.breakCounted_facts (s : State) :
    let t := (s.incSat Reg.CSC_RINGSTAT_BRKCNT).raise Ev.CSC_RING_BREAK
    t.flag Reg.CSC_RINGSTAT_BROKEN = s.flag Reg.CSC_RINGSTAT_BROKEN ∧
    t.flag Reg.CSC_STAT_REVERSED = s.flag Reg.CSC_STAT_REVERSED ∧
    t.csc = s.csc ∧ (s.alive = true → t.raised Ev.CSC_RING_BREAK = true) ∧
    QuietWordsKept [Reg.CSC_RINGSTAT, Reg.CSC_STAT] s t ∧ BytesKept s t := by
  have hw : WordsKept [Reg.CSC_RINGSTAT, Reg.CSC_STAT] s (s.incSat Reg.CSC_RINGSTAT_BRKCNT) :=
    (WordsKept.refl _ s).putSat (by decide) _
  refine ⟨?_, ?_, (State.raise_csc _ _).trans (State.incSat_csc _ _), fun ha => State.raised_raise _ _ ha (by decide),
    hw.quiet.raise _, (BytesKept.of_mem (State.incSat_mem _ _)).raise _⟩
  · rw [State.flag_raise _ _ _ (by decide), State.flag, State.get_incSat_apart _ _ _ (by decide), State.flag]
  · rw [State.flag_raise _ _ _ (by decide), State.flag, State.get_incSat_apart _ _ _ (by decide), State.flag]

theorem exec_hopLockGained (h : Nat) (ha : s.alive = true) : Gives (exec (.hopLockGained h) s) fun t =>
    t.csc.hops = bitTo s.csc.hops h true ∧ t.csc.hopsLost = bitTo s.csc.hopsLost h false ∧ t.csc.hopsAt = s.now ∧
    t.csc.everLocked = true ∧ t.csc.gaps.length = s.csc.gaps.length ∧ t.regs = s.regs ∧ t.mem = s.mem :=
  ⟨_, if_neg (by simp [ha]), rfl, rfl, rfl, rfl, List.length_map _, rfl, rfl⟩

/-- A gap is closed 100 frame periods after its last hop has locked (R140). -/
theorem State.gapClosed_iff (s : State) (g : Gap) :
    s.gapClosed g = true ↔ ∃ n, g.healed = some n ∧ n + 100000000 ≤ s.now := by
  unfold State.gapClosed
  split
  next n hn => simp [hn]
  next hn => simp [hn]

/-! ### A lost follower -/

/-- What the lead keeps of the loss of device `d`: its frame, no more missed frames, and no charge ban of its own (R141). -/
def State.lossNoted (s : State) (d : Nat) : State := { s with
  csc := { s.csc with
    lostAt := s.csc.lostAt.set d s.frame, missed := s.csc.missed.set d 0, differ := s.csc.differ.set d 0 }
  saf := { s.saf with followerForb := bitTo s.saf.followerForb d false } }

/-- Device `d` is declared lost (R141). -/
def State.followerGone (s : State) (d : Nat) : State :=
  ((s.lossNoted d).putBit Reg.CSC_LOST_DEV d true).raise Ev.CSC_FOLLOWER_LOST

theorem State.followerGone_facts (d : Nat) (ha : s.alive = true) :
    (s.followerGone d).csc.records = s.csc.records ∧ (s.followerGone d).csc.lostAt = s.csc.lostAt.set d s.frame ∧
    (s.followerGone d).saf.followerForb = bitTo s.saf.followerForb d false ∧
    (s.followerGone d).raised Ev.CSC_FOLLOWER_LOST = true ∧
    (d < 8 → (s.followerGone d).bit Reg.CSC_LOST_DEV d = true) ∧ (s.followerGone d).bal.asked = s.bal.asked := by
  have hcsc : (s.followerGone d).csc = (s.lossNoted d).csc := State.raise_csc _ _
  have hsaf : (s.followerGone d).saf = (s.lossNoted d).saf := State.raise_saf _ _
  have hbal : (s.followerGone d).bal = s.bal := State.raise_bal _ _
  refine ⟨(congrArg Csc.records hcsc).trans rfl, congrArg Csc.lostAt hcsc, congrArg Saf.followerForb hsaf,
    State.raised_raise _ _ ha (by decide), fun hd => ?_, congrArg Bal.asked hbal⟩
  exact (congrArg (·.testBit d) (State.get_raise _ _ _ (by decide))).trans
    (State.bit_putBit_self _ Reg.CSC_LOST_DEV _ _ (by decide) hd)

theorem exec_followerLost {d : Nat} (hl : s.isLead = true) (ha : s.alive = true) (he : s.flag Reg.CSC_STAT_ENUM = true)
    (hk : s.knows d = true) (hp : s.bit Reg.CSC_LOST_DEV d = false)
    (hm : clampN 1 15 (s.get Reg.CSC_LOSSCFG_FLOST) ≤ s.csc.missed.getD d 0) :
    exec (.followerLost d) s = .next (
      let w := s.followerGone d
      let v := if ((s.anchorRecord.map (·.dev)) == some d) = true ∧ w.bal.asked.testBit 2 = true then w.isoOver else w
      (if 2 ≤ v.eis.phase then v.eisIncomplete else v).settle.protect) :=
  if_pos ⟨hl, ha, he, hk, by simp [hp], hm⟩

theorem exec_followerLost_stays {d : Nat} (h : s.isLead = false ∨ s.knows d = false ∨ s.bit Reg.CSC_LOST_DEV d = true ∨
    s.csc.missed.getD d 0 < clampN 1 15 (s.get Reg.CSC_LOSSCFG_FLOST)) : exec (.followerLost d) s = .next s := by
  refine if_neg ?_
  rintro ⟨hl, -, -, hk, hp, hm⟩
  rcases h with h | h | h | h
  · exact absurd (hl.symm.trans h) (by decide)
  · exact absurd (hk.symm.trans h) (by decide)
  · simp [h] at hp
  · omega

/-! ### A lost lead -/

/-- The follower has no lead: its time is its own, and the marks of the SUSPECT mask go (R144, R206). -/
def State.leadGone (s : State) : State :=
  let u := ((s.putB Reg.CSC_STAT_NOLEAD true).putB Reg.TMB_SRC_ALIGNED false).raise Ev.CSC_LEAD_LOST
  State.putB { u with thm := { u.thm with suspect := 0, suspectNext := none } } Reg.THM_STAT_SUSP false

theorem State.leadGone_facts (s : State) :
    s.leadGone.flag Reg.CSC_STAT_NOLEAD = true ∧ s.leadGone.flag Reg.TMB_SRC_ALIGNED = false ∧
    s.leadGone.flag Reg.THM_STAT_SUSP = false ∧ s.leadGone.thm.suspect = 0 ∧ s.leadGone.thm.suspectNext = none := by
  unfold State.leadGone
  generalize hu : ((s.putB Reg.CSC_STAT_NOLEAD true).putB Reg.TMB_SRC_ALIGNED false).raise Ev.CSC_LEAD_LOST = u
  have hlead : u.flag Reg.CSC_STAT_NOLEAD = true := by
    rw [← hu]
    simp (disch := decide) only [State.flag_raise, State.flag_putB_apart, State.flag_putB_self]
  have htime : u.flag Reg.TMB_SRC_ALIGNED = false := by
    rw [← hu]
    simp (disch := decide) only [State.flag_raise, State.flag_putB_self]
  exact ⟨(State.flag_putB_apart _ _ _ _ (by decide)).trans hlead, (State.flag_putB_apart _ _ _ _ (by decide)).trans htime,
    State.flag_putB_self _ _ _ (by decide) (by decide), rfl, rfl⟩

theorem exec_leadLost (hl : s.isLead = false) (ha : s.alive = true) (hs : s.sleeping = false)
    (hm : s.csc.everMarker = true) (hn : s.flag Reg.CSC_STAT_NOLEAD = false) (hh : s.csc.heard = false)
    (ht : clampN 2 255 (s.get Reg.CSC_LOSSCFG_LTMO) ≤ s.csc.silent + 1) :
    exec .leadLost s = .next s.leadGone.eisAbort.dropCascadeGrants.isoOrphan.settle :=
  if_neg (by simpa [hl, ha, hs, hm, hn, hh] using ht)

/-! ### TRIP -/

/-- TRIP is low: TRIPIN shows it, and its first sight is reported (R145, R146). -/
def State.tripSeen (s : State) : State :=
  let u := s.raiseIf (!s.flag Reg.CSC_STAT_TRIPIN) Ev.CSC_TRIP_IN
  State.putB { u with saf := { u.saf with tripIn := true } } Reg.CSC_STAT_TRIPIN true

theorem State.tripSeen_facts (s : State) :
    s.tripSeen.saf.tripIn = true ∧ s.tripSeen.flag Reg.CSC_STAT_TRIPIN = true ∧
    (s.flag Reg.CSC_STAT_TRIPIN = true → WordsKept [Reg.CSC_STAT] s s.tripSeen) ∧
    QuietWordsKept [Reg.CSC_STAT] s s.tripSeen := by
  unfold State.tripSeen
  generalize hu : s.raiseIf (!s.flag Reg.CSC_STAT_TRIPIN) Ev.CSC_TRIP_IN = u
  have hq : QuietWordsKept [Reg.CSC_STAT] s u := hu ▸ (WordsKept.refl _ s).quiet.raiseIf _ _
  refine ⟨rfl, State.flag_putB_self _ _ _ (by decide) (by decide), fun h => ?_, (hq.of_regs rfl).putB (by decide) _⟩
  have hus : u = s := by rw [← hu, h]; rfl
  have hw : WordsKept [Reg.CSC_STAT] s u := hus.symm ▸ WordsKept.refl _ s
  exact (hw.of_regs rfl).putB (by decide) _

theorem exec_tripReadbackCheck (r : Bool) (hout : s.flag Reg.CSC_STAT_TRIPOUT = true) (ha : s.alive = true) :
    exec (.tripReadbackCheck r) s = .next ((s.advanceTo (s.csc.tripAt + 200)).raiseIf r Ev.CSC_TRIP_FAULT) :=
  if_pos ⟨hout, ha⟩

end Sys2Proof.Machine

open Sys2Proof Sys2Proof.Machine

/-- Settles O45, command by command: the hops, the closed gaps, the lost follower and its trip, the lost lead and its trip, and
the TRIP line. -/
theorem ringAndLossCommands : Obligations.RingAndLossCommands := by
  refine ⟨?inReset, fun h s ha hx => exec_hopLockLost_marked ha hx, ?lead, ?follower, fun h s ha => exec_hopLockGained h ha,
    ?closed, fun g s => s.gapClosed_iff g, fun s ha => if_neg (by simp [ha]), ?lost,
    fun d s h => exec_followerLost_stays h, ?lossTrip, ?noLossTrip, ?leadStays, ?leadLost, ?leadTrip, ?noLeadTrip, ?tripReset,
    ?trip, ?readback, ?released, ?begins⟩
  case inReset => exact fun h s ha => ⟨if_pos (by simp [ha]), if_pos (by simp [ha])⟩
  case lead =>
    intro h s ha he hh h1 hl
    rw [exec_hopLockLost_lead ha he hh h1 hl]
    obtain ⟨hb, hr, hcsc, hw, hm, hp⟩ := State.hopBroken_facts h hl
    have halive : (s.hopBroken h).alive = s.alive :=
      congrArg (fun p : Power => p.phase != .inReset) hp
    split
    next =>
      obtain ⟨hb', hr', hcsc', hev, hq, hy⟩ := (s.hopBroken h).breakCounted_facts
      exact .next ⟨hb'.trans hb, hr'.trans hr, congrArg Csc.hops (hcsc'.trans hcsc), congrArg Csc.gaps (hcsc'.trans hcsc),
        fun _ => hev (halive.trans ha), hw.quiet.trans hq, (BytesKept.of_mem hm).trans hy⟩
    next hnear =>
      refine .next ⟨hb, hr, congrArg Csc.hops hcsc, congrArg Csc.gaps hcsc, fun hnone => absurd ?_ hnear, hw.quiet,
        BytesKept.of_mem hm⟩
      simpa using hnone
  case follower =>
    intro h s ha he hl
    rw [exec_hopLockLost_follower ha he hl]
    obtain ⟨hr, hcsc, hw, hm, -⟩ := s.hopJoined_facts h
    refine .next ⟨congrArg Csc.hops hcsc, congrArg Csc.gaps hcsc, hr.trans ?_, hw, hm⟩
    have hlead : ((s.hopDown h).gapJoin h (s.gapAround h)).isLead = false := hl
    unfold State.gapReversed
    rw [hlead]
    rfl
  case closed => exact fun s ha => if_pos ha
  case lost =>
    intro d s hl ha he hk hp hm
    obtain ⟨hrec, hat, hforb, hev, hbit, hask⟩ := State.followerGone_facts d ha
    rw [exec_followerLost hl ha he hk hp hm]
    exact .next ⟨_, hrec, hat, hforb, hev, hbit, hask, rfl⟩
  case lossTrip => exact fun d s hl ha hp h0 hf => if_pos ⟨hl, ha, hp, h0, hf⟩
  case noLossTrip => exact fun d s h => if_neg (by rcases h with h | h <;> simp [h])
  case leadStays => exact fun s h => if_pos (by rcases h with h | h | h | h <;> simp [h])
  case leadLost =>
    intro s hl ha hs hm hn hh ht
    rw [exec_leadLost hl ha hs hm hn hh ht]
    obtain ⟨hnolead, htime, hsusp, hmask, hnext⟩ := s.leadGone_facts
    exact .next ⟨_, hnolead, htime, hsusp, hmask, hnext, rfl⟩
  case leadTrip => exact fun s hl ha hn hs => if_neg (by simp [hl, ha, hn, hs])
  case noLeadTrip => exact fun s h => if_pos (by rcases h with h | h | h <;> simp [h])
  case tripReset => exact fun s ha => ⟨if_pos (by simp [ha]), if_neg (by simp [ha])⟩
  case trip =>
    intro s ha
    obtain ⟨hin, hshow, hagain, hq⟩ := s.tripSeen_facts
    exact ⟨_, if_neg (by simp [ha]), s.tripSeen, hin, hshow, hagain, hq, rfl⟩
  case readback =>
    intro r s hout ha
    rw [exec_tripReadbackCheck r hout ha]
    have hw : WordsKept [] s (s.advanceTo (s.csc.tripAt + 200)) := (WordsKept.refl _ s).of_regs rfl
    refine .next ⟨State.raiseIf_now _ _ _, fun hr => ?_, fun hr => ?_, hw.quiet.raiseIf _ _⟩
    · rw [hr]
      exact State.raised_raise _ _ ha (by decide)
    · rw [hr]
      rfl
  case released => exact fun s ha => congrArg _ (if_pos ha)
  case begins => exact fun d s ha hb => if_pos ⟨ha, hb⟩

end

section
/-!
Access packets on a follower (R127, R128, R206, R281, R424): which packets it takes, its bus accesses for the lead, and the
activities that the lead asks for and releases.
-/
namespace Sys2Proof.Machine

variable {s : State}

/-! ### Whose packet it is -/

/-- A follower whose register pages answer takes packets with a good CRC. -/
theorem not_lead_or_busDown (hl : s.isLead = false) (hb : s.busUp = true) : ¬ (s.isLead = true ∨ (!s.busUp) = true) := by
  simp [hl, hb]

/-- A packet for another device goes on unchanged. -/
theorem exec_accessPacketReceived_elsewhere {d : Nat} (op : AccessOp) (hl : s.isLead = false) (hb : s.busUp = true)
    (hd : d ≠ s.devNum) (h8 : d ≠ 8) :
    exec (.accessPacketReceived true op d) s = .next (s.passAway ⟨.access op, d, 0, 0⟩) :=
  have hpass : s.passAccess d op = s.passAway ⟨.access op, d, 0, 0⟩ := if_neg hd
  ((if_neg (not_lead_or_busDown hl hb)).trans ((if_neg (by decide)).trans (if_pos (by rw [hpass]; exact ⟨hd, h8⟩)))).trans
    (congrArg _ hpass)

/-- The note whether the lead asks for activity `k` (R281). -/
def State.noteAsked (s : State) (k : Nat) (b : Bool) : State :=
  { s with bal := { s.bal with forLead := bitTo s.bal.forLead k b } }

/-- What a follower does with a packet that it takes (R128, R180, R206, R281). -/
def State.takeAccess (s : State) : AccessOp → State
  | .write a v => (s.busWrite .link a v).1.send (.reply (.data a v)) 0 0 0
  | .read a => (s.busRead .link a).1.send (.reply (.data a (s.busRead .link a).2.1)) 0 0 0
  | .request k => ((s.noteAsked k true).submit k).settle
  | .release k how flags =>
    let u := s.noteAsked k false
    ((if k = 4 then u.eisOutcome how flags else u).abandon k).isoOrphan.settle
  | .start k frame arg => (s.remoteStart k frame arg).settle
  | .suspect mask => { s with thm := { s.thm with suspectNext := some (mask % 2 ^ 24) } }
  | .phasor re im lo hi flags => (s.eisGotPhasor { re, im, lre := lo, ure := hi } flags).settle
  | .member => if s.csc.stage = 3 then { s with csc := { s.csc with stage := 4 } } else s

/-- A packet for this device is taken as it is, one for every device after it has been passed on. -/
theorem exec_accessPacketReceived_taken {d : Nat} (op : AccessOp) (hl : s.isLead = false) (hb : s.busUp = true)
    (hd : d = s.devNum ∨ d = 8) :
    exec (.accessPacketReceived true op d) s = .next ((s.passAccess d op).takeAccess op) := by
  have hnum : (s.passAccess d op).devNum = s.devNum := by
    unfold State.passAccess
    split <;> rfl
  have hmine : ¬ (d ≠ (s.passAccess d op).devNum ∧ d ≠ 8) := by
    rw [hnum]
    omega
  refine (if_neg (not_lead_or_busDown hl hb)).trans ((if_neg (by decide)).trans ((if_neg hmine).trans ?_))
  cases op <;> rfl

theorem exec_accessPacketReceived_own (op : AccessOp) (hl : s.isLead = false) (hb : s.busUp = true) :
    exec (.accessPacketReceived true op s.devNum) s = .next (s.takeAccess op) := by
  have hpass : s.passAccess s.devNum op = s := if_pos rfl
  rw [exec_accessPacketReceived_taken op hl hb (.inl rfl), hpass]

/-- A packet for every device does what one for this device does after it has gone on (R127). -/
theorem exec_accessPacketReceived_all (op : AccessOp) (hl : s.isLead = false) (hb : s.busUp = true) (h8 : 8 ≠ s.devNum) :
    exec (.accessPacketReceived true op 8) s =
      exec (.accessPacketReceived true op s.devNum) (s.passAway ⟨.access op, 8, 0, 0⟩) := by
  have hpass : s.passAccess 8 op = s.passAway ⟨.access op, 8, 0, 0⟩ := if_neg h8
  rw [exec_accessPacketReceived_taken op hl hb (.inr rfl), hpass]
  exact (exec_accessPacketReceived_own (s := s.passAway ⟨.access op, 8, 0, 0⟩) op hl hb).symm

/-! ### Accesses to registers and memory -/

/-- A write to the register pages over the link is the register write of the link (R424). -/
theorem exec_registerWrite_busWrite (a : Nat) (v : Word) (hb : s.busUp = true) (h0 : 0x40000000 ≤ a) (h1 : a < 0x40020000) :
    exec (.registerWrite .link a v) s = .next (s.busWrite .link a v).1 := by
  have hw : s.busWrite .link a v =
      if a % 4 ≠ 0 then (s.accessFault .link true a, false) else (s.regWrite .link a v, true) := if_pos ⟨h0, h1⟩
  rw [hw]
  by_cases h4 : a % 4 = 0
  · rw [exec_registerWrite .link a v s hb h0 h1 h4, if_neg (not_not.2 h4)]
  · rw [exec_registerWrite_unaligned .link a v s hb h0 h1 h4, if_pos h4]

theorem State.busRead_register {a : Nat} (ini : Ini) (h0 : 0x40000000 ≤ a) (h1 : a < 0x40020000) (h4 : a % 4 = 0)
    (ht : a ≠ Reg.TMB_TICKLO) : s.busRead ini a = (s, s.regRead a, true) := by
  unfold State.busRead
  rw [if_pos ⟨h0, h1⟩, if_neg (not_not.2 h4)]
  simp only [if_neg ht]

/-- A word of a data area whose layout the spec gives (Table 14.4). -/
theorem State.busRead_data {a : Nat} (ini : Ini) (h4 : a % 4 = 0) (hd : dataArea a = true) (hu : unlaid a = false) :
    s.busRead ini a = (s, s.memWord a, true) := by
  have hlow : a < 0x40000000 := by
    simp only [dataArea, Bool.or_eq_true, Bool.and_eq_true, decide_eq_true_eq] at hd
    omega
  unfold State.busRead
  rw [if_neg (by omega), if_neg (by simp [hu]), if_pos ⟨h4, hd⟩]

/-! ### Activities -/

theorem State.submit_granted {k : Nat} (h : s.granted k = true) : s.submit k = s := if_pos h

theorem State.abandon_idle {k : Nat} (hg : s.granted k = false) (hp : s.isPending k = false) : s.abandon k = s :=
  (if_neg (by simp [hp])).trans (if_neg (by simp [hg]))

/-- The pending request of activity `k` has no owner any more (R282). -/
def State.noteGone (s : State) (k : Nat) : State := { s with bal := { s.bal with gone := bitTo s.bal.gone k true } }

theorem State.abandon_pending {k : Nat} (hp : s.isPending k = true) : s.abandon k = s.noteGone k := if_pos hp

theorem State.isoOrphan_idle (h : s.isoRunning = false) : s.isoOrphan = s := if_neg (by simp [h])

/-- A follower forwards no phasor: it keeps that of the point, with the flags of its window (R180, R190). -/
theorem State.eisGotPhasor_follower (i : Phasor) (flags : Nat) (hl : s.isLead = false) : s.eisGotPhasor i flags =
    { s with eis := { s.eis with
        i, gotI := true, satI := s.eis.satI || flags.testBit 3, unsync := s.eis.unsync || flags.testBit 2,
        gap := s.eis.gap || flags.testBit 0 } } :=
  have hn : ¬ s.isLead = true := by simp [hl]
  if_neg fun h => hn h.1

theorem State.takeAccess_release {k : Nat} (how flags : Nat) (hk : k ≠ 4) :
    s.takeAccess (.release k how flags) = ((s.noteAsked k false).abandon k).isoOrphan.settle := by
  unfold State.takeAccess
  simp only [if_neg hk]

end Sys2Proof.Machine

open Sys2Proof Sys2Proof.Machine

/-- Settles O53, packet by packet. -/
theorem linkAccessPackets : Obligations.LinkAccessPackets := by
  refine ⟨?none, ?damaged, ?write, ?read, ?unaligned, ?data, ?suspect, ?phasor, ?request, ?idle, ?other, ?pending, ?member⟩
  case none => exact fun ok d op s h => if_pos (by simpa using h)
  case damaged => exact fun d op s hl hb => (if_neg (not_lead_or_busDown hl hb)).trans (if_pos rfl)
  case write =>
    intro a v s hl hb h0 h1
    rw [exec_accessPacketReceived_own _ hl hb]
    exact .next ⟨_, exec_registerWrite_busWrite a v hb h0 h1, rfl⟩
  case read =>
    intro a s hl hb h0 h1 h4 ht
    rw [exec_accessPacketReceived_own _ hl hb, State.takeAccess, State.busRead_register .link h0 h1 h4 ht]
    rfl
  case unaligned =>
    intro a s hl hb h0 h1 h4
    rw [exec_accessPacketReceived_own _ hl hb, State.takeAccess, State.busRead_unaligned s .link a h0 h1 h4]
    exact .next ⟨_, exec_narrow .link false a s hb h0 h1, rfl⟩
  case data =>
    intro a s hl hb h4 hd hu
    rw [exec_accessPacketReceived_own _ hl hb, State.takeAccess, State.busRead_data .link h4 hd hu]
    rfl
  case suspect => exact fun m s hl hb => exec_accessPacketReceived_own _ hl hb
  case phasor =>
    intro re im lo hi fl s hl hb
    rw [exec_accessPacketReceived_own _ hl hb, State.takeAccess, State.eisGotPhasor_follower _ _ hl]
  case request =>
    intro k s hl hb hg
    rw [exec_accessPacketReceived_own _ hl hb, State.takeAccess, State.submit_granted (s := s.noteAsked k true) hg]
    rfl
  case idle =>
    intro k h fl s hl hb hg hp hk hi
    rw [exec_accessPacketReceived_own _ hl hb, State.takeAccess_release h fl hk,
      State.abandon_idle (s := s.noteAsked k false) hg hp, State.isoOrphan_idle (s := s.noteAsked k false) hi]
    rfl
  case other =>
    intro d op s hl hb hd
    refine ⟨exec_accessPacketReceived_elsewhere op hl hb hd, ?_⟩
    rintro rfl
    exact exec_accessPacketReceived_all op hl hb hd
  case pending =>
    intro k h fl s hl hb hp hk hi
    rw [exec_accessPacketReceived_own _ hl hb, State.takeAccess_release h fl hk,
      State.abandon_pending (s := s.noteAsked k false) hp, State.isoOrphan_idle (s := (s.noteAsked k false).noteGone k) hi]
    rfl
  case member =>
    intro s hl hb
    rw [exec_accessPacketReceived_own _ hl hb]
    exact ⟨fun h => congrArg _ (if_pos h), fun h => congrArg _ (if_neg h)⟩

end

section
/-!
The estimator (R149, R156, R170 to R173, R175): a run's end, the table and request writes, the journal, and the cell
selection.
-/
namespace Sys2Proof.Machine

variable {s : State}

/-! ### The end of a run -/

/-- The results of a run on the data of the last measured frame, up to the reported SOC. -/
def State.runResults (s : State) : State :=
  let u := (s.accelDone 6).learnPop
  let u := { u with est := { u.est with prev := u.est.cells } }
  let bank := u.get Reg.EST_TBLSEL_BANK
  let dt := u.runTime
  let u := (u.checkBank bank).runRequests bank
  (if u.currentInvalid then u.runInvalid else u.runValid bank dt).runSoc dt

/-- A run has been made: nothing is owed, and the next one counts from here. -/
def State.runMade (s : State) : State :=
  { s with est := { s.est with
    ran := true, ranFrame := true, elapsed := s.watching, slept := false, owed := [], owedBad := false,
    lastTick := s.tick - (s.now - s.fstart) } }

theorem exec_estimatorRunDone (hl : s.isLead = true) (hr : s.accelRuns 6 = true) :
    exec .estimatorRunDone s = .next s.runResults.runShow.runMade.nextFree.restHold.settle := if_neg (by simp [hl, hr])

/-- The SOC values of a run are not stale. -/
theorem State.showSoc_facts (s : State) :
    s.showSoc.flag Reg.EST_SOCREP_STALE = false ∧ s.showSoc.flag Reg.EST_SOCINT_STALE = false := by
  obtain ⟨u, hk, hrep, hint⟩ : ∃ u, WordsKept [Reg.EST_ZMIN, Reg.EST_ZMAX, Reg.EST_SOH] u s.showSoc ∧
      u.flag Reg.EST_SOCREP_STALE = false ∧ u.flag Reg.EST_SOCINT_STALE = false := by
    unfold State.showSoc
    extract_lets ppm zs u1 u2
    have hstale : u1.flag Reg.EST_SOCREP_STALE = false := by
      rw [State.flag, State.get_putSat_apart _ _ _ _ (by decide), State.get_putB_apart _ _ _ _ (by decide)]
      exact State.flag_putB_self _ _ _ (by decide) (by decide)
    have hkept : WordsKept [Reg.EST_SOCINT] u1 u2 := ((WordsKept.refl _ u1).putB (by decide) _).putSat (by decide) _
    refine ⟨u2, ?_, (hkept.flag _ (by decide)).trans hstale, ?_⟩
    · split
      · extract_lets u3 u4 soh res
        have h3 : WordsKept [Reg.EST_ZMIN, Reg.EST_ZMAX, Reg.EST_SOH] u2 u3 :=
          ((WordsKept.refl _ u2).put (by decide) _).putSat (by decide) _
        have h4 : WordsKept [Reg.EST_ZMIN, Reg.EST_ZMAX, Reg.EST_SOH] u2 u4 := (h3.put (by decide) _).putSat (by decide) _
        exact (h4.putSat (by decide) _).putSat (by decide) _
      · exact .refl _ _
    · rw [State.flag, State.get_putSat_apart _ _ _ _ (by decide)]
      exact State.flag_putB_self _ _ _ (by decide) (by decide)
  exact ⟨(hk.flag _ (by decide)).trans hrep, (hk.flag _ (by decide)).trans hint⟩

/-- The results are shown with the frame of their data, and none is stale. -/
theorem State.runShow_facts (s : State) :
    s.runShow.flag Reg.EST_STAT_STALE = false ∧ s.runShow.flag Reg.EST_SOCREP_STALE = false ∧
    s.runShow.flag Reg.EST_SOCINT_STALE = false ∧
    s.runShow.get Reg.EST_SRCFRAME_FRAME = s.runShow.cm.lastFrame % 2 ^ 32 := by
  obtain ⟨hrep, hint⟩ := s.showSoc_facts
  unfold State.runShow
  generalize s.showSoc = u at hrep hint ⊢
  extract_lets u0 u1 cur shown e u2 u3
  have h1 : WordsKept [Reg.EST_RESTSTAT, Reg.EST_SRCFRAME] u u1 :=
    ((WordsKept.refl _ u).putSat (by decide) _).put (by decide) _
  have h2 : WordsKept [Reg.EST_TAPSTAT, Reg.EST_RESTSTAT, Reg.EST_STAT] u1 u2 := (WordsKept.refl _ u1).of_regs rfl
  have h3 : WordsKept [Reg.EST_TAPSTAT, Reg.EST_RESTSTAT, Reg.EST_STAT] u1 u3 :=
    ((h2.put (by decide) _).put (by decide) _).putB (by decide) _
  have ht := (h3.putB (f := Reg.EST_STAT_CAPSUS) (by decide) (u3.ratedCells.any (·.2.capsus))).putB
    (f := Reg.EST_STAT_STALE) (by decide) false
  refine ⟨State.flag_putB_self _ _ _ (by decide) (by decide), ?_, ?_, ?_⟩
  · exact (ht.flag _ (by decide)).trans ((h1.flag _ (by decide)).trans hrep)
  · exact (ht.flag _ (by decide)).trans ((h1.flag _ (by decide)).trans hint)
  · exact (ht.get _ (by decide)).trans (State.get_put_self _ _ _ (by decide))

/-! ### Tables and requests -/

/-- A word at an index of the inactive bank. -/
def State.tableStore (s : State) (v : Word) : State :=
  { s with est := { s.est with
    tbl := nset (1024 * (1 - s.get Reg.EST_TBLSEL_BANK) + s.get Reg.EST_TBLADDR_INDEX) v.toNat s.est.tbl } }

theorem exec_tableDataWrite (ini : Ini) (v : Word) (h : s.pageOn 12 = true) (hp : s.armedPage 12 = false) :
    exec (.tableDataWrite ini v) s =
      .next ((s.tableStore v).put Reg.EST_TBLADDR_INDEX (s.get Reg.EST_TBLADDR_INDEX + 1)) := by
  have hn : ¬ ((s.tableStore v).put Reg.EST_TBLADDR_INDEX (s.get Reg.EST_TBLADDR_INDEX + 1)).armedPage 12 = true := by
    have : ¬ s.armedPage 12 = true := by simp [hp]
    exact this
  exact (congrArg Host.Outcome.next (s.onPage_on ini Reg.EST_TBLDATA _ h)).trans
    (congrArg Host.Outcome.next (if_neg hn))

/-- A request bit on a build with the page acts on the lead alone. -/
theorem State.estRequest_on (ini : Ini) (f : State → State) (h : s.pageOn 12 = true) :
    s.estRequest ini f = if s.isLead = true then f s else s := s.onPage_on ini Reg.EST_CTRL _ h

theorem State.estRequest_lead (ini : Ini) (f : State → State) (h : s.pageOn 12 = true) (hl : s.isLead = true) :
    s.estRequest ini f = f s := (State.estRequest_on ini f h).trans (if_pos hl)

theorem State.estRequest_follower (ini : Ini) (f : State → State) (h : s.pageOn 12 = true) (hl : s.isLead = false) :
    s.estRequest ini f = s := (State.estRequest_on ini f h).trans (if_neg (by simp [hl]))

/-! ### The start of a journal write -/

/-- The write port is free for a journal write, or gives way to it (R389). -/
def State.journalPort (s : State) : Bool := s.power.port == 0 || (s.power.port == 3 && s.power.warnAt.isSome)

theorem State.journalPort_free :
    s.journalPort = true ↔ s.power.port = 0 ∨ (s.power.port = 3 ∧ s.power.warnAt.isSome = true) := by
  simp [State.journalPort]

theorem State.journalPort_taken :
    s.journalPort = false ↔ s.power.port ≠ 0 ∧ (s.power.port ≠ 3 ∨ s.power.warnAt = none) := by
  simp [State.journalPort, imp_iff_not_or]

/-- A journal write takes up its request and what the request carries. -/
def Est.writeBegins (e : Est) : Est := { e with jPend := false, jCap := false, jCarry := e.jCap, jRun := true }

/-- A journal write is over. -/
def Est.writeEnds (e : Est) : Est := { e with jRun := false, jCarry := false }

/-- The estimator's journal and the holder of the write port change together. -/
def State.journalTurn (s : State) (f : Est → Est) (port : Nat) : State :=
  { s with est := f s.est, power := { s.power with port } }

theorem State.journalTurn_facts (s : State) (f : Est → Est) (port : Nat) :
    (s.journalTurn f port).est = f s.est ∧ (s.journalTurn f port).power.port = port ∧
    (s.journalTurn f port).regs = s.regs ∧ (s.journalTurn f port).mem = s.mem := ⟨rfl, rfl, rfl, rfl⟩

/-- The intent word is stored, the request ends and the write holds the port (R172 steps 2 and 3). -/
def State.journalBegins (s : State) : State :=
  ((s.setMemWord intentAddr (intentWord s.est.jCap (1 - s.get Reg.EST_JSTAT_SLOT) (s.get Reg.EST_JSEQ_SEQ + 1))).journalTurn
    Est.writeBegins 2).putB Reg.EST_JSTAT_LOWENERGY false

theorem State.journalStart_stays
    (h : s.isLead = false ∨ s.est.jPend = false ∨ s.est.jRun = true ∨ s.journalPort = false) : s.journalStart = s := by
  have hc : (!s.isLead || !s.est.jPend || s.est.jRun || !s.journalPort) = true := by simpa [or_assoc] using h
  exact if_pos hc

theorem State.journalStart_due (hl : s.isLead = true) (hp : s.est.jPend = true) (hr : s.est.jRun = false)
    (hf : s.journalPort = true) : s.journalStart =
      if s.get Reg.PWR_HOLDE_UJ < 1200 then s.putB Reg.EST_JSTAT_LOWENERGY true else s.journalBegins := by
  have hc : ¬ (!s.isLead || !s.est.jPend || s.est.jRun || !s.journalPort) = true := by simp [hl, hp, hr, hf]
  refine (if_neg hc).trans ?_
  simp only [State.journalBegins, State.journalTurn, Est.writeBegins, State.setMemWord_est]

/-- A stored word reads back byte by byte. -/
theorem State.bytes_setMemWord (s : State) (a w : Nat) : (s.setMemWord a w).bytes a 4 = leBytes 4 w :=
  s.bytes_setBytes a (leBytes 4 w)

theorem State.journalBegins_facts (s : State) :
    s.journalBegins.flag Reg.EST_JSTAT_LOWENERGY = false ∧ s.journalBegins.power.port = 2 ∧
    s.journalBegins.est = s.est.writeBegins ∧
    s.journalBegins.bytes intentAddr 4 =
      leBytes 4 (intentWord s.est.jCap (1 - s.get Reg.EST_JSTAT_SLOT) (s.get Reg.EST_JSEQ_SEQ + 1)) ∧
    (∀ a, a < intentAddr ∨ intentAddr + 4 ≤ a → s.journalBegins.byte a = s.byte a) ∧
    WordsKept [Reg.EST_JSTAT] s s.journalBegins := by
  unfold State.journalBegins
  generalize intentWord s.est.jCap (1 - s.get Reg.EST_JSTAT_SLOT) (s.get Reg.EST_JSEQ_SEQ + 1) = w
  obtain ⟨hest, hport, hregs, hm⟩ := (s.setMemWord intentAddr w).journalTurn_facts Est.writeBegins 2
  have hb := State.byte_congr hm
  refine ⟨State.flag_putB_self _ _ _ (by decide) (by decide), hport, ?_, ?_, fun a ha => ?_, ?_⟩
  · rw [State.putB_est, hest, State.setMemWord_est]
  · exact (State.bytes_congr hb _ _).trans (State.bytes_setMemWord _ _ _)
  · rw [State.byte_putB, hb, State.byte_setMemWord_out _ _ _ _ ha]
  · exact ((WordsKept.refl _ s).of_regs (hregs.trans (State.setMemWord_regs _ _ _))).putB (by decide) _

/-! ### The end of a journal write -/

theorem State.cellRecord_length (s : State) (j : Nat) : (s.cellRecord j).length = 32 := by
  unfold State.cellRecord
  split
  · exact List.length_replicate
  · simp only [List.length_append, leBytes_length]

/-- The record of Table 6.6: 64 bytes of header, 384 cell records and the CRC. -/
theorem State.journalRecord_length (s : State) (seq : Nat) : (s.journalRecord seq).length = 0x3044 := by
  have hrecord : List.length ∘ s.cellRecord = fun _ => 32 := funext s.cellRecord_length
  have hcells : (((List.range 384).map s.cellRecord).flatten).length = 384 * 32 := by
    rw [List.length_flatten, List.map_map, hrecord, List.map_const', List.length_range, List.sum_replicate, smul_eq_mul]
  unfold State.journalRecord
  simp only [List.length_append, leBytes_length, List.length_replicate, hcells]

/-- The record is in its slot, which becomes the one shown, with its sequence number (R172 step 4). -/
def State.recordStored (s : State) (slot seq : Nat) : State :=
  ((s.setBytes (jSlotAddr slot) (s.journalRecord seq)).put Reg.EST_JSTAT_SLOT slot).put Reg.EST_JSEQ_SEQ seq

/-- The intent word is cleared, or holds the intent of a learning result accepted meanwhile (R172 step 5). -/
def State.intentEnds (s : State) (slot seq : Nat) : State :=
  s.setMemWord intentAddr (if s.est.jCap then intentWord true (1 - slot) (seq + 1) else 0)

/-- A learning result that the write carried is no longer pending. -/
def State.learningStored (s : State) : State :=
  if s.est.jCarry ∧ !s.est.jCap then s.putB Reg.EST_JSTAT_CAPPEND false else s

/-- A write in progress ends in these steps; the port is then free, or a freeze copy's again (R389). -/
theorem State.journalDone_running (h : s.est.jRun = true) : ∃ port, s.journalDone =
    ((s.recordStored (1 - s.get Reg.EST_JSTAT_SLOT) (s.get Reg.EST_JSEQ_SEQ + 1)).intentEnds
      (1 - s.get Reg.EST_JSTAT_SLOT) (s.get Reg.EST_JSEQ_SEQ + 1)).learningStored.journalTurn Est.writeEnds port := by
  unfold State.journalDone State.recordStored State.intentEnds State.learningStored State.journalTurn Est.writeEnds
  rw [if_neg (by simp [h])]
  exact ⟨_, rfl⟩

/-- A journal slot ends below the intent word. -/
theorem jSlotAddr_le {slot : Nat} (h : slot < 2) : jSlotAddr slot + 0x3044 ≤ intentAddr := by
  unfold jSlotAddr intentAddr journalBase
  omega

theorem State.recordStored_facts (s : State) {slot : Nat} (seq : Nat) (h : slot < 2) :
    (s.recordStored slot seq).est = s.est ∧ (s.recordStored slot seq).get Reg.EST_JSTAT_SLOT = slot ∧
    (s.recordStored slot seq).get Reg.EST_JSEQ_SEQ = seq % 2 ^ 32 ∧
    (∀ i < 0x3044, (s.journalRecord seq)[i]? = some ((s.recordStored slot seq).byte (jSlotAddr slot + i))) ∧
    (∀ a, a < jSlotAddr slot ∨ jSlotAddr slot + 0x3044 ≤ a → (s.recordStored slot seq).byte a = s.byte a) ∧
    WordsKept [Reg.EST_JSTAT, Reg.EST_JSEQ] s (s.recordStored slot seq) := by
  have hlen := s.journalRecord_length seq
  unfold State.recordStored
  generalize s.journalRecord seq = r at hlen ⊢
  have hk : WordsKept [Reg.EST_JSTAT, Reg.EST_JSEQ] s (s.setBytes (jSlotAddr slot) r) :=
    (WordsKept.refl _ s).of_regs (State.setBytes_regs _ _ _)
  refine ⟨?_, ?_, State.get_put_self _ _ _ (by decide), fun i hi => ?_, fun a ha => ?_,
    (hk.put (by decide) _).put (by decide) _⟩
  · rw [State.put_est, State.put_est, State.setBytes_est]
  · rw [State.get_put_apart _ _ _ _ (by decide), State.get_put_self _ _ _ (by decide)]
    exact Nat.mod_eq_of_lt h
  · have hr : i < r.length := by omega
    rw [State.byte_put, State.byte_put, State.byte_setBytes_in r s _ i hr, List.getElem?_eq_getElem hr]
  · rw [State.byte_put, State.byte_put, State.byte_setBytes_out r s _ a (by rwa [hlen])]

theorem State.intentEnds_facts (s : State) (slot seq : Nat) :
    (s.intentEnds slot seq).est = s.est ∧ (s.intentEnds slot seq).regs = s.regs ∧
    (s.intentEnds slot seq).bytes intentAddr 4 =
      leBytes 4 (if s.est.jCap then intentWord true (1 - slot) (seq + 1) else 0) ∧
    ∀ a, a < intentAddr ∨ intentAddr + 4 ≤ a → (s.intentEnds slot seq).byte a = s.byte a :=
  ⟨State.setMemWord_est _ _ _, State.setMemWord_regs _ _ _, State.bytes_setMemWord _ _ _,
    fun _ ha => State.byte_setMemWord_out s _ _ _ ha⟩

theorem State.get_congr {t : State} (h : t.regs = s.regs) (f : Fld) : t.get f = s.get f := by
  simp only [State.get, State.word_congr h]

theorem State.learningStored_facts (s : State) :
    s.learningStored.est = s.est ∧ s.learningStored.get Reg.EST_JSTAT_SLOT = s.get Reg.EST_JSTAT_SLOT ∧
    WordsKept [Reg.EST_JSTAT] s s.learningStored ∧ s.learningStored.mem = s.mem := by
  unfold State.learningStored
  split
  · exact ⟨rfl, State.get_putB_apart _ _ _ _ (by decide), (WordsKept.refl _ s).putB (by decide) _, rfl⟩
  · exact ⟨rfl, rfl, .refl _ s, rfl⟩

/-- What the end of a write leaves, step by step. -/
theorem State.journalEnds_facts (s : State) {slot : Nat} (seq port : Nat) (h : slot < 2) :
    let t := ((s.recordStored slot seq).intentEnds slot seq).learningStored.journalTurn Est.writeEnds port
    t.est = s.est.writeEnds ∧ t.get Reg.EST_JSTAT_SLOT = slot ∧ t.get Reg.EST_JSEQ_SEQ = seq % 2 ^ 32 ∧
    (∀ i < 0x3044, (s.journalRecord seq)[i]? = some (t.byte (jSlotAddr slot + i))) ∧
    t.bytes intentAddr 4 = leBytes 4 (if s.est.jCap then intentWord true (1 - slot) (seq + 1) else 0) ∧
    (∀ a, (a < jSlotAddr slot ∨ jSlotAddr slot + 0x3044 ≤ a) → (a < intentAddr ∨ intentAddr + 4 ≤ a) →
      t.byte a = s.byte a) ∧
    WordsKept [Reg.EST_JSTAT, Reg.EST_JSEQ] s t := by
  dsimp only
  have hbelow := jSlotAddr_le h
  obtain ⟨hest1, hslot1, hseq1, hrecord1, hbyte1, hk1⟩ := s.recordStored_facts seq h
  generalize s.recordStored slot seq = u at *
  obtain ⟨hest2, hregs2, hintent2, hbyte2⟩ := u.intentEnds_facts slot seq
  generalize u.intentEnds slot seq = v at *
  obtain ⟨hest3, hslot3, hk3, hm3⟩ := v.learningStored_facts
  generalize v.learningStored = w at *
  obtain ⟨hest, -, hregs, hm⟩ := w.journalTurn_facts Est.writeEnds port
  have hbyte := State.byte_congr (hm.trans hm3)
  refine ⟨?_, ?_, ?_, fun i hi => ?_, ?_, fun a ha hi => ?_, ?_⟩
  · rw [hest, hest3, hest2, hest1]
  · exact (State.get_congr hregs _).trans (hslot3.trans ((State.get_congr hregs2 _).trans hslot1))
  · exact (State.get_congr hregs _).trans ((hk3.get _ (by decide)).trans ((State.get_congr hregs2 _).trans hseq1))
  · rw [hrecord1 i hi, hbyte, hbyte2 _ (.inl (by omega))]
  · rw [State.bytes_congr hbyte, hintent2, hest1]
  · rw [hbyte, hbyte2 a hi, hbyte1 a ha]
  · exact (hk1.of_regs hregs2).trans ((hk3.of_regs hregs).mono (by decide))

/-! ### The cell selection -/

/-- The cell has results to show: it is populated and a run has completed. -/
def State.cellShown (s : State) (c : Nat) : Bool := s.cellOn c && s.est.ran

/-- The status flags of a cell (R175). -/
def EstCell.flags (x : EstCell) (on : Bool) : Nat :=
  bitsOf [on, x.degr, x.capsus, x.socdis, x.model, decide (0 < x.gaps), x.restValid]

/-- A selected cell with the values of `x` and the flags `g`. -/
def State.showEstCell (s : State) (c : Nat) (x : EstCell) (g : Nat) : State :=
  let u := s.put Reg.EST_CSEL_INDEX c
  let u := (u.putSat Reg.EST_CZ_Z (roundQ (x.z * 1000000000)).toNat).putSatI Reg.EST_CZC_ZC (roundQ (x.zc * 1000000000))
  let u := (u.putSat Reg.EST_CQ_Q (roundQ (x.q * 1000)).toNat).putSat Reg.EST_CRHO_RHO (roundQ (x.rho * 65536)).toNat
  (u.putSatI Reg.EST_CINNOV_E (roundQ (x.e * 1000000))).put Reg.EST_CFLAG_FLAGS g

/-- The values that a selection of the cell shows: those of the last run, or zeros. -/
def State.selectedCell (s : State) (c : Nat) : EstCell :=
  if s.cellShown c then s.est.cells.getD c {} else { q := 0, rho := 0 }

theorem exec_estCellSelect (ini : Ini) (c : Nat) (h : s.pageOn 12 = true) : exec (.estCellSelect ini c) s = .next
    (s.showEstCell c (s.selectedCell c) (if s.cellShown c then (s.selectedCell c).flags (s.cellShown c) else 0)) :=
  congrArg Host.Outcome.next (s.onPage_on ini Reg.EST_CSEL _ h)

theorem roundQ_zero : roundQ 0 = 0 := by
  rw [roundQ, Rat.floor_def, zero_add]
  norm_num

/-- The words of the cell selection. -/
def cellWords : List Nat :=
  [Reg.EST_CSEL, Reg.EST_CZ, Reg.EST_CZC, Reg.EST_CQ, Reg.EST_CRHO, Reg.EST_CINNOV, Reg.EST_CFLAG]

theorem State.getI_putSat_apart (s : State) (f g : Fld) (v : Nat) (h : f.apart g = true) :
    (s.putSat f v).getI g = s.getI g := State.getI_put_apart _ _ _ _ h

theorem State.getI_putSatI_apart (s : State) (f g : Fld) (v : Int) (h : f.apart g = true) :
    (s.putSatI f v).getI g = s.getI g := State.getI_put_apart _ _ _ _ h

theorem State.showEstCell_facts (s : State) {c : Nat} (x : EstCell) (g : Nat) (hc : c < 512) :
    let t := s.showEstCell c x g
    t.get Reg.EST_CSEL_INDEX = c ∧
    t.get Reg.EST_CZ_Z = min (roundQ (x.z * 1000000000)).toNat (2 ^ 30 - 1) ∧
    t.getI Reg.EST_CZC_ZC = clampI (-2147483648) 2147483647 (roundQ (x.zc * 1000000000)) ∧
    t.get Reg.EST_CQ_Q = min (roundQ (x.q * 1000)).toNat (2 ^ 32 - 1) ∧
    t.get Reg.EST_CRHO_RHO = min (roundQ (x.rho * 65536)).toNat (2 ^ 32 - 1) ∧
    t.getI Reg.EST_CINNOV_E = clampI (-8388608) 8388607 (roundQ (x.e * 1000000)) ∧
    t.get Reg.EST_CFLAG_FLAGS = g % 128 ∧ WordsKept cellWords s t ∧ t.mem = s.mem := by
  have hk : WordsKept cellWords s (s.showEstCell c x g) := by
    have h1 : WordsKept cellWords s (s.put Reg.EST_CSEL_INDEX c) := (WordsKept.refl _ s).put (by decide) _
    exact (((((h1.putSat (by decide) _).putSatI (by decide) _).putSat (by decide) _).putSat (by decide) _).putSatI
      (by decide) _).put (by decide) _
  unfold State.showEstCell at hk ⊢
  simp (disch := decide) only [State.get_put_apart, State.get_putSat_apart, State.get_putSatI_apart,
    State.getI_put_apart, State.getI_putSat_apart, State.getI_putSatI_apart, State.get_put_self, State.get_putSat_self,
    State.getI_putSatI_self]
  have hwid : Reg.EST_CZ_Z.wid = 30 ∧ Reg.EST_CZC_ZC.wid = 32 ∧ Reg.EST_CQ_Q.wid = 32 ∧ Reg.EST_CRHO_RHO.wid = 32 ∧
      Reg.EST_CINNOV_E.wid = 24 ∧ Reg.EST_CFLAG_FLAGS.wid = 7 := by decide
  obtain ⟨hz, hzc, hq, hrho, he, hflag⟩ := hwid
  rw [hz, hzc, hq, hrho, he, hflag]
  refine ⟨Nat.mod_eq_of_lt hc, rfl, ?_, rfl, rfl, ?_, by norm_num, hk, ?_⟩
  · norm_num
  · norm_num
  · simp only [State.put_mem, State.putSat_mem, State.putSatI_mem]

end Sys2Proof.Machine

open Sys2Proof Sys2Proof.Machine

/-- Settles O58, command by command: a run's end, a table write, the requests, the journal period, the start and the end of
a journal write, and the cell selection. -/
theorem estimatorCommands : Obligations.EstimatorCommands := by
  refine ⟨?noRun, ?run, ?table, ?requests, ?follower, ?period, ?noStart, ?start, ?noEnd, ?ends, ?cellOff, ?cellOn,
    ?noPeriod⟩
  case noRun => exact fun s h => if_pos (by simpa using h)
  case run =>
    intro s hl hr
    obtain ⟨hstale, hrep, hint, hframe⟩ := s.runResults.runShow_facts
    rw [exec_estimatorRunDone hl hr]
    generalize s.runResults.runShow = u at hstale hrep hint hframe ⊢
    exact .next ⟨u.runMade, rfl, rfl, rfl, rfl, rfl, rfl, hstale, hrep, hint, hframe⟩
  case table =>
    intro ini v s hon hp k
    rw [exec_tableDataWrite ini v hon hp]
    exact .next ⟨nget_nset_self _ _ _, fun j hj => nget_nset_ne hj _ _, State.get_put_self _ _ _ (by decide),
      ((WordsKept.refl _ s).of_regs rfl).put (by decide) _, rfl⟩
  case requests =>
    intro ini s hon hl
    refine ⟨?_, ?_, ?_, ?_⟩ <;> exact congrArg Host.Outcome.next (State.estRequest_lead ini _ hon hl)
  case follower =>
    intro ini c s hon hl hc
    simp only [List.mem_cons, List.not_mem_nil, or_false] at hc
    obtain rfl | rfl | rfl | rfl := hc
    all_goals exact congrArg Host.Outcome.next (State.estRequest_follower ini _ hon hl)
  case period => exact fun s hl hr hw hs => if_pos (by simp [hl, hr, hw, hs])
  case noStart =>
    intro s h
    rw [← State.journalPort_taken] at h
    exact congrArg Host.Outcome.next (State.journalStart_stays h)
  case start =>
    intro s hl hp hr hf
    have hx : exec .journalWriteStart s = .next s.journalStart := rfl
    rw [hx, State.journalStart_due hl hp hr (State.journalPort_free.2 hf)]
    split
    · exact .next ⟨State.flag_putB_self _ _ _ (by decide) (by decide), (WordsKept.refl _ s).putB (by decide) _, rfl,
        rfl, rfl⟩
    · exact .next s.journalBegins_facts
  case noEnd => exact fun s h => congrArg _ (if_pos (by simp [h]))
  case ends =>
    intro s h slot seq
    have hslot : slot < 2 := by simp only [slot]; omega
    obtain ⟨port, hx⟩ := State.journalDone_running h
    exact ⟨_, congrArg Host.Outcome.next hx, s.journalEnds_facts seq port hslot⟩
  case cellOff =>
    intro ini c s hon hc hoff
    have hshown : s.cellShown c = false := Bool.and_eq_false_iff.2 hoff
    obtain ⟨hsel, hz, hzc, hq, hrho, he, hflag, hk, hm⟩ := s.showEstCell_facts { q := 0, rho := 0 } 0 hc
    rw [exec_estCellSelect ini c hon]
    simp only [State.selectedCell, hshown, Bool.false_eq_true, if_false]
    simp only [zero_mul, roundQ_zero] at hz hzc hq hrho he
    exact .next ⟨hsel, hz, hzc, hq, hrho, he, hflag, hk, hm⟩
  case cellOn =>
    intro ini c s hon hc hcell hran x
    have hshown : s.cellShown c = true := by simp [State.cellShown, hcell, hran]
    rw [exec_estCellSelect ini c hon]
    simp only [State.selectedCell, hshown, if_true]
    exact .next (s.showEstCell_facts x (x.flags true) hc)
  case noPeriod => exact fun s h => if_neg (by simpa [or_iff_not_imp_left] using h)

end

section
/-!
The impedance engine (R178 to R196): a sweep's start and abort, the end of a window, the results of a point and its
deadline, the charger's stop, and the result selection.
-/
namespace Sys2Proof.Machine

variable {s : State}

/-! ### The sweep -/

/-- A sweep is in progress from point 0, and none of its points has completed (R178). -/
def State.sweepBegins (s : State) : State :=
  let u := (s.putB Reg.EIS_STAT_SWEEP true).put Reg.EIS_STAT_POINT 0
  { u with eis := { u.eis with okPoints := 0, refused := false } }

theorem State.sweepBegins_facts (s : State) :
    s.sweepBegins.flag Reg.EIS_STAT_SWEEP = true ∧ s.sweepBegins.get Reg.EIS_STAT_POINT = 0 ∧
    WordsKept [Reg.EIS_STAT] s s.sweepBegins := by
  have hk : WordsKept [Reg.EIS_STAT] s ((s.putB Reg.EIS_STAT_SWEEP true).put Reg.EIS_STAT_POINT 0) :=
    ((WordsKept.refl _ s).putB (by decide) _).put (by decide) _
  exact ⟨(State.flag_put_apart (s.putB Reg.EIS_STAT_SWEEP true) _ _ _ (by decide)).trans
      (State.flag_putB_self _ _ _ (by decide) (by decide)),
    State.get_put_self (s.putB Reg.EIS_STAT_SWEEP true) _ _ (by decide), hk.of_regs rfl⟩

theorem exec_eisSweepRequest (ini : Ini) (hl : s.isLead = true) (hp : s.get Reg.SYS_PROFSTAT_PROF = 0)
    (hs : s.flag Reg.EIS_STAT_SWEEP = false) :
    exec (.eisSweepRequest ini) s = .next (State.eisFrom 0 0 s.eisPoints 0 s.sweepBegins) := by
  obtain ⟨-, -, hk⟩ := s.sweepBegins_facts
  have hpoints : s.sweepBegins.eisPoints = s.eisPoints :=
    congrArg (min 8) (hk.get Reg.EIS_PLAN_NFREQ (by decide))
  rw [← hpoints]
  exact congrArg Host.Outcome.next (if_pos ⟨hl, hp, by simp [hs]⟩)

/-! ### Skip and abort -/

/-- What the record of a skipped point leaves (Table 7.2). -/
theorem State.eisSkipRecord_facts (s : State) {reason : Nat} (h : reason < 16) :
    let t := s.eisSkipRecord reason
    t.get Reg.EIS_SWSTAT_SKIP = min (s.get Reg.EIS_SWSTAT_SKIP + 1) (2 ^ Reg.EIS_SWSTAT_SKIP.wid - 1) ∧
    t.get Reg.EIS_SWSTAT_REASON = reason ∧ t.get Reg.EIS_SWSTAT_LAST = s.get Reg.EIS_STAT_POINT ∧
    (s.alive = true → t.raised Ev.EIS_POINT_SKIP = true) ∧ t.eis = s.eis ∧ QuietWordsKept [Reg.EIS_SWSTAT] s t ∧
    BytesKept s t := by
  obtain ⟨u, hu⟩ : ∃ u, u = ((s.incSat Reg.EIS_SWSTAT_SKIP).put Reg.EIS_SWSTAT_REASON reason).put
    Reg.EIS_SWSTAT_LAST (s.get Reg.EIS_STAT_POINT) := ⟨_, rfl⟩
  have ht : s.eisSkipRecord reason = u.raise Ev.EIS_POINT_SKIP := by rw [hu]; rfl
  have hk : WordsKept [Reg.EIS_SWSTAT] s u := by
    rw [hu]
    exact (((WordsKept.refl _ s).putSat (by decide) _).put (by decide) _).put (by decide) _
  have hm : u.mem = s.mem := by rw [hu]; rfl
  have hp : u.power = s.power := by rw [hu]; rfl
  have he : u.eis = s.eis := by rw [hu]; rfl
  have hskip : u.get Reg.EIS_SWSTAT_SKIP = min (s.get Reg.EIS_SWSTAT_SKIP + 1) (2 ^ Reg.EIS_SWSTAT_SKIP.wid - 1) := by
    rw [hu]
    simp (disch := decide) only [State.get_put_apart, State.get_incSat_self]
  have hreason : u.get Reg.EIS_SWSTAT_REASON = reason := by
    rw [hu, State.get_put_apart _ _ _ _ (by decide), State.get_put_self _ _ _ (by decide)]
    exact Nat.mod_eq_of_lt h
  have hlast : u.get Reg.EIS_SWSTAT_LAST = s.get Reg.EIS_STAT_POINT := by
    rw [hu, State.get_put_self _ _ _ (by decide)]
    exact Nat.mod_eq_of_lt (Fld.extract_lt Reg.EIS_STAT_POINT _)
  rw [ht]
  exact ⟨(State.get_raise _ _ _ (by decide)).trans hskip, (State.get_raise _ _ _ (by decide)).trans hreason,
    (State.get_raise _ _ _ (by decide)).trans hlast,
    fun ha => State.raised_raise u _ (by rw [State.alive, hp]; exact ha) (by decide),
    (State.raise_eis _ _).trans he, hk.quiet.raise _, (BytesKept.of_mem hm).raise _⟩

/-- The abort of the point in progress is on record, with a fault when a charger was in RUN (R194). -/
def State.abortNoted (s : State) : State := (s.eisSkipRecord 4).raiseIf (s.eis.req == 2) Ev.EIS_EXC_FAULT

theorem exec_eisAbort_idle (ini : Ini) (hl : s.isLead = true) (h : s.eisActive = false) :
    exec (.eisAbort ini) s = .next s.eisExc.settle := by
  have hx : s.eisAbort = s := if_pos (by simp [h])
  exact (if_pos hl).trans (by rw [hx])

theorem exec_eisAbort (ini : Ini) (hl : s.isLead = true) (h : s.eisActive = true) :
    exec (.eisAbort ini) s = .next s.abortNoted.eisStopRequest.eisSweepOver.eisExc.settle := by
  obtain ⟨-, -, -, -, heis, -, -⟩ := s.eisSkipRecord_facts (reason := 4) (by decide)
  have hx : s.eisAbort = s.abortNoted.eisStopRequest.eisSweepOver := by
    rw [State.abortNoted, ← heis]
    exact (if_neg (by simp [h])).trans (if_pos hl)
  exact (if_pos hl).trans (by rw [hx])

theorem State.raised_raiseIf_of_raised (s : State) (c : Bool) (e : Event) {d : Event} (h : s.raised d = true) :
    (s.raiseIf c e).raised d = true := by
  cases c with
  | false => exact h
  | true => exact State.raised_raise_of_raised e h

theorem State.abortNoted_facts (ha : s.alive = true) :
    let w := s.abortNoted
    w.get Reg.EIS_SWSTAT_SKIP = min (s.get Reg.EIS_SWSTAT_SKIP + 1) (2 ^ Reg.EIS_SWSTAT_SKIP.wid - 1) ∧
    w.get Reg.EIS_SWSTAT_REASON = 4 ∧ w.get Reg.EIS_SWSTAT_LAST = s.get Reg.EIS_STAT_POINT ∧
    w.raised Ev.EIS_POINT_SKIP = true ∧ (s.eis.req = 2 → w.raised Ev.EIS_EXC_FAULT = true) ∧ w.eis = s.eis ∧
    QuietWordsKept [Reg.EIS_SWSTAT] s w ∧ BytesKept s w := by
  obtain ⟨hskip, hreason, hlast, hraised, heis, hk, hb⟩ := s.eisSkipRecord_facts (reason := 4) (by decide)
  have hau : (s.eisSkipRecord 4).alive = true := by
    simpa only [State.alive, State.eisSkipRecord, State.raise_power, State.put_power, State.incSat_power] using ha
  refine ⟨(State.get_raiseIf _ _ _ _ (by decide)).trans hskip, (State.get_raiseIf _ _ _ _ (by decide)).trans hreason,
    (State.get_raiseIf _ _ _ _ (by decide)).trans hlast, State.raised_raiseIf_of_raised _ _ _ (hraised ha),
    fun hr => ?_, (State.raiseIf_eis _ _ _).trans heis, hk.raiseIf _ _, hb.raiseIf _ _⟩
  rw [State.abortNoted, hr]
  exact State.raised_raise _ _ hau (by decide)

/-! ### The end of a window -/

/-- A stop of the charger changes the engine's hidden state alone: the request, and the frame of the stop (R184). -/
theorem State.eisStopRequest_only (s : State) : ∃ x, s.eisStopRequest = { s with eis := x } ∧ x.phase = s.eis.phase ∧
    x.req = if s.eis.req = 1 ∨ s.eis.req = 2 then 3 else s.eis.req := by
  unfold State.eisStopRequest
  split
  · exact ⟨_, rfl, rfl, rfl⟩
  · exact ⟨s.eis, rfl, rfl, rfl⟩

/-- Model time has reached the end of the window: the modulation has stopped, and a charger request with it (R184, R186). -/
def State.windowOver (s : State) : State := (s.advanceTo s.eis.e).eisStopRequest.eisExc.showSwitches

/-- A balancing pass forms its results; the lead asks for the grants of the next pass in the tick of the release (R186). -/
def State.passEnds (s : State) : State :=
  if s.get Reg.EIS_STAT_PASS < 2 then
    let v := { s.eisForm with eis := { s.eisForm.eis with phase := 5 } }
    if s.isLead then ((v.put Reg.EIS_STAT_PASS (s.get Reg.EIS_STAT_PASS + 1)).resubmitAs 4 2 0).settle else v
  else { s.eisForm with eis := { s.eisForm.eis with phase := 4 } }

/-- The point waits for its results, and the anchor's current phasor goes out (R180 steps 1 and 2). -/
def State.phasorGoesOut (s : State) : State :=
  let v := { s with eis := { s.eis with phase := 4 } }
  let i := v.eisOwnPhasor
  let g := v.eisGotPhasor i v.eisFlags
  if s.isAnchor = true then
    if s.isLead then g else g.send (.reply (.phasor i.re i.im i.lre i.ure g.eisFlags)) 0 0 0
  else v

theorem State.windowOver_facts (s : State) :
    let w := s.windowOver
    w.now = max s.now s.eis.e ∧ w.eis.phase = s.eis.phase ∧ w.bal = s.bal ∧
    w.eis.req = (if s.eis.req = 1 ∨ s.eis.req = 2 then 3 else s.eis.req) ∧ w.mem = s.mem ∧ w.isLead = s.isLead ∧
    (∀ f ∈ [Reg.EIS_STAT_POINT, Reg.EIS_STAT_PASS, Reg.EIS_STAT_SRC, Reg.EIS_STAT_SWEEP], w.get f = s.get f) ∧
    WordsKept [Reg.EIS_STAT, Reg.BAL_ONL, Reg.BAL_ONH] s w := by
  obtain ⟨x, hx, hphase, hreq⟩ := (s.advanceTo s.eis.e).eisStopRequest_only
  rw [State.windowOver, hx]
  refine ⟨rfl, hphase, rfl, hreq, rfl, rfl, fun f hf => ?_, ?_⟩
  · rw [(State.showSwitches_kept _).get f (by fin_cases hf <;> decide)]
    exact State.get_putB_apart _ _ _ _ (by fin_cases hf <;> decide)
  · have hk : WordsKept [Reg.EIS_STAT] s (State.eisExc { s.advanceTo s.eis.e with eis := x }) :=
      ((WordsKept.refl _ s).of_regs rfl).putB (by decide) _
    exact hk.append (State.showSwitches_kept _) |>.mono (by decide)

/-- A forwarded phasor leaves the device the lead or a follower, as it was. -/
theorem State.eisGotPhasor_isLead (s : State) (i : Phasor) (flags : Nat) :
    (s.eisGotPhasor i flags).isLead = s.isLead := by
  unfold State.eisGotPhasor
  simp only []
  split <;> rfl

theorem exec_eisWindowEnd (h : s.eis.phase = 3) : exec .eisWindowEnd s =
    .next (if s.windowOver.get Reg.EIS_STAT_SRC = 2 then s.windowOver.passEnds else s.windowOver.phasorGoesOut) := by
  have hx : exec .eisWindowEnd s = _ := if_neg (not_not.2 h)
  rw [hx]
  change (if s.windowOver.get Reg.EIS_STAT_SRC = 2 then _ else _) = _
  split
  next =>
    rw [State.passEnds]
    change (if s.windowOver.get Reg.EIS_STAT_PASS < 2 then _ else _) = _
    split
    next => rfl
    next => rfl
  next =>
    rw [State.phasorGoesOut]
    change (if s.windowOver.isAnchor = true then _ else _) = _
    split
    next => exact congrArg Host.Outcome.next (if_congr (by rw [State.eisGotPhasor_isLead]; rfl) rfl rfl)
    next => rfl

/-! ### The results of a point -/

/-- The results of the own cells count once for the point (R180). -/
def State.ownDone (s : State) : State := { s with eis := { s.eis with done := bitTo s.eis.done s.devNum true } }

/-- The results of the own cells: a balancing point has formed them with its passes (R180 step 3, R187). -/
def State.ownResults (s : State) : State := (if s.get Reg.EIS_STAT_SRC = 2 then s else s.eisForm).ownDone

/-- A follower reports its results (R180 step 4). -/
def State.reportResults (s : State) : State :=
  if s.isLead then s else s.send (.reply (.results s.eisReport)) 0 0 0

/-- The point waits for the own results, and the run that ends started late enough for them (R180 step 3). -/
def State.resultsDue (s : State) : Prop :=
  s.eis.phase = 4 ∧ s.eisRunCounts = true ∧ s.eis.done.testBit s.devNum = false

/-- What the results need is known: the switches' own current, or the phasor of the pack current (R180, R187). -/
def State.currentKnown (s : State) : Prop := s.get Reg.EIS_STAT_SRC = 2 ∨ s.eis.gotI = true

/-- The guard of the processing looks at the engine alone, which the end of the run leaves. -/
theorem State.resultsDue_accelDone (s : State) : ((s.accelDone 8).eis.phase ≠ 4 ∨ (!s.eisRunCounts) = true ∨
    (s.accelDone 8).eis.done.testBit (s.accelDone 8).devNum = true) ↔ ¬ s.resultsDue := by
  obtain ⟨x, hx⟩ := s.accelDone_only 8
  have heis : (s.accelDone 8).eis = s.eis := by rw [hx]
  have hdev : (s.accelDone 8).devNum = s.devNum := State.get_congr (by rw [hx]) _
  rw [heis, hdev, State.resultsDue, Bool.not_eq_true', ← Bool.not_eq_true, ← Bool.not_eq_true]
  tauto

theorem State.currentKnown_accelDone (s : State) :
    ((s.accelDone 8).get Reg.EIS_STAT_SRC ≠ 2 ∧ ¬ (s.accelDone 8).eis.gotI = true) ↔ ¬ s.currentKnown := by
  obtain ⟨x, hx⟩ := s.accelDone_only 8
  have heis : (s.accelDone 8).eis = s.eis := by rw [hx]
  rw [heis, State.get_congr (show (s.accelDone 8).regs = s.regs by rw [hx]), State.currentKnown, not_or]

theorem exec_eisProcessingDone (hr : s.accelRuns 8 = true) (hd : s.resultsDue) (hk : s.currentKnown) :
    exec .eisProcessingDone s = .next (s.accelDone 8).ownResults.reportResults := by
  have hx : exec .eisProcessingDone s = _ := if_neg (by simp [hr])
  have hf : (s.accelDone 8).ownResults = State.ownDone
      (if (s.accelDone 8).get Reg.EIS_STAT_SRC ≠ 2 then (s.accelDone 8).eisForm else s.accelDone 8) :=
    congrArg State.ownDone (ite_not _ _ _).symm
  rw [hx, hf]
  exact (if_neg (not_not.2 hd <| s.resultsDue_accelDone.1 ·)).trans
    (if_neg (not_not.2 hk <| s.currentKnown_accelDone.1 ·))

theorem exec_eisProcessingDone_stays (hr : s.accelRuns 8 = true) (h : s.resultsDue → ¬ s.currentKnown) :
    exec .eisProcessingDone s = .next (s.accelDone 8) := by
  have hx : exec .eisProcessingDone s = _ := if_neg (by simp [hr])
  rw [hx]
  by_cases hd : s.resultsDue
  · exact (if_neg (not_not.2 hd <| s.resultsDue_accelDone.1 ·)).trans (if_pos (s.currentKnown_accelDone.2 (h hd)))
  · exact if_pos (s.resultsDue_accelDone.2 hd)

/-- The end of a run gives back its place, and its type has no overrun in a row any more (R55, R56). -/
theorem State.accelDone_run {x : AccelRun} {typ : Nat}
    (h : s.tt.accel.find? (fun x => x.typ == typ && decide (s.now < x.till)) = some x) : s.accelDone typ =
      { s with tt := { s.tt with
          accel := s.tt.accel.filter (·.entry != x.entry), accelOver := nset typ 0 s.tt.accelOver } } := by
  unfold State.accelDone
  rw [h]

/-- The results are formed from the state before the end of the run but for the timetable. -/
theorem State.ownResults_accelDone (s : State) :
    let u := if s.get Reg.EIS_STAT_SRC = 2 then s.accelDone 8 else (s.accelDone 8).eisForm
    (s.accelDone 8).ownResults = { u with eis := { u.eis with done := bitTo s.eis.done s.devNum true } } := by
  obtain ⟨x, hx⟩ := s.accelDone_only 8
  rw [hx]
  by_cases hs : s.get Reg.EIS_STAT_SRC = 2
  · rw [if_pos hs]
    exact congrArg State.ownDone (if_pos hs)
  · rw [if_neg hs]
    exact congrArg State.ownDone (if_neg hs)

theorem State.ownResults_kept (s : State) :
    let u := (s.accelDone 8).ownResults
    u.regs = s.regs ∧ u.mem = s.mem ∧ u.csc = s.csc ∧ u.isLead = s.isLead ∧ u.eis.res = s.eis.res := by
  obtain ⟨x, hx⟩ := s.accelDone_only 8
  rw [hx, State.ownResults]
  split
  · exact ⟨rfl, rfl, rfl, rfl, rfl⟩
  · exact ⟨rfl, rfl, rfl, rfl, rfl⟩

/-! ### The deadline -/

/-- The lead holds the results of every device that is not lost. -/
def State.allResults (s : State) : Bool :=
  s.eis.done.testBit 0 && (List.range 8).all fun d => !s.followers.testBit d || s.eis.done.testBit d

theorem State.allResults_iff (s : State) : s.allResults = true ↔
    s.eis.done.testBit 0 = true ∧ ∀ d < 8, s.followers.testBit d = true → s.eis.done.testBit d = true := by
  simp only [State.allResults, Bool.and_eq_true, List.all_eq_true, List.mem_range, Bool.or_eq_true, Bool.not_eq_true',
    ← Bool.not_eq_true, ← imp_iff_not_or]

theorem exec_eisResultDeadline (hl : s.isLead = true) (hp : s.eis.phase = 4 ∨ s.eis.phase = 6) :
    exec .eisResultDeadline s =
      let u := s.advanceTo (s.eis.e + 2000000)
      .next (if s.eisNoDrive then u.eisSkip 6 else if s.allResults then u.eisComplete else u.eisIncomplete).settle := by
  have hx : exec .eisResultDeadline s = _ := if_neg (by simp [hl]; omega)
  rw [hx]
  change (if s.eisNoDrive = true then _ else if s.allResults = true then _ else _) = _
  cases s.eisNoDrive with
  | true => rfl
  | false =>
    cases s.allResults with
    | true => rfl
    | false => rfl

/-! ### The result selection -/

/-- The registers of the result itself (R196). -/
def State.showResult (s : State) (r : Option EisRes) : State :=
  match r with
  | some r => ((((((s.putB Reg.EIS_RMAG_VALID true).put Reg.EIS_RMAG_MAG r.mag).putI Reg.EIS_RPH_PH r.ph).put
      Reg.EIS_RCONF_SRC r.src).put Reg.EIS_RCONF_FLAGS r.flags).put Reg.EIS_RCONF_CONF r.conf).put
      Reg.EIS_RFRAME_FRAME r.frame
  | none => (((s.setWord Reg.EIS_RMAG 0).setWord Reg.EIS_RPH 0).setWord Reg.EIS_RCONF 0).setWord Reg.EIS_RFRAME 0

/-- The registers of the cell's impedance temperature (R191, R196). -/
def State.showTz (s : State) (t : Option (Rat × Option Rat)) : State :=
  match t with
  | some t => (s.putB Reg.EIS_RTZ_VALID true).putSatI Reg.EIS_RTZ_TZ (roundQ (t.1 * 10))
  | none => s.setWord Reg.EIS_RTZ 0

/-- The registers of the cell's reference (R191, R196). -/
def State.showRef (s : State) (f : Option EisRef) : State :=
  match f with
  | some f => (s.putB Reg.EIS_RREF_VALID true).putSat Reg.EIS_RREF_RE (roundQ (f.re * 100000000)).toNat
  | none => s.setWord Reg.EIS_RREF 0

/-- The result of the point and cell that this device holds and may show: the lead all of them, a follower its own cells'. -/
def State.shownResult (s : State) (p c : Nat) : Option EisRes :=
  if s.isLead || (48 * s.get Reg.SYS_PROFSTAT_DEVNUM ≤ c && c < 48 * s.get Reg.SYS_PROFSTAT_DEVNUM + 48) then
    aget (8 * c + p) s.eis.res else none

/-- The selection itself. -/
def State.eisSelected (s : State) (p c : Nat) : State := (s.put Reg.EIS_RSEL_POINT p).put Reg.EIS_RSEL_CELL c

theorem exec_eisResultSelect (ini : Ini) (p c : Nat) (s : State) : ∃ t f, exec (.eisResultSelect ini p c) s =
    .next ((((s.eisSelected p c).showResult (s.shownResult p c)).showTz t).showRef f) := by
  have hk : WordsKept [Reg.EIS_RSEL] s (s.eisSelected p c) := ((WordsKept.refl _ s).put (by decide) _).put (by decide) _
  have hr : s.shownResult p c = (s.eisSelected p c).shownResult p c := by
    rw [State.shownResult, ← hk.get Reg.SYS_PROFSTAT_DEVNUM (by decide)]
    rfl
  rw [hr]
  exact ⟨_, _, rfl⟩

/-- The registers of one result. -/
def resultWords : List Nat := [Reg.EIS_RMAG, Reg.EIS_RPH, Reg.EIS_RCONF, Reg.EIS_RFRAME]

theorem State.showResult_kept (s : State) (r : Option EisRes) :
    WordsKept resultWords s (s.showResult r) ∧ (s.showResult r).mem = s.mem ∧ (s.showResult r).eis = s.eis := by
  cases r with
  | some r =>
    have hmag := ((WordsKept.refl resultWords s).putB (f := Reg.EIS_RMAG_VALID) (by decide) true).put
      (f := Reg.EIS_RMAG_MAG) (by decide) r.mag
    have hph := hmag.put (f := Reg.EIS_RPH_PH) (by decide) (twos Reg.EIS_RPH_PH.wid r.ph)
    have hconf := ((hph.put (f := Reg.EIS_RCONF_SRC) (by decide) r.src).put (f := Reg.EIS_RCONF_FLAGS) (by decide)
      r.flags).put (f := Reg.EIS_RCONF_CONF) (by decide) r.conf
    exact ⟨hconf.put (by decide) r.frame,
      by simp only [State.showResult, State.put_mem, State.putI_mem, State.putB_mem],
      by simp only [State.showResult, State.put_eis, State.putI_eis, State.putB_eis]⟩
  | none =>
    exact ⟨((((WordsKept.refl _ s).setWord (by decide) _).setWord (by decide) _).setWord (by decide) _).setWord
      (by decide) _, rfl, rfl⟩

theorem State.showResult_some (s : State) (r : EisRes) :
    let t := s.showResult (some r)
    t.flag Reg.EIS_RMAG_VALID = true ∧ t.get Reg.EIS_RMAG_MAG = r.mag % 2 ^ Reg.EIS_RMAG_MAG.wid ∧
    t.get Reg.EIS_RCONF_CONF = r.conf % 2 ^ Reg.EIS_RCONF_CONF.wid ∧
    t.get Reg.EIS_RCONF_FLAGS = r.flags % 2 ^ Reg.EIS_RCONF_FLAGS.wid ∧
    t.get Reg.EIS_RCONF_SRC = r.src % 2 ^ Reg.EIS_RCONF_SRC.wid ∧ t.get Reg.EIS_RFRAME_FRAME = r.frame % 2 ^ 32 := by
  have hvalid : (s.putB Reg.EIS_RMAG_VALID true).get Reg.EIS_RMAG_VALID = 1 := State.get_put_self _ _ _ (by decide)
  unfold State.showResult State.flag
  simp (disch := decide) only [State.get_put_apart, State.get_putI_apart, State.get_put_self, hvalid, true_and]
  exact ⟨rfl, rfl⟩

theorem State.showResult_none (s : State) (a : Nat) (ha : a ∈ resultWords) : (s.showResult none).word a = 0 := by
  unfold State.showResult
  fin_cases ha <;> simp (disch := decide) only [State.word_setWord_self, State.word_setWord_ne]

theorem State.showTz_kept (s : State) (t : Option (Rat × Option Rat)) :
    WordsKept [Reg.EIS_RTZ] s (s.showTz t) ∧ (s.showTz t).mem = s.mem ∧ (s.showTz t).eis = s.eis := by
  cases t with
  | some t => exact ⟨((WordsKept.refl _ s).putB (by decide) _).putSatI (by decide) _, rfl, rfl⟩
  | none => exact ⟨(WordsKept.refl _ s).setWord (by decide) _, rfl, rfl⟩

theorem State.showRef_kept (s : State) (f : Option EisRef) :
    WordsKept [Reg.EIS_RREF] s (s.showRef f) ∧ (s.showRef f).mem = s.mem ∧ (s.showRef f).eis = s.eis := by
  cases f with
  | some f => exact ⟨((WordsKept.refl _ s).putB (by decide) _).putSat (by decide) _, rfl, rfl⟩
  | none => exact ⟨(WordsKept.refl _ s).setWord (by decide) _, rfl, rfl⟩

/-- A selection changes its own word and those that it shows; the temperature and the reference leave the result's words. -/
theorem State.eisSelected_facts (s : State) {p c : Nat} (hp : p < 8) (hc : c < 512) (r : Option EisRes)
    (t : Option (Rat × Option Rat)) (f : Option EisRef) :
    let u := (s.eisSelected p c).showResult r
    let v := (u.showTz t).showRef f
    v.get Reg.EIS_RSEL_POINT = p ∧ v.get Reg.EIS_RSEL_CELL = c ∧ WordsKept [Reg.EIS_RTZ, Reg.EIS_RREF] u v ∧
    WordsKept [Reg.EIS_RSEL, Reg.EIS_RMAG, Reg.EIS_RPH, Reg.EIS_RCONF, Reg.EIS_RFRAME, Reg.EIS_RTZ, Reg.EIS_RREF] s v ∧
    v.mem = s.mem ∧ v.eis = s.eis := by
  intro u v
  have hsel : WordsKept [Reg.EIS_RSEL] s (s.eisSelected p c) :=
    ((WordsKept.refl _ s).put (by decide) _).put (by decide) _
  obtain ⟨hres, hresm, hrese⟩ := (s.eisSelected p c).showResult_kept r
  obtain ⟨htz, htzm, htze⟩ := u.showTz_kept t
  obtain ⟨href, hrefm, hrefe⟩ := (u.showTz t).showRef_kept f
  have huv : WordsKept [Reg.EIS_RTZ, Reg.EIS_RREF] u v := (htz.append href).mono (by decide)
  have hshow := hres.append huv
  refine ⟨?_, ?_, huv, (hsel.append hshow).mono (by decide), hrefm.trans (htzm.trans hresm),
    hrefe.trans (htze.trans hrese)⟩
  · rw [hshow.get _ (by decide), State.eisSelected, State.get_put_apart _ _ _ _ (by decide),
      State.get_put_self _ _ _ (by decide)]
    exact Nat.mod_eq_of_lt hp
  · rw [hshow.get _ (by decide), State.eisSelected, State.get_put_self _ _ _ (by decide)]
    exact Nat.mod_eq_of_lt hc

/-! ### The charger's stop -/

/-- The charger has not ended in time: its request is dropped, and that is a fault (R184). -/
def State.stopTimedOut (s : State) : State :=
  (State.raise { s with eis := { s.eis with req := 0 } } Ev.EIS_EXC_FAULT).putB Reg.EIS_STAT_EXC false

theorem exec_excitationStopTimeout (hl : s.isLead = true) (hr : s.eis.req = 3) (ha : s.ackActive = true)
    (ht : clampN 1 255 (s.get Reg.EIS_EXCCFG_STOPTMO) ≤ s.framesSince s.eis.stopFrame + 1) :
    exec .excitationStopTimeout s = .next s.stopTimedOut := by
  have hx : exec .excitationStopTimeout s =
      .next (State.raise { s with eis := { s.eis with req := 0 } } Ev.EIS_EXC_FAULT).eisExc := if_pos ⟨hl, hr, ha, ht⟩
  rw [hx, State.eisExc, State.raise_eis]
  rfl

theorem State.stopTimedOut_facts (ha : s.alive = true) :
    let t := s.stopTimedOut
    t.eis = { s.eis with req := 0 } ∧ t.flag Reg.EIS_STAT_EXC = false ∧ t.raised Ev.EIS_EXC_FAULT = true ∧
    QuietWordsKept [Reg.EIS_STAT] s t ∧ BytesKept s t := by
  have hw : QuietWordsKept [Reg.EIS_STAT] s { s with eis := { s.eis with req := 0 } } :=
    ((WordsKept.refl _ s).of_regs rfl).quiet
  have hb : BytesKept s { s with eis := { s.eis with req := 0 } } := .of_mem rfl
  refine ⟨(State.putB_eis _ _ _).trans (State.raise_eis _ _), State.flag_putB_self _ _ _ (by decide) (by decide),
    (State.raised_putB_ne _ _ _ _ (by decide)).trans (State.raised_raise _ _ ha (by decide)),
    (hw.raise _).putB (by decide) _, (hb.raise _).of_eq (State.putB_mem _ _ _)⟩

end Sys2Proof.Machine

open Sys2Proof Sys2Proof.Machine

/-- Settles O59, command by command: the sweep and its abort, TCAL, the window's end, the processing, the deadline, the
charger's stop, and the selection. The end of a modulation, results formed at the processing and the advance of a pass are the model's
choices (log entries 104, 106, 88). -/
theorem impedanceCommands : Obligations.ImpedanceCommands := by
  refine ⟨?noSweep, ?sweep, ?follower, ?tcal, ?abortIdle, ?abort, ?noWindow, ?window, ?noRun, ?runOver, ?results,
    ?runPlace, ?noDeadline, ?complete, ?incomplete, ?noTimeout, ?timeout, ?shown, ?notShown⟩
  case noSweep =>
    intro ini s h
    refine congrArg Host.Outcome.next (if_neg fun hn => ?_)
    obtain ⟨hl, hp, hs⟩ := hn
    obtain h | h | h := h
    · simp [h] at hl
    · exact h hp
    · exact hs h
  case sweep =>
    intro ini s hl hp hs
    obtain ⟨hsweep, hpoint, hk⟩ := s.sweepBegins_facts
    rw [exec_eisSweepRequest ini hl hp hs]
    exact .next ⟨s.sweepBegins, rfl, hsweep, hpoint, rfl, hk, rfl⟩
  case follower => exact fun ini s hl => ⟨if_neg (by simp [hl]), if_neg (by simp [hl])⟩
  case tcal => exact fun ini s hl => if_pos hl
  case abortIdle => exact fun ini s hl h => exec_eisAbort_idle ini hl h
  case abort =>
    intro ini s ha hl h
    rw [exec_eisAbort ini hl h]
    exact .next ⟨s.abortNoted, rfl, State.abortNoted_facts ha⟩
  case noWindow => exact fun s h => if_pos h
  case window =>
    intro s h
    obtain ⟨hnow, hphase, hbal, hreq, hmem, hlead, hget, hk⟩ := s.windowOver_facts
    have hsrc := hget Reg.EIS_STAT_SRC (by decide)
    have hpass := hget Reg.EIS_STAT_PASS (by decide)
    have hanchor : s.windowOver.isAnchor = s.isAnchor := hk.flag Reg.SYS_PROFSTAT_ANCHOR (by decide)
    rw [exec_eisWindowEnd h]
    refine .next ⟨s.windowOver, hnow, hphase.trans h, hbal, hreq, hmem, hget, hk, ?_⟩
    rw [State.passEnds, State.phasorGoesOut, hsrc, hpass, hlead, hanchor]
  case noRun => exact fun s h => if_pos (by simp [h])
  case runOver =>
    intro s hr h
    refine exec_eisProcessingDone_stays hr fun hd hk => ?_
    obtain ⟨hphase, hcounts, hdone⟩ := hd
    obtain h | h | h | ⟨hs, hg⟩ := h
    · exact h hphase
    · simp [h] at hcounts
    · simp [h] at hdone
    · exact hk.elim hs (by simp [hg])
  case results =>
    intro s hr hphase hcounts hdone hk u
    obtain ⟨hregs, hmem, hcsc, hlead, hres⟩ := s.ownResults_kept
    have hown := s.ownResults_accelDone
    have hreport : (s.accelDone 8).ownResults.eisReport = u.eisReport := by
      rw [hown]
      rfl
    rw [exec_eisProcessingDone hr ⟨hphase, hcounts, hdone⟩ hk, State.reportResults, hlead, hreport]
    refine ⟨fun hl => ?_, fun hl => ?_⟩
    · rw [if_pos hl, hown]
    · rw [if_neg (by simp [hl])]
      exact .next ⟨hregs, hmem, congrArg (Csc.txq · ++ _) hcsc, congrArg State.eis hown, hres⟩
  case runPlace =>
    intro s x h
    rw [State.accelDone_run h]
    exact ⟨rfl, nget_nset_self 8 0 s.tt.accelOver, rfl, rfl, rfl⟩
  case noDeadline => exact fun s h => if_pos (by simpa using h)
  case complete =>
    intro s hl hp hown hall
    rw [exec_eisResultDeadline hl hp, s.allResults_iff.2 ⟨hown, hall⟩]
    rfl
  case incomplete =>
    intro s hl hp hmiss u v
    have hn : s.allResults = false := by
      rw [← Bool.not_eq_true, s.allResults_iff]
      rintro ⟨hown, hall⟩
      obtain hmiss | ⟨d, hd, hf, hmiss⟩ := hmiss
      · simp [hmiss] at hown
      · simp [hall d hd hf] at hmiss
    rw [exec_eisResultDeadline hl hp, hn]
    rfl
  case noTimeout =>
    intro s h
    refine if_neg fun hn => ?_
    obtain ⟨hl, hr, ha, ht⟩ := hn
    obtain h | h | h | h := h
    · simp [h] at hl
    · exact h hr
    · simp [h] at ha
    · omega
  case timeout =>
    intro s ha hl hr hack ht
    rw [exec_excitationStopTimeout hl hr hack ht]
    exact .next (State.stopTimedOut_facts ha)
  case shown =>
    intro ini p c r s hp hc hl hr
    obtain ⟨t, f, hx⟩ := exec_eisResultSelect ini p c s
    have hshown : s.shownResult p c = some r := (if_pos (by simp [hl])).trans hr
    rw [hx, hshown]
    obtain ⟨hpoint, hcell, hlate, hk, hm, he⟩ := s.eisSelected_facts hp hc (some r) t f
    obtain ⟨hvalid, hmag, hconf, hflags, hsrc, hframe⟩ := (s.eisSelected p c).showResult_some r
    exact .next ⟨hpoint, hcell, (hlate.flag _ (by decide)).trans hvalid, (hlate.get _ (by decide)).trans hmag,
      (hlate.get _ (by decide)).trans hconf, (hlate.get _ (by decide)).trans hflags,
      (hlate.get _ (by decide)).trans hsrc, (hlate.get _ (by decide)).trans hframe, hk, hm, he⟩
  case notShown =>
    intro ini p c s hp hc hr
    obtain ⟨t, f, hx⟩ := exec_eisResultSelect ini p c s
    have hshown : s.shownResult p c = none := by
      rw [State.shownResult, hr, ite_self]
    rw [hx, hshown]
    obtain ⟨hpoint, hcell, hlate, hk, hm, he⟩ := s.eisSelected_facts hp hc none t f
    have hzero := (s.eisSelected p c).showResult_none
    exact .next ⟨hpoint, hcell, (hlate _ (by decide)).trans (hzero _ (by decide)),
      (hlate _ (by decide)).trans (hzero _ (by decide)), (hlate _ (by decide)).trans (hzero _ (by decide)),
      (hlate _ (by decide)).trans (hzero _ (by decide)), hk, hm, he⟩

end

section
/-!
The device resets (R394 to R407): Safety Net's hold on the channels and a device reset leave the always-on domain as it says,
a standing cause keeps the device in reset, and each command's cases.
-/
namespace Sys2Proof.Machine

variable {s : State}

/-! ### Safety Net and the channels leave the power state alone -/

/-- A loop whose every turn keeps the power state keeps it. -/
theorem State.foldl_power {f : State → Nat → State} (hf : ∀ x i, (f x i).power = x.power) (l : List Nat) (s : State) :
    (l.foldl f s).power = s.power :=
  l.foldlRecOn (motive := fun t => t.power = s.power) f rfl fun t ht i _ => (hf t i).trans ht

@[simp] theorem State.startRamp_power (s : State) (i : Nat) : (s.startRamp i).power = s.power := rfl

@[simp] theorem State.stopChan_power (s : State) (i : Nat) : (s.stopChan i).power = s.power := rfl

@[simp] theorem State.testIncomplete_power (s : State) (i st : Nat) : (s.testIncomplete i st).power = s.power :=
  State.raise_power _ _

@[simp] theorem State.refreshChan_power (s : State) (i : Nat) : (s.refreshChan i).power = s.power := by
  unfold State.refreshChan
  extract_lets u
  have hu : u.power = s.power := rfl
  split
  case h_4 => split <;> simp [hu]
  all_goals simp [hu]

@[simp] theorem State.refreshChannels_power (s : State) : s.refreshChannels.power = s.power := by
  refine (State.put_power _ _ _).trans (State.foldl_power (fun x i => ?_) _ s)
  split
  · exact x.refreshChan_power i
  · rfl

@[simp] theorem State.snBegin_power (s : State) (cause : Nat) (r : Bool) : (s.snBegin cause r).power = s.power := by
  unfold State.snBegin
  extract_lets u taken v w l x
  have hu : u.power = s.power := rfl
  split
  case isTrue => exact u.refreshChannels_power
  case isFalse =>
    have hv : v.power = u.power := by
      simp only [v]
      split
      · exact u.abortTest_power
      · rfl
    exact x.refreshChannels_power.trans hv

@[simp] theorem State.chstatReset_power (s : State) : s.chstatReset.power = s.power := by
  refine State.foldl_power (fun x i => ?_) _ s
  rw [State.put_power, State.put_power]

/-! ### A device reset -/

theorem State.deviceReset_dead (c : Nat) (ha : s.alive = false) : s.deviceReset c = s := if_pos (by simp [ha])

/-- A device reset ends in the wiped state with the channel registers at reset. -/
theorem State.deviceReset_wiped (c : Nat) (ha : s.alive = true) :
    ∃ u : State, s.deviceReset c = (u.wiped c).chstatReset := ⟨_, if_neg (by simp [ha])⟩

theorem State.deviceReset_alive (s : State) (c : Nat) : (s.deviceReset c).alive = false := by
  cases ha : s.alive
  case false => rw [State.deviceReset_dead c ha, ha]
  case true =>
    obtain ⟨u, hu⟩ := State.deviceReset_wiped c ha
    rw [hu, State.alive, State.chstatReset_power]
    rfl

theorem State.deviceReset_code (c : Nat) (ha : s.alive = true) : (s.deviceReset c).power.code = c := by
  obtain ⟨u, hu⟩ := State.deviceReset_wiped c ha
  rw [hu, State.chstatReset_power]
  rfl

theorem State.now_le_deviceReset (s : State) (c : Nat) : s.now ≤ (s.deviceReset c).now :=
  (State.deviceReset_keeps s c (.refl s)).time

/-- A low nRST, a hot die and a reset without a code each forbid the release (R407, R212, Table 18.5). -/
theorem State.mayRelease_of_cause (h : s.power.nrstLow = true ∨ s.power.hot = true ∨ s.power.code = 0) :
    s.mayRelease = false := by
  obtain h | h | h := h <;> simp [State.mayRelease, h]

/-! ### The commands -/

theorem exec_brownoutTimeout {n : Nat} (hw : s.power.warnAt = some n) (ha : s.alive = true) :
    exec .brownoutTimeout s = .next ((s.advanceTo (n + 200000)).deviceReset 3) := by
  show execBrownoutTimeout s = _
  rw [execBrownoutTimeout, hw]
  exact if_pos ha

theorem exec_brownoutTimeout_idle (hw : s.power.warnAt = none) : exec .brownoutTimeout s = .next s := by
  show execBrownoutTimeout s = _
  rw [execBrownoutTimeout, hw]

theorem exec_coreSupplyFailure (hs : s.sleeping = false) :
    exec .coreSupplyFailure s = .next
      ((State.deviceReset { s with power := { s.power with coreFail := true } } 5).putBit Reg.LHM_STAT_CAUSE 2 true) :=
  (if_neg (by simp [hs])).trans (congrArg Host.Outcome.next (if_neg (by simp [State.deviceReset_alive])))

theorem exec_nrstRelease {n : Nat} (h : s.power.nrstAt = some n) :
    exec .nrstRelease s = .next { s with power := { s.power with
      nrstLow := false, nrstAt := none, nrstNew := true, nrstMs := (s.now - n) / 100000 } } := by
  show execNrstRelease s = _
  rw [execNrstRelease, h]

theorem exec_nrstRelease_idle (h : s.power.nrstAt = none) : exec .nrstRelease s = .next s := by
  show execNrstRelease s = _
  rw [execNrstRelease, h]

/-- The state in which the die's hard stop resets the device: at once at 175 °C, else 100 ms after stage 3 (R211). -/
def State.hardStopAt (s : State) : State :=
  if 1750 ≤ s.getI Reg.THM_DIESTAT_TDIE then s else s.advanceTo (s.power.stage3At + 10000000)

theorem State.hardStopAt_alive (s : State) : s.hardStopAt.alive = s.alive := by
  unfold State.hardStopAt
  split <;> rfl

/-- The die's hard stop of a device in operation: code 8, held until the thermal restart (R211, R212). -/
theorem exec_dieStage3HardStop (ha : s.alive = true)
    (h : s.power.stage = 3 ∨ 1750 ≤ s.getI Reg.THM_DIESTAT_TDIE) :
    Gives (exec .dieStage3HardStop s) fun t => t.alive = false ∧ t.power.code = 8 ∧ t.power.hot = true ∧
      s.hardStopAt.now ≤ t.now :=
  ⟨_, if_pos ⟨ha, h⟩, s.hardStopAt.deviceReset_alive 8,
    State.deviceReset_code 8 (s.hardStopAt_alive.trans ha), rfl, s.hardStopAt.now_le_deviceReset 8⟩

/-- The always-on domain is lost: nothing of the power state is left, and the device is in reset with no code (R394). -/
theorem exec_alwaysOnLoss (s : State) : Gives (exec .alwaysOnLoss s) fun t =>
    t.power = { vbatLost := true, code := 0, phase := .inReset, resetAt := t.now } := ⟨_, rfl, rfl⟩

/-- The strap code that is read: one outside 0 to 7 reads as 0 (Table 11.5). -/
theorem strapCode_eq_zero (n : Nat) : ((if n ≤ 7 then n else 0) == 0) = (n == 0 || decide (7 < n)) := by
  split
  case isTrue h => simp [Nat.not_lt.2 h]
  case isFalse h => simp [Nat.lt_of_not_le h]

/-- Power-on after a loss of the always-on domain: code 1 and the strap's check, all else of the power state kept (R406, Table 11.5). -/
theorem exec_powerOn (n : Nat) (ha : s.alive = false) (hv : s.power.vbatLost = true) :
    Gives (exec (.powerOn n) s) fun t =>
      ∃ r : Nat, t.power = { s.power with code := 1, strapFault := n == 0 || decide (7 < n), resetAt := r } := by
  show Gives (execPowerOn n s) _
  rw [execPowerOn, if_pos (by simp [ha, hv])]
  extract_lets u v code w p x
  have hw : w.power = s.power := (State.foldl_power (fun _ _ => State.setWord_power _ _ _) _ u :)
  refine .next ⟨w.now, (x.snBegin_power 1 true).trans ?_⟩
  simp only [x, p, hw, code, strapCode_eq_zero]
  rfl

end Sys2Proof.Machine

open Sys2Proof Sys2Proof.Machine

/-- Settles O38, command by command: the resets of VBAT, of the core supply and of the clock, nRST, the die, and the always-on
domain. That a reset in progress keeps its first code is the model's choice (log entry 50): nRST gives code 2 to a device that
was not yet in reset. -/
theorem resetCauseCommands : Obligations.ResetCauseCommands := by
  refine ⟨?warning, ?noWarning, ?core, ?asleep, fun _ => rfl, ?clock, ?noClock, fun _ => rfl, ?nrst, ?nrstEnd,
    ?noNrst, fun _ => rfl, ?dieHot, ?dieStage, ?noDie, ?loss, ?noPowerOn, ?powerOn⟩
  case warning =>
    intro n s hw ha
    exact ⟨exec_brownoutTimeout hw ha, fun he => if_pos ⟨ha, by simp [hw], he⟩,
      fun he => if_neg fun ⟨_, _, hlow⟩ => Nat.not_lt.2 he hlow⟩
  case noWarning => exact fun s hw => ⟨exec_brownoutTimeout_idle hw, if_neg (by simp [hw])⟩
  case core => exact fun s hs _ => exec_coreSupplyFailure hs
  case asleep => exact fun s hs => if_pos hs
  case clock => exact fun s hp ha => if_pos ⟨hp, ha⟩
  case noClock => exact fun s h => if_neg (by simpa [or_iff_not_imp_left] using h)
  case nrst =>
    exact fun s => .next ⟨s.deviceReset_alive 2, rfl, rfl, State.mayRelease_of_cause (.inl rfl),
      fun ha => State.deviceReset_code 2 ha⟩
  case nrstEnd => exact fun n s h => exec_nrstRelease h
  case noNrst => exact fun s h => exec_nrstRelease_idle h
  case dieHot =>
    intro s ha ht
    obtain ⟨t, hx, hreset, hcode, hhot, -⟩ := exec_dieStage3HardStop ha (.inr ht)
    exact ⟨t, hx, hreset, hcode, hhot, State.mayRelease_of_cause (.inr (.inl hhot))⟩
  case dieStage =>
    intro s ha h3 ht
    obtain ⟨t, hx, hreset, hcode, hhot, hnow⟩ := exec_dieStage3HardStop ha (.inl h3)
    rw [State.hardStopAt, if_neg (Int.not_le.2 ht)] at hnow
    exact ⟨t, hx, hreset, hcode, hhot, (Nat.le_max_right _ _).trans hnow⟩
  case noDie =>
    exact fun s h3 ht => if_neg fun ⟨_, h⟩ => h.elim h3 (Int.not_le.2 ht)
  case loss =>
    intro s
    obtain ⟨t, hx, hp⟩ := exec_alwaysOnLoss s
    exact ⟨t, hx, by simp [State.alive, hp], by rw [hp], by rw [hp], State.mayRelease_of_cause (by simp [hp]),
      by rw [hp], by rw [hp]⟩
  case noPowerOn => exact fun n s h => if_neg (by simpa [or_iff_not_imp_left] using h)
  case powerOn =>
    intro n s ha hv
    obtain ⟨t, hx, r, hp⟩ := exec_powerOn n ha hv
    exact ⟨t, hx, by rw [State.alive, hp]; exact ha, by rw [hp], by rw [hp]; exact hv, by rw [hp]⟩

end

section
/-!
The contactor sequencer (R241 to R254): where it acts and whose commands it takes, what entering a state shows, what a refused
close and a weld check leave, and each command in its cases.
-/
namespace Sys2Proof.Machine

variable {s : State}

/-! ### Where the sequencer acts, and for whom (R242, R253) -/

theorem State.alive_of_ctsRuns (h : s.ctsRuns = true) : s.alive = true := by
  simp only [State.ctsRuns, Bool.and_eq_true] at h
  exact h.1.2

theorem State.ctsRuns_follower (h : s.isLead = false) : s.ctsRuns = false := by simp [State.ctsRuns, h]

theorem State.ctsCommand_acts (h : s.ctsRuns = true) (act : State → State) : s.ctsCommand .pairA act = act s := if_pos h

theorem State.ctsCommand_follower (h : s.isLead = false) (act : State → State) : s.ctsCommand .pairA act = s :=
  if_neg (by simp [State.ctsRuns_follower h])

theorem State.ctsCommand_refused {ini : Ini} (h : ini ≠ .pairA) (act : State → State) :
    s.ctsCommand ini act = s.raise Ev.CTS_CMD_REFUSED := by
  cases ini
  case pairA => exact absurd rfl h
  all_goals rfl

/-- Each command of `CTS.CTRL` passes the gate of `ctsCommand`, whatever it does behind it. -/
theorem exec_ctsCommand {ini : Ini} {c : Instr} (h : c ∈ [Instr.driveClose ini, .driveOpen ini, .chargeClose ini,
    .chargeOpen ini, .auxOn ini, .auxOff ini, .faultClear ini]) :
    ∃ act : State → State, ∀ s : State, exec c s = .next (s.ctsCommand ini act) := by
  simp only [List.mem_cons, List.not_mem_nil, or_false] at h
  obtain rfl | rfl | rfl | rfl | rfl | rfl | rfl := h
  all_goals exact ⟨_, fun _ => rfl⟩

/-- A command of Pair A while the sequencer acts is its effect. -/
theorem next_ctsCommand (h : s.ctsRuns = true) (act : State → State) :
    Host.Outcome.next (s.ctsCommand .pairA act) = (.next (act s) : Result) := by rw [State.ctsCommand_acts h]

theorem exec_driveClose (h : s.ctsRuns = true) : exec (.driveClose .pairA) s = .next s.driveCloseCmd := next_ctsCommand h _

theorem exec_driveOpen (h : s.ctsRuns = true) : exec (.driveOpen .pairA) s = .next s.driveOpenCmd := next_ctsCommand h _

theorem exec_chargeClose (h : s.ctsRuns = true) : exec (.chargeClose .pairA) s = .next s.chargeCloseCmd :=
  next_ctsCommand h _

theorem exec_chargeOpen (h : s.ctsRuns = true) : exec (.chargeOpen .pairA) s = .next s.chargeOpenCmd := next_ctsCommand h _

theorem exec_auxOff (h : s.ctsRuns = true) : exec (.auxOff .pairA) s = .next (s.auxOpen 1).settle := next_ctsCommand h _

theorem exec_faultClear (h : s.ctsRuns = true) : exec (.faultClear .pairA) s =
    .next ((s.putB Reg.CTS_STAT_LOCKOUT false).put Reg.CTS_PCRES_FAILS 0) := next_ctsCommand h _

theorem exec_auxOn_refused (h : s.ctsRuns = true) {n : Nat} (hn : s.ctsRefusal [5] true = some n) :
    exec (.auxOn .pairA) s = .next (s.ctsRefuse n) := by
  refine (next_ctsCommand h _).trans ?_
  simp only [hn, Option.orElse_some]

theorem exec_auxOn_accepted (h : s.ctsRuns = true) (hn : s.ctsRefusal [5] true = none)
    (hh : s.flag Reg.CTS_STAT_HOLD = false) : exec (.auxOn .pairA) s = .next (s.setRole 5 true).settle := by
  refine (next_ctsCommand h _).trans ?_
  simp only [hn, hh, Option.orElse_none, Bool.false_eq_true, if_false]

/-! ### Entering a state of a path -/

theorem State.enterD_kept (s : State) (n : Nat) : WordsKept [Reg.CTS_STAT] s (s.enterD n) :=
  ((WordsKept.refl _ s).of_regs rfl).put (by decide) n

theorem State.enterC_kept (s : State) (n : Nat) : WordsKept [Reg.CTS_STAT] s (s.enterC n) :=
  ((WordsKept.refl _ s).of_regs rfl).put (by decide) n

theorem State.enterD_dstate (s : State) {n : Nat} (h : n < 16) : (s.enterD n).dstate = n :=
  (State.get_put_self _ _ _ (by decide)).trans (Nat.mod_eq_of_lt h)

theorem State.enterC_cstate (s : State) {n : Nat} (h : n < 16) : (s.enterC n).cstate = n :=
  (State.get_put_self _ _ _ (by decide)).trans (Nat.mod_eq_of_lt h)

@[simp] theorem State.enterC_dstate (s : State) (n : Nat) : (s.enterC n).dstate = s.dstate :=
  State.get_put_apart _ _ _ _ (by decide)

@[simp] theorem State.raise_dstate (s : State) (e : Event) : (s.raise e).dstate = s.dstate :=
  State.get_raise _ _ _ (by decide)

@[simp] theorem State.raise_cstate (s : State) (e : Event) : (s.raise e).cstate = s.cstate :=
  State.get_raise _ _ _ (by decide)

/-- The map that follows its register shows in MAPPEND and AUX alone. -/
theorem State.get_mapSync (s : State) {f : Fld} (hm : Reg.CTS_STAT_MAPPEND.apart f = true)
    (ha : Reg.CTS_STAT_AUX.apart f = true) : s.mapSync.get f = s.get f := by
  unfold State.mapSync
  split
  · rfl
  · split
    · exact (State.get_putB_apart _ _ _ _ ha).trans (State.get_putB_apart _ _ _ _ hm)
    · exact State.get_putB_apart _ _ _ _ hm

theorem State.driveOpen_dstate (s : State) : s.driveOpen.dstate = 0 :=
  (State.get_mapSync _ (by decide) (by decide)).trans (s.enterD_dstate (by decide))

theorem State.chargeOpen_cstate (s : State) : s.chargeOpen.cstate = 0 :=
  (State.get_mapSync _ (by decide) (by decide)).trans (s.enterC_cstate (by decide))

theorem State.posOpen_dstate (s : State) (r l : Nat) : (s.posOpen r l).dstate = 8 := State.enterD_dstate _ (by decide)

theorem State.cpOpen_cstate (s : State) (r : Nat) : (s.cpOpen r).cstate = 8 := State.enterC_cstate _ (by decide)

theorem State.pcFail_dstate (s : State) (n : Nat) : (s.pcFail n).dstate = 8 := State.posOpen_dstate _ _ _

/-! ### A refused close (Table 10.2) -/

/-- The codes that every close shares are 1 to 4. -/
theorem State.ctsRefusal_le {need : List Nat} {p : Bool} {n : Nat} (h : s.ctsRefusal need p = some n) : n ≤ 4 := by
  unfold State.ctsRefusal at h
  split at h
  case isTrue => cases h; decide
  split at h
  case isTrue => cases h; decide
  split at h
  case isTrue => cases h; decide
  split at h
  · cases h; decide
  · cases h

/-- A refusal shows its code and raises its event; paths, roles and every other word stay. -/
theorem State.ctsRefuse_facts {n : Nat} (hn : n < 16) (ha : s.alive = true) :
    (s.ctsRefuse n).get Reg.CTS_STAT_REFUSE = n ∧ (s.ctsRefuse n).dstate = s.dstate ∧
    (s.ctsRefuse n).cstate = s.cstate ∧ (s.ctsRefuse n).cts = s.cts ∧
    (s.ctsRefuse n).raised Ev.CTS_CLOSE_REFUSED = true ∧ QuietWordsKept [Reg.CTS_STAT] s (s.ctsRefuse n) ∧
    BytesKept s (s.ctsRefuse n) := by
  unfold State.ctsRefuse
  refine ⟨?_, ?_, ?_, State.raise_cts _ _, State.raised_raise _ _ ha (by decide), ?_, (BytesKept.of_mem (State.put_mem _ _ _)).raise _⟩
  · exact (State.get_raise _ _ _ (by decide)).trans
      ((State.get_put_self _ _ _ (by decide)).trans (Nat.mod_eq_of_lt hn))
  · exact (State.raise_dstate _ _).trans (State.get_put_apart _ _ _ _ (by decide))
  · exact (State.raise_cstate _ _).trans (State.get_put_apart _ _ _ _ (by decide))
  · exact ((WordsKept.refl _ s).put (by decide) n).quiet.raise _

theorem State.driveCloseCmd_refused {n : Nat} (h : s.ctsRefusal [0, 1, 2] (s.dstate == 0) = some n) :
    s.driveCloseCmd = s.ctsRefuse n := by
  simp only [State.driveCloseCmd, h, Option.orElse_some]

theorem State.chargeCloseCmd_refused {n : Nat} (h : s.ctsRefusal [3, 4] (s.cstate == 0) = some n) :
    s.chargeCloseCmd = s.ctsRefuse n := by
  simp only [State.chargeCloseCmd, h, Option.orElse_some]

/-- FAULT_CLEAR clears the lockout and the count of failures (R247). -/
theorem exec_faultClear_facts (h : s.ctsRuns = true) : Gives (exec (.faultClear .pairA) s) fun t =>
    t.flag Reg.CTS_STAT_LOCKOUT = false ∧ t.get Reg.CTS_PCRES_FAILS = 0 ∧ t.dstate = s.dstate ∧ t.cstate = s.cstate ∧
    t.cts = s.cts ∧ WordsKept [Reg.CTS_STAT, Reg.CTS_PCRES] s t ∧ t.mem = s.mem := by
  rw [exec_faultClear h]
  refine .next ⟨?_, State.get_put_self _ _ _ (by decide), ?_, ?_, rfl,
    ((WordsKept.refl _ s).putB (by decide) _).put (by decide) _, rfl⟩
  · exact (State.flag_put_apart _ _ _ _ (by decide)).trans (State.flag_putB_self _ _ _ (by decide) (by decide))
  · exact (State.get_put_apart _ _ _ _ (by decide)).trans (State.get_putB_apart _ _ _ _ (by decide))
  · exact (State.get_put_apart _ _ _ _ (by decide)).trans (State.get_putB_apart _ _ _ _ (by decide))

end Sys2Proof.Machine

open Sys2Proof Sys2Proof.Machine

/-- Settles O25, command by command: the gate, the three refusals, and FAULT_CLEAR. -/
theorem contactorCommandGate : Obligations.ContactorCommandGate := by
  refine ⟨?gate, ?drive, ?charge, ?aux, fun s hr => exec_faultClear_facts hr⟩
  case gate =>
    intro ini c s hc
    obtain ⟨act, hact⟩ := exec_ctsCommand hc
    rw [hact]
    refine ⟨?_, fun hi => by rw [State.ctsCommand_refused hi]⟩
    rintro hl rfl
    rw [State.ctsCommand_follower hl]
  case drive =>
    intro n s hr hn
    rw [exec_driveClose hr, State.driveCloseCmd_refused hn]
    exact .next (State.ctsRefuse_facts (Nat.lt_of_le_of_lt (State.ctsRefusal_le hn) (by decide)) (State.alive_of_ctsRuns hr))
  case charge =>
    intro n s hr hn
    rw [exec_chargeClose hr, State.chargeCloseCmd_refused hn]
    exact .next (State.ctsRefuse_facts (Nat.lt_of_le_of_lt (State.ctsRefusal_le hn) (by decide)) (State.alive_of_ctsRuns hr))
  case aux =>
    intro n s hr hn
    rw [exec_auxOn_refused hr hn]
    obtain ⟨hcode, -, -, hcts, hraised, hwords, hbytes⟩ := State.ctsRefuse_facts
      (Nat.lt_of_le_of_lt (State.ctsRefusal_le hn) (by decide)) (State.alive_of_ctsRuns hr)
    exact .next ⟨hcode, hwords.get _ (by decide) (by decide), hcts, hraised, hwords, hbytes⟩

end

section
/-!
The contactor paths under their commands (R242, R245, R251): an accepted close, and an opening in each state of its path.
-/
namespace Sys2Proof.Machine

variable {s : State}

theorem State.driveCloseCmd_accepted (hn : s.ctsRefusal [0, 1, 2] (s.dstate == 0) = none) (hc : s.ctsRefusalClose = none)
    (hl : s.flag Reg.CTS_STAT_LOCKOUT = false) (ht : s.cts.coolUntil ≤ s.now) :
    s.driveCloseCmd = (({ s with cts := { s.cts with reason := 1 } }.enterD 1).submit 3).settle := by
  simp only [State.driveCloseCmd, hn, hc, hl, Option.orElse_none, Nat.not_lt.2 ht, decide_false, Bool.or_self,
    Bool.false_eq_true, if_false]

theorem State.chargeCloseCmd_accepted (hn : s.ctsRefusal [3, 4] (s.cstate == 0) = none) (hc : s.ctsRefusalClose = none)
    (hd : s.dstate = 6) (hf : s.flag Reg.SAF_STAT_CHGFORB = false) :
    s.chargeCloseCmd = ((s.enterC 1).submit 3).settle := by
  simp only [State.chargeCloseCmd, hn, hc, hd, hf, Option.orElse_none, bne_self_eq_false, Bool.false_eq_true, if_false]

theorem State.driveOpenCmd_grant (hd : s.dstate = 1) : s.driveOpenCmd = s.dropWeld.driveOpen.settle := if_pos hd

theorem State.driveOpenCmd_closing (h2 : 2 ≤ s.dstate) (h5 : s.dstate ≤ 5) :
    s.driveOpenCmd = (((s.put Reg.CTS_PCRES_RESULT 5).put Reg.CTS_PCRES_TIME
      (min 65535 ((s.now - s.cts.pcAt) / 100000))).posOpen 1 0).settle :=
  (if_neg (Nat.ne_of_gt h2)).trans (if_pos ⟨h2, h5⟩)

theorem State.driveOpenCmd_idle (h : s.dstate = 0 ∨ 7 ≤ s.dstate) : s.driveOpenCmd = s :=
  (if_neg (by omega)).trans ((if_neg (by omega)).trans (if_neg (by omega)))

/-- DRIVE_OPEN in CLOSED enters RAMP, with the TRAMP that is read at that entry (R242, R245). -/
theorem State.driveOpenCmd_ramps (hd : s.dstate = 6) :
    s.driveOpenCmd.dstate = 7 ∧ s.driveOpenCmd.cts.since = s.now ∧ s.driveOpenCmd.cts.cfg = s.ctsWords ∧
    s.driveOpenCmd.cts.reason = 1 ∧ s.driveOpenCmd.cts.ramp =
      msTicks (min 1000 (Reg.CTS_OPENCFG_TRAMP.extract (BitVec.ofNat 32 (s.ctsWords.getD 6 0)))) ∧
    WordsKept [Reg.CTS_STAT] s s.driveOpenCmd ∧ s.driveOpenCmd.mem = s.mem := by
  have hx : s.driveOpenCmd = { s.enterD 7 with cts := { (s.enterD 7).cts with
      ramp := msTicks (min 1000 ((s.enterD 7).ctsCfg false Reg.CTS_OPENCFG_TRAMP)), reason := 1 } } :=
    (if_neg (by omega)).trans ((if_neg (by omega)).trans (if_pos hd))
  rw [hx]
  exact ⟨s.enterD_dstate (by decide), rfl, rfl, rfl, rfl, (s.enterD_kept 7).of_regs rfl, rfl⟩

theorem State.chargeOpenCmd_waiting (h : s.cstate = 1 ∨ s.cstate = 2) : s.chargeOpenCmd = s.dropWeld.chargeOpen.settle :=
  if_pos h

theorem State.chargeOpenCmd_closing (h3 : 3 ≤ s.cstate) (h5 : s.cstate ≤ 5) : s.chargeOpenCmd = (s.cpOpen 1).settle :=
  (if_neg (by omega)).trans (if_pos ⟨h3, h5⟩)

theorem State.chargeOpenCmd_ramps (h : s.cstate = 6) : s.chargeOpenCmd = s.enterC 7 :=
  (if_neg (by omega)).trans ((if_neg (by omega)).trans (if_pos h))

theorem State.chargeOpenCmd_idle (h : s.cstate = 0 ∨ 7 ≤ s.cstate) : s.chargeOpenCmd = s :=
  (if_neg (by omega)).trans ((if_neg (by omega)).trans (if_neg (by omega)))

end Sys2Proof.Machine

open Sys2Proof Sys2Proof.Machine

/-- Settles O26, command by command, the openings state by state. -/
theorem contactorPathCommands : Obligations.ContactorPathCommands := by
  refine ⟨?driveClose, ?chargeClose, ?driveOpen, ?chargeOpen, ?auxOn, ?auxOff,
    fun s r l => ⟨s.posOpen_dstate r l, rfl⟩, fun s r => ⟨s.cpOpen_cstate r, s.driveOpen_dstate, s.chargeOpen_cstate⟩⟩
  case driveClose =>
    intro s hr hn hc hl ht
    rw [exec_driveClose hr, State.driveCloseCmd_accepted hn hc hl ht]
  case chargeClose =>
    intro s hr hn hc hd hf
    rw [exec_chargeClose hr, State.chargeCloseCmd_accepted hn hc hd hf]
  case driveOpen =>
    intro s hr
    rw [exec_driveOpen hr]
    refine ⟨fun h1 => ?_, fun h2 h5 => ?_, fun h6 => .next (State.driveOpenCmd_ramps h6), fun h => ?_⟩
    · rw [State.driveOpenCmd_grant h1]
    · rw [State.driveOpenCmd_closing h2 h5]
    · rw [State.driveOpenCmd_idle h]
  case chargeOpen =>
    intro s hr
    rw [exec_chargeOpen hr]
    refine ⟨fun h => ?_, fun h3 h5 => ?_, fun h6 => ?_, fun h => ?_⟩
    · rw [State.chargeOpenCmd_waiting h]
    · rw [State.chargeOpenCmd_closing h3 h5]
    · rw [State.chargeOpenCmd_ramps h6]
      exact .next ⟨s.enterC_cstate (by decide), s.enterC_dstate 7, rfl, s.enterC_kept 7, rfl⟩
    · rw [State.chargeOpenCmd_idle h]
  case auxOn => exact fun s hr hn hh => exec_auxOn_accepted hr hn hh
  case auxOff =>
    intro s hr
    rw [exec_auxOff hr]
    exact ⟨fun hon => by rw [State.auxOpen, if_pos hon], fun hoff => by rw [State.auxOpen, if_neg (by simp [hoff])]⟩

end

section
/-!
The contactor paths under their samples (R243, R245, R246, R251): when a sample is used, what each path makes of it, and the
second missing sample in a row.
-/
namespace Sys2Proof.Machine

variable {s : State}

theorem exec_ctsSample_off (v1 v2 v3 v4 i : Int) (o : Nat) (h : s.isLead = false ∨ s.alive = false) :
    exec (.ctsSample v1 v2 v3 v4 i o) s = .next s := if_pos (by simpa using h)

theorem exec_ctsSampleMissing_off (h : s.isLead = false ∨ s.alive = false) : exec .ctsSampleMissing s = .next s :=
  if_pos (by simpa using h)

/-- The sequencer hears samples: on a lead out of reset. -/
theorem not_ctsSample_off (hl : s.isLead = true) (ha : s.alive = true) : ¬ (!s.isLead || !s.alive) = true := by
  simp [hl, ha]

/-- On a lead that is no anchor a sample of the running frame that comes in time is used as it comes. -/
theorem exec_ctsSample_member (v1 v2 v3 v4 i : Int) {o : Nat} (hl : s.isLead = true) (ha : s.alive = true)
    (hh : s.power.holdAt = none) (hm : s.isAnchor = false) (ho : s.fstart + o ≤ s.now) (ht : s.now ≤ s.fstart + o + 50000) :
    exec (.ctsSample v1 v2 v3 v4 i o) s = .next (State.driveSample ({ s with cts := { s.cts with
      v2p := s.cts.v2, v2ok := s.cts.miss == 0, v1, v2, v3, v4, i1 := i, miss := 0 } })
      (s.fstart + o)).chargeSample.settle := by
  refine (if_neg (not_ctsSample_off hl ha)).trans ?_
  simp [hm, ho, Nat.not_lt.2 ht, hh]

/-- On an anchor lead a sample reaches the sequencer 2,000 ticks after its instant. -/
theorem exec_ctsSample_anchor (v1 v2 v3 v4 i : Int) {o : Nat} (hl : s.isLead = true) (ha : s.alive = true)
    (hh : s.power.holdAt = none) (hm : s.isAnchor = true) (ht : s.now ≤ s.fstart + o + 50000) :
    exec (.ctsSample v1 v2 v3 v4 i o) s = .next (State.driveSample ({ s.advanceTo (s.fstart + o + 2000) with
      cts := { s.cts with v2p := s.cts.v2, v2ok := s.cts.miss == 0, v1, v2, v3, v4, i1 := i, miss := 0 } })
      (s.fstart + o)).chargeSample.settle := by
  have hnow : ¬ s.fstart + o + 50000 < (s.advanceTo (s.fstart + o + 2000)).now := by
    show ¬ s.fstart + o + 50000 < max s.now (s.fstart + o + 2000)
    omega
  refine (if_neg (not_ctsSample_off hl ha)).trans ?_
  simp [hm, hnow, hh]

/-- A sample that comes more than 50,000 ticks after its instant is not used. -/
theorem exec_ctsSample_late (v1 v2 v3 v4 i : Int) {o : Nat} (hl : s.isLead = true) (ha : s.alive = true)
    (hm : s.isAnchor = false) (ht : s.fstart + o + 50000 < s.now) : exec (.ctsSample v1 v2 v3 v4 i o) s = .next s := by
  have ho : s.fstart + o ≤ s.now := by omega
  refine (if_neg (not_ctsSample_off hl ha)).trans ?_
  simp [hm, ho, ht]

/-! ### The use of a sample -/

theorem State.driveSample_probe {t : Nat} (hd : s.dstate = 2) (ht : s.cts.since ≤ t) :
    s.driveSample t = { s with cts := { s.cts with probeMax := max s.cts.probeMax s.cts.i1.natAbs } } := if_pos ⟨hd, ht⟩

/-- The second low current in a row ends the ramp: the path opens. -/
theorem State.driveSample_opens {t : Nat} (hd : s.dstate = 7) (hi : (s.cts.i1.natAbs : Int) ≤ s.openMA false)
    (hn : 1 ≤ s.cts.low) :
    s.driveSample t = ({ s with cts := { s.cts with low := s.cts.low + 1 } } : State).posOpen s.cts.reason 0 := by
  refine (if_neg (by omega)).trans ((if_neg (by omega)).trans ((if_pos hd).trans ?_))
  simp only [hi, if_true]
  exact if_pos (by omega)

theorem State.driveSample_idle {t : Nat} (h : s.dstate = 0 ∨ s.dstate = 6) : s.driveSample t = s :=
  (if_neg (by omega)).trans ((if_neg (by omega)).trans (if_neg (by omega)))

/-- The tenth matching sample in a row closes CP (R251). -/
theorem State.chargeSample_closes (hd : s.dstate = 6) (hc : s.cstate = 4) (hn : 9 ≤ s.cts.matchN)
    (hv : ((s.cts.v4 - s.cts.v2).natAbs : Int) ≤ 100 * clampN 1 1000 (s.ctsCfg true Reg.CTS_CHGCFG_CMATCH)) :
    s.chargeSample = (({ s with cts := { s.cts with matchN := s.cts.matchN + 1 } }.enterC 5).setRole 3 true) := by
  refine (if_neg (by simp [State.chargeLive, hd])).trans ((if_neg (by omega)).trans
    ((if_pos ⟨by simp [State.chargeCloses, hd], hc⟩).trans ?_))
  simp only [hv, if_true]
  exact if_pos (by omega)

/-! ### A missing sample -/

/-- The state in which a missing sample shows: 50,000 ticks after its instant. -/
def State.sampleMissed (s : State) : State := s.advanceTo (s.fstart + (s.now - s.fstart + 49999) / 100000 * 100000 + 50000)

/-- One more sample in a row is missing. -/
def State.missCounted (s : State) : State := { s.sampleMissed with cts := { s.cts with miss := s.cts.miss + 1 } }

theorem exec_ctsSampleMissing_hold (hl : s.isLead = true) (ha : s.alive = true) (hh : s.power.holdAt.isSome = true) :
    exec .ctsSampleMissing s = .next { s.sampleMissed with cts := { s.cts with earlyN := 0 } } :=
  (if_neg (not_ctsSample_off hl ha)).trans (if_pos hh)

theorem exec_ctsSampleMissing_first (hl : s.isLead = true) (ha : s.alive = true) (hh : s.power.holdAt = none)
    (hm : s.cts.miss = 0) : exec .ctsSampleMissing s = .next { s.sampleMissed with cts := { s.cts with miss := 1 } } := by
  have hx : exec .ctsSampleMissing s = .next s.missCounted :=
    (if_neg (not_ctsSample_off hl ha)).trans ((if_neg (by simp [hh])).trans (if_neg (by simp [hm])))
  rw [hx, State.missCounted, hm]

theorem exec_ctsSampleMissing_again (hl : s.isLead = true) (ha : s.alive = true) (hh : s.power.holdAt = none)
    (hm : 1 ≤ s.cts.miss) : exec .ctsSampleMissing s = .next s.missCounted.dataLost.settle :=
  (if_neg (not_ctsSample_off hl ha)).trans ((if_neg (by simp [hh])).trans (if_pos (by simpa using hm)))

/-- A closing sequence without data fails as DATA; the charge path then has nothing left to end. -/
theorem State.dataLost_closing (h2 : 2 ≤ s.dstate) (h5 : s.dstate ≤ 5) : s.dataLost = s.pcFail 4 := by
  simp [State.dataLost, h2, h5, State.chargeLive, State.pcFail_dstate]

theorem State.dataLost_idle (h : s.dstate ≤ 1 ∨ s.dstate = 8) : s.dataLost = s := by
  have hseq : ¬ (2 ≤ s.dstate ∧ s.dstate ≤ 5) := by omega
  have h6 : s.dstate ≠ 6 := by omega
  have h7 : s.dstate ≠ 7 := by omega
  simp [State.dataLost, hseq, State.chargeLive, h6, h7]

end Sys2Proof.Machine

open Sys2Proof Sys2Proof.Machine

/-- Settles O29: where samples are not heard, the use of one on each path, and the missing ones. -/
theorem contactorSamples : Obligations.ContactorSamples := by
  refine ⟨?off, ?member, ?anchor, ?ramp, ?probe, ?idle, ?matching, ?missing, ?hold, ?late⟩
  case off => exact fun v1 v2 v3 v4 i o s h => ⟨exec_ctsSample_off v1 v2 v3 v4 i o h, exec_ctsSampleMissing_off h⟩
  case member => exact fun v1 v2 v3 v4 i o s hl ha hh hm ho ht => exec_ctsSample_member v1 v2 v3 v4 i hl ha hh hm ho ht
  case anchor => exact fun v1 v2 v3 v4 i o s hl ha hh hm ht => exec_ctsSample_anchor v1 v2 v3 v4 i hl ha hh hm ht
  case ramp =>
    intro t s hd hi hn
    rw [State.driveSample_opens hd hi hn]
    exact State.posOpen_dstate _ _ _
  case probe => exact fun t s hd ht => State.driveSample_probe hd ht
  case idle => exact fun t s h => State.driveSample_idle h
  case matching => exact fun s hd hc hn hv => State.chargeSample_closes hd hc hn hv
  case missing =>
    intro s hl ha hh
    refine ⟨fun hm => exec_ctsSampleMissing_first hl ha hh hm, fun hm h2 h5 => ?_, fun hm h => ?_⟩
    · refine ⟨_, exec_ctsSampleMissing_again hl ha hh hm, ?_⟩
      rw [State.dataLost_closing (s := s.missCounted) h2 h5]
      exact State.pcFail_dstate _ _
    · rw [exec_ctsSampleMissing_again hl ha hh hm, State.dataLost_idle (s := s.missCounted) h]
      rfl
  case hold => exact fun n s hl ha hh => exec_ctsSampleMissing_hold hl ha (by rw [hh]; rfl)
  case late => exact fun v1 v2 v3 v4 i o s hl ha hm ht => exec_ctsSample_late v1 v2 v3 v4 i hl ha hm ht

end

section
/-!
The contactor paths at their timers (R245 to R248, R251, R282): which path a shared timer serves, and what its end decides.
-/
namespace Sys2Proof.Machine

variable {s : State}

/-! ### A weld check's result (R248) -/

/-- A base-4 digit that is replaced reads back, in a field of ten bits. -/
theorem quaternary_replace {r v : Nat} (n : Nat) (hr : r < 5) (hv : v < 4) :
    (n - n / 4 ^ r % 4 * 4 ^ r + v * 4 ^ r) % 2 ^ 10 / 4 ^ r % 4 = v := by
  interval_cases r <;> omega

theorem State.weldResult_role (s : State) {r v : Nat} (hr : r < 5) (hv : v < 4) :
    (s.weldResult r v).get Reg.CTS_WELDSTAT_ROLE / 4 ^ r % 4 = v := by
  rw [State.weldResult, State.get_raiseIf _ _ _ _ (by decide), State.get_put_self _ _ _ (by decide)]
  exact quaternary_replace _ hr hv

theorem State.weldResult_raised (r : Nat) (ha : s.alive = true) : (s.weldResult r 2).raised Ev.CTS_WELD = true :=
  State.raised_raise _ _ ha (by decide)

/-! ### The sequencer at rest -/

theorem not_ctsRuns_false (h : s.ctsRuns = true) : ¬ (!s.ctsRuns) = true := by simp [h]

/-- No timer of the paths ends while the sequencer does not act. -/
theorem exec_ctsTimer_idle {c : Instr} (h : s.ctsRuns = false) (hc : c ∈ [Instr.ctsGrantTimeout, .probeTimerEnd,
    .closeTimerEnd, .gapTimerEnd, .rampTimerEnd, .matchTimerEnd, .cooldownEnd]) : exec c s = .next s := by
  simp only [List.mem_cons, List.not_mem_nil, or_false] at hc
  obtain rfl | rfl | rfl | rfl | rfl | rfl | rfl := hc
  · exact if_pos (by simp [h])
  · exact if_pos (by simp [h])
  · exact if_pos (by simp [h])
  · exact if_pos (by simp [h])
  · exact if_pos (by simp [h])
  · exact if_neg (by simp [h])
  · exact if_neg (by simp [h])

/-! ### The 6 s wait for a grant (R282) -/

theorem exec_ctsGrantTimeout_drive (hr : s.ctsRuns = true) (hd : s.dstate = 1) : exec .ctsGrantTimeout s =
    .next ((((s.advanceTo (s.cts.since + 600000000)).withdraw 3).driveOpen).raise Ev.CTS_GRANT_TIMEOUT).settle :=
  (if_neg (not_ctsRuns_false hr)).trans (if_pos hd)

theorem exec_ctsGrantTimeout_charge (hr : s.ctsRuns = true) (hd : s.dstate ≠ 1) (hc : s.cstate = 1) :
    exec .ctsGrantTimeout s =
    .next ((((s.advanceTo (s.cts.cSince + 600000000)).withdraw 3).chargeOpen).raise Ev.CTS_GRANT_TIMEOUT).settle :=
  (if_neg (not_ctsRuns_false hr)).trans ((if_neg hd).trans (if_pos hc))

/-! ### The end of the probe -/

/-- What the probe decides (R245, R248): MN welded, PC without contact, or on to NEGCLOSE. -/
def State.probeEnd (s : State) : State :=
  if s.weldMA ≤ s.cts.probeMax then (s.weldResult 1 2).posOpen 5 0
  else if s.cts.v3 < s.cts.v1 - s.weldMV false then s.pcFail 3
  else ((s.setRole 2 false).setRole 1 true).enterD 3

theorem exec_probeTimerEnd (hr : s.ctsRuns = true) (hd : s.dstate = 2) :
    exec .probeTimerEnd s = .next (s.advanceTo (s.cts.since + s.tProbe)).probeEnd.settle := by
  refine (if_neg (by simp [hr, hd])).trans ?_
  unfold State.probeEnd
  split
  case isTrue => rfl
  case isFalse => split <;> rfl

theorem State.probeEnd_welded (h : s.weldMA ≤ s.cts.probeMax) : s.probeEnd = (s.weldResult 1 2).posOpen 5 0 := if_pos h

theorem State.probeEnd_slow (h : s.cts.probeMax < s.weldMA) (hv : s.cts.v3 < s.cts.v1 - s.weldMV false) :
    s.probeEnd = s.pcFail 3 := (if_neg (Int.not_le.2 h)).trans (if_pos hv)

theorem State.probeEnd_passed (h : s.cts.probeMax < s.weldMA) (hv : s.cts.v1 - s.weldMV false ≤ s.cts.v3) :
    s.probeEnd = ((s.setRole 2 false).setRole 1 true).enterD 3 :=
  (if_neg (Int.not_le.2 h)).trans (if_neg (Int.not_lt.2 hv))

/-! ### The end of TCLOSE -/

theorem exec_closeTimerEnd_neg (hr : s.ctsRuns = true) (hd : s.dstate = 3) :
    exec .closeTimerEnd s = .next (s.advanceTo (s.cts.since + s.tClose false)).negCloseEnd.settle :=
  (if_neg (not_ctsRuns_false hr)).trans (if_pos hd)

theorem exec_closeTimerEnd_main (hr : s.ctsRuns = true) (hd : s.dstate = 5) :
    exec .closeTimerEnd s = .next (s.advanceTo (s.cts.since + s.tClose false)).mainCloseEnd.settle :=
  (if_neg (not_ctsRuns_false hr)).trans ((if_neg (by omega)).trans (if_pos hd))

theorem exec_closeTimerEnd_cn (hr : s.ctsRuns = true) (hd : s.dstate = 6) (hc : s.cstate = 3) :
    exec .closeTimerEnd s = .next ((s.advanceTo (s.cts.cSince + s.tClose true)).enterC 4) :=
  (if_neg (not_ctsRuns_false hr)).trans ((if_neg (by omega)).trans ((if_neg (by omega)).trans
    (if_pos ⟨by simp [State.chargeCloses, hd], hc⟩)))

theorem exec_closeTimerEnd_cp (hr : s.ctsRuns = true) (hd : s.dstate = 6) (hc : s.cstate = 5) :
    exec .closeTimerEnd s = .next (s.advanceTo (s.cts.cSince + s.tClose true)).cpCloseEnd.settle :=
  (if_neg (not_ctsRuns_false hr)).trans ((if_neg (by omega)).trans ((if_neg (by omega)).trans
    ((if_neg (by omega)).trans (if_pos ⟨by simp [State.chargeCloses, hd], hc⟩))))

theorem State.negCloseEnd_pc (h : s.cts.v1 - s.weldMV false ≤ s.cts.v3) :
    s.negCloseEnd = (s.weldResult 2 2).posOpen 5 0 := if_pos h

theorem State.negCloseEnd_mp (h : s.cts.v3 < s.cts.v1 - s.weldMV false) (h2 : s.cts.v1 - s.weldMV false ≤ s.cts.v2) :
    s.negCloseEnd = (s.weldResult 0 2).posOpen 5 0 := (if_neg (Int.not_le.2 h)).trans (if_pos h2)

/-- The grant is given up with the three roles marked open. -/
def State.negOpenConfirmed (s : State) : State := (((s.weldResult 0 1).weldResult 1 1).weldResult 2 1).dropWeld

/-- Every check passed: PRECHARGE begins with PC on; the free value of the fraction is not used at a VOLT1 other than 0. -/
theorem State.negCloseEnd_passed (h : s.cts.v3 < s.cts.v1 - s.weldMV false) (h2 : s.cts.v2 < s.cts.v1 - s.weldMV false)
    (h1 : s.negOpenConfirmed.cts.v1 ≠ 0) :
    s.negCloseEnd = ({ s.negOpenConfirmed with cts := { s.negOpenConfirmed.cts with
      a0 := s.negOpenConfirmed.linkFraction } }.enterD 4).pcOn :=
  (if_neg (Int.not_le.2 h)).trans ((if_neg (Int.not_le.2 h2)).trans
    (congrArg (fun u : State => (u.enterD 4).pcOn) (if_neg h1)))

theorem State.mainCloseEnd_closed (h : s.cts.v1 - s.cts.v2 < s.weldMV false) :
    s.mainCloseEnd = ((s.setRole 2 false).enterD 6).raise Ev.CTS_CLOSED := if_pos h

theorem State.mainCloseEnd_slow (h : s.weldMV false ≤ s.cts.v1 - s.cts.v2) : s.mainCloseEnd = s.pcFail 3 :=
  if_neg (Int.not_lt.2 h)

theorem State.cpCloseEnd_fault (h : s.weldMV true ≤ ((s.cts.v4 - s.cts.v2).natAbs : Int)) :
    s.cpCloseEnd = (s.cpOpen 5).raise Ev.CTS_MATCH_FAULT := if_neg (Int.not_lt.2 h)

/-- The charge path is CLOSED: its state and the event are all that shows. -/
theorem State.cpCloseEnd_closed (h : ((s.cts.v4 - s.cts.v2).natAbs : Int) < s.weldMV true) (ha : s.alive = true) :
    s.cpCloseEnd.cstate = 6 ∧ s.cpCloseEnd.dstate = s.dstate ∧ s.cpCloseEnd.raised Ev.CTS_CHG_CLOSED = true ∧
    QuietWordsKept [Reg.CTS_STAT] s s.cpCloseEnd := by
  rw [State.cpCloseEnd, if_pos h]
  exact ⟨(State.raise_cstate _ _).trans (s.enterC_cstate (by decide)),
    (State.raise_dstate _ _).trans (s.enterC_dstate 6), State.raised_raise _ _ ha (by decide),
    (s.enterC_kept 6).quiet.raise _⟩

/-! ### Of two timers the one that ends first -/

theorem driveFirst_true {charge : Bool} {d c : Nat} (h : charge = true → d < c) : driveFirst true charge d c = true := by
  cases charge
  case false => rfl
  case true => simpa [driveFirst] using h

theorem driveFirst_false {drive : Bool} {d c : Nat} (h : drive = true → c ≤ d) : driveFirst drive true d c = false := by
  simpa [driveFirst] using h

theorem exec_gapTimerEnd_drive (hr : s.ctsRuns = true) (hd : s.dstate = 8)
    (h : s.cstate = 8 → s.cts.since + s.tGap false < s.cts.cSince + s.tGap true) :
    exec .gapTimerEnd s = .next s.driveGapEnd :=
  (if_neg (not_ctsRuns_false hr)).trans (if_pos (by rw [hd]; exact driveFirst_true (by simpa using h)))

theorem exec_gapTimerEnd_charge (hr : s.ctsRuns = true) (hc : s.cstate = 8)
    (h : s.dstate = 8 → s.cts.cSince + s.tGap true ≤ s.cts.since + s.tGap false) :
    exec .gapTimerEnd s = .next s.chargeGapEnd := by
  have hfirst : driveFirst (s.dstate == 8) true (s.cts.since + s.tGap false) (s.cts.cSince + s.tGap true) = false :=
    driveFirst_false (by simpa using h)
  refine (if_neg (not_ctsRuns_false hr)).trans ((if_neg ?_).trans (if_pos (by simp [hc])))
  simp [hc, hfirst]

theorem exec_rampTimerEnd_drive (hr : s.ctsRuns = true) (hd : s.dstate = 7)
    (h : s.cstate = 7 → s.cts.since + s.cts.ramp < s.cts.cSince + s.chargeRamp) :
    exec .rampTimerEnd s = .next ((s.advanceTo (s.cts.since + s.cts.ramp)).posOpen s.cts.reason 0).settle :=
  (if_neg (not_ctsRuns_false hr)).trans
    (if_pos (by rw [hd]; exact driveFirst_true fun hc => h (by simpa using (Bool.and_eq_true_iff.1 hc).2)))

theorem exec_rampTimerEnd_charge (hr : s.ctsRuns = true) (hc : s.cstate = 7)
    (h : s.dstate = 6 ∨ (s.dstate = 7 ∧ s.cts.cSince + s.chargeRamp ≤ s.cts.since + s.cts.ramp)) :
    exec .rampTimerEnd s = .next ((s.advanceTo (s.cts.cSince + s.chargeRamp)).cpOpen 1).settle := by
  have hlive : (s.chargeLive && s.cstate == 7) = true := by
    rcases h with h | ⟨h, -⟩ <;> simp [State.chargeLive, h, hc]
  have hfirst : driveFirst (s.dstate == 7) true (s.cts.since + s.cts.ramp) (s.cts.cSince + s.chargeRamp) = false :=
    driveFirst_false fun h7 => h.elim (fun h6 => by simp [h6] at h7) fun ⟨_, hle⟩ => hle
  refine (if_neg (not_ctsRuns_false hr)).trans ((if_neg ?_).trans (if_pos hlive))
  simp [hlive, hfirst]

/-! ### The end of the drive path's gap, of TMATCH and of the cool-down -/

/-- MP is confirmed open: the voltage over it shows it (R248). -/
theorem State.driveGapEnd_open
    (h : (s.advanceTo (s.cts.since + s.tGap false)).weldMV false ≤
      (s.advanceTo (s.cts.since + s.tGap false)).cts.v1 - (s.advanceTo (s.cts.since + s.tGap false)).cts.v2) :
    s.driveGapEnd = ((State.driveOpen
      (let w := ((s.advanceTo (s.cts.since + s.tGap false)).weldResult 0 1).setRoles [1, 4] false
        if w.cstate = 0 then w else w.enterC 0)).raise Ev.CTS_OPENED).settle := by
  rw [State.driveGapEnd, if_pos h]

theorem State.driveGapEnd_undecided
    (h : (s.advanceTo (s.cts.since + s.tGap false)).cts.v1 - (s.advanceTo (s.cts.since + s.tGap false)).cts.v2 <
      (s.advanceTo (s.cts.since + s.tGap false)).weldMV false) :
    s.driveGapEnd = ((State.driveOpen
      (let w := ((s.advanceTo (s.cts.since + s.tGap false)).raise Ev.CTS_WELD_UNDECIDED).setRoles [1, 4] false
        if w.cstate = 0 then w else w.enterC 0)).raise Ev.CTS_OPENED).settle := by
  rw [State.driveGapEnd, if_neg (Int.not_le.2 h)]

theorem exec_matchTimerEnd (hr : s.ctsRuns = true) (hd : s.dstate = 6 ∨ s.dstate = 7) (hc : s.cstate = 4) :
    exec .matchTimerEnd s =
    .next (((s.advanceTo (s.cts.cSince + msTicks (clampN 100 60000 (s.ctsCfg true Reg.CTS_CHGCFG_TMATCH)))).cpOpen
      5).raise Ev.CTS_MATCH_FAULT).settle :=
  if_pos ⟨hr, by simpa [State.chargeLive] using hd, hc⟩

theorem exec_cooldownEnd (hr : s.ctsRuns = true) : exec .cooldownEnd s = .next (s.advanceTo s.cts.coolUntil) := if_pos hr

end Sys2Proof.Machine

open Sys2Proof Sys2Proof.Machine

/-- Settles O27, timer by timer, with what a failure and a weld check show. -/
theorem contactorDriveTimers : Obligations.ContactorDriveTimers := by
  refine ⟨fun s hr hd => exec_ctsGrantTimeout_drive hr hd, ?probe, ?negClose, ?mainClose,
    fun s hr hd h => exec_rampTimerEnd_drive hr hd h, fun s hr => exec_cooldownEnd hr,
    fun c s hr hc => exec_ctsTimer_idle hr hc, fun n s _ => s.pcFail_dstate n,
    fun r v s hr hv => ⟨s.weldResult_role hr hv, fun h2 ha => h2 ▸ State.weldResult_raised r ha⟩⟩
  case probe =>
    intro s hr hd u
    rw [exec_probeTimerEnd hr hd]
    exact ⟨fun h => by rw [State.probeEnd_welded h], fun h hv => by rw [State.probeEnd_slow h hv],
      fun h hv => by rw [State.probeEnd_passed h hv]⟩
  case negClose =>
    intro s hr hd u
    rw [exec_closeTimerEnd_neg hr hd]
    refine ⟨fun h => by rw [State.negCloseEnd_pc h], fun h h2 => by rw [State.negCloseEnd_mp h h2], ?_⟩
    intro h h2 w h1
    rw [State.negCloseEnd_passed h h2 h1]
    rfl
  case mainClose =>
    intro s hr hd u
    rw [exec_closeTimerEnd_main hr hd]
    exact ⟨fun h => by rw [State.mainCloseEnd_closed h], fun h => by rw [State.mainCloseEnd_slow h]⟩

/-- Settles O28, timer by timer. That the charge path acts where both timers end in one tick is the model's convention. -/
theorem contactorChargeAndOpenTimers : Obligations.ContactorChargeAndOpenTimers := by
  refine ⟨?driveGap, fun s hr hc h => exec_gapTimerEnd_charge hr hc h,
    fun s hr hd hc => exec_ctsGrantTimeout_charge hr hd hc, ?cn, ?cp, fun s hr hd hc => exec_matchTimerEnd hr hd hc,
    fun s hr hc h => exec_rampTimerEnd_charge hr hc h⟩
  case driveGap =>
    intro s hr hd h u
    rw [exec_gapTimerEnd_drive hr hd h]
    exact ⟨fun hv => by rw [State.driveGapEnd_open hv], fun hv => by rw [State.driveGapEnd_undecided hv]⟩
  case cn =>
    intro s hr hd hc
    rw [exec_closeTimerEnd_cn hr hd hc]
    exact .next ⟨State.enterC_cstate _ (by decide), State.enterC_dstate _ 4, rfl, rfl, rfl, State.enterC_kept _ 4, rfl⟩
  case cp =>
    intro s hr hd hc u
    rw [exec_closeTimerEnd_cp hr hd hc]
    refine ⟨fun hv => ⟨_, rfl, ?_⟩, fun hv => by rw [State.cpCloseEnd_fault hv]⟩
    exact State.cpCloseEnd_closed hv (State.alive_of_ctsRuns hr)

end

section
/-!
The watchdogs (R409 to R411): an expiry leaves the rest of the power state, both pairs in reset and no task; a service and an
expiry in their cases, and the end of the output hold.
-/
namespace Sys2Proof.Machine

variable {s : State}

/-! ### What an expiry clears -/

/-- Skipped entries leave both pairs and the contactor sequencer as they are. -/
theorem State.foldl_skip_kept (n : Nat) (s : State) :
    let t := (List.range n).foldl (fun s _ => s.skipEntry) s
    t.cpa = s.cpa ∧ t.cpb = s.cpb ∧ t.cts = s.cts := by
  refine (List.range n).foldlRecOn (motive := fun t : State => t.cpa = s.cpa ∧ t.cpb = s.cpb ∧ t.cts = s.cts) _
    ⟨rfl, rfl, rfl⟩ fun t ht _ _ => ?_
  simpa [State.skipEntry] using ht

/-- The tasks of one pair are dropped: the other pair and the contactor sequencer are as they were. -/
theorem State.dropTasks_kept (s : State) (p : Pair) :
    (s.dropTasks p).core p.other = s.core p.other ∧ (s.dropTasks p).cts = s.cts := by
  unfold State.dropTasks
  extract_lets n u v w x
  obtain ⟨ha, hb, hcts⟩ := State.foldl_skip_kept n x
  cases p
  case a => exact ⟨hb, hcts⟩
  case b => exact ⟨ha, hcts⟩

@[simp] theorem State.abortTest_cts (s : State) : s.abortTest.cts = s.cts := by
  unfold State.abortTest
  split
  · rfl
  · exact State.raise_cts _ _

@[simp] theorem State.stopModulation_power (s : State) : s.stopModulation.power = s.power := by
  unfold State.stopModulation
  extract_lets m
  split <;> rfl

@[simp] theorem State.stopModulation_cts (s : State) : s.stopModulation.cts = s.cts := by
  unfold State.stopModulation
  extract_lets m
  split <;> rfl

@[simp] theorem State.clearPattern_power (s : State) : s.clearPattern.power = s.power :=
  State.stopModulation_power _

@[simp] theorem State.clearPattern_cts (s : State) : s.clearPattern.cts = s.cts := State.stopModulation_cts _

/-! ### An expiry (R411) -/

/-- The state at an expiry: the pair and the reason are recorded, and the output hold starts. -/
def State.holdBegins (s : State) (p : Pair) (why : Nat) : State :=
  { s with power := { s.power with wdPair := p.idx + 1, wdWhy := why, holdAt := some s.now },
           cts := { s.cts with earlyN := 0 } }

/-- A pair enters reset for the output hold, with no task left. -/
def State.pairStops (s : State) (p : Pair) : State :=
  ((s.dropTasks p).setCore p { s.core p with inReset := true, ckHalt := false, copying := false }).putB
    (Reg.CP_STAT_DBGHALT.at p.idx) false

theorem State.wdExpire_begins (p : Pair) (why : Nat) (h : s.power.holdAt = none) :
    s.wdExpire p why =
      (((s.holdBegins p why).raise Ev.WDG_EXPIRED).abortTest.clearPattern.pairStops .a).pairStops .b := by
  rw [State.wdExpire, h]
  rfl

/-- The other pair's expiry in the tick in which the hold began is recorded as both. -/
theorem State.wdExpire_both (p : Pair) (why : Nat) (h : s.power.holdAt = some s.now) (hp : s.power.wdPair ≠ p.idx + 1) :
    s.wdExpire p why = { s with power := { s.power with wdPair := 3 } } := by
  rw [State.wdExpire, h]
  exact if_pos ⟨rfl, hp⟩

theorem State.pairStops_facts (s : State) (p : Pair) :
    ((s.pairStops p).core p).inReset = true ∧ (s.pairStops p).core p.other = s.core p.other ∧
    (s.pairStops p).tt.tasks = s.tt.tasks.filter (·.pair != p) ∧ (s.pairStops p).power = s.power ∧
    (s.pairStops p).cts = s.cts := by
  obtain ⟨hother, hcts⟩ := s.dropTasks_kept p
  have htasks := s.dropTasks_tasks p
  have hpower := s.dropTasks_power p
  cases p
  all_goals exact ⟨rfl, hother, htasks, hpower, hcts⟩

theorem State.wdExpire_facts (p : Pair) (why : Nat) (h : s.power.holdAt = none) :
    (s.wdExpire p why).power = { s.power with wdPair := p.idx + 1, wdWhy := why, holdAt := some s.now } ∧
    (s.wdExpire p why).cpa.inReset = true ∧ (s.wdExpire p why).cpb.inReset = true ∧
    (s.wdExpire p why).tt.tasks = [] ∧ (s.wdExpire p why).cts.earlyN = 0 := by
  rw [State.wdExpire_begins p why h]
  generalize hu : ((s.holdBegins p why).raise Ev.WDG_EXPIRED).abortTest.clearPattern = u
  have hup : u.power = (s.holdBegins p why).power := by simp [← hu]
  have huc : u.cts = (s.holdBegins p why).cts := by simp [← hu]
  obtain ⟨haReset, -, haTasks, haPower, haCts⟩ := u.pairStops_facts .a
  obtain ⟨hbReset, hbOther, hbTasks, hbPower, hbCts⟩ := (u.pairStops .a).pairStops_facts .b
  refine ⟨hbPower.trans (haPower.trans hup), (congrArg Core.inReset hbOther).trans haReset, hbReset, ?_, ?_⟩
  · rw [hbTasks, haTasks, List.filter_filter, List.filter_eq_nil_iff]
    intro k _
    cases k.pair <;> decide
  · rw [hbCts, haCts, huc]
    rfl

/-! ### A service (R410) -/

theorem exec_watchdogService_idle (p : Pair) (k : Word) (h : s.power.phase ≠ .run ∨ s.power.holdAt.isSome = true) :
    exec (.watchdogService p.ini p k) s = .next s := (if_neg (not_not.2 rfl)).trans (if_pos h)

/-- Where the watchdog counts, the pair's own service goes by its key alone. -/
theorem exec_watchdogService_runs (p : Pair) (k : Word) (hr : s.power.phase = .run) (hh : s.power.holdAt = none) :
    exec (.watchdogService p.ini p k) s =
      if k.toNat % 65536 = 0x5A5A then .next (s.setWdKey p true)
      else if k.toNat % 65536 = 0xA5A5 ∧ s.wdKey p then
        if (s.setWdKey p false).get (wdCount p) < (s.setWdKey p false).wdMin then .next ((s.setWdKey p false).wdExpire p 2)
        else .next ((s.setWdKey p false).put (wdCount p) 0)
      else .next ((s.setWdKey p false).wdExpire p 3) :=
  (if_neg (not_not.2 rfl)).trans (if_neg (by simp [hr, hh]))

/-- The remembered key is apart from the registers, memory and the hold. -/
theorem State.setWdKey_facts (s : State) (p : Pair) (b : Bool) :
    (s.setWdKey p b).wdKey p = b ∧ (s.setWdKey p b).regs = s.regs ∧ (s.setWdKey p b).mem = s.mem ∧
    (s.setWdKey p b).power.holdAt = s.power.holdAt ∧ (s.setWdKey p b).wdMin = s.wdMin := by
  cases p <;> exact ⟨rfl, rfl, rfl, rfl, rfl⟩

/-- The counts of both pairs stand in `RST.WDSTAT`. -/
theorem wdCount_field (p : Pair) : (wdCount p).addr = Reg.RST_WDSTAT ∧ (wdCount p).lo + (wdCount p).wid ≤ 32 := by
  cases p <;> decide

/-! ### The end of the hold (R411) -/

theorem exec_watchdogHoldEnd_idle (h : s.power.holdAt = none) : exec .watchdogHoldEnd s = .next s := by
  show execWatchdogHoldEnd s = _
  rw [execWatchdogHoldEnd, h]

/-- The state in which the hold is over: at once where it ends early, else when its time has passed. -/
def State.holdOver (s : State) (n : Nat) : State :=
  if s.wdEarly then s else s.advanceTo (n + 1000000 * min 50 (s.get Reg.RST_WDCFG_HOLD))

/-- The outputs drop, Safety Net takes control, and the device resets. -/
def State.holdEnds (s : State) (n : Nat) : State :=
  State.deviceReset (((s.holdOver n).ctsHoldEnd.snBegin 0 false).allOff) 7

theorem State.holdOver_pmpFw (s : State) (n : Nat) : (s.holdOver n).pmpFw = s.pmpFw := by
  unfold State.holdOver
  split <;> rfl

/-- With field weakening active the pump goes through the zero vector (Table 13.4). -/
theorem exec_watchdogHoldEnd {n : Nat} (h : s.power.holdAt = some n) : exec .watchdogHoldEnd s =
    if s.pmpFw then
      .next (State.put { s.holdEnds n with pmp := { since := (s.holdEnds n).now, toOff := true } } Reg.PMP_STAT_STATE 6)
    else .next (s.holdEnds n) := by
  show execWatchdogHoldEnd s = _
  rw [← s.holdOver_pmpFw n, execWatchdogHoldEnd, h]
  rfl

end Sys2Proof.Machine

open Sys2Proof Sys2Proof.Machine

/-- Settles O40: the service by its key, an expiry and the other pair's in the same tick, and the end of the hold. That a
second expiry of the tick is recorded as both is log entry 52, and the pump in ZERO after the hold entry 53: both are the
model's choice. -/
theorem watchdogCommands : Obligations.WatchdogCommands := by
  refine ⟨fun ini p k s h => if_pos h, fun p k s h => exec_watchdogService_idle p k h, ?service,
    fun p s hr hc => if_pos ⟨hr, hc⟩, ?early, fun p why s h => State.wdExpire_facts p why h,
    fun p why s h hp => State.wdExpire_both p why h hp, fun s h => exec_watchdogHoldEnd_idle h, ?ends, ?weakened⟩
  case service =>
    intro p k s hr hh
    rw [exec_watchdogService_runs p k hr hh]
    obtain ⟨hcount, hwide⟩ := wdCount_field p
    refine ⟨fun h5 => ?firstKey, fun hA hkey hmin => ?served, fun hA hkey hmin => ?tooEarly, fun hA hkey => ?noFirst,
      fun h5 hA => ?wrong⟩
    case firstKey =>
      obtain ⟨hk, hregs, hmem, hhold, -⟩ := s.setWdKey_facts p true
      rw [if_pos h5]
      exact .next ⟨hk, State.get_congr hregs _, hregs, hmem, hhold.trans hh⟩
    case served =>
      obtain ⟨hk, hregs, hmem, hhold, hm⟩ := s.setWdKey_facts p false
      rw [if_neg (by omega), if_pos ⟨hA, hkey⟩, State.get_congr hregs, hm, if_neg (Nat.not_lt.2 hmin)]
      refine .next ⟨(State.get_put_self _ _ _ hwide).trans (Nat.zero_mod _), ?_, hhold.trans hh, ?_, hmem⟩
      · cases p <;> rfl
      · exact ((WordsKept.refl _ s).of_regs hregs).put (by simp [hcount]) 0
    case tooEarly =>
      obtain ⟨-, hregs, -, -, hm⟩ := s.setWdKey_facts p false
      rw [if_neg (by omega), if_pos ⟨hA, hkey⟩, State.get_congr hregs, hm, if_pos hmin]
    case noFirst => rw [if_neg (by omega), if_neg (by simp [hkey])]
    case wrong => rw [if_neg h5, if_neg (by simp [hA])]
  case early => exact fun p s h => if_neg fun ⟨hr, hc⟩ => h.elim (· hr) (Nat.not_lt.2 hc)
  case ends =>
    intro n s hh hw
    exact (exec_watchdogHoldEnd hh).trans (if_neg (by simp [hw]))
  case weakened =>
    intro n s hh hw
    rw [exec_watchdogHoldEnd hh, if_pos hw]
    exact .next ⟨State.get_put_self _ _ _ (by decide), rfl⟩

end

section
/-!
The load channels (R257 to R264): the command bits, the end of a ramp and of its budget, and the channel's own protection.
-/
namespace Sys2Proof.Machine

variable {s : State}

/-! ### The words of a channel -/

/-- Of the words of a channel, which are apart: its status, and the bit words that all channels share. -/
theorem chan_fields (i : Fin 16) :
    quiet (Reg.OUT_CHSTAT_STATE.at i).addr = true ∧ quiet (Reg.OUT_CHSTAT_LASTFLT.at i).addr = true ∧
    (Reg.OUT_CHSTAT_LASTFLT.at i).apart (Reg.OUT_CHSTAT_STATE.at i) = true ∧
    (Reg.OUT_CHSTAT_HOT.at i).apart (Reg.OUT_CHSTAT_STATE.at i) = true ∧
    ∀ a ∈ [Reg.OUT_CMD, Reg.OUT_COND, Reg.OUT_TESTRES], (Reg.OUT_CHSTAT_STATE.at i).addr ≠ a := by
  revert i
  decide

theorem Fld.apart_of_addr {f g : Fld} (h : f.addr ≠ g.addr) : f.apart g = true := by simp [Fld.apart, h]

theorem State.bit_raise (s : State) (e : Event) (f : Fld) (i : Nat) (h : quiet f.addr = true) :
    (s.raise e).bit f i = s.bit f i := by simp only [State.bit, State.get_raise _ _ _ h]

theorem State.bit_put_apart (s : State) (f g : Fld) (v i : Nat) (h : f.apart g = true) :
    (s.put f v).bit g i = s.bit g i := by simp only [State.bit, State.get_put_apart _ _ _ _ h]

/-- A channel takes a state and conducts or not. -/
def State.showChan (s : State) (i st : Nat) (on : Bool) : State :=
  (s.put (Reg.OUT_CHSTAT_STATE.at i) st).putBit Reg.OUT_COND_ON i on

theorem State.showChan_facts (s : State) (i : Fin 16) {st : Nat} (on : Bool) (h : st < 16) :
    (s.showChan i st on).chState i = st ∧ (s.showChan i st on).bit Reg.OUT_COND_ON i = on ∧
    WordsKept [(Reg.OUT_CHSTAT_STATE.at i).addr, Reg.OUT_COND] s (s.showChan i st on) := by
  obtain ⟨-, -, -, -, hne⟩ := chan_fields i
  refine ⟨?_, State.bit_putBit_self _ _ _ _ (by decide) i.isLt, ?_⟩
  · exact (State.get_putBit_apart _ _ _ _ _ (Fld.apart_of_addr (hne _ (by decide)).symm)).trans
      ((State.get_put_self _ _ _ (by decide : 28 + 4 ≤ 32)).trans (Nat.mod_eq_of_lt h))
  · exact ((WordsKept.refl _ s).put (by simp) _).putBit (by simp [Reg.OUT_COND_ON]) _ _

/-! ### Commands (R257) -/

theorem State.cmd_absent {i : Nat} (h : s.hasChan i = false) : s.cmdOn i = s ∧ s.cmdOff i = s :=
  ⟨if_pos (by simp [h]), if_pos (by simp [h])⟩

theorem State.cmd_role {i : Nat} (h : s.hasChan i = true) (hr : s.isRole i = true) :
    s.cmdOn i = s.raise Ev.OUT_CMD_REFUSED ∧ s.cmdOff i = s.raise Ev.OUT_CMD_REFUSED :=
  ⟨(if_neg (by simp [h])).trans (if_pos hr), (if_neg (by simp [h])).trans (if_pos hr)⟩

/-- A channel of the build without a role obeys the commands. -/
theorem State.cmd_turns {i : Nat} (h : s.hasChan i = true) (hr : s.isRole i = false) :
    s.cmdOn i = s.turnOn i ∧ s.cmdOff i = s.turnOff i :=
  ⟨(if_neg (by simp [h])).trans (if_neg (by simp [hr])), (if_neg (by simp [h])).trans (if_neg (by simp [hr]))⟩

theorem State.turnOn_refused {i : Nat} (h : s.hasChan i = true) (hr : s.turnOnRefused i = true) :
    s.turnOn i = s.raise Ev.OUT_CMD_REFUSED := (if_neg (by simp [h])).trans (if_pos hr)

theorem State.turnOn_obeyed {i : Nat} (h : s.hasChan i = true) (hr : s.turnOnRefused i = false) :
    s.turnOn i = (s.put (Reg.OUT_CHSTAT_LASTFLT.at i) 0).setCmd i true :=
  (if_neg (by simp [h])).trans (if_neg (by simp [hr]))

theorem State.turnOff_bright {i : Nat} (h : s.hasChan i = true) (hb : s.chState i = 4) :
    s.turnOff i = (s.testIncomplete i 0).setCmd i false := (if_neg (by simp [h])).trans (if_pos hb)

theorem State.turnOff_obeyed {i : Nat} (h : s.hasChan i = true) (hb : s.chState i ≠ 4) :
    s.turnOff i = s.setCmd i false := (if_neg (by simp [h])).trans (if_neg hb)

/-! ### A test pulse that ends (R266) -/

theorem State.testOver_facts (s : State) (i : Fin 16) {st : Nat} (h : st < 16) :
    (s.testOver i st).chState i = st ∧ (s.testOver i st).out = { s.out with test := none } ∧
    WordsKept [(Reg.OUT_CHSTAT_STATE.at i).addr, Reg.OUT_COND] s (s.testOver i st) := by
  obtain ⟨hstate, -, hkept⟩ := s.showChan_facts i (st != 0) h
  have hregs : (s.testOver i st).regs = (s.showChan i st (st != 0)).regs := rfl
  exact ⟨(State.get_congr hregs _).trans hstate, rfl, hkept.of_regs hregs⟩

theorem State.testFails_facts (s : State) (i : Fin 16) :
    (s.testFails i).chState i = s.chState i ∧ (s.testFails i).bit Reg.OUT_TESTRES_FAIL i = true ∧
    (s.testFails i).get (Reg.OUT_CHSTAT_LASTFLT.at i) = 6 ∧
    (s.testFails i).get Reg.OUT_CMD_ON = s.get Reg.OUT_CMD_ON ∧ (s.testFails i).out = s.out ∧
    (s.alive = true → (s.testFails i).raised Ev.OUT_TEST_FAIL = true) := by
  obtain ⟨hq, hqf, hflt, -, hne⟩ := chan_fields i
  have hbits : ∀ f : Fld, f.addr ∈ [Reg.OUT_CMD, Reg.OUT_COND, Reg.OUT_TESTRES] →
      (Reg.OUT_CHSTAT_LASTFLT.at i).apart f = true := fun f hf => Fld.apart_of_addr (hne _ hf)
  refine ⟨?_, ?_, ?_, ?_, State.raise_out _ _, fun ha => State.raised_raise _ _ ha (by decide)⟩
  · exact (State.get_raise _ _ _ hq).trans ((State.get_put_apart _ _ _ _ hflt).trans
      (State.get_putBit_apart _ _ _ _ _ (Fld.apart_of_addr (hne _ (by decide)).symm)))
  · exact (State.bit_raise _ _ _ _ (by decide)).trans ((State.bit_put_apart _ _ _ _ _ (hbits _ (by decide))).trans
      (State.bit_putBit_self _ _ _ _ (by decide) i.isLt))
  · exact (State.get_raise _ _ _ hqf).trans (State.get_put_self _ _ _ (by decide : 20 + 4 ≤ 32))
  · exact (State.get_raise _ _ _ (by decide)).trans ((State.get_put_apart _ _ _ _ (hbits _ (by decide))).trans
      (State.get_putBit_apart _ _ _ _ _ (by decide)))

/-! ### The ramp and the channel's protection (R258, R261, R263) -/

theorem exec_rampComplete {i : Fin 16} (h : s.chState i = 1) (hf : s.flag (Reg.OUT_CHSTAT_FROZEN.at i) = false) :
    exec (.rampComplete i) s = .next (s.put (Reg.OUT_CHSTAT_STATE.at i) 2) := if_pos ⟨h, by simp [hf]⟩

theorem exec_rampComplete_stays {i : Fin 16} (h : s.chState i ≠ 1 ∨ s.flag (Reg.OUT_CHSTAT_FROZEN.at i) = true) :
    exec (.rampComplete i) s = .next s := if_neg fun ⟨h1, hf⟩ => h.elim (· h1) hf

/-- A bright pulse that reaches the limit ends and fails (R266). -/
theorem exec_channelShort_bright {i : Fin 16} (h : s.chState i = 4) :
    exec (.channelShort i) s = .next ((s.testOver i 0).testFails i) := if_pos h

theorem exec_channelShort_conducts {i : Fin 16} (h : s.chState i = 1 ∨ s.chState i = 2 ∨ s.chState i = 5) :
    exec (.channelShort i) s = .next ((s.protectOff i 1).raise Ev.OUT_SHORT) := (if_neg (by omega)).trans (if_pos h)

theorem exec_channelShort_off {i : Fin 16} (h : s.chState i = 0 ∨ s.chState i = 3) :
    exec (.channelShort i) s = .next s := (if_neg (by omega)).trans (if_neg (by omega))

/-- The hot mark leaves the channel's state, so a channel in no bright pulse turns off without an incomplete test. -/
theorem exec_junctionOvertemp {i : Fin 16} (h : s.hasChan i = true) (hs : s.chState i ≠ 4) :
    exec (.junctionOvertemp i) s =
      .next (((s.putB (Reg.OUT_CHSTAT_HOT.at i) true).protectOff i 2).raise Ev.OUT_JUNCTION) := by
  obtain ⟨-, -, -, hhot, -⟩ := chan_fields i
  have hstate : (s.putB (Reg.OUT_CHSTAT_HOT.at i) true).chState i ≠ 4 :=
    (State.get_putB_apart _ _ _ _ hhot).trans_ne hs
  refine (if_neg (by simp [h])).trans ?_
  rw [if_neg hstate]

end Sys2Proof.Machine

open Sys2Proof Sys2Proof.Machine

/-- Settles O30, command by command. That every initiator may write the command bits, the debug port too, is log entry 31, the
model's choice. -/
theorem loadChannelCommands : Obligations.LoadChannelCommands := by
  refine ⟨fun _ _ _ => rfl, fun _ _ _ => rfl, fun i s h => State.cmd_absent h, fun i s h hr => State.cmd_role h hr, ?obeys,
    ?ramp, fun i s h => exec_rampComplete_stays h, fun i s h => if_pos h, fun i s h => exec_channelShort_conducts h,
    ?bright, fun i s h => ⟨exec_channelShort_off h, if_neg (by omega)⟩, fun i s h hs => exec_junctionOvertemp h hs,
    fun i s h => if_pos h, fun i s h => ⟨if_neg (by simp [h]), if_pos (by simp [h])⟩⟩
  case obeys =>
    intro i s h hr
    obtain ⟨hon, hoff⟩ := State.cmd_turns h hr
    rw [hon, hoff]
    exact ⟨fun hn => State.turnOn_refused h hn, fun hn => State.turnOn_obeyed h hn, fun hb => State.turnOff_obeyed h hb,
      fun hb => State.turnOff_bright h hb⟩
  case ramp =>
    intro i s h hf
    rw [exec_rampComplete h hf]
    exact .next ⟨State.get_put_self _ _ _ (by decide : 28 + 4 ≤ 32), (WordsKept.refl _ s).put (by simp) _, rfl, rfl⟩
  case bright =>
    intro i s h
    rw [exec_channelShort_bright h]
    obtain ⟨hstate, hout, hkept⟩ := s.testOver_facts i (by decide : 0 < 16)
    obtain ⟨hstate', hfail, hflt, hcmd, hout', hraised⟩ := (s.testOver i 0).testFails_facts i
    obtain ⟨-, -, -, -, hne⟩ := chan_fields i
    refine .next ⟨hstate'.trans hstate, hfail, congrArg Out.test (hout'.trans hout), hflt, hcmd.trans (hkept.get _ ?_),
      hraised⟩
    exact List.not_mem_cons_of_ne_of_not_mem (hne Reg.OUT_CMD (by decide)).symm (by decide)

end

section
/-!
Readings, clusters and test pulses of the load channels (R260 to R267): what a reading shows, the shedding of a cluster step
by step, and the start and the end of a pulse.
-/
namespace Sys2Proof.Machine

variable {s : State}

/-! ### Readings (R260) -/

/-- The instant of a channel reading, at F + 10,000·k. -/
def State.readInstant (s : State) : State := s.advanceTo (s.fstart + (s.now - s.fstart + 9999) / 10000 * 10000)

/-- Every channel's reading is taken, the open-load check included. -/
def State.readAll (s : State) (mA : List Nat) (hot : Nat) : State :=
  (mA.zipIdx).foldl (fun x r => x.readChan r.2 r.1 (hot.testBit r.2) (s.diagOn && s.out.test.isNone)) s

/-- The temperatures of clusters C0 and C1, and the tick of the reading. -/
def State.showReading (s : State) (cl : List Int) : State :=
  ((s.putSatI Reg.OUT_CLTEMP01_C0 (cl.getD 0 0)).putSatI Reg.OUT_CLTEMP01_C1 (cl.getD 1 0)).put Reg.OUT_LTICK_TICK s.tick

/-- The temperatures of clusters C2 and C3, which only the full build has. -/
def State.showUpperClusters (s : State) (cl : List Int) : State :=
  (s.putSatI Reg.OUT_CLTEMP23_C2 (cl.getD 2 0)).putSatI Reg.OUT_CLTEMP23_C3 (cl.getD 3 0)

theorem exec_channelCurrentReading (mA : List Nat) (hot : Nat) (cl : List Int) (hr : s.readsChannels = true)
    (hk : (s.now - s.fstart + 9999) / 10000 ≤ 99) : exec (.channelCurrentReading mA hot cl) s =
      if (s.readInstant.readAll mA hot).full then
        .next (((s.readInstant.readAll mA hot).showReading cl).showUpperClusters cl)
      else .next ((s.readInstant.readAll mA hot).showReading cl) :=
  if_neg (by simp [hr, hk])

/-- The readings leave the build as it is. -/
theorem State.readAll_full (s : State) (mA : List Nat) (hot : Nat) : (s.readAll mA hot).full = s.full :=
  (Keeps.foldl (.refl s) fun x r hx => State.readChan_keeps x r.2 r.1 (hot.testBit r.2) _ hx).build

theorem State.showReading_facts (s : State) (cl : List Int) :
    (s.showReading cl).get Reg.OUT_LTICK_TICK = s.tick % 2 ^ 32 ∧
    WordsKept [Reg.OUT_CLTEMP01, Reg.OUT_LTICK] s (s.showReading cl) ∧ (s.showReading cl).mem = s.mem :=
  ⟨State.get_put_self _ _ _ (by decide),
    (((WordsKept.refl _ s).putSatI (by decide) _).putSatI (by decide) _).put (by decide) _, rfl⟩

theorem State.showUpperClusters_kept (s : State) (cl : List Int) :
    WordsKept [Reg.OUT_CLTEMP23] s (s.showUpperClusters cl) :=
  ((WordsKept.refl _ s).putSatI (by decide) _).putSatI (by decide) _

/-! ### Clusters (R265) -/

/-- A cluster has cooled: it sheds no channel and turn-on in it is possible. -/
def State.clusterFree (s : State) (c : Fin 4) : State :=
  (State.putBit { s with out := { s.out with hot := s.out.hot.set c false } } Reg.OUT_SHED_CLUSTER c false).put
    Reg.OUT_SHED_CH (bitsOf ((List.range 16).map fun i => i / 4 != c.val && s.bit Reg.OUT_SHED_CH i))

theorem exec_clusterCooled {c : Fin 4} (h : s.bit Reg.OUT_SHED_CLUSTER c = true) :
    exec (.clusterCooled c) s = .next ((s.clusterFree c).raise Ev.OUT_SHED_CLEAR) := if_pos h

theorem State.clusterFree_facts (s : State) (c : Fin 4) :
    (s.clusterFree c).bit Reg.OUT_SHED_CLUSTER c = false ∧
    (s.clusterFree c).out = { s.out with hot := s.out.hot.set c false } ∧
    WordsKept [Reg.OUT_SHED] s (s.clusterFree c) ∧ (s.clusterFree c).mem = s.mem := by
  refine ⟨?_, rfl, ?_, rfl⟩
  · exact (State.bit_put_apart _ _ _ _ _ (by decide)).trans
      (State.bit_putBit_self _ _ _ _ (by decide) c.isLt)
  · exact (((WordsKept.refl _ s).of_regs rfl).putBit (by decide) _ _).put (by decide) _

/-! ### Test pulses (R266) -/

/-- The instant TSLOT of the frame. -/
def State.testInstant (s : State) : State := s.advanceTo (s.fstart + 1000 * min 949 (s.get Reg.OUT_TESTCFG_TSLOT))

/-- The length of a pulse in ticks. -/
def State.pulseTicks (s : State) (bright : Bool) : Nat :=
  1000 * (if bright then clampN 1 20 (s.get Reg.OUT_TESTCFG_BRIGHT) else clampN 1 50 (s.get Reg.OUT_TESTCFG_DARK))

/-- A pulse on channel `i` is under way, and the next test is due TPER frames later. -/
def State.pulseNoted (s : State) (i : Nat) (bright : Bool) : State := { s with out := { s.out with
  test := some (i, bright), testEnd := s.now + s.pulseTicks bright,
  testFrame := (s.frame + clampN 1 255 (s.get Reg.OUT_TESTCFG_TPER)) % 2 ^ 32,
  testNext := (i + 1) % 16, retest := s.out.retest.filter fun r => r.1 != i } }

theorem exec_testPulseStart_undue (h : s.testInstant.testDue = false) : exec .testPulseStart s = .next s.testInstant :=
  if_neg (by simpa [State.testInstant] using h)

theorem exec_testPulseStart {i : Nat} {bright : Bool} (h : s.testInstant.testDue = true)
    (hn : s.testInstant.nextTest = some (i, bright)) : exec .testPulseStart s =
      .next ((s.testInstant.pulseNoted i bright).showChan i (if bright then 4 else 3) bright) := by
  refine (if_pos h).trans ?_
  rw [← State.testInstant, hn]
  rfl

theorem exec_testPulseEnd {i : Nat} {bright : Bool} (mA : Nat) (reached : Bool) (h : s.out.test = some (i, bright)) :
    exec (.testPulseEnd mA reached) s =
      if (if bright then !reached else decide (50 ≤ mA)) then
        .next (((s.advanceTo s.out.testEnd).testOver i (if bright then 0 else 2)).testFails i)
      else .next ((s.advanceTo s.out.testEnd).testOver i (if bright then 0 else 2)) := by
  show execTestPulseEnd mA reached s = _
  rw [execTestPulseEnd, h]

end Sys2Proof.Machine

open Sys2Proof Sys2Proof.Machine

/-- Settles O31: the readings, the clusters and the test pulses, command by command. -/
theorem loadDiagnosticsAndClusters : Obligations.LoadDiagnosticsAndClusters := by
  refine ⟨?reading, fun mA hot cl s h => if_pos (by simpa using h), fun i mA hot counts s h => if_pos (by simp [h]),
    fun s h => if_neg (by simp [h]), fun c s h => if_neg (by simp [h]), fun c s h => (if_pos h).trans (if_pos rfl),
    fun c hot s h => if_neg (Bool.eq_false_iff.1 h), ?cooled, fun c s h => if_neg (by simp [h]),
    fun s h => exec_testPulseStart_undue h, ?pulse, ?pulseEnd, fun c s h => if_pos (by simp [h]),
    fun c s h => (if_pos h).trans (if_neg Bool.false_ne_true)⟩
  case reading =>
    intro mA hot cl s hr hk
    have hfull : (s.readInstant.readAll mA hot).full = s.full := s.readInstant.readAll_full mA hot
    rw [exec_channelCurrentReading mA hot cl hr hk, hfull]
    obtain ⟨htick, hkept, hmem⟩ := (s.readInstant.readAll mA hot).showReading_facts cl
    have hupper := ((s.readInstant.readAll mA hot).showReading cl).showUpperClusters_kept cl
    refine ⟨fun hf => ?_, fun hf => ?_⟩
    · rw [if_pos hf]
      exact .next ⟨(hupper.get _ (by decide)).trans htick, (hkept.mono (by decide)).trans (hupper.mono (by decide)), hmem⟩
    · rw [if_neg (by simp [hf])]
      exact .next ⟨htick, hkept, hmem⟩
  case cooled =>
    intro c s h
    rw [exec_clusterCooled h]
    obtain ⟨hbit, hout, hkept, hmem⟩ := s.clusterFree_facts c
    exact .next ⟨(State.bit_raise _ _ _ _ (by decide)).trans hbit,
      congrArg Out.hot ((State.raise_out _ _).trans hout), fun ha => State.raised_raise _ _ ha (by decide),
      (State.get_raise _ _ _ (by decide)).trans (hkept.get _ (by decide)), hkept.quiet.raise _,
      (BytesKept.of_mem hmem).raise _⟩
  case pulse =>
    intro i bright s hi u hd hn
    have hst : (if bright then 4 else 3) < 16 := by cases bright <;> decide
    obtain ⟨hstate, hcond, -⟩ := (s.testInstant.pulseNoted i bright).showChan_facts ⟨i, hi⟩ bright hst
    rw [exec_testPulseStart hd hn]
    exact .next ⟨rfl, hstate, hcond, rfl, rfl⟩
  case pulseEnd =>
    intro i bright reached mA s h
    rw [exec_testPulseEnd mA reached h, ← apply_ite]

end

section
/-!
Causes and records (R374, R382): what setting a bit of a CAUSE register and writing a record leave.
-/
namespace Sys2Proof.Machine

variable {l : List Nat} {s t : State}

theorem QuietWordsKept.setCause (h : QuietWordsKept l s t) {f : Fld} (hf : f.addr ∈ l) (e : Event) :
    QuietWordsKept l s (t.setCause f e) :=
  fun a hq ha => (State.word_setCause _ _ _ _ hq (ne_of_mem_of_not_mem hf ha).symm).trans (h a hq ha)

theorem BytesKept.setCause (h : BytesKept s t) (f : Fld) (e : Event) : BytesKept s (t.setCause f e) :=
  fun a ha => (State.byte_setCause_out _ _ _ _ ha).trans (h a ha)

theorem QuietWordsKept.note (h : QuietWordsKept l s t) (c d0 d1 d2 : Nat) : QuietWordsKept l s (t.note c d0 d1 d2) :=
  fun a hq ha => (State.word_note _ _ _ _ _ _ hq).trans (h a hq ha)

theorem BytesKept.note (h : BytesKept s t) (c d0 d1 d2 : Nat) : BytesKept s (t.note c d0 d1 d2) :=
  fun a ha => (State.byte_record_out _ _ _ _ _ _ _ ha).trans (h a ha)

/-- Setting a cause is a raise after its bit, or nothing: a field that a raise keeps is kept. -/
theorem State.setCause_eq_or (s : State) (f : Fld) (e : Event) :
    s.setCause f e = s ∨ s.setCause f e = (s.putB f true).raise e := by
  unfold State.setCause
  split
  · exact .inl rfl
  · exact .inr rfl

/-- A flag of another quiet word or bit is not touched by a note. -/
theorem State.flag_note (s : State) (c d0 d1 d2 : Nat) (f : Fld) (h : quiet f.addr = true) :
    (s.note c d0 d1 d2).flag f = s.flag f := by
  simp only [State.flag, State.get_note _ _ _ _ _ _ h]

theorem State.flag_setCause_apart (s : State) (f g : Fld) (e : Event) (h : quiet g.addr = true) (hf : f.apart g = true) :
    (s.setCause f e).flag g = s.flag g := by
  simp only [State.flag, State.get_setCause_apart _ _ _ _ h hf]

/-! ### The copy of a freeze through records and events -/

@[simp] theorem State.copy_ringPut (s : State) (r : BbxRec) : (s.ringPut r).bbx.copy = s.bbx.copy := by
  simp [State.ringPut]

/-- A record leaves the freeze copy in progress. -/
@[simp] theorem State.copy_record (s : State) (k c d0 d1 d2 : Nat) : (s.record k c d0 d1 d2).bbx.copy = s.bbx.copy := by
  unfold State.record
  split
  · rfl
  · simp only []
    split
    · split <;> simp
    · simp

@[simp] theorem State.copy_note (s : State) (c d0 d1 d2 : Nat) : (s.note c d0 d1 d2).bbx.copy = s.bbx.copy :=
  s.copy_record 5 c d0 d1 d2

@[simp] theorem State.copy_raise (s : State) (e : Event) : (s.raise e).bbx.copy = s.bbx.copy := by
  unfold State.raise
  simp only []
  split
  · rfl
  · split
    · split
      · exact State.copy_record _ _ _ _ _ _
      · rfl
    · split
      · exact State.copy_record _ _ _ _ _ _
      · rfl

@[simp] theorem State.copy_setCause (s : State) (f : Fld) (e : Event) : (s.setCause f e).bbx.copy = s.bbx.copy := by
  rcases s.setCause_eq_or f e with h | h <;> simp [h]

end Sys2Proof.Machine
end

section
/-!
The queue, the reset and the timebase (R375, R378, R380).
-/
namespace Sys2Proof.Machine

/-- One tick passes. -/
theorem idle_eq (s : State) : idle s = { s with now := s.now + 1, tick := s.tick + 1 } := by
  simp [idle, State.advanceTo]

theorem step_empty {s : State} (h : s.pending = []) : step s = .next (idle s) := by
  rw [step, h]

/-- The next wrap of TICK [31:0] at or after a tick. -/
theorem tick_wrap (k : Nat) : (k + (2 ^ 32 - k % 2 ^ 32) % 2 ^ 32) % 2 ^ 32 = 0 := by omega

theorem State.advanceTo_tick_add (s : State) (d : Nat) : (s.advanceTo (s.now + d)).tick = s.tick + d := by
  simp only [State.advanceTo]
  omega

/-- The attestation of a gap is noted and kept (R380). -/
def State.gapNoted (s : State) (secs : Word) : State :=
  (((s.putB Reg.TMB_GAPSTAT_ATTESTED true).putB Reg.TMB_GAPSTAT_EXT true).put Reg.TMB_GAPATT_S secs.toNat).note 3
    secs.toNat 0 0

theorem exec_gapAttest_taken {s : State} (ini : Ini) {secs : Word} (ha : s.flag Reg.TMB_GAPSTAT_ATTESTED = false)
    (h : secs ≠ 0) : exec (.gapAttest ini secs) s =
      .next ((s.gapNoted secs).setCause Reg.TMB_CAUSE_ATTESTED Ev.TMB_SERVICE) :=
  if_neg (not_or.2 ⟨by simp [ha], h⟩)

theorem exec_gapAttest_refused {s : State} (ini : Ini) {secs : Word}
    (h : s.flag Reg.TMB_GAPSTAT_ATTESTED = true ∨ secs = 0) : exec (.gapAttest ini secs) s =
      .next (s.setCause Reg.TMB_CAUSE_REFUSED Ev.TMB_SERVICE) :=
  if_pos h

theorem State.gapNoted_facts (s : State) (secs : Word) :
    (s.gapNoted secs).flag Reg.TMB_GAPSTAT_ATTESTED = true ∧ (s.gapNoted secs).flag Reg.TMB_GAPSTAT_EXT = true ∧
    (s.gapNoted secs).get Reg.TMB_GAPATT_S = secs.toNat ∧
    QuietWordsKept [Reg.TMB_GAPSTAT, Reg.TMB_GAPATT, Reg.TMB_CAUSE] s (s.gapNoted secs) ∧
    BytesKept s (s.gapNoted secs) := by
  refine ⟨?_, ?_, ?_, QuietWordsKept.note ?_ _ _ _ _, (BytesKept.of_mem rfl).note _ _ _ _⟩
  · rw [State.gapNoted, State.flag_note _ _ _ _ _ _ (by decide), State.flag_put_apart _ _ _ _ (by decide),
      State.flag_putB_apart _ _ _ _ (by decide), State.flag_putB_self _ _ _ (by decide) (by decide)]
  · rw [State.gapNoted, State.flag_note _ _ _ _ _ _ (by decide), State.flag_put_apart _ _ _ _ (by decide),
      State.flag_putB_self _ _ _ (by decide) (by decide)]
  · rw [State.gapNoted, State.get_note _ _ _ _ _ _ (by decide), State.get_put_self _ _ _ (by decide)]
    exact Nat.mod_eq_of_lt secs.isLt
  · exact ((((WordsKept.refl _ s).putB (by decide) _).putB (by decide) _).put (by decide) _).quiet

end Sys2Proof.Machine

open Sys2Proof Sys2Proof.Machine

/-- Settles O1: a step takes the command apart from the queue and runs it. -/
theorem stepRunsFrontCommand : Obligations.StepRunsFrontCommand := fun _ _ _ => rfl

/-- Settles O2: the queue has no command, so the step is the tick that passes (log entry 10). -/
theorem emptyQueueIdles : Obligations.EmptyQueueIdles := by
  intro s h
  rw [step_empty h, idle_eq]

/-- Settles O3: the reset state of log entry 1 writes one register word off its reset value and nothing in memory (entry 6). -/
theorem resetIsCanonical : Obligations.ResetIsCanonical := ⟨by decide, rfl, rfl⟩

/-- Settles O7, command by command. That the save at the wrap writes no byte of memory is log entries 25 and 116: the retained
records are fields of the state. -/
theorem timebaseCommands : Obligations.TimebaseCommands := by
  refine ⟨?read, ?wrap, ?taken, ?refused⟩
  case read =>
    intro ini s
    exact .next ⟨(State.get_put_apart _ _ _ _ (by decide)).trans (State.get_put_self _ _ _ (by decide)),
      State.get_put_self _ _ _ (by decide), ((WordsKept.refl _ s).put (by decide) _).put (by decide) _, rfl, rfl⟩
  case wrap =>
    intro s
    have ht := s.advanceTo_tick_add ((2 ^ 32 - s.tick % 2 ^ 32) % 2 ^ 32)
    have hw := tick_wrap s.tick
    exact .next ⟨(congrArg (· % 2 ^ 32) ht).trans hw, by
      show s.tick ≤ (s.advanceTo _).tick
      omega, by
      show (s.advanceTo _).tick < _
      omega, rfl, rfl, rfl, rfl⟩
  case taken =>
    intro ini secs s ha hs
    rw [exec_gapAttest_taken ini ha hs]
    obtain ⟨hatt, hext, hsecs, hkept, hbytes⟩ := s.gapNoted_facts secs
    exact .next ⟨(State.flag_setCause_apart _ _ _ _ (by decide) (by decide)).trans hatt,
      (State.flag_setCause_apart _ _ _ _ (by decide) (by decide)).trans hext,
      (State.get_setCause_apart _ _ _ _ (by decide) (by decide)).trans hsecs,
      State.flag_setCause_self _ _ _ (by decide) (by decide) (by decide), hkept.setCause (by decide) _,
      hbytes.setCause _ _⟩
  case refused =>
    intro ini secs s h
    rw [exec_gapAttest_refused ini h]
    exact .next ⟨State.flag_setCause_self _ _ _ (by decide) (by decide) (by decide),
      State.get_setCause_apart _ _ _ _ (by decide) (by decide), (WordsKept.refl _ s).quiet.setCause (by decide) _,
      (BytesKept.of_mem rfl).setCause _ _⟩

end

section
/-!
The black box (R382 to R389): where a record goes, what a freeze trigger does, what a snapshot writes, and the copy of the
blocks.
-/
namespace Sys2Proof.Machine

variable {l : List Nat} {s t : State}

theorem WordsKept.inc (h : WordsKept l s t) {f : Fld} (hf : f.addr ∈ l) : WordsKept l s (t.inc f) := h.setWord hf _

theorem WordsKept.incSat (h : WordsKept l s t) {f : Fld} (hf : f.addr ∈ l) : WordsKept l s (t.incSat f) := h.setWord hf _

/-! ### Records (R382, R386) -/

theorem BbxRec.bytes_length (r : BbxRec) : r.bytes.length = 32 := by
  simp [BbxRec.bytes, leBytes_length]

theorem WordsKept.ringPut (s : State) (r : BbxRec) : WordsKept [Reg.BBX_RECPTR] s (s.ringPut r) :=
  fun a ha => s.word_ringPut r a fun h => ha (List.mem_singleton.2 h)

@[simp] theorem State.ringPut_freeCtr (s : State) (r : BbxRec) : (s.ringPut r).freeCtr = s.freeCtr := by
  simp [State.ringPut]

/-- A record joins the end of the FIFO. -/
def State.queued (s : State) (r : BbxRec) : State := { s with bbx := { s.bbx with fifo := s.bbx.fifo ++ [r] } }

/-- A record is dropped. -/
def State.dropNoted (s : State) : State := { s with bbx := { s.bbx with dropped := s.bbx.dropped + 1 } }

@[simp] theorem State.queued_regs (s : State) (r : BbxRec) : (s.queued r).regs = s.regs := rfl

@[simp] theorem State.queued_mem (s : State) (r : BbxRec) : (s.queued r).mem = s.mem := rfl

@[simp] theorem State.queued_fifo (s : State) (r : BbxRec) : (s.queued r).bbx.fifo = s.bbx.fifo ++ [r] := rfl

@[simp] theorem State.dropNoted_regs (s : State) : s.dropNoted.regs = s.regs := rfl

@[simp] theorem State.dropNoted_mem (s : State) : s.dropNoted.mem = s.mem := rfl

@[simp] theorem State.dropNoted_fifo (s : State) : s.dropNoted.bbx.fifo = s.bbx.fifo := rfl

theorem State.nextFree_freeCtr (s : State) : s.nextFree.freeCtr = s.freeCtr + 1 := rfl

theorem State.bytes_nextFree (s : State) (a n : Nat) : s.nextFree.bytes a n = s.bytes a n := rfl

theorem WordsKept.nextFree (h : WordsKept l s t) : WordsKept l s t.nextFree := h.of_regs (State.nextFree_regs t)

theorem State.record_silent (k c d0 d1 d2 : Nat) (h : s.sleeping = true ∨ s.alive = false) :
    s.record k c d0 d1 d2 = s :=
  if_pos (by simpa using h)

theorem State.record_waits (k c d0 d1 d2 : Nat) (hs : s.sleeping = false) (ha : s.alive = true)
    (hr : s.ringStopped = true) (hf : s.bbx.fifo.length < 64) : s.record k c d0 d1 d2 =
      (s.queued (s.makeRecord k c d0 d1 d2)).inc Reg.BBX_RECNUM_NUM :=
  (if_neg (by simp [hs, ha])).trans ((if_pos hr).trans (if_pos hf))

theorem State.record_dropped (k c d0 d1 d2 : Nat) (hs : s.sleeping = false) (ha : s.alive = true)
    (hr : s.ringStopped = true) (hf : 64 ≤ s.bbx.fifo.length) : s.record k c d0 d1 d2 =
      s.dropNoted.incSat Reg.BBX_DROPS_COUNT :=
  (if_neg (by simp [hs, ha])).trans ((if_pos hr).trans (if_neg (Nat.not_lt.2 hf)))

theorem State.record_enters (k c d0 d1 d2 : Nat) (hs : s.sleeping = false) (ha : s.alive = true)
    (hr : s.ringStopped = false) :
    s.record k c d0 d1 d2 = (s.ringPut (s.makeRecord k c d0 d1 d2)).inc Reg.BBX_RECNUM_NUM :=
  (if_neg (by simp [hs, ha])).trans (if_neg (by simp [hr]))

/-- A record of a pair has the pair's source (Table 17.3). -/
theorem exec_bbxSwPush {ini : Ini} {src : Nat} (h : (ini = .pairA ∧ src = 0x0A) ∨ (ini = .pairB ∧ src = 0x0B)) (s : State) :
    exec (.bbxSwPush ini) s = .next ((s.record 6 src (s.get Reg.BBX_SWREC_DATA) (s.get (Reg.BBX_SWREC_DATA.at 1))
      (s.get (Reg.BBX_SWREC_DATA.at 2))).nextFree) := by
  obtain ⟨rfl, rfl⟩ | ⟨rfl, rfl⟩ := h <;> rfl

/-- A record that enters the ring: its bytes, its place and its number. -/
theorem State.record_enters_facts (s : State) (r : BbxRec) :
    ((s.ringPut r).inc Reg.BBX_RECNUM_NUM).bytes (recordAddr (s.get Reg.BBX_RECPTR_NEXT)) 32 = r.bytes ∧
    ((s.ringPut r).inc Reg.BBX_RECNUM_NUM).get Reg.BBX_RECPTR_NEXT = (s.get Reg.BBX_RECPTR_NEXT + 1) % 4096 ∧
    ((s.ringPut r).inc Reg.BBX_RECNUM_NUM).get Reg.BBX_RECNUM_NUM = (s.get Reg.BBX_RECNUM_NUM + 1) % 2 ^ 32 ∧
    WordsKept [Reg.BBX_RECPTR, Reg.BBX_RECNUM] s ((s.ringPut r).inc Reg.BBX_RECNUM_NUM) ∧
    ∀ a, a < recordAddr (s.get Reg.BBX_RECPTR_NEXT) ∨ recordAddr (s.get Reg.BBX_RECPTR_NEXT) + 32 ≤ a →
      ((s.ringPut r).inc Reg.BBX_RECNUM_NUM).byte a = s.byte a := by
  have hk := WordsKept.ringPut s r
  have hbyte : ∀ a, ((s.ringPut r).inc Reg.BBX_RECNUM_NUM).byte a =
      (s.setBytes (recordAddr (s.get Reg.BBX_RECPTR_NEXT)) r.bytes).byte a := fun a => by
    rw [State.byte_inc, State.byte_ringPut]
  refine ⟨?_, ?_, ?_, (hk.mono (by decide)).inc (by decide), fun a h => ?_⟩
  · rw [State.bytes_congr hbyte, ← r.bytes_length, State.bytes_setBytes]
  · rw [State.get_inc_apart _ _ _ (by decide), State.next_ringPut]
  · rw [State.get_inc_self _ _ (by decide), hk.get _ (by decide)]
    rfl
  · rw [hbyte, State.byte_setBytes_out _ _ _ _ (by rwa [r.bytes_length])]

/-- A record that waits in the FIFO. -/
theorem State.record_waits_facts (s : State) (r : BbxRec) :
    ((s.queued r).inc Reg.BBX_RECNUM_NUM).bbx.fifo = s.bbx.fifo ++ [r] ∧
    ((s.queued r).inc Reg.BBX_RECNUM_NUM).mem = s.mem ∧
    WordsKept [Reg.BBX_RECNUM] s ((s.queued r).inc Reg.BBX_RECNUM_NUM) ∧
    ((s.queued r).inc Reg.BBX_RECNUM_NUM).get Reg.BBX_RECNUM_NUM = (s.get Reg.BBX_RECNUM_NUM + 1) % 2 ^ 32 := by
  refine ⟨by simp, by simp, ((WordsKept.refl _ s).of_regs (State.queued_regs _ _)).inc (by decide), ?_⟩
  rw [State.get_inc_self _ _ (by decide), State.get_congr (State.queued_regs _ _)]
  rfl

/-- A record that is dropped. -/
theorem State.record_dropped_facts (s : State) :
    (s.dropNoted.incSat Reg.BBX_DROPS_COUNT).bbx.fifo = s.bbx.fifo ∧
    (s.dropNoted.incSat Reg.BBX_DROPS_COUNT).mem = s.mem ∧
    WordsKept [Reg.BBX_DROPS] s (s.dropNoted.incSat Reg.BBX_DROPS_COUNT) ∧
    (s.dropNoted.incSat Reg.BBX_DROPS_COUNT).get Reg.BBX_DROPS_COUNT =
      min (s.get Reg.BBX_DROPS_COUNT + 1) (2 ^ Reg.BBX_DROPS_COUNT.wid - 1) := by
  refine ⟨by simp, by simp, ((WordsKept.refl _ s).of_regs (State.dropNoted_regs _)).incSat (by decide), ?_⟩
  rw [State.get_incSat_self _ _ (by decide), State.get_congr (State.dropNoted_regs _)]

/-! ### Freezes (R384) -/

/-- A freeze trigger that is missed: the count, and the note of it. -/
def State.missNoted (s : State) : State :=
  let s := s.incSat Reg.BBX_MISSED_COUNT
  s.note 6 (s.get Reg.BBX_MISSED_COUNT) 0 0

/-- A freeze begins: its identity and its tick are shown. -/
def State.freezeShown (s : State) (trig src : Nat) : State :=
  let s := s.inc Reg.BBX_FREEZEID_ID
  ((s.note 4 (s.get Reg.BBX_FREEZEID_ID) trig src).put Reg.BBX_FTICK_TICK s.tick).putB Reg.BBX_STAT_COPY true

/-- A copy stands in progress. -/
def State.withCopy (s : State) (f : Freeze) : State := { s with bbx := { s.bbx with copy := some f } }

@[simp] theorem State.withCopy_regs (s : State) (f : Freeze) : (s.withCopy f).regs = s.regs := rfl

@[simp] theorem State.withCopy_copy (s : State) (f : Freeze) : (s.withCopy f).bbx.copy = some f := rfl

theorem State.freeze_missed (trig src : Nat)
    (h : s.bbx.copy.isSome = true ∨ (s.flag Reg.BBX_CFG_KEEP = true ∧ s.flag Reg.BBX_STAT_HELD = true)) :
    s.freeze trig src = s.missNoted.setCause Reg.BBX_CAUSE_MISSED Ev.BBX_SERVICE :=
  if_pos (by simpa using h)

theorem State.setMemWords_only (ws : List Nat) : ∀ (s : State) (a : Nat), ∃ m, s.setMemWords a ws = { s with mem := m } := by
  induction ws with
  | nil => exact fun s _ => ⟨s.mem, rfl⟩
  | cons w ws ih =>
    intro s a
    obtain ⟨m, hm⟩ := State.setBytes_only (leBytes 4 w) s a
    obtain ⟨m', hm'⟩ := ih (s.setMemWord a w) (a + 4)
    exact ⟨m', by rw [State.setMemWords, hm', State.setMemWord, hm]⟩

/-- A snapshot writes memory alone. -/
theorem State.putSnapshot_only (s : State) (typ : Nat) : ∃ m, s.putSnapshot typ = { s with mem := m } := by
  obtain ⟨m, hm⟩ := State.setMemWords_only (s.snapWords typ) s (snapAddr (s.get Reg.BBX_RECPTR_SNEXT))
  obtain ⟨m', hm'⟩ := State.setBytes_only (s.bytes (0x101C0000 + 256 * s.get Reg.BBX_SWADDR_INDEX) 256)
    (s.setMemWords (snapAddr (s.get Reg.BBX_RECPTR_SNEXT)) (s.snapWords typ))
    (snapAddr (s.get Reg.BBX_RECPTR_SNEXT) + 0x300)
  exact ⟨m', by rw [State.putSnapshot, hm', hm]⟩

@[simp] theorem State.putSnapshot_regs (s : State) (typ : Nat) : (s.putSnapshot typ).regs = s.regs := by
  obtain ⟨m, hm⟩ := s.putSnapshot_only typ
  rw [hm]

@[simp] theorem State.putSnapshot_now (s : State) (typ : Nat) : (s.putSnapshot typ).now = s.now := by
  obtain ⟨m, hm⟩ := s.putSnapshot_only typ
  rw [hm]

@[simp] theorem State.putSnapshot_tick (s : State) (typ : Nat) : (s.putSnapshot typ).tick = s.tick := by
  obtain ⟨m, hm⟩ := s.putSnapshot_only typ
  rw [hm]

theorem State.snapWords_length (s : State) (typ : Nat) : (s.snapWords typ).length = 192 := by
  simp [State.snapWords, State.words]

/-- A snapshot leaves every byte outside the slot that SNEXT names (R383). -/
theorem State.byte_putSnapshot_out (s : State) (typ a : Nat)
    (h : a < snapAddr (s.get Reg.BBX_RECPTR_SNEXT) ∨ snapAddr (s.get Reg.BBX_RECPTR_SNEXT) + 0x400 ≤ a) :
    (s.putSnapshot typ).byte a = s.byte a := by
  rw [State.putSnapshot, State.byte_setBytes_out _ _ _ _ (by simp only [State.bytes, List.length_map, List.length_range]; omega),
    State.byte_setMemWords_out _ _ _ _ (by rw [State.snapWords_length]; omega)]

/-- The words that a freeze trigger writes beside those of records and events. -/
def freezeWords : List Nat := [Reg.BBX_FREEZEID, Reg.BBX_FTICK, Reg.BBX_STAT, Reg.BBX_MISSED, Reg.BBX_CAUSE]

theorem State.freezeShown_facts (s : State) (trig src : Nat) :
    (s.freezeShown trig src).get Reg.BBX_FREEZEID_ID =
      (s.get Reg.BBX_FREEZEID_ID + 1) % 2 ^ Reg.BBX_FREEZEID_ID.wid ∧
    (s.freezeShown trig src).get Reg.BBX_FTICK_TICK = s.tick % 2 ^ Reg.BBX_FTICK_TICK.wid ∧
    (s.freezeShown trig src).flag Reg.BBX_STAT_COPY = true ∧
    (s.freezeShown trig src).now = s.now ∧ (s.freezeShown trig src).tick = s.tick ∧
    QuietWordsKept freezeWords s (s.freezeShown trig src) := by
  refine ⟨?_, ?_, State.flag_putB_self _ _ _ (by decide) (by decide), by simp [State.freezeShown],
    by simp [State.freezeShown], ?_⟩
  · rw [State.freezeShown, State.get_putB_apart _ _ _ _ (by decide), State.get_put_apart _ _ _ _ (by decide),
      State.get_note _ _ _ _ _ _ (by decide), State.get_inc_self _ _ (by decide)]
  · rw [State.freezeShown, State.get_putB_apart _ _ _ _ (by decide), State.get_put_self _ _ _ (by decide)]
    rfl
  · exact ((((WordsKept.refl freezeWords s).inc (by decide)).quiet.note _ _ _ _).put (by decide) _).putB (by decide) _

/-- A freeze that begins: its snapshot is taken, and a copy stands in progress, not started. -/
theorem State.freeze_begins (trig src : Nat) (hc : s.bbx.copy = none)
    (hk : s.flag Reg.BBX_CFG_KEEP = false ∨ s.flag Reg.BBX_STAT_HELD = false) : s.freeze trig src =
      ((s.freezeShown trig src).putSnapshot 1).withCopy ⟨s.tick, s.now, trig, src,
        (s.freezeShown trig src).get Reg.BBX_FREEZEID_ID, s.get Reg.TMB_GEN_GEN, false, 0⟩ := by
  obtain ⟨hid, -, -, hnow, htick, hkept⟩ := s.freezeShown_facts trig src
  have hgen : (s.freezeShown trig src).get Reg.TMB_GEN_GEN = s.get Reg.TMB_GEN_GEN :=
    hkept.get _ (by decide) (by decide)
  have hid' : (s.inc Reg.BBX_FREEZEID_ID).get Reg.BBX_FREEZEID_ID = (s.freezeShown trig src).get Reg.BBX_FREEZEID_ID :=
    (State.get_inc_self _ _ (by decide)).trans hid.symm
  have hkeep : ¬ (s.bbx.copy.isSome || (s.flag Reg.BBX_CFG_KEEP && s.flag Reg.BBX_STAT_HELD)) = true := by
    obtain hk | hk := hk <;> simp [hc, hk]
  have hgen' := (State.get_congr ((s.freezeShown trig src).putSnapshot_regs 1) Reg.TMB_GEN_GEN).trans hgen
  unfold State.freeze
  rw [if_neg hkeep]
  extract_lets s₁ id s₂ s₃ f
  have h₃ : s₃ = (s.freezeShown trig src).putSnapshot 1 := rfl
  have hf : f = ⟨s₃.tick, s₃.now, trig, src, id, s₃.get Reg.TMB_GEN_GEN, false, 0⟩ := rfl
  clear_value f s₃
  change s₃.withCopy f = _
  rw [hf, h₃, hgen', State.putSnapshot_tick, State.putSnapshot_now, hnow, htick, ← hid']

theorem State.missNoted_facts (s : State) :
    s.missNoted.get Reg.BBX_MISSED_COUNT = min (s.get Reg.BBX_MISSED_COUNT + 1) (2 ^ Reg.BBX_MISSED_COUNT.wid - 1) ∧
    QuietWordsKept [Reg.BBX_MISSED, Reg.BBX_CAUSE] s s.missNoted ∧ BytesKept s s.missNoted ∧
    s.missNoted.bbx.copy = s.bbx.copy :=
  ⟨(State.get_note _ _ _ _ _ _ (by decide)).trans (State.get_incSat_self _ _ (by decide)),
    (((WordsKept.refl _ s).incSat (by decide)).quiet).note _ _ _ _, (BytesKept.of_mem rfl).note _ _ _ _,
    State.copy_note _ _ _ _ _⟩

/-- A freeze trigger, heard or missed, writes the words of the black box alone. -/
theorem State.freeze_kept (s : State) (trig src : Nat) : QuietWordsKept freezeWords s (s.freeze trig src) := by
  by_cases h : s.bbx.copy.isSome = true ∨ (s.flag Reg.BBX_CFG_KEEP = true ∧ s.flag Reg.BBX_STAT_HELD = true)
  · obtain ⟨-, hkept, -, -⟩ := s.missNoted_facts
    rw [State.freeze_missed _ _ h]
    exact (hkept.mono (by decide)).setCause (by decide) _
  · obtain ⟨hc, hk⟩ := not_or.1 h
    obtain ⟨-, -, -, -, -, hkept⟩ := s.freezeShown_facts trig src
    rw [State.freeze_begins _ _ (by simpa using hc) (by simpa [imp_iff_not_or] using hk)]
    exact (hkept.of_regs (State.putSnapshot_regs _ _)).of_regs (State.withCopy_regs _ _)

theorem exec_bbxFreezeCommand {ini : Ini} {src : Nat} (h : (ini = .pairA ∧ src = 0x0A) ∨ (ini = .pairB ∧ src = 0x0B))
    (s : State) : exec (.bbxFreezeCommand ini) s = .next (s.freeze 5 src) := by
  obtain ⟨rfl, rfl⟩ | ⟨rfl, rfl⟩ := h <;> rfl

/-! ### Snapshots and blocks (R383, R386, R389) -/

/-- A snapshot that falls due on a frame in which measurement runs. -/
theorem exec_snapshot (hp : s.get Reg.BBX_CFG_SNAPPER ≠ 0) (hf : s.frame % s.get Reg.BBX_CFG_SNAPPER = 0)
    (hr : s.cm.running = true) (hs : s.sleeping = false) (hc : s.bbx.copy = none) :
    exec .snapshot s = .next (((s.advanceTo (s.fstart + 20000)).putSnapshot 0).inc Reg.BBX_RECPTR_SNEXT) := by
  have hstop : (s.advanceTo (s.fstart + 20000)).ringStopped = false := by simp [State.ringStopped, hc]
  have hawake : (s.advanceTo (s.fstart + 20000)).sleeping = false := hs
  exact if_pos ⟨hp, hf, hr, by simp [hawake], by simp [hstop]⟩

theorem exec_freezeCopyStart {f : Freeze} (hc : s.bbx.copy = some f) (hf : f.started = false) (hp : s.power.port = 0)
    (hj : s.isLead = false ∨ s.power.warnAt = none ∨ s.est.jPend = false ∨ s.get Reg.PWR_HOLDE_UJ < 1200)
    (he : 300 ≤ s.get Reg.PWR_HOLDE_UJ) : exec .freezeCopyStart s = .next { s.advanceTo (f.atNow + 8200) with
      power := { s.power with port := 3 }, bbx := { s.bbx with copy := some { f with started := true } } } := by
  have hjournal : (s.isLead && s.power.warnAt.isSome && s.est.jPend && decide (1200 ≤ s.get Reg.PWR_HOLDE_UJ)) = false := by
    obtain h | h | h | h := hj
    · simp [h]
    · simp [h]
    · simp [h]
    · simp [Nat.not_le.2 h]
  show execFreezeCopyStart s = _
  rw [execFreezeCopyStart, hc]
  exact (if_neg (by rw [hjournal]; simp [hf, hp])).trans (if_pos (decide_eq_true he))

/-- The copy's next block stands, the one at hand is written. -/
def State.blockCopied (s : State) (f : Freeze) : State :=
  (s.advanceTo (s.now + 5120)).writeFreezeBlock f f.blocks

theorem State.blockCopied_only (s : State) (f : Freeze) :
    ∃ m, s.blockCopied f = { s.advanceTo (s.now + 5120) with mem := m } := by
  unfold State.blockCopied State.writeFreezeBlock
  split
  · exact State.setBytes_only _ _ _
  · exact State.setBytes_only _ _ _

theorem exec_freezeBlockDone {f : Freeze} (hc : s.bbx.copy = some f) (hf : f.started = true) (hp : s.power.port = 3)
    (hb : f.blocks < 48) (he : 300 ≤ s.get Reg.PWR_HOLDE_UJ) : exec .freezeBlockDone s = .next { s.blockCopied f with
      bbx := { (s.blockCopied f).bbx with copy := some { f with blocks := f.blocks + 1 } } } := by
  obtain ⟨m, hm⟩ := s.blockCopied_only f
  have hmay : (s.blockCopied f).blockMayStart = true := by
    rw [hm]
    exact decide_eq_true he
  show execFreezeBlockDone s = _
  rw [execFreezeBlockDone, hc]
  exact (if_pos (by simp [hf, hp])).trans (if_pos ⟨by omega, hmay⟩)

end Sys2Proof.Machine

open Sys2Proof Sys2Proof.Machine

/-- Settles O8: the four places of a record. That a dropped record takes no number is log entry 8. -/
theorem recordsEnterTheRing : Obligations.RecordsEnterTheRing := by
  intro ini src s hi r
  rw [exec_bbxSwPush hi s]
  refine ⟨?enters, ?waits, ?dropped, ?asleep⟩
  case enters =>
    intro hs ha hr
    rw [State.record_enters _ _ _ _ _ hs ha hr]
    obtain ⟨hbytes, hnext, hnum, hkept, hout⟩ := s.record_enters_facts r
    have hctr : ((s.ringPut r).inc Reg.BBX_RECNUM_NUM).freeCtr = s.freeCtr :=
      (State.inc_freeCtr _ _).trans (s.ringPut_freeCtr r)
    exact .next ⟨(State.bytes_nextFree _ _ _).trans hbytes, (State.get_nextFree _ _).trans hnext,
      (State.get_nextFree _ _).trans hnum, hkept.nextFree, fun a h => (State.byte_nextFree _ _).trans (hout a h),
      (State.nextFree_freeCtr _).trans (congrArg (· + 1) hctr)⟩
  case waits =>
    intro hs ha hr hf
    rw [State.record_waits _ _ _ _ _ hs ha hr hf]
    obtain ⟨hfifo, hmem, hkept, hnum⟩ := s.record_waits_facts r
    exact .next ⟨(congrArg Bbx.fifo (State.nextFree_bbx _)).trans hfifo, (State.nextFree_mem _).trans hmem, hkept.nextFree,
      (State.get_nextFree _ _).trans hnum⟩
  case dropped =>
    intro hs ha hr hf
    rw [State.record_dropped _ _ _ _ _ hs ha hr hf]
    obtain ⟨hfifo, hmem, hkept, hdrops⟩ := s.record_dropped_facts
    exact .next ⟨(congrArg Bbx.fifo (State.nextFree_bbx _)).trans hfifo, (State.nextFree_mem _).trans hmem, hkept.nextFree,
      (State.get_nextFree _ _).trans hdrops⟩
  case asleep =>
    intro hs
    rw [State.record_silent _ _ _ _ _ (.inl hs)]
    rfl

/-- Settles O9, command by command. That a release keeps FREEZEID in a field of the state, and so no byte of memory, is log
entries 25, 33 and 116; the energy of a block is the same for every block (entry 47). -/
theorem freezeAndSnapshotCommands : Obligations.FreezeAndSnapshotCommands := by
  refine ⟨fun ini src s hi => ⟨?begins, ?missed⟩, ?release, ?snapshot, ?start, ?block⟩
  case begins =>
    intro hc hk
    rw [exec_bbxFreezeCommand hi s, State.freeze_begins _ _ hc hk]
    obtain ⟨hid, htick, hcopy, -, -, -⟩ := s.freezeShown_facts 5 src
    have hregs : ∀ f, (((s.freezeShown 5 src).putSnapshot 1).withCopy f).regs = (s.freezeShown 5 src).regs :=
      fun f => (State.withCopy_regs _ f).trans (State.putSnapshot_regs _ _)
    refine .next ⟨(State.get_congr (hregs _) _).trans hid, (State.get_congr (hregs _) _).trans htick, ?_, ?_⟩
    · rw [State.flag, State.get_congr (hregs _)]
      exact hcopy
    · rw [State.withCopy_copy, State.get_congr (hregs _)]
  case missed =>
    intro h
    rw [exec_bbxFreezeCommand hi s, State.freeze_missed _ _ h]
    obtain ⟨hcount, hkept, hbytes, hcopy⟩ := s.missNoted_facts
    exact .next ⟨(State.get_setCause_apart _ _ _ _ (by decide) (by decide)).trans hcount,
      State.flag_setCause_self _ _ _ (by decide) (by decide) (by decide), (State.copy_setCause _ _ _).trans hcopy,
      hkept.setCause (by decide) _, hbytes.setCause _ _⟩
  case release =>
    intro ini s
    refine .next ⟨State.flag_putB_self _ _ _ (by decide) (by decide),
      ((WordsKept.refl _ s).putB (by decide) false).of_regs rfl, rfl, fun hv => ?_⟩
    have hv' : (s.putB Reg.BBX_STAT_HELD false).flag Reg.BBX_STAT_VALID = false :=
      (State.flag_putB_apart _ _ _ _ (by decide)).trans hv
    exact (if_neg (by simp [hv'])).trans (State.get_putB_apart _ _ _ _ (by decide))
  case snapshot =>
    intro s hp hf hr hs hc
    rw [exec_snapshot hp hf hr hs hc]
    have hregs := (s.advanceTo (s.fstart + 20000)).putSnapshot_regs 0
    refine .next ⟨?_, ((WordsKept.refl _ s).of_regs hregs).inc (by decide), ?_, fun a h => ?_⟩
    · rw [State.get_inc_self _ _ (by decide), State.get_congr hregs, State.get_advanceTo]
    · rw [State.inc_now, State.putSnapshot_now]
      exact Nat.le_max_right _ _
    · rw [State.byte_inc]
      exact (s.advanceTo (s.fstart + 20000)).byte_putSnapshot_out 0 a h
  case start =>
    intro f s hc hf hp hj he
    rw [exec_freezeCopyStart hc hf hp hj he]
    exact .next ⟨rfl, rfl, Nat.le_max_right _ _, rfl, rfl⟩
  case block =>
    intro f s hc hf hp hb he
    rw [exec_freezeBlockDone hc hf hp hb he]
    obtain ⟨m, hm⟩ := s.blockCopied_only f
    refine .next ⟨rfl, ?_, ?_, rfl⟩
    · rw [hm]
      rfl
    · rw [hm]
      exact Nat.max_eq_right (Nat.le_add_right _ _)

end

section
/-!
The host port (R363 to R374): its cycles and the pairs' words of the back buffer.
-/
namespace Sys2Proof.Machine

variable {l : List Nat} {s : State}

/-! ### Cycles (R369, R371, R372) -/

/-- The host's transaction and its output are apart from registers and memory. -/
def State.withHst (s : State) (h : Hst) : State := { s with hst := h }

theorem State.mailboxWrite_word {addr : Nat} (h : addr < 32) (v : Nat) :
    s.mailboxWrite addr v = { s with hst := { s.hst with mb := nset addr v s.hst.mb } } := if_pos h

theorem State.mailboxWrite_out {addr : Nat} (h : 32 ≤ addr) (v : Nat) :
    s.mailboxWrite addr v = s.setCause Reg.HST_CAUSE_WRADDR Ev.HST_SERVICE := if_neg (Nat.not_lt.2 h)

theorem exec_hostWrite (hm : s.hostMode = 1) {addr : Nat} (ha : addr < 4096) (data : BitVec 16) :
    exec (.hostWrite addr data) s = .next (s.mailboxWrite addr data.toNat) := by
  show execHostWrite addr data s = _
  rw [execHostWrite, if_pos hm, Nat.mod_eq_of_lt ha]

theorem exec_spiWordComplete_command (hm : s.hostMode = 2) (hs : s.hst.spi = none) (w : BitVec 16) :
    exec (.spiWordComplete w) s =
      .next { s with hst := { s.hst with spi := some (w.getLsbD 15, w.toNat % 4096) } } := by
  show execSpiWordComplete w s = _
  simp only [execSpiWordComplete, hm, hs]
  exact if_neg (by decide)

/-- A further word of a read: the live word goes out, and a read of word 0 lowers HIRQ (R371, R372). -/
theorem exec_spiWordComplete_read (hm : s.hostMode = 2) {addr : Nat} (hs : s.hst.spi = some (true, addr)) (w : BitVec 16) :
    exec (.spiWordComplete w) s = .next { s with hst := { s.hst with
      spi := some (true, (addr + 1) % 4096), spiOut := s.liveWord addr,
      hirq := if addr = 0 then none else s.hst.hirq } } := by
  show execSpiWordComplete w s = _
  simp only [execSpiWordComplete, hm, hs]
  rw [if_neg (by decide), if_pos trivial]
  split
  · rfl
  · rfl

/-- A further word of a write goes to the mailbox. -/
theorem exec_spiWordComplete_write (hm : s.hostMode = 2) {addr : Nat} (hs : s.hst.spi = some (false, addr)) (w : BitVec 16) :
    exec (.spiWordComplete w) s = .next (State.mailboxWrite
      { s with hst := { s.hst with spi := some (false, (addr + 1) % 4096) } } addr w.toNat) := by
  show execSpiWordComplete w s = _
  simp only [execSpiWordComplete, hm, hs]
  rw [if_neg (by decide), if_neg (by decide)]

theorem exec_spiDeselect (hm : s.hostMode = 2) (bits : Nat) : exec (.spiDeselect bits) s = .next
    (if bits % 16 = 0 then s.withHst { s.hst with spi := none }
      else (s.withHst { s.hst with spi := none }).setCause Reg.HST_CAUSE_SPIERR Ev.HST_SERVICE) :=
  if_neg (not_not.2 hm)

theorem exec_hirqTimeout {u : Nat} (h : s.hst.hirq = some u) :
    exec .hirqTimeout s = .next (s.advanceTo (u + 100000)).hostSeqRead := by
  show execHirqTimeout s = _
  rw [execHirqTimeout, h]

theorem exec_hostCycle_off (h : s.hostMode = 0) (addr bits : Nat) (data w : BitVec 16) :
    exec .hostReadSeq s = .next s ∧ exec (.hostWrite addr data) s = .next s ∧
    exec (.spiWordComplete w) s = .next s ∧ exec (.spiDeselect bits) s = .next s := by
  have h1 : ¬ s.hostMode = 1 := by omega
  have h2 : s.hostMode ≠ 2 := by omega
  exact ⟨congrArg Host.Outcome.next (if_neg h1), congrArg Host.Outcome.next (if_neg h1), if_pos h2, if_pos h2⟩

/-! ### The back buffer (R368) -/

/-- The page of the host port is on wherever there is a lead, as only the full build can be one. -/
theorem State.full_of_isLead (h : s.isLead = true) : s.full = true := by
  simp only [State.isLead, Bool.and_eq_true] at h
  exact h.2

/-- The back buffer with a word of 32 bits at an even address. -/
def State.backPut (s : State) (i : Nat) (v : Word) : State :=
  { s with hst := { s.hst with back := nset (i + 1) (v.toNat / 65536) (nset i (v.toNat % 65536) s.hst.back) } }

theorem exec_backBufferWrite {ini : Ini} (hl : s.isLead = true)
    (hr : backRange ini (s.get Reg.HST_BBADDR_INDEX / 2 * 2) = true) (v : Word) : exec (.backBufferWrite ini v) s = .next
      ((s.backPut (s.get Reg.HST_BBADDR_INDEX / 2 * 2) v).put Reg.HST_BBADDR_INDEX
        ((s.get Reg.HST_BBADDR_INDEX / 2 * 2 + 2) % 4096)) := by
  refine congrArg Host.Outcome.next ((s.onPage_full ini _ _ (State.full_of_isLead hl)).trans ?_)
  rw [State.backWrite, if_neg (by simp [hl]), if_pos hr]
  rfl

theorem exec_backBuffer_follower (hf : s.full = true) (hl : s.isLead = false) (ini : Ini) (v : Word) :
    exec (.backBufferWrite ini v) s = .next s ∧ exec (.backBufferDone ini) s = .next s :=
  ⟨congrArg Host.Outcome.next ((s.onPage_full ini _ _ hf).trans (if_pos (by simp [hl]))),
    congrArg Host.Outcome.next ((s.onPage_full ini _ _ hf).trans (if_pos (by simp [hl])))⟩

end Sys2Proof.Machine

open Sys2Proof Sys2Proof.Machine

/-- Settles O10, cycle by cycle. That bits 14 to 12 of the SPI command word are ignored is log entry 82. -/
theorem hostCycleCommands : Obligations.HostCycleCommands := by
  refine ⟨fun s hm => congrArg Host.Outcome.next (if_pos hm), ?mailbox, ?outside, fun w s hm hs => exec_spiWordComplete_command hm hs w, ?spiRead, ?spiWrite, ?deselect,
    ?timeout, fun addr data w bits s h => exec_hostCycle_off h addr bits data w⟩
  case mailbox =>
    intro addr data s hm ha
    rw [exec_hostWrite hm (by omega), State.mailboxWrite_word ha]
    exact .next ⟨nget_nset_self _ _ _, fun k hk => nget_nset_ne hk _ _, rfl, rfl⟩
  case outside =>
    intro addr data s hm h32 ha
    rw [exec_hostWrite hm ha, State.mailboxWrite_out h32]
    have hwords : QuietWordsKept [Reg.HST_CAUSE] s s := fun _ _ _ => rfl
    exact .next ⟨State.flag_setCause_self _ _ _ (by decide) (by decide) (by decide), State.setCause_hst _ _ _,
      hwords.setCause (by decide) _, (BytesKept.of_mem rfl).setCause _ _⟩
  case spiRead =>
    intro w addr s hm hs
    rw [exec_spiWordComplete_read hm hs]
    exact .next ⟨rfl, rfl, rfl, fun h => if_pos h, rfl, rfl⟩
  case spiWrite =>
    intro w addr s hm hs ha
    rw [exec_spiWordComplete_write hm hs, State.mailboxWrite_word ha]
    exact .next ⟨rfl, nget_nset_self _ _ _, rfl, rfl⟩
  case deselect =>
    intro bits s hm
    have hwords : QuietWordsKept [Reg.HST_CAUSE] s (s.withHst { s.hst with spi := none }) := fun _ _ _ => rfl
    rw [exec_spiDeselect hm]
    split
    next h => exact .next ⟨rfl, fun _ => ⟨rfl, rfl⟩, fun h' => absurd h h', hwords, .of_mem rfl⟩
    next h =>
      refine .next ⟨State.setCause_hst _ _ _, fun h' => absurd h' h, fun _ =>
        State.flag_setCause_self _ _ _ (by decide) (by decide) (by decide), ?_, ?_⟩
      · exact hwords.setCause (by decide) _
      · exact (BytesKept.of_mem rfl).setCause _ _
  case timeout =>
    intro u s h
    rw [exec_hirqTimeout h]
    exact .next ⟨rfl, rfl, rfl, rfl⟩

/-- Settles O11. That a write by a follower has no effect is log entry 128. -/
theorem backBufferCommands : Obligations.BackBufferCommands := by
  refine ⟨?write, ?done, fun ini v s hf hl => exec_backBuffer_follower hf hl ini v⟩
  case write =>
    intro ini v s hl hr i
    rw [exec_backBufferWrite hl hr]
    refine .next ⟨?_, nget_nset_self _ _ _, fun k h0 h1 => ?_, ?_, ?_, rfl⟩
    · exact (nget_nset_ne (Nat.ne_of_lt (Nat.lt_succ_self i)) _ _).trans (nget_nset_self _ _ _)
    · exact (nget_nset_ne h1 _ _).trans (nget_nset_ne h0 _ _)
    · exact (State.get_put_self _ _ _ (by decide)).trans (Nat.mod_mod _ _)
    · exact ((WordsKept.refl _ s).of_regs rfl).put (by decide) _
  case done =>
    intro s hl
    have hdone : ∀ ini, exec (.backBufferDone ini) s = .next (s.backDone ini) :=
      fun ini => congrArg Host.Outcome.next (s.onPage_full ini _ _ (State.full_of_isLead hl))
    have hlead : ¬ (!s.isLead) = true := by simp [hl]
    exact ⟨(hdone .pairA).trans (congrArg Host.Outcome.next (if_neg hlead)),
      (hdone .pairB).trans (congrArg Host.Outcome.next (if_neg hlead))⟩

end

section
/-!
Program regions, data MRAM and the one-time-programmable memory (R319 to R329).
-/
namespace Sys2Proof.Machine

variable {l : List Nat} {s t : State}

/-! ### Regions (R320, R329) -/

theorem regstatField_fits {r : Nat} (h : r < 4) : (regstatField r).lo + (regstatField r).wid ≤ 32 := by
  simp only [regstatField]
  omega

theorem State.get_regstat_put {r : Nat} (h : r < 4) {v : Nat} (hv : v < 4) :
    (s.put (regstatField r) v).get (regstatField r) = v :=
  (State.get_put_self _ _ _ (regstatField_fits h)).trans (Nat.mod_eq_of_lt hv)

theorem State.nvm_accessFault (ini : Ini) (w : Bool) (a : Nat) : (s.accessFault ini w a).nvm = s.nvm := by
  simp [State.accessFault, State.accessRecord]

/-- A write into a region that may be written, with no commit armed (R320). -/
theorem exec_programRegionWrite_stored {ini : Ini} {addr : Nat} (ha : addr < 0x800000) (hi : ini ≠ .debug)
    (hact : s.regionActive (addr / 0x200000) = false) (hwe : s.bit Reg.NVM_PGMWE_WE (addr / 0x200000) = true)
    (hm : s.stg.mask = 0) (v : Word) : exec (.programRegionWrite ini addr v) s =
      .next ((s.setMemWord addr v.toNat).put (regstatField (addr / 0x200000)) 0) := by
  have hr : ¬ 3 < addr / 0x200000 := by omega
  have harmed : ∀ n, ((s.setMemWord addr v.toNat).put (regstatField (addr / 0x200000)) 0).armedPage n = false := by
    intro n
    simp [State.armedPage, hm]
  show execProgramRegionWrite ini addr v s = _
  rw [execProgramRegionWrite, if_neg (by simp [hr, hi, hact, hwe])]
  exact congrArg Host.Outcome.next (if_neg (by simp [harmed]))

theorem exec_programRegionWrite_refused {ini : Ini} {addr : Nat} (h : ini = .debug ∨ s.regionActive (addr / 0x200000) = true ∨
    s.bit Reg.NVM_PGMWE_WE (addr / 0x200000) = false) (v : Word) :
    exec (.programRegionWrite ini addr v) s = .next (s.accessFault ini true addr) :=
  if_pos (.inr (by simpa using h))

theorem exec_dataMramStore_stored {p : Pair} {addr : Nat} (hr : s.pairRuns p = true) (hw : dataWritable addr = true)
    (hb : s.portBusy = false) (v : Word) : exec (.dataMramStore p addr v) s = .next (s.setMemWord addr v.toNat) := by
  show execDataMramStore p addr v s = _
  rw [execDataMramStore, if_neg (by simp [hr]), if_neg (by simp [hw]), hb]
  rfl

theorem exec_dataMramStore_fault {p : Pair} {addr : Nat} (hr : s.pairRuns p = true) (hw : dataWritable addr = false)
    (v : Word) : exec (.dataMramStore p addr v) s = .next (s.pairFault p true) :=
  (if_neg (by simp [hr])).trans (if_pos (by simp [hw]))

theorem State.pairFault_facts (s : State) (p : Pair) (w : Bool) :
    ((s.pairFault p w).core p).mcause = (if w then 7 else 5) ∧ ((s.pairFault p w).core p).faults = (s.core p).faults + 1 ∧
    (s.pairFault p w).regs = s.regs ∧ (s.pairFault p w).mem = s.mem := by
  obtain ⟨-, hregs, hmem, -⟩ := s.setCore_facts p
    { s.core p with faults := (s.core p).faults + 1, mcause := if w then 7 else 5 }
  exact ⟨congrArg Core.mcause (State.core_setCore _ _ _), congrArg Core.faults (State.core_setCore _ _ _), hregs, hmem⟩

/-! ### Verification (R329) -/

/-- The region of a verification. -/
def State.withVerify (s : State) (r : Option Nat) : State := { s with nvm := { s.nvm with verify := r } }

theorem exec_regionVerify (h : s.nvm.verify = none) (ini : Ini) : exec (.regionVerify ini) s =
    .next (((s.withVerify (some (s.get Reg.NVM_VSEL_REGION))).putB Reg.NVM_STAT_VBUSY true).put
      (regstatField (s.get Reg.NVM_VSEL_REGION)) 1) :=
  if_neg (by simp [h])

/-- What header and signature are checked against: the bytes, the keys, the revoked slots and SVNMIN. -/
theorem State.regionOk_congr (hm : t.mem = s.mem) (hk : t.nvm.key = s.nvm.key)
    (hrev : t.get Reg.NVM_KEYREV_REV = s.get Reg.NVM_KEYREV_REV) (hsvn : t.get Reg.NVM_SVN_MIN = s.get Reg.NVM_SVN_MIN)
    (r : Nat) : t.regionOk r = s.regionOk r := by
  have hb : ∀ a n, t.bytes a n = s.bytes a n := fun a n => State.bytes_congr (fun b => by rw [State.byte, State.byte, hm]) a n
  have hnum : ∀ a n, t.num a n = s.num a n := fun a n => congrArg ofLeBytes (hb a n)
  have husable : ∀ k, t.keyUsable k = s.keyUsable k := fun k => by rw [State.keyUsable, State.keyUsable, hk, State.bit, State.bit, hrev]
  have hkey : ∀ k, t.keyBytes k = s.keyBytes k := fun k => by rw [State.keyBytes, State.keyBytes, hk]
  unfold State.regionOk
  rw [hsvn]
  simp only [hnum, hb, husable, hkey]

/-- A verification that ends: its busy flag is clear. -/
def State.verifyEnded (s : State) : State := (s.withVerify none).putB Reg.NVM_STAT_VBUSY false

theorem State.verifyEnded_facts (s : State) : s.verifyEnded.nvm.verify = none ∧ s.verifyEnded.nvm.key = s.nvm.key ∧
    s.verifyEnded.mem = s.mem ∧ s.verifyEnded.flag Reg.NVM_STAT_VBUSY = false ∧ WordsKept [Reg.NVM_STAT] s s.verifyEnded :=
  ⟨rfl, rfl, rfl, State.flag_putB_self _ _ _ (by decide) (by decide), ((WordsKept.refl _ s).of_regs rfl).putB (by decide) _⟩

theorem exec_regionVerifyDone {r : Nat} (h : s.nvm.verify = some r) : exec .regionVerifyDone s =
    .next (if s.get (regstatField r) = 1 then s.verifyEnded.regionResult r (s.regionOk r) else s.verifyEnded) := by
  obtain ⟨-, hkey, hmem, -, hwords⟩ := s.verifyEnded_facts
  have hget : s.verifyEnded.get (regstatField r) = s.get (regstatField r) :=
    hwords.get _ (show Reg.NVM_REGSTAT ∉ [Reg.NVM_STAT] by decide)
  have hok : s.verifyEnded.regionOk r = s.regionOk r :=
    State.regionOk_congr hmem hkey (hwords.get _ (by decide)) (hwords.get _ (by decide)) r
  show execRegionVerifyDone s = _
  rw [execRegionVerifyDone, h, ← hget, ← hok]
  rfl

/-- The result of a verification stands in REGSTAT; nothing but REGSTAT and REGSVN is written. -/
theorem State.regionResult_facts (s : State) {r : Nat} (h : r < 4) (ok : Bool) :
    (s.regionResult r ok).get (regstatField r) = (if ok then 2 else 3) ∧
    WordsKept [Reg.NVM_REGSTAT, Reg.NVM_REGSVN] s (s.regionResult r ok) ∧
    (s.regionResult r ok).flag Reg.NVM_STAT_VBUSY = s.flag Reg.NVM_STAT_VBUSY ∧ (s.regionResult r ok).mem = s.mem ∧ (s.regionResult r ok).nvm = s.nvm := by
  have hstat : (regstatField r).addr ∈ [Reg.NVM_REGSTAT, Reg.NVM_REGSVN] := by simp [regstatField]
  have hsvn : (regsvnField r).addr ∈ [Reg.NVM_REGSTAT, Reg.NVM_REGSVN] := by simp [regsvnField]
  have hapart : (regsvnField r).apart (regstatField r) = true :=
    Fld.apart_of_addr (show Reg.NVM_REGSVN ≠ Reg.NVM_REGSTAT by decide)
  cases ok with
  | false =>
    have hw : WordsKept [Reg.NVM_REGSTAT, Reg.NVM_REGSVN] s (s.put (regstatField r) 3) := (WordsKept.refl _ s).put hstat _
    exact ⟨State.get_regstat_put h (by decide), hw, hw.flag _ (by decide), rfl, rfl⟩
  | true =>
    have hw : WordsKept [Reg.NVM_REGSTAT, Reg.NVM_REGSVN] s (s.regionResult r true) :=
      ((WordsKept.refl _ s).put hstat _).put hsvn _
    have hres : (s.regionResult r true).get (regstatField r) = 2 :=
      (State.get_put_apart _ _ _ _ hapart).trans (State.get_regstat_put h (by decide))
    exact ⟨hres, hw, hw.flag _ (by decide), rfl, rfl⟩

/-! ### One-time-programmable words (R326, R329) -/

theorem exec_svnminWrite_low {v : Nat} (h : v % 64 ≤ s.get Reg.NVM_SVN_MIN) (ini : Ini) :
    exec (.svnminWrite ini v) s = .next s := if_pos h

theorem exec_svnminWrite_high {v : Nat} (h : s.get Reg.NVM_SVN_MIN < v % 64)
    (hsvn : ∀ p : Pair, v % 64 ≤ s.num (regionBase (s.activeRegion p) + 0x10) 1) (ini : Ini) :
    exec (.svnminWrite ini v) s = .next (s.put Reg.NVM_SVN_MIN (v % 64)) :=
  (if_neg (Nat.not_le.2 h)).trans (if_neg (by simp [hsvn]))

/-- SVNMIN after a write of it: kept, or refused, or raised. -/
theorem exec_svnminWrite_or (ini : Ini) (v : Nat) (s : State) :
    exec (.svnminWrite ini v) s = .next s ∨ exec (.svnminWrite ini v) s = .next (s.accessFault ini true Reg.NVM_SVN) ∨
    (s.get Reg.NVM_SVN_MIN < v % 64 ∧ exec (.svnminWrite ini v) s = .next (s.put Reg.NVM_SVN_MIN (v % 64))) := by
  by_cases h : v % 64 ≤ s.get Reg.NVM_SVN_MIN
  · exact .inl (if_pos h)
  by_cases hb : ([Pair.a, Pair.b].any fun p => decide (s.num (regionBase (s.activeRegion p) + 0x10) 1 < v % 64)) = true
  · exact .inr (.inl ((if_neg h).trans (if_pos hb)))
  · exact .inr (.inr ⟨Nat.not_le.1 h, (if_neg h).trans (if_neg hb)⟩)

theorem State.get_svnmin_put (s : State) (v : Nat) : (s.put Reg.NVM_SVN_MIN (v % 64)).get Reg.NVM_SVN_MIN = v % 64 :=
  (State.get_put_self _ _ _ (by decide)).trans (Nat.mod_mod _ _)

/-- The key slots of a mask revoked. -/
def State.revoked (s : State) (m : Nat) : State := s.put Reg.NVM_KEYREV_REV (s.get Reg.NVM_KEYREV_REV ||| m)

theorem State.get_revoked (s : State) (m : Nat) :
    (s.revoked (m % 4)).get Reg.NVM_KEYREV_REV = s.get Reg.NVM_KEYREV_REV ||| m % 4 := by
  have h : s.get Reg.NVM_KEYREV_REV < 2 ^ 2 := Fld.extract_lt _ _
  have hm : m % 4 < 2 ^ 2 := Nat.mod_lt _ (by decide)
  exact (State.get_put_self _ _ _ (by decide)).trans (Nat.mod_eq_of_lt (Nat.or_lt_two_pow h hm))

/-- A slot outside the mask stays usable. -/
theorem State.keyUsable_revoked {k m : Nat} (hu : s.keyUsable k = true) (hm : m.testBit k = false) :
    (s.revoked (m % 4)).keyUsable k = true := by
  have hmod : (m % 2 ^ 2).testBit k = false := by rw [Nat.testBit_mod_two_pow, hm, Bool.and_false]
  simp only [State.keyUsable, Bool.and_eq_true, Bool.not_eq_true', State.bit] at hu ⊢
  obtain ⟨hwords, hrev⟩ := hu
  refine ⟨hwords, ?_⟩
  rw [State.get_revoked, Nat.testBit_or, hrev, Bool.false_or]
  exact hmod

theorem exec_keyRevoke {m : Nat} (hm : m % 4 ≠ 0)
    (hused : ∀ p : Pair, (m % 4).testBit (s.num (regionBase (s.activeRegion p) + 7) 1) = false)
    (hslot : ∃ k, k < 2 ∧ s.keyUsable k = true ∧ m.testBit k = false) (ini : Ini) :
    exec (.keyRevoke ini m) s = .next (s.revoked (m % 4)) := by
  obtain ⟨k, hk, hu, hbit⟩ := hslot
  have hstays : ((s.revoked (m % 4)).keyUsable 0 || (s.revoked (m % 4)).keyUsable 1) = true := by
    have := State.keyUsable_revoked hu hbit
    obtain rfl | rfl : k = 0 ∨ k = 1 := by omega
    · rw [this, Bool.true_or]
    · rw [this, Bool.or_true]
  refine (if_neg hm).trans (if_neg ?_)
  change ¬ (_ || !((s.revoked (m % 4)).keyUsable 0 || (s.revoked (m % 4)).keyUsable 1)) = true
  simp [hstays, hused]

/-- A revocation keeps all, is refused, or sets its bits. -/
theorem exec_keyRevoke_or (ini : Ini) (m : Nat) (s : State) :
    exec (.keyRevoke ini m) s = .next s ∨ exec (.keyRevoke ini m) s = .next (s.accessFault ini true Reg.NVM_KEYREV) ∨
    exec (.keyRevoke ini m) s = .next (s.revoked (m % 4)) := by
  by_cases h : m % 4 = 0
  · exact .inl (if_pos h)
  by_cases hb : (([Pair.a, Pair.b].any fun p => (m % 4).testBit (s.num (regionBase (s.activeRegion p) + 7) 1)) ||
      !((s.revoked (m % 4)).keyUsable 0 || (s.revoked (m % 4)).keyUsable 1)) = true
  · exact .inr (.inl ((if_neg h).trans (if_pos hb)))
  · exact .inr (.inr ((if_neg h).trans (if_neg hb)))

/-- A key word programmed. -/
def State.keyPut (s : State) (i : Nat) (v : Word) : State :=
  { s with nvm := { s.nvm with key := nset i (v.toNat + 1) s.nvm.key } }

theorem exec_otpKeyWrite (ini : Ini) (v : Word) (s : State) : exec (.otpKeyWrite ini v) s =
    if s.slotBlank (s.get Reg.NVM_OTPADDR_INDEX / 16) = true ∧ nget (s.get Reg.NVM_OTPADDR_INDEX) s.nvm.key = 0 then
      .next (s.keyPut (s.get Reg.NVM_OTPADDR_INDEX) v) else .next s := rfl

theorem State.otpRead_keyPut (s : State) (v : Word) : (s.keyPut (s.get Reg.NVM_OTPADDR_INDEX) v).otpRead = v := by
  have hkey : nget (s.get Reg.NVM_OTPADDR_INDEX) (s.keyPut (s.get Reg.NVM_OTPADDR_INDEX) v).nvm.key = v.toNat + 1 :=
    nget_nset_self (s.get Reg.NVM_OTPADDR_INDEX) (v.toNat + 1) s.nvm.key
  show BitVec.ofNat 32 (nget (s.get Reg.NVM_OTPADDR_INDEX) (s.keyPut (s.get Reg.NVM_OTPADDR_INDEX) v).nvm.key - 1) = v
  rw [hkey]
  simp

/-- A refused access leaves a flag of another word. -/
theorem State.flag_accessFault (ini : Ini) (w : Bool) (a : Nat) (f : Fld) (h : quiet f.addr = true)
    (h1 : f.addr ≠ Reg.SYS_ACCINFO) (h2 : f.addr ≠ Reg.SYS_ACCADDR) : (s.accessFault ini w a).flag f = s.flag f := by
  simp only [State.flag, State.get, State.word_accessFault _ _ _ _ _ h h1 h2]

end Sys2Proof.Machine

open Sys2Proof Sys2Proof.Machine

/-- Settles O12, command by command. The access fault of a debug write is log entry 46, the blank key words entry 45 and the
port entry 70. -/
theorem programMemoryCommands : Obligations.ProgramMemoryCommands := by
  refine ⟨?stored, fun ini addr v s h => ⟨exec_programRegionWrite_refused h v, fun a ha => s.byte_accessFault _ _ _ _ ha⟩,
    fun p addr v s hr hw hb => exec_dataMramStore_stored hr hw hb v, ?storeFault, ?verify, ?verifyDone,
    fun ini v s h => exec_svnminWrite_low h ini, ?svn, ?revoke, ?debugLock, fun ini v s => ⟨?program, ?programmed⟩⟩
  case stored =>
    intro ini addr v s ha hi hact hwe hm
    rw [exec_programRegionWrite_stored ha hi hact hwe hm]
    have hr : addr / 0x200000 < 4 := by omega
    have hwords : WordsKept [Reg.NVM_REGSTAT] s (s.setMemWord addr v.toNat) :=
      (WordsKept.refl _ s).of_regs (State.setMemWord_regs _ _ _)
    exact .next ⟨State.get_regstat_put hr (by decide), State.put_mem _ _ _, hwords.put (List.mem_singleton.2 rfl) _⟩
  case storeFault =>
    intro p addr v s hr hw
    rw [exec_dataMramStore_fault hr hw]
    obtain ⟨hcause, -, hregs, hmem⟩ := s.pairFault_facts p true
    exact .next ⟨hcause, hregs, hmem⟩
  case verify =>
    intro ini s h
    rw [exec_regionVerify h]
    have hr : s.get Reg.NVM_VSEL_REGION < 4 := Fld.extract_lt _ _
    refine .next ⟨rfl, ?_, State.get_regstat_put hr (by decide), rfl⟩
    exact (State.flag_put_apart _ _ _ _ (Fld.apart_of_addr (show Reg.NVM_REGSTAT ≠ Reg.NVM_STAT by decide))).trans
      (State.flag_putB_self _ _ _ (by decide) (by decide))
  case verifyDone =>
    intro r s hv hr
    rw [exec_regionVerifyDone hv]
    obtain ⟨hnone, -, hendMem, hbusy, hwords⟩ := s.verifyEnded_facts
    have hstat : s.verifyEnded.get (regstatField r) = s.get (regstatField r) :=
      hwords.get _ (show Reg.NVM_REGSTAT ∉ [Reg.NVM_STAT] by decide)
    obtain ⟨hres, hkept, hresBusy, hmem, hnvm⟩ := s.verifyEnded.regionResult_facts hr (s.regionOk r)
    split
    next h => exact .next ⟨(congrArg Nvm.verify hnvm).trans hnone, hresBusy.trans hbusy, hmem.trans hendMem, fun _ => hres, fun hne => absurd h hne,
        (hwords.mono (by decide)).trans (hkept.mono (by decide))⟩
    next h => exact .next ⟨hnone, hbusy, hendMem, fun he => absurd he h, fun _ => hstat, hwords.mono (by decide)⟩
  case svn =>
    intro ini v s h hsvn
    rw [exec_svnminWrite_high h hsvn]
    exact .next ⟨s.get_svnmin_put v, (WordsKept.refl _ s).put (by decide) _, rfl⟩
  case revoke =>
    intro ini m s hm hused hslot
    rw [exec_keyRevoke hm hused hslot]
    exact .next ⟨s.get_revoked m, (WordsKept.refl _ s).put (by decide) _, rfl⟩
  case debugLock =>
    intro ini s
    exact .next ⟨State.flag_putB_self _ _ _ (by decide) (by decide), (WordsKept.refl _ s).putB (by decide) _, rfl⟩
  case program =>
    intro hb h0
    rw [exec_otpKeyWrite, if_pos ⟨hb, h0⟩]
    exact .next ⟨s.otpRead_keyPut v, rfl, rfl, fun k hk => nget_nset_ne hk (v.toNat + 1) s.nvm.key⟩
  case programmed =>
    intro h
    rw [exec_otpKeyWrite, if_neg fun hc => h hc.2]

/-- Settles O13, command by command. -/
theorem registerAccessLocks : Obligations.RegisterAccessLocks := by
  refine ⟨?svn, ?revoked, ?programmed, fun ini v m w s hd =>
    ⟨.next (State.flag_putB_self _ _ _ (by decide) (by decide)), ?lockSvn, ?lockRevoke, ?lockKey⟩⟩
  case svn =>
    intro ini v s
    obtain h | h | ⟨hlt, h⟩ := exec_svnminWrite_or ini v s <;> rw [h]
    · exact .next ⟨le_rfl, rfl⟩
    · refine .next ⟨?_, by rw [State.nvm_accessFault]⟩
      rw [State.get, State.get, s.word_accessFault _ _ _ _ (by decide) (by decide) (by decide)]
    · exact .next ⟨(s.get_svnmin_put v).symm ▸ hlt.le, rfl⟩
  case revoked =>
    intro ini m i s hi
    obtain h | h | h := exec_keyRevoke_or ini m s <;> rw [h]
    · exact .next ⟨hi, rfl⟩
    · refine .next ⟨?_, by rw [State.nvm_accessFault]⟩
      rw [State.bit, State.get, s.word_accessFault _ _ _ _ (by decide) (by decide) (by decide)]
      exact hi
    · refine .next ⟨?_, rfl⟩
      have hi' : (s.get Reg.NVM_KEYREV_REV).testBit i = true := hi
      rw [State.bit, s.get_revoked, Nat.testBit_or, hi', Bool.true_or]
  case programmed =>
    intro ini v s
    rw [exec_otpKeyWrite]
    split
    next h =>
      obtain ⟨-, h0⟩ := h
      exact .next ⟨rfl, fun k hk => nget_nset_ne (fun e => hk (by rw [e, h0])) (v.toNat + 1) s.nvm.key⟩
    next => exact .next ⟨rfl, fun _ _ => rfl⟩
  case lockSvn =>
    obtain h | h | ⟨-, h⟩ := exec_svnminWrite_or ini v s <;> rw [h]
    · exact .next hd
    · exact .next ((State.flag_accessFault _ _ _ _ (by decide) (by decide) (by decide)).trans hd)
    · exact .next ((State.flag_put_apart _ _ _ _ (by decide)).trans hd)
  case lockRevoke =>
    obtain h | h | h := exec_keyRevoke_or ini m s <;> rw [h]
    · exact .next hd
    · exact .next ((State.flag_accessFault _ _ _ _ (by decide) (by decide) (by decide)).trans hd)
    · exact .next ((State.flag_put_apart _ _ _ _ (by decide)).trans hd)
  case lockKey =>
    rw [exec_otpKeyWrite]
    split
    next => exact .next hd
    next => exact .next hd

end

section
/-!
The pump drive (R291 to R304): the ends of its waits, its loop, and its gate supply.
-/
namespace Sys2Proof.Machine

variable {l : List Nat} {s t : State}

/-! ### Entering a state of Table 13.2 -/

theorem State.pmpZero_facts (s : State) (b : Bool) :
    (s.pmpZero b).pmpState = 6 ∧ (s.pmpZero b).pmp.toOff = b ∧ (s.pmpZero b).pmp.since = s.now ∧
    WordsKept [Reg.PMP_STAT] s (s.pmpZero b) ∧ (s.pmpZero b).mem = s.mem :=
  ⟨(State.get_put_self _ _ _ (by decide)).trans rfl, rfl, rfl, ((WordsKept.refl _ s).of_regs rfl).put (by decide) _, rfl⟩

/-- An open bridge: no current is asked for, no lock is shown, and field weakening is off. -/
theorem State.pmpOpen_pmp (s : State) (st : Nat) : (s.pmpOpen st).pmp = { s.pmp with
    iqRef := 0, ref := 0, idRef := 0, since := s.now, angN := 0, emfN := 0, ocN := 0 } := rfl

theorem State.pmpSetId_kept (s : State) (i : Rat) : WordsKept [Reg.PMP_STAT] s (s.pmpSetId i) :=
  ((WordsKept.refl _ s).of_regs rfl).putB (by decide) _

/-- No current is asked for. -/
def State.pmpAtRest (s : State) : State := { s with pmp := { s.pmp with iqRef := 0, ref := 0 } }

/-- The bridge opens, then the state is entered. -/
theorem State.pmpOpen_eq (s : State) (st : Nat) :
    s.pmpOpen st = ((s.pmpAtRest.pmpSetId 0).putB Reg.PMP_STAT_LOCK false).pmpEnter st := rfl

theorem State.pmpOpen_facts (s : State) {st : Nat} (h : st < 16) :
    (s.pmpOpen st).pmpState = st ∧ (s.pmpOpen st).pmpFw = false ∧ (s.pmpOpen st).flag Reg.PMP_STAT_LOCK = false ∧
    WordsKept [Reg.PMP_STAT] s (s.pmpOpen st) ∧ (s.pmpOpen st).mem = s.mem ∧ (s.pmpOpen st).now = s.now := by
  have hrest : WordsKept [Reg.PMP_STAT] s s.pmpAtRest := fun _ _ => rfl
  have hkept := (hrest.trans (s.pmpAtRest.pmpSetId_kept 0)).putB (f := Reg.PMP_STAT_LOCK) (by decide) false
  have hlock : ((s.pmpAtRest.pmpSetId 0).putB Reg.PMP_STAT_LOCK false).flag Reg.PMP_STAT_LOCK = false :=
    State.flag_putB_self _ _ _ (by decide) (by decide)
  obtain ⟨hst, -, -, hw, hmem⟩ := ((s.pmpAtRest.pmpSetId 0).putB Reg.PMP_STAT_LOCK false).pmpEnter_facts st h
  have hfw : (s.pmpOpen st).pmpFw = false := by
    rw [State.pmpFw, State.pmpOpen_pmp]
    rfl
  rw [State.pmpOpen_eq] at hfw ⊢
  exact ⟨hst, hfw, (State.flag_put_apart _ _ _ _ (by decide)).trans hlock, hkept.trans hw, hmem, rfl⟩

/-- A failed attempt waits with the bridge open (R304). -/
theorem State.pmpFail_facts (s : State) (e : Event) : (s.pmpFail e).pmpState = 8 ∧ (s.pmpFail e).pmpFw = false := by
  obtain ⟨hst, hfw, -, -, -, -⟩ := (s.incSat Reg.PMP_ATTEMPT_COUNT).pmpOpen_facts (st := 8) (by decide)
  refine ⟨(State.get_raise _ _ _ (by decide)).trans hst, ?_⟩
  rw [State.pmpFw] at hfw ⊢
  rwa [State.pmpFail, State.raise_pmp]

/-- A commanded stop ends with the bridge open (R298). -/
theorem State.pmpStopped_facts (s : State) : s.pmpStopped.pmpState = 0 ∧ s.pmpStopped.pmpFw = false := by
  obtain ⟨hst, hfw, -, -, -, -⟩ := s.pmpOpen_facts (st := 0) (by decide)
  refine ⟨(State.get_raise _ _ _ (by decide)).trans hst, ?_⟩
  rw [State.pmpFw] at hfw ⊢
  rwa [State.pmpStopped, State.raise_pmp]

/-! ### The ends of the waits -/

/-- The end of the listening interval, decided on the speed heard. -/
theorem exec_listenEnd (rpm : Int) (h : s.pmpState = 1) (hg : s.pmp.gateBad = false) : exec (.listenEnd rpm) s =
    if 0 < s.pmpHeard rpm ∧ (((s.advanceTo (s.pmp.since + 2000000)).putSatI Reg.PMP_SPD_RPM (s.pmpHeard rpm)).pmpNmax : Int) <
        s.pmpHeard rpm then
      .next (((s.advanceTo (s.pmp.since + 2000000)).putSatI Reg.PMP_SPD_RPM (s.pmpHeard rpm)).pmpZero false)
    else if 0 < s.pmpHeard rpm ∧ ((s.advanceTo (s.pmp.since + 2000000)).putSatI Reg.PMP_SPD_RPM
        (s.pmpHeard rpm)).pmpTarget ≤ 10 * s.pmpHeard rpm then
      .next (((s.advanceTo (s.pmp.since + 2000000)).putSatI Reg.PMP_SPD_RPM (s.pmpHeard rpm)).pmpRun (s.pmpHeard rpm))
    else if 0 ≤ s.pmpHeard rpm ∨ (s.pmpHeard rpm).natAbs <
        ((s.advanceTo (s.pmp.since + 2000000)).putSatI Reg.PMP_SPD_RPM (s.pmpHeard rpm)).get Reg.PMP_CATCH_BRKMAX then
      .next (((s.advanceTo (s.pmp.since + 2000000)).putSatI Reg.PMP_SPD_RPM (s.pmpHeard rpm)).pmpEnter 2)
    else .next (((s.advanceTo (s.pmp.since + 2000000)).putSatI Reg.PMP_SPD_RPM (s.pmpHeard rpm)).pmpFail Ev.PMP_REVERSE) :=
  if_pos ⟨h, by simp [hg]⟩

theorem exec_phaseNodeOvervoltage {ph vbat : Nat} (h : s.pmpState = 1) (hg : s.pmp.gateBad = false) (hv : vbat + 300 < ph) :
    exec (.phaseNodeOvervoltage ph vbat) s = .next (s.pmpZero false) := if_pos ⟨h, by simp [hg], hv⟩

theorem exec_brakeTimeout (rpm : Int) (h : s.pmpState = 2) (hg : s.pmp.gateBad = false) : exec (.brakeTimeout rpm) s =
    if rpm < 0 ∧ (s.advanceTo (s.pmp.since + 50000000)).pmpTarget ≤ (10 * rpm.natAbs : Nat) then
      .next ((s.advanceTo (s.pmp.since + 50000000)).pmpFail Ev.PMP_REVERSE)
    else .next ((s.advanceTo (s.pmp.since + 50000000)).pmpEnter 3) :=
  if_pos ⟨h, by simp [hg]⟩

theorem exec_alignEnd (h : s.pmpState = 3) (hg : s.pmp.gateBad = false) : exec .alignEnd s =
    .next ((s.advanceTo (s.pmp.since + 1000000 * clampN 1 100 (s.get Reg.PMP_START_ALIGNT))).pmpEnter 4) :=
  if_pos ⟨h, by simp [hg]⟩

theorem exec_zeroVectorEnd (h : s.pmpState = 6) (hg : s.pmp.gateBad = false) : exec .zeroVectorEnd s =
    if s.pmp.toOff = true then .next (s.advanceTo (s.pmp.since + s.pmpZv)).pmpStopped
    else if (s.advanceTo (s.pmp.since + s.pmpZv)).pmpSpent = true then .next ((s.advanceTo (s.pmp.since + s.pmpZv)).pmpOpen 8)
    else .next ((s.advanceTo (s.pmp.since + s.pmpZv)).pmpOpen 1) :=
  if_pos ⟨h, by simp [hg]⟩

theorem exec_retryDelayEnd (h : s.pmpState = 8) (hg : s.pmp.gateBad = false) : exec .retryDelayEnd s =
    if (s.advanceTo (s.pmp.since + 10000000 * clampN 1 255 (s.get Reg.PMP_CATCH_RETRYDLY))).pmpSpent = true then
      .next (((s.advanceTo (s.pmp.since + 10000000 * clampN 1 255 (s.get Reg.PMP_CATCH_RETRYDLY))).pmpEnter 9).raise
        Ev.PMP_GIVEUP)
    else .next ((s.advanceTo (s.pmp.since + 10000000 * clampN 1 255 (s.get Reg.PMP_CATCH_RETRYDLY))).pmpEnter 1) :=
  if_pos ⟨h, by simp [hg]⟩

theorem exec_runAttemptReset (h : s.pmpState = 5) : exec .runAttemptReset s =
    .next ((s.advanceTo (s.pmp.runAt + 6000000000)).put Reg.PMP_ATTEMPT_COUNT 0) := if_pos h

/-- In OFF and GIVEUP no wait runs. -/
theorem exec_pumpWaits_idle (h : s.pmpState = 0 ∨ s.pmpState = 9) (rpm : Int) (ph vbat : Nat) :
    exec (.listenEnd rpm) s = .next s ∧ exec (.phaseNodeOvervoltage ph vbat) s = .next s ∧ exec (.brakeTimeout rpm) s = .next s ∧
    exec .alignEnd s = .next s ∧ exec .zeroVectorEnd s = .next s ∧ exec .retryDelayEnd s = .next s ∧
    exec .runAttemptReset s = .next s := by
  have hne : ∀ n, 1 ≤ n → n ≤ 8 → s.pmpState ≠ n := by omega
  refine ⟨if_neg fun hc => ?_, if_neg fun hc => ?_, if_neg fun hc => ?_, if_neg fun hc => ?_, if_neg fun hc => ?_,
    if_neg fun hc => ?_, if_neg (hne 5 (by decide) (by decide))⟩
  · exact hne 1 (by decide) (by decide) hc.1
  · exact hne 1 (by decide) (by decide) hc.1
  · exact hne 2 (by decide) (by decide) hc.1
  · exact hne 3 (by decide) (by decide) hc.1
  · exact hne 6 (by decide) (by decide) hc.1
  · exact hne 8 (by decide) (by decide) hc.1

/-! ### The loop and the gate supply (R294, R297, R303) -/

/-- In WAIT, GIVEUP, LISTEN and ZERO a loop instant changes nothing of the sequence. -/
theorem State.pmpAdvance_idle (h : s.pmpState = 8 ∨ s.pmpState = 9 ∨ s.pmpState = 1 ∨ s.pmpState = 6) (rpm : Int) (a : Nat)
    (e l : Bool) : s.pmpAdvance rpm a e l = s := by
  have h0 : ¬ (s.pmpState = 0 ∧ s.flag Reg.PMP_STAT_ARMED = true ∧ ¬ s.pmp.gateBad = true ∧
      (5 * s.pmpObsmin : Nat) ≤ 4 * s.pmpTarget) := by omega
  have h5 : ¬ (s.pmpState = 5 ∧ s.pmpStopDue = true) := by omega
  have hsettle : s.pmpSettle = s := (if_neg h0).trans (if_neg h5)
  unfold State.pmpAdvance
  obtain h | h | h | h := h <;> rw [h] <;> exact hsettle

/-- A gate-supply fault as it is noted: its event once, and the return forgotten. -/
def State.gateFaulted (s : State) : State :=
  { s.raiseIf (!s.pmp.gateBad) Ev.PMP_GATE_FAULT with
    pmp := { (s.raiseIf (!s.pmp.gateBad) Ev.PMP_GATE_FAULT).pmp with gateBad := true, gateBack := none } }

theorem State.gateFaulted_facts (s : State) :
    s.gateFaulted.pmp = { s.pmp with gateBad := true, gateBack := none } ∧
    s.gateFaulted.regs = (s.raiseIf (!s.pmp.gateBad) Ev.PMP_GATE_FAULT).regs ∧
    QuietWordsKept [] s s.gateFaulted ∧ BytesKept s s.gateFaulted ∧ s.gateFaulted.pmpState = s.pmpState := by
  have hwords : QuietWordsKept [] s (s.raiseIf (!s.pmp.gateBad) Ev.PMP_GATE_FAULT) :=
    (WordsKept.refl [] s).quiet.raiseIf _ _
  have hbytes : BytesKept s (s.raiseIf (!s.pmp.gateBad) Ev.PMP_GATE_FAULT) := (BytesKept.of_mem rfl).raiseIf _ _
  have hpmp : (s.raiseIf (!s.pmp.gateBad) Ev.PMP_GATE_FAULT).pmp = s.pmp := State.raiseIf_pmp _ _ _
  unfold State.gateFaulted
  generalize s.raiseIf (!s.pmp.gateBad) Ev.PMP_GATE_FAULT = u at hwords hbytes hpmp ⊢
  exact ⟨by rw [← hpmp], rfl, hwords.of_regs rfl, hbytes.of_eq rfl, hwords.get _ (by decide) (by decide)⟩

theorem exec_gateSupplyFault {vgd boot : Nat} (hh : s.pmpHere = true) (hf : vgd < 8000 ∨ boot < 7000) :
    exec (.gateSupplyFault vgd boot) s = if s.gateFaulted.pmpState = 0 ∨ s.gateFaulted.pmpState = 9 then .next s.gateFaulted
      else if (s.gateFaulted.pmpFw && decide (8000 ≤ vgd)) = true then .next (s.gateFaulted.pmpZero false)
      else .next (s.gateFaulted.pmpOpen 8) :=
  if_neg (by simpa [hh, gateFaulty, or_iff_not_imp_left] using hf)

/-- The gate supply is good again. -/
def State.gateGood (s : State) : State := { s with pmp := { s.pmp with gateBad := false, gateBack := none } }

theorem exec_gateSupplyRecovery {n : Nat} (h : s.pmp.gateBack = some n) : exec .gateSupplyRecovery s =
    if s.pmpState = 0 ∨ s.pmpState = 9 then .next (s.advanceTo (n + 10000000)).gateGood.pmpSettle
    else .next ((s.advanceTo (n + 10000000)).gateGood.pmpOpen 1) := by
  show execGateSupplyRecovery s = _
  rw [execGateSupplyRecovery, h]
  rfl

/-- The shunt comparator's cut-off of a period is counted. -/
def State.hiCutCounted (s : State) : State := { s with pmp := { s.pmp with hiCut := true, ocN := s.pmp.ocN + 1 } }

theorem exec_pumpShuntOvercurrent {uv : Nat} (hh : s.pmpHere = true) (hd : s.pmpDrives = true) (hc : s.pmp.hiCut = false)
    (ho : s.pmpOver uv = true) : exec (.pumpShuntOvercurrent uv) s =
      if 20 ≤ s.pmp.ocN + 1 then .next (s.hiCutCounted.raise Ev.PMP_OVERCURRENT).pmpRotorLost else .next s.hiCutCounted :=
  if_pos (by simp [hh, hd, hc, ho])

/-- A loop instant of a drive that is here: time, the speed and VBAT are shown. -/
def State.loopShown (s : State) (v : Nat) (rpm : Int) : State :=
  ((s.advanceTo (s.fstart + (s.now - s.fstart + 4999) / 5000 * 5000)).putSatI Reg.PMP_SPD_RPM rpm).putSat Reg.PMP_VBUS_MV v

theorem State.loopShown_facts (s : State) (v : Nat) (rpm : Int) :
    (s.loopShown v rpm).pmp = s.pmp ∧ (s.loopShown v rpm).pmpState = s.pmpState ∧
    (s.loopShown v rpm).pmpDrives = s.pmpDrives := by
  have hw : WordsKept [Reg.PMP_SPD, Reg.PMP_VBUS] s (s.loopShown v rpm) :=
    (((WordsKept.refl _ s).of_regs rfl).putSatI (by decide) rpm).putSat (by decide) v
  have hst : (s.loopShown v rpm).pmpState = s.pmpState := hw.get _ (by decide)
  exact ⟨by simp [State.loopShown], hst, by rw [State.pmpDrives, State.pmpDrives, hst]⟩

theorem exec_pumpCurrentLoop (hh : s.pmpHere = true) (v : Nat) (rpm : Int) (ang e : Nat) (lk : Bool) (i : Int × Int) :
    exec (.pumpCurrentLoop v rpm ang e lk i) s = if (s.loopShown v rpm).pmp.gateBad = true then .next (s.loopShown v rpm)
      else if (s.loopShown v rpm).pmpDrives = true then .next
        ((((s.loopShown v rpm).pmpLoop v i).putB Reg.PMP_STAT_LOCK lk).pmpAdvance rpm ang
          ((((s.loopShown v rpm).pmpLoop v i).putB Reg.PMP_STAT_LOCK lk).pmpEmfBad rpm e) lk)
      else .next ((s.loopShown v rpm).pmpAdvance rpm ang ((s.loopShown v rpm).pmpEmfBad rpm e) lk) := by
  show execPumpCurrentLoop v rpm ang e lk i s = _
  rw [execPumpCurrentLoop, if_neg (by simp [hh])]
  refine congrArg (ite _ _) ?_
  cases hd : (s.loopShown v rpm).pmpDrives with
  | true => exact congrArg (fun w : State => Host.Outcome.next (w.pmpAdvance rpm ang (w.pmpEmfBad rpm e) lk)) (if_pos hd)
  | false =>
    exact congrArg (fun w : State => Host.Outcome.next (w.pmpAdvance rpm ang (w.pmpEmfBad rpm e) lk))
      (if_neg fun hc => absurd (hd.symm.trans hc) (by decide))

end Sys2Proof.Machine

open Sys2Proof Sys2Proof.Machine

/-- Settles O34, wait by wait. That spent retries take ZERO on to WAIT and from there to GIVEUP is log entry 17. -/
theorem pumpSequenceTimers : Obligations.PumpSequenceTimers := by
  refine ⟨?listen, ?phase, ?brake, ?align, ?zero, ?retry, ?attempt, fun rpm ph vbat s h => exec_pumpWaits_idle h rpm ph vbat,
    ?ends, fun rpm s => ⟨fun h => if_pos h, fun h => if_neg (Nat.not_lt.2 h)⟩, ?low⟩
  case listen =>
    intro rpm s h hg n u
    rw [exec_listenEnd rpm h hg]
    refine ⟨fun h0 hn => if_pos ⟨h0, hn⟩, fun h0 hn ht => ?_, fun h0 hn ht => ?_, fun h0 hb => ?_, fun h0 hb => ?_⟩
    · exact (if_neg fun hc => absurd hc.2 (not_lt.2 hn)).trans (if_pos ⟨h0, ht⟩)
    · exact (if_neg fun hc => absurd hc.2 (not_lt.2 hn)).trans
        ((if_neg fun hc => absurd hc.2 (not_le.2 ht)).trans (if_pos (.inl h0)))
    · have hneg : ¬ 0 < n := by omega
      exact (if_neg fun hc => hneg hc.1).trans ((if_neg fun hc => hneg hc.1).trans (if_pos (.inr hb)))
    · have hneg : ¬ 0 < n := by omega
      exact (if_neg fun hc => hneg hc.1).trans ((if_neg fun hc => hneg hc.1).trans
        (if_neg (not_or.2 ⟨not_le.2 h0, Nat.not_lt.2 hb⟩)))
  case phase =>
    intro ph vbat s h hg hv
    rw [exec_phaseNodeOvervoltage h hg hv]
    exact .next (s.pmpZero_facts false)
  case brake =>
    intro rpm s h hg u
    rw [exec_brakeTimeout rpm h hg]
    refine ⟨fun h0 ht => if_pos ⟨h0, ht⟩, fun h0 => if_neg fun hc => ?_⟩
    obtain ⟨hneg, hle⟩ := hc
    obtain h0 | hlt := h0
    · exact absurd hneg (not_lt.2 h0)
    · exact absurd hle (not_le.2 hlt)
  case align =>
    intro s h hg
    rw [exec_alignEnd h hg]
    obtain ⟨hst, -, hsince, hkept, hmem⟩ :=
      (s.advanceTo (s.pmp.since + 1000000 * clampN 1 100 (s.get Reg.PMP_START_ALIGNT))).pmpEnter_facts 4 (by decide)
    exact .next ⟨hst, rfl, hsince, ((WordsKept.refl _ s).of_regs rfl).trans hkept, hmem⟩
  case zero =>
    intro s h hg u
    rw [exec_zeroVectorEnd h hg]
    refine ⟨fun ho => if_pos ho, fun ho hs => ?_, fun ho hs => ?_⟩
    · exact (if_neg (by simp [ho])).trans (if_pos hs)
    · exact (if_neg (by simp [ho])).trans (if_neg (by simp [u, hs]))
  case retry =>
    intro s h hg u
    rw [exec_retryDelayEnd h hg]
    exact ⟨fun hs => if_pos hs, fun hs => if_neg (by simp [u, hs])⟩
  case attempt =>
    intro s h
    rw [exec_runAttemptReset h]
    exact .next ⟨State.get_put_self _ _ _ (by decide), rfl, rfl, ((WordsKept.refl _ s).of_regs rfl).put (by decide) _, rfl⟩
  case ends =>
    intro e s
    obtain ⟨hfail, hfailFw⟩ := s.pmpFail_facts e
    obtain ⟨hstop, hstopFw⟩ := s.pmpStopped_facts
    exact ⟨hfail, hstop, hfailFw, hstopFw⟩
  case low =>
    intro ph vbat s h
    exact if_neg fun hc => absurd hc.2.2 (Nat.not_lt.2 h)

/-- Settles O35, command by command. That an overcurrent counts as a rotor loss with its retries is log entry 17; STATE shows
WAIT in a gate-supply fault by log entry 18. -/
theorem pumpLoopAndGateCommands : Obligations.PumpLoopAndGateCommands := by
  refine ⟨fun v rpm ang e lk i s h => if_pos (by simp [h]), ?loop, ?cutoff, ?calm, fun s => rfl, fun ph s => ⟨?cut, ?below, ?off⟩,
    ?noFault, ?resting, ?running, ?back, ?notBack, ?noRecovery, ?recovery⟩
  case loop =>
    intro v rpm ang e lk i s hh u
    obtain ⟨hpmp, hst, hdr⟩ := s.loopShown_facts v rpm
    rw [exec_pumpCurrentLoop hh, hpmp, hdr]
    refine ⟨fun hb => if_pos hb, fun hb h => ?_, fun hb hd => ?_⟩
    · have hidle : s.pmpDrives = false := by
        obtain h | h | h | h := h <;> simp [State.pmpDrives, h]
      rw [if_neg (by simp [hb]), if_neg (by simp [hidle]), State.pmpAdvance_idle (by rwa [hst])]
      rfl
    · exact (if_neg (by simp [hb])).trans (if_pos hd)
  case cutoff =>
    intro uv s hh hd hc ho
    rw [exec_pumpShuntOvercurrent hh hd hc ho]
    exact ⟨fun h => if_neg (by omega), fun h => if_pos (by omega)⟩
  case calm =>
    intro uv s h
    refine if_neg ?_
    obtain h | h | h | h := h <;> simp [h]
  case cut => exact fun h hv => if_pos ⟨h, hv⟩
  case below => exact fun h => if_neg fun hc => absurd hc.2 (Nat.not_le.2 h)
  case off => exact fun h2 h6 => if_neg fun hc => hc.1.elim h2 h6
  case noFault =>
    intro vgd boot s h
    refine if_pos ?_
    obtain h | ⟨hv, hb⟩ := h
    · simp [h]
    · simp [gateFaulty, Nat.not_lt.2 hv, Nat.not_lt.2 hb]
  case resting =>
    intro vgd boot s hh hf h
    obtain ⟨hpmp, hregs, hwords, hbytes, hst⟩ := s.gateFaulted_facts
    rw [exec_gateSupplyFault hh hf, hst, if_pos h]
    refine .next ⟨hpmp, fun hb => ?_, hwords, hbytes⟩
    have halive : s.alive = true := by
      simp only [State.pmpHere, Bool.and_eq_true] at hh
      exact hh.2
    rw [State.raised_congr hregs, hb]
    exact State.raised_raise s _ halive (by decide)
  case running =>
    intro vgd boot s hh hv h1 h8
    obtain ⟨hpmp, -, hwords, -, hst⟩ := s.gateFaulted_facts
    rw [exec_gateSupplyFault hh (.inl hv), hst, if_neg (by omega), if_neg (by simp [hv])]
    obtain ⟨hst8, -, hlock, hkept, -, -⟩ := s.gateFaulted.pmpOpen_facts (st := 8) (by decide)
    have hp := s.gateFaulted.pmpOpen_pmp 8
    refine .next ⟨hst8, ?_, ?_, ?_, hlock, (hwords.mono (by decide)).trans hkept.quiet⟩
    · rw [hp, hpmp]
    · rw [hp]
    · rw [hp]
  case back =>
    intro vgd boot s hb hn hv hbo
    exact if_pos (by simp [hb, hn, gateFaulty, hv, hbo])
  case notBack =>
    intro vgd boot s h
    refine if_neg ?_
    obtain h | h | h := h <;> simp [gateFaulty, h]
  case noRecovery =>
    intro s h
    show execGateSupplyRecovery s = _
    rw [execGateSupplyRecovery, h]
  case recovery =>
    intro n s h h1 h8
    rw [exec_gateSupplyRecovery h, if_neg (by omega)]
    obtain ⟨hst, -, -, hkept, hmem, hnow⟩ := (s.advanceTo (n + 10000000)).gateGood.pmpOpen_facts (st := 1) (by decide)
    have hp := (s.advanceTo (n + 10000000)).gateGood.pmpOpen_pmp 1
    refine .next ⟨hst, ?_, ?_, hnow, ?_, ((WordsKept.refl _ s).of_regs rfl).trans hkept, hmem⟩
    · rw [hp]; rfl
    · rw [hp]; rfl
    · rw [hp, hnow]

end

section
/-!
The supply (R394 to R398): a pause of VBAT and its limit, the brown-out warning, and over-voltage.
-/
namespace Sys2Proof.Machine

variable {l : List Nat} {s t : State}

theorem State.crankEnd_off (h : s.out.crank = false) : s.crankEnd = s := if_neg (by simp [h])

/-! ### Pauses (R395, R396) -/

theorem exec_vbatPause_inProgress {n : Nat} (hp : s.power.pauseAt = some n) (hb : s.power.backAt = none) :
    exec .vbatPause s = .next s := if_pos (by simp [hp, hb])

theorem exec_vbatPause_inReset (hp : s.power.pauseAt = none) (ha : s.alive = false) :
    exec .vbatPause s = .next s.crankBegin :=
  (if_neg (by simp [hp])).trans (if_pos (by simp [ha]))

theorem exec_vbatPause_begins (hp : s.power.pauseAt = none) (ha : s.alive = true) : exec .vbatPause s =
    .next ((((((State.put { s with power := { s.power with pauseAt := some s.now, backAt := none, lowSince := none } }
      Reg.PWR_STAT_STATE 1).raise Ev.PWR_PAUSE).incSat Reg.PWR_COUNT_PAUSES).pauseMeasurement).pmpSettle).crankBegin) := by
  show execVbatPause s = _
  rw [execVbatPause, if_neg (by simp [hp]), if_neg (by simp [ha]), hp, Option.getD_none]

/-- VBAT_PAUSE gives a next state whatever it finds. -/
theorem exec_vbatPause_next (s : State) : ∃ p, exec .vbatPause s = .next p := by
  show ∃ p, execVbatPause s = .next p
  unfold execVbatPause
  split
  · exact ⟨_, rfl⟩
  · split
    · exact ⟨_, rfl⟩
    · exact ⟨_, rfl⟩

/-- The tick at which VBAT has come back. -/
def State.backNoted (s : State) : State := { s with power := { s.power with backAt := some s.now } }

theorem exec_vbatPauseReturn {n : Nat} (ha : s.alive = true) (hp : s.power.pauseAt = some n) : exec .vbatPauseReturn s =
    if s.power.backAt.isSome = true ∨ s.power.warnAt.isSome = true then .next s
    else .next ((s.backNoted.put Reg.PWR_STAT_STATE 0).putSat Reg.PWR_PAUSELAST_MS ((s.now - n) / 100000)).crankEnd := by
  show execVbatPauseReturn s = _
  rw [execVbatPauseReturn, if_neg (by simp [ha]), hp]
  rfl

theorem exec_pauseLimit {n : Nat} (hp : s.power.pauseAt = some n) : exec .pauseLimit s =
    if s.alive = true ∧ s.power.backAt.isNone = true then .next ((s.advanceTo (n + s.pauseMax)).barrierFault true)
    else .next s := by
  show execPauseLimit s = _
  rw [execPauseLimit, hp]

theorem exec_pauseLimit_none (hp : s.power.pauseAt = none) : exec .pauseLimit s = .next s := by
  show execPauseLimit s = _
  rw [execPauseLimit, hp]

/-! ### The brown-out warning (R398) -/

theorem exec_brownoutWarning {p : State} (hw : s.power.warnAt = none) (ha : s.alive = true)
    (hp : exec .vbatPause s = .next p) : exec .brownoutWarning s =
      let w := (((State.put { p with power := { p.power with warnAt := some p.now } } Reg.PWR_STAT_STATE 2).raise
        Ev.PWR_BOW).incSat Reg.PWR_COUNT_BOWS).saveTick true
      if w.sleeping = true then .next w
      else .next (State.freeze (if w.isLead = true then { w with est := { w.est with jPend := true } } else w) 3 0) := by
  have hp' : execVbatPause s = .next p := hp
  show execBrownoutWarning s = _
  rw [execBrownoutWarning, if_neg (by simp [hw]), if_neg (by simp [ha]), hp']

/-- The warning is over, and its save of TICK no longer counts. -/
def State.warningEnded (s : State) : State :=
  { s with power := { s.power with warnAt := none }, ret := { s.ret with warned := false } }

theorem exec_brownoutWarningEnd {n : Nat} (ha : s.alive = true) (hw : s.power.warnAt = some n) :
    exec .brownoutWarningEnd s = .next ((s.warningEnded.put Reg.PWR_STAT_STATE 1).raise Ev.PWR_BOW_END) :=
  if_pos ⟨ha, by simp [hw]⟩

/-! ### Over-voltage (R394) -/

theorem exec_vbatOvervoltage_high {mv : Nat} (h : 52000 ≤ mv) :
    exec (.vbatOvervoltage mv) s = .next ((s.putB Reg.PWR_STAT_OVERV true).raise Ev.PWR_OVERVOLT) := if_pos h

theorem exec_vbatOvervoltage_low {mv : Nat} (h : mv < 50000) :
    exec (.vbatOvervoltage mv) s = .next (s.putB Reg.PWR_STAT_OVERV false) :=
  (if_neg (by omega)).trans (if_pos h)

end Sys2Proof.Machine

open Sys2Proof Sys2Proof.Machine

/-- Settles O36, command by command. -/
theorem supplyPauseCommands : Obligations.SupplyPauseCommands := by
  refine ⟨fun n s hp hb => exec_vbatPause_inProgress hp hb,
    fun s hp ha => ⟨exec_vbatPause_inReset hp ha, if_pos (by simp [ha])⟩, fun s hp ha => exec_vbatPause_begins hp ha, ?back,
    ?backAgain, ?limit, ?noLimit, fun n s h => if_pos (by simp [h]), ?warning, ?warningEnd,
    fun s h => if_neg (by simp [h]), ?high, ?low, fun mv s h1 h2 => (if_neg (by omega)).trans (if_neg (by omega))⟩
  case back =>
    intro n s ha hp hb hw hc
    rw [exec_vbatPauseReturn ha hp, if_neg (by simp [hb, hw]), State.crankEnd_off (by simpa [State.backNoted] using hc)]
    have hstate : (s.backNoted.put Reg.PWR_STAT_STATE 0).get Reg.PWR_STAT_STATE = 0 := State.get_put_self _ _ _ (by decide)
    have hkept : WordsKept [Reg.PWR_STAT, Reg.PWR_PAUSELAST] s s.backNoted := fun _ _ => rfl
    exact .next ⟨rfl, hp, (State.get_put_apart _ _ _ _ (by decide)).trans hstate, State.get_putSat_self _ _ _ (by decide),
      (hkept.put (by decide) _).putSat (by decide) _, rfl, rfl⟩
  case backAgain =>
    intro n b s ha hp hb
    rw [exec_vbatPauseReturn ha hp, if_pos (.inl (by simp [hb]))]
  case limit =>
    intro n s hp ha hb
    rw [exec_pauseLimit hp, if_pos ⟨ha, by simp [hb]⟩]
  case noLimit =>
    intro s h
    cases hp : s.power.pauseAt with
    | none => exact exec_pauseLimit_none hp
    | some n =>
      rw [exec_pauseLimit hp, if_neg]
      rintro ⟨ha, hb⟩
      obtain h | h | h := h
      · rw [hp] at h
        exact absurd h (by simp)
      · exact absurd (ha.symm.trans h) (by decide)
      · simp [Option.isNone_iff_eq_none.1 hb] at h
  case warning =>
    intro s hw ha
    obtain ⟨p, hp⟩ := exec_vbatPause_next s
    rw [exec_brownoutWarning hw ha hp]
    refine ⟨_, (apply_ite Host.Outcome.next _ _ _).symm, p, hp, ?_⟩
    intro w
    exact congrArg (ite _ w) (apply_ite (fun u : State => u.freeze 3 0) _ _ _)
  case warningEnd =>
    intro n s ha hw
    rw [exec_brownoutWarningEnd ha hw]
    have hstate : (s.warningEnded.put Reg.PWR_STAT_STATE 1).get Reg.PWR_STAT_STATE = 1 := State.get_put_self _ _ _ (by decide)
    have hwords : QuietWordsKept [Reg.PWR_STAT] s s.warningEnded := fun _ _ _ => rfl
    have hbytes : BytesKept s (s.warningEnded.put Reg.PWR_STAT_STATE 1) := .of_mem rfl
    refine .next ⟨?_, ?_, (State.get_raise _ _ _ (by decide)).trans hstate, State.raised_raise _ _ ha (by decide),
      (hwords.put (by decide) _).raise _, hbytes.raise _⟩
    · rw [State.raise_power]
      rfl
    · rw [State.raise_ret]
      rfl
  case high =>
    intro mv s h
    rw [exec_vbatOvervoltage_high h]
    have hwords : QuietWordsKept [Reg.PWR_STAT] s s := fun _ _ _ => rfl
    have hbytes : BytesKept s (s.putB Reg.PWR_STAT_OVERV true) := .of_mem rfl
    exact .next ⟨(State.flag_raise _ _ _ (by decide)).trans (State.flag_putB_self _ _ _ (by decide) (by decide)),
      fun ha => State.raised_raise _ _ ha (by decide), (hwords.putB (by decide) _).raise _, hbytes.raise _⟩
  case low =>
    intro mv s h
    rw [exec_vbatOvervoltage_low h]
    exact .next ⟨State.flag_putB_self _ _ _ (by decide) (by decide), (WordsKept.refl _ s).putB (by decide) _, rfl⟩

end

section
/-!
The core pairs (R311 to R319, R331 to R333): restarts and their freeze, checkpoints, READY, debug halts, and faults.
-/
namespace Sys2Proof.Machine

variable {l : List Nat} {s t : State}

/-! ### The hidden state of a pair -/

theorem State.core_congr (ha : t.cpa = s.cpa) (hb : t.cpb = s.cpb) (p : Pair) : t.core p = s.core p := by
  cases p
  case a => exact ha
  case b => exact hb

theorem State.setCore_power (s : State) (p : Pair) (c : Core) : (s.setCore p c).power = s.power := by cases p <;> rfl

theorem State.setCore_tick (s : State) (p : Pair) (c : Core) : (s.setCore p c).tick = s.tick := by cases p <;> rfl

/-- Another pair's hidden state stays. -/
theorem State.core_setCore_other (s : State) {p q : Pair} (c : Core) (h : q ≠ p) : (s.setCore p c).core q = s.core q := by
  cases p with
  | a => cases q with
    | a => exact absurd rfl h
    | b => rfl
  | b => cases q with
    | a => rfl
    | b => exact absurd rfl h

theorem WordsKept.setCore (h : WordsKept l s t) (p : Pair) (c : Core) : WordsKept l s (t.setCore p c) := by
  obtain ⟨-, hregs, -, -⟩ := t.setCore_facts p c
  exact h.of_regs hregs

theorem State.core_put (s : State) (f : Fld) (v : Nat) (p : Pair) : (s.put f v).core p = s.core p :=
  State.core_congr rfl rfl p

theorem State.core_putB (s : State) (f : Fld) (b : Bool) (p : Pair) : (s.putB f b).core p = s.core p :=
  State.core_congr rfl rfl p

theorem State.core_incSat (s : State) (f : Fld) (p : Pair) : (s.incSat f).core p = s.core p :=
  State.core_congr rfl rfl p

theorem State.core_raise (s : State) (e : Event) (p : Pair) : (s.raise e).core p = s.core p :=
  State.core_congr (State.raise_cpa _ _) (State.raise_cpb _ _) p

theorem State.core_abortTest (s : State) (p : Pair) : s.abortTest.core p = s.core p := by
  unfold State.abortTest
  split
  · rfl
  · exact (State.core_raise _ _ p).trans (State.core_congr rfl rfl p)

/-- Dropping a pair's tasks takes no bank change back. -/
theorem State.dropTasks_swap (s : State) (p : Pair) : ((s.dropTasks p).core p).swap = (s.core p).swap := by
  unfold State.dropTasks
  extract_lets n u v w x
  obtain ⟨ha, hb, -⟩ := State.foldl_skip_kept n x
  cases p
  case a => exact (congrArg Core.swap ha :)
  case b => exact (congrArg Core.swap hb :)

/-! ### Restarts (R311 to R316) -/

theorem State.pairRuns_iff {p : Pair} : s.pairRuns p = true ↔ s.power.phase = .run ∧ (s.core p).held = false ∧
    (s.core p).inReset = false ∧ s.coresIdle = false := by
  simp [State.pairRuns, and_assoc]

/-- The trigger of a pair that runs, with no bank change in progress, begins its restart. -/
theorem State.restartPair_begins {p : Pair} (hph : s.power.phase = .run) (hh : (s.core p).held = false)
    (hr : (s.core p).inReset = false) (hs : (s.core p).swap = none) (c : Nat) :
    s.restartPair p c = s.beginRestart p c := by
  rw [State.restartPair, if_neg (by simp [hph, hh]), hs]
  exact if_neg (by simp [hr])

/-- The same, of the state in which the trigger was noted. -/
theorem State.restartPair_noted {p : Pair} (hr : s.pairRuns p = true) (hs : (s.core p).swap = none)
    (hpow : t.power = s.power) (hcore : t.core p = s.core p) (c : Nat) : t.restartPair p c = t.beginRestart p c := by
  obtain ⟨hph, hheld, hin, -⟩ := State.pairRuns_iff.1 hr
  exact State.restartPair_begins (by rw [hpow, hph]) (by rw [hcore, hheld]) (by rw [hcore, hin]) (by rw [hcore, hs]) c

theorem State.missNoted_tt (s : State) : s.missNoted.tt = s.tt ∧ s.missNoted.cpa = s.cpa ∧ s.missNoted.cpb = s.cpb := by
  simp [State.missNoted]

theorem State.freezeShown_tt (s : State) (trig src : Nat) : (s.freezeShown trig src).tt = s.tt ∧
    (s.freezeShown trig src).cpa = s.cpa ∧ (s.freezeShown trig src).cpb = s.cpb := by
  simp [State.freezeShown]

theorem State.putSnapshot_tt (s : State) (typ : Nat) : (s.putSnapshot typ).tt = s.tt ∧
    (s.putSnapshot typ).cpa = s.cpa ∧ (s.putSnapshot typ).cpb = s.cpb := by
  obtain ⟨m, hm⟩ := s.putSnapshot_only typ
  rw [hm]
  exact ⟨rfl, rfl, rfl⟩

theorem State.withCopy_tt (s : State) (f : Freeze) : (s.withCopy f).tt = s.tt ∧ (s.withCopy f).cpa = s.cpa ∧
    (s.withCopy f).cpb = s.cpb := ⟨rfl, rfl, rfl⟩

/-- A freeze touches neither the timetable nor the pairs. -/
theorem State.freeze_tt (s : State) (trig src : Nat) : (s.freeze trig src).tt = s.tt ∧ (s.freeze trig src).cpa = s.cpa ∧
    (s.freeze trig src).cpb = s.cpb := by
  by_cases h : s.bbx.copy.isSome = true ∨ (s.flag Reg.BBX_CFG_KEEP = true ∧ s.flag Reg.BBX_STAT_HELD = true)
  · rw [State.freeze_missed _ _ h]
    simpa using s.missNoted_tt
  · obtain ⟨hc, hk⟩ := not_or.1 h
    rw [State.freeze_begins _ _ (by simpa using hc) (by simpa [imp_iff_not_or] using hk)]
    obtain ⟨htt, ha, hb⟩ := s.freezeShown_tt trig src
    obtain ⟨htt', ha', hb'⟩ := (s.freezeShown trig src).putSnapshot_tt 1
    obtain ⟨htt'', ha'', hb''⟩ := ((s.freezeShown trig src).putSnapshot 1).withCopy_tt ⟨s.tick, s.now, trig, src,
        (s.freezeShown trig src).get Reg.BBX_FREEZEID_ID, s.get Reg.TMB_GEN_GEN, false, 0⟩
    exact ⟨htt''.trans (htt'.trans htt), ha''.trans (ha'.trans ha), hb''.trans (hb'.trans hb)⟩

/-- What a restart leaves, after the freeze of its trigger too: the pair in reset, its cause, its tick, and no tasks. -/
theorem State.restart_frozen (s : State) (p : Pair) (c : Nat) :
    (((s.beginRestart p c).mismatchFreeze p).core p).inReset = true ∧
    ((s.beginRestart p c).mismatchFreeze p).get (Reg.CP_RSTINFO_CAUSE.at p.idx) = c % 16 ∧
    ((s.beginRestart p c).mismatchFreeze p).flag (Reg.CP_RSTINFO_RESTARTED.at p.idx) = true ∧
    ((s.beginRestart p c).mismatchFreeze p).get (Reg.CP_RSTTICK_TICK.at p.idx) = s.tick % 2 ^ 32 ∧
    ((s.beginRestart p c).mismatchFreeze p).flag (Reg.CP_STAT_DBGHALT.at p.idx) = false ∧
    ∀ k, k ∈ ((s.beginRestart p c).mismatchFreeze p).tt.tasks → k.pair ≠ p := by
  obtain ⟨hin, hcause, hres, htick, hhalt, htasks⟩ := s.beginRestart_facts p c
  obtain ⟨htt, ha, hb⟩ := (s.beginRestart p c).freeze_tt 2 (0x0A + p.idx)
  have hkept := (s.beginRestart p c).freeze_kept 2 (0x0A + p.idx)
  rw [State.mismatchFreeze, State.core_congr ha hb, htt]
  refine ⟨hin, ?_, ?_, ?_, ?_, htasks⟩
  · exact (hkept.get _ (by cases p <;> decide) (by cases p <;> decide)).trans hcause
  · rw [State.flag, hkept.get _ (by cases p <;> decide) (by cases p <;> decide)]
    exact hres
  · exact (hkept.get _ (by cases p <;> decide) (by cases p <;> decide)).trans htick
  · rw [State.flag, hkept.get _ (by cases p <;> decide) (by cases p <;> decide)]
    exact hhalt

/-- A mismatch as it is noted before the restart. -/
def State.mismatchNoted (s : State) (p : Pair) (addr : Nat) : State :=
  (s.put (Reg.CP_MMADDR_ADDR.at p.idx) addr).raise (Ev.PAIR_MISMATCH p)

theorem State.mismatchNoted_facts (s : State) (p : Pair) (addr : Nat) : (s.mismatchNoted p addr).power = s.power ∧
    (s.mismatchNoted p addr).core p = s.core p ∧ (s.mismatchNoted p addr).tick = s.tick :=
  ⟨(State.raise_power _ _).trans (State.put_power _ _ _), (State.core_raise _ _ _).trans (State.core_put _ _ _ _),
    (State.raise_tick _ _).trans (State.put_tick _ _ _)⟩

theorem exec_pairMismatch {p : Pair} (h : s.pairRuns p = true) (addr : Nat) :
    exec (.pairMismatch p addr) s = .next (((s.mismatchNoted p addr).restartPair p 1).mismatchFreeze p) := if_pos h

/-- The causes of a compare-unit fault as they are noted. -/
def State.compareNoted (s : State) (p : Pair) (dis c1 c2 par : Bool) : State :=
  (((((s.putB (Reg.CP_CMPSTAT_DISAGREE.at p.idx) dis).putB (Reg.CP_CMPSTAT_C1TEST.at p.idx) c1).putB
    (Reg.CP_CMPSTAT_C2TEST.at p.idx) c2).putB (Reg.CP_CMPSTAT_PARITY.at p.idx) par).raise (Ev.COMPARE_UNIT_FAULT p))

theorem State.compareNoted_facts (s : State) (p : Pair) (dis c1 c2 par : Bool) :
    (s.compareNoted p dis c1 c2 par).power = s.power ∧ (s.compareNoted p dis c1 c2 par).core p = s.core p ∧
    (s.compareNoted p dis c1 c2 par).tick = s.tick := by
  refine ⟨by simp [State.compareNoted], ?_, by simp [State.compareNoted]⟩
  simp only [State.compareNoted, State.core_raise, State.core_putB]

/-- A compare fault of a pair that runs restarts it with CAUSE 2, and freezes. -/
theorem State.compareFault_restarts {p : Pair} (hr : s.pairRuns p = true) (hs : (s.core p).swap = none)
    (hpow : t.power = s.power) (hcore : t.core p = s.core p) (dis c1 c2 par : Bool) :
    t.compareFault p dis c1 c2 par = ((t.compareNoted p dis c1 c2 par).beginRestart p 2).mismatchFreeze p := by
  obtain ⟨hpow', hcore', -⟩ := t.compareNoted_facts p dis c1 c2 par
  exact congrArg (State.mismatchFreeze · p)
    (State.restartPair_noted hr hs (hpow'.trans hpow) (hcore'.trans hcore) 2)

theorem exec_compareUnitFault {p : Pair} (h : s.pairRuns p = true) (par : Bool) (addr : Nat) :
    exec (.compareUnitFault p par addr) s =
      .next ((if par then s else s.mismatchNoted p addr).compareFault p (!par) false false par) := if_pos h

theorem exec_comparatorFrameTest {p : Pair} (h : s.pairRuns p = true) (hi : s.flag (Reg.CP_STAT_INRST.at p.idx) = false)
    (hd : s.flag (Reg.CP_STAT_DBGHALT.at p.idx) = false) (c1 c2 par : Bool) :
    exec (.comparatorFrameTest p c1 c2 par) s = if (c1 && c2 && par) = true then
        .next ((s.advanceTo (s.fstart + 14200)).put (Reg.CP_CMPSTAT_TESTAGE.at p.idx) 0)
      else .next ((s.advanceTo (s.fstart + 14200)).compareFault p false (!c1) (!c2) (!par)) :=
  if_pos (by simp [h, hi, hd])

/-! ### Checkpoints (R313) -/

/-- The bytes of a checkpoint in its slot: header, image of the private SRAM, and CRC. -/
def State.slotStored (s : State) (p : Pair) (arch : List Byte) : State :=
  let a := slotAddr p (s.core p).slot
  let u := s.setBytes a (leBytes 4 (s.get Reg.TMB_GEN_GEN) ++ leBytes 4 s.frame ++ leBytes 4 (s.confirmedBank p) ++
    leBytes 4 (s.ckBytes p / 1024) ++ arch.take 2016 ++ List.replicate 12 0)
  let v := u.setBytes (a + 0x800) (u.bytes (sramAddr p) (s.ckBytes p))
  v.setMemWord (a + 0x7FC) (crc32c (v.slotCovered a (s.ckBytes p)))

/-- Storing a checkpoint writes memory alone. -/
theorem State.slotStored_only (s : State) (p : Pair) (arch : List Byte) :
    ∃ m, s.slotStored p arch = { s with mem := m } := by
  unfold State.slotStored
  extract_lets a u v
  obtain ⟨m, hm⟩ : ∃ m, u = { s with mem := m } := State.setBytes_only _ s a
  obtain ⟨m', hm'⟩ : ∃ m, v = { u with mem := m } := State.setBytes_only _ u (a + 0x800)
  obtain ⟨m'', hm''⟩ := State.setBytes_only (leBytes 4 (crc32c (v.slotCovered a (s.ckBytes p)))) v (a + 0x7FC)
  exact ⟨m'', by rw [State.setMemWord, hm'', hm', hm]⟩

theorem State.ckBytes_le (s : State) (p : Pair) : s.ckBytes p ≤ 0xF800 := by
  have : min 62 (s.get (Reg.CP_CKPTCFG_CKLEN.at p.idx)) ≤ 62 := Nat.min_le_left _ _
  unfold State.ckBytes
  omega

/-- A checkpoint stays within the 64 KiB of its slot. -/
theorem State.byte_slotStored_out (s : State) (p : Pair) (arch : List Byte) (b : Nat)
    (h : b < slotAddr p (s.core p).slot ∨ slotAddr p (s.core p).slot + 0x10000 ≤ b) :
    (s.slotStored p arch).byte b = s.byte b := by
  have hlen := s.ckBytes_le p
  have harch : (arch.take 2016).length ≤ 2016 := by
    rw [List.length_take]
    exact Nat.min_le_left _ _
  unfold State.slotStored
  extract_lets a u v
  have hb : b < a ∨ a + 0x10000 ≤ b := h
  have hw : (v.setMemWord (a + 0x7FC) (crc32c (v.slotCovered a (s.ckBytes p)))).byte b = v.byte b :=
    State.byte_setMemWord_out _ _ _ _ (by omega)
  have hv : v.byte b = u.byte b := State.byte_setBytes_out _ _ _ _ (by
    simp only [State.bytes, List.length_map, List.length_range]
    omega)
  have hu : u.byte b = s.byte b := State.byte_setBytes_out _ _ _ _ (by
    simp only [List.length_append, leBytes_length, List.length_replicate]
    omega)
  rw [hw, hv, hu]

/-- The pair's hidden state after its checkpoint. -/
def Core.checkpointed (c : Core) (k : Nat) (arch : List Byte) : Core :=
  { c with slot := 1 - k, copying := false, arch := if c.swap.isSome then c.arch else arch }

/-- A stored checkpoint is shown. -/
def State.slotShown (s : State) (p : Pair) (k : Nat) (arch : List Byte) : State :=
  let u := s.setCore p ((s.core p).checkpointed k arch)
  (u.putBit (Reg.CP_CKSTAT_VALID.at p.idx) k true).put (Reg.CP_CKSTAT_FRAME.at p.idx) u.frame

theorem State.writeSlot_eq (s : State) (p : Pair) (arch : List Byte) :
    s.writeSlot p arch = (s.slotStored p arch).slotShown p (s.core p).slot arch := rfl

theorem State.slotShown_facts (s : State) (p : Pair) {k : Nat} (hk : k < 2) (arch : List Byte) :
    (s.slotShown p k arch).bit (Reg.CP_CKSTAT_VALID.at p.idx) k = true ∧
    (s.slotShown p k arch).get (Reg.CP_CKSTAT_FRAME.at p.idx) = s.frame % 2 ^ 16 ∧
    (s.slotShown p k arch).core p = (s.core p).checkpointed k arch ∧
    (∀ q, q ≠ p → (s.slotShown p k arch).core q = s.core q) ∧
    WordsKept [(Reg.CP_CKSTAT_VALID.at p.idx).addr] s (s.slotShown p k arch) ∧ (s.slotShown p k arch).mem = s.mem := by
  unfold State.slotShown
  have hframe : (s.setCore p ((s.core p).checkpointed k arch)).frame = s.frame := by cases p <;> rfl
  have hcore := s.core_setCore p ((s.core p).checkpointed k arch)
  have hother := fun q => s.core_setCore_other (p := p) (q := q) ((s.core p).checkpointed k arch)
  have hwords := (WordsKept.refl [(Reg.CP_CKSTAT_VALID.at p.idx).addr] s).setCore p ((s.core p).checkpointed k arch)
  obtain ⟨-, -, hmem, -⟩ := s.setCore_facts p ((s.core p).checkpointed k arch)
  generalize s.setCore p ((s.core p).checkpointed k arch) = u at hframe hcore hother hwords hmem ⊢
  have hvalid : (u.putBit (Reg.CP_CKSTAT_VALID.at p.idx) k true).bit (Reg.CP_CKSTAT_VALID.at p.idx) k = true :=
    State.bit_putBit_self _ _ _ _ (by cases p <;> decide) hk
  refine ⟨?_, ?_, (State.core_congr rfl rfl p).trans hcore, fun q hq => (State.core_congr rfl rfl q).trans (hother q hq),
    ?_, hmem⟩
  · exact (State.bit_put_apart _ _ _ _ _ (by cases p <;> decide)).trans hvalid
  · rw [← hframe]
    exact State.get_put_self _ _ _ (by cases p <;> decide)
  · exact (hwords.putBit (List.mem_singleton.2 rfl) _ _).put (List.mem_singleton.2 (by cases p <;> rfl)) _

theorem State.writeSlot_facts (s : State) (p : Pair) (hk : (s.core p).slot < 2) (hs : (s.core p).swap = none)
    (arch : List Byte) :
    (s.writeSlot p arch).bit (Reg.CP_CKSTAT_VALID.at p.idx) (s.core p).slot = true ∧
    (s.writeSlot p arch).get (Reg.CP_CKSTAT_FRAME.at p.idx) = s.frame % 2 ^ 16 ∧
    ((s.writeSlot p arch).core p).copying = false ∧ ((s.writeSlot p arch).core p).slot = 1 - (s.core p).slot ∧
    ((s.writeSlot p arch).core p).arch = arch ∧ (∀ q, q ≠ p → (s.writeSlot p arch).core q = s.core q) ∧
    WordsKept [(Reg.CP_CKSTAT_VALID.at p.idx).addr] s (s.writeSlot p arch) ∧
    ∀ b, b < slotAddr p (s.core p).slot ∨ slotAddr p (s.core p).slot + 0x10000 ≤ b →
      (s.writeSlot p arch).byte b = s.byte b := by
  obtain ⟨m, hm⟩ := s.slotStored_only p arch
  have hframe : (s.slotStored p arch).frame = s.frame := by rw [hm]
  have hregs : (s.slotStored p arch).regs = s.regs := by rw [hm]
  have hcore : ∀ q, (s.slotStored p arch).core q = s.core q := State.core_congr (by rw [hm]) (by rw [hm])
  obtain ⟨hvalid, hfr, hp, hq, hwords, hmem⟩ := (s.slotStored p arch).slotShown_facts p hk arch
  rw [← State.writeSlot_eq, hcore] at hp
  rw [← State.writeSlot_eq] at hvalid hfr hq hwords hmem
  refine ⟨hvalid, hframe ▸ hfr, by rw [hp]; rfl, by rw [hp]; rfl, ?_, fun q h => (hq q h).trans (hcore q), ?_, fun b hb => ?_⟩
  · rw [hp, Core.checkpointed, hs]
    rfl
  · exact ((WordsKept.refl _ s).of_regs hregs).trans hwords
  · exact (congrArg (kget (fun _ => 0) b) hmem).trans (s.byte_slotStored_out p arch b hb)

/-- The end of the copies in progress. -/
def State.copyEnd (s : State) : Nat :=
  if s.cpa.copying || s.cpb.copying then s.fstart + s.copyTicks else s.now

theorem exec_checkpointComplete_a (ha : s.cpa.copying = true) (hb : s.cpb.copying = false) (hk : s.cpa.slot < 2)
    (hs : s.cpa.swap = none) (x y : List Byte) :
    exec (.checkpointComplete x y) s = .next ((s.advanceTo s.copyEnd).writeSlot .a x) := by
  have hfirst : (if (s.advanceTo s.copyEnd).cpa.copying = true then (s.advanceTo s.copyEnd).writeSlot .a x
      else s.advanceTo s.copyEnd) = (s.advanceTo s.copyEnd).writeSlot .a x := if_pos ha
  obtain ⟨-, -, -, -, -, hother, -, -⟩ := (s.advanceTo s.copyEnd).writeSlot_facts .a hk hs x
  have hb' : ((s.advanceTo s.copyEnd).writeSlot .a x).cpb.copying = false :=
    (congrArg Core.copying (hother .b (by decide))).trans hb
  exact congrArg Host.Outcome.next ((congrArg (fun v : State => if v.cpb.copying = true then v.writeSlot .b y else v)
    hfirst).trans (if_neg (by rw [hb']; decide)))

theorem exec_checkpointComplete_b (ha : s.cpa.copying = false) (hb : s.cpb.copying = true) (x y : List Byte) :
    exec (.checkpointComplete x y) s = .next ((s.advanceTo s.copyEnd).writeSlot .b y) := by
  have hfirst : (if (s.advanceTo s.copyEnd).cpa.copying = true then (s.advanceTo s.copyEnd).writeSlot .a x
      else s.advanceTo s.copyEnd) = s.advanceTo s.copyEnd :=
    if_neg fun hc => absurd (ha.symm.trans hc) (by decide)
  exact congrArg Host.Outcome.next ((congrArg (fun v : State => if v.cpb.copying = true then v.writeSlot .b y else v)
    hfirst).trans (if_pos hb))

/-! ### Restore and READY (R314, R331) -/

theorem exec_restoreComplete {p : Pair} (hin : (s.core p).inReset = true) (hh : (s.core p).held = false)
    (hc : (s.core p).copying = false) (hph : s.power.phase = .run) (hold : s.power.holdAt = none)
    (hsl : s.sleeping = false) : exec (.restoreComplete p) s = .next (s.restorePair p) :=
  if_pos (by simp [hin, hh, hc, hph, hold, hsl])

/-- A pair without a valid slot. -/
def State.noSlot (s : State) (p : Pair) : State :=
  (s.putB (Reg.CP_CKSTAT_CRCERR.at p.idx) true).put (Reg.CP_CKSTAT_VALID.at p.idx) 0

/-- With no valid slot the pair starts at its ENTRY with CAUSE 6 (R314 step 2). -/
theorem State.restorePair_entry {p : Pair} (h : s.get (Reg.CP_CKSTAT_VALID.at p.idx) = 0) :
    s.restorePair p = ((s.noSlot p).startEntry p).put (Reg.CP_RSTINFO_CAUSE.at p.idx) 6 := by
  have horder : ([1 - (s.core p).slot, (s.core p).slot].filter fun k => s.bit (Reg.CP_CKSTAT_VALID.at p.idx) k) = [] :=
    List.filter_eq_nil_iff.2 fun k _ => by simp [State.bit, h]
  unfold State.restorePair
  extract_lets i order good u v
  have ho : order = [] := horder
  have hg : good = [] := by rw [show good = order.filter _ from rfl, ho, List.filter_nil]
  have hu : u = s.putB (Reg.CP_CKSTAT_CRCERR.at p.idx) true := if_pos (.inl ho)
  have hv : v = s.noSlot p := by rw [show v = u.put _ (bitsOf [good.contains 0, good.contains 1]) from rfl, hg, hu]; rfl
  clear_value v good
  rw [hg, hv]

theorem State.startEntry_facts (s : State) (p : Pair) : ((s.startEntry p).core p).inReset = false ∧
    (s.startEntry p).regs = s.regs ∧ (s.startEntry p).mem = s.mem := by
  cases p <;> exact ⟨rfl, rfl, rfl⟩

/-- The new bank is confirmed: the pair has no bank change in progress. -/
def State.swapDone (s : State) (p : Pair) : State :=
  ((s.setCore p { s.core p with swap := none }).swapHold p false).putB (Reg.CP_STAT_PIN.at p.idx) false

theorem State.swapDone_facts (s : State) (p : Pair) : ((s.swapDone p).core p).swap = none ∧
    (s.swapDone p).flag (Reg.CP_STAT_PIN.at p.idx) = false ∧ (p = .a → (s.swapDone p).flag Reg.CTS_STAT_HOLD = false) ∧
    WordsKept [(Reg.CP_STAT_PIN.at p.idx).addr, Reg.CTS_STAT] s (s.swapDone p) ∧ (s.swapDone p).mem = s.mem := by
  have hwords : WordsKept [(Reg.CP_STAT_PIN.at p.idx).addr, Reg.CTS_STAT] s (s.setCore p { s.core p with swap := none }) :=
    (WordsKept.refl _ s).setCore p _
  have hswap : ((s.setCore p { s.core p with swap := none }).core p).swap = none := congrArg Core.swap (s.core_setCore p _)
  obtain ⟨-, -, hmem, -⟩ := s.setCore_facts p { s.core p with swap := none }
  unfold State.swapDone State.swapHold
  generalize s.setCore p { s.core p with swap := none } = u at hwords hswap hmem ⊢
  refine ⟨?_, State.flag_putB_self _ _ _ (by cases p <;> decide) (by cases p <;> decide), ?_, ?_, ?_⟩
  · cases p <;> exact hswap
  · rintro rfl
    exact (State.flag_putB_apart _ _ _ _ (by decide)).trans (State.flag_putB_self _ _ _ (by decide) (by decide))
  · cases p
    case a => exact (hwords.putB (by decide) _).putB (by decide) _
    case b => exact hwords.putB (by decide) _
  · cases p <;> exact hmem

theorem State.writeBoot_facts (s : State) (a b : Nat) (p : Pair) : (s.writeBoot a b).core p = s.core p ∧
    (s.writeBoot a b).regs = s.regs ∧ (s.writeBoot a b).mem = s.mem := by
  unfold State.writeBoot
  split
  · exact ⟨State.core_congr rfl rfl p, rfl, rfl⟩
  · exact ⟨State.core_congr rfl rfl p, rfl, rfl⟩

theorem exec_pairReady_restart {p : Pair} (h : (s.core p).swap = none) :
    exec (.pairReady p.ini p) s = .next (s.putB (Reg.CP_STAT_INRST.at p.idx) false) := by
  show execPairReady p.ini p s = _
  rw [execPairReady, if_neg (by simp), h]

theorem exec_pairReady_swap {p : Pair} {w : Nat × Nat} (h : (s.core p).swap = some w)
    (ht : s.now < (s.core p).swapAt + readyLimit p) : ∃ a b, exec (.pairReady p.ini p) s =
      .next ((s.swapDone p).writeBoot a b) := by
  show ∃ a b, execPairReady p.ini p s = _
  rw [execPairReady, if_neg (by simp), h]
  exact ⟨_, _, if_pos ht⟩

theorem exec_pairReady_other {ini : Ini} {p : Pair} (h : ini ≠ p.ini) :
    exec (.pairReady ini p) s = .next (s.accessFault ini true (Reg.CP_READY + 0x1000 * p.idx)) := if_pos h

theorem State.core_swapHold (s : State) (p q : Pair) (b : Bool) : (s.swapHold p b).core q = s.core q := by
  unfold State.swapHold
  split
  · exact State.core_putB _ _ _ _
  · rfl

theorem State.swapHold_tick (s : State) (p : Pair) (b : Bool) : (s.swapHold p b).tick = s.tick := by
  unfold State.swapHold
  split
  · rfl
  · rfl

/-- The state in which a Trapeze abort restarts the pair. -/
def State.trapezeBack (s : State) (p : Pair) (old : Nat) : State :=
  (((s.setCore p { s.core p with swap := none }).putBank p old).swapHold p false).putB (Reg.CP_STAT_PIN.at p.idx) false

theorem State.trapezeBack_facts (s : State) (p : Pair) (old : Nat) :
    ((s.trapezeBack p old).core p).swap = none ∧ (s.trapezeBack p old).tick = s.tick := by
  have hcore : (s.trapezeBack p old).core p = { s.core p with swap := none } := by
    rw [State.trapezeBack, State.core_putB, State.core_swapHold, State.putBank, State.core_put, State.core_put,
      State.core_put, State.core_setCore]
  refine ⟨by rw [hcore], ?_⟩
  rw [State.trapezeBack, State.putB_tick, State.swapHold_tick, State.putBank, State.put_tick, State.put_tick,
    State.put_tick, State.setCore_tick]

theorem exec_trapezeReadyTimeout {p : Pair} {old pin : Nat} (h : (s.core p).swap = some (old, pin)) :
    exec (.trapezeReadyTimeout p) s = .next ((((s.advanceTo ((s.core p).swapAt + readyLimit p)).trapezeBack p old).beginRestart
      p 5).raise (Ev.TRAPEZE_ABORT p)) := by
  show execTrapezeReadyTimeout p s = _
  rw [execTrapezeReadyTimeout, h]
  rfl

/-- A restart begins no bank change. -/
theorem State.beginRestart_swap (s : State) (p : Pair) (c : Nat) :
    ((s.beginRestart p c).core p).swap = (s.core p).swap := by
  have hswap : (((s.dropTasks p).abortTest).core p).swap = (s.core p).swap := by
    rw [State.core_abortTest, State.dropTasks_swap]
  unfold State.beginRestart
  simp only []
  generalize (s.dropTasks p).abortTest = u at hswap ⊢
  split
  · simp only [State.core_raise, State.core_putB, State.core_setCore, State.core_put, State.core_incSat, hswap]
  · simp only [State.core_putB, State.core_put, State.core_incSat, State.core_setCore, hswap]

end Sys2Proof.Machine

open Sys2Proof Sys2Proof.Machine

/-- Settles O16. The boot record of a READY is kept in a field of the state, and so changes no byte of memory, by log entries 25
and 116. -/
theorem pairCheckpointCommands : Obligations.PairCheckpointCommands := by
  refine ⟨fun s => .next ⟨rfl, rfl, rfl, rfl, rfl⟩, ?copyA, ?noSlot, ?ready, ?confirmed, fun ini p s h => exec_pairReady_other h,
    ?abort, ?copyB, fun p s hin hh hc hph hold hsl => exec_restoreComplete hin hh hc hph hold hsl,
    fun p s h => exec_pairReady_restart h⟩
  case copyA =>
    intro x y s ha hb hk hs
    rw [exec_checkpointComplete_a ha hb hk hs]
    obtain ⟨hvalid, hframe, hcopy, hslot, harch, hother, hwords, hbytes⟩ :=
      (s.advanceTo s.copyEnd).writeSlot_facts .a hk hs x
    exact .next ⟨hvalid, hframe, hcopy, hslot, harch, hother .b (by decide), ((WordsKept.refl _ s).of_regs rfl).trans hwords,
      hbytes⟩
  case copyB =>
    intro x y s ha hb hk hs
    rw [exec_checkpointComplete_b ha hb]
    obtain ⟨hvalid, hframe, hcopy, hslot, harch, hother, hwords, hbytes⟩ :=
      (s.advanceTo s.copyEnd).writeSlot_facts .b hk hs y
    exact .next ⟨hvalid, hframe, hcopy, hslot, harch, hother .a (by decide), ((WordsKept.refl _ s).of_regs rfl).trans hwords,
      hbytes⟩
  case noSlot =>
    intro p s hin hh hc hph hold hsl hv
    rw [exec_restoreComplete hin hh hc hph hold hsl, State.restorePair_entry hv]
    obtain ⟨hout, hregs, hmem⟩ := (s.noSlot p).startEntry_facts p
    have hcrc : (s.noSlot p).flag (Reg.CP_CKSTAT_CRCERR.at p.idx) = true :=
      (State.flag_put_apart _ _ _ _ (by cases p <;> decide)).trans
        (State.flag_putB_self _ _ _ (by cases p <;> decide) (by cases p <;> decide))
    have hwords : WordsKept [(Reg.CP_CKSTAT_CRCERR.at p.idx).addr, (Reg.CP_RSTINFO_CAUSE.at p.idx).addr] s (s.noSlot p) :=
      ((WordsKept.refl _ s).putB (by simp) _).put (by cases p <;> decide) _
    refine .next ⟨?_, ?_, ?_, hmem, (hwords.of_regs hregs).put (by simp) _⟩
    · rw [State.core_put]
      exact hout
    · refine (State.flag_put_apart _ _ _ _ (by cases p <;> decide)).trans ?_
      rw [State.flag, State.get_congr hregs]
      exact hcrc
    · exact State.get_put_self _ _ _ (by cases p <;> decide)
  case ready =>
    intro p s h
    rw [exec_pairReady_restart h]
    exact .next ⟨State.flag_putB_self _ _ _ (by cases p <;> decide) (by cases p <;> decide),
      (WordsKept.refl _ s).putB (by simp) _, rfl⟩
  case confirmed =>
    intro p w s h ht
    obtain ⟨a, b, hx⟩ := exec_pairReady_swap h ht
    obtain ⟨hswap, hpin, hhold, hwords, hmem⟩ := s.swapDone_facts p
    obtain ⟨hcore, hregs, hmem'⟩ := (s.swapDone p).writeBoot_facts a b p
    rw [hx]
    refine .next ⟨by rw [hcore, hswap], ?_, fun hp => ?_, hwords.of_regs hregs, hmem'.trans hmem⟩
    · rw [State.flag, State.get_congr hregs]
      exact hpin
    · rw [State.flag, State.get_congr hregs]
      exact hhold hp
  case abort =>
    intro p old pin s h
    rw [exec_trapezeReadyTimeout h]
    obtain ⟨hswap, htick⟩ := (s.advanceTo ((s.core p).swapAt + readyLimit p)).trapezeBack_facts p old
    generalize hb : (s.advanceTo ((s.core p).swapAt + readyLimit p)).trapezeBack p old = b at hswap htick ⊢
    obtain ⟨hin, hcause, -, hrst, -, -⟩ := b.beginRestart_facts p 5
    refine .next ⟨?_, ?_, ?_, ?_⟩
    · rw [State.core_raise]
      exact hin
    · rw [State.core_raise, State.beginRestart_swap, hswap]
    · exact (State.get_raise _ _ _ (by cases p <;> decide)).trans hcause
    · rw [← htick]
      exact (State.get_raise _ _ _ (by cases p <;> decide)).trans hrst

/-- Settles O15, trigger by trigger. -/
theorem pairRestartCommands : Obligations.PairRestartCommands := by
  refine ⟨?mismatch, ?compare, ?passed, ?failed, ?request, fun ini p s h => if_neg h, ?timeout⟩
  case mismatch =>
    intro p addr s hr hs
    obtain ⟨hpow, hcore, htick⟩ := s.mismatchNoted_facts p addr
    rw [exec_pairMismatch hr, State.restartPair_noted hr hs hpow hcore, ← htick]
    exact .next ((s.mismatchNoted p addr).restart_frozen p 1)
  case compare =>
    intro p par addr s hr hs
    obtain ⟨hpow, hcore, htick⟩ : (if par then s else s.mismatchNoted p addr).power = s.power ∧
        (if par then s else s.mismatchNoted p addr).core p = s.core p ∧
        (if par then s else s.mismatchNoted p addr).tick = s.tick := by
      cases par
      case true => exact ⟨rfl, rfl, rfl⟩
      case false => exact s.mismatchNoted_facts p addr
    rw [exec_compareUnitFault hr]
    generalize (if par then s else s.mismatchNoted p addr) = u at hpow hcore htick ⊢
    obtain ⟨-, -, htick'⟩ := u.compareNoted_facts p (!par) false false par
    rw [State.compareFault_restarts hr hs hpow hcore, ← htick, ← htick']
    obtain ⟨hin, hcause, hres, hrst, -, htasks⟩ := (u.compareNoted p (!par) false false par).restart_frozen p 2
    exact .next ⟨hin, hcause, hres, hrst, htasks⟩
  case passed =>
    intro p s hr hi hd
    rw [exec_comparatorFrameTest hr hi hd]
    exact .next ⟨State.get_put_self _ _ _ (by cases p <;> decide), ((WordsKept.refl _ s).of_regs rfl).put (by simp) _, rfl,
      Nat.le_max_right _ _⟩
  case failed =>
    intro p c1 c2 par s hc hr hs hi hd
    rw [exec_comparatorFrameTest hr hi hd, if_neg (by simp [hc]), State.compareFault_restarts
      (t := s.advanceTo (s.fstart + 14200)) hr hs rfl (State.core_congr rfl rfl p)]
    obtain ⟨hin, hcause, -, -, -, -⟩ :=
      ((s.advanceTo (s.fstart + 14200)).compareNoted p false (!c1) (!c2) (!par)).restart_frozen p 2
    exact .next ⟨hin, hcause⟩
  case request =>
    intro p s hr hs
    have hx : exec (.pairRestartRequest p.ini p) s = .next (s.restartPair p 4) := if_pos rfl
    rw [hx, State.restartPair_noted hr hs rfl rfl]
    obtain ⟨hin, hcause, -, hrst, -, -⟩ := s.beginRestart_facts p 4
    exact .next ⟨hin, hcause, hrst⟩
  case timeout =>
    intro p s h
    have hx : exec (.restartTimeout p) s = .next ((s.advanceTo ((s.core p).trigAt + 200000)).putB
      (Reg.CP_STAT_INRST.at p.idx) false) := if_pos h
    rw [hx]
    exact .next ⟨State.flag_putB_self _ _ _ (by cases p <;> decide) (by cases p <;> decide), rfl,
      ((WordsKept.refl _ s).of_regs rfl).putB (by simp) _, rfl⟩

/-- Settles O17, command by command. That a write of DBGCTL by another initiator has no effect is log entry 43. -/
theorem debugAndFaultCommands : Obligations.DebugAndFaultCommands := by
  refine ⟨?halt, ?refused, fun ini p s h => ⟨if_pos h, if_neg h, if_neg fun hc => h hc.1⟩, ?resume, ?step, ?fault, ?corrected,
    ?fatal⟩
  case halt =>
    intro p s hl ha hr
    have hx : exec (.debugHalt .debug p) s = .next (((s.dropTasks p).putB (Reg.CP_STAT_DBGREF.at p.idx) false).putB
        (Reg.CP_STAT_DBGHALT.at p.idx) true) := by
      have hno : ¬ (s.flag Reg.NVM_SECCFG_DBGLOCK = true ∨ (p = .a ∧ s.anyRoleOn = true)) := by
        rintro (h | ⟨hp, h⟩)
        · exact absurd (hl.symm.trans h) (by decide)
        · exact absurd ((ha hp).symm.trans h) (by decide)
      exact (if_neg hno).trans (if_pos hr)
    rw [hx]
    have hwords : QuietWordsKept [Reg.TT_SKIPCNT, (Reg.CP_STAT_DBGHALT.at p.idx).addr] s (s.dropTasks p) :=
      fun a hq hl => s.word_dropTasks p a hq fun e => hl (by simp [e])
    refine .next ⟨State.flag_putB_self _ _ _ (by cases p <;> decide) (by cases p <;> decide), ?_, fun k hk => ?_,
      (hwords.putB (by cases p <;> decide) _).putB (by simp) _⟩
    · exact (State.flag_putB_apart _ _ _ _ (by cases p <;> decide)).trans
        (State.flag_putB_self _ _ _ (by cases p <;> decide) (by cases p <;> decide))
    · rw [State.putB_tt, State.putB_tt, State.dropTasks_tasks] at hk
      simpa using (List.mem_filter.1 hk).2
  case refused =>
    intro p s h
    have hx : exec (.debugHalt .debug p) s = .next ((s.putB (Reg.CP_STAT_DBGREF.at p.idx) true).raise Ev.DBG_SERVICE) :=
      if_pos h
    rw [hx]
    have hbytes : BytesKept s (s.putB (Reg.CP_STAT_DBGREF.at p.idx) true) := .of_mem rfl
    have hwords : QuietWordsKept [(Reg.CP_STAT_DBGREF.at p.idx).addr] s s := fun _ _ _ => rfl
    exact .next ⟨(State.flag_raise _ _ _ (by cases p <;> decide)).trans
      (State.flag_putB_self _ _ _ (by cases p <;> decide) (by cases p <;> decide)),
      fun ha => State.raised_raise _ _ ha (by decide), (hwords.putB (by simp) _).raise _, hbytes.raise _⟩
  case resume =>
    intro p s
    exact .next ⟨State.flag_putB_self _ _ _ (by cases p <;> decide) (by cases p <;> decide),
      (WordsKept.refl _ s).putB (by simp) _, rfl⟩
  case step =>
    intro p s h
    have hx : exec (.debugStep .debug p) s = .next (s.setCore p { s.core p with steps := (s.core p).steps + 1 }) :=
      if_pos ⟨rfl, h⟩
    rw [hx]
    obtain ⟨-, hregs, hmem, -⟩ := s.setCore_facts p { s.core p with steps := (s.core p).steps + 1 }
    exact .next ⟨congrArg Core.steps (s.core_setCore p _), hregs, hmem⟩
  case fault =>
    intro p w addr s hr hm
    have hx : exec (.memoryAccessFault p w addr) s = .next (s.pairFault p w) := if_pos (by simp [hr, hm])
    rw [hx]
    obtain ⟨hcause, hcount, hregs, hmem⟩ := s.pairFault_facts p w
    exact .next ⟨hcount, hcause, hregs, hmem⟩
  case corrected =>
    intro p mram addr s
    have hwords : QuietWordsKept [Reg.NVM_ECCCNT] s s := fun _ _ _ => rfl
    cases mram
    case true =>
      have hbytes : BytesKept s (s.incSat Reg.NVM_ECCCNT_MRAM) := .of_mem rfl
      exact .next ⟨fun _ => (State.get_raise _ _ _ (by decide)).trans (State.get_incSat_self _ _ (by decide)), by simp,
        fun ha => State.raised_raise _ _ ha (by decide), (hwords.setWord (by decide) _).raise _, hbytes.raise _⟩
    case false =>
      have hbytes : BytesKept s (s.incSat Reg.NVM_ECCCNT_SRAM) := .of_mem rfl
      exact .next ⟨by simp, fun _ => (State.get_raise _ _ _ (by decide)).trans (State.get_incSat_self _ _ (by decide)),
        fun ha => State.raised_raise _ _ ha (by decide), (hwords.setWord (by decide) _).raise _, hbytes.raise _⟩
  case fatal =>
    intro p mram addr s
    obtain ⟨hcause, -, hregs, hmem⟩ := ((s.put Reg.NVM_ECCADDR_ADDR addr).raise Ev.NVM_ECC_FATAL).pairFault_facts p false
    have hx : exec (.eccError p mram false addr) s =
      .next (((s.put Reg.NVM_ECCADDR_ADDR addr).raise Ev.NVM_ECC_FATAL).pairFault p false) := rfl
    rw [hx]
    have hwords : QuietWordsKept [Reg.NVM_ECCADDR] s s := fun _ _ _ => rfl
    have hbytes : BytesKept s (s.put Reg.NVM_ECCADDR_ADDR addr) := .of_mem rfl
    refine .next ⟨?_, hcause, fun ha => ?_, ((hwords.put (by decide) _).raise _).of_regs hregs, (hbytes.raise _).of_eq hmem⟩
    · rw [State.get_congr hregs, State.get_raise _ _ _ (by decide), State.get_put_self _ _ _ (by decide)]
      rfl
    · rw [State.raised_congr hregs]
      exact State.raised_raise _ _ ha (by decide)

end

section
/-!
Balancing (R283, R284, R289, R434): the switches when they open, and the request of a written pattern.
-/
namespace Sys2Proof.Machine

variable {l : List Nat} {s t : State}

/-! ### The switches -/

/-- A switch that is set to open is open. -/
theorem Switch.to_off (w : Switch) (f t : Nat) : (w.to f t false).on = false := by
  unfold Switch.to
  split
  next h => exact h.symm
  next => rfl

theorem bitsOf_eq_zero {m : List Bool} (h : ∀ b ∈ m, b = false) : bitsOf m = 0 := by
  induction m with
  | nil => rfl
  | cons b m ih =>
    have hb : b = false := h b (List.mem_cons_self ..)
    have hm : bitsOf m = 0 := ih fun c hc => h c (List.mem_cons_of_mem _ hc)
    have hcons : bitsOf (b :: m) = 2 * bitsOf m + b.toNat := rfl
    rw [hcons, hm, hb]
    rfl

/-- A modulation that ends earlier closes its switches no longer than before. -/
theorem Modulation.closed_earlier {m : Modulation} {u : Nat} (h : m.closed u = false) (e : Nat) :
    ({ m with e := min m.e e } : Modulation).closed u = false := by
  by_contra hc
  rw [Bool.not_eq_false] at hc
  unfold Modulation.closed at h hc
  obtain ⟨hruns, hany⟩ := Bool.and_eq_true_iff.1 hc
  have hruns' : m.runs u = true := by
    simp only [Modulation.runs, Bool.and_eq_true, decide_eq_true_eq] at hruns ⊢
    exact ⟨hruns.1, lt_of_lt_of_le hruns.2 (Nat.min_le_left _ _)⟩
  rw [hruns', Bool.true_and] at h
  exact absurd (h.symm.trans hany) (by decide)

/-- The end of a modulation is a change of the balancing state alone, and closes no switch. -/
theorem State.stopModulation_only (s : State) : ∃ m, s.stopModulation = { s with bal := { s.bal with modul := m } } ∧
    (s.bal.modul.closed s.now = false → m.closed s.now = false) := by
  unfold State.stopModulation
  extract_lets m
  split
  · exact ⟨_, rfl, fun h => Modulation.closed_earlier h _⟩
  · exact ⟨s.bal.modul, rfl, id⟩

/-- The switches of the pattern set to a mask, not yet shown. -/
def State.switchesSet (s : State) (m : Nat) : State :=
  { s with bal := { s.bal with sw := s.bal.sw.mapIdx fun i w => Switch.to w s.fstart s.now (m.testBit i) } }

theorem State.setSwitches_eq (s : State) (m : Nat) : s.setSwitches m = (s.switchesSet m).showSwitches := rfl

theorem State.switchesSet_regs (s : State) (m : Nat) : (s.switchesSet m).regs = s.regs := rfl

theorem State.showSwitches_facts (s : State) : s.showSwitches.bal = s.bal ∧ s.showSwitches.mem = s.mem ∧
    s.showSwitches.now = s.now ∧ s.showSwitches.power = s.power := ⟨rfl, rfl, rfl, rfl⟩

/-- Nothing closed shows as zero. -/
theorem State.showSwitches_zero (h : s.closedMask = 0) :
    s.showSwitches.get Reg.BAL_ONL_ON = 0 ∧ s.showSwitches.get Reg.BAL_ONH_ON = 0 := by
  have hl : (s.put Reg.BAL_ONL_ON (s.closedMask % 2 ^ 32)).get Reg.BAL_ONL_ON = 0 := by
    rw [State.get_put_self _ _ _ (by decide), h]
    rfl
  refine ⟨(State.get_put_apart _ _ _ _ (by decide)).trans hl, ?_⟩
  rw [State.showSwitches, State.get_put_self _ _ _ (by decide), h]
  rfl

theorem State.setSwitches_kept (s : State) (m : Nat) : WordsKept [Reg.BAL_ONL, Reg.BAL_ONH] s (s.setSwitches m) ∧
    (s.setSwitches m).mem = s.mem ∧ (s.setSwitches m).now = s.now ∧ (s.setSwitches m).power = s.power ∧
    (s.setSwitches m).bal.half = s.bal.half := by
  rw [State.setSwitches_eq]
  obtain ⟨hbal, hmem, hnow, hpow⟩ := (s.switchesSet m).showSwitches_facts
  have hset : WordsKept [Reg.BAL_ONL, Reg.BAL_ONH] s (s.switchesSet m) := fun _ _ => rfl
  exact ⟨hset.trans (State.showSwitches_kept _), hmem, hnow, hpow, by rw [hbal]; rfl⟩

theorem State.switchesSet_off (s : State) : ∀ w, w ∈ (s.switchesSet 0).bal.sw → w.on = false := by
  intro w hw
  obtain ⟨i, hi, rfl⟩ := List.mem_mapIdx.1 hw
  rw [Nat.zero_testBit]
  exact Switch.to_off _ _ _

theorem State.closedMask_open (h : s.bal.modul.closed s.now = false) : (s.switchesSet 0).closedMask = 0 := by
  have hpat : bitsOf ((s.switchesSet 0).bal.sw.map (·.on)) = 0 := bitsOf_eq_zero fun b hb => by
    obtain ⟨w, hw, rfl⟩ := List.mem_map.1 hb
    exact s.switchesSet_off w hw
  have hmod : (s.switchesSet 0).bal.modul.closed (s.switchesSet 0).now = false := h
  simp [State.closedMask, hpat, hmod]

/-- Every switch opens (R283, R289): what the words show, and what stays. -/
theorem State.openSwitches_facts (s : State) :
    (s.bal.modul.closed s.now = false → s.openSwitches.get Reg.BAL_ONL_ON = 0 ∧ s.openSwitches.get Reg.BAL_ONH_ON = 0) ∧
    (∀ w, w ∈ s.openSwitches.bal.sw → w.on = false) ∧
    WordsKept [Reg.BAL_ONL, Reg.BAL_ONH] s s.openSwitches ∧ s.openSwitches.mem = s.mem ∧ s.openSwitches.power = s.power := by
  obtain ⟨m, hm, hclosed⟩ := s.stopModulation_only
  have hregs : s.stopModulation.regs = s.regs := by rw [hm]
  have hmem' : s.stopModulation.mem = s.mem := by rw [hm]
  obtain ⟨hw, hmem, -, hpow, -⟩ := s.stopModulation.setSwitches_kept 0
  refine ⟨fun h => ?_, fun w hw => ?_, ((WordsKept.refl _ s).of_regs hregs).trans hw, hmem.trans hmem',
    hpow.trans s.stopModulation_power⟩
  · have hstopped : s.stopModulation.bal.modul.closed s.stopModulation.now = false := by
      rw [hm]
      exact hclosed h
    exact State.showSwitches_zero (State.closedMask_open hstopped)
  · rw [State.openSwitches, State.setSwitches_eq] at hw
    obtain ⟨hbal, -⟩ := (s.stopModulation.switchesSet 0).showSwitches_facts
    rw [hbal] at hw
    exact s.stopModulation.switchesSet_off w hw

theorem State.refreshSwitches_facts (s : State) : s.refreshSwitches.bal.half = s.bal.half ∧ s.refreshSwitches.now = s.now := by
  unfold State.refreshSwitches
  split
  · obtain ⟨-, -, hnow, -, hhalf⟩ := State.setSwitches_kept
      { s with bal := { s.bal with ran := s.bal.ran || s.bal.onSet != 0 } } (switchMask s.bal.onSet s.bal.half)
    exact ⟨hhalf, hnow⟩
  · obtain ⟨-, -, hnow, -, hhalf⟩ := s.setSwitches_kept 0
    exact ⟨hhalf, hnow⟩

/-! ### The standing request (R280, R282) -/

/-- The words of the matrix that a standing request may write. -/
def requestWords : List Nat := [Reg.BAL_STAT, Reg.BAL_DEFCNT, Reg.BAL_DEFLAST, Reg.BAL_DEFTICK]

theorem State.defer_kept (s : State) (k b : Nat) : QuietWordsKept requestWords s (s.defer k b) ∧ BytesKept s (s.defer k b) ∧
    (s.defer k b).bal = s.bal := by
  have hwords : WordsKept requestWords s ((((s.incSat Reg.BAL_DEFCNT_COUNT).put Reg.BAL_DEFLAST_DEFERRED k).put
      Reg.BAL_DEFLAST_HELDBY b).put Reg.BAL_DEFTICK_TICK s.tick) :=
    ((((WordsKept.refl _ s).incSat (by decide)).put (by decide) _).put (by decide) _).put (by decide) _
  have hbytes : BytesKept s ((((s.incSat Reg.BAL_DEFCNT_COUNT).put Reg.BAL_DEFLAST_DEFERRED k).put
      Reg.BAL_DEFLAST_HELDBY b).put Reg.BAL_DEFTICK_TICK s.tick) := .of_mem rfl
  exact ⟨hwords.quiet.raise _, hbytes.raise _, by simp [State.defer]⟩

theorem State.suspendBal_kept (s : State) (b : Nat) : QuietWordsKept requestWords s (s.suspendBal b) ∧
    BytesKept s (s.suspendBal b) ∧ (s.suspendBal b).bal = s.bal := by
  unfold State.suspendBal
  split
  · exact ⟨fun _ _ _ => rfl, .of_mem rfl, rfl⟩
  · have hwords : WordsKept requestWords s (((s.putB Reg.BAL_STAT_SUSP true).putBit Reg.BAL_STAT_GRANT 4 false).putBit
        Reg.BAL_STAT_PEND 4 true) :=
      (((WordsKept.refl _ s).putB (by decide) _).putBit (by decide) _ _).putBit (by decide) _ _
    have hbytes : BytesKept s (((s.putB Reg.BAL_STAT_SUSP true).putBit Reg.BAL_STAT_GRANT 4 false).putBit
        Reg.BAL_STAT_PEND 4 true) := .of_mem rfl
    obtain ⟨hw, hb, hbal⟩ := (((s.putB Reg.BAL_STAT_SUSP true).putBit Reg.BAL_STAT_GRANT 4 false).putBit
        Reg.BAL_STAT_PEND 4 true).defer_kept 5 b
    exact ⟨hwords.quiet.trans hw, hbytes.trans hb, hbal⟩

/-- The request of a pattern changes the words of the matrix, and no switch. -/
theorem State.standingRequest_kept (s : State) : QuietWordsKept requestWords s s.standingRequest ∧
    BytesKept s s.standingRequest ∧ s.standingRequest.bal = s.bal := by
  unfold State.standingRequest
  split
  · exact ⟨((((WordsKept.refl _ s).putB (by decide) _).putBit (by decide) _ _).putBit (by decide) _ _).quiet,
      .of_mem rfl, rfl⟩
  · split
    · exact ⟨fun _ _ _ => rfl, .of_mem rfl, rfl⟩
    · split
      · exact s.suspendBal_kept _
      · exact ⟨((WordsKept.refl _ s).putBit (by decide) _ _).quiet, .of_mem rfl, rfl⟩

/-- The pattern is marked as new. -/
def State.patternNew (s : State) : State := { s with bal := { s.bal with newPat := true } }

/-- A write of half a pattern: its word, the request, and the mark. -/
theorem State.patternWritten_facts (s : State) {a : Nat} (v : Word) (hq : quiet a = true) (ha : a ∉ requestWords) :
    (s.setWord a v).standingRequest.patternNew.word a = v ∧ (s.setWord a v).standingRequest.patternNew.bal.newPat = true ∧
    (s.setWord a v).standingRequest.patternNew.bal.sw = s.bal.sw ∧
    QuietWordsKept (a :: requestWords) s (s.setWord a v).standingRequest.patternNew ∧
    BytesKept s (s.setWord a v).standingRequest.patternNew := by
  obtain ⟨hw, hb, hbal⟩ := (s.setWord a v).standingRequest_kept
  have hset : QuietWordsKept (a :: requestWords) s (s.setWord a v) :=
    ((WordsKept.refl _ s).setWord (List.mem_cons_self ..) v).quiet
  refine ⟨(hw a hq ha).trans (State.word_setWord_self _ _ _), rfl, (congrArg Bal.sw hbal :),
    hset.trans (hw.mono (List.subset_cons_self ..)), ?_⟩
  have hbytes : BytesKept s (s.setWord a v) := .of_mem rfl
  exact hbytes.trans hb

/-! ### The pattern cleared (R289) -/

/-- The register words of a cleared pattern. -/
def State.patternWords (s : State) : State :=
  ((((s.setWord Reg.BAL_PATL 0).setWord Reg.BAL_PATH 0).putB Reg.BAL_STAT_SUSP false).putBit
      Reg.BAL_STAT_GRANT 4 false).putBit Reg.BAL_STAT_PEND 4 false

theorem State.patternWords_facts (s : State) : s.patternWords.word Reg.BAL_PATL = 0 ∧ s.patternWords.word Reg.BAL_PATH = 0 ∧
    s.patternWords.flag Reg.BAL_STAT_SUSP = false ∧
    WordsKept [Reg.BAL_PATL, Reg.BAL_PATH, Reg.BAL_STAT, Reg.BAL_ONL, Reg.BAL_ONH] s s.patternWords := by
  have hpath : ((s.setWord Reg.BAL_PATL 0).setWord Reg.BAL_PATH 0).word Reg.BAL_PATH = 0 := State.word_setWord_self _ _ _
  have hpatl : ((s.setWord Reg.BAL_PATL 0).setWord Reg.BAL_PATH 0).word Reg.BAL_PATL = 0 :=
    (State.word_setWord_ne _ _ _ _ (by decide)).trans (State.word_setWord_self _ _ _)
  have hkept : WordsKept [Reg.BAL_PATL, Reg.BAL_PATH, Reg.BAL_STAT, Reg.BAL_ONL, Reg.BAL_ONH] s
      ((s.setWord Reg.BAL_PATL 0).setWord Reg.BAL_PATH 0) :=
    ((WordsKept.refl _ s).setWord (by decide) _).setWord (by decide) _
  unfold State.patternWords
  generalize (s.setWord Reg.BAL_PATL 0).setWord Reg.BAL_PATH 0 = u at hpath hpatl hkept ⊢
  have hstat : WordsKept [Reg.BAL_STAT] u (((u.putB Reg.BAL_STAT_SUSP false).putBit Reg.BAL_STAT_GRANT 4 false).putBit
      Reg.BAL_STAT_PEND 4 false) :=
    (((WordsKept.refl _ u).putB (by decide) _).putBit (by decide) _ _).putBit (by decide) _ _
  have hsusp : (u.putB Reg.BAL_STAT_SUSP false).flag Reg.BAL_STAT_SUSP = false :=
    State.flag_putB_self _ _ _ (by decide) (by decide)
  exact ⟨(hstat _ (by decide)).trans hpatl, (hstat _ (by decide)).trans hpath,
    ((State.flag_put_apart _ _ _ _ (by decide)).trans (State.flag_put_apart _ _ _ _ (by decide))).trans hsusp,
    hkept.trans (hstat.mono (by decide))⟩

/-- No channel is on by the pattern. -/
def State.noneOn (s : State) : State := { s with bal := { s.bal with onSet := 0, eligible := 0 } }

theorem State.clearPattern_eq (s : State) : s.clearPattern = s.patternWords.noneOn.openSwitches := rfl

theorem State.noneOn_facts (s : State) : s.noneOn.regs = s.regs ∧ s.noneOn.mem = s.mem ∧ s.noneOn.now = s.now ∧
    s.noneOn.bal.modul = s.bal.modul := ⟨rfl, rfl, rfl, rfl⟩

theorem State.patternWords_bal (s : State) : s.patternWords.bal = s.bal ∧ s.patternWords.mem = s.mem ∧
    s.patternWords.now = s.now := by simp [State.patternWords]

end Sys2Proof.Machine

open Sys2Proof Sys2Proof.Machine

/-- Settles O24, command by command. -/
theorem balancingCommands : Obligations.BalancingCommands := by
  refine ⟨?lower, ?upper, ?stop, ?half, ?timeout, ?silent⟩
  case lower =>
    intro ini v s
    exact .next (s.patternWritten_facts v (by decide) (by decide))
  case upper =>
    intro ini v s
    exact .next (s.patternWritten_facts (v &&& 0xFFFF) (by decide) (by decide))
  case stop =>
    intro ini s
    have hx : exec (.balancingStop ini) s = .next s.patternWords.noneOn.openSwitches :=
      congrArg Host.Outcome.next s.clearPattern_eq
    rw [hx]
    obtain ⟨hl, hh, hsusp, hwords⟩ := s.patternWords_facts
    obtain ⟨hbal, hmem₀, hnow₀⟩ := s.patternWords_bal
    obtain ⟨hregs, hmem, hnow, hmod⟩ := s.patternWords.noneOn_facts
    obtain ⟨hshow, hoff, hkept, hmem', -⟩ := s.patternWords.noneOn.openSwitches_facts
    refine .next ⟨?_, ?_, fun h => hshow (by rw [hnow, hmod, hbal, hnow₀]; exact h), ?_, hoff,
      (hwords.of_regs hregs).trans (hkept.mono (by decide)), hmem'.trans (hmem.trans hmem₀)⟩
    · rw [hkept _ (by decide), State.word_congr hregs, hl]
    · rw [hkept _ (by decide), State.word_congr hregs, hh]
    · rw [hkept.flag _ (by decide), State.flag, State.get_congr hregs]
      exact hsusp
  case half =>
    intro s
    have hx : exec .balHalfPeriod s = .next (State.refreshSwitches (({ s with bal := { s.bal with half := true } } : State).advanceTo
        (s.fstart + (s.now - s.fstart) / 25000 * 25000 + 12500))) := rfl
    rw [hx]
    have hwords : WordsKept [Reg.BAL_ONL, Reg.BAL_ONH] s (({ s with bal := { s.bal with half := true } } : State).advanceTo
        (s.fstart + (s.now - s.fstart) / 25000 * 25000 + 12500)) := fun _ _ => rfl
    obtain ⟨hw, hmem⟩ := (({ s with bal := { s.bal with half := true } } : State).advanceTo
        (s.fstart + (s.now - s.fstart) / 25000 * 25000 + 12500)).refreshSwitches_kept
    obtain ⟨hhalf, hnow⟩ := (({ s with bal := { s.bal with half := true } } : State).advanceTo
        (s.fstart + (s.now - s.fstart) / 25000 * 25000 + 12500)).refreshSwitches_facts
    exact .next ⟨hhalf, hnow, hwords.trans hw, hmem⟩
  case timeout =>
    intro s hr hf hp
    have hx : exec .balCmdTimeout s = .next (s.openSwitches.raise Ev.BAL_CMD_TIMEOUT) :=
      if_pos ⟨hr, by simp [hf], by simp [hp]⟩
    rw [hx]
    obtain ⟨hshow, hoff, hkept, hmem, hpow⟩ := s.openSwitches_facts
    have hbytes : BytesKept s s.openSwitches := .of_mem hmem
    have halive : s.openSwitches.alive = s.alive := by rw [State.alive, State.alive, hpow]
    refine .next ⟨fun h => ?_, by rwa [State.raise_bal], fun ha => State.raised_raise _ _ (halive.trans ha) (by decide),
      hkept.quiet.raise _, hbytes.raise _⟩
    obtain ⟨h1, h2⟩ := hshow h
    exact ⟨(State.get_raise _ _ _ (by decide)).trans h1, (State.get_raise _ _ _ (by decide)).trans h2⟩
  case silent =>
    intro s h
    have hx : exec .balCmdTimeout s = .next s.openSwitches := by
      refine if_neg ?_
      rintro ⟨hr, hf, hp⟩
      obtain h | h | h := h
      · exact absurd (hr.symm.trans h) (by decide)
      · exact hf h
      · simp [Option.isNone_iff_eq_none.1 hp] at h
    rw [hx]
    obtain ⟨hshow, hoff, hkept, hmem, -⟩ := s.openSwitches_facts
    exact .next ⟨hshow, hoff, hkept, hmem⟩

end

section
/-!
Resets and boot (R328, R397, R406, R412, R413): what a device reset wipes, the release, and the boot steps.
-/
namespace Sys2Proof.Machine

variable {l : List Nat} {s t u : State}

/-! ### What a reset wipes (R406, Table 18.5) -/

/-- A map read after a filter of its keys. -/
theorem kget_filter {α : Type} (d : Nat → α) (f : Nat → Bool) (j : Nat) (m : KMap α) :
    kget d j (m.filter fun p => f p.1) = if f j then kget d j m else d j := by
  induction m with
  | nil => simp [kget]
  | cons p m ih =>
    obtain ⟨k, v⟩ := p
    by_cases hk : k = j
    · subst hk
      cases hf : f k with
      | true => rw [List.filter_cons_of_pos (by simpa using hf)]; simp [kget]
      | false =>
        rw [hf] at ih
        rw [List.filter_cons_of_neg (by simp [hf])]
        simpa using ih
    · cases hf : f k with
      | true => rw [List.filter_cons_of_pos (by simpa using hf)]; simp [kget, hk, ih]
      | false => rw [List.filter_cons_of_neg (by simp [hf])]; simp [kget, hk, ih]

theorem State.word_wiped (s : State) (c a : Nat) :
    (s.wiped c).word a = if keptReg a || pageOf a == 29 then s.word a else resetWord a :=
  kget_filter resetWord (fun a => keptReg a || pageOf a == 29) a s.regs

theorem State.wiped_facts (s : State) (c : Nat) : (s.wiped c).frame = 0 ∧ (s.wiped c).fstart = (s.wiped c).now ∧
    (s.wiped c).power.resetAt = (s.wiped c).now ∧ (s.wiped c).power.holdAt = none ∧ (s.wiped c).power.keyA = false ∧
    (s.wiped c).power.keyB = false ∧ (s.wiped c).power.stage = 0 ∧ (s.wiped c).lhm.hreq = 0 :=
  ⟨rfl, rfl, rfl, rfl, rfl, rfl, rfl, rfl⟩

/-- The channel registers at reset: only their words change, and those are kept words. -/
theorem State.chstatReset_only (s : State) : ∃ r, s.chstatReset = { s with regs := r } :=
  (List.range 16).foldlRecOn (motive := fun t : State => ∃ r, t = { s with regs := r }) _ ⟨s.regs, rfl⟩
    fun t ⟨r, hr⟩ i _ => by
      subst hr
      exact ⟨_, rfl⟩

theorem keptReg_chstat {i : Nat} (h : i < 16) : keptReg (Reg.OUT_CHSTAT + i * 4) = true := by
  have hlow : Reg.OUT_CHSTAT ≤ Reg.OUT_CHSTAT + i * 4 := Nat.le_add_right _ _
  have hhigh : Reg.OUT_CHSTAT + i * 4 < Reg.OUT_CHSTAT + 64 := Nat.add_lt_add_left (by omega) _
  unfold keptReg
  rw [Bool.or_eq_true, Bool.or_eq_true, Bool.and_eq_true]
  exact .inl (.inr ⟨decide_eq_true hlow, decide_eq_true hhigh⟩)

theorem State.word_chstatReset (s : State) {a : Nat} (h : keptReg a = false) : s.chstatReset.word a = s.word a := by
  refine (List.range 16).foldlRecOn (motive := fun t : State => t.word a = s.word a) _ rfl fun t ht i hi => ?_
  have hne : a ≠ Reg.OUT_CHSTAT + i * 4 := fun e =>
    absurd ((keptReg_chstat (List.mem_range.1 hi)).symm.trans (e ▸ h)) (by decide)
  have hcur : (t.put (Reg.OUT_CHSTAT_CUR.at i) 0).word a = t.word a := State.word_put_ne _ _ _ _ hne
  exact (State.word_put_ne _ _ _ _ hne).trans (hcur.trans ht)

/-! ### The channels follow their inputs -/

/-- What a refresh of the channels leaves: time, frame and strap, the measurement, and memory but for the ring. -/
structure ChannelsOnly (s t : State) : Prop where
  now : t.now = s.now
  fstart : t.fstart = s.fstart
  frame : t.frame = s.frame
  strap : t.leadStrap = s.leadStrap
  meas : t.cm = s.cm
  bytes : BytesKept s t

theorem ChannelsOnly.refl (s : State) : ChannelsOnly s s := ⟨rfl, rfl, rfl, rfl, rfl, .of_mem rfl⟩

theorem ChannelsOnly.trans (h : ChannelsOnly s t) (h' : ChannelsOnly t u) : ChannelsOnly s u :=
  ⟨h'.now.trans h.now, h'.fstart.trans h.fstart, h'.frame.trans h.frame, h'.strap.trans h.strap, h'.meas.trans h.meas,
    h.bytes.trans h'.bytes⟩

theorem ChannelsOnly.put (h : ChannelsOnly s t) (f : Fld) (v : Nat) : ChannelsOnly s (t.put f v) :=
  h.trans ⟨rfl, rfl, rfl, rfl, rfl, .of_mem rfl⟩

theorem ChannelsOnly.raise (h : ChannelsOnly s t) (e : Event) : ChannelsOnly s (t.raise e) :=
  h.trans ⟨State.raise_now _ _, State.raise_fstart _ _, State.raise_frame _ _, State.raise_leadStrap _ _,
    State.raise_cm _ _, (BytesKept.of_mem rfl).raise e⟩

theorem ChannelsOnly.startRamp (h : ChannelsOnly s t) (i : Nat) : ChannelsOnly s (t.startRamp i) :=
  h.trans ⟨rfl, rfl, rfl, rfl, rfl, .of_mem rfl⟩

theorem ChannelsOnly.stopChan (h : ChannelsOnly s t) (i : Nat) : ChannelsOnly s (t.stopChan i) :=
  h.trans ⟨rfl, rfl, rfl, rfl, rfl, .of_mem rfl⟩

theorem ChannelsOnly.testIncomplete (h : ChannelsOnly s t) (i st : Nat) : ChannelsOnly s (t.testIncomplete i st) := by
  unfold State.testIncomplete
  extract_lets v o w
  have hw : ChannelsOnly t (w.putBit Reg.OUT_TESTRES_INCOMPLETE i true) := ⟨rfl, rfl, rfl, rfl, rfl, .of_mem rfl⟩
  exact h.trans (hw.raise _)

theorem State.refreshChan_only (s : State) (i : Nat) : ChannelsOnly s (s.refreshChan i) := by
  unfold State.refreshChan
  extract_lets v
  have hv : ChannelsOnly s v := ⟨rfl, rfl, rfl, rfl, rfl, .of_mem rfl⟩
  split
  · exact hv.startRamp i
  · exact hv.testIncomplete i 0
  · exact (hv.testIncomplete i 0).startRamp i
  · split
    · exact hv.testIncomplete i 0
    · exact hv
  · exact hv.stopChan i
  · exact hv.stopChan i
  · exact hv.stopChan i
  · exact hv

theorem State.refreshChannels_only (s : State) : ChannelsOnly s s.refreshChannels := by
  refine ChannelsOnly.put ((List.range 16).foldlRecOn (motive := ChannelsOnly s) _ (.refl s) fun t ht i _ => ?_) _ _
  split
  · exact ht.trans (t.refreshChan_only i)
  · exact ht

/-! ### Release (R412 step 1) -/

theorem State.restoreTick_only (s : State) : ∃ k, s.restoreTick = { s with tick := k } := by
  unfold State.restoreTick
  split
  · exact ⟨_, rfl⟩
  · split
    · exact ⟨_, rfl⟩
    · exact ⟨_, rfl⟩

/-- The state that is released, before TICK is restored. -/
def State.releasedState (s : State) (lead : Bool) : State :=
  let s := s.advanceTo s.releaseTick
  let sup := supplyKept s.power.code
  let ring := fun (a : Nat) => a == Reg.BBX_RECPTR
  { s with
    leadStrap := lead, frame := 0, fstart := s.now,
    regs := s.regs.filter fun p => keptReg p.1 || (sup && ring p.1),
    mem := if sup then s.mem else s.mem.filter fun c => !volatileAddr c.1,
    bbx := { count := if sup then s.bbx.count else 0 },
    power := { s.power with
      okAt := none, phase := .released, releasedAt := s.now, port := 0,
      resetMs := if s.power.code = 1 then 0 else (s.now - s.power.resetAt) / 100000 },
    cm := { s.cm with running := s.power.pauseAt.isNone } }

theorem State.releasedState_facts (s : State) (lead : Bool) : (s.releasedState lead).power.phase = .released ∧
    (s.releasedState lead).leadStrap = lead ∧ (s.releasedState lead).frame = 0 ∧
    (s.releasedState lead).now = max s.now s.releaseTick ∧ (s.releasedState lead).fstart = (s.releasedState lead).now ∧
    (s.releasedState lead).power.releasedAt = (s.releasedState lead).now ∧ (s.releasedState lead).power.port = 0 ∧
    (s.releasedState lead).power.okAt = none ∧ (s.releasedState lead).cm.running = s.power.pauseAt.isNone ∧
    (supplyKept s.power.code = true → (s.releasedState lead).mem = s.mem) :=
  ⟨rfl, rfl, rfl, rfl, rfl, rfl, rfl, rfl, rfl, fun h => if_pos h⟩

theorem exec_resetRelease (ha : s.alive = false) (hm : s.mayRelease = true) (lead : Bool) : ∃ n,
    exec (.resetRelease lead) s = .next ((s.releasedState lead).restoreTick.put Reg.PWR_STAT_STATE n).refreshChannels :=
  ⟨_, if_neg (by simp [ha, hm])⟩

/-- What a release leaves, the channels refreshed. -/
theorem State.released_facts (s : State) (lead : Bool) (n : Nat) :
    ((s.releasedState lead).restoreTick.put Reg.PWR_STAT_STATE n).refreshChannels.power = (s.releasedState lead).power ∧
    ChannelsOnly (s.releasedState lead) ((s.releasedState lead).restoreTick.put Reg.PWR_STAT_STATE n).refreshChannels := by
  obtain ⟨k, hk⟩ := (s.releasedState lead).restoreTick_only
  have hpow : (s.releasedState lead).restoreTick.power = (s.releasedState lead).power := by rw [hk]
  have honly : ChannelsOnly (s.releasedState lead) (s.releasedState lead).restoreTick := by
    rw [hk]
    exact ⟨rfl, rfl, rfl, rfl, rfl, .of_mem rfl⟩
  exact ⟨(State.refreshChannels_power _).trans hpow, (honly.put _ _).trans (State.refreshChannels_only _)⟩

/-! ### Boot (R328, R412) -/

theorem State.regionResult_only (s : State) (r : Nat) (ok : Bool) : ∃ m, s.regionResult r ok = { s with regs := m } := by
  unfold State.regionResult
  split
  · exact ⟨_, rfl⟩
  · exact ⟨_, rfl⟩

/-- Verification writes registers alone. -/
theorem State.verifyPair_only (s : State) (p : Pair) (b : Nat) : ∃ m, (s.verifyPair p b).1 = { s with regs := m } := by
  unfold State.verifyPair
  extract_lets r r' ok t ok'
  obtain ⟨m, hm⟩ : ∃ m, t = { s with regs := m } := s.regionResult_only r ok
  split
  · exact ⟨m, hm⟩
  · obtain ⟨m', hm'⟩ := t.regionResult_only r' ok'
    exact ⟨m', by rw [hm', hm]⟩

theorem State.verifyPair_bank (s : State) (p : Pair) (b : Nat) : (s.verifyPair p b).2 =
    if s.regionOk (2 * b + p.idx) then some b else if s.regionOk (2 * (1 - b) + p.idx) then some (1 - b) else none := by
  unfold State.verifyPair
  extract_lets r r' ok t ok'
  split <;> rfl

/-- The pairs start: Pair A out of reset, Pair B too unless it is held. -/
theorem State.startCores_facts (s : State) (b : Bool) : (s.startCores b).cpa.inReset = false ∧
    (s.startCores b).cpb.inReset = (s.startCores b).cpb.held ∧ (s.startCores b).now = s.now := by
  cases b <;> exact ⟨rfl, rfl, rfl⟩

/-- The device runs from this tick on. -/
def State.runBegun (s : State) : State :=
  { s with
    frame := 0, fstart := s.now, power := { s.power with phase := .run, holdFltBoot := false },
    est := { s.est with jAt := s.now, jAcc := 0 } }

theorem State.runBegun_facts (s : State) : s.runBegun.frame = 0 ∧ s.runBegun.fstart = s.now ∧
    s.runBegun.power.phase = .run ∧ s.runBegun.power.holdFltBoot = false ∧ s.runBegun.cpa = s.cpa ∧
    s.runBegun.cpb = s.cpb := ⟨rfl, rfl, rfl, rfl, rfl, rfl⟩

/-- The counts of the watchdogs at 0, a hold-up fault that waited, and the digest. -/
def State.runShown (s : State) (flt : Bool) : State :=
  ((((s.put Reg.RST_WDSTAT_CNTA 0).put Reg.RST_WDSTAT_CNTB 0).raiseIf flt Ev.PWR_HOLD_FAULT)).showDigest

theorem State.runShown_facts (s : State) (flt : Bool) : (s.runShown flt).get Reg.RST_WDSTAT_CNTA = 0 ∧
    (s.runShown flt).get Reg.RST_WDSTAT_CNTB = 0 ∧ (s.runShown flt).frame = s.frame ∧ (s.runShown flt).fstart = s.fstart ∧
    (s.runShown flt).power = s.power ∧ (s.runShown flt).cpa = s.cpa ∧ (s.runShown flt).cpb = s.cpb := by
  have hkept : QuietWordsKept [Reg.CSC_DIGEST] ((s.put Reg.RST_WDSTAT_CNTA 0).put Reg.RST_WDSTAT_CNTB 0) (s.runShown flt) :=
    ((WordsKept.refl _ _).quiet.raiseIf _ _).put (by decide) _
  have ha : (s.put Reg.RST_WDSTAT_CNTA 0).get Reg.RST_WDSTAT_CNTA = 0 := State.get_put_self _ _ _ (by decide)
  have hb : ((s.put Reg.RST_WDSTAT_CNTA 0).put Reg.RST_WDSTAT_CNTB 0).get Reg.RST_WDSTAT_CNTB = 0 :=
    State.get_put_self _ _ _ (by decide)
  refine ⟨(hkept.get _ (by decide) (by decide)).trans ((State.get_put_apart _ _ _ _ (by decide)).trans ha),
    (hkept.get _ (by decide) (by decide)).trans hb, ?_⟩
  simp [State.runShown, State.showDigest]

/-- Pair B verified, the banks of both pairs shown, and the boot record of a fallback. -/
def State.bootBanks (s : State) (rec_ : Nat × Nat) (ba : Nat) : State :=
  let r := s.verifyPair .b rec_.2
  let bb := r.2.getD rec_.2
  let u := ((r.1.putB Reg.NVM_BOOTSTAT_BFALL (r.2 != some rec_.2)).putB Reg.NVM_BOOTSTAT_BHELD r.2.isNone).put
    Reg.NVM_BOOTSTAT_ABANK ba
  let v := ((u.put Reg.NVM_BOOTSTAT_BBANK bb).putBank .a ba).putBank .b bb
  if ba ≠ rec_.1 ∨ bb ≠ rec_.2 then { v with ret := { v.ret with boot := some (ba, bb) } } else v

theorem State.putBank_now (s : State) (p : Pair) (b : Nat) : (s.putBank p b).now = s.now := rfl

theorem State.bootBanks_now (s : State) (rec_ : Nat × Nat) (ba : Nat) : (s.bootBanks rec_ ba).now = s.now := by
  obtain ⟨m, hm⟩ := s.verifyPair_only .b rec_.2
  have hnow : (s.verifyPair .b rec_.2).1.now = s.now := by rw [hm]
  unfold State.bootBanks
  extract_lets r bb u v
  have hv : v.now = s.now := by
    simp only [v, u, State.putBank_now, State.put_now, State.putB_now]
    exact hnow
  clear_value v
  split
  · exact hv
  · exact hv

/-- Both pairs start once their banks are chosen, and the run begins. -/
theorem State.bootPairs_eq (s : State) (rec_ : Nat × Nat) (ba : Nat) : s.bootPairs rec_ ba =
    ((s.bootBanks rec_ ba).startCores (s.verifyPair .b rec_.2).2.isNone).runBegun.runShown
      ((s.bootBanks rec_ ba).startCores (s.verifyPair .b rec_.2).2.isNone).power.holdFltBoot := by
  unfold State.bootPairs
  extract_lets r bb s1 s2 rt s3 s4 flt s5
  have h3 : s.bootBanks rec_ ba = s3 := rfl
  have h4 : (s.bootBanks rec_ ba).startCores (s.verifyPair .b rec_.2).2.isNone = s4 := by rw [h3]
  rw [h4]
  clear h4 h3
  clear_value s4
  unfold State.runShown State.runBegun
  rfl

/-- With no bank of Pair A that verifies, no pair is released. -/
def State.bootHeld (s : State) : State := { s with power := { s.power with phase := .bootHold } }

theorem State.bootHeld_facts (s : State) : s.bootHeld.power.phase = .bootHold ∧ s.bootHeld.cpa = s.cpa ∧
    s.bootHeld.cpb = s.cpb ∧ s.bootHeld.now = s.now ∧ s.bootHeld.regs = s.regs := ⟨rfl, rfl, rfl, rfl, rfl⟩

/-- Pair A is verified, and whether its recorded bank failed is shown. -/
def State.bootVerified (s : State) : State :=
  (s.verifyPair .a (s.ret.boot.getD (0, 0)).1).1.putB Reg.NVM_BOOTSTAT_AFALL
    ((s.verifyPair .a (s.ret.boot.getD (0, 0)).1).2 != some (s.ret.boot.getD (0, 0)).1)

theorem State.bootVerified_facts (s : State) : s.bootVerified.cpa = s.cpa ∧ s.bootVerified.cpb = s.cpb ∧
    s.bootVerified.now = s.now ∧ s.bootVerified.flag Reg.NVM_BOOTSTAT_AFALL =
      ((s.verifyPair .a (s.ret.boot.getD (0, 0)).1).2 != some (s.ret.boot.getD (0, 0)).1) := by
  obtain ⟨m, hm⟩ := s.verifyPair_only .a (s.ret.boot.getD (0, 0)).1
  refine ⟨?_, ?_, ?_, State.flag_putB_self _ _ _ (by decide) (by decide)⟩
  · rw [State.bootVerified, State.putB_cpa, hm]
  · rw [State.bootVerified, State.putB_cpb, hm]
  · rw [State.bootVerified, State.putB_now, hm]

theorem exec_bootVerifyDone (hp : s.power.phase = .records) : exec .bootVerifyDone s =
    match (s.verifyPair .a (s.ret.boot.getD (0, 0)).1).2 with
    | none => .next s.bootVerified.bootHeld
    | some ba => .next (s.bootVerified.bootPairs (s.ret.boot.getD (0, 0)) ba) := if_neg (not_not.2 hp)

end Sys2Proof.Machine

open Sys2Proof Sys2Proof.Machine

/-- Settles O37. Which register words a reset keeps, and that HREQ is not one of them, is log entry 48. -/
theorem deviceResetLeaves : Obligations.DeviceResetLeaves := by
  refine ⟨?fields, ?words, fun c a s => s.word_wiped c a, fun c s h => State.deviceReset_dead c h⟩
  case fields =>
    intro c s ha
    obtain ⟨u, hu⟩ := State.deviceReset_wiped c ha
    obtain ⟨r, hr⟩ := (u.wiped c).chstatReset_only
    obtain ⟨hframe, hstart, hat, hhold, hka, hkb, hstage, hreq⟩ := u.wiped_facts c
    have hkeeps := State.deviceReset_keeps s c (.refl s)
    refine ⟨s.deviceReset_alive c, State.deviceReset_code c ha, ?_, ?_, ?_, ?_, ?_, ?_, ?_, ?_, hkeeps.queue, hkeeps.build,
      hkeeps.time⟩ <;> rw [hu, hr]
    · exact hframe
    · exact hstart
    · exact hat
    · exact hhold
    · exact hka
    · exact hkb
    · exact hstage
    · exact hreq
  case words =>
    intro c a s ha hk hp
    obtain ⟨u, hu⟩ := State.deviceReset_wiped c ha
    rw [hu, State.word_chstatReset _ hk, State.word_wiped, if_neg (by simp [hk, hp])]

/-- Settles O39, step by step. That frame 0 begins in the tick in which the pairs are released is log entry 21, and what the
reset has kept is entry 48. -/
theorem bootCommands : Obligations.BootCommands := by
  refine ⟨?held, ?release, ?memory, fun s hp he => if_pos ⟨hp, he⟩, ?noRecords, fun s hp => if_pos hp, fun s hp => if_neg hp,
    fun s hp => if_pos hp, ?verify, fun p b s => s.verifyPair_bank p b⟩
  case held =>
    intro lead s h
    refine if_pos ?_
    obtain h | h := h <;> simp [h]
  case release =>
    intro lead s ha hm
    obtain ⟨n, hx⟩ := exec_resetRelease ha hm lead
    obtain ⟨hpow, honly⟩ := s.released_facts lead n
    obtain ⟨hphase, hlead, hframe, hnow, hstart, hat, hport, hok, hrun, -⟩ := s.releasedState_facts lead
    rw [hx]
    refine .next ⟨?_, ?_, honly.strap.trans hlead, honly.frame.trans hframe, honly.now.trans hnow, ?_, ?_, ?_, ?_, ?_⟩
    · rw [hpow, hphase]
    · rw [State.alive, hpow, hphase]
      rfl
    · rw [honly.fstart, hstart, honly.now]
    · rw [hpow, hat, honly.now]
    · rw [hpow, hport]
    · rw [hpow, hok]
    · rw [honly.meas, hrun]
  case memory =>
    intro c lead s hc hcode ha hm
    obtain ⟨n, hx⟩ := exec_resetRelease ha hm lead
    obtain ⟨-, honly⟩ := s.released_facts lead n
    obtain ⟨-, -, -, -, -, -, -, -, -, hmem⟩ := s.releasedState_facts lead
    have hsup : supplyKept s.power.code = true := by
      simp only [List.mem_cons, List.not_mem_nil, or_false] at hc
      rw [hcode]
      obtain rfl | rfl | rfl := hc <;> rfl
    rw [hx]
    exact .next ((BytesKept.of_mem (hmem hsup)).trans honly.bytes)
  case noRecords =>
    intro s h
    refine if_neg ?_
    rintro ⟨hp, he⟩
    obtain h | h := h
    · exact h hp
    · exact absurd he (Nat.not_le.2 h)
  case verify =>
    intro s hp
    obtain ⟨hcpa₀, hcpb₀, hnow₀, hfall⟩ := s.bootVerified_facts
    rw [exec_bootVerifyDone hp]
    dsimp only
    cases hr : (s.verifyPair .a (s.ret.boot.getD (0, 0)).1).2 with
    | none =>
      obtain ⟨hphase, hcpa, hcpb, hnow, hregs⟩ := s.bootVerified.bootHeld_facts
      refine .next ⟨hphase, hcpa.trans hcpa₀, hcpb.trans hcpb₀, hnow.trans hnow₀, ?_⟩
      rw [State.flag, State.get_congr hregs]
      rw [hr] at hfall
      exact hfall
    | some ba =>
      have hv := s.bootVerified.bootBanks_now (s.ret.boot.getD (0, 0)) ba
      dsimp only
      rw [State.bootPairs_eq]
      generalize s.bootVerified.bootBanks (s.ret.boot.getD (0, 0)) ba = v at hv ⊢
      generalize (s.bootVerified.verifyPair .b (s.ret.boot.getD (0, 0)).2).2.isNone = b
      obtain ⟨ha, hb, hnow⟩ := v.startCores_facts b
      obtain ⟨hframe, hstart, hphase, hflt, hcpa, hcpb⟩ := (v.startCores b).runBegun_facts
      obtain ⟨hcnta, hcntb, hframe', hstart', hpow', hcpa', hcpb'⟩ :=
        (v.startCores b).runBegun.runShown_facts (v.startCores b).power.holdFltBoot
      refine .next ⟨?_, ?_, hframe'.trans hframe, ?_, ?_, hcnta, hcntb, ?_⟩
      · rw [hpow', hphase]
      · rw [hcpa', hcpa, ha]
      · rw [hstart', hstart, hnow, hv, hnow₀]
      · rw [hpow', hflt]
      · rw [hcpb', hcpb, hb]

end

section
/-!
The test port (R431, R432): the activity of TCK, the instructions, and the word access of DBGACC.
-/
namespace Sys2Proof.Machine

variable {l : List Nat} {s t : State}

/-! ### Activity of TCK -/

/-- The tick of an activity of TCK. -/
def State.tckNoted (s : State) : State := { s with jtag := { s.jtag with tckAt := s.now } }

theorem State.tckTouch_on (h : s.flag Reg.DBG_STAT_CONN = true) : s.tckTouch = s.tckNoted := if_pos h

theorem State.tckTouch_off (h : s.flag Reg.DBG_STAT_CONN = false) :
    s.tckTouch = (s.tckNoted.putB Reg.DBG_STAT_CONN true).raise Ev.DBG_SERVICE :=
  if_neg fun hc => absurd (h.symm.trans hc) (by decide)

theorem State.tckTouch_facts (s : State) : s.tckTouch.flag Reg.DBG_STAT_CONN = true ∧
    s.tckTouch.jtag = { s.jtag with tckAt := s.now } ∧ s.tckTouch.now = s.now ∧ s.tckTouch.power = s.power ∧
    QuietWordsKept [Reg.DBG_STAT] s s.tckTouch ∧ BytesKept s s.tckTouch := by
  have hwords : QuietWordsKept [Reg.DBG_STAT] s s.tckNoted := fun _ _ _ => rfl
  have hbytes : BytesKept s (s.tckNoted.putB Reg.DBG_STAT_CONN true) := .of_mem rfl
  cases h : s.flag Reg.DBG_STAT_CONN with
  | true =>
    rw [State.tckTouch_on h]
    exact ⟨h, rfl, rfl, rfl, hwords, .of_mem rfl⟩
  | false =>
    rw [State.tckTouch_off h]
    refine ⟨?_, ?_, ?_, ?_, (hwords.putB (by decide) _).raise _, hbytes.raise _⟩
    · rw [State.flag_raise _ _ _ (by decide), State.flag_putB_self _ _ _ (by decide) (by decide)]
    · rw [State.raise_jtag, State.putB_jtag, State.tckNoted]
    · rw [State.raise_now, State.putB_now, State.tckNoted]
    · rw [State.raise_power, State.putB_power, State.tckNoted]

/-- The bus answers after an activity of TCK as before it. -/
theorem State.busUp_tckTouch (s : State) : s.tckTouch.busUp = s.busUp := by
  obtain ⟨-, -, -, hpow, hwords, -⟩ := s.tckTouch_facts
  rw [State.busUp, State.busUp, State.alive, State.alive, State.sleeping, State.sleeping, hpow,
    hwords.get _ (by decide) (by decide)]

theorem exec_tckIdleTimeout (h : s.flag Reg.DBG_STAT_CONN = true) : exec .tckIdleTimeout s =
    .next ((s.advanceTo (s.jtag.tckAt + 100000)).putB Reg.DBG_STAT_CONN false) := if_pos h

/-! ### Instructions (Table 19.7) -/

/-- The instruction register and the data register of the port. -/
def State.jtagLatched (s : State) (ir dr : Nat) : State :=
  { s with jtag := { s.jtag with ir, dr, drive := ir == 0x03 } }

theorem State.jtagSelect_eq (s : State) (ir dr : Nat) : s.jtagSelect ir dr = s.tckTouch.jtagLatched ir dr := rfl

theorem State.jtagLatched_facts (s : State) (ir dr : Nat) :
    (s.jtagLatched ir dr).jtag = { s.jtag with ir, dr, drive := ir == 0x03 } ∧ (s.jtagLatched ir dr).regs = s.regs ∧
    (s.jtagLatched ir dr).mem = s.mem ∧ s.jtagLatched ir dr = { s with jtag := (s.jtagLatched ir dr).jtag } :=
  ⟨rfl, rfl, rfl, rfl⟩

theorem State.jtagSelect_facts (s : State) (ir dr : Nat) :
    (s.jtagSelect ir dr).jtag = { s.jtag with ir, dr, drive := ir == 0x03, tckAt := s.now } ∧
    (s.jtagSelect ir dr).flag Reg.DBG_STAT_CONN = true ∧ (s.jtagSelect ir dr).power = s.power ∧
    QuietWordsKept [Reg.DBG_STAT] s (s.jtagSelect ir dr) ∧ BytesKept s (s.jtagSelect ir dr) := by
  obtain ⟨hconn, hjtag, -, hpow, hwords, hbytes⟩ := s.tckTouch_facts
  obtain ⟨hj, hregs, hmem, -⟩ := s.tckTouch.jtagLatched_facts ir dr
  rw [State.jtagSelect_eq]
  refine ⟨by rw [hj, hjtag], ?_, hpow, hwords.of_regs hregs, hbytes.of_eq hmem⟩
  rw [State.flag, State.get_congr hregs]
  exact hconn

/-- An instruction is an activity of TCK, and the port's own registers. -/
theorem State.jtagSelect_over (s : State) (ir dr : Nat) :
    s.jtagSelect ir dr = { s.tckTouch with jtag := (s.jtagSelect ir dr).jtag } := by
  rw [State.jtagSelect_eq]
  generalize s.tckTouch = u
  obtain ⟨-, -, -, hover⟩ := u.jtagLatched_facts ir dr
  exact hover

/-- The scan chain holds what the balls show, or what is loaded. -/
def State.withChain (s : State) (c : List Bool) : State := { s with jtag := { s.jtag with chain := c } }

theorem State.withChain_facts (s : State) (c : List Bool) : (s.withChain c).jtag = { s.jtag with chain := c } ∧
    (s.withChain c).regs = s.regs ∧ (s.withChain c).mem = s.mem := ⟨rfl, rfl, rfl⟩

theorem exec_jtagSamplePreload (cap : List Bool) (pre : Option (List Bool)) (s : State) :
    exec (.jtagSamplePreload cap pre) s = .next ((s.jtagSelect 2 0).withChain (pre.getD cap)) := rfl

/-- Each instruction selects itself; SAMPLE/PRELOAD moves the chain too. -/
theorem exec_jtagInstruction {c : Instr} {ir : Nat} {d : Bool} (h : (c = .jtagIdcode ∧ ir = 1 ∧ d = false) ∨
    (∃ cap pre, c = .jtagSamplePreload cap pre ∧ ir = 2 ∧ d = false) ∨ (c = .jtagExtest ∧ ir = 3 ∧ d = true) ∨
    (∃ code, c = .jtagBypass code ∧ ir = 0x1F ∧ d = false)) (s : State) :
    d = (ir == 0x03) ∧ ∃ dr, exec c s = .next (s.jtagSelect ir dr) ∨
      ∃ ch, exec c s = .next ((s.jtagSelect ir dr).withChain ch) := by
  obtain ⟨rfl, rfl, rfl⟩ | ⟨cap, pre, rfl, rfl, rfl⟩ | ⟨rfl, rfl, rfl⟩ | ⟨code, rfl, rfl, rfl⟩ := h
  · exact ⟨rfl, _, .inl rfl⟩
  · exact ⟨rfl, 0, .inr ⟨_, exec_jtagSamplePreload cap pre s⟩⟩
  · exact ⟨rfl, 0, .inl rfl⟩
  · exact ⟨rfl, 0, .inl rfl⟩

/-! ### DBGACC (R432) -/

/-- What DBGACC shows: the address, a word, the direction, and whether the access was accepted. -/
def dbgaccWord (w : Bool) (a : Nat) (d : Word) (ok : Bool) : Nat := a * 2 ^ 34 + d.toNat * 4 + 2 * w.toNat + ok.toNat

theorem exec_jtagDbgacc_down (h : s.busUp = false) (w : Bool) (a : Nat) (v : Word) :
    exec (.jtagDbgacc w a v) s = .next (s.jtagSelect 0x10 (dbgaccWord w a 0 false)) := if_pos (by simp [h])

theorem exec_jtagDbgacc_locked (h : s.busUp = true) (hl : s.flag Reg.NVM_SECCFG_DBGLOCK = true) (w : Bool) (a : Nat)
    (v : Word) : exec (.jtagDbgacc w a v) s =
      .next (((s.jtagSelect 0x10 (dbgaccWord w a 0 false)).incSat Reg.DBG_REFCNT_COUNT).raise Ev.DBG_SERVICE) :=
  (if_neg (by simp [h])).trans (if_pos hl)

theorem exec_jtagDbgacc_write (h : s.busUp = true) (hl : s.flag Reg.NVM_SECCFG_DBGLOCK = false) (a : Nat) (v : Word) :
    exec (.jtagDbgacc true a v) s = .next ((s.tckTouch.busWrite .debug a v).1.jtagSelect 0x10
      (dbgaccWord true a v (s.tckTouch.busWrite .debug a v).2)) :=
  (if_neg (by simp [h])).trans (if_neg fun hc => absurd (hl.symm.trans hc) (by decide))

theorem exec_jtagDbgacc_read (h : s.busUp = true) (hl : s.flag Reg.NVM_SECCFG_DBGLOCK = false) (a : Nat) (v : Word) :
    exec (.jtagDbgacc false a v) s = .next ((s.tckTouch.busRead .debug a).1.jtagSelect 0x10
      (dbgaccWord false a (s.tckTouch.busRead .debug a).2.1 (s.tckTouch.busRead .debug a).2.2)) :=
  (if_neg (by simp [h])).trans (if_neg fun hc => absurd (hl.symm.trans hc) (by decide))

theorem State.busWrite_register {a : Nat} (hlo : 0x40000000 ≤ a) (hhi : a < 0x40020000) (ha : a % 4 = 0) (ini : Ini)
    (v : Word) : s.busWrite ini a v = (s.regWrite ini a v, true) :=
  (if_pos ⟨hlo, hhi⟩).trans (if_neg (by simp [ha]))

end Sys2Proof.Machine

open Sys2Proof Sys2Proof.Machine

/-- Settles O52, instruction by instruction. That every JTAG command counts as activity of TCK is log entry 60; the reach of
DBGACC is entry 61. -/
theorem testPortCommands : Obligations.TestPortCommands := by
  refine ⟨?activity, ?idle, fun s h => if_neg fun hc => absurd (h.symm.trans hc) (by decide), ?instruction, ?idcode, ?chain,
    ?down, ?locked, ?write, ?read⟩
  case activity =>
    intro s
    obtain ⟨hconn, hjtag, -, -, hwords, hbytes⟩ := s.tckTouch_facts
    refine .next ⟨hconn, hjtag, fun h ha => ?_, hwords, hbytes⟩
    rw [State.tckTouch_off h]
    exact State.raised_raise _ _ ha (by decide)
  case idle =>
    intro s h
    rw [exec_tckIdleTimeout h]
    exact .next ⟨State.flag_putB_self _ _ _ (by decide) (by decide), rfl,
      ((WordsKept.refl _ s).of_regs rfl).putB (by decide) _, rfl⟩
  case instruction =>
    intro c ir d s h
    obtain ⟨hd, dr, hx⟩ := exec_jtagInstruction h s
    obtain ⟨hjtag, hconn, -, hwords, hbytes⟩ := s.jtagSelect_facts ir dr
    obtain hx | ⟨ch, hx⟩ := hx
    · rw [hx]
      exact .next ⟨by rw [hjtag], by rw [hjtag, hd], by rw [hjtag], hconn, hwords, hbytes⟩
    · obtain ⟨hj, hregs, hmem⟩ := (s.jtagSelect ir dr).withChain_facts ch
      rw [hx]
      refine .next ⟨by rw [hj, hjtag], by rw [hj, hjtag, hd], by rw [hj, hjtag], ?_, hwords.of_regs hregs, hbytes.of_eq hmem⟩
      rw [State.flag, State.get_congr hregs]
      exact hconn
  case idcode =>
    intro s
    have hx : exec .jtagIdcode s = .next (s.jtagSelect 1 (2 * 2 ^ 28 + 0x4848 * 2 ^ 12 + Config.manufacturer.toNat * 2 + 1)) :=
      rfl
    have hman : Config.manufacturer.toNat < 2 ^ 11 := Config.manufacturer.isLt
    obtain ⟨hjtag, -, -, -, -⟩ := s.jtagSelect_facts 1 (2 * 2 ^ 28 + 0x4848 * 2 ^ 12 + Config.manufacturer.toNat * 2 + 1)
    rw [hx]
    refine .next ?_
    rw [hjtag]
    dsimp only
    refine ⟨?_, ?_, ?_, ?_, rfl⟩ <;> omega
  case chain =>
    intro cap ch s
    exact ⟨.next rfl, .next rfl⟩
  case down =>
    intro w a v s h
    rw [exec_jtagDbgacc_down h]
    obtain ⟨hjtag, -, -, hwords, hbytes⟩ := s.jtagSelect_facts 0x10 (dbgaccWord w a 0 false)
    exact .next ⟨by rw [hjtag], by rw [hjtag]; simp [dbgaccWord], hwords, hbytes⟩
  case locked =>
    intro w a v s h hl
    rw [exec_jtagDbgacc_locked h hl]
    obtain ⟨hjtag, -, hpow, hwords, hbytes⟩ := s.jtagSelect_facts 0x10 (dbgaccWord w a 0 false)
    generalize s.jtagSelect 0x10 (dbgaccWord w a 0 false) = u at hjtag hpow hwords hbytes ⊢
    have hcount : u.get Reg.DBG_REFCNT_COUNT = s.get Reg.DBG_REFCNT_COUNT := hwords.get _ (by decide) (by decide)
    have halive : u.alive = true := by
      rw [State.alive, hpow]
      exact State.alive_of_busUp h
    refine .next ⟨?_, ?_, ?_, State.raised_raise _ _ halive (by decide),
      ((hwords.mono (by decide)).setWord (by decide) _).raise _, (hbytes.of_eq (State.incSat_mem _ _)).raise _⟩
    · rw [State.raise_jtag, State.incSat_jtag, hjtag]
    · rw [State.raise_jtag, State.incSat_jtag, hjtag]
      simp [dbgaccWord]
    · rw [State.get_raise _ _ _ (by decide), State.get_incSat_self _ _ (by decide), hcount]
      rfl
  case write =>
    intro a v s h hl hlo hhi ha
    have hx : exec (.registerWrite .debug a v) s.tckTouch = .next (s.tckTouch.regWrite .debug a v) :=
      exec_registerWrite _ _ _ _ (s.busUp_tckTouch.trans h) hlo hhi ha
    refine ⟨s.tckTouch, s.tckTouch.regWrite .debug a v, (s.tckTouch.regWrite .debug a v).tckTouch, rfl, hx, rfl, ?_⟩
    rw [exec_jtagDbgacc_write h hl, State.busWrite_register hlo hhi ha]
    generalize s.tckTouch.regWrite .debug a v = x
    obtain ⟨hjtag, -, -, -, -⟩ := x.jtagSelect_facts 0x10 (dbgaccWord true a v true)
    have hover := x.jtagSelect_over 0x10 (dbgaccWord true a v true)
    refine .next ⟨by rw [hjtag], ?_, hover⟩
    rw [hjtag]
    simp [dbgaccWord]
  case read =>
    intro a v s h hl ha hd hu
    rw [exec_jtagDbgacc_read h hl, State.busRead_data .debug ha hd hu]
    obtain ⟨-, -, -, -, hwords, hbytes⟩ := s.tckTouch_facts
    obtain ⟨hjtag, -, -, hwords', hbytes'⟩ :=
      s.tckTouch.jtagSelect_facts 0x10 (dbgaccWord false a (s.tckTouch.memWord a) true)
    refine .next ⟨?_, hwords.trans hwords', hbytes.trans hbytes'⟩
    rw [hjtag]
    simp [dbgaccWord]

end

section
/-!
CAN control (R336 to R348): what each command of the CAN pages does, and the outcome of a bit-rate detection.
-/
namespace Sys2Proof.Machine

variable {s : State}

/-! ### The registers of a channel -/

/-- A register below the event words of a CAN page, or above them, is written by no event. -/
theorem quiet_can (ch : Fin 4) (off : Nat) (h : off < 0x1000) (h0 : off ≠ 0x10) (h1 : off ≠ 0x18) :
    quiet (0x40016000 + off + ch.val * 4096) = true := by
  have hch := ch.isLt
  have hr : Reg.BBX_RECPTR = 0x4001D068 := rfl
  have hn : Reg.BBX_RECNUM = 0x4001D06C := rfl
  have hd : Reg.BBX_DROPS = 0x4001D070 := rfl
  simp only [quiet, Bool.and_eq_true, bne_iff_ne, ne_eq]
  omega

theorem pageOf_can (ch : Fin 4) (off : Nat) (h : off < 0x1000) : pageOf (0x40016000 + off + ch.val * 4096) = 22 + ch.val := by
  have hch := ch.isLt
  unfold pageOf
  split <;> omega

/-- Fields of one page that stand apart do so on every channel. -/
theorem Fld.apart_at (f g : Fld) (h : f.apart g = true) (hs : f.stride = g.stride) (n : Nat) :
    (f.at n).apart (g.at n) = true := by
  simp only [Fld.apart, Fld.at, Bool.or_eq_true, bne_iff_ne, ne_eq, decide_eq_true_eq, hs] at h ⊢
  omega

/-- The word of a field of channel `n`, as the statements write it. -/
theorem Fld.at_mem_word (f : Fld) (h : f.stride = 0x1000) (n : Nat) (l : List Nat) : (f.at n).addr ∈ (f.addr + 0x1000 * n) :: l := by
  rw [Fld.at, h, Nat.mul_comm]
  exact .head _

/-! ### A command at a CAN page -/

theorem State.onPage_can_off (ini : Ini) (ch : Fin 4) (off : Nat) (f : State → State) (ho : off < 0x1000)
    (h : s.pageOn (22 + ch.val) = false) : (Host.Outcome.next (s.onPage ini (0x40016000 + off + ch.val * 4096) f) : Result) =
      .next (s.accessDisabled ini (0x40016000 + off + ch.val * 4096)) :=
  congrArg _ (s.onPage_off ini _ f ((congrArg s.pageOn (pageOf_can ch off ho)).trans h))

theorem State.onPage_can_on (ini : Ini) (ch : Fin 4) (off : Nat) (f : State → State) (ho : off < 0x1000)
    (h : s.pageOn (22 + ch.val) = true) : (Host.Outcome.next (s.onPage ini (0x40016000 + off + ch.val * 4096) f) : Result) =
      .next (f s) :=
  congrArg _ (s.onPage_on ini _ f ((congrArg s.pageOn (pageOf_can ch off ho)).trans h))

/-- The write commands of a channel whose page the build has. -/
theorem exec_canPage (ini : Ini) (ch : Fin 4) (b : Bool) (v : Word) (h : s.pageOn (22 + ch.val) = true) :
    exec (.canInitWrite ini ch b) s = .next (s.canInit ch.val b) ∧ exec (.canLomWrite ini ch b) s = .next (s.canLom ch.val b) ∧
    exec (.canAbdStart ini ch) s = .next (s.canAbd ch.val) ∧
    exec (.objectReq ini ch) s = .next (s.objRequest ch.val (s.objSel ch.val)) ∧
    exec (.objectCancel ini ch) s = .next (s.objCancel ch.val (s.objSel ch.val)) ∧
    exec (.objectAck ini ch) s = .next (s.objAck ch.val (s.objSel ch.val)) ∧
    exec (.objectWord0Write ini ch v) s = .next (s.objWord0 ch.val v) :=
  ⟨State.onPage_can_on ini ch 0x008 _ (by decide) h, State.onPage_can_on ini ch 0x008 _ (by decide) h,
    State.onPage_can_on ini ch 0x008 _ (by decide) h, State.onPage_can_on ini ch 0x070 _ (by decide) h,
    State.onPage_can_on ini ch 0x070 _ (by decide) h, State.onPage_can_on ini ch 0x070 _ (by decide) h,
    State.onPage_can_on ini ch 0x100 _ (by decide) h⟩

theorem exec_fifoPage (ini : Ini) (h : s.pageOn 25 = true) :
    exec (.fifoPush ini) s = .next s.fifoPush ∧ exec (.fifoClear ini) s = .next s.fifoClear :=
  ⟨State.onPage_can_on ini 3 0x008 _ (by decide) h, State.onPage_can_on ini 3 0x008 _ (by decide) h⟩

/-! ### The hidden state of a channel -/

@[simp] theorem State.setCan_regs (s : State) (ch : Nat) (c : Can) : (s.setCan ch c).regs = s.regs := rfl
@[simp] theorem State.setCan_mem (s : State) (ch : Nat) (c : Can) : (s.setCan ch c).mem = s.mem := rfl
@[simp] theorem State.setCan_now (s : State) (ch : Nat) (c : Can) : (s.setCan ch c).now = s.now := rfl
@[simp] theorem State.setCan_power (s : State) (ch : Nat) (c : Can) : (s.setCan ch c).power = s.power := rfl
@[simp] theorem State.setCan_can (s : State) (ch : Nat) (c : Can) : (s.setCan ch c).can = s.can.set ch c := rfl

/-! ### INIT, listen-only mode and detection -/

theorem State.canInit_same (ch : Nat) (b : Bool) (h : (b || !s.canRuns ch) = s.flag (Reg.CAN_CTRL_INIT.at ch)) :
    s.canInit ch b = s := if_pos h

theorem State.canInit_change (ch : Nat) (b : Bool) (h : (b || !s.canRuns ch) ≠ s.flag (Reg.CAN_CTRL_INIT.at ch)) :
    s.canInit ch b = State.tktRebind (((s.putB (Reg.CAN_CTRL_INIT.at ch) (b || !s.canRuns ch)).putB
      (Reg.CAN_STAT_INIT.at ch) (b || !s.canRuns ch)).setCan ch { s.canOf ch with
        joined := false, waitAt := s.now, sending := none, cancelled := false, abd := none }) := if_neg h

/-- LOM shows in CTRL and STAT. -/
def State.lomShown (s : State) (ch : Nat) (lom : Bool) : State :=
  (s.putB (Reg.CAN_CTRL_LOM.at ch) lom).putB (Reg.CAN_STAT_LOM.at ch) lom

theorem State.lomShown_facts (s : State) (ch : Nat) (b : Bool) : (s.lomShown ch b).flag (Reg.CAN_CTRL_LOM.at ch) = b ∧
    (s.lomShown ch b).flag (Reg.CAN_STAT_LOM.at ch) = b ∧
    WordsKept [Reg.CAN_CTRL + 0x1000 * ch, Reg.CAN_STAT + 0x1000 * ch] s (s.lomShown ch b) ∧ (s.lomShown ch b).can = s.can ∧
    (s.lomShown ch b).mem = s.mem := by
  refine ⟨?_, State.flag_putB_self _ _ _ (by simp only [Fld.at]; decide) (by simp only [Fld.at]; decide),
    ((WordsKept.refl _ s).putB (Reg.CAN_CTRL_LOM.at_mem_word rfl ch _) b).putB
      (.tail _ (Reg.CAN_STAT_LOM.at_mem_word rfl ch _)) b, rfl, rfl⟩
  rw [State.lomShown, State.flag_putB_apart _ _ _ _ (Fld.apart_at Reg.CAN_STAT_LOM Reg.CAN_CTRL_LOM (by decide) rfl ch)]
  exact State.flag_putB_self _ _ _ (by simp only [Fld.at]; decide) (by simp only [Fld.at]; decide)

theorem State.canLom_on (s : State) (ch : Nat) : s.canLom ch true = s.lomShown ch true := rfl

theorem State.canLom_off (s : State) (ch : Nat) : s.canLom ch false =
    (s.lomShown ch false).setCan ch { (s.lomShown ch false).canOf ch with abd := none } := rfl

theorem State.canLom_facts (s : State) (ch : Nat) (b : Bool) : (s.canLom ch b).flag (Reg.CAN_CTRL_LOM.at ch) = b ∧
    (s.canLom ch b).flag (Reg.CAN_STAT_LOM.at ch) = b ∧ (b = true → (s.canLom ch b).can = s.can) ∧
    WordsKept [Reg.CAN_CTRL + 0x1000 * ch, Reg.CAN_STAT + 0x1000 * ch] s (s.canLom ch b) ∧ (s.canLom ch b).mem = s.mem := by
  obtain ⟨hctrl, hstat, hwords, hcan, hmem⟩ := s.lomShown_facts ch b
  cases b with
  | true =>
    rw [State.canLom_on]
    exact ⟨hctrl, hstat, fun _ => hcan, hwords, hmem⟩
  | false =>
    rw [State.canLom_off, State.flag, State.flag, State.get_congr (State.setCan_regs _ _ _),
      State.get_congr (State.setCan_regs _ _ _)]
    exact ⟨hctrl, hstat, nofun, hwords.of_regs (State.setCan_regs _ _ _), (State.setCan_mem _ _ _).trans hmem⟩

theorem State.canAbd_starts (ch : Nat) (hl : s.flag (Reg.CAN_CTRL_LOM.at ch) = true)
    (hi : s.flag (Reg.CAN_CTRL_INIT.at ch) = false) : s.canAbd ch = s.setCan ch { s.canOf ch with abd := some s.now } :=
  if_pos (by rw [hl, hi]; rfl)

theorem State.canAbd_refused (ch : Nat) (h : s.flag (Reg.CAN_CTRL_LOM.at ch) = false ∨ s.flag (Reg.CAN_CTRL_INIT.at ch) = true) :
    s.canAbd ch = s :=
  if_neg (by rcases h with h | h <;> simp [h])

/-! ### The service report -/

theorem State.alive_of_power {t : State} (h : t.power = s.power) : t.alive = s.alive := by
  rw [State.alive, h, State.alive]

theorem State.canService_facts (s : State) (ch : Fin 4) (svc : Nat) :
    (s.canService ch.val svc).get (Reg.CAN_STAT_SVC.at ch.val) = svc % 8 ∧ (s.canService ch.val svc).can = s.can ∧
    (s.canService ch.val svc).now = s.now ∧ (s.canService ch.val svc).power = s.power ∧
    QuietWordsKept [Reg.CAN_STAT + 0x1000 * ch.val] s (s.canService ch.val svc) ∧
    (s.alive = true → (s.canService ch.val svc).raised (Ev.CAN_SERVICE ch.val) = true) := by
  refine ⟨?_, State.raise_can _ _, State.raise_now _ _, State.raise_power _ _,
    ((WordsKept.refl _ s).put (Reg.CAN_STAT_SVC.at_mem_word rfl ch.val _) svc).quiet.raise _,
    fun ha => State.raised_raise _ _ ha (by simp only [Ev.CAN_SERVICE]; decide)⟩
  rw [State.canService, State.get_raise _ _ _ (quiet_can ch 0x00C (by decide) (by decide) (by decide)),
    State.get_put_self _ _ _ (by simp only [Fld.at]; decide)]
  rfl

/-! ### The end of a detection (R340) -/

/-- The nominal rate that a detection found is loaded. -/
def State.nominalLoaded (s : State) (ch nrate : Nat) : State :=
  (s.setWord (Reg.CAN_NBT + 0x1000 * ch) (BitVec.ofNat 32 (s.freeOf (nbtChoices (nominalCycles nrate))))).nextFree

/-- The data rate that a detection found is loaded. -/
def State.dataLoaded (s : State) (ch drate : Nat) : State :=
  let w := s.freeOf (dbtChoices (dataCycles drate))
  let s := s.nextFree
  (s.setWord (Reg.CAN_DBT + 0x1000 * ch) (BitVec.ofNat 32 (w + s.freeN % (w / 2 ^ 8 % 32 + 1)))).nextFree

/-- The rates that a detection found are loaded. -/
def State.ratesLoaded (s : State) (ch nrate drate : Nat) : State :=
  if drate = 0 then s.nominalLoaded ch nrate else (s.nominalLoaded ch nrate).dataLoaded ch drate

theorem State.ratesLoaded_power (s : State) (ch n d : Nat) : (s.ratesLoaded ch n d).power = s.power := by
  rw [State.ratesLoaded]
  split
  · rw [State.nominalLoaded, State.nextFree_power, State.setWord_power]
  · rw [State.dataLoaded, State.nextFree_power, State.setWord_power, State.nextFree_power, State.nominalLoaded,
      State.nextFree_power, State.setWord_power]

/-- The rates found show, and the detection is over. -/
def State.ratesShown (s : State) (ch nrate drate : Nat) : State :=
  let s := ((s.putB (Reg.CAN_ABDRES_VALID.at ch) true).put (Reg.CAN_ABDRES_NRATE.at ch) nrate).put
    (Reg.CAN_ABDRES_DRATE.at ch) drate
  s.setCan ch { s.canOf ch with abd := none }

theorem State.ratesShown_facts (s : State) (ch n d : Nat) :
    (s.ratesShown ch n d).flag (Reg.CAN_ABDRES_VALID.at ch) = true ∧
    (s.ratesShown ch n d).get (Reg.CAN_ABDRES_NRATE.at ch) = n % 8 ∧
    (s.ratesShown ch n d).get (Reg.CAN_ABDRES_DRATE.at ch) = d % 8 ∧ (s.ratesShown ch n d).power = s.power := by
  have hregs : (s.ratesShown ch n d).regs = (((s.putB (Reg.CAN_ABDRES_VALID.at ch) true).put
    (Reg.CAN_ABDRES_NRATE.at ch) n).put (Reg.CAN_ABDRES_DRATE.at ch) d).regs := rfl
  rw [State.flag, State.get_congr hregs, State.get_congr hregs, State.get_congr hregs, ← State.flag]
  refine ⟨?_, ?_, ?_, rfl⟩
  · rw [State.flag_put_apart _ _ _ _ (Fld.apart_at Reg.CAN_ABDRES_DRATE Reg.CAN_ABDRES_VALID (by decide) rfl ch),
      State.flag_put_apart _ _ _ _ (Fld.apart_at Reg.CAN_ABDRES_NRATE Reg.CAN_ABDRES_VALID (by decide) rfl ch),
      State.flag_putB_self _ _ _ (by simp only [Fld.at]; decide) (by simp only [Fld.at]; decide)]
  · rw [State.get_put_apart _ _ _ _ (Fld.apart_at Reg.CAN_ABDRES_DRATE Reg.CAN_ABDRES_NRATE (by decide) rfl ch),
      State.get_put_self _ _ _ (by simp only [Fld.at]; decide)]
    rfl
  · rw [State.get_put_self _ _ _ (by simp only [Fld.at]; decide)]
    rfl

theorem exec_canAbdDone (ch : Fin 4) (n d : Nat) (ha : s.alive = true) (hd : (s.canOf ch.val).abd.isSome = true)
    (h1 : 1 ≤ n) (h4 : n ≤ 4) (h5 : d ≤ 5) :
    exec (.canAbdDone ch n d) s = .next (((s.ratesLoaded ch.val n d).ratesShown ch.val n d).canService ch.val 3) :=
  if_pos ⟨ha, hd, h1, h4, h5⟩

theorem exec_canAbdDone_idle (ch : Fin 4) (n d : Nat)
    (h : s.alive = false ∨ (s.canOf ch.val).abd = none ∨ n = 0 ∨ 4 < n ∨ 5 < d) : exec (.canAbdDone ch n d) s = .next s := by
  refine if_neg ?_
  rintro ⟨ha, hd, h1, h4, h5⟩
  rcases h with h | h | h | h | h
  · exact absurd (h.symm.trans ha) (by decide)
  · rw [h] at hd
    exact absurd hd (by decide)
  all_goals omega

/-- What a finished detection leaves. -/
theorem State.abdDone_facts (s : State) (ch : Fin 4) {n d : Nat} (hn : n < 8) (hd : d < 8) (ha : s.alive = true) :
    let t := ((s.ratesLoaded ch.val n d).ratesShown ch.val n d).canService ch.val 3
    t.flag (Reg.CAN_ABDRES_VALID.at ch.val) = true ∧ t.get (Reg.CAN_ABDRES_NRATE.at ch.val) = n ∧
    t.get (Reg.CAN_ABDRES_DRATE.at ch.val) = d ∧ t.get (Reg.CAN_STAT_SVC.at ch.val) = 3 ∧
    t.raised (Ev.CAN_SERVICE ch.val) = true := by
  obtain ⟨hvalid, hrate, hdata, hpow⟩ := (s.ratesLoaded ch.val n d).ratesShown_facts ch.val n d
  generalize (s.ratesLoaded ch.val n d).ratesShown ch.val n d = u at hvalid hrate hdata hpow
  obtain ⟨hsvc, -, -, -, hwords, hraised⟩ := u.canService_facts ch 3
  have hm : ∀ f ∈ [Reg.CAN_ABDRES_VALID, Reg.CAN_ABDRES_NRATE, Reg.CAN_ABDRES_DRATE],
      (u.canService ch.val 3).get (f.at ch.val) = u.get (f.at ch.val) := by
    intro f hf
    have haddr : (f.at ch.val).addr = 0x40016000 + 0x064 + ch.val * 4096 := by
      simp only [List.mem_cons, List.not_mem_nil, or_false] at hf
      rcases hf with rfl | rfl | rfl <;> rfl
    have hstat : Reg.CAN_STAT = 0x4001600C := rfl
    refine hwords.get _ ?_ ?_ <;> rw [haddr]
    · exact quiet_can ch 0x064 (by decide) (by decide) (by decide)
    · rw [List.mem_singleton]
      omega
  refine ⟨?_, ?_, ?_, hsvc, hraised ((State.alive_of_power (hpow.trans (s.ratesLoaded_power ch.val n d))).trans ha)⟩
  · rw [State.flag, hm _ (.head _)]
    exact hvalid
  · rw [hm _ (.tail _ (.head _)), hrate, Nat.mod_eq_of_lt hn]
  · rw [hm _ (.tail _ (.tail _ (.head _))), hdata, Nat.mod_eq_of_lt hd]

/-- The detection ends at its limit. -/
def State.abdEnded (s : State) (ch u : Nat) : State := (s.advanceTo u).setCan ch { s.canOf ch with abd := none }

theorem State.abdEnded_facts (s : State) (ch u : Nat) : (s.abdEnded ch u).now = max s.now u ∧
    (s.abdEnded ch u).can = s.can.set ch { s.canOf ch with abd := none } ∧ (s.abdEnded ch u).power = s.power ∧
    (s.abdEnded ch u).regs = s.regs := ⟨rfl, rfl, rfl, rfl⟩

theorem exec_canAbdTimeout (ch : Fin 4) (n : Nat) (ha : s.alive = true) (hd : (s.canOf ch.val).abd = some n) :
    exec (.canAbdTimeout ch) s = .next ((s.abdEnded ch.val
      (n + 100000 * clampN 10 60000 (s.get (Reg.CAN_ABDCFG_ABDTMO.at ch.val)))).canService ch.val 4) := by
  show execCanAbdTimeout ch s = _
  rw [execCanAbdTimeout, hd]
  exact if_pos ha

theorem exec_canAbdTimeout_idle (ch : Fin 4) (h : s.alive = false ∨ (s.canOf ch.val).abd = none) :
    exec (.canAbdTimeout ch) s = .next s := by
  show execCanAbdTimeout ch s = _
  cases hd : (s.canOf ch.val).abd with
  | none => rw [execCanAbdTimeout, hd]
  | some n =>
    rw [execCanAbdTimeout, hd]
    rcases h with h | h
    · exact if_neg (by rw [h]; decide)
    · exact absurd (hd.symm.trans h) nofun

/-! ### Object requests and the FIFO -/

theorem State.objRequest_refused {ch k : Nat} (h : s.sendObj ch k = false) : s.objRequest ch k = s :=
  if_neg (by rw [h]; decide)

theorem State.objCancel_idle {ch k : Nat} (h : s.sendObj ch k = false ∨ s.objBit ch k 1 0 = false) : s.objCancel ch k = s :=
  if_neg (by rcases h with h | h <;> simp [h])

theorem State.objCancel_pending {ch k : Nat} (hs : s.sendObj ch k = true) (hn : s.objBit ch k 1 0 = true) :
    s.objCancel ch k = if (s.canOf ch).sending = some k then s.setCan ch { s.canOf ch with cancelled := true }
      else s.objWithdraw ch k false :=
  if_pos (by rw [hs, hn]; rfl)

theorem State.fifoPush_full (h : 32 ≤ (s.canOf 3).fifo.length) :
    s.fifoPush = (s.canService 3 6).raise (Ev.CAN_OVERRUN 3) := if_neg (by omega)

end Sys2Proof.Machine

open Sys2Proof Sys2Proof.Machine

/-- Settles O46: each command of a CAN page by the lemma of its operation. That a cancel of a frame in arbitration only
marks it, and that a word 0 write outside INIT has no effect, is log entry 79 (DEDUCED). -/
theorem canControlCommands : Obligations.CanControlCommands := by
  refine ⟨?pageOff, ?fifoOff, ?init, ?lom, ?abd, ?objects, ?requests, ?fifo, ?doneIdle, ?done, ?timeout, ?timeoutIdle⟩
  case pageOff =>
    intro ini ch b v s h
    exact ⟨State.onPage_can_off ini ch 0x008 _ (by decide) h, State.onPage_can_off ini ch 0x008 _ (by decide) h,
      State.onPage_can_off ini ch 0x008 _ (by decide) h, State.onPage_can_off ini ch 0x070 _ (by decide) h,
      State.onPage_can_off ini ch 0x070 _ (by decide) h, State.onPage_can_off ini ch 0x070 _ (by decide) h,
      State.onPage_can_off ini ch 0x100 _ (by decide) h⟩
  case fifoOff =>
    intro ini s h
    exact ⟨State.onPage_can_off ini 3 0x008 _ (by decide) h, State.onPage_can_off ini 3 0x008 _ (by decide) h⟩
  case init =>
    intro ini ch b s h
    obtain ⟨hinit, -⟩ := exec_canPage ini ch b 0 h
    rw [hinit]
    exact ⟨fun hb => congrArg _ (State.canInit_same ch.val b hb), fun hb => congrArg _ (State.canInit_change ch.val b hb)⟩
  case lom =>
    intro ini ch b s h
    obtain ⟨-, hlom, -⟩ := exec_canPage ini ch b 0 h
    exact ⟨_, hlom, s.canLom_facts ch.val b⟩
  case abd =>
    intro ini ch s h
    obtain ⟨-, -, habd, -⟩ := exec_canPage ini ch false 0 h
    rw [habd]
    exact ⟨fun hl hi => congrArg _ (State.canAbd_starts ch.val hl hi), fun hn => congrArg _ (State.canAbd_refused ch.val hn)⟩
  case objects =>
    intro ini ch v s h
    obtain ⟨-, -, -, hreq, hcancel, hack, hword⟩ := exec_canPage ini ch false v h
    exact ⟨hreq, hcancel, hack, hword⟩
  case requests =>
    intro ch k s
    refine ⟨fun h => ⟨State.objRequest_refused h, State.objCancel_idle (.inl h)⟩, fun h => State.objCancel_idle (.inr h),
      fun hs hn hk => ?_, fun hs hn hk => ?_⟩
    · rw [State.objCancel_pending hs hn, if_pos hk]
    · rw [State.objCancel_pending hs hn, if_neg hk]
  case fifo =>
    intro ini s h
    obtain ⟨hpush, hclear⟩ := exec_fifoPage ini h
    refine ⟨fun hl => ?_, fun hl => ?_, fun hs => ?_, fun hs => ?_⟩
    · rw [hpush]
      exact congrArg _ (if_pos hl)
    · obtain ⟨hsvc, hcan, -, hpow, -⟩ := s.canService_facts 3 6
      rw [hpush, State.fifoPush_full hl]
      refine .next ⟨(State.raise_can _ _).trans hcan, ?_, fun ha => State.raised_raise _ _ ?_ (by decide)⟩
      · rw [State.get_raise _ _ _ (by decide)]
        exact hsvc
      · exact (State.alive_of_power hpow).trans ha
    · rw [hclear]
      exact congrArg _ (if_pos hs)
    · rw [hclear]
      exact congrArg _ (if_neg hs)
  case doneIdle =>
    intro ch n d s h
    exact exec_canAbdDone_idle ch n d h
  case done =>
    intro ch n d s ha hd h1 h4 h5
    exact ⟨_, exec_canAbdDone ch n d ha hd h1 h4 h5, s.abdDone_facts ch (by omega) (by omega) ha⟩
  case timeout =>
    intro ch n s ha hd
    rw [exec_canAbdTimeout ch n ha hd]
    obtain ⟨hnow₀, hcan₀, hpow₀, hregs₀⟩ := s.abdEnded_facts ch.val
      (n + 100000 * clampN 10 60000 (s.get (Reg.CAN_ABDCFG_ABDTMO.at ch.val)))
    generalize s.abdEnded ch.val _ = u at hnow₀ hcan₀ hpow₀ hregs₀
    obtain ⟨hsvc, hcan, hnow, -, hwords, hraised⟩ := u.canService_facts ch 4
    exact .next ⟨hsvc, hnow.trans hnow₀, hcan.trans hcan₀, hraised ((State.alive_of_power hpow₀).trans ha),
      ((WordsKept.refl _ s).quiet.of_regs hregs₀).trans hwords⟩
  case timeoutIdle =>
    intro ch s h
    exact exec_canAbdTimeout_idle ch h

end

section
/-!
CAN frames (R342 to R346): reception, the pick at a start of frame, the end of an attempt, and the end of a CANTX window.
-/
namespace Sys2Proof.Machine

variable {s : State}

/-! ### Reception (R342) -/

/-- The controller stores the frame: its engine is on the bus, and it is a data frame of a format that it takes. -/
def State.takesFrame (s : State) (ch : Nat) (f : BusFrame) : Bool :=
  s.canOnBus ch && !f.rtr && (!f.fdf || s.flag (Reg.CAN_MODE_FDOE.at ch))

theorem State.takesFrame_eq_true {ch : Nat} {f : BusFrame} (hb : s.canOnBus ch = true) (hr : f.rtr = false)
    (hf : f.fdf = false ∨ s.flag (Reg.CAN_MODE_FDOE.at ch) = true) : s.takesFrame ch f = true := by
  rw [State.takesFrame, hb, hr]
  rcases hf with hf | hf <;> simp [hf]

theorem State.takesFrame_eq_false {ch : Nat} {f : BusFrame} (h : s.canOnBus ch = false ∨ f.rtr = true ∨
    (f.fdf = true ∧ s.flag (Reg.CAN_MODE_FDOE.at ch) = false)) : s.takesFrame ch f = false := by
  rcases h with h | h | ⟨h, h'⟩
  · simp [State.takesFrame, h]
  · simp [State.takesFrame, h]
  · simp [State.takesFrame, h, h']

theorem exec_canFrameReceived_refused (ch : Fin 4) (f : BusFrame) (h : s.takesFrame ch.val f = false) :
    exec (.canFrameReceived ch f) s = .next s := if_neg (Bool.not_eq_true _ ▸ h)

/-- A frame that the controller takes goes to the target of the filters. -/
theorem exec_canFrameReceived (ch : Fin 4) (f : BusFrame) (h : s.takesFrame ch.val f = true) :
    exec (.canFrameReceived ch f) s = match s.fltTarget ch.val f.xtd (placeId f.xtd f.id) with
      | some k => match (s.objStore ch.val k f).connAt ch.val k false with
        | some n => .next ((s.objStore ch.val k f).connCheck n ch.val k (dlcLen f.fdf f.dlc) f.xtd)
        | none => .next (s.objStore ch.val k f)
      | none => .next s := if_pos h

/-! ### Start of frame (R344) -/

theorem exec_canStartOfFrame_idle (ch : Fin 4) (h : s.canOnBus ch.val = false ∨ s.flag (Reg.CAN_CTRL_LOM.at ch.val) = true ∨
    (s.canOf ch.val).sending.isSome = true ∨ s.get Reg.SYS_PROFSTAT_PROF ≠ 0 ∨ s.canPick ch.val = none) :
    exec (.canStartOfFrame ch) s = .next s := by
  show execCanStartOfFrame ch s = _
  rw [execCanStartOfFrame]
  split
  case isTrue hc =>
    simp only [Bool.and_eq_true, Bool.not_eq_true', Option.isNone_iff_eq_none, beq_iff_eq] at hc
    obtain ⟨⟨⟨hbus, hlom⟩, hsend⟩, hprof⟩ := hc
    rcases h with h | h | h | h | h
    · exact absurd (hbus.symm.trans h) (by decide)
    · exact absurd (hlom.symm.trans h) (by decide)
    · rw [hsend] at h
      exact absurd h (by decide)
    · exact absurd hprof h
    · rw [h]
  case isFalse => rfl

theorem exec_canStartOfFrame (ch : Fin 4) {k : Nat} (hb : s.canOnBus ch.val = true)
    (hl : s.flag (Reg.CAN_CTRL_LOM.at ch.val) = false) (hs : (s.canOf ch.val).sending = none)
    (hp : s.get Reg.SYS_PROFSTAT_PROF = 0) (hk : s.canPick ch.val = some k) :
    let w := s.setCan ch.val { s.canOf ch.val with sending := some k, cancelled := false }
    exec (.canStartOfFrame ch) s = .next (if w.isReference ch.val k then w.referenceData ch.val k else w) := by
  show execCanStartOfFrame ch s = _
  rw [execCanStartOfFrame, hk]
  exact if_pos (by rw [hb, hl, hs, hp]; rfl)

/-! ### The end of an attempt (R344, R346) -/

theorem exec_canTxSuccess_idle (ch : Fin 4) (d : Nat) (h : (s.canOf ch.val).sending = none) :
    exec (.canTxSuccess ch d) s = .next s := by
  show execCanTxSuccess ch d s = _
  rw [execCanTxSuccess, h]

theorem exec_canTxAttemptFailed_idle (ch : Fin 4) (arb : Bool) (h : (s.canOf ch.val).sending = none) :
    exec (.canTxAttemptFailed ch arb) s = .next s := by
  show execCanTxAttemptFailed ch arb s = _
  rw [execCanTxAttemptFailed, h]

theorem exec_canTxAttemptFailed (ch : Fin 4) (arb : Bool) {k : Nat} (h : (s.canOf ch.val).sending = some k) :
    exec (.canTxAttemptFailed ch arb) s = .next (s.canAttemptFailed ch.val k arb) := by
  show execCanTxAttemptFailed ch arb s = _
  rw [execCanTxAttemptFailed, h]

/-- The frame of object `k` (128: FIFO head) has been sent. -/
def State.frameSent (s : State) (ch k : Nat) : State :=
  if k = 128 then s.fifoDrop
  else
    let s := (((s.setObjBit ch k 1 0 false).setObjBit ch k 1 1 true).setObjWord ch k 2 s.tick32).setTries ch k 0
    let s := if s.isReference ch k then s.setCan ch { s.canOf ch with refN := ((s.canOf ch).refN + 1) % 256 } else s
    s.connSent ch k

theorem State.frameSent_fifo (s : State) (ch : Nat) : s.frameSent ch 128 = s.fifoDrop := if_pos rfl

theorem State.sendingWord1_fifo (s : State) (ch : Nat) : s.sendingWord1 ch 128 = s.fifoHead 1 := if_pos rfl

/-- Object `k` shows its frame sent: NEW is clear, DONE is set, the tick stands in word 2, and no attempt has failed. -/
def State.objSent (s : State) (ch k : Nat) : State :=
  (((s.setObjBit ch k 1 0 false).setObjBit ch k 1 1 true).setObjWord ch k 2 s.tick32).setTries ch k 0

theorem State.frameSent_object (s : State) (ch : Nat) {k : Nat} (h : k ≠ 128) : s.frameSent ch k =
    (if (s.objSent ch k).isReference ch k then (s.objSent ch k).setCan ch { (s.objSent ch k).canOf ch with
      refN := (((s.objSent ch k).canOf ch).refN + 1) % 256 } else s.objSent ch k).connSent ch k := if_neg h

theorem State.sendingWord1_object (s : State) (ch : Nat) {k : Nat} (h : k ≠ 128) : s.sendingWord1 ch k = s.objWord ch k 1 :=
  if_neg h

/-- With no delay compensation in effect a success is the frame sent, TXDONE where word 1 asks for it, and its end. -/
theorem exec_canTxSuccess_plain (ch : Fin 4) (d : Nat) {k : Nat} (h : (s.canOf ch.val).sending = some k)
    (ht : s.flag (Reg.CAN_TDC_TDCEN.at ch.val) = false) : exec (.canTxSuccess ch d) s =
      .next (((s.frameSent ch.val k).raiseIf ((s.sendingWord1 ch.val k).testBit 28) (Ev.CAN_TXDONE ch.val)).canFrameEnd
        ch.val) := by
  show execCanTxSuccess ch d s = _
  rw [execCanTxSuccess, h]
  simp only [ht, Bool.and_false, Bool.false_and, Bool.false_eq_true, if_false]
  rfl

/-- A delay beyond 255 cycles saturates TDCV, and the frame ends in a bit error (R339). -/
theorem exec_canTxSuccess_late (ch : Fin 4) (d : Nat) {k : Nat} (h : (s.canOf ch.val).sending = some k)
    (hf : (s.sendingWord1 ch.val k).testBit 31 = true) (hb : (s.sendingWord1 ch.val k).testBit 30 = true)
    (ht : s.flag (Reg.CAN_TDC_TDCEN.at ch.val) = true) (hp : s.get (Reg.CAN_DBT_DBRP.at ch.val) ≤ 1) (hd : 255 < d) :
    exec (.canTxSuccess ch d) s =
      .next (((s.put (Reg.CAN_TDC_TDCV.at ch.val) 255).canService ch.val 5).canAttemptFailed ch.val k false) := by
  show execCanTxSuccess ch d s = _
  rw [execCanTxSuccess, h]
  simp only [hf, hb, ht, hp, hd, decide_true, Bool.and_true, if_true, Nat.min_eq_left hd.le]

/-! ### The end of a CANTX window (R345) -/

/-- The first CANTX window of object `k`. -/
def State.cantxWindow (s : State) (ch k : Nat) : Option (Nat × Nat × Nat) :=
  s.tt.cantx.find? fun w => w.1 == ch && w.2.1 == k

/-- The window is over at its end. -/
def State.cantxClosed (s : State) (w : Nat × Nat × Nat) : State :=
  let u := s.advanceTo w.2.2
  { u with tt := { u.tt with cantx := u.tt.cantx.erase w } }

theorem State.cantxClosed_facts (s : State) (w : Nat × Nat × Nat) :
    (s.cantxClosed w).can = s.can ∧ (s.cantxClosed w).power = s.power := ⟨rfl, rfl⟩

theorem exec_cantxWindowEnd_none (ch : Fin 4) (k : Nat) (h : s.cantxWindow ch.val k = none) :
    exec (.cantxWindowEnd ch k) s = .next s := by
  show execCantxWindowEnd ch k s = _
  rw [State.cantxWindow] at h
  rw [execCantxWindowEnd, h]

/-- The end of a window withdraws a scheduled frame that still waits. -/
theorem exec_cantxWindowEnd (ch : Fin 4) (k : Nat) {w : Nat × Nat × Nat} (h : s.cantxWindow ch.val k = some w) :
    exec (.cantxWindowEnd ch k) s = if s.alive && s.sendObj ch.val k && s.objBit ch.val k 1 29 && s.objBit ch.val k 1 0 &&
        (s.canOf ch.val).sending != some k then .next ((s.cantxClosed w).objWithdraw ch.val k true)
      else .next (s.cantxClosed w) := by
  show execCantxWindowEnd ch k s = _
  rw [State.cantxWindow] at h
  rw [execCantxWindowEnd, h]
  rfl

end Sys2Proof.Machine

open Sys2Proof Sys2Proof.Machine

/-- Settles O47: each event of the bus by the equation of its command. That an FD frame with FDOE = 0 is neither stored
nor sent is log entry 79 (DEDUCED). -/
theorem canTrafficCommands : Obligations.CanTrafficCommands := by
  refine ⟨?refused, ?received, ?noStart, ?start, ?idle, ?fifoSent, ?objectSent, ?late, ?failed, ?noWindow, ?window⟩
  case refused =>
    intro ch f s h
    rcases ht : s.takesFrame ch.val f with _ | _
    · exact exec_canFrameReceived_refused ch f ht
    · rcases h with h | h | h | h
      · exact absurd (ht.symm.trans (State.takesFrame_eq_false (.inl h))) (by decide)
      · exact absurd (ht.symm.trans (State.takesFrame_eq_false (.inr (.inl h)))) (by decide)
      · exact absurd (ht.symm.trans (State.takesFrame_eq_false (.inr (.inr h)))) (by decide)
      · rw [exec_canFrameReceived ch f ht, h]
  case received =>
    intro ch f k s hb hr hf hk
    have hx := exec_canFrameReceived ch f (State.takesFrame_eq_true hb hr hf)
    rw [hk] at hx
    refine ⟨fun hc => ?_, fun n hc => ?_⟩
    · rw [hx]
      simp only [hc]
    · rw [hx]
      simp only [hc]
  case noStart =>
    intro ch s h
    exact exec_canStartOfFrame_idle ch h
  case start =>
    intro ch k s hb hl hs hp hk
    exact exec_canStartOfFrame ch hb hl hs hp hk
  case idle =>
    intro ch d arb s h
    exact ⟨exec_canTxSuccess_idle ch d h, exec_canTxAttemptFailed_idle ch arb h⟩
  case fifoSent =>
    intro ch d s h ht
    rw [exec_canTxSuccess_plain ch d h ht, State.frameSent_fifo, State.sendingWord1_fifo]
  case objectSent =>
    intro ch k d s h hk ht
    have hne : k ≠ 128 := by omega
    have htick : ((s.setObjBit ch.val k 1 0 false).setObjBit ch.val k 1 1 true).tick32 = s.tick32 := rfl
    rw [exec_canTxSuccess_plain ch d h ht, State.frameSent_object s ch.val hne, State.sendingWord1_object s ch.val hne,
      State.objSent, htick]
  case late =>
    intro ch k d s h hf hb ht hp hd
    exact exec_canTxSuccess_late ch d h hf hb ht hp hd
  case failed =>
    intro ch k arb s h
    exact exec_canTxAttemptFailed ch arb h
  case noWindow =>
    intro ch k s h
    exact exec_cantxWindowEnd_none ch k h
  case window =>
    intro ch k w s h
    have hx := exec_cantxWindowEnd ch k h
    refine ⟨fun hn => hx.trans (if_neg ?_), fun ha hs hn ht hk => hx.trans (if_pos ?_)⟩
    · rcases hn with hn | hn | hn <;> simp [hn]
    · simp [ha, hs, hn, ht, hk]

end

section
/-!
CAN fault confinement and joining (R348), and the wakes (R350).
-/
namespace Sys2Proof.Machine

variable {s : State}

/-! ### Error states (R348) -/

theorem errorState_eq (a b : Nat) : errorState a b = if 255 < a then 2 else if 127 < a ∨ 127 < b then 1 else 0 := rfl

theorem errorState_lt (a b : Nat) : errorState a b < 4 := by
  rw [errorState_eq]
  split
  · decide
  · split <;> decide

theorem errorState_eq_two_iff (a b : Nat) : errorState a b = 2 ↔ 255 < a := by
  rw [errorState_eq]
  split
  case isTrue h => exact ⟨fun _ => h, fun _ => rfl⟩
  case isFalse h => split <;> exact ⟨nofun, fun h' => absurd h' h⟩

/-! ### The counters (R348) -/

/-- The channel counts: the device runs, the channel may run, and it is not bus-off. -/
def State.canCounts (s : State) (ch : Nat) : Bool := s.alive && s.canRuns ch && s.get (Reg.CAN_STAT_ESTATE.at ch) != 2

/-- The counters and the state of the pair show. -/
def State.countersShown (s : State) (ch tec rec_ : Nat) : State :=
  ((s.putSat (Reg.CAN_STAT_TEC.at ch) tec).putSat (Reg.CAN_STAT_REC.at ch) rec_).put (Reg.CAN_STAT_ESTATE.at ch)
    (errorState tec rec_)

/-- A bus-off counts and starts recovery. -/
def State.busOffEntered (s : State) (ch : Nat) : State :=
  ((s.setCan ch { s.canOf ch with offAt := s.now }).putB (Reg.CAN_STAT_RECOV.at ch) true).incSat (Reg.CAN_BOCNT_COUNT.at ch)

/-- The channel after an event of its counters, before the report of a change. -/
def State.countersTaken (s : State) (ch tec rec_ : Nat) : State :=
  if errorState tec rec_ = 2 then (s.countersShown ch tec rec_).busOffEntered ch else s.countersShown ch tec rec_

theorem State.canCounters_idle {ch : Nat} (a b : Nat) (h : s.canCounts ch = false) : s.canCounters ch a b = s := by
  have hneg : (!s.alive || !s.canRuns ch || s.get (Reg.CAN_STAT_ESTATE.at ch) == 2) = !s.canCounts ch := by
    simp only [State.canCounts, bne, Bool.not_and, Bool.not_not]
  exact if_pos (by rw [hneg, h]; rfl)

theorem State.canCounters_eq {ch : Nat} (a b : Nat) (h : s.canCounts ch = true) : s.canCounters ch a b =
    (s.countersTaken ch a b).raiseIf (errorState a b != s.get (Reg.CAN_STAT_ESTATE.at ch)) (Ev.CAN_STATE ch) := by
  simp only [State.canCounts, Bool.and_eq_true, bne_iff_ne] at h
  obtain ⟨⟨ha, hr⟩, he⟩ := h
  exact if_neg (by simp [ha, hr, he])

theorem State.countersShown_facts (s : State) (ch a b : Nat) :
    (s.countersShown ch a b).get (Reg.CAN_STAT_TEC.at ch) = min a (2 ^ (Reg.CAN_STAT_TEC.at ch).wid - 1) ∧
    (s.countersShown ch a b).get (Reg.CAN_STAT_REC.at ch) = min b (2 ^ (Reg.CAN_STAT_REC.at ch).wid - 1) ∧
    (s.countersShown ch a b).get (Reg.CAN_STAT_ESTATE.at ch) = errorState a b ∧ (s.countersShown ch a b).can = s.can ∧
    (s.countersShown ch a b).now = s.now ∧ (s.countersShown ch a b).power = s.power := by
  refine ⟨?_, ?_, ?_, rfl, rfl, rfl⟩
  · rw [State.countersShown, State.get_put_apart _ _ _ _ (Fld.apart_at Reg.CAN_STAT_ESTATE Reg.CAN_STAT_TEC (by decide) rfl ch),
      State.get_putSat_apart _ _ _ _ (Fld.apart_at Reg.CAN_STAT_REC Reg.CAN_STAT_TEC (by decide) rfl ch),
      State.get_putSat_self _ _ _ (by simp only [Fld.at]; decide)]
  · rw [State.countersShown, State.get_put_apart _ _ _ _ (Fld.apart_at Reg.CAN_STAT_ESTATE Reg.CAN_STAT_REC (by decide) rfl ch),
      State.get_putSat_self _ _ _ (by simp only [Fld.at]; decide)]
  · rw [State.countersShown, State.get_put_self _ _ _ (by simp only [Fld.at]; decide)]
    exact Nat.mod_eq_of_lt (errorState_lt a b)

theorem State.busOffEntered_facts (s : State) (ch : Nat) : (s.busOffEntered ch).flag (Reg.CAN_STAT_RECOV.at ch) = true ∧
    (∀ f : Fld, f.stride = 4096 → Reg.CAN_STAT_RECOV.apart f = true → Reg.CAN_BOCNT_COUNT.apart f = true →
      (s.busOffEntered ch).get (f.at ch) = s.get (f.at ch)) ∧
    (s.busOffEntered ch).can = s.can.set ch { s.canOf ch with offAt := s.now } ∧ (s.busOffEntered ch).power = s.power := by
  refine ⟨?_, fun f hs hr hc => ?_, rfl, rfl⟩
  · rw [State.busOffEntered, State.flag,
      State.get_incSat_apart _ _ _ (Fld.apart_at Reg.CAN_BOCNT_COUNT Reg.CAN_STAT_RECOV (by decide) rfl ch), ← State.flag]
    exact State.flag_putB_self _ _ _ (by simp only [Fld.at]; decide) (by simp only [Fld.at]; decide)
  · rw [State.busOffEntered, State.get_incSat_apart _ _ _ (Fld.apart_at Reg.CAN_BOCNT_COUNT f hc hs.symm ch),
      State.get_putB_apart _ _ _ _ (Fld.apart_at Reg.CAN_STAT_RECOV f hr hs.symm ch), State.get_congr (State.setCan_regs _ _ _)]

theorem State.countersTaken_facts (s : State) (ch a b : Nat) :
    (s.countersTaken ch a b).get (Reg.CAN_STAT_TEC.at ch) = min a (2 ^ (Reg.CAN_STAT_TEC.at ch).wid - 1) ∧
    (s.countersTaken ch a b).get (Reg.CAN_STAT_REC.at ch) = min b (2 ^ (Reg.CAN_STAT_REC.at ch).wid - 1) ∧
    (s.countersTaken ch a b).get (Reg.CAN_STAT_ESTATE.at ch) = errorState a b ∧
    (255 < a → (s.countersTaken ch a b).flag (Reg.CAN_STAT_RECOV.at ch) = true) ∧
    (s.countersTaken ch a b).can = (if 255 < a then s.can.set ch { s.canOf ch with offAt := s.now } else s.can) ∧
    (s.countersTaken ch a b).power = s.power := by
  obtain ⟨htec, hrec, hstate, hcan, hnow, hpow⟩ := s.countersShown_facts ch a b
  by_cases h : 255 < a
  · obtain ⟨hrecov, hkept, hcan', hpow'⟩ := (s.countersShown ch a b).busOffEntered_facts ch
    rw [State.countersTaken, if_pos ((errorState_eq_two_iff a b).mpr h), if_pos h]
    refine ⟨(hkept _ rfl (by decide) (by decide)).trans htec, (hkept _ rfl (by decide) (by decide)).trans hrec,
      (hkept _ rfl (by decide) (by decide)).trans hstate, fun _ => hrecov, ?_, hpow'.trans hpow⟩
    rw [hcan', State.canOf, hcan, hnow, ← State.canOf]
  · rw [State.countersTaken, if_neg (mt (errorState_eq_two_iff a b).mp h), if_neg h]
    exact ⟨htec, hrec, hstate, fun h' => absurd h' h, hcan, hpow⟩

theorem State.raised_raiseIf (s : State) {c : Bool} (e : Event) (hc : c = true) (ha : s.alive = true) (hb : e.bit < 32) :
    (s.raiseIf c e).raised e = true := by
  rw [State.raiseIf, if_pos hc]
  exact s.raised_raise e ha hb

/-- No event writes the STAT word of a channel. -/
theorem quiet_canStat (ch : Fin 4) (f : Fld) (ha : f.addr = Reg.CAN_STAT) (hs : f.stride = 4096) :
    quiet (f.at ch.val).addr = true := by
  rw [Fld.at, ha, hs]
  exact quiet_can ch 0x00C (by decide) (by decide) (by decide)

theorem State.canCounters_facts (ch : Fin 4) (a b : Nat) (h : s.canCounts ch.val = true) :
    let t := s.canCounters ch.val a b
    t.get (Reg.CAN_STAT_TEC.at ch.val) = min a (2 ^ (Reg.CAN_STAT_TEC.at ch.val).wid - 1) ∧
    t.get (Reg.CAN_STAT_REC.at ch.val) = min b (2 ^ (Reg.CAN_STAT_REC.at ch.val).wid - 1) ∧
    t.get (Reg.CAN_STAT_ESTATE.at ch.val) = errorState a b ∧
    (255 < a → t.flag (Reg.CAN_STAT_RECOV.at ch.val) = true) ∧
    (t.get (Reg.CAN_STAT_ESTATE.at ch.val) ≠ s.get (Reg.CAN_STAT_ESTATE.at ch.val) →
      t.raised (Ev.CAN_STATE ch.val) = true) ∧
    t.can = (if 255 < a then s.can.set ch.val { s.canOf ch.val with offAt := s.now } else s.can) := by
  obtain ⟨htec, hrec, hstate, hrecov, hcan, hpow⟩ := s.countersTaken_facts ch.val a b
  have ha : s.alive = true := by
    simp only [State.canCounts, Bool.and_eq_true] at h
    obtain ⟨⟨ha, -⟩, -⟩ := h
    exact ha
  rw [State.canCounters_eq a b h]
  generalize s.countersTaken ch.val a b = u at htec hrec hstate hrecov hcan hpow
  dsimp only
  have hst : (u.raiseIf (errorState a b != s.get (Reg.CAN_STAT_ESTATE.at ch.val)) (Ev.CAN_STATE ch.val)).get
      (Reg.CAN_STAT_ESTATE.at ch.val) = errorState a b := (u.get_raiseIf _ _ _ (quiet_canStat ch Reg.CAN_STAT_ESTATE rfl rfl)).trans hstate
  refine ⟨(u.get_raiseIf _ _ _ (quiet_canStat ch Reg.CAN_STAT_TEC rfl rfl)).trans htec,
    (u.get_raiseIf _ _ _ (quiet_canStat ch Reg.CAN_STAT_REC rfl rfl)).trans hrec, hst,
    fun hoff => ?_, fun hne => ?_, (State.raiseIf_can _ _ _).trans hcan⟩
  · rw [State.flag, u.get_raiseIf _ _ _ (quiet_canStat ch Reg.CAN_STAT_RECOV rfl rfl)]
    exact hrecov hoff
  · rw [hst] at hne
    exact u.raised_raiseIf _ (bne_iff_ne.mpr hne) ((State.alive_of_power hpow).trans ha) (by simp only [Ev.CAN_STATE]; decide)

theorem State.canCounters_can (ch : Fin 4) (a b : Nat) (h : a ≤ 255) : (s.canCounters ch.val a b).can = s.can := by
  rcases hc : s.canCounts ch.val with _ | _
  · rw [State.canCounters_idle a b hc]
  · obtain ⟨-, -, -, -, -, hcan⟩ := State.canCounters_facts ch a b hc
    rw [hcan, if_neg (by omega)]

theorem exec_canReceiveError (ch : Fin 4) (a b : Nat) (h : s.canOnBus ch.val = true) :
    exec (.canReceiveError ch a b) s = .next (s.canCounters ch.val a b) := congrArg Host.Outcome.next (if_pos h)

theorem exec_canReceiveError_off (ch : Fin 4) (a b : Nat) (h : s.canOnBus ch.val = false) :
    exec (.canReceiveError ch a b) s = .next s := congrArg Host.Outcome.next (if_neg (by rw [h]; decide))

/-! ### Recovery from bus-off, and joining -/

/-- The channel is active again with zero counters. -/
def State.busRecovered (s : State) (ch : Nat) : State :=
  (((s.put (Reg.CAN_STAT_ESTATE.at ch) 0).putB (Reg.CAN_STAT_RECOV.at ch) false).put (Reg.CAN_STAT_TEC.at ch) 0).put
    (Reg.CAN_STAT_REC.at ch) 0

theorem State.busRecovered_facts (s : State) (ch : Nat) : (s.busRecovered ch).get (Reg.CAN_STAT_ESTATE.at ch) = 0 ∧
    (s.busRecovered ch).get (Reg.CAN_STAT_TEC.at ch) = 0 ∧ (s.busRecovered ch).get (Reg.CAN_STAT_REC.at ch) = 0 ∧
    (s.busRecovered ch).flag (Reg.CAN_STAT_RECOV.at ch) = false ∧ (s.busRecovered ch).can = s.can ∧
    (s.busRecovered ch).now = s.now ∧ (s.busRecovered ch).power = s.power := by
  refine ⟨?_, ?_, ?_, ?_, rfl, rfl, rfl⟩
  · rw [State.busRecovered, State.get_put_apart _ _ _ _ (Fld.apart_at Reg.CAN_STAT_REC Reg.CAN_STAT_ESTATE (by decide) rfl ch),
      State.get_put_apart _ _ _ _ (Fld.apart_at Reg.CAN_STAT_TEC Reg.CAN_STAT_ESTATE (by decide) rfl ch),
      State.get_putB_apart _ _ _ _ (Fld.apart_at Reg.CAN_STAT_RECOV Reg.CAN_STAT_ESTATE (by decide) rfl ch),
      State.get_put_self _ _ _ (by simp only [Fld.at]; decide), Nat.zero_mod]
  · rw [State.busRecovered, State.get_put_apart _ _ _ _ (Fld.apart_at Reg.CAN_STAT_REC Reg.CAN_STAT_TEC (by decide) rfl ch),
      State.get_put_self _ _ _ (by simp only [Fld.at]; decide), Nat.zero_mod]
  · rw [State.busRecovered, State.get_put_self _ _ _ (by simp only [Fld.at]; decide), Nat.zero_mod]
  · rw [State.busRecovered, State.flag_put_apart _ _ _ _ (Fld.apart_at Reg.CAN_STAT_REC Reg.CAN_STAT_RECOV (by decide) rfl ch),
      State.flag_put_apart _ _ _ _ (Fld.apart_at Reg.CAN_STAT_TEC Reg.CAN_STAT_RECOV (by decide) rfl ch),
      State.flag_putB_self _ _ _ (by simp only [Fld.at]; decide) (by simp only [Fld.at]; decide)]

theorem exec_busOffRecovered (ch : Fin 4) (ha : s.alive = true) (he : s.get (Reg.CAN_STAT_ESTATE.at ch.val) = 2) :
    exec (.busOffRecovered ch) s = .next (((s.advanceTo ((s.canOf ch.val).offAt + s.canBits ch.val 1408)).busRecovered
      ch.val).raise (Ev.CAN_STATE ch.val)) := if_pos (by rw [ha, he]; rfl)

theorem exec_busOffRecovered_idle (ch : Fin 4) (h : s.alive = false ∨ s.get (Reg.CAN_STAT_ESTATE.at ch.val) ≠ 2) :
    exec (.busOffRecovered ch) s = .next s := if_neg (by rcases h with h | h <;> simp [h])

theorem exec_canBusIntegrated (ch : Fin 4) (ha : s.alive = true) (hr : s.canRuns ch.val = true)
    (hi : s.flag (Reg.CAN_CTRL_INIT.at ch.val) = false) (hs : s.flag (Reg.CAN_STAT_SLEEP.at ch.val) = false) :
    exec (.canBusIntegrated ch) s = .next ((s.advanceTo ((s.canOf ch.val).waitAt + s.canBits ch.val 11)).setCan ch.val
      { s.canOf ch.val with joined := true }) := if_pos (by rw [ha, hr, hi, hs]; rfl)

theorem exec_canBusIntegrated_idle (ch : Fin 4) (h : s.alive = false ∨ s.canRuns ch.val = false ∨
    s.flag (Reg.CAN_CTRL_INIT.at ch.val) = true ∨ s.flag (Reg.CAN_STAT_SLEEP.at ch.val) = true) :
    exec (.canBusIntegrated ch) s = .next s := if_neg (by rcases h with h | h | h | h <;> simp [h])

/-! ### The wakes (R350) -/

theorem exec_canEdgeWake (ch : Fin 4) (us : Nat) (ha : s.alive = true) (hl : s.isLead = true)
    (hs : s.flag (Reg.CAN_STAT_SLEEP.at ch.val) = true) (he : s.flag (Reg.CAN_WAKE_WEEN.at ch.val) = true)
    (hw : max 1 (s.get (Reg.CAN_WAKE_WFLT.at ch.val)) ≤ us) :
    exec (.canEdgeWake ch us) s = .next (s.canService ch.val 1).canWake :=
  if_pos (by rw [ha, hl, hs, he, decide_eq_true hw]; rfl)

theorem exec_canEdgeWake_idle (ch : Fin 4) (us : Nat) (h : s.isLead = false ∨ s.flag (Reg.CAN_WAKE_WEEN.at ch.val) = false ∨
    s.flag (Reg.CAN_STAT_SLEEP.at ch.val) = false ∨ us < max 1 (s.get (Reg.CAN_WAKE_WFLT.at ch.val))) :
    exec (.canEdgeWake ch us) s = .next s := by
  refine if_neg ?_
  simp only [Bool.and_eq_true, decide_eq_true_eq]
  rintro ⟨⟨⟨⟨-, hl⟩, hs⟩, he⟩, hw⟩
  rcases h with h | h | h | h
  · exact absurd (hl.symm.trans h) (by decide)
  · exact absurd (he.symm.trans h) (by decide)
  · exact absurd (hs.symm.trans h) (by decide)
  · omega

theorem exec_canWakeFrame (id : Nat) (x : Bool) (ha : s.alive = true) (hl : s.isLead = true)
    (hs : s.flag Reg.CAN_STAT_SLEEP = true) (he : s.flag Reg.CAN_WAKE_WFEN = true) (hx : x = s.flag Reg.CAN_WKID_XTD)
    (hm : placeId x id &&& s.get Reg.CAN_WKMSK_MASK = s.get Reg.CAN_WKID_ID &&& s.get Reg.CAN_WKMSK_MASK) :
    exec (.canWakeFrame x id false true) s = .next (s.canService 0 2).canWake :=
  if_pos (by simp only [ha, hl, hs, he, ← hx, hm, beq_self_eq_true, Bool.not_false, Bool.and_true])

theorem exec_canWakeFrame_idle (id : Nat) (x fd ok : Bool)
    (h : s.isLead = false ∨ s.flag Reg.CAN_WAKE_WFEN = false ∨ fd = true ∨ ok = false) :
    exec (.canWakeFrame x id fd ok) s = .next s := if_neg (by rcases h with h | h | h | h <;> simp [h])

/-- Watch and Sleep are not in force together. -/
theorem State.sleeping_of_watching (h : s.watching = true) : s.sleeping = false := by
  rw [State.watching, beq_iff_eq] at h
  rw [State.sleeping, h]
  rfl

theorem State.canWake_watching (h : s.watching = true) : s.canWake = s.put Reg.SYS_PROFREQ_REQ 0 := by
  rw [State.canWake, if_neg (by rw [State.sleeping_of_watching h]; decide), if_pos h]

theorem State.canWake_running (hs : s.sleeping = false) (hw : s.watching = false) : s.canWake = s := by
  rw [State.canWake, if_neg (by rw [hs]; decide), if_neg (by rw [hw]; decide)]

end Sys2Proof.Machine

open Sys2Proof Sys2Proof.Machine

/-- Settles O48: the counters by `canCounters_facts`, recovery and joining by their equations, the wakes by the two tests.
The limits 127 and 255 and the counters that a recovery clears are log entry 78 (PRESUMED). -/
theorem canBusStateCommands : Obligations.CanBusStateCommands := by
  refine ⟨?noCount, ?count, ?receive, ?recovered, ?notOff, ?joins, ?noJoin, ?edge, ?noEdge, ?frame, ?noFrame, ?wake⟩
  case noCount =>
    intro ch a b s h
    refine congrArg Host.Outcome.next (State.canCounters_idle a b ?_)
    rcases h with h | h | h <;> simp [State.canCounts, h]
  case count =>
    intro ch a b s ha hr he
    have hc : s.canCounts ch.val = true := by simp [State.canCounts, ha, hr, he]
    exact ⟨_, rfl, State.canCounters_facts ch a b hc⟩
  case receive =>
    intro ch a b s
    exact ⟨exec_canReceiveError_off ch a b, fun h => ⟨exec_canReceiveError ch a b h,
      fun ha => ⟨_, exec_canReceiveError ch a b h, State.canCounters_can ch a b ha⟩⟩⟩
  case recovered =>
    intro ch s ha he
    rw [exec_busOffRecovered ch ha he]
    obtain ⟨hstate, htec, hrec, hrecov, hcan, hnow, hpow⟩ :=
      (s.advanceTo ((s.canOf ch.val).offAt + s.canBits ch.val 1408)).busRecovered_facts ch.val
    generalize (s.advanceTo _).busRecovered ch.val = u at hstate htec hrec hrecov hcan hnow hpow
    refine .next ⟨(State.raise_now _ _).trans hnow,
      (u.get_raise _ _ (quiet_canStat ch Reg.CAN_STAT_ESTATE rfl rfl)).trans hstate,
      (u.get_raise _ _ (quiet_canStat ch Reg.CAN_STAT_TEC rfl rfl)).trans htec,
      (u.get_raise _ _ (quiet_canStat ch Reg.CAN_STAT_REC rfl rfl)).trans hrec,
      (u.flag_raise _ _ (quiet_canStat ch Reg.CAN_STAT_RECOV rfl rfl)).trans hrecov,
      u.raised_raise _ ((State.alive_of_power hpow).trans ha) (by simp only [Ev.CAN_STATE]; decide),
      (State.raise_can _ _).trans hcan⟩
  case notOff =>
    intro ch s h
    exact exec_busOffRecovered_idle ch h
  case joins =>
    intro ch s ha hr hi hs
    exact exec_canBusIntegrated ch ha hr hi hs
  case noJoin =>
    intro ch s h
    exact exec_canBusIntegrated_idle ch h
  case edge =>
    intro ch us s ha hl hs he h1 hw
    exact exec_canEdgeWake ch us ha hl hs he (max_le h1 hw)
  case noEdge =>
    intro ch us s h
    exact exec_canEdgeWake_idle ch us h
  case frame =>
    intro id x s ha hl hs he hx hm
    exact exec_canWakeFrame id x ha hl hs he hx hm
  case noFrame =>
    intro id x fd ok s h
    exact exec_canWakeFrame_idle id x fd ok h
  case wake =>
    intro s
    refine ⟨fun h => if_pos h, fun h => ?_, State.canWake_running⟩
    rw [State.canWake_watching h, State.get_put_self _ _ _ (by decide), Nat.zero_mod]

end
